-- ==== Sys2Proof/Word.lean ====
section
/-! DEFINITION. Word types of the block and the three-slice container (R5, R6, R272). -/
namespace Sys2Proof

/-- One byte of a payload, a frame or a memory. -/
abbrev Byte := BitVec 8
/-- A byte string, byte 0 first (R5, R273). -/
abbrev Bytes := List Byte
/-- A 16-bit register or field. -/
abbrev Word16 := BitVec 16
/-- A 32-bit register (R6). -/
abbrev Word32 := BitVec 32
/-- A 64-bit field. -/
abbrev Word64 := BitVec 64

/-- One value for each of the three radio slices (R272: slice 0 to 2). -/
structure Tri (α : Type) where
  /-- Slice 0. -/
  a : α
  /-- Slice 1. -/
  b : α
  /-- Slice 2. -/
  c : α
  deriving DecidableEq, Repr

/-- The value of slice `i`; a number above 2 never passes the range checks and reads slice 2. -/
def Tri.get {α : Type} (t : Tri α) : Nat → α
  | 0 => t.a
  | 1 => t.b
  | _ => t.c

/-- The container with slice `i` replaced; a number above 2 changes nothing. -/
def Tri.set {α : Type} (t : Tri α) (i : Nat) (x : α) : Tri α :=
  match i with
  | 0 => { t with a := x }
  | 1 => { t with b := x }
  | 2 => { t with c := x }
  | _ => t

/-- All three slices at one value. -/
def Tri.all {α : Type} (x : α) : Tri α := ⟨x, x, x⟩

/-- The three values in slice order. -/
def Tri.toList {α : Type} (t : Tri α) : List α := [t.a, t.b, t.c]

/-- A function applied to every slice. -/
def Tri.map {α β : Type} (f : α → β) (t : Tri α) : Tri β := ⟨f t.a, f t.b, f t.c⟩

/-- A sparse table: entries by number, keys strictly rising (the canonical form of `Tab.wf`). -/
abbrev Tab (α : Type) := List (Nat × α)

end Sys2Proof
end

