-- ==== Sys2Proof/Syntax.lean ====
section
/-! DEFINITION. The commands the block takes: one constructor per row of the operation and event table, with its operands.

A UMP command carries its message and what the world outside the model answers while it is served (external data, DMA
outcomes, signature and authentication verdicts, random bytes). An event row carries what is measured or received when it
arrives (assumption log 3). -/
namespace Sys2Proof

/-- The transport of a UMP message and its sender (R251, R263, R417). -/
inductive Via where
  /-- PCIe command slot 0 to 15. -/
  | pcie (slot : Nat)
  /-- An Ethernet frame on MGT from a source MAC address. -/
  | mgt (mac : Nat)
  /-- The UART in stage 0x06 or limp mode. -/
  | uart
  deriving DecidableEq, Repr

/-- What came of a hardware operation that is retried once (R435). -/
inductive Retry where
  /-- It succeeded at its first attempt. -/
  | ok
  /-- It failed and its retry succeeded: transient. -/
  | retried
  /-- Its retry failed as well: lasting. -/
  | lasting
  deriving DecidableEq, Repr

/-- A UMP message as the device holds it: the header fields it reads, and the payload. -/
structure Msg where
  /-- Transport and sender. [—; 10 R251; none] -/
  via : Via
  /-- Type byte. [8; 10 R247; none] -/
  type : Nat
  /-- Flags byte. [8; 10 R247; none] -/
  flags : Nat
  /-- Command code. [16; 10 R247; none] -/
  code : Nat
  /-- Sequence tag. [16; 10 R247; none] -/
  tag : Nat
  /-- Payload length field. [16; 10 R247; none] -/
  length : Nat
  /-- CRC field. [32; 10 R247; none] -/
  crc : Nat
  /-- The bytes after the header, as many as the length field names. [<=240 bytes; 10 R247; none] -/
  payload : Bytes
  deriving DecidableEq, Repr

/-- What a reset release meets: the straps, the oscillator, the known-answer tests, the DRAM and the link. -/
structure Boot where
  /-- BOOT_SEL[1:0] at the release (R417). -/
  bootSel : Nat := 0
  /-- DEV_IDX[5:0] at the release (R417). -/
  devIdx : Nat := 0
  /-- TEST0 is high at the release (R467). -/
  test0 : Bool := false
  /-- The 40 MHz oscillator (R409). -/
  oscillator : Retry := .ok
  /-- The known-answer or start-up test that fails: 0 AES, 1 SHA-384, 2 ECDSA, 3 ML-DSA, 4 TRNG (R299, R427). -/
  selfTest : Option Nat := none
  /-- Channel mask and density in Gbit, where the DRAM does not meet R318. -/
  badDram : Option (Nat × Nat) := none
  /-- Installed DRAM in MiB, as the mode registers give it (R318). -/
  installed : Nat := 4096
  /-- Channels whose cold training needed a retry or failed (R320). -/
  training : List (Nat × Retry) := []
  /-- Temperature at training, 0.25 degC (R321). -/
  temperature : Int := 0
  /-- Address mapping mode the image's platform settings name (R323). -/
  map : Nat := 0
  /-- The PCIe link is up by the time the image checks end (R298). -/
  link : Bool := false
  deriving DecidableEq, Repr

/-- What the world outside the model answers while a command is served. -/
structure Env where
  /-- The external data at the descriptor's address, as the DMA read returns it (R249). -/
  ext : Bytes := []
  /-- The DMA read of external or input data. -/
  dma : Retry := .ok
  /-- The DMA write of results. -/
  wr : Retry := .ok
  /-- The command's own hardware operation: a Felt store, OTP, NOR or vault write, a tuner run, a random draw. -/
  hw : Retry := .ok
  /-- The signature verdict of the content (R296). -/
  sig : Bool := true
  /-- The authenticated-decryption or token verdict (R292, R303, R313). -/
  auth : Bool := true
  /-- Bytes the Hatbox returns: the plaintext of a blob, the output of a job, a sealed blob. -/
  plain : Bytes := []
  /-- Random bytes drawn. -/
  rand : Bytes := []
  /-- What the reset that follows meets (R280). -/
  boot : Boot := {}
  /-- Of a port since its last snapshot: FEC codewords corrected and uncorrected, and PCS block errors (R184). -/
  line : Nat × Nat × Nat := (0, 0, 0)
  deriving DecidableEq, Repr

/-- A UMP command: its message without the code, which the row fixes, and the answers of the world outside. -/
structure Ump where
  /-- Transport and sender. -/
  via : Via
  /-- Type byte. -/
  type : Nat := 1
  /-- Flags byte. -/
  flags : Nat := 0
  /-- Sequence tag. -/
  tag : Nat := 0
  /-- Payload length field. -/
  length : Nat := 0
  /-- CRC field. -/
  crc : Nat := 0
  /-- Payload bytes. -/
  payload : Bytes := []
  /-- Answers of the world outside. -/
  env : Env := {}
  deriving DecidableEq, Repr

/-- The message of a UMP command under the code of its row. -/
def Ump.msg (u : Ump) (code : Nat) : Msg :=
  ⟨u.via, u.type, u.flags, code, u.tag, u.length, u.crc, u.payload⟩

/-- A frame as the low-rate radio receives it with a good FCS (R383, R387, R391). -/
structure DrzRx where
  /-- 0 a data frame, 1 a wake-up frame. -/
  kind : Nat := 0
  /-- Extended source address, where the frame carries one. -/
  ext : Option Nat := none
  /-- Short source address; 0xFFFE for an extended source. -/
  short : Nat := 0xFFFE
  /-- PAN it is sent on. -/
  pan : Nat := 0
  /-- Extended destination address, where the frame carries one. -/
  destExt : Option Nat := none
  /-- Short destination address, 0xFFFF broadcast, where it carries no extended one. -/
  dest : Nat := 0
  /-- Ack request. -/
  ack : Bool := false
  /-- Security level. -/
  level : Nat := 0
  /-- Key index of key identifier mode 1; none in mode 0. -/
  keyIndex : Option Nat := none
  /-- Frame counter. -/
  counter : Nat := 0
  /-- The MIC verifies under the key. -/
  mic : Bool := true
  /-- The CSL IE: period in ms, and nanoseconds to the sample it announces. -/
  csl : Option (Nat × Nat) := none
  /-- MAC payload, decrypted. -/
  payload : Bytes := []
  /-- RSSI, dBm. -/
  rssi : Int := 0
  /-- LQI. -/
  lqi : Nat := 0
  /-- Raw TIME_NS at the SFD interrupt. -/
  stamp : Nat := 0
  /-- PA-on time of the Enhanced Ack, microseconds. -/
  ackUs : Nat := 0
  deriving DecidableEq, Repr

/-- An RU or MRU of a PPDU (R64). -/
structure Ru where
  /-- Tones. -/
  tones : Nat := 242
  /-- The 20 MHz subchannels of the slice's channel it lies on, bit n = subchannel n. -/
  subs : Nat := 1
  /-- Which of the RUs on those subchannels it is. -/
  index : Nat := 0
  deriving DecidableEq, Repr

/-- What a plan reckons with for one station in a TXOP (R149). -/
structure PlanLoad where
  /-- Station. -/
  station : Nat
  /-- Bytes. -/
  bytes : Nat := 0
  /-- Rate of its RU, bits per microsecond. -/
  rate : Nat := 1
  /-- Tones of its RU. -/
  tones : Nat := 242
  deriving DecidableEq, Repr

/-- A TXOP as the Milliner plans it (R145). -/
structure PlanTxop where
  /-- Slice. [2; 06 R145; none] -/
  slice : Nat
  /-- Access category, 0 BK, 1 BE, 2 VI, 3 VO. [2; 06 R145; none] -/
  ac : Nat
  /-- Users, highest rank first. [—; 06 R145; none] -/
  users : List Nat
  /-- Sounding sequence. [1; 06 R147; none] -/
  sounding : Bool := false
  /-- Trigger exchange. [1; 06 R148; none] -/
  uplink : Bool := false
  /-- It serves a TWT service period that begins in the brim. [1; 06 R142; none] -/
  twt : Bool := false
  /-- Of a trigger exchange: it polls for buffer status reports. [1; 06 R148; none] -/
  bsrp : Bool := false
  /-- Planned start, microseconds from the window's start. [16; 06 R139; none] -/
  start : Nat := 0
  /-- Planned airtime, microseconds. [16; 06 R148; none] -/
  us : Nat := 0
  /-- Preamble, packet extension, SIFS and response of its PPDUs, microseconds. [16; 06 R149; none] -/
  overhead : Nat := 0
  /-- Tones of its PPDUs. [12; 06 R149; none] -/
  tones : Nat := 242
  /-- The loads planned. [—; 06 R149; none] -/
  loads : List PlanLoad := []
  deriving DecidableEq, Repr

/-- A 20 MHz subchannel over the PIFS before a transmission, in dBm: its strongest energy, and the strongest PPDU detected on it
(R108). -/
structure Cca where
  /-- Energy. -/
  energy : Int := -128
  /-- PPDU. -/
  ppdu : Int := -128
  deriving DecidableEq, Repr

/-- What the receiver measures of a PPDU and reads in its SIG fields (R86 to R95, R102). -/
structure Detection where
  /-- Power on the primary 20 MHz over 1.6 us of L-STF, or of the Barker correlation, in 0.1 dBm. -/
  power : Int := -600
  /-- Power over the 0.8 us before the gain is frozen or preset, dBm. -/
  reference : Int := -60
  /-- Energy on each 20 MHz subchannel, lowest first, dBm. -/
  energy : List Int := []
  /-- The AGC bypasses the LNA for it. -/
  bypass : Bool := false
  /-- Nanoseconds from its L-STF start, as the fine timing gives it, to this row. -/
  since : Nat := 2400
  /-- True carrier frequency offset, 100 Hz. -/
  cfo : Int := 0
  /-- RSSI per chain over L-LTF, dBm. -/
  rssi : List Int := []
  /-- A capture restart comes before its L-SIG checks are complete. -/
  early : Bool := false
  /-- L-SIG parity is even. -/
  parity : Bool := true
  /-- Rate of L-SIG, or of the PLCP header's SIGNAL field, in 0.5 Mbit/s; 0 where the field is none of the codes. -/
  rate : Nat := 12
  /-- L-SIG length. -/
  length : Nat := 61
  /-- RL-SIG follows. -/
  rlSig : Bool := true
  /-- The CRC of HT-SIG, VHT-SIG-A, HE-SIG-A, U-SIG or the PLCP header is good. -/
  sigCrc : Bool := true
  /-- The CRCs of EHT-SIG are good. -/
  ehtCrc : Bool := true
  /-- Format its SIG names: a code of R102, 9 HE MU, 10 EHT MU to more than one user. -/
  format : Nat := 4
  /-- Width code. -/
  width : Nat := 0
  /-- Spatial streams of the user. -/
  streams : Nat := 1
  /-- MCS. -/
  mcs : Nat := 0
  /-- Guard interval: 0 0.4, 1 0.8, 2 1.6, 3 3.2 us. -/
  gi : Nat := 1
  /-- DCM. -/
  dcm : Bool := false
  /-- Doppler bit. -/
  doppler : Bool := false
  /-- LDPC coded. -/
  ldpc : Bool := false
  /-- L-SIG duration, us. -/
  duration : Nat := 0
  /-- Digital gain trim that HE-STF or EHT-STF asks for, dB. -/
  trim : Int := 0
  deriving DecidableEq, Repr

/-- The fields of an RX vector that the modem measures for one user over the data field (R102). -/
structure PhyRx where
  /-- Rate. -/
  rate : Nat := 0
  /-- Streams. -/
  streams : Nat := 1
  /-- SNR per stream, 0.25 dB. -/
  snr : List Nat := []
  /-- EVM, -0.25 dB. -/
  evm : Nat := 0
  /-- RU of a TB user. -/
  ru : Nat := 0xFFFF
  deriving DecidableEq, Repr

/-- An MPDU as the modem hands it to the air MAC. -/
structure RxMpdu where
  /-- Transmitter address. -/
  addr : Nat := 0
  /-- Handle that the station address table gives the transmitter, once it has been looked up; 0xFFFF none. -/
  station : Nat := 0xFFFF
  /-- Its receiver address is the device's. -/
  ours : Bool := true
  /-- Its FCS is good. -/
  fcs : Bool := true
  /-- 0 QoS data, 1 non-QoS data, 2 protected management frame, 3 Cumulus map, 4 RTS, 5 a BlockAckReq kept for its context. -/
  kind : Nat := 0
  /-- TID. -/
  tid : Nat := 0
  /-- Sequence number. -/
  seq : Nat := 0
  /-- Fragment number. -/
  frag : Nat := 0
  /-- More Fragments. -/
  more : Bool := false
  /-- Retry bit. -/
  retry : Bool := false
  /-- It came in an A-MPDU. -/
  agg : Bool := false
  /-- It solicits no immediate response. -/
  noAck : Bool := false
  /-- Power Management bit. -/
  doze : Bool := false
  /-- Buffer status report, bytes. -/
  buffer : Option Nat := none
  /-- Key ID; none where it is not protected. -/
  key : Option Nat := none
  /-- PN. -/
  pn : Nat := 0
  /-- Length. -/
  length : Nat := 0
  /-- Its MSDUs in Ethernet form, decrypted; of a last fragment the MSDU as reassembled. -/
  msdus : List Bytes := []
  /-- Detection pass in which it decoded (R76). -/
  pass : Nat := 1
  /-- Its PPDU is not the last one the slice has received, so that its response freeze has passed (R73, R80). -/
  late : Bool := false
  /-- It is the only user of its RU (R84). -/
  alone : Bool := true
  /-- Cumulus map entry of a single-user MPDU: tag, codewords, MCS, coding, length and rate as one signature,
  retransmission (R82). -/
  cumulus : Option (Nat × Nat × Nat × Bool) := none
  /-- Its soft values as received, before any are added (R83). -/
  llr : List Int := []
  /-- Duration it sets a NAV to, us, and whether it is the intra-BSS NAV, where it is not for the device (R108). -/
  nav : Option (Nat × Bool) := none
  /-- Measured fields of its RX vector. -/
  phy : PhyRx := {}
  deriving DecidableEq, Repr

/-- One user of a PPDU as it is fixed: station, TID, most MPDUs, its share of the airtime in us, and what the modem needs of it
(R61 to R66, R121, R145, R149). -/
structure FixUser where
  /-- Station. -/
  station : Nat
  /-- TID. -/
  tid : Nat := 0
  /-- Most MPDUs. -/
  count : Nat := 1
  /-- Share of the airtime, us. -/
  us : Nat := 0
  /-- RU. -/
  ru : Ru := {}
  /-- MCS. -/
  mcs : Nat := 0
  /-- Spatial streams. -/
  streams : Nat := 1
  /-- DCM. -/
  dcm : Bool := false
  /-- Greatest channel correlation with another member of its MU-MIMO group that Nimbus reports, hundredths. -/
  correlation : Nat := 0
  /-- Information bits of one LDPC codeword. -/
  cwBits : Nat := 1620
  deriving DecidableEq, Repr

/-- The PPDU the Milliner fixes in a TXOP (R61, R109, R121). -/
structure FixPlan where
  /-- Kind: 0 data, 11 trigger, 12 sounding. -/
  kind : Nat := 0
  /-- Users. -/
  users : List FixUser := []
  /-- Duration, us. -/
  duration : Nat := 0
  /-- Duration of the RTS or MU-RTS that protects it, us. -/
  protect : Nat := 0
  /-- Length of the TXOP it opens, us. -/
  txop : Nat := 0
  /-- MCS of a PPDU of the slice's own. -/
  mcs : Nat := 0
  /-- Format: 0 DSSS/CCK, 1 non-HT OFDM, 2 HT, 3 VHT, 4 HE SU, 7 EHT SU, 9 HE MU, 10 EHT MU. -/
  format : Nat := 7
  /-- Width code asked for. -/
  width : Nat := 0
  /-- Guard interval: 0 0.4, 1 0.8, 2 1.6, 3 3.2 us. -/
  gi : Nat := 1
  /-- Preamble and extension within its duration, us. -/
  overhead : Nat := 0
  /-- RUs of the TB PPDU that a trigger solicits carry the users as their rus; a BSRP trigger. -/
  bsrp : Bool := false
  /-- SIFS and the response it solicits, us. -/
  answer : Nat := 0
  /-- Its data frames are sent under No Ack (R132). -/
  noAck : Bool := false
  deriving DecidableEq, Repr

/-- A management frame a link core handles (R111, R119, R120). -/
structure MgmtRx where
  /-- BSS. -/
  bss : Nat := 0
  /-- Sender address, or MLD address. -/
  addr : Nat := 0
  /-- 0 open authentication, 1 association or reassociation, 2 disassociation, 3 deauthentication, 4 ADDBA request, 5 DELBA,
  6 link reconfiguration, 7 Power Management bit alone. -/
  kind : Nat := 0
  /-- Kind of station (R135). -/
  client : Nat := 0
  /-- BSSs of the links asked for beside the frame's own, or the links kept by a reconfiguration. -/
  links : List Nat := []
  /-- Flags: bit 3 PMF, 4 Extended Key ID, 5 LDPC. -/
  flags : Nat := 0
  /-- HE or EHT station. -/
  he : Bool := true
  /-- Most spatial streams. -/
  streams : Nat := 1
  /-- U-APSD trigger-enabled categories. -/
  uapsd : Nat := 0
  /-- EMLSR transition delay, us. -/
  transition : Nat := 0
  /-- EMLSR padding delay, us. -/
  padding : Nat := 0
  /-- NSTR link pair declared, bit s = slice s. -/
  nstrPair : Nat := 0
  /-- Most octets of an A-MPDU. -/
  maxAmpdu : Nat := 65535
  /-- Pairwise cipher offered: 0 CCMP-128, 1 GCMP-256. -/
  cipher : Nat := 0
  /-- Address on each slice's link, where it differs from its address. -/
  linkAddrs : List Nat := []
  /-- It answers trigger frames (R148). -/
  uplink : Bool := true
  /-- Beamformee. -/
  beamformee : Bool := false
  /-- Its PMKID is that of a staged context (R449). -/
  staged : Bool := false
  /-- Key management: 0 none, 1 SAE, 2 PSK, 3 IEEE 802.1X, 4 fast transition. -/
  akm : Nat := 0
  /-- Target RSSI per slice, dBm. -/
  target : List Int := []
  /-- Reason code. -/
  reason : Nat := 0
  /-- TID of a BlockAck session. -/
  tid : Nat := 0
  /-- Buffer size asked for. -/
  size : Nat := 64
  /-- Starting sequence number. -/
  start : Nat := 0
  /-- Dozing. -/
  doze : Bool := false
  deriving DecidableEq, Repr

/-- A codeword as it enters the LDPC array, with what fixes its class and its deadline (R72, R78). -/
structure CodewordIn where
  /-- Identity. -/
  id : Nat
  /-- Slice. -/
  slice : Nat := 0
  /-- It belongs to a TB PPDU. -/
  tb : Bool := false
  /-- Its PPDU solicits an immediate response. -/
  solicits : Bool := true
  /-- Device time at which that response begins, ns. -/
  responds : Nat := 0
  /-- Device time at which its PPDU ends, ns. -/
  ends : Nat := 0
  /-- Device time at which the last data symbol of its PPDU ends, ns. -/
  symbols : Nat := 0
  /-- Detection pass of a multi-user RU it belongs to: RU, users, pass. -/
  ru : Option (Nat × Nat × Nat) := none
  /-- Tones of that RU. -/
  tones : Nat := 242
  /-- Soft-buffer entry it combines with: peer, tag (R83). -/
  combine : Option (Nat × Nat) := none
  deriving DecidableEq, Repr

/-- Where a register lies: BAR0 (R246), BAR2 (R258), or a check-value unit on the fabric (R342). -/
inductive RegSpace where
  | bar0
  | bar2
  | cvu (unit : Nat)
  deriving DecidableEq, Repr

/-- The commands, in the order of the table. -/
inductive Instr where
  /-- Command that returns the device identity, versions, lifecycle, boot stage and image slot record (R279). -/
  | sysGetInfo (m : Ump)
  /-- Command that posts its response first and then resets the device as RESET_CTL Kind 1 or 2 does (R280). -/
  | sysReset (m : Ump)
  /-- Command that returns the power state, flags, heartbeat, device time, slice states and fault counters (R281). -/
  | sysGetStatus (m : Ump)
  /-- Command that reads, sets or clears the single Ethernet event sink and its group mask (R282). -/
  | sysSetEventSink (m : Ump)
  /-- Command that stops the named outstanding async command if it is still before its point of no return, or returns ST_NOTHING_TO_ABORT (R278). -/
  | sysAbort (m : Ump)
  /-- Async command that requests a change to RUN, QUIET, STANDBY or SLEEP (R400). -/
  | pwrSetState (m : Ump)
  /-- Command that returns the power state, domains, last wake, AON budget, thermal level and wake counters (R418). -/
  | pwrGetState (m : Ump)
  /-- Command that sets the wake target, the wake sources, the GPIO mask and polarity, and the AON timer for the next arming (R419). -/
  | pwrSetWakeSources (m : Ump)
  /-- Command that sets the DRAM bank and segment retention masks applied at the next entry to STANDBY or SLEEP (R330). -/
  | pwrSetPasr (m : Ump)
  /-- Async command that tunes a slice to a channel, or stops it, and returns ST_PENDING (R35). -/
  | radSetChannel (m : Ump)
  /-- Command that returns the status page or the acquisition page of a slice (R104). -/
  | radGetStatus (m : Ump)
  /-- Async command that runs or queues the requested calibration kinds on a slice (R50). -/
  | radCalibrate (m : Ump)
  /-- Command that sets a slice's chain mask, maximum per-chain power, TX_TMO and TX_DEFER (R37). -/
  | radSetTxLimits (m : Ump)
  /-- Command that sets the AUTO, FORCE_NSTR or NO_HALO policy of a slice pair (R57). -/
  | radSetStr (m : Ump)
  /-- Command that retunes, holds, releases or sets tuner codes, re-enables chains, sets FEM mode, or with Action 6 sets acquisition settings (R46). -/
  | radTunerCtl (m : Ump)
  /-- Command that verifies and stores a signed regulatory-domain package in the Felt store (R39). -/
  | radLoadRegdomain (m : Ump)
  /-- Async command that runs BIST and coupler loopback on a STOPPED slice (R51). -/
  | radSelfTest (m : Ump)
  /-- Command that clears a slice's TX lock flag (R43). -/
  | radClearTxLock (m : Ump)
  /-- Command that writes the locked limit table and its lock word once and irrevocably (R41). -/
  | radLockLlt (m : Ump)
  /-- Async command that arms an I/Q capture on a slice and waits for its trigger (R59). -/
  | radCaptureIq (m : Ump)
  /-- Command that creates a BSS on a slice and returns its handle (R135). -/
  | bssCreate (m : Ump)
  /-- Async command that erases a BSS's group keys, removes its stations and deletes the BSS (R135). -/
  | bssDelete (m : Ump)
  /-- Command that changes the masked parameters of a BSS from its next TBTT (R135). -/
  | bssSetParams (m : Ump)
  /-- Command that returns the record and counters of one station (R135). -/
  | staGet (m : Ump)
  /-- Async command that sends a frame, erases keys, flushes queues and frees a station's handle (R135). -/
  | staDisconnect (m : Ump)
  /-- Command that drops the queued MPDUs of the named TIDs of a station with status FLUSHED (R135). -/
  | staFlushQueue (m : Ump)
  /-- Command that sets the link policy of an AP MLD or a station (R121). -/
  | mloSetLinkPolicy (m : Ump)
  /-- Command that enables, disables or reads Cumulus combining with one peer (R81). -/
  | cumulusSet (m : Ump)
  /-- Command that returns up to 100 station handles in ascending order from a start handle (R135). -/
  | staList (m : Ump)
  /-- Command that sets or reads the service window length and brim (R137). -/
  | schSetWindow (m : Ump)
  /-- Command that sets or reads the Milliner policy fields (R167). -/
  | schSetPolicy (m : Ump)
  /-- Command that sets or reads the Crown reserve and linger time (R152). -/
  | crnSetReserve (m : Ump)
  /-- Command that pins, unpins or lists pinned stations (R163). -/
  | crnPin (m : Ump)
  /-- Command that returns Crown and scheduler statistics (R167). -/
  | crnGetStats (m : Ump)
  /-- Command that adds, modifies, deletes or reads a broadcast or restricted TWT schedule of a BSS (R126). -/
  | twtSet (m : Ump)
  /-- Command that sets or reads the turbo passes, iteration limit, pressure limit and late window, and returns LDPC counters (R76). -/
  | schSetTurbo (m : Ump)
  /-- Command that returns the sealing key, an attestation or an identity certificate chunk (R301). -/
  | secGetIdentity (m : Ump)
  /-- Async command that loads, deletes or reads a sealed credential (R304). -/
  | secLoadSealed (m : Ump)
  /-- Async command that sets, deletes or reads a RADIUS profile (R309). -/
  | secSetRadius (m : Ump)
  /-- Async command that opens a kind 4 blob and writes its key to a Drizzle or MACsec slot or a vault index (R311). -/
  | secKeyImport (m : Ump)
  /-- Command that erases a key slot or vault index, or starts a group rekey (R316). -/
  | secKeyErase (m : Ump)
  /-- Command that runs one AES job on the Hatbox engine under a vault key (R313). -/
  | secCipherJob (m : Ump)
  /-- Command that issues a challenge or presents a lifecycle token (R292). -/
  | secAuthChallenge (m : Ump)
  /-- Command that opens debug scopes with a token, relocks or reads the debug state (R294). -/
  | secDebugUnlock (m : Ump)
  /-- Command that sets or reads an Ethernet port's mode, FEC, flow control and admin state (R170). -/
  | fwdSetPort (m : Ump)
  /-- Command that adds, replaces, deletes or reads a route (R192). -/
  | fwdRouteSet (m : Ump)
  /-- Command that writes, deletes or reads an ACL rule (R199). -/
  | fwdAclSet (m : Ump)
  /-- Command that sets a NAT pool, static forwards, timers, or reads them (R197). -/
  | fwdNatSet (m : Ump)
  /-- Command that looks up, walks or deletes router flow entries (R203). -/
  | fwdFlowQuery (m : Ump)
  /-- Command that snapshots and clears a port's counters, or reads the last snapshot (R184). -/
  | ethGetCounters (m : Ump)
  /-- Command that sets, clears or reads wake patterns and the magic packet of a port (R185). -/
  | ethSetWol (m : Ump)
  /-- Command that configures the SecY and installs, activates, deletes or reads SAs (R182). -/
  | ethSetMacsec (m : Ump)
  /-- Command that sets, deletes, reads a VLAN or flushes its learned addresses (R190). -/
  | fwdVlanSet (m : Ump)
  /-- Command that sets, deletes, attaches, detaches or reads a shaper (R215). -/
  | queSetShaper (m : Ump)
  /-- Command that sets, deletes, attaches, detaches or reads a policer (R216). -/
  | queSetPolicer (m : Ump)
  /-- Command that writes or cancels a pending gate control list, or reads a list (R221). -/
  | queSetGcl (m : Ump)
  /-- Command that sets the sample ring or enables or disables sampling of a queue range (R223). -/
  | queSetSampler (m : Ump)
  /-- Command that consumes sample records in ring order, inline or to a host address (R224). -/
  | queReadSamples (m : Ump)
  /-- Command that sets or reads priority maps, queue limits, sojourn drop and port scheduling (R207). -/
  | queMap (m : Ump)
  /-- Command that returns device time and the state of the time servo (R228). -/
  | timGet (m : Ump)
  /-- Command that adjusts frequency, slews, steps, sets or accepts the source's time (R233). -/
  | timAdjust (m : Ump)
  /-- Command that sets or reads the PTP instance, time source and PPS settings (R238). -/
  | timSetPtp (m : Ump)
  /-- Command that sets or reads the jump limit (R235). -/
  | timSetJumpLimit (m : Ump)
  /-- Command that returns DRAM, ECC, retirement, PASR and MRAM information (R343). -/
  | memGetInfo (m : Ump)
  /-- Async command that writes the configuration shadow to the inactive bank, or invalidates both banks (R339). -/
  | cfgCommit (m : Ump)
  /-- Command that returns the bank headers or copies a bank to the host (R343). -/
  | cfgRead (m : Ump)
  /-- Command that computes a check value on CVU3 over external data (R343). -/
  | cvuRun (m : Ump)
  /-- Command that returns event recorder counts and state (R439). -/
  | evrGetInfo (m : Ump)
  /-- Command that sets or reads the repeat window, rate limit and period (R430). -/
  | evrSetPolicy (m : Ump)
  /-- Async command that, with a purpose-5 token, erases the circulating area (R434). -/
  | evrClear (m : Ump)
  /-- Async command that runs the selected diagnostic checks alongside traffic (R437). -/
  | diagRun (m : Ump)
  /-- Command that delivers event records from a start ordinal, inline or to a host address (R433). -/
  | evrRead (m : Ump)
  /-- Async command that loads, deletes or reads a kernel slot (R372). -/
  | dspLoadKernel (m : Ump)
  /-- Async command that queues a customer kernel as a class 12 work item (R373). -/
  | dspRun (m : Ump)
  /-- Command that sets or reads the host use of rings 32 and 33 (R355). -/
  | tdsSetHostRing (m : Ump)
  /-- Command that returns one page of dispatcher statistics (R356). -/
  | tdsGetStats (m : Ump)
  /-- Command that sets or reads the Drizzle band, rate, channel, addresses, power and duty limit (R377). -/
  | drzSetChannel (m : Ump)
  /-- Command that sets or reads CSL periods, guard, attempts and retries (R382). -/
  | drzSetCsl (m : Ump)
  /-- Command that sets or reads relay, learning, TTL, jitter, suppression and punt queue (R391). -/
  | drzSetMesh (m : Ump)
  /-- Async command that queues a Drizzle unicast, broadcast or flood frame (R381). -/
  | drzSend (m : Ump)
  /-- Command that sets, deletes or reads a Drizzle node table entry (R397). -/
  | drzNodeSet (m : Ump)
  /-- Command that returns fleet ID, floor, epochs, admissions, staging and boot flags (R454). -/
  | fltGetInfo (m : Ump)
  /-- Command that sets or reads the fleet floor (R451). -/
  | fltSetFloor (m : Ump)
  /-- Async command that exports a station context, seals the fleet key to a recipient, or releases a station (R449). -/
  | fltContextExport (m : Ump)
  /-- Async command that stages a context, admits or removes a recipient, or unstages a station (R449). -/
  | fltContextImport (m : Ump)
  /-- Async command that installs, generates or erases the fleet key (R444). -/
  | fltSetKey (m : Ump)
  /-- Command that opens an update on the inactive slot and erases its manifest sector (R453). -/
  | fwuBegin (m : Ump)
  /-- Async command that writes the next chunk of an image to the inactive slot (R453). -/
  | fwuData (m : Ump)
  /-- Async command that checks the written image under the boot checks (R453). -/
  | fwuCommit (m : Ump)
  /-- Async command that starts a trial, confirms it, or rolls back to the other slot (R453). -/
  | fwuActivate (m : Ump)
  /-- Async command that runs a memory BIST on the LDPC array, Nimbus memories, packet SRAM or Crown cache (R438). -/
  | tstBist (m : Ump)
  /-- Async command that runs a near-end or far-end loopback on an ADMIN_DOWN port (R438). -/
  | tstLoopback (m : Ump)
  /-- Host write of a slot number that copies the command slot and queues it in doorbell order (R250). The value written. -/
  | hostDoorbellWrite (value : Word32)
  /-- Host W1C write to DEV_DOORBELL that frees answered slots and clears the event, fault or wake bits (R250). The value written. -/
  | devDoorbellClear (value : Word32)
  /-- Host write of IRQ_MASK that sends vector 0 when a set bit is unmasked (R257). The value written. -/
  | irqMaskWrite (value : Word32)
  /-- Host write of EVT_CONS that consumes event slots and makes room in the event ring (R253). The value written. -/
  | evtConsWrite (value : Word32)
  /-- Keyed write of RESET_CTL with KIND 1 that resets every domain except PD_AON and keeps the link (R246). The value written and what the release meets. -/
  | resetCtlDeviceReset (value : Word32) (boot : Boot)
  /-- Keyed write of RESET_CTL with KIND 2 that resets the device as power-on and drops the link (R416). The value written and what the release meets. -/
  | resetCtlFullReset (value : Word32) (boot : Boot)
  /-- Write of EVR_CURSOR that latches a copy of the named record into the window buffer (R432). The value written. -/
  | evrCursorWrite (value : Word32)
  /-- Read of the word holding a record's last byte with NEXT set, which advances the ordinal and latches the next record (R432). -/
  | evrWindowAutoAdvance
  /-- Host write of a ring's producer index that posts buffers, frames or work items (R259). The ring and the value written. -/
  | ringProdWrite (ring : Nat) (value : Word32)
  /-- Host write of the completion ring's consumer index that frees completion entries (R259). The ring and the value written. -/
  | ringConsWrite (ring : Nat) (value : Word32)
  /-- Host setting of RING_CTL.ENABLE that starts a ring or fails it as invalid (R258). The ring and the RING_CTL value written, its bit 0 set. -/
  | ringEnable (ring : Nat) (value : Word32)
  /-- Host clearing of RING_CTL.ENABLE that lets the entry in progress finish and then sets IDLE (R262). The ring and the RING_CTL value written, its bit 0 clear. -/
  | ringDisable (ring : Nat) (value : Word32)
  /-- Read of the RC field RING_STAT.DROPS that returns and clears the count (R258). The ring. -/
  | ringDropsRead (ring : Nat)
  /-- Write of CVUn_CTL.INIT that loads the standard init into STATE (R342). The unit and the CVUn_CTL value written. -/
  | cvuInit (unit : Nat) (value : Word32)
  /-- Write of CVUn_DATA that feeds 1, 2 or 4 bytes into the running CRC (R342). The unit and the 1, 2 or 4 bytes written, lowest address first. -/
  | cvuDataWrite (unit : Nat) (data : Bytes)
  /-- Write of CVUn_CTL.FINISH that compares RESULT with EXPECT and sets MATCH or MISMATCH (R342). The unit and the CVUn_CTL value written. -/
  | cvuFinish (unit : Nat) (value : Word32)
  /-- Write to a register or field without behaviour of its own, applied as its access code gives (R8). Register space, byte offset, access width in bytes, value, and what a release it causes meets. -/
  | registerWrite (space : RegSpace) (offset width : Nat) (value : Word32) (boot : Boot)
  /-- A fabric access to a block that is gated or unpowered, which reads 0x0FF0_0FF0 and captures ACCESS_FAULT (R412). Power domain of the block reached, fabric byte address, source code of ACCESS_FAULT.SRC, and whether it is a write. -/
  | accessOffBlock (domain addr src : Nat) (write : Bool)
  /-- VIN_AON rising releases a power-on reset, samples straps and boots (R416). What the release meets. -/
  | powerOnReset (boot : Boot)
  /-- Loss of VIN_AON takes the device to OFF (R400). -/
  | vinAonLoss
  /-- The AON rail falls below threshold in low-power mode and the PMU resets the device as power-on (R406). What the release meets. -/
  | aonBrownout (boot : Boot)
  /-- The host asserts PERST_N, resetting the PCIe endpoint only (R416). -/
  | perstNAssert
  /-- A PCIe FLR acts as RESET_CTL with KIND 1 (R244). What the release meets. -/
  | functionLevelReset (boot : Boot)
  /-- TEST0 high at a reset release holds the device in reset until VIN_AON is removed (R467). The reset released: 0 power-on, 1 brown-out, 2 full. -/
  | test0Hold (cause : Nat)
  /-- Entry to D3hot stops DMA and MSI-X messages (R243). -/
  | pciD3hotEntry
  /-- Return to D0 resumes DMA and raises messages for bits set meanwhile (R243). -/
  | pciD0Return
  /-- The last section digest matches, STAGE becomes 0x03 and MPX is released (R299). -/
  | mpxRelease
  /-- Firmware finishes start-up, replays configuration, re-installs keys and reaches STAGE 0x04 (R299). AON cycles since device time was recorded, microseconds since the wake's trigger, retired pages in the cell pool, random bytes by BSS, key-slot handles whose vault record fails, and tuner codes by slice. -/
  | umpReady (aon wakeUs poolPages : Nat) (rand : List (Nat × Bytes)) (badVault : List Nat) (tune : List (Nat × List (Nat × Nat × Retry)))
  /-- 100 ms after FWU_ACTIVATE Trial or Roll back the device resets as SYS_RESET Kind 2 (R453). What the release meets. -/
  | fwuTrialReset (boot : Boot)
  /-- 100 ms after an accepted lifecycle token the Hatbox resets the device as a full reset (R291). What the release meets. -/
  | lifecycleReset (boot : Boot)
  /-- HOST_WAKE_N held low for 61 µs starts a wake (R403). Whether the trigger is qualified at the sampling edge of the wake's first trigger. -/
  | hostWakeNWake (same : Bool)
  /-- An armed GPIO held at its active level for 2 AON cycles starts a wake (R403). The GPIO, the level it is held at, and whether it is qualified at the sampling edge of the wake's first trigger. -/
  | gpioWake (gpio : Nat) (high same : Bool)
  /-- The armed AON timer expires and starts a wake (R403). The AON cycles counted since the arming, and whether the trigger is qualified at the sampling edge of the wake's first trigger. -/
  | aonTimerWake (aon : Nat) (same : Bool)
  /-- A frame received in STANDBY matches a wake pattern and starts a wake (R185). The port, the frame received, and whether at the edge of the wake's first trigger. -/
  | wakePatternMatch (port : Nat) (frame : Bytes) (same : Bool)
  /-- A frame received in STANDBY contains the magic packet and starts a wake (R185). The port, the frame received, and whether at the edge of the wake's first trigger. -/
  | magicPacketMatch (port : Nat) (frame : Bytes) (same : Bool)
  /-- A Drizzle frame addressed to the device in STANDBY starts a wake (R396). The frame, and whether the trigger is qualified at the sampling edge of the wake's first trigger. -/
  | drizzleWakeFrame (f : DrzRx) (same : Bool)
  /-- A UMP frame on MGT with a good FCS and a matching index in STANDBY starts a wake (R403). Device index of the fleet header, and whether at the edge of the wake's first trigger. -/
  | mgtHostWakeFrame (index : Nat) (same : Bool)
  /-- After outstanding never-abortable commands have drained, the STANDBY or SLEEP entry sequence runs (R402). Level wake sources active as they are armed: source code and index. -/
  | pwrTransitionBegin (levels : List (Nat × Nat))
  /-- A wake step's ready signal (VREG_RDY, XO_RDY, PLL_RDY, MEM_RDY or LOGIC_RDY) arrives and the next step begins (R407). What a cold boot meets, where the wake proceeds as one. -/
  | wakeStepReady (boot : Boot)
  /-- A wake step's timeout expires, scheduling its retry or, on the second failure, the lasting outcome (R408). What the reset of step 5 or the cold training of step 4 meets. -/
  | wakeStepTimeout (boot : Boot)
  /-- The retry delay of a failed wake step ends and the step is tried again (R407). -/
  | wakeRetryDelayExpiry
  /-- The limp firmware becomes ready, STAGE reads 0x05 and EV_PWR_LIMP is raised (R409). Elapsed AON 32.768 kHz count since device time was recorded. -/
  | limpFirmwareReady (aon : Nat)
  /-- The highest junction reading crosses a threshold and the thermal level changes (R413). Sensor of the highest reading, and the reading in 0.25 degC. -/
  | thermalLevelChange (sensor : Nat) (temp : Int)
  /-- The junction reaches 115 °C and the PMU turns off every domain except PD_AON (R413). Sensor of the highest reading, and the reading in 0.25 degC. -/
  | thermalTrip (sensor : Nat) (temp : Int)
  /-- After a trip the junction falls below 95 °C and wake sources are armed (R413). The highest junction reading in 0.25 degC. -/
  | thermalRearm (temp : Int)
  /-- 1 ms without a 32.768 kHz edge switches PD_AON to the RC oscillator (R415). -/
  | xt32Loss
  /-- The crystal gives 1024 good cycles and PD_AON moves from the RC oscillator to it (R480). -/
  | xt32Started
  /-- The 32.768 kHz crystal has not started within 2 s and PD_AON stays on the RC oscillator (R480). -/
  | xt32StartTimeout
  /-- The device writes one 5 mV VDD_CORE target step to the PMIC (R475). The target in units of 5 mV, and whether the PMIC acknowledges. -/
  | avsPmbusStep (target : Nat) (ack : Bool)
  /-- 1 ms after an unacknowledged AVS write it is retried, and a second failure raises thermal level 2 (R475). Whether the PMIC acknowledges the retry. -/
  | avsWriteRetry (ack : Bool)
  /-- HEARTBEAT advances by one each millisecond while firmware runs (R246). -/
  | heartbeatTick
  /-- The operating seconds counter advances each second in RUN and QUIET (R335). -/
  | operatingSecondTick
  /-- TIME_NS wraps and firmware increments the upper 32 bits of device time (R228). -/
  | timeNsWrap
  /-- PPS_OUT rises at a whole second of device time (R240). -/
  | ppsOutSecond
  /-- The configured PPS_OUT width ends and the pulse falls (R240). -/
  | ppsOutWidthEnd
  /-- A rising edge on PPS_IN is captured, less the cable delay, and steers the servo (R240). The frequency in ppb that the firmware's law sets where the capture is a measurement. -/
  | ppsInCapture (freq : Int)
  /-- PPS_IN shows no edge for 1.5 s and the servo enters HOLDOVER (R236). -/
  | ppsInLoss
  /-- A PTP event or general message arrives on an enabled port and is timestamped and terminated (R238). The port, whether it is an event message, and the grandmaster the best master selection picks after an Announce. -/
  | ptpMessageReceive (port : Nat) (event : Bool) (best : Option Nat)
  /-- A Sync, Pdelay or Delay exchange or PPS capture yields an offset that the servo corrects, steps or refuses (R237). The offset measured, ns, and the frequency in ppb that the firmware's law sets. -/
  | servoMeasurement (offset freq : Int)
  /-- No Announce arrives for the announce receipt timeout and the servo enters HOLDOVER (R236). -/
  | announceTimeout
  /-- The remaining slew offset reaches zero and the slew ends (R233). -/
  | slewDone
  /-- The PTP instance sends a Sync, Announce, Delay or Pdelay message at its interval (R238). The port, and the message: 0 Sync, 1 Announce, 2 Delay_Req, 3 Pdelay_Req. -/
  | ptpMessageSend (port kind : Nat)
  /-- A slice synthesiser locks after a hop and calibration begins or TUNING ends (R33). The slice and its lock time. -/
  | synthLock (slice lockUs : Nat)
  /-- 20 µs after a failed lock it is retried, and a second failure puts the slice in FAULT (R58). The slice, whether the retry locks, and its lock time. -/
  | synthLockRetry (slice : Nat) (ok : Bool) (lockUs : Nat)
  /-- The fast calibrations of TUNING finish and the slice leaves TUNING for READY or CAC (R33). The slice, what came of the calibrations, the kind that failed, the time they took, and the temperature. -/
  | tuningCalibrationDone (slice : Nat) (hw : Retry) (kind calUs : Nat) (temp : Int)
  /-- When the slice's current TXOP ends, an accepted channel change starts its hop (R18). The slice, and per port the tuner codes found and what came of the search. -/
  | channelChangeApply (slice : Nat) (tune : List (Nat × Nat × Retry))
  /-- The CAC time on a DFS channel passes without radar and the slice becomes READY (R47). The slice. -/
  | cacElapsed (slice : Nat)
  /-- Nimbus confirms a radar pattern on a DFS channel and the slice leaves every plan (R48). The slice, and the tuner codes of a move it causes at once. -/
  | radarDetected (slice : Nat) (tune : List (Nat × Nat × Retry))
  /-- Before the channel move time the slice moves to its backup channel or stops (R48). The slice, and the tuner codes of the move. -/
  | radarChannelMove (slice : Nat) (tune : List (Nat × Nat × Retry))
  /-- A channel's non-occupancy period ends and it becomes available again (R47). Width and centre of the channel. -/
  | nonOccupancyEnd (width centre : Nat)
  /-- A transmit request waiting on an unlocked synthesiser passes TX_DEFER and fails with ST_SYNTH_NOT_READY (R34). The slice and the access category whose request waits. -/
  | txDeferExpiry (slice ac : Nat)
  /-- A PPDU's PA-on time reaches TX_TMO, the PPDU is aborted and the slice is TX locked (R43). The slice. -/
  | txTmoExpiry (slice : Nat)
  /-- A periodic calibration's period or a 10 °C change makes it due and queues its steps (R49). The slice, the kind, and the temperature in 0.25 degC. -/
  | calibrationDue (slice kind : Nat) (temp : Int)
  /-- A queued calibration step starts in an idle gap of at least 200 µs (R49). The slice. -/
  | calibrationStepStart (slice : Nat)
  /-- A calibration step ends, succeeding, retrying or failing lastingly (R58). The slice, whether the step succeeded, and the temperature. -/
  | calibrationStepDone (slice : Nat) (ok : Bool) (temp : Int)
  /-- The 100 ms training tick starts Halo training of each cancelling pair (R28). -/
  | haloTrainingTick
  /-- A Halo training completes 800 µs after capture, successfully or not (R55). The pair, whether the training succeeded, and the coefficients it found: per chain, stream, order and tap. -/
  | haloTrainingDone (victim aggressor : Nat) (ok : Bool) (coeff : List (Int × Int))
  /-- A pair has had no successful training for 300 ms and is judged without Halo (R28). The pair. -/
  | haloFallback (a b : Nat)
  /-- The capture trigger fires and samples are written (R59). The slice. -/
  | iqCaptureTrigger (slice : Nat)
  /-- The last I/Q sample is written and EV_CMD_DONE is posted (R59). The slice, the samples before Halo, the reference streams of the slices that transmit meanwhile, and what came of the DMA write. -/
  | iqCaptureDone (slice : Nat) (samples : Bytes) (refs : List (Nat × List (List (Int × Int)))) (wr : Retry)
  /-- A slice's BIST and loopback complete and EV_CMD_DONE carries the results (R51). The slice, and the results of its tests. -/
  | selfTestDone (slice bist loop : Nat)
  /-- L-STF is detected on the primary 20 MHz and acquisition of a PPDU begins (R86). The slice and what its receiver measures. -/
  | lstfDetection (slice : Nat) (d : Detection)
  /-- Barker correlation declares a DSSS/CCK detection on a 2.4 GHz slice (R88). The slice and what its receiver measures. -/
  | dsssDetection (slice : Nat) (d : Detection)
  /-- A stronger L-STF overtakes the current reception, which is abandoned (R98). The slice, the power over the latest 0.8 us on its primary 20 MHz in dBm, an ADC overload, and the new packet. -/
  | captureRestart (slice : Nat) (level : Int) (overload : Bool) (d : Detection)
  /-- 1 µs before a solicited TB PPDU the analog gain is preset from the users' target RSSIs (R96). The slice, and the power over the 0.8 us before, dBm. -/
  | tbGainPreset (slice : Nat) (reference : Int)
  /-- No L-STF is detected by 2.0 µs after the expected TB start and the TB PPDU is counted missing (R97). The slice. -/
  | tbWindowEnd (slice : Nat)
  /-- A received PPDU ends and its RX vector is produced (R102). The slice. -/
  | ppduRxEnd (slice : Nat)
  /-- A decoded MPDU passes delimiter, FCS, duplicate and replay checks and reaches decryption (R23). The slice and the MPDU. -/
  | mpduReceive (slice : Nat) (m : RxMpdu)
  /-- A free engine takes the earliest-deadline codeword of the lowest class (R72). The codewords that enter the array before the engine picks. -/
  | ldpcEngineStart (entering : List CodewordIn)
  /-- An engine stops a codeword at zero syndrome or the iteration limit (R71). The codeword, its iterations, and whether its syndrome is zero. -/
  | codewordDone (id iterations : Nat) (ok : Bool)
  /-- A further detection pass of an MU RU starts after every codeword of the previous pass finishes (R76). The RU. -/
  | turboPassStart (ru : Nat)
  /-- A late pass not started within the late window is not run and is counted (R80). The RU whose late pass has not started. -/
  | lateWindowExpiry (ru : Nat)
  /-- 6 µs before a solicited response the acknowledgement content is fixed (R72). The slice. -/
  | responseFreeze (slice : Nat)
  /-- An Ack, BlockAck or multi-STA BlockAck is sent at SIFS after the soliciting PPDU (R112). The slice, the response's duration, its format (0 DSSS/CCK, 1 non-HT OFDM) and the place of its rate in the format's list, the reflected-power measurement per chain, and the tuner codes of ports that are auto-tuned. -/
  | sifsResponseTx (slice us format rate : Nat) (gamma : List Nat) (tune : List (Nat × Nat × Retry))
  /-- The MIC verdict of a decrypted MPDU is ready and the MPDU is released to reordering or freed (R129). The verdict on the MPDU that has waited longest. -/
  | micVerdict (good : Bool)
  /-- A reorder hole has waited 50 ms and is given up (R114). The station and TID. -/
  | reorderHoleTimeout (station tid : Nat)
  /-- A received BlockAckReq moves a TID's reorder window start (R114). The slice, station, TID and new window start. -/
  | blockackreqReceive (slice station tid start : Nat)
  /-- A fragmented MSDU is not complete within 100 ms and is discarded (R111). The station and TID. -/
  | reassemblyTimeout (station tid : Nat)
  /-- A Cumulus element from a peer arrives and combining becomes active or ends (R81). The peer and the fields of its element. -/
  | cumulusElementReceive (station version flags links lifetime combines : Nat)
  /-- A stored soft-buffer entry becomes usable 2 µs after its last codeword finishes (R83). The entry. -/
  | softEntryUsable (peer tag : Nat)
  /-- A soft-buffer entry's lifetime ends and it is freed (R83). The entry. -/
  | softEntryExpiry (peer tag : Nat)
  /-- An access category's backoff ends and it gains the medium or suffers an internal collision (R106). The slice, the access categories whose backoffs end in the slot, and its subchannels over the PIFS before, lowest first. -/
  | edcaBackoffEnd (slice : Nat) (ends : List Nat) (cca : List Cca)
  /-- A BSS reaches its TBTT and its beacon requests transmission after PIFS (R107). The BSS, and its slice's subchannels over the PIFS before, lowest first. -/
  | beaconTbtt (bss : Nat) (cca : List Cca)
  /-- 24 µs before a PPDU starts, its MPDUs and links are chosen and keys latched (R121). The slice and the PPDU the Milliner fixes. -/
  | ppduFixPoint (slice : Nat) (p : FixPlan)
  /-- The modem encodes and the slice starts transmitting a PPDU (R65). The slice, the reflected-power measurement per chain, and the tuner codes of ports that are auto-tuned. -/
  | ppduTxStart (slice : Nat) (gamma : List Nat) (tune : List (Nat × Nat × Retry))
  /-- 5 µs before a 2.4 GHz PPDU COEX_GNT is sampled and a denial counts as an internal collision (R490). The slice and the level of COEX_GNT. -/
  | coexGrantSample (slice : Nat) (grant : Bool)
  /-- A CTS answers an RTS or MU-RTS and the TXOP proceeds with the users that answered (R109). The slice and the users that answered. -/
  | ctsReceive (slice : Nat) (users : List Nat)
  /-- No CTS arrives and the TXOP fails before data, doubling CW (R109). The slice. -/
  | ctsTimeout (slice : Nat)
  /-- An Ack or BlockAck is received and each MPDU's attempt is judged (R113). The slice, and per station and TID the sequence numbers acknowledged. -/
  | ackReceive (slice : Nat) (acks : List (Nat × Nat × List Nat))
  /-- No Ack or BlockAck arrives and every MPDU of the PPDU counts a failed attempt (R113). The slice. -/
  | ackTimeout (slice : Nat)
  /-- An MPDU outlives its access category's lifetime and is dropped with status LIFETIME (R113). 0 an MPDU of a station, 1 a management frame to a station, 2 the oldest group frame of a BSS; the owner; the MPDU. -/
  | mpduLifetimeExpiry (kind owner id : Nat)
  /-- A TXOP ends and the QME charges the airtime actually used (R110). The slice. -/
  | txopEnd (slice : Nat)
  /-- A management frame is handled by a link core, including authentication and association (R119). The frame. -/
  | managementFrameReceive (f : MgmtRx)
  /-- A PS-Poll delivers one buffered unit to a dozing station (R124). The slice and the station. -/
  | psPollReceive (slice station : Nat)
  /-- A U-APSD trigger starts a service period for a dozing station (R124). The slice, the station, the access category, and the most units of the service period. -/
  | uapsdTrigger (slice station ac units : Nat)
  /-- No frame from a station for the inactivity timeout deauthenticates it (R125). The station. -/
  | inactivityTimeout (station : Nat)
  /-- A TWT request is accepted, answered with an alternate or rejected (R126). The station; 0 individual set-up, 1 individual teardown, 2 joins a schedule, 3 leaves one; the flow or schedule ID and its BSS; the terms; whether the Milliner can place it. -/
  | twtRequestReceive (station kind flow bss duration interval offset : Nat) (places : Bool)
  /-- A TWT service period begins and its stations and TIDs are served (R222). BSS and kind of a schedule, or none for an agreement; the agreement's station; the schedule or flow ID. -/
  | twtServicePeriodStart (schedule : Option (Nat × Nat)) (owner id : Nat)
  /-- A TWT service period ends and held TIDs wait for the next period (R222). As for the start. -/
  | twtServicePeriodEnd (schedule : Option (Nat × Nat)) (owner id : Nat)
  /-- An EMLSR exchange ends after one slot without sending (R123). The station. -/
  | emlsrExchangeEnd (station : Nat)
  /-- The client's transition delay passes and other links may be used (R123). The station. -/
  | emlsrTransitionEnd (station : Nat)
  /-- An FTM request opens a ranging session or is refused as incapable (R134). The slice, the initiator, and whether the request opens a session or ends it. -/
  | ftmRequestReceive (slice mac : Nat) (opens : Bool)
  /-- The brim of a window starts and the settings snapshot is taken (R139). -/
  | brimStart
  /-- The plan for the next window is committed and staging of its first TXOPs begins (R139). The TXOPs placed, the stations with a TWT service period that overlaps the window, and the free airtime of each slice's link in us. -/
  | planCommit (txops : List PlanTxop) (twt free : List Nat)
  /-- A new service window begins and its first TXOPs contend (R139). -/
  | windowBoundary
  /-- A slice that finished its planned TXOPs before the brim gets fill TXOPs (R141). The TXOP. -/
  | fillTxopAppend (t : PlanTxop)
  /-- Staging of a slice's next TXOP users begins when the previous TXOP starts (R156). The slice. -/
  | stagingStart (slice : Nat)
  /-- A Crown fetch or write-back completes and the next queued operation issues (R155). The entry, whether it was a fetch, and the time it took in 0.1 us. -/
  | crownOpComplete (station : Nat) (fetch : Bool) (time : Nat)
  /-- An MPDU held for a Crown entry for 10 ms is discarded as hold-expired (R161). The station. -/
  | holdMpduExpiry (station : Nat)
  /-- A demand-fetched entry's linger time ends and its reserve slot may be reused (R162). The station. -/
  | lingerExpiry (station : Nat)
  /-- Every 100 ms the late and reserve-wait ratios are checked and EV_CRN_THRASH may be raised (R164). -/
  | thrashCheck
  /-- A lasting DRAM fault loses a Crown entry and the station is removed (R165). The station. -/
  | crownEntryLost (station : Nat)
  /-- A compressed beamforming report arrives and is passed to Nimbus for precoder computation (R67). The station, whether a precoder can be computed from its report, and the report's Ng and codebook size. -/
  | beamformingReportReceive (station : Nat) (valid : Bool) (ng codebook : Nat)
  /-- A signal appears on a DOWN port and bring-up starts in TRAINING (R170). The port. -/
  | portSignalDetect (port : Nat)
  /-- Bring-up succeeds and the port enters UP (R170). The port. -/
  | portBringupDone (port : Nat)
  /-- Bring-up fails with a signal present, and is retried once or puts the port in FAULT (R170). The port. -/
  | portBringupFail (port : Nat)
  /-- 100 ms after a failed bring-up it is retried (R170). The port. -/
  | portBringupRetry (port : Nat)
  /-- Loss of signal or block lock returns a port to DOWN, dropping its queued frames (R170). The port. -/
  | portSignalLoss (port : Nat)
  /-- Every 100 ms the MGT PHY is polled and the link state updated (R171). What the PHY reports: link, half duplex, and the speed code of R203. -/
  | mdioPoll (link half : Bool) (speed : Nat)
  /-- A frame arrives on a port into packet SRAM cells and is checked for length and FCS (R172). The frame from destination address to the byte before the FCS, and whether its FCS is good. -/
  | ethFrameReceive (port : Nat) (bytes : Bytes) (fcs : Bool)
  /-- An IEEE 802.3x pause frame stops all transmission on the port (R177). The port and the pause time. -/
  | pauseFrameReceive (port quanta : Nat)
  /-- A PFC frame stops the named priorities' wired queues (R177). The port, the class-enable vector and the eight pause times. -/
  | pfcFrameReceive (port enable : Nat) (quanta : List Nat)
  /-- A received pause time runs out and the stopped queues resume (R177). The port and the queues whose pause time runs out. -/
  | pauseTimeExpiry (port mask : Nat)
  /-- Every half pause time while above XON the pause frame is repeated (R178). The port and the priority, 0 on 802.3x ports. -/
  | pauseRefresh (port priority : Nat)
  /-- A frame has waited at a FIFO head for more than 10 ms and is dropped in RX_HOLD_DROP (R176). The port and the ingress priority of the FIFO. -/
  | holdFifoHeadTimeout (port prio : Nat)
  /-- A MACsec frame's ICV verdict releases it to lookup or frees it (R181). The verdict on the oldest waiting frame, and the frame as decrypted. -/
  | macsecIcvVerdict (port : Nat) (good : Bool) (plain : Bytes)
  /-- A packet passes the forwarding pipeline stages and is sent towards a queue, punt queue or packet core (R188). Ingress 0 to 4 a port, 5 air, 6 host, 7 packet cores, 8 Drizzle; and a port's ingress priority. -/
  | fwePacketLookup (ingress prio : Nat)
  /-- A free EMAC takes the next eligible frame and starts sending it, charging its shapers (R208). The port. -/
  | emacTxStart (port : Nat)
  /-- A frame finishes transmission and its cells are freed (R173). The port. -/
  | emacTxEnd (port : Nat)
  /-- A packet core finishes flow setup and held packets of the flow are released or dropped (R196). The packet core, and the device's choice among free NAT ports. -/
  | flowSetupDone (core pick : Nat)
  /-- A flow entry idle for its state's timeout is removed (R198). The flow's index. -/
  | flowAgeOut (index : Nat)
  /-- A learned MAC entry ages out after the MAC aging time (R191). The entry's VLAN and address. -/
  | macAgeOut (vlan addr : Nat)
  /-- An unanswered ARP or neighbour request is resent after 1 s, or the next hop is marked unreachable (R193). The next hop's interface and address. -/
  | nextHopResolveRetry (iface addr : Nat)
  /-- The 10 s unreachable mark of a next hop ends (R193). The next hop's interface and address. -/
  | nextHopUnreachableEnd (iface addr : Nat)
  /-- A fragment-tracking entry's 2 s lifetime ends (R197). Source, destination and identification of the entry. -/
  | natFragmentExpiry (src dst ident : Nat)
  /-- A shaper's refill interval passes, applying due settings and adding credit up to the burst (R212). The shaper. -/
  | shaperRefill (shaper : Nat)
  /-- Every 1 µs a policer's buckets are refilled and due settings applied (R216). The policer. -/
  | policerRefill (policer : Nat)
  /-- At its base time a pending gate control list becomes operational (R221). The port. -/
  | gclBaseTime (port : Nat)
  /-- A gate control list entry's interval ends and the next entry or cycle applies (R219). The port. -/
  | gclEntryAdvance (port : Nat)
  /-- A queue's sampling interval passes and a sample record is written to the ring (R223). The queue ID. -/
  | samplerTick (queue : Nat)
  /-- A queued event is written to the next free event slot, or sent to the Ethernet sink (R253). The transport: the Ethernet sink, or the event slots. -/
  | eventDelivery (sink : Bool)
  /-- A UMP frame arrives on MGT and is queued, answered from the replay cache, or dropped (R263). Source MAC address, fleet header fields, and the UMP message. -/
  | umpFrameReceive (mac version fleetId index : Nat) (message : Bytes)
  /-- A punted frame is written into a posted punt buffer and the entry is completed (R260). The posted entry as read, and the DMA that first failed: 0 none, 1 the entry's read, 2 the buffer's write. -/
  | puntEntryFill (ring : Nat) (entry : Bytes) (fail : Nat)
  /-- The device reads a posted inject entry and its frame and passes the frame to its target (R261). The entry and the frame as read, and the DMA that first failed: 0 none, 1 the entry's read, 2 the frame's. -/
  | injectEntryProcess (ring : Nat) (entry frame : Bytes) (fail : Nat)
  /-- An injected frame reaches its fate and its status is written back (R262). The ring. -/
  | injectCompletion (ring : Nat)
  /-- The ring's TIME passes after the first unsignalled completion and its interrupt is sent (R258). The ring. -/
  | ringCoalesceTimeout (ring : Nat)
  /-- 10 µs after a failed host DMA read or write it is retried once (R249). What the retry of the oldest failed ring DMA comes to, with the entry and the frame or payload it reads. -/
  | dmaRetry (ok : Bool) (entry data : Bytes)
  /-- A host work item is read from ring 32, checked and queued, when room allows (R353). The item and its payload as read; whether the read first failed. -/
  | workItemConsume (entry payload : Bytes) (fail : Bool)
  /-- A waiting core is given the chosen startable work item (R347). Packet core 0 to 15, or Nimbus core 16 to 19. -/
  | workItemStart (core : Nat)
  /-- A work item ends, releasing its atomic key and writing any completion entry (R349). The core, and what came of the write of a host item's result. -/
  | workItemEnd (core : Nat) (wr : Retry)
  /-- A thread becomes ready and pre-empts a lower-priority thread where allowed (R345). The thread: its group, identity, priority and the core it is bound to. -/
  | threadReady (group id priority : Nat) (bound : Option Nat)
  /-- A 1 ms slice ends and an equal-priority thread takes the core (R345). The group and its core. -/
  | timeSliceExpiry (group core : Nat)
  /-- A firmware core halts, EV_SYS_FW_HALT is recorded and FAULT_CODE set (R429). The core, cause and program counter of EV_SYS_FW_HALT. -/
  | firmwareCoreHalt (core cause pc : Nat)
  /-- A customer kernel reaches its cycle limit and ends without output (R374). Nimbus core 0 to 3. -/
  | kernelCycleLimit (core : Nat)
  /-- A Nimbus core issues one 64-bit bundle, reading all sources and writing all results (R361). Nimbus core 0 to 3. -/
  | bundleIssue (core : Nat)
  /-- A hardware loop's count is exhausted at its end bundle and the loop level ends (R368). Nimbus core 0 to 3. -/
  | loopCountExpiry (core : Nat)
  /-- A Drizzle frame is received, security-checked, acknowledged and delivered or relayed (R387). The frame as received. -/
  | drzFrameReceive (f : DrzRx)
  /-- A Drizzle CSMA-CA backoff ends and the channel is sensed, transmitting or failing CHANNEL_BUSY (R380). The level sensed on the channel in dBm, the PA-on time of the data frame without its wake-up sequence, and what came of a counter save. -/
  | drzCsmaBackoffEnd (level : Int) (us : Nat) (hw : Retry)
  /-- An Enhanced Ack ends a Drizzle exchange as ACKED and refreshes the node's CSL reference (R380). The Ack's CSL IE as in DrzRx, RSSI and LQI; the PA-on time of a frame that follows in the rendezvous; what came of a counter save. -/
  | drzAckReceive (csl : Option (Nat × Nat)) (rssi : Int) (lqi us : Nat) (hw : Retry)
  /-- No Ack arrives and the frame is retried, the rendezvous missed or the node marked lost (R385). -/
  | drzAckTimeout
  /-- The device's own CSL period passes and its receiver samples the channel (R382). -/
  | drzCslSample
  /-- At the predicted sample time less the guard the wake-up sequence or preamble to a node begins (R384). The PA-on time of the data frame without its wake-up sequence, and what came of a counter save. -/
  | drzRendezvousStart (us : Nat) (hw : Retry)
  /-- A pending flood relay's jitter ends and the copy is queued unless suppressed (R391). The relay's origin and sequence. -/
  | drzFloodRelay (origin seq : Nat)
  /-- A seen-cache entry's 30 s aging ends (R391). The entry's origin and sequence. -/
  | drzSeenCacheAging (origin seq : Nat)
  /-- Once the frame in progress ends a Drizzle channel, band or rate change takes effect (R377). -/
  | drzChannelChangeApply
  /-- An SAE Commit is served by the Hatbox or answered with an anti-clogging request (R306). The BSS, the sender, the group, and whether hash-to-element is used. -/
  | saeCommitReceive (bss addr group : Nat) (h2e : Bool)
  /-- An SAE Confirm is verified and the exchange completes or fails (R306). The BSS, the sender, whether the Confirm verifies, and the PMK the Hatbox computed. -/
  | saeConfirmReceive (bss addr : Nat) (good : Bool) (pmk : Bytes)
  /-- A 4-way or group key handshake message is received and judged with the Hatbox (R307). The station; 0 an EAP frame, 2 or 4 a message of the 4-way handshake, 6 the group key answer; whether its MIC verifies; the PTK derived. -/
  | eapolKeyReceive (station msg : Nat) (good : Bool) (key : Bytes)
  /-- No valid answer within 1 s resends message 1 or 3, or deauthenticates the station (R307). The station. -/
  | fourwayRetryTimeout (station : Nat)
  /-- 86,400 operating seconds after the last rekey the group keys are rekeyed (R308). The BSS and the random bytes of its new keys. -/
  | groupRekeyDue (bss : Nat) (rand : Bytes)
  /-- A station that has not answered the group key handshake is retried or deauthenticated (R308). The BSS and the station that has not answered. -/
  | groupKeyRetryTimeout (bss station : Nat)
  /-- At the first DTIM after all stations answer, the new group key is used and the old slot erased (R308). The BSS whose DTIM beacon is due. -/
  | groupKeySwitch (bss : Nat)
  /-- A RADIUS response is checked by the Hatbox and relayed, accepted or rejected (R309). The station, whether both authenticators verify, 0 Access-Challenge, 1 Access-Accept, 2 Access-Reject, then MS-MPPE-Recv-Key, MS-MPPE-Send-Key, Class and session timeout of an accept. -/
  | radiusResponseReceive (station : Nat) (valid : Bool) (kind : Nat) (recv send cls : Bytes) (timeout : Nat)
  /-- An unanswered request is resent or the server declared dead (R309). The station whose request is unanswered. -/
  | radiusTimeout (station : Nat)
  /-- A dead server's dead time ends (R309). The profile and which of its servers. -/
  | radiusDeadTimeEnd (profile : Nat) (secondary : Bool)
  /-- The EAP timeout passes and the station's authentication fails (R309). The station. -/
  | eapTimeout (station : Nat)
  /-- A cached PMKSA's lifetime ends (R307). The station's address and the address of its BSS or AP MLD. -/
  | pmksaExpiry (addr ap : Nat)
  /-- A Hatbox job completes and its command's EV_CMD_DONE is posted (R315). Code of the command whose job ends, or 0 for the SAE step of a sender; whether the recipient and the tag are good; the plaintext or the sealed bytes; the vault write. -/
  | hatboxJobDone (code addr : Nat) (opens : Bool) (body : Bytes) (hw : Retry)
  /-- The Hatbox reports a key slot write or erase done (R311). The key-slot handle. -/
  | keyWriteComplete (handle : Nat)
  /-- An outstanding challenge's 300 s validity ends (R292). -/
  | challengeExpiry
  /-- The token's debug duration ends and debug closes (R295). -/
  | debugDurationExpiry
  /-- A TRNG health test fails and is retried after 1 ms, or stops random generation (R289). Whether the retry of a failure passes. -/
  | trngHealthFail (ok : Bool)
  /-- An FT authentication is completed from a staged context or refused (R449). The BSS, the sender, and whether its PMK-R0 name is that of the staged context. -/
  | ftAuthReceive (bss addr : Nat) (found : Bool)
  /-- A staged context's lifetime ends and it is discarded (R449). The station address of the staged context. -/
  | contextStagingExpiry (addr : Nat)
  /-- A channel's temperature drifts 20 °C from its last training and drift retraining starts (R321). Channel and its temperature, 0.25 degC. -/
  | dramDriftDetect (chan : Nat) (temp : Int)
  /-- A drift retraining step runs every 50 µs, or is retried (R321). Channel, and whether the step succeeded. -/
  | dramRetrainStep (chan : Nat) (ok : Bool)
  /-- A bank's refresh interval passes and it is refreshed (R322). Channel and bank. -/
  | dramRefresh (chan bank : Nat)
  /-- 1 µs after an uncorrectable read it is retried, and a lasting failure retires the page (R327). DRAM address, reader of R344, the reader's object (of a frame the ID of the queue it heads, 16489 the hold area; of a soft-buffer entry or a record its place; of firmware its core), and whether the retry reads correctly. -/
  | eccReadRetry (addr reader obj : Nat) (ok : Bool)
  /-- The 12 h patrol scrub reads DRAM and writes back corrected blocks (R328). Addresses of blocks corrected and uncorrectable, each with whether it lies in the cell pool; whether the pass is complete. -/
  | patrolScrub (corrected bad : List (Nat × Bool)) (complete : Bool)
  /-- 10 µs after a granule fails its compare it is rewritten once (R332). Felt store address, and whether the rewrite succeeded. -/
  | mramWriteRetry (addr : Nat) (ok : Bool)
  /-- The commit's bank write and read-back finish and the bank becomes active or the commit fails (R339). Outcome of the granule writes, and whether the read-back is valid. -/
  | cfgBankWritten (hw : Retry) (readBack : Bool)
  /-- The writer takes the next occurrence from its queue and repeats, suppresses or writes it (R428). -/
  | evrRecordWrite
  /-- A code's rate window closes and a summary of suppressed occurrences is written (R431). The code whose window closes. -/
  | evrRateWindowClose (code : Nat)
  /-- The segments are zeroed, EV_LOG_CLEARED written and the command completes (R434). -/
  | evrClearDone
  /-- The selected diagnostic checks complete and the findings are reported (R437). Checks passed; Felt store mismatches as unit, polynomial, result and expected value; banks among them; errors corrected; offsets in ppb; Crown entries that differ: station, DRAM address, and whether the retry of the read succeeds. -/
  | diagRunDone (passed : Nat) (felt : List (Nat × Nat × Nat × Nat)) (banks : List Nat) (corrected : Nat) (crystal pps : Int) (entries : List (Nat × Nat × Bool))
  /-- A BIST or loopback test completes and a 0x00C8 record is written (R438). The command and its result: failing memory instance and address, or frames sent, received and errored. -/
  | tstDone (loopback fail : Bool) (place addr : Nat) (sent received errored : Nat)
  /-- A kernel image is verified and stored, or refused (R372). What came of the store write. -/
  | kernelLoadDone (hw : Retry)
  /-- A chunk's sectors are erased, written and read back in NOR (R453). What came of the sector writes and their read-back. -/
  | fwuDataWritten (hw : Retry)
  /-- The boot checks over the written slot complete (R453). Cause code of the first check of R298 that fails on the image itself, 0 none; version and security version of the manifest. -/
  | fwuCommitChecked (cause version security : Nat)
  /-- A rate-limited event's period ends, letting the next occurrence be raised (R285). Event code and object. -/
  | eventSuppressionPeriod (code obj : Nat)
  /-- A slice's PPDU transmission ends: COEX_REQ and COEX_PRI fall, the detector unblanks 2 µs later, and a group-addressed or No Ack frame ends with status SENT_NO_ACK (R490). The slice. -/
  | ppduTxEnd (slice : Nat)
  /-- A Drizzle data frame ends on air, taking its transmit stamp and, for a broadcast, flood or no-Ack frame, ending the exchange with SENT_NO_ACK (R394). The PA-on time of a frame that follows in the rendezvous, and what came of a counter save. -/
  | drzFrameTxEnd (us : Nat) (hw : Retry)
  /-- A SLIP-framed UMP message arrives whole on the UART, in stage 0x06 or limp mode, and is served (R417). The UMP message. -/
  | uartFrameReceive (message : Bytes)
  /-- The host releases PERST_N and the PCIe endpoint leaves reset and begins link training (R416). -/
  | perstNRelease
  /-- PCIe link training completes and the link reaches L0, ending the device's pull on PCIE_WAKE_N and letting the host reach BAR0 again (R404). -/
  | pcieLinkUp
  /-- A read of EVR_STAT retries the latch for a BEYOND ordinal, and completes only once a pending latch copy is done (R432). -/
  | evrStatRead
  deriving DecidableEq, Repr

end Sys2Proof
end

