-- ==== Sys2Proof/Machine/Bytes.lean ====
section
/-! DEFINITION. Byte strings, sparse tables, sparse memories and the check values of R340. -/
namespace Sys2Proof

/-- The entry of a sparse table at a key. -/
def Tab.look {α : Type} : Tab α → Nat → Option α
  | [], _ => none
  | (k, x) :: r, i => if k = i then some x else if i < k then none else Tab.look r i

/-- The entry at a key, or a default where there is none. -/
def Tab.getD {α : Type} (t : Tab α) (i : Nat) (d : α) : α := (Tab.look t i).getD d

/-- The table with an entry set, keys kept rising. -/
def Tab.put {α : Type} : Tab α → Nat → α → Tab α
  | [], i, x => [(i, x)]
  | (k, y) :: r, i, x =>
    if k = i then (i, x) :: r else if i < k then (i, x) :: (k, y) :: r else (k, y) :: Tab.put r i x

/-- The table without the entry of a key. -/
def Tab.del {α : Type} : Tab α → Nat → Tab α
  | [], _ => []
  | (k, y) :: r, i => if k = i then r else if i < k then (k, y) :: r else (k, y) :: Tab.del r i

/-- The table with a function applied to one entry, where there is one. -/
def Tab.modify {α : Type} (t : Tab α) (i : Nat) (f : α → α) : Tab α :=
  match Tab.look t i with
  | some x => Tab.put t i (f x)
  | none => t

/-- The table with a function applied to every entry. -/
def Tab.mapVals {α β : Type} (f : α → β) (t : Tab α) : Tab β := t.map fun e => (e.1, f e.2)

/-- The keys of a table. -/
def Tab.keys {α : Type} (t : Tab α) : List Nat := t.map Prod.fst

/-- The canonical form: keys strictly rising. -/
def Tab.wf {α : Type} : Tab α → Bool
  | [] => true
  | [_] => true
  | (a, _) :: (b, y) :: r => decide (a < b) && Tab.wf ((b, y) :: r)

/-- The lowest number from `lo` up to `hi` that is no key, where there is one (R274). -/
def Tab.lowestFree {α : Type} (t : Tab α) (lo hi : Nat) : Option Nat :=
  ((List.range (hi + 1 - lo)).map (· + lo)).find? fun i => (Tab.look t i).isNone

/-- The byte of a sparse memory at an address; an unlisted byte reads 0 (DESIGN CHOICE, log entry 2). -/
def Cells.read : List Host.Cell → Nat → Byte
  | [], _ => 0
  | (k, b) :: r, a => if k = a then b else if a < k then 0 else Cells.read r a

/-- The memory with one byte written; writing 0 removes the entry. -/
def Cells.write : List Host.Cell → Nat → Byte → List Host.Cell
  | [], a, v => if v = 0 then [] else [(a, v)]
  | (k, b) :: r, a, v =>
    if k = a then (if v = 0 then r else (a, v) :: r)
    else if a < k then (if v = 0 then (k, b) :: r else (a, v) :: (k, b) :: r)
    else (k, b) :: Cells.write r a v

/-- A byte string written from an address upwards. -/
def Cells.writeAll (m : List Host.Cell) (a : Nat) : Bytes → List Host.Cell
  | [] => m
  | b :: r => Cells.writeAll (Cells.write m a b) (a + 1) r

/-- `n` bytes read from an address upwards. -/
def Cells.readAll (m : List Host.Cell) (a n : Nat) : Bytes :=
  (List.range n).map fun i => Cells.read m (a + i)

/-- The canonical form: addresses strictly rising and no zero byte listed. -/
def Cells.wf : List Host.Cell → Bool
  | [] => true
  | [(_, b)] => decide (b ≠ 0)
  | (a, b) :: (c, d) :: r => decide (b ≠ 0) && decide (a < c) && Cells.wf ((c, d) :: r)

/-- A little-endian number (R5). -/
def leNat : Bytes → Nat
  | [] => 0
  | b :: r => b.toNat + 256 * leNat r

/-- `n` bytes of a number, least significant first (R5). -/
def leBytes : Nat → Nat → Bytes
  | 0, _ => []
  | n + 1, v => BitVec.ofNat 8 v :: leBytes n (v / 256)

/-- A byte string in transmission order as one number (R273). -/
def beNat (b : Bytes) : Nat := leNat b.reverse

/-- `n` bytes of a number in transmission order (R273). -/
def beBytes (n v : Nat) : Bytes := (leBytes n v).reverse

/-- The little-endian field of `n` bytes at an offset; bytes past the end read 0. -/
def rd (p : Bytes) (o n : Nat) : Nat := leNat ((p.drop o).take n)

/-- The byte-string field of `n` bytes at an offset, in transmission order. -/
def rdBe (p : Bytes) (o n : Nat) : Nat := beNat ((p.drop o).take n)

/-- The bytes of a field. -/
def field (p : Bytes) (o n : Nat) : Bytes := (p.drop o).take n

/-- A number as two's complement of `w` bits. -/
def toSigned (w v : Nat) : Int := if v < 2 ^ (w - 1) then (v : Int) else (v : Int) - 2 ^ w

/-- Two's complement of `w` bits of an integer. -/
def ofSigned (w : Nat) (i : Int) : Nat := (i % (2 ^ w : Int)).toNat

/-- A signed little-endian field of `n` bytes. -/
def rdS (p : Bytes) (o n : Nat) : Int := toSigned (8 * n) (rd p o n)

/-- A signed number in `n` little-endian bytes. -/
def wrS (n : Nat) (i : Int) : Bytes := leBytes n (ofSigned (8 * n) i)

/-- One bit of a number. -/
def bit (v i : Nat) : Bool := v.testBit i

/-- A flag as a number. -/
def b2n (b : Bool) : Nat := if b then 1 else 0

/-- A list of flags as a number, flag 0 in bit 0. -/
def bitsNat : List Bool → Nat
  | [] => 0
  | b :: r => b2n b + 2 * bitsNat r

/-- The string cut or padded with zeros to `n` bytes. -/
def fit (n : Nat) (b : Bytes) : Bytes := (b ++ List.replicate (n - b.length) 0).take n

/-- A counter of `w` bits after one more count; it wraps. -/
def inc (w n : Nat) : Nat := (n + 1) % 2 ^ w

/-- A counter of `w` bits after `k` more; it wraps. -/
def addWrap (w n k : Nat) : Nat := (n + k) % 2 ^ w

/-- A counter that saturates at `hi`. -/
def incSat (hi n : Nat) : Nat := if n < hi then n + 1 else hi

/-- One bit of a reflected CRC. -/
def crcBitR (poly st : Word32) : Word32 :=
  if st.getLsbD 0 then (st >>> 1) ^^^ poly else st >>> 1

/-- One byte of a reflected CRC. -/
def crcByteR (poly st : Word32) (b : Byte) : Word32 :=
  Nat.repeat (crcBitR poly) 8 (st ^^^ b.setWidth 32)

/-- One bit of an unreflected CRC of `w` bits held in the low bits. -/
def crcBitF (w : Nat) (poly st : Word32) : Word32 :=
  let t := (st <<< 1) &&& BitVec.ofNat 32 (2 ^ w - 1)
  if st.getLsbD (w - 1) then t ^^^ poly else t

/-- One byte of an unreflected CRC of `w` bits. -/
def crcByteF (w : Nat) (poly st : Word32) (b : Byte) : Word32 :=
  Nat.repeat (crcBitF w poly) 8 (st ^^^ (b.setWidth 32 <<< (w - 8)))

/-- The running value of check value `poly` (row of R340) after one byte. -/
def cvByte (poly : Nat) (st : Word32) (b : Byte) : Word32 :=
  match poly with
  | 0 => crcByteR 0xEDB88320 st b
  | 1 => crcByteR 0x82F63B78 st b
  | 2 => crcByteF 16 0x1021 st b
  | _ => crcByteF 8 0x07 st b

/-- The running value after a byte string. -/
def cvFeed (poly : Nat) (st : Word32) (b : Bytes) : Word32 := b.foldl (cvByte poly) st

/-- The standard init of a row of R340. -/
def cvInit : Nat → Word32
  | 0 => 0xFFFFFFFF
  | 1 => 0xFFFFFFFF
  | 2 => 0xFFFF
  | _ => 0

/-- The XOR-out value of a row of R340. -/
def cvXor : Nat → Word32
  | 0 => 0xFFFFFFFF
  | 1 => 0xFFFFFFFF
  | _ => 0

/-- The bits a check value of a row of R340 has. -/
def cvMask : Nat → Word32
  | 0 => 0xFFFFFFFF
  | 1 => 0xFFFFFFFF
  | 2 => 0xFFFF
  | _ => 0xFF

/-- The check value of a byte string (R340). -/
def checkValue (poly : Nat) (b : Bytes) : Nat := (cvFeed poly (cvInit poly) b ^^^ cvXor poly).toNat

/-- CRC-32C (R340 row 1). -/
def crc32c (b : Bytes) : Nat := checkValue 1 b

/-- CRC-16/CCITT (R340 row 2). -/
def crc16 (b : Bytes) : Nat := checkValue 2 b

end Sys2Proof
end

