-- ==== Sys2Proof/Machine/StateWire.lean ====
section
/-! DEFINITION. State of the Ethernet ports and the forwarding engine (chapter 07).
Each field's docstring ends in brackets: width; file and rule of spec/; value at reset. -/
namespace Sys2Proof.Machine

/-- States of a port (R170). -/
inductive PortState where
  | adminDown | down | training | up | fault
  deriving DecidableEq, Repr

/-- Settings of FWD_SET_PORT. -/
structure PortCfg where
  /-- Mode. [8; 07 R169; 5, or 6 on MGT] -/
  mode : Nat
  /-- FEC. [8; 07 R169; 2, or 0 on MGT] -/
  fec : Nat
  /-- Flow control. [8; 07 R177; 0] -/
  flow : Nat
  /-- PFC mask. [8; 07 R177; 0] -/
  pfcMask : Nat
  /-- Maximum frame. [16; 07 R172; 9216] -/
  maxFrame : Nat
  /-- PVID. [12; 07 R189; 1] -/
  pvid : Nat
  /-- Trust. [8; 07 R200; 2] -/
  trust : Nat
  /-- Default priority. [3; 07 R200; 0] -/
  priority : Nat
  /-- XOFF, cells. [16; 07 R178; 512] -/
  xoff : Nat
  /-- XON, cells. [16; 07 R178; 384] -/
  xon : Nat
  /-- Headroom, cells. [16; 07 R178; 320] -/
  headroom : Nat
  /-- Hold limit, cells. [16; 07 R176; 1024] -/
  hold : Nat
  /-- Admin up. [1; 07 R170; 0] -/
  admin : Bool
  deriving DecidableEq, Repr

/-- A MACsec SA (R180). -/
structure Sa where
  /-- Key-slot handle. [16; 07 R180; none] -/
  key : Nat
  /-- SSCI. [32; 07 R203; none] -/
  ssci : Nat
  /-- Salt. [96; 07 R203; none] -/
  salt : Bytes
  /-- Next PN (transmit), lowest acceptable PN (receive). [64; 07 R203; none] -/
  pn : Nat
  /-- EV_ETH_MACSEC_PN raised. [1; 07 R183; false] -/
  warned : Bool
  deriving DecidableEq, Repr

/-- A port's SecY (R180). -/
structure SecY where
  /-- Flags: bit 0 enable, 1 protect, 2 replay protect, 3 encrypt. [8; 07 R203; 0] -/
  flags : Nat
  /-- Own SCI. [64; 07 R180; DESIGN CHOICE 0, log 2] -/
  sci : Nat
  /-- Replay window. [31; 07 R180; 0] -/
  window : Nat
  /-- Transmit SAs by AN. [2; 07 R180; none] -/
  tx : Tab Sa
  /-- Active transmit AN. [2; 07 R182; none] -/
  active : Option Nat
  /-- SCI of receive SCs. [4 x 64; 07 R180; none] -/
  rxSci : Tab Nat
  /-- Receive SAs by SC x 4 + AN. [8; 07 R180; none] -/
  rx : Tab Sa
  deriving DecidableEq, Repr

/-- A wake pattern (R185). -/
structure WakePattern where
  /-- Enabled. [1; 07 R203; none] -/
  enable : Bool
  /-- Mask. [16 bytes; 07 R185; none] -/
  mask : Bytes
  /-- Check value. [16; 07 R185; none] -/
  check : Nat
  deriving DecidableEq, Repr

/-- A frame in the packet SRAM or the DRAM cell pool. -/
structure Frame where
  /-- Ingress port 0 to 4, 5 air, 6 host, 7 packet cores, 8 Drizzle. [4; 07 R187; none] -/
  ingress : Nat
  /-- The frame from destination address to end of payload. [<=9216 bytes; 07 R172; none] -/
  bytes : Bytes
  /-- VLAN. [12; 07 R190; none] -/
  vlan : Nat := 0
  /-- Internal priority. [3; 07 R200; none] -/
  priority : Nat := 0
  /-- Colour, 0 green, 1 yellow, 2 red; none until a policer has coloured it. [2; 08 R217; none] -/
  colour : Option Nat := none
  /-- Raw TIME_NS at queue entry. [32; 08 R223; none] -/
  stamp : Nat := 0
  /-- Raw TIME_NS of its first byte at the EMAC. [32; 10 R260; none] -/
  first : Nat := 0
  /-- Cells in packet SRAM (true) or the DRAM pool. [1; 07 R173; none] -/
  sram : Bool := false
  /-- Cells it holds. [6; 08 R206; none] -/
  cells : Nat := 0
  /-- Ingress priority, under which its port counts its cells. [3; 07 R178; none] -/
  rxPrio : Nat := 0
  /-- Its FCS was good. [1; 07 R174; none] -/
  good : Bool := true
  /-- Inject ring and index whose completion it is. [—; 10 R262; none] -/
  inject : Option (Nat × Nat) := none
  /-- Checksums were inserted on the host's request. [1; 07 R179; none] -/
  csum : Bool := false
  /-- Sending station, 0xFFFF none. [16; 10 R260; none] -/
  station : Nat := 0xFFFF
  /-- BSS it was received on, 0xFF none. [8; 10 R260; none] -/
  bss : Nat := 0xFF
  /-- Slice it was received on. [2; 10 R260; none] -/
  slice : Nat := 0
  /-- Punt reason, 1 punt, 2 copy. [8; 07 R202; none] -/
  reason : Nat := 0
  /-- ACL rule of the punt. [16; 07 R202; none] -/
  rule : Nat := 0
  /-- The tag control information of the VLAN tag it carried. [16; 10 R260; none] -/
  tci : Option Nat := none
  /-- RX vector of an air frame. [48 bytes; 04 R102; none] -/
  vector : Bytes := []
  deriving DecidableEq, Repr

/-- One Ethernet port. -/
structure Port where
  /-- Settings. [—; 07 R203; defaults] -/
  cfg : PortCfg
  /-- State. [3; 07 R170; ADMIN_DOWN] -/
  state : PortState
  /-- Bring-up: 0 first attempt, 1 failed and waiting for its retry, 2 retrying. [2; 07 R170; 0] -/
  retry : Nat
  /-- MGT: the PHY reports a link at half duplex. [1; 07 R171; false] -/
  half : Bool
  /-- Speed code. [8; 07 R203; 0] -/
  speed : Nat
  /-- FEC active. [8; 07 R203; 0] -/
  fecActive : Nat
  /-- Partner sent pause or PFC in the last second. [1; 07 R203; 0] -/
  partner : Bool
  /-- Link changes. [32; 07 R203; 0] -/
  changes : Nat
  /-- Stopped by an 802.3x pause. [1; 07 R177; false] -/
  paused : Bool
  /-- Priorities stopped by PFC. [8; 07 R177; 0] -/
  pfcStopped : Nat
  /-- XOFF sent and not yet cleared, per priority (bit 0 for 802.3x). [8; 07 R178; 0] -/
  xoffSent : Nat
  /-- Pause and PFC frames that wait for the frame in progress to end: priority mask and quanta. [—; 07 R178; empty] -/
  pauseOwed : List (Nat × Nat)
  /-- Cells held per ingress priority. [8 x 16; 07 R178; 0] -/
  cells : List Nat
  /-- Cells in the hold area. [16; 07 R176; 0] -/
  holdCells : Nat
  /-- Priorities whose FIFO head waits for the hold area or a work class. [8; 07 R176; 0] -/
  blocked : Nat
  /-- Running time from which a received pause stops the port or a queue; none while nothing is stopped. [64; 07 R177; none] -/
  stoppedAt : Option Nat
  /-- RX_HOLD_DROP of the current second. [32; 07 R204; 0] -/
  holdDropNow : Nat
  /-- Frame being sent. [—; 07 R173; none] -/
  sending : Option (Nat × Frame)
  /-- Frames awaiting their MACsec verdict: frame, SC, AN, PN. [—; 07 R181; empty] -/
  icv : List (Frame × Nat × Nat × Nat)
  /-- The 48 counters. [48 x 64; 07 R184; 0] -/
  counters : Tab Nat
  /-- Last snapshot: number, raw TIME_NS, counters. [—; 07 R184; none] -/
  snapshot : Option (Nat × Nat × Tab Nat)
  /-- SecY. [—; 07 R180; none] -/
  secy : SecY
  /-- Wake patterns. [16; 07 R185; none] -/
  patterns : Tab WakePattern
  /-- Wake MAC of the magic packet. [48; 07 R185; 0] -/
  magicMac : Nat
  /-- Magic packet enabled. [1; 07 R185; 0] -/
  magic : Bool
  /-- Forwarding is not ready after a wake. [1; 07 R186; false] -/
  notReady : Bool
  deriving DecidableEq, Repr

/-- A VLAN (R189, R192). -/
structure Vlan where
  /-- Flags. [8; 07 R203; none] -/
  flags : Nat
  /-- Members. [5; 07 R203; none] -/
  members : Nat
  /-- Untagged. [5; 07 R203; none] -/
  untagged : Nat
  /-- Router MAC. [48; 07 R192; none] -/
  mac : Nat
  /-- IPv4 address and length. [32 + 8; 07 R192; none] -/
  v4 : Nat × Nat
  /-- IPv6 address and length. [128 + 8; 07 R192; none] -/
  v6 : Nat × Nat
  /-- MTU. [16; 07 R203; 1500] -/
  mtu : Nat
  deriving DecidableEq, Repr

/-- A MAC table entry (R191). -/
structure MacEntry where
  /-- VLAN. [12; 07 R191; none] -/
  vlan : Nat
  /-- Address. [48; 07 R191; none] -/
  addr : Nat
  /-- Port 0 to 4, or 5 for a station on the air. [3; 07 R191; none] -/
  port : Nat
  /-- Station handle of a static entry. [11; 07 R191; none] -/
  station : Option Nat
  /-- It lies in the overflow area. [1; 07 R191; none] -/
  overflow : Bool
  /-- Moves in the current second. [8; 07 R191; 0] -/
  moves : Nat
  /-- Second in which its address was last a source on its port. [64; 07 R191; none] -/
  seen : Nat
  deriving DecidableEq, Repr

/-- A route (R192). -/
structure Route where
  /-- Family, 4 or 6. [8; 07 R203; none] -/
  family : Nat
  /-- Prefix length. [8; 07 R203; none] -/
  len : Nat
  /-- Prefix, as a number in transmission order. [128; 07 R203; none] -/
  pfx : Nat
  /-- Kind, 0 connected, 1 via gateway, 2 drop, 3 local. [8; 07 R192; none] -/
  kind : Nat
  /-- Egress interface VLAN. [12; 07 R203; none] -/
  iface : Nat
  /-- Gateway. [128; 07 R203; none] -/
  gateway : Nat
  deriving DecidableEq, Repr

/-- A next hop (R193). -/
structure NextHop where
  /-- Interface VLAN. [12; 07 R193; none] -/
  iface : Nat
  /-- IP address. [128; 07 R193; none] -/
  addr : Nat
  /-- Link-layer address once resolved. [48; 07 R193; none] -/
  mac : Option Nat
  /-- Requests sent so far. [2; 07 R193; 0] -/
  tries : Nat
  /-- Packets waiting, at most 4. [—; 07 R193; empty] -/
  waiting : List Frame
  /-- Unreachable mark running. [1; 07 R193; false] -/
  unreachable : Bool
  deriving DecidableEq, Repr

/-- A flow entry (R195). -/
structure Flow where
  /-- State, row of R198's table. [3; 07 R198; none] -/
  state : Nat
  /-- Family, 4 or 6. [8; 07 R203; none] -/
  family : Nat
  /-- Protocol. [8; 07 R203; none] -/
  proto : Nat
  /-- Flags: bit 0 IPv6, 1 NAT, 2 static forward. [8; 07 R203; none] -/
  flags : Nat
  /-- Inside source. [128; 07 R203; none] -/
  src : Nat
  /-- Destination. [128; 07 R203; none] -/
  dst : Nat
  /-- Inside source port. [16; 07 R203; none] -/
  sport : Nat
  /-- Destination port. [16; 07 R203; none] -/
  dport : Nat
  /-- NAT address. [32; 07 R203; 0] -/
  nat : Nat
  /-- NAT port. [16; 07 R203; 0] -/
  natPort : Nat
  /-- FIN seen per direction. [2; 07 R198; 0] -/
  fins : Nat
  /-- Operating second of its last packet. [32; 07 R198; none] -/
  last : Nat
  /-- Packets. [32; 07 R203; 0] -/
  packets : Nat
  /-- Octets. [64; 07 R203; 0] -/
  octets : Nat
  deriving DecidableEq, Repr

/-- A NAT pool (R197). -/
structure NatPool where
  /-- First address. [32; 07 R203; none] -/
  first : Nat
  /-- Addresses. [8; 07 R203; none] -/
  count : Nat
  /-- Flags. [8; 07 R203; none] -/
  flags : Nat
  /-- Lowest port. [16; 07 R203; 1024] -/
  low : Nat
  /-- Highest port. [16; 07 R203; 65,535] -/
  high : Nat
  /-- Interface VLAN is the table's key; setups failed in the current second. [32; 07 R204; 0] -/
  failedNow : Nat
  deriving DecidableEq, Repr

/-- A static forward (R197). -/
structure Forward where
  /-- Interface VLAN, bytes 2 to 3 name the index, so the outside interface is any NAT outside one; protocol. [8; 07 R203; none] -/
  proto : Nat
  /-- Outside port. [16; 07 R203; none] -/
  outside : Nat
  /-- Inside address. [32; 07 R203; none] -/
  inside : Nat
  /-- Inside port. [16; 07 R203; none] -/
  port : Nat
  deriving DecidableEq, Repr

/-- An ACL rule (R199). -/
structure AclRule where
  /-- The command's bytes 0 to 67 as stored. [68 bytes; 07 R203; none] -/
  bytes : Bytes
  /-- Hit count. [64; 07 R199; 0] -/
  hits : Nat
  /-- Octet count. [64; 07 R199; 0] -/
  octets : Nat
  deriving DecidableEq, Repr

/-- A multicast group kept by snooping (R201). -/
structure Group where
  /-- VLAN. [12; 07 R201; none] -/
  vlan : Nat
  /-- Group MAC address. [48; 07 R201; none] -/
  addr : Nat
  /-- Member stations. [—; 07 R201; none] -/
  members : List Nat
  /-- Member ports. [5; 07 R201; none] -/
  ports : Nat
  /-- Delivered group-addressed since membership passed 64. [1; 07 R201; false] -/
  grouped : Bool
  deriving DecidableEq, Repr

/-- A 5-tuple: family, protocol, source, destination, source port, destination port. -/
structure Tuple where
  /-- Family, 4 or 6. [8; 07 R203; none] -/
  family : Nat
  /-- Protocol. [8; 07 R195; none] -/
  proto : Nat
  /-- Source. [128; 07 R195; none] -/
  src : Nat
  /-- Destination. [128; 07 R195; none] -/
  dst : Nat
  /-- Source port. [16; 07 R195; none] -/
  sport : Nat
  /-- Destination port. [16; 07 R195; none] -/
  dport : Nat
  deriving DecidableEq, Repr

/-- A packet held for flow setup on a packet core (R196). -/
structure HeldFlow where
  /-- The 5-tuple. [—; 07 R196; none] -/
  key : Tuple
  /-- Frames held, first packet first. [—; 07 R196; none] -/
  frames : List Frame
  deriving DecidableEq, Repr

/-- The wired group. -/
structure Wire where
  /-- Ports 0 to 4. [5; 07 R169; as Port] -/
  ports : Tab Port
  /-- Free cells of packet SRAM. [16; 07 R206; 32,768] -/
  sramFree : Nat
  /-- VLANs. [4094; 07 R189; none] -/
  vlans : Tab Vlan
  /-- MAC table. [65,536; 07 R191; empty] -/
  macs : List MacEntry
  /-- Routes. [98,304; 07 R192; empty] -/
  routes : List Route
  /-- Next hops. [16,384; 07 R193; empty] -/
  nextHops : List NextHop
  /-- Flow table by index. [262,144; 07 R195; empty] -/
  flows : Tab Flow
  /-- Packets held for flow setup. [—; 07 R196; empty] -/
  held : List HeldFlow
  /-- Frames awaiting their lookup, in arrival order. [—; 07 R188; empty] -/
  lookup : List Frame
  /-- NAT pools by interface. [—; 07 R197; none] -/
  pools : Tab NatPool
  /-- Static forwards by index. [1024; 07 R197; none] -/
  forwards : Tab Forward
  /-- Fragment table: source, destination, identification, flow index. [4096; 07 R197; empty] -/
  fragments : List (Nat × Nat × Nat × Nat)
  /-- Flow timeouts of R198, seconds, in table order. [7 x 32; 07 R198; defaults] -/
  timeouts : List Nat
  /-- MAC aging time, seconds. [32; 07 R191; 300] -/
  macAging : Nat
  /-- ACL rules by number. [4096; 07 R199; none] -/
  acl : Tab AclRule
  /-- Multicast groups. [1024; 07 R201; empty] -/
  groups : List Group
  /-- MAC moves counted. [32; 07 R191; 0] -/
  moves : Nat
  /-- Flows refused in the current second. [32; 07 R204; 0] -/
  refusedNow : Nat
  /-- ICMP errors sent in the current second. [8; 07 R192; 0] -/
  icmpNow : Nat
  deriving DecidableEq, Repr

/-- Settings of a port at their defaults (R203); `mgt` is port 4. -/
def PortCfg.reset (mgt : Bool) : PortCfg :=
  ⟨if mgt then 6 else 5, if mgt then 0 else 2, 0, 0, 9216, 1, 2, 0, 512, 384, 320, 1024, false⟩

/-- A SecY after reset. -/
def SecY.reset : SecY := ⟨0, 0, 0, [], none, [], []⟩

/-- A port after reset (R170). -/
def Port.reset (mgt : Bool) : Port where
  cfg := .reset mgt
  state := .adminDown
  retry := 0
  half := false
  speed := 0
  fecActive := 0
  partner := false
  changes := 0
  paused := false
  pfcStopped := 0
  xoffSent := 0
  pauseOwed := []
  cells := List.replicate 8 0
  holdCells := 0
  blocked := 0
  stoppedAt := none
  holdDropNow := 0
  sending := none
  icv := []
  counters := []
  snapshot := none
  secy := .reset
  patterns := []
  magicMac := 0
  magic := false
  notReady := false

/-- The wired group after reset (R191, R198, R206). -/
def Wire.reset : Wire where
  ports := [(0, .reset false), (1, .reset false), (2, .reset false), (3, .reset false), (4, .reset true)]
  sramFree := 32768
  vlans := []
  macs := []
  routes := []
  nextHops := []
  flows := []
  held := []
  lookup := []
  pools := []
  forwards := []
  fragments := []
  timeouts := [30, 3600, 10, 30, 120, 30, 300]
  macAging := 300
  acl := []
  groups := []
  moves := 0
  refusedNow := 0
  icmpNow := 0

end Sys2Proof.Machine
end

