-- ==== Sys2Proof/Machine/Packet.lean ====
section
/-! DEFINITION. Reading and rewriting the headers of a frame: VLAN tag, IPv4, IPv6, TCP, UDP and ICMP, and their checksums
(R179, R188, R194, R197). Offsets count from the destination address of an untagged frame. -/
namespace Sys2Proof.Machine

/-- The tag control information of a VLAN tag (TPID 0x8100), where there is one (R188, R189). -/
def tagOf (b : Bytes) : Option Nat := if 16 ≤ b.length && rdBe b 12 2 == 0x8100 then some (rdBe b 14 2) else none

/-- The frame without its VLAN tag. -/
def untag (b : Bytes) : Bytes := if (tagOf b).isSome then b.take 12 ++ b.drop 16 else b

/-- The frame with a VLAN tag. -/
def withTag (tci : Nat) (b : Bytes) : Bytes := b.take 12 ++ beBytes 2 0x8100 ++ beBytes 2 tci ++ b.drop 12

/-- The EtherType of an untagged frame. -/
def etherType (b : Bytes) : Nat := rdBe b 12 2

/-- Bytes written over a frame's own at an offset. -/
def splice (b : Bytes) (o : Nat) (x : Bytes) : Bytes := b.take o ++ x ++ b.drop (o + x.length)

/-- What stage 1 reads from an IP packet (R188). -/
structure Ip where
  /-- Family, 4 or 6. -/
  family : Nat
  /-- Source address. -/
  src : Nat
  /-- Destination address. -/
  dst : Nat
  /-- Protocol or next header. -/
  proto : Nat
  /-- TTL or hop limit. -/
  ttl : Nat
  /-- DSCP. -/
  dscp : Nat
  /-- Offset of the L4 header. -/
  l4 : Nat
  /-- Length of the IP packet. -/
  len : Nat
  /-- IPv4 options present. -/
  options : Bool
  /-- Don't Fragment. -/
  df : Bool
  /-- More Fragments. -/
  mf : Bool
  /-- Fragment offset, 8-byte units. -/
  offset : Nat
  /-- Identification. -/
  ident : Nat
  /-- Source port, or the identifier of an ICMP query. -/
  sport : Nat
  /-- Destination port, or the identifier of an ICMP reply. -/
  dport : Nat
  /-- TCP flags. -/
  flags : Nat
  deriving DecidableEq, Repr

/-- Source and destination port of a protocol at an offset: of TCP and UDP, and the identifier of an ICMP echo. -/
def portsAt (b : Bytes) (proto l4 : Nat) : Nat × Nat :=
  if proto = 6 ∨ proto = 17 then (rdBe b l4 2, rdBe b (l4 + 2) 2)
  else if proto = 1 ∨ proto = 58 then
    (if rdBe b l4 1 = 8 ∨ rdBe b l4 1 = 128 then (rdBe b (l4 + 4) 2, 0)
     else if rdBe b l4 1 = 0 ∨ rdBe b l4 1 = 129 then (0, rdBe b (l4 + 4) 2) else (0, 0))
  else (0, 0)

/-- The IP header at an offset. -/
def ipAt (b : Bytes) (o : Nat) : Option Ip :=
  let v := rdBe b o 1 / 16
  if v = 4 && decide (o + 20 ≤ b.length) then
    let ihl := rdBe b o 1 % 16 * 4
    let fr := rdBe b (o + 6) 2
    let proto := rdBe b (o + 9) 1
    let pt := if fr % 8192 = 0 then portsAt b proto (o + ihl) else (0, 0)
    some ⟨4, rdBe b (o + 12) 4, rdBe b (o + 16) 4, proto, rdBe b (o + 8) 1, rdBe b (o + 1) 1 / 4, o + ihl,
      rdBe b (o + 2) 2, decide (20 < ihl), bit fr 14, bit fr 13, fr % 8192, rdBe b (o + 4) 2, pt.1, pt.2,
      if proto = 6 then rdBe b (o + ihl + 13) 1 else 0⟩
  else if v = 6 && decide (o + 40 ≤ b.length) then
    let proto := rdBe b (o + 6) 1
    let pt := portsAt b proto (o + 40)
    some ⟨6, rdBe b (o + 8) 16, rdBe b (o + 24) 16, proto, rdBe b (o + 7) 1, rdBe b o 2 / 64 % 64, o + 40,
      rdBe b (o + 4) 2 + 40, false, false, false, 0, 0, pt.1, pt.2, if proto = 6 then rdBe b (o + 53) 1 else 0⟩
  else none

/-- The IP packet of an untagged frame, by its EtherType. -/
def ipOf (b : Bytes) : Option Ip :=
  match etherType b with
  | 0x0800 => (ipAt b 14).filter fun i => i.family == 4
  | 0x86DD => (ipAt b 14).filter fun i => i.family == 6
  | _ => none

/-- The 5-tuple of a packet. -/
def ipTuple (i : Ip) : Tuple := ⟨i.family, i.proto, i.src, i.dst, i.sport, i.dport⟩

/-! ### Checksums (R179) -/

/-- The ones' complement sum of a byte string in 16-bit words, in addition to a sum so far. -/
def ones : Bytes → Nat → Nat
  | [], n => n
  | [a], n => (n + a.toNat * 256) % 65536 + (n + a.toNat * 256) / 65536
  | a :: b :: r, n =>
    let t := n + (a.toNat * 256 + b.toNat)
    ones r (t % 65536 + t / 65536)

/-- The checksum of a byte string after a sum so far. -/
def checksum (b : Bytes) (n : Nat) : Nat := 65535 - ones b n % 65536

/-- The IPv4 header's checksum is right. -/
def headerGood (b : Bytes) (i : Ip) : Bool := i.family != 4 || ones (field b 14 (i.l4 - 14)) 0 == 65535

/-- The sum of the pseudo header of TCP, UDP or ICMPv6. -/
def pseudo (i : Ip) : Nat :=
  let n := i.len - (i.l4 - 14)
  ones ((if i.family = 4 then beBytes 4 i.src ++ beBytes 4 i.dst else beBytes 16 i.src ++ beBytes 16 i.dst)
    ++ beBytes 2 i.proto ++ beBytes 2 n) 0

/-- Offset of the L4 checksum; none where the protocol has none. -/
def csumAt (i : Ip) : Option Nat :=
  match i.proto with
  | 6 => some (i.l4 + 16)
  | 17 => some (i.l4 + 6)
  | 1 => some (i.l4 + 2)
  | 58 => some (i.l4 + 2)
  | _ => none

/-- The L4 checksum of an unfragmented TCP, UDP, ICMP or ICMPv6 packet is right. An IPv4 UDP checksum of zero passes, an IPv6
one fails. -/
def l4Good (b : Bytes) (i : Ip) : Bool :=
  match csumAt i with
  | none => true
  | some o =>
    if i.mf || i.offset != 0 then true
    else if i.proto = 17 && rdBe b o 2 == 0 then i.family == 4
    else ones (field b i.l4 (i.len - (i.l4 - 14))) (if i.proto = 1 then 0 else pseudo i) == 65535

/-- A checksum updated for one 16-bit word that changes (RFC 1624); an IPv4 UDP checksum of zero stays zero, and none becomes
zero, which would say that there is none. -/
def csumStep (udp : Bool) (old new : Nat) (c : Nat) : Nat :=
  if udp && c == 0 then 0
  else
    let t := (65535 - c) + (65535 - old) + new
    let t := t % 65536 + t / 65536
    let c := 65535 - (t % 65536 + t / 65536) % 65536
    if udp && c == 0 then 65535 else c

/-- The checksum at an offset updated for a word. -/
def csumFix (udp : Bool) (o old new : Nat) (b : Bytes) : Bytes := splice b o (beBytes 2 (csumStep udp old new (rdBe b o 2)))

/-- A 16-bit word of the IP header rewritten with the header checksum. -/
def setHeaderWord (o new : Nat) (b : Bytes) : Bytes := csumFix false 24 (rdBe b o 2) new (splice b o (beBytes 2 new))

/-- A 16-bit word rewritten with the L4 checksum where the packet carries one. -/
def setL4Word (i : Ip) (o new : Nat) (b : Bytes) : Bytes :=
  let old := rdBe b o 2
  let b := splice b o (beBytes 2 new)
  match csumAt i with
  | some c => if i.offset = 0 then csumFix (i.proto == 17) c old new b else b
  | none => b

/-- The L4 checksum updated for an address word of the pseudo header. -/
def fixPseudo (i : Ip) (old new : Nat) (b : Bytes) : Bytes :=
  match csumAt i with
  | some c => if i.offset = 0 && i.proto != 1 then csumFix (i.proto == 17) c old new b else b
  | none => b

/-- An IPv4 address rewritten at its offset, 26 the source, 30 the destination, with both checksums (R179). -/
def setV4 (i : Ip) (o a : Nat) (b : Bytes) : Bytes :=
  let hi := rdBe b o 2
  let lo := rdBe b (o + 2) 2
  fixPseudo i lo (a % 65536) (fixPseudo i hi (a / 65536)
    (setHeaderWord (o + 2) (a % 65536) (setHeaderWord o (a / 65536) b)))

/-- The source or destination port, or the ICMP identifier, rewritten. -/
def setPort16 (i : Ip) (source : Bool) (p : Nat) (b : Bytes) : Bytes :=
  if i.offset != 0 then b
  else if i.proto = 6 ∨ i.proto = 17 then setL4Word i (if source then i.l4 else i.l4 + 2) p b
  else if i.proto = 1 then setL4Word i (i.l4 + 4) p b
  else b

/-- The TTL or hop limit decremented, with the IPv4 header checksum (R194). -/
def decTtl (i : Ip) (b : Bytes) : Bytes :=
  if i.family = 4 then setHeaderWord 22 (rdBe b 22 2 - 256) b else splice b 21 (beBytes 1 (i.ttl - 1))

/-- The DSCP rewritten (R200). -/
def setDscp (i : Ip) (d : Nat) (b : Bytes) : Bytes :=
  if i.family = 4 then setHeaderWord 14 (rdBe b 14 2 / 256 * 256 + d * 4 + rdBe b 15 1 % 4) b
  else splice b 14 (beBytes 2 (rdBe b 14 2 / 4096 * 4096 + d * 64 + rdBe b 14 2 % 64))

/-- IPv4 header and L4 checksums computed and inserted (R179). -/
def insertChecksums (b : Bytes) : Bytes :=
  match ipOf b with
  | none => b
  | some i =>
    let b := if i.family = 4 then
        let b := splice b 24 (beBytes 2 0)
        splice b 24 (beBytes 2 (checksum (field b 14 (i.l4 - 14)) 0))
      else b
    match csumAt i with
    | none => b
    | some o =>
      if i.mf || i.offset != 0 then b
      else
        let b := splice b o (beBytes 2 0)
        let c := checksum (field b i.l4 (i.len - (i.l4 - 14))) (if i.proto = 1 then 0 else pseudo i)
        splice b o (beBytes 2 (if i.proto = 17 && c == 0 then 65535 else c))

/-- The fragments of an IPv4 packet for an MTU: header, then payload in multiples of 8 bytes (R194). -/
def fragments (i : Ip) (mtu : Nat) (b : Bytes) : List Bytes :=
  let hdr := i.l4 - 14
  let unit := (mtu - hdr) / 8 * 8
  let body := field b i.l4 (i.len - hdr)
  if unit = 0 then []
  else
    let n := (body.length + unit - 1) / unit
    (List.range n).map fun k =>
      let part := (body.drop (k * unit)).take unit
      let last := decide (k + 1 = n) && !i.mf
      let h := field b 14 hdr
      let h := splice h 2 (beBytes 2 (hdr + part.length))
      let h := splice h 6 (beBytes 2 ((if last then 0 else 8192) + i.offset + k * unit / 8))
      let h := splice h 10 (beBytes 2 0)
      let h := splice h 10 (beBytes 2 (checksum h 0))
      b.take 14 ++ h ++ part

/-- Destination of a frame as a number. -/
def dstMac (b : Bytes) : Nat := rdBe b 0 6
/-- Source of a frame as a number. -/
def srcMac (b : Bytes) : Nat := rdBe b 6 6
/-- The broadcast address. -/
def broadcast : Nat := 0xFFFFFFFFFFFF
/-- A frame to a group or broadcast address. -/
def groupBound (b : Bytes) : Bool := bit (rdBe b 0 1) 0

end Sys2Proof.Machine
end

