-- ==== Sys2Proof/Config.lean ====
section
/-! DEFINITION. What a device fixes and the spec leaves open: constants without a body, so that nothing can be proved from
their values. -/
namespace Sys2Proof

/-- SHA-384 (R288, R293): the spec names the function and uses it in digests alone; it stays uninterpreted (log entry 11). -/
opaque Config.sha384 : Bytes → Bytes

/-- The sealing public key and recipient ID that the RMA label gives for a device-unique secret (R289). -/
opaque Config.rmaSealing : Bytes → Bytes × Bytes

/-- PMK-R0 and its name that a PMK, an SSID and a station address give (R448): the spec names them and gives no derivation. -/
opaque Config.pmkR0 : Bytes → Bytes → Nat → Bytes × Bytes

/-- PMKID of a PMK, an AP address and a station address (R448): named without a derivation. -/
opaque Config.pmkid : Bytes → Nat → Nat → Bytes

/-- The hash that gives a 5-tuple its atomic flow key; a key is its low 18 bits (R196, R349). -/
opaque Config.flowHash : Bytes → Nat

/-- The hash that gives a VLAN and a MAC address their bucket; the bucket is its value modulo 16,320 (R191). -/
opaque Config.macHash : Nat → Nat → Nat

/-- The level of ADC full scale at a receive chain's input with no gain, dB (R89). -/
opaque Config.adcFullScale : Int

/-- How the canceller scales a sum of its fixed-point products to a sample (R54). -/
opaque Config.haloScale : Int → Int

/-- The extended address derived from a device serial (R397): the spec gives no derivation. -/
opaque Config.drzAddress : Bytes → Nat

/-- The random part of a flood relay's jitter (R391), by origin, sequence and running time. -/
opaque Config.drzJitter : Nat → Nat → Nat → Nat

/-! Slot B of a Nimbus bundle: R369 gives its groups 0x3, 0x4, 0x5 and 0x7 and says that their layouts follow the VLD row, but
not how a word names the operation. What a word names is left open (log entry 18); none is a reserved encoding. -/

/-- Group 0x3, a scalar access: store, log2 of its size in bytes, sign extension of a load, and the P register. -/
opaque Config.scalarOp : Word32 → Option (Bool × Nat × Bool × Nat)

/-- Group 0x4, address arithmetic: the destination, true for an M register, and its number. -/
opaque Config.addressDest : Word32 → Option (Bool × Nat)

/-- The result of an address operation from the P and M registers. -/
opaque Config.addressValue : Word32 → List Word32 → List Word32 → Word32

/-- Group 0x5, a branch: whether it branches on non-zero. Its P register is the Pn field. -/
opaque Config.branchOp : Word32 → Option Bool

/-- The byte address a branch at a byte address targets. -/
opaque Config.branchTarget : Word32 → Nat → Nat

/-- Group 0x7, MVC: to the special register (true) or from it; 0 STW, 1 BASE, 2 LEN; its number; and the P register. -/
opaque Config.mvcOp : Word32 → Option (Bool × Nat × Nat × Nat)

end Sys2Proof
end

