-- ==== Sys2Proof/Machine/Flags.lean ====
section
/-! DEFINITION. Status codes (R275), event and record codes (R286, R427), and the command table of R267. -/
namespace Sys2Proof.Machine

/-- ST_OK. -/
def ST.ok : Nat := 0x0000
/-- ST_PENDING. -/
def ST.pending : Nat := 0x0001
/-- ST_OK_RETRIED. -/
def ST.okRetried : Nat := 0x0002
/-- ST_BAD_CMD. -/
def ST.badCmd : Nat := 0x0010
/-- ST_BAD_PARAM. -/
def ST.badParam : Nat := 0x0011
/-- ST_BAD_LENGTH. -/
def ST.badLength : Nat := 0x0012
/-- ST_BAD_STATE. -/
def ST.badState : Nat := 0x0013
/-- ST_POWERED_OFF. -/
def ST.poweredOff : Nat := 0x0014
/-- ST_BAD_CRC. -/
def ST.badCrc : Nat := 0x0015
/-- ST_BUSY. -/
def ST.busy : Nat := 0x0020
/-- ST_NO_RESOURCE. -/
def ST.noResource : Nat := 0x0021
/-- ST_CROWN_FULL. -/
def ST.crownFull : Nat := 0x0022
/-- ST_NOT_AUTHORISED. -/
def ST.notAuthorised : Nat := 0x0030
/-- ST_SIGNATURE_FAIL. -/
def ST.signatureFail : Nat := 0x0031
/-- ST_KEY_ABSENT. -/
def ST.keyAbsent : Nat := 0x0032
/-- ST_AUTH_FAIL. -/
def ST.authFail : Nat := 0x0033
/-- ST_REGULATORY_DENIED. -/
def ST.regulatoryDenied : Nat := 0x0040
/-- ST_SYNTH_NOT_READY. -/
def ST.synthNotReady : Nat := 0x0041
/-- ST_TX_LOCKED. -/
def ST.txLocked : Nat := 0x0042
/-- ST_VERSION_MISMATCH. -/
def ST.versionMismatch : Nat := 0x0050
/-- ST_BELOW_FLOOR. -/
def ST.belowFloor : Nat := 0x0051
/-- ST_FAULT_LASTING. -/
def ST.faultLasting : Nat := 0x0060
/-- ST_NOTHING_TO_ABORT. -/
def ST.nothingToAbort : Nat := 0x0070
/-- ST_ABORTED. -/
def ST.aborted : Nat := 0x0071
/-- ST_TIME_JUMP_REFUSED. -/
def ST.timeJumpRefused : Nat := 0x0080
/-- ST_INTERNAL. -/
def ST.internal : Nat := 0x00FF

/-- A status that reports a command done or accepted; every other one reports a command that changed nothing (R275). -/
def ST.good (st : Nat) : Bool := st == ST.ok || st == ST.pending || st == ST.okRetried

/-- Every command code of R267. -/
def cmdCodes : List Nat :=
  [0x0001, 0x0002, 0x0003, 0x0004, 0x0005, 0x0101, 0x0102, 0x0103, 0x0104,
   0x0201, 0x0202, 0x0203, 0x0204, 0x0205, 0x0206, 0x0207, 0x0208, 0x0209, 0x020A, 0x020B,
   0x0301, 0x0302, 0x0303, 0x0304, 0x0305, 0x0306, 0x0307, 0x0308, 0x0309]
  ++ [0x0401, 0x0402, 0x0403, 0x0404, 0x0405, 0x0406, 0x0407,
   0x0501, 0x0502, 0x0503, 0x0504, 0x0505, 0x0506, 0x0507, 0x0508,
   0x0601, 0x0602, 0x0603, 0x0604, 0x0605, 0x0606, 0x0607, 0x0608, 0x0609]
  ++ [0x0701, 0x0702, 0x0703, 0x0704, 0x0705, 0x0706, 0x0801, 0x0802, 0x0803, 0x0804,
   0x0901, 0x0902, 0x0903, 0x0904, 0x0A01, 0x0A02, 0x0A03, 0x0A04, 0x0A05,
   0x0B01, 0x0B02, 0x0B03, 0x0B04, 0x0C01, 0x0C02, 0x0C03, 0x0C04, 0x0C05]
  ++ [0x0D01, 0x0D02, 0x0D03, 0x0D04, 0x0D05, 0x0E01, 0x0E02, 0x0E03, 0x0E04, 0x0F01, 0x0F02]

/-- Commands whose Ext column holds In (R267). -/
def extInCodes : List Nat :=
  [0x0207, 0x020A, 0x0502, 0x0503, 0x0506, 0x0703, 0x0904, 0x0B01, 0x0D04, 0x0E02]

/-- Commands served in limp mode (R267, column Also, L). -/
def limpCodes : List Nat := [0x0001, 0x0002, 0x0003, 0x0A01, 0x0A05]

/-- Commands served by the boot ROM in stage 0x07 (R267, column Also, R). -/
def romCodes : List Nat := [0x0001, 0x0E01, 0x0E02, 0x0E04]

/-- Commands served while PWR_STAT.CHANGING is set (R400). -/
def changingCodes : List Nat := [0x0001, 0x0003, 0x0102, 0x0A01, 0x0A05]

/-- Async commands that SYS_ABORT never stops (R270). -/
def neverCodes : List Nat :=
  [0x0502, 0x0503, 0x0504, 0x0902, 0x0A03, 0x0B01, 0x0D03, 0x0D04, 0x0D05, 0x0E02, 0x0E03, 0x0E04]

/-- The codes the running code serves in a stage (R251, R267, R417). -/
def servedCodes (stage : Nat) : List Nat :=
  if stage = 4 then cmdCodes
  else if stage = 5 then limpCodes
  else if stage = 7 then romCodes
  else if stage = 6 then romCodes ++ [0x0A05]
  else []

/-- Record codes that R427 marks fixed. -/
def fixedRecordCodes : List Nat := [0x00C1, 0x00C2, 0x00C3, 0x00C4, 0x00C8, 0x00C9]

end Sys2Proof.Machine
end

