-- ==== Sys2Proof/Machine/StateDrz.lean ====
section
/-! DEFINITION. State of the Drizzle radio (chapter 16).
Each field's docstring ends in brackets: width; file and rule of spec/; value at reset. -/
namespace Sys2Proof.Machine

/-- DRZ_SET_CHANNEL as in force. -/
structure DrzChannel where
  /-- Band. [8; 16 R376; DESIGN CHOICE 0, log 2] -/
  band : Nat
  /-- Rate, kb/s / 50. [8; 16 R376; DESIGN CHOICE 5, log 2] -/
  rate : Nat
  /-- Channel. [8; 16 R376; DESIGN CHOICE 11, log 2] -/
  channel : Nat
  /-- PAN ID. [16; 16 R397; DESIGN CHOICE 0, log 2] -/
  pan : Nat
  /-- Short address. [16; 16 R397; DESIGN CHOICE 0, log 2] -/
  short : Nat
  /-- Extended address, as sent (all zero = derived). [8 bytes; 16 R397; DESIGN CHOICE 0, log 2] -/
  ext : Bytes
  /-- Power, dBm. [8 signed; 16 R379; DESIGN CHOICE 0, log 2] -/
  power : Int
  /-- CCA threshold, dBm. [8 signed; 16 R397; -75] -/
  cca : Int
  /-- Duty limit, 0.1 %. [16; 16 R379; 1000] -/
  duty : Nat
  /-- Flags: bit 0 radio enabled. [8; 16 R397; DESIGN CHOICE 0, log 2] -/
  flags : Nat
  deriving DecidableEq, Repr

/-- DRZ_SET_CSL as in force. -/
structure DrzCsl where
  /-- Full-period attempts. [8; 16 R385; 3] -/
  attempts : Nat
  /-- Own period, ms. [16; 16 R382; 0] -/
  period : Nat
  /-- Base guard, microseconds. [16; 16 R384; 200] -/
  guardBase : Nat
  /-- STANDBY period, ms. [16; 16 R396; 100] -/
  standby : Nat
  /-- Frame retries. [8; 16 R380; 3] -/
  retries : Nat
  deriving DecidableEq, Repr

/-- DRZ_SET_MESH as in force. -/
structure DrzMesh where
  /-- Flags: bit 0 relay, 1 learn. [8; 16 R391; 0x01] -/
  flags : Nat
  /-- Default TTL. [8; 16 R397; 4] -/
  ttl : Nat
  /-- Jitter, ms. [8; 16 R391; 10] -/
  jitter : Nat
  /-- Suppression. [8; 16 R391; 0] -/
  suppression : Nat
  /-- Punt queue. [8; 16 R393; 0] -/
  punt : Nat
  deriving DecidableEq, Repr

/-- A node table entry (R383, R397). -/
structure DrzNode where
  /-- Flags: bit 0 CSL receiver, 1 security required. [8; 16 R397; none] -/
  flags : Nat
  /-- Extended address. [64; 16 R397; none] -/
  ext : Nat
  /-- Short address. [16; 16 R397; none] -/
  short : Nat
  /-- Key-slot handle. [16; 16 R397; none] -/
  key : Nat
  /-- CSL period, ms. [16; 16 R383; none] -/
  period : Nat
  /-- t_ref, in nanoseconds of running time. [64; 16 R383; none] -/
  tref : Option Nat
  /-- Lost. [1; 16 R385; false] -/
  lost : Bool
  /-- LQI of the last frame. [8; 16 R397; DESIGN CHOICE 0, log 2] -/
  lqi : Nat
  /-- RSSI of the last frame, dBm. [8 signed; 16 R397; DESIGN CHOICE 0, log 2] -/
  rssi : Int
  /-- Operating second it was last heard. [32; 16 R397; DESIGN CHOICE 0, log 2] -/
  heard : Nat
  /-- Receive frame counters by key-slot handle. [32 each; 16 R387; none] -/
  counters : Tab Nat
  /-- Receive frame counter of the last secured frame accepted. [32; 16 R397; DESIGN CHOICE 0, log 2] -/
  counter : Nat
  /-- Replays. [32; 16 R387; 0] -/
  replays : Nat
  /-- MIC failures. [32; 16 R387; 0] -/
  mics : Nat
  /-- Full-period attempts. [32; 16 R385; 0] -/
  full : Nat
  deriving DecidableEq, Repr

/-- A frame queued or in its exchange (R381). -/
structure DrzFrame where
  /-- Kind, 0 unicast, 1 broadcast, 2 flood. [8; 16 R397; none] -/
  kind : Nat
  /-- Queue, 0 to 7. [3; 16 R381; none] -/
  queue : Nat
  /-- Node index; 0xFFFF none. [16; 16 R397; none] -/
  node : Nat
  /-- Security level. [3; 16 R386; none] -/
  level : Nat
  /-- Key-slot handle; 0xFFFF none. [16; 16 R386; none] -/
  key : Nat
  /-- Flags of DRZ_SEND. [8; 16 R397; none] -/
  flags : Nat
  /-- MAC payload, flood header included. [<=2047 bytes; 16 R390; none] -/
  payload : Bytes
  /-- Command it belongs to: transport and tag; none for a relay. [—; 16 R397; none] -/
  owner : Option (Via × Nat)
  /-- Transmissions made. [8; 16 R397; 0] -/
  attempts : Nat
  /-- Full-period attempts made. [8; 16 R385; 0] -/
  fullTried : Nat
  /-- Frame counter used. [32; 16 R397; 0] -/
  counter : Nat
  /-- Backoffs of the CSMA-CA in progress. [3; 16 R380; 0] -/
  nb : Nat
  /-- Backoff exponent. [3; 16 R380; 3] -/
  be : Nat
  /-- Wake-up sequence of the exchange: 0 none, 1 synchronised, 2 full-period. [2; 16 R384 R385; 0] -/
  wake : Nat
  /-- 0 waiting for the channel, 1 channel held until the rendezvous, 2 on the air, 3 an Ack is awaited. [2; 16 R380; 0] -/
  phase : Nat
  /-- Raw TIME_NS of the end of the data frame. [32; 16 R394; 0] -/
  stamp : Nat
  /-- Sample time t_s the wake-up sequence meets, and its guard, in nanoseconds of running time. [2 x 64; 16 R384; 0] -/
  meet : Nat × Nat
  deriving DecidableEq, Repr

/-- A pending flood relay (R391). -/
structure DrzRelay where
  /-- Origin. [16; 16 R391; none] -/
  origin : Nat
  /-- Sequence. [16; 16 R391; none] -/
  seq : Nat
  /-- Duplicates heard during its jitter. [3; 16 R391; 0] -/
  heard : Nat
  /-- The copy to send. [—; 16 R391; none] -/
  frame : DrzFrame
  /-- Running time at which its jitter ends. [64; 16 R391; none] -/
  due : Nat
  deriving DecidableEq, Repr

/-- The low-rate radio. -/
structure Drz where
  /-- Channel record last accepted. [24 bytes; 16 R397; defaults] -/
  channel : DrzChannel
  /-- Channel record in force on the air. [24 bytes; 16 R377; defaults] -/
  channelNow : DrzChannel
  /-- CSL record. [12 bytes; 16 R397; defaults] -/
  csl : DrzCsl
  /-- Mesh record. [8 bytes; 16 R397; defaults] -/
  mesh : DrzMesh
  /-- Node table. [4096; 16 R383; empty] -/
  nodes : Tab DrzNode
  /-- Queued frames, oldest first. [8 queues; 16 R381; empty] -/
  queue : List DrzFrame
  /-- Exchange in progress. [—; 16 R380; none] -/
  exchange : Option DrzFrame
  /-- PA-on time in microseconds of the operating seconds of the last 3600 s. [3600 x 20; 16 R379; empty] -/
  paOn : List (Nat × Nat)
  /-- Frames sent after the first in the rendezvous under way. [4; 16 R381; 0] -/
  follow : Nat
  /-- Next flood sequence. [16; 16 R397; DESIGN CHOICE 0, log 2] -/
  floodSeq : Nat
  /-- Seen-cache: origin and sequence, and the running time each was added, oldest first. [512; 16 R391; empty] -/
  seen : List ((Nat × Nat) × Nat)
  /-- Pending relays. [—; 16 R391; empty] -/
  relays : List DrzRelay
  /-- Transmit frame counters per key slot. [256 x 32; 16 R389; 0] -/
  txCounters : Tab Nat
  /-- Saved counters of the vault records. [256 x 32; 16 R389; kept over resets; 0] -/
  savedCounters : Tab Nat
  /-- Samples taken of its own CSL period. [—; 16 R382; 0] -/
  samples : Nat
  /-- Running time of the latest sample of its own CSL period, its phase. [64; 16 R382; DESIGN CHOICE 0, log 2] -/
  sampled : Nat
  /-- Relayed. [32; 16 R397; 0] -/
  nRelayed : Nat
  /-- Duplicates. [32; 16 R391; 0] -/
  nDup : Nat
  /-- Suppressed. [32; 16 R391; 0] -/
  nSuppressed : Nat
  /-- Not relayed at TTL 0. [32; 16 R397; 0] -/
  nTtl : Nat
  /-- Seen-cache evictions. [32; 16 R391; 0] -/
  nEvicted : Nat
  /-- Learned nodes. [32; 16 R391; 0] -/
  nLearned : Nat
  /-- No-key frames, replays and MIC failures of the current second. [3 x 16; 16 R398; 0] -/
  secNow : Nat × Nat × Nat
  /-- Node table refusals and seen-cache evictions of the current second. [2 x 16; 16 R398; 0] -/
  fullNow : Nat × Nat
  deriving DecidableEq, Repr

/-- The low-rate radio after reset (R397). -/
def Drz.reset : Drz where
  channel := ⟨0, 5, 11, 0, 0, List.replicate 8 0, 0, -75, 1000, 0⟩
  channelNow := ⟨0, 5, 11, 0, 0, List.replicate 8 0, 0, -75, 1000, 0⟩
  csl := ⟨3, 0, 200, 100, 3⟩
  mesh := ⟨1, 4, 10, 0, 0⟩
  nodes := []
  queue := []
  exchange := none
  paOn := []
  follow := 0
  floodSeq := 0
  seen := []
  relays := []
  txCounters := []
  savedCounters := []
  samples := 0
  sampled := 0
  nRelayed := 0
  nDup := 0
  nSuppressed := 0
  nTtl := 0
  nEvicted := 0
  nLearned := 0
  secNow := (0, 0, 0)
  fullNow := (0, 0)

end Sys2Proof.Machine
end

