-- ==== Sys2Proof/Machine/StateDsp.lean ====
section
/-! DEFINITION. State of the Nimbus cores, the kernel store and the capture buffers (chapter 15).
Each field's docstring ends in brackets: width; file and rule of spec/; value at reset. -/
namespace Sys2Proof.Machine

/-- A stored kernel image (R371). -/
structure Kernel where
  /-- Kernel ID. [16; 15 R371; none] -/
  id : Nat
  /-- Version. [32; 15 R371; none] -/
  version : Nat
  /-- Code. [<=58,128 bytes; 15 R371; none] -/
  code : Bytes
  /-- Constant data. [<=58,128 bytes; 15 R371; none] -/
  data : Bytes
  /-- Data address. [32; 15 R371; none] -/
  dataAddr : Nat
  /-- Entry. [32; 15 R371; none] -/
  entry : Nat
  deriving DecidableEq, Repr

/-- An active hardware loop level (R368). -/
structure Loop where
  /-- Byte address of the first bundle of the body. [16; 15 R368; none] -/
  first : Nat
  /-- Byte address of the end bundle. [16; 15 R368; none] -/
  last : Nat
  /-- Passes left, the running one included. [16; 15 R368; none] -/
  left : Nat
  deriving DecidableEq, Repr

/-- The customer kernel running on a core (R373). -/
structure KernelRun where
  /-- Kernel slot. [2; 15 R373; none] -/
  slot : Nat
  /-- Kernel ID. [16; 15 R375; none] -/
  id : Nat
  /-- Transport of its DSP_RUN. [—; 15 R373; none] -/
  via : Via
  /-- Sequence tag of its DSP_RUN. [16; 15 R373; none] -/
  tag : Nat
  /-- Output address. [32; 15 R374; none] -/
  outAddr : Nat
  /-- Output length. [32; 15 R374; none] -/
  outLen : Nat
  /-- Host address. [64; 15 R374; none] -/
  host : Nat
  /-- Cycle limit. [32; 15 R358; none] -/
  limit : Nat
  deriving DecidableEq, Repr

/-- One Nimbus core. -/
structure NimbusCore where
  /-- V0 to V31. [32 x 512; 15 R360; 0] -/
  v : List (BitVec 512)
  /-- ACC0 to ACC7, as 32 lanes of 40 bits. [8 x 1280; 15 R360; 0] -/
  acc : List (List (BitVec 40))
  /-- P0 to P15. [16 x 32; 15 R360; 0] -/
  p : List Word32
  /-- M0 to M7. [8 x 32; 15 R360; 0] -/
  m : List Word32
  /-- BASE0 to BASE7. [8 x 32; 15 R360; 0] -/
  base : List Word32
  /-- LEN0 to LEN7. [8 x 32; 15 R360; 0] -/
  len : List Word32
  /-- STW.OV. [1; 15 R360; 0] -/
  ov : Bool
  /-- Hardware loop levels, innermost first; STW.DEPTH is their number. [<=4; 15 R368; empty] -/
  loops : List Loop
  /-- Address of the next bundle. [16; 15 R361; 0] -/
  pc : Nat
  /-- Instruction memory, non-zero bytes. [64 KiB; 15 R370; 0] -/
  imem : List Host.Cell
  /-- Data memory, non-zero bytes. [512 KiB; 15 R370; 0] -/
  dmem : List Host.Cell
  /-- Cycles used by the running kernel. [32; 15 R358; 0] -/
  cycles : Nat
  /-- The kernel running. [—; 15 R373; none] -/
  run : Option KernelRun
  deriving DecidableEq, Repr

/-- The Nimbus group. -/
structure Dsp where
  /-- Cores NDSP0 to NDSP3. [4; 15 R358; zero] -/
  cores : Tab NimbusCore
  /-- Kernel store in the Felt store, by slot. [4 x 64 KiB; 15 R372; kept over resets; empty at manufacture] -/
  kernels : Tab Kernel
  /-- Capture buffers. [4 x 8 MiB; 02 R59; DESIGN CHOICE empty, log 2] -/
  buffers : Tab Bytes
  /-- Capture buffers locked by DSP_RUN. [4; 15 R373; none] -/
  locked : List Nat
  deriving DecidableEq, Repr

/-- A Nimbus core with every register and memory zero (R360). -/
def NimbusCore.reset : NimbusCore where
  v := List.replicate 32 0
  acc := List.replicate 8 (List.replicate 32 0)
  p := List.replicate 16 0
  m := List.replicate 8 0
  base := List.replicate 8 0
  len := List.replicate 8 0
  ov := false
  loops := []
  pc := 0
  imem := []
  dmem := []
  cycles := 0
  run := none

/-- The Nimbus group after reset. -/
def Dsp.reset : Dsp :=
  ⟨[(0, .reset), (1, .reset), (2, .reset), (3, .reset)], [], [], []⟩

end Sys2Proof.Machine
end

