-- ==== Sys2Proof/Machine/StateEvr.lean ====
section
/-! DEFINITION. State of the event recorder, diagnostics and tests (chapter 18).
Each field's docstring ends in brackets: width; file and rule of spec/; value at reset. -/
namespace Sys2Proof.Machine

/-- A record kept in the Felt store (R425). -/
structure EvrRecord where
  /-- Global ordinal. [32; 18 R421; none] -/
  ordinal : Nat
  /-- It lies in the permanent area. [1; 18 R421; none] -/
  permanent : Bool
  /-- Segment of the circulating area, 0 to 10. [4; 18 R422; none] -/
  segment : Nat
  /-- Offset in its area or segment. [16; 18 R423; none] -/
  offset : Nat
  /-- The record's bytes, CRC included. [16 to 256 bytes; 18 R425; none] -/
  bytes : Bytes
  /-- Operating second of its latest occurrence. [32; 18 R430; none] -/
  lastSeen : Nat
  deriving DecidableEq, Repr

/-- An occurrence waiting for the writer (R428). -/
structure Occurrence where
  /-- Code. [16; 18 R427; none] -/
  code : Nat
  /-- Event payload. [<=112 bytes; 18 R426; none] -/
  payload : Bytes
  /-- Written as a fixed record. [1; 18 R428; none] -/
  fixed : Bool
  /-- Flag bit 1. [1; 18 R425; none] -/
  transient : Bool
  /-- Flag bit 2. [1; 18 R425; none] -/
  lasting : Bool
  /-- It is an event, so its record carries a type 0x01 entry. [1; 18 R426; none] -/
  isEvent : Bool
  /-- Operating seconds when raised. [32; 18 R428; none] -/
  seconds : Nat
  /-- Power-cycle count when raised. [24; 18 R428; none] -/
  cycles : Nat
  /-- Device time when raised. [64; 18 R426; none] -/
  time : Nat
  /-- Type 0x04 and 0x05 entries, as type and value bytes. [—; 18 R426; none] -/
  extra : List (Nat × Bytes)
  deriving DecidableEq, Repr

/-- An open rate window of a code (R430). -/
structure RateWindow where
  /-- Code. [16; 18 R430; none] -/
  code : Nat
  /-- Records written in it. [7; 18 R430; none] -/
  written : Nat
  /-- Occurrences suppressed in it. [32; 18 R431; none] -/
  suppressed : Nat
  /-- Payload of the last suppressed occurrence. [<=112 bytes; 18 R431; none] -/
  last : Bytes
  /-- Its period, in seconds. [16; 18 R439; none] -/
  period : Nat
  /-- Operating second in which it opened. [32; 18 R430; none] -/
  opened : Nat
  deriving DecidableEq, Repr

/-- The event recorder. -/
structure Recorder where
  /-- EVR_COUNT: the ordinal the next record takes. [32; 18 R421; kept over resets; 0 at manufacture] -/
  count : Nat
  /-- Records kept, oldest first. [—; 18 R421; kept over resets; empty at manufacture] -/
  records : List EvrRecord
  /-- Permanent area closed. [1; 18 R421; kept over resets; 0 at manufacture] -/
  permClosed : Bool
  /-- Next free offset of the permanent area. [17; 18 R423; 16 at manufacture] -/
  permNext : Nat
  /-- Current segment of the circulating area. [4; 18 R422; 0 at manufacture] -/
  segment : Nat
  /-- Next free offset of the current segment. [17; 18 R423; 16 at manufacture] -/
  segNext : Nat
  /-- Records written to the circulating area since manufacture have begun. [1; 18 R421; false at manufacture] -/
  segStarted : Bool
  /-- First ordinal in the header of each segment begun. [11 x 32; 18 R422; kept over resets; empty at manufacture] -/
  segFirst : Tab Nat
  /-- Ordinal of the newest record, where repeats may match it (a summary never does). [32; 18 R430; none] -/
  newest : Option Nat
  /-- Writer queue. [<=512; 18 R428; empty] -/
  queue : List Occurrence
  /-- A record was lost before the next one. [1; 18 R428; false] -/
  lostFlag : Bool
  /-- Rate windows open. [—; 18 R430; empty] -/
  windows : List RateWindow
  /-- Repeat window, in seconds. [8; 18 R439; 10] -/
  repeatWindow : Nat
  /-- Limit of records per period. [8; 18 R439; 16] -/
  limit : Nat
  /-- Period, in seconds. [16; 18 R439; 60] -/
  period : Nat
  /-- Suppressed. [32; 18 R439; 0 at manufacture] -/
  suppressed : Nat
  /-- Repeat updates. [32; 18 R439; 0 at manufacture] -/
  repeats : Nat
  /-- Lost. [32; 18 R439; 0 at manufacture] -/
  lost : Nat
  /-- Corrupt. [32; 18 R439; 0 at manufacture] -/
  corrupt : Nat
  /-- Clears. [32; 18 R439; 0 at manufacture] -/
  clears : Nat
  /-- EVR_CLEAR in progress. [1; 18 R434; false] -/
  clearing : Bool
  /-- EVR_CURSOR. [32; 10 R246; 0] -/
  cursor : Nat
  /-- EVR_CTL.PAGE. [2; 10 R246; 0] -/
  page : Nat
  /-- EVR_CTL.NEXT. [1; 10 R246; 0] -/
  next : Bool
  /-- Window buffer: the record latched by EVR_CURSOR or an auto-advance. [256 bytes; 18 R432; zero] -/
  window : Bytes
  /-- EVR_STAT as latched: LENGTH, VALID, FIXED, PERMANENT, GONE, BEYOND. [14; 10 R246; 0] -/
  stat : Word16
  deriving DecidableEq, Repr

/-- The event recorder as manufactured (R421, R439). -/
def Recorder.reset : Recorder where
  count := 0
  records := []
  permClosed := false
  permNext := 16
  segment := 0
  segNext := 16
  segStarted := false
  segFirst := []
  newest := none
  queue := []
  lostFlag := false
  windows := []
  repeatWindow := 10
  limit := 16
  period := 60
  suppressed := 0
  repeats := 0
  lost := 0
  corrupt := 0
  clears := 0
  clearing := false
  cursor := 0
  page := 0
  next := false
  window := []
  stat := 0

end Sys2Proof.Machine
end

