-- ==== Sys2Proof/Machine/StateHost.lean ====
section
/-! DEFINITION. State of the host link: BAR0 registers, slots, events, commands in progress and rings (chapters 10 and 11).
Each field's docstring ends in brackets: width; file and rule of spec/; value at reset. -/
namespace Sys2Proof.Machine

/-- The state of a command slot (R250). -/
inductive SlotState where
  | free | queued | answered
  deriving DecidableEq, Repr

/-- An object that an async command locks (R271). -/
inductive Obj where
  /-- Radio slice n. -/
  | slice (n : Nat)
  /-- BSS handle n. -/
  | bss (n : Nat)
  /-- Station handle n. -/
  | station (n : Nat)
  /-- Key-slot handle n, or vault index n - 65536. -/
  | key (n : Nat)
  /-- Configuration bank n. -/
  | bank (n : Nat)
  /-- DSP kernel slot n. -/
  | kernel (n : Nat)
  /-- Firmware image slot n. -/
  | image (n : Nat)
  /-- Ethernet port n. -/
  | port (n : Nat)
  /-- The power state of the device. -/
  | power
  /-- The event recorder. -/
  | recorder
  /-- Sealed-credential handle n. -/
  | credential (n : Nat)
  /-- Blob kind x 65536 + label. -/
  | label (n : Nat)
  /-- RADIUS profile n. -/
  | radius (n : Nat)
  /-- The fleet key. -/
  | fleetKey
  /-- A unit under BIST, by target number (R438). -/
  | bist (n : Nat)
  deriving DecidableEq, Repr

/-- An async command between its ST_PENDING and its end (R252). -/
structure AsyncCmd where
  /-- Transport and sender. [—; 10 R252; none] -/
  via : Via
  /-- Sequence tag. [16; 10 R252; none] -/
  tag : Nat
  /-- Command code. [16; 10 R252; none] -/
  code : Nat
  /-- Objects it locks. [—; 11 R271; none] -/
  locks : List Obj
  /-- Whether it has passed the last point at which SYS_ABORT stops it. [1; 11 R270; none] -/
  past : Bool
  /-- Whether a hardware operation of it succeeded only on its retry. [1; 11 R277; none] -/
  retried : Bool
  /-- The command's payload, which its later steps read. [<=240 bytes; 10 R252; none] -/
  payload : Bytes
  /-- The external data the device read before it acted. [<=1 MiB; 10 R249; none] -/
  ext : Bytes
  deriving DecidableEq, Repr

/-- A raised event (R284). -/
structure Event where
  /-- Event code. [16; 11 R284; none] -/
  code : Nat
  /-- Sequence tag, of an EV_CMD_DONE. [16; 11 R284; none] -/
  tag : Nat
  /-- Final status, of an EV_CMD_DONE. [16; 11 R284; none] -/
  status : Nat
  /-- Payload. [<=112 bytes; 11 R284; none] -/
  payload : Bytes
  /-- The command's transport, of an EV_CMD_DONE. [—; 10 R254; none] -/
  done : Option Via
  deriving DecidableEq, Repr

/-- A stored Ethernet response (R263). -/
structure Replay where
  /-- Source MAC address of the command. [48; 10 R263; none] -/
  mac : Nat
  /-- Sequence tag. [16; 10 R263; none] -/
  tag : Nat
  /-- The response message. [<=256 bytes; 10 R263; none] -/
  message : Bytes
  deriving DecidableEq, Repr

/-- A SYS_ABORT set aside until a final transmit status is known (R251, R133). -/
structure WaitingAbort where
  /-- Where the response goes. [—; 05 R133; none] -/
  via : Via
  /-- The SYS_ABORT's own tag. [16; 05 R133; none] -/
  tag : Nat
  /-- Code of the command it found. [16; 05 R133; none] -/
  code : Nat
  /-- Tag of the command it found. [16; 05 R133; none] -/
  target : Nat
  /-- Station whose frame decides. [16; 05 R133; none] -/
  station : Nat
  deriving DecidableEq, Repr

/-- One BAR2 ring (R258). -/
structure Ring where
  /-- RING_BASE. [64; 10 R258; 0] -/
  base : Nat
  /-- RING_SIZE.LOG2. [5; 10 R258; 6] -/
  log2 : Nat
  /-- RING_CTL.ENABLE. [1; 10 R258; 0] -/
  enable : Bool
  /-- RING_CTL.COUNT. [8; 10 R258; 1] -/
  count : Nat
  /-- RING_CTL.TIME, in microseconds. [16; 10 R258; 0] -/
  time : Nat
  /-- RING_PROD. [32; 10 R258; 0] -/
  prod : Nat
  /-- RING_CONS. [32; 10 R258; 0] -/
  cons : Nat
  /-- RING_STAT.IDLE. [1; 10 R258; 1] -/
  idle : Bool
  /-- RING_STAT.ERROR. [1; 10 R258; 0] -/
  error : Bool
  /-- RING_STAT.CAUSE. [8; 10 R258; 0] -/
  cause : Nat
  /-- RING_STAT.DROPS. [16; 10 R258; 0] -/
  drops : Nat
  /-- Whether an entry is in progress. [1; 10 R262; 0] -/
  inProgress : Bool
  /-- Completions not yet signalled. [—; 10 R258; 0] -/
  unsignalled : Nat
  /-- Inject entries read and not yet completed, oldest first: index and the entry as read. [—; 10 R261; empty] -/
  open_ : List (Nat × Bytes)
  /-- Next entry to read. [32; 10 R261; 0] -/
  next : Nat
  /-- Inject entries whose frame has met its fate and whose completion is due: index, status, stamp. [—; 10 R261; empty] -/
  done : List (Nat × Nat × Nat)
  deriving DecidableEq, Repr

/-- A DMA operation waiting for its retry (R249). -/
structure DmaWait where
  /-- Ring number, or 255 for a command. [8; 10 R262; none] -/
  ring : Nat
  /-- Whether it is a read of an entry (true) or of a buffer (false). [1; 10 R262; none] -/
  entry : Bool
  /-- Index of the entry concerned. [32; 10 R262; none] -/
  index : Nat
  deriving DecidableEq, Repr

/-- Spatial mapping of a user (R66). -/
inductive Mapping where
  /-- As many streams as chains used. -/
  | direct
  /-- Fewer streams than chains: spatial expansion with cyclic shifts. -/
  | expansion
  /-- Precoding, with the station's precoder set of that number. -/
  | precoded (set : Nat)
  deriving DecidableEq, Repr

/-- One user of a PPDU on the transmit side (R61 to R66). -/
structure TxUser where
  /-- Station; 0xFFFF none. [16; 03 R64; none] -/
  station : Nat
  /-- RU. [—; 03 R64; none] -/
  ru : Ru
  /-- MCS. [4; 03 R62; none] -/
  mcs : Nat
  /-- Spatial streams. [4; 03 R64; none] -/
  streams : Nat
  /-- LDPC rather than BCC. [1; 03 R63; none] -/
  ldpc : Bool
  /-- DCM. [1; 03 R62; none] -/
  dcm : Bool
  /-- Spatial mapping. [—; 03 R66; none] -/
  mapping : Mapping
  deriving DecidableEq, Repr

/-- What the modem is given with a PPDU to send (R61 to R68, R77, R108, R157). -/
structure TxVector where
  /-- Format: 0 DSSS/CCK, 1 non-HT OFDM, 2 HT, 3 VHT, 4 HE SU, 7 EHT SU, 9 HE MU, 10 EHT MU. [4; 03 R61; none] -/
  format : Nat
  /-- Width code. [8; 05 R108; none] -/
  width : Nat
  /-- Occupied 20 MHz subchannels of the slice's channel. [16; 05 R108; none] -/
  occupied : Nat
  /-- Guard interval code. [2; 03 R61; none] -/
  gi : Nat
  /-- Users; one without a station where none is addressed. [—; 03 R64; none] -/
  users : List TxUser
  /-- RUs sent unassigned, with STA-ID or AID12 2046. [—; 06 R157; none] -/
  unassigned : List Ru
  /-- Packet extension, microseconds. [8; 03 R77; none] -/
  pe : Nat
  /-- Time its Duration field covers, microseconds. [16; 02 R50; none] -/
  nav : Nat
  deriving DecidableEq, Repr

/-- A step of the transmit path (R65). -/
inductive TxStep where
  | scramble
  | encode (ldpc : Bool)
  | parseStreams
  | parseSegments
  | interleave
  | mapTones
  | mapConstellation (dcm : Bool)
  | mapSpatially (mapping : Mapping)
  | cyclicShift
  | ifftGuardWindow
  | toDacs
  deriving DecidableEq, Repr

/-- An entry of a Cumulus map (R82). -/
structure MapEntry where
  /-- TID. [4; 03 R82; none] -/
  tid : Nat
  /-- Sequence number. [12; 03 R82; none] -/
  seq : Nat
  /-- Tag. [16; 03 R82; none] -/
  tag : Nat
  /-- Codewords. [16; 03 R82; none] -/
  codewords : Nat
  /-- Retransmission. [1; 03 R82; none] -/
  again : Bool
  deriving DecidableEq, Repr

/-- What a management frame of a link core says. -/
inductive MgmtBody where
  /-- Authentication, by the kind of `Out.auth`, and its status. -/
  | auth (kind status : Nat)
  /-- Association Response: status; refused links as slice and status; nominal packet padding in microseconds up to 996 tones and
  above; BSS Max Idle Period in seconds; the Cumulus element to a Cumulus peer (R79, R81, R119, R125). -/
  | assoc (status : Nat) (refused : List (Nat × Nat)) (padding : Nat × Nat) (maxIdle : Nat) (element : Bytes)
  /-- Deauthentication or Disassociation with a reason. -/
  | leave (reason : Nat)
  /-- The group-addressed Deauthentication of a BSS with a reason (R402). -/
  | leaveAll (bss reason : Nat)
  /-- ADDBA response: TID and buffer size (R111). -/
  | addBa (tid size : Nat)
  /-- TWT answer: 0 accept, 1 alternate, 2 reject; flow; wake duration, wake interval and offset (R126). -/
  | twt (answer flow duration interval offset : Nat)
  /-- Fine timing: status; times of departure and arrival of the frame before it, 0.1 ns (R134). -/
  | ftm (status : Nat) (departed arrived : Option Nat)
  /-- A channel switch announcement with its count (R48). -/
  | csa (count : Nat)
  /-- The Cumulus element (R81). -/
  | cumulus (element : Bytes)
  /-- An EAPOL or SAE body, by the message of `Out.eapol`. -/
  | handshake (message : Nat)
  deriving DecidableEq, Repr

/-- What a beacon carries (R48, R79, R118, R124 to R126). -/
structure BeaconBody where
  /-- BSS. [6; 05 R118; none] -/
  bss : Nat
  /-- Nontransmitted BSSs of its Multiple BSSID element. [—; 05 R118; none] -/
  others : List Nat
  /-- AP MLDs of its Basic Multi-Link elements: the BSS and its AP MLD. [—; 05 R118; none] -/
  mlds : List (Nat × Nat)
  /-- Other affiliated APs of its Reduced Neighbour Report. [—; 05 R118; none] -/
  neighbours : List Nat
  /-- Stations whose TIM bit is set. [—; 05 R124; none] -/
  tim : List Nat
  /-- DTIM count of the BSS. [8; 05 R124; none] -/
  dtimCount : Nat
  /-- BSSs whose group-addressed bit is set. [—; 05 R124; none] -/
  group : List Nat
  /-- TWT schedules announced: BSS, kind and schedule. [—; 06 R167; none] -/
  schedules : List (Nat × Nat × Nat)
  /-- BSS Max Idle Period, seconds, per BSS. [—; 05 R125; none] -/
  maxIdle : List (Nat × Nat)
  /-- Channel switch count, 0 none. [8; 02 R48; none] -/
  csa : Nat
  /-- EDCA parameter set update count. [4; 05 R118; none] -/
  edcaCount : Nat
  /-- Nominal packet padding, microseconds, up to 996 tones and above. [—; 03 R79; none] -/
  padding : Nat × Nat
  /-- TSF at the start of its PPDU (R232, R239). [64; 09 R239; none] -/
  tsf : Int
  /-- TSF offsets of the other affiliated APs in the Basic Multi-Link element, microseconds, by slice (R239). [—; 09 R239; none] -/
  offsets : List (Nat × Int)
  deriving DecidableEq, Repr

/-- What a PPDU carries. -/
inductive AirBody where
  | none
  /-- A-MPDUs: station, TID and sequence number of each MPDU; the Cumulus maps that begin them. -/
  | data (mpdus : List (Nat × Nat × Nat)) (maps : List (Nat × List MapEntry))
  | beacon (b : BeaconBody)
  | mgmt (b : MgmtBody)
  /-- BlockAckReq, or MU-BAR to several stations: station, TID and starting sequence number (R113). -/
  | bar (several : Bool) (l : List (Nat × Nat × Nat))
  /-- A trigger frame: BSRP or Basic, the users with their target RSSI; AID12 2046 marks an unassigned RU (R148, R157). -/
  | trigger (bsrp : Bool) (users : List (Nat × Int))
  /-- A sounding sequence: format and streams of its NDP, and the stations (R67, R147). -/
  | sounding (format streams : Nat) (stations : List Nat)
  /-- An Ack, BlockAck or multi-STA BlockAck: station, TID, starting sequence number and bitmap (R112). -/
  | ack (l : List (Nat × Nat × Nat × List Bool))
  deriving DecidableEq, Repr

/-- What the low-rate radio sends: an IEEE 802.15.4-2020 frame of frame version 2 with PAN ID compression, or the wake-up sequence
before one (R380, R382, R384, R386). -/
structure DrzTx where
  /-- 0 data frame, 1 wake-up frames or long preamble, 2 Enhanced Ack. [2; 16 R376; none] -/
  kind : Nat
  /-- Node it is sent to; 0xFFFF none. [8; 16 R376; none] -/
  node : Nat
  /-- Band, rate in 50 kb/s and channel. [—; 16 R376; none] -/
  channel : Nat × Nat × Nat
  /-- Power, dBm. [8; 16 R380; none] -/
  power : Int
  /-- PAN. [16; 16 R376; none] -/
  pan : Nat
  /-- Source short address. [16; 16 R376; none] -/
  source : Nat
  /-- Extended destination address, where it carries one. [—; 16 R376; none] -/
  destExt : Option Nat := none
  /-- Short destination address; 0xFFFF broadcast. [16; 16 R376; none] -/
  dest : Nat := 0xFFFF
  /-- Ack request. [16; 16 R380; none] -/
  ack : Bool := false
  /-- Frame Pending. [16; 16 R381; none] -/
  more : Bool := false
  /-- Security level. [3; 16 R387; none] -/
  level : Nat := 0
  /-- Key slot it is secured under; 0xFFFF none. [16; 16 R388; none] -/
  key : Nat := 0xFFFF
  /-- Frame counter. [32; 16 R389; none] -/
  counter : Nat := 0
  /-- CSL IE: the device's own period in ms, and nanoseconds to its next sample. [—; 16 R382; none] -/
  csl : Option (Nat × Nat) := none
  /-- Nanoseconds the wake-up sequence lasts. [64; 16 R384; none] -/
  span : Nat := 0
  /-- MAC payload, before encryption. [—; 16 R376; none] -/
  payload : Bytes := []
  deriving DecidableEq, Repr

/-- Something that left the device during the current command: what an observer outside can see. -/
inductive Out where
  /-- An MSI-X message (R257). -/
  | msix (vector : Nat)
  /-- A UMP message sent in an Ethernet frame to a MAC address (R263). -/
  | ump (mac : Nat) (message : Bytes)
  /-- A UMP message sent on the UART (R417). -/
  | uart (message : Bytes)
  /-- Bytes written to host memory by DMA (R249). -/
  | dma (address : Nat) (data : Bytes)
  /-- The value a register read returned. -/
  | read (value : Word32)
  /-- A frame sent on an Ethernet port, from destination address to end of payload; the SecTAG that goes after its
  addresses where it is protected, with its 64-bit PN; and whether its FCS is inverted (R174, R180). -/
  | eth (port : Nat) (frame : Bytes) (tag : Option (Bytes × Nat)) (stomped : Bool)
  /-- A pause frame, or a PFC frame for the priorities of a mask, with its quanta (R178). -/
  | pause (port mask quanta : Nat)
  /-- A PPDU or frame sent on a slice: 0 data, 1 beacon, 2 RTS, 3 MU-RTS, 4 CTS, 5 Ack, 6 compressed BlockAck, 7 multi-STA
  BlockAck, 8 Deauthentication, 9 Disassociation, 10 other management frame, 11 trigger, 12 sounding, 13 BlockAckReq,
  14 group-addressed frame, 15 Cumulus element, 16 EAPOL or SAE frame; its station (0xFFFF for a group), or its BSS for
  kinds 1 and 14. -/
  | air (slice : Nat) (kind : Nat) (station : Nat)
  /-- The PPDU of the frame that goes with it: what the modem is given, what it carries, and the steps of the transmit path it
  passes in order (R65). -/
  | ppdu (slice : Nat) (vector : TxVector) (body : AirBody) (steps : List TxStep)
  /-- An authentication or association frame sent to an address with a status code: 0 SAE Commit, 1 SAE Confirm,
  2 anti-clogging token request, 3 Association Response, 4 FT Authentication, 5 open-system Authentication,
  6 a fine timing request. -/
  | auth (slice kind addr status : Nat)
  /-- An EAPOL frame sent to a station: 0 EAP, 1 and 3 messages of the 4-way handshake, 5 group key message 1. -/
  | eapol (slice station message : Nat)
  /-- A RADIUS request to a profile's primary or secondary server for a station: 0 Access-Request, 1 accounting start,
  2 accounting stop. -/
  | radius (profile : Nat) (secondary : Bool) (kind station : Nat)
  /-- The low-rate radio sends (R380, R384). -/
  | drz (frame : DrzTx)
  /-- A packet the packet cores send of their own, about a frame or an address: 0 ARP request or neighbour solicitation,
  1 ARP reply or neighbour advertisement, 2 Time Exceeded, 3 Destination Unreachable, 4 Fragmentation Needed or Packet Too
  Big, 5 Host Unreachable, 6 echo reply. -/
  | stack (kind : Nat) (about : Bytes)
  /-- A PTP message sent on a port: 0 Sync, 1 Announce, 2 Delay_Req, 3 Pdelay_Req, 4 the Follow_Up of a two-step Sync; the clock
  class announced; the departure stamp of the event message, which a one-step Sync carries itself (R232, R238). -/
  | ptp (port kind clockClass stamp : Nat)
  /-- PPS_OUT rises or falls (R240). -/
  | pps (high : Bool)
  deriving DecidableEq, Repr

/-- The mailbox: BAR0 registers with storage of their own, slots, events and command bookkeeping. -/
structure Mbox where
  /-- Slot states of CMD_SLOT 0 to 15. [2 each; 10 R250; Free] -/
  slots : List SlotState
  /-- Bytes of CMD_SLOT, RSP_SLOT and EVT_SLOT by BAR0 offset; an unlisted byte reads 0. [12,288 bytes; 10 R246; DESIGN CHOICE 0, log 2] -/
  mem : List Host.Cell
  /-- DEV_DOORBELL. [32; 10 R246; 0] -/
  devDoorbell : Word32
  /-- IRQ_MASK. [32; 10 R246; 0x0007_FFFF] -/
  irqMask : Word32
  /-- SCRATCH. [32; 10 R246; 0] -/
  scratch : Word32
  /-- EVT_PROD. [16; 10 R246; 0] -/
  evtProd : Nat
  /-- EVT_CONS. [16; 10 R246; 0] -/
  evtCons : Nat
  /-- HEARTBEAT. [32; 10 R246; 0] -/
  heartbeat : Nat
  /-- FAULT_CODE.CODE. [16; 10 R246; 0] -/
  faultCode : Nat
  /-- FAULT_CODE.PARAM. [16; 10 R246; 0] -/
  faultParam : Nat
  /-- ACCESS_FAULT.ADDR. [28; 10 R246; 0] -/
  accAddr : Nat
  /-- ACCESS_FAULT.SRC. [2; 10 R246; 0] -/
  accSrc : Nat
  /-- ACCESS_FAULT.WRITE. [1; 10 R246; 0] -/
  accWrite : Bool
  /-- ACCESS_FAULT.VALID. [1; 10 R246; 0] -/
  accValid : Bool
  /-- Off-block accesses since the last EV_ACCESS_OFF_BLOCK. [32; 17 R412; 0] -/
  accCount : Nat
  /-- Commands waiting to be served, in doorbell order, of both transports. [<=80 messages; 10 R251; empty] -/
  cmdQueue : List Msg
  /-- Async commands outstanding, oldest first. [<=64; 10 R252; empty] -/
  async : List AsyncCmd
  /-- SYS_ABORT commands set aside. [—; 05 R133; empty] -/
  aborts : List WaitingAbort
  /-- Events waiting for the PCIe event slots. [<=256; 10 R254; empty] -/
  pcieQueue : List Event
  /-- PCIe events dropped since the last EV_EVT_LOST. [32; 10 R254; 0] -/
  pcieDropped : Nat
  /-- PCIe events dropped since reset. [16, saturating; 11 R281; 0] -/
  pcieDroppedAll : Nat
  /-- Event sink MAC address. [48; 11 R282; none] -/
  sink : Option Nat
  /-- Event sink group mask. [16; 11 R282; 0xFFFF] -/
  sinkMask : Word16
  /-- Events waiting for the Ethernet sink. [<=256; 10 R255; empty] -/
  sinkQueue : List Event
  /-- Sink events dropped since the last EV_EVT_LOST. [32; 10 R254; 0] -/
  sinkDropped : Nat
  /-- Sink events dropped since reset. [16, saturating; 11 R281; 0] -/
  sinkDroppedAll : Nat
  /-- Stored Ethernet responses, newest first, at most 16 per MAC. [—; 10 R263; empty] -/
  replay : List Replay
  /-- Commands served. [32; 11 R281; 0] -/
  served : Nat
  /-- Transient faults. [32; 11 R281; 0] -/
  transient : Nat
  /-- Lasting faults. [32; 11 R281; 0] -/
  lasting : Nat
  /-- Limited events whose period is running: event code and object. [—; 11 R285; empty] -/
  limited : List (Nat × Nat)
  deriving DecidableEq, Repr

/-- The PCIe endpoint (R242 to R244, R416). -/
structure Pcie where
  /-- The link is in L0. [1; 17 R404; false: the link trains after the reset] -/
  linkUp : Bool
  /-- PERST_N is asserted by the host. [1; 17 R416; false] -/
  perst : Bool
  /-- The function is in D3hot. [1; 10 R243; false] -/
  d3 : Bool
  /-- MSI-X vectors whose message waits for D0. [34; 10 R243; empty] -/
  held : List Nat
  /-- The host has programmed single-vector MSI in place of MSI-X. [1; 10 R257; false] -/
  msi : Bool
  deriving DecidableEq, Repr

/-- A ring after reset (R258). -/
def Ring.reset : Ring := ⟨0, 6, false, 1, 0, 0, 0, true, false, 0, 0, false, 0, [], 0, []⟩

/-- The mailbox after reset (R246, R250). -/
def Mbox.reset : Mbox where
  slots := List.replicate 16 .free
  mem := []
  devDoorbell := 0
  irqMask := 0x0007FFFF
  scratch := 0
  evtProd := 0
  evtCons := 0
  heartbeat := 0
  faultCode := 0
  faultParam := 0
  accAddr := 0
  accSrc := 0
  accWrite := false
  accValid := false
  accCount := 0
  cmdQueue := []
  async := []
  aborts := []
  pcieQueue := []
  pcieDropped := 0
  pcieDroppedAll := 0
  sink := none
  sinkMask := 0xFFFF
  sinkQueue := []
  sinkDropped := 0
  sinkDroppedAll := 0
  replay := []
  served := 0
  transient := 0
  lasting := 0
  limited := []

/-- The PCIe endpoint after a reset that drops the link (R416). -/
def Pcie.reset : Pcie := ⟨false, false, false, [], false⟩

end Sys2Proof.Machine
end

