-- ==== Sys2Proof/Machine/StateMac.lean ====
section
/-! DEFINITION. State of the air MACs, the multi-link layer and the station table (chapter 05), and of handshakes
kept per station and BSS (chapter 12, R306 to R308).
Each field's docstring ends in brackets: width; file and rule of spec/; value at reset. -/
namespace Sys2Proof.Machine

/-- One EDCA function (R106). -/
structure Edca where
  /-- CW. [10; 05 R106; CWmin of the category] -/
  cw : Nat
  deriving DecidableEq, Repr

/-- A TXOP (R109, R110). -/
structure Txop where
  /-- Access category, 0 BK, 1 BE, 2 VI, 3 VO. [2; 05 R109; none] -/
  ac : Nat
  /-- Content: 0 planned data, 1 beacon, 2 management frame, 3 group-addressed frames, 4 CTS-to-self. [3; 05 R107; none] -/
  what : Nat
  /-- Users of the TXOP, by station handle. [—; 05 R109; none] -/
  users : List Nat
  /-- A CTS is awaited: 0 no, 1 after RTS, 2 after MU-RTS. [2; 05 R109; none] -/
  awaitCts : Nat
  /-- Its protection has been answered, or needs none. [1; 05 R109; none] -/
  clear : Bool
  /-- A trigger exchange (R148). [1; 06 R148; none] -/
  uplink : Bool
  /-- A sounding sequence (R147). [1; 06 R147; none] -/
  sounding : Bool
  /-- It serves a TWT service period in the brim (R142). [1; 06 R142; none] -/
  twt : Bool
  /-- Airtime used so far, microseconds. [16; 08 R212; none] -/
  used : Nat
  /-- Airtime of each user's share of its PPDUs, microseconds. [16 each; 08 R211; none] -/
  shares : Tab Nat
  /-- Users already counted late in it. [—; 06 R157; none] -/
  lateUsers : List Nat
  /-- A PPDU of it has started. [1; 06 R157; none] -/
  begun : Bool
  /-- Running time at which it began. [64; 05 R110; none] -/
  since : Nat
  /-- Width code and subchannels it covers: those idle as it began, and no more than its first PPDU took (R108). [24; 05 R108; none] -/
  cover : Nat × Nat
  /-- The planned TXOP it is. [—; 06 R139; none] -/
  plan : Option PlanTxop
  deriving DecidableEq, Repr

/-- A PPDU fixed and not yet judged (R121, R130): its MPDUs are in flight under the keys it latched. -/
structure Fixed where
  /-- 0 data, 1 beacon, 2 RTS, 3 MU-RTS, 4 CTS-to-self, 10 management, 11 trigger, 12 sounding, 13 BAR, 14 group. [4; 05 R121; none] -/
  kind : Nat
  /-- Stations addressed. [—; 05 R121; none] -/
  users : List Nat
  /-- Users and their MPDU identities. [—; 05 R121; none] -/
  mpdus : List (Nat × Nat)
  /-- Keys latched, by key-slot handle. [—; 05 R130; none] -/
  keys : Tab Bytes
  /-- Running time at which it starts, 24 microseconds after its fix point. [64; 05 R121; none] -/
  starts : Nat
  /-- Duration, microseconds. [16; 05 R110; none] -/
  duration : Nat
  /-- What the modem is given with it; its precoders are those of the fix point. [—; 03 R66; none] -/
  vec : TxVector
  /-- What it carries. [—; 05 R121; none] -/
  body : AirBody
  /-- Its data frames draw no acknowledgement. [1; 05 R132; none] -/
  noAck : Bool
  /-- It is on the air or has been sent. [1; 05 R121; none] -/
  sent : Bool
  /-- The coexistence grant was sampled high, or is not needed. [1; 21 R490; none] -/
  granted : Bool
  deriving DecidableEq, Repr

/-- A management frame of a link core that waits on AC_VO (R107). -/
structure MgmtFrame where
  /-- Station; 0xFFFF none. [16; 05 R107; none] -/
  station : Nat
  /-- Receiver address. [48; 05 R107; none] -/
  addr : Nat
  /-- Owner: 0 the link cores, 1 STA_DISCONNECT, 2 BSS_DELETE. [2; 05 R133; none] -/
  owner : Nat
  /-- Frame: a kind of `Out.air`: 8 Deauthentication, 9 Disassociation, 10 other, 15 Cumulus element, 16 EAPOL or SAE. [5; 05 R135; none] -/
  frame : Nat
  /-- What it says. [—; 05 R107; none] -/
  body : MgmtBody
  /-- Attempts so far. [3; 05 R113; 0] -/
  attempts : Nat
  /-- In flight. [1; 05 R121; 0] -/
  flight : Bool
  deriving DecidableEq, Repr

/-- What a response says to one station about one TID (R112). -/
structure AckEntry where
  /-- Station. [16; 05 R112; none] -/
  station : Nat
  /-- TID. [4; 05 R112; none] -/
  tid : Nat
  /-- MPDUs that passed their FCS by the freeze, by sequence number, in order of arrival. [—; 05 R112; none] -/
  passed : List Nat
  /-- Starting sequence number once fixed. [12; 05 R112; none] -/
  start : Nat
  /-- Bitmap once fixed, one bit per sequence number from start. [—; 05 R112; none] -/
  bitmap : List Bool
  deriving DecidableEq, Repr

/-- The response owed to a received PPDU (R112). -/
structure Response where
  /-- Kind: 0 Ack, 1 compressed BlockAck, 2 multi-STA BlockAck, 3 CTS. [2; 05 R112; none] -/
  kind : Nat
  /-- Its content by station and TID. [—; 05 R112; none] -/
  entries : List AckEntry
  /-- Content fixed. [1; 03 R72; none] -/
  frozen : Bool
  /-- The number of the reception it answers. [—; 04 R101; none] -/
  ppdu : Nat
  deriving DecidableEq, Repr

/-- A fine timing session (R134). -/
structure Ftm where
  /-- Initiator address. [48; 05 R134; none] -/
  mac : Nat
  /-- Slice. [2; 05 R134; none] -/
  slice : Nat
  /-- Time of departure of the last frame sent in it, 0.1 ns. [68; 05 R134; none] -/
  departed : Option Nat
  /-- Time of arrival of its acknowledgement, 0.1 ns. [68; 05 R134; none] -/
  arrived : Option Nat
  deriving DecidableEq, Repr

/-- The air MAC of one slice. -/
structure SliceMac where
  /-- EDCA functions BK, BE, VI, VO. [—; 05 R106; CWmin each] -/
  edca : List Edca
  /-- Running time up to which the intra-BSS NAV is set. [64; 05 R108; clear] -/
  navIntra : Nat
  /-- Running time up to which the basic NAV is set. [64; 05 R108; clear] -/
  navBasic : Nat
  /-- TXOP in progress. [—; 05 R110; none] -/
  txop : Option Txop
  /-- PPDU fixed or in flight. [—; 05 R121; none] -/
  fixed : Option Fixed
  /-- Response owed. [—; 05 R112; none] -/
  response : Option Response
  /-- Management frames of the link cores waiting. [—; 05 R107; empty] -/
  mgmt : List MgmtFrame
  /-- A beacon waits on AC_VO (R107). [1; 05 R107; false] -/
  beaconWaits : Bool
  /-- What its 20 MHz subchannels showed last, lowest first. [—; 05 R108; none: idle] -/
  cca : List Cca
  deriving DecidableEq, Repr

/-- Parameters of a BSS (R118, R135). -/
structure Bss where
  /-- Slice. [2; 05 R117; none] -/
  slice : Nat
  /-- AP MLD, 255 single-link. [8; 05 R117; none] -/
  mld : Nat
  /-- Flags. [16; 05 R135; none] -/
  flags : Nat
  /-- BSSID. [48; 05 R135; none] -/
  bssid : Nat
  /-- MLD address. [48; 05 R135; none] -/
  mldAddr : Nat
  /-- Security mode. [8; 05 R127; none] -/
  security : Nat
  /-- SSID. [<=32 bytes; 05 R135; none] -/
  ssid : Bytes
  /-- Beacon interval, TU. [16; 05 R135; 100] -/
  interval : Nat
  /-- DTIM period. [8; 05 R135; 1] -/
  dtim : Nat
  /-- Beacons to the next DTIM. [8; 05 R124; DESIGN CHOICE 0, log 2] -/
  dtimCount : Nat
  /-- BSS colour. [6; 05 R135; (handle mod 63) + 1] -/
  colour : Nat
  /-- Maximum stations. [16; 05 R135; 2048] -/
  maxStations : Nat
  /-- VLAN. [12; 05 R135; none] -/
  vlan : Nat
  /-- Credential handle. [16; 05 R135; 0xFFFF] -/
  credential : Nat
  /-- RADIUS profile. [8; 05 R135; 0xFF] -/
  radius : Nat
  /-- Station EDCA. [16 bytes; 05 R135; defaults] -/
  edca : Bytes
  /-- EDCA parameter set update count. [4; 05 R135; DESIGN CHOICE 0, log 2] -/
  edcaCount : Nat
  /-- Lifetimes BK, BE, VI, VO, ms. [4 x 16; 05 R135; 1000, 500, 100, 50] -/
  lifetimes : List Nat
  /-- Inactivity timeout, s. [16; 05 R135; 300] -/
  inactivity : Nat
  /-- Parameters accepted and waiting for the next TBTT: the BSS_SET_PARAMS payload. [36 bytes; 01 R18; none] -/
  pendingParams : Option Bytes
  /-- The first BSS created on its slice: the transmitted BSSID. [1; 05 R118; none] -/
  transmitted : Bool
  /-- Beacons skipped. [32; 05 R118; 0] -/
  skipped : Nat
  /-- The beacon of the last TBTT has been sent. [1; 05 R118; true] -/
  beaconSent : Bool
  /-- Group-addressed frames held for the DTIM. [—; 05 R124; 0] -/
  groupHeld : Nat
  /-- Group frames queued to send now. [—; 05 R124; 0] -/
  groupReady : Nat
  /-- A BSS_DELETE is under way: the worst transmit status so far, none before any frame has met its fate. [—; 05 R135; none] -/
  deleting : Option (Option Nat)
  /-- A scheduled channel switch count, 2 then 1; 0 none. [8; 02 R48; 0] -/
  csaCount : Nat
  /-- Group key slot in use and its key ID. [16; 12 R308; 0xFFFF] -/
  groupKey : Nat
  /-- New group key slot of a rekey under way. [16; 12 R308; none] -/
  newGroupKey : Option Nat
  /-- Stations that have not answered the group key handshake: handle, tries. [—; 12 R308; empty] -/
  rekeyWaiting : List (Nat × Nat)
  /-- Operating second of the last rekey. [32; 12 R308; 0] -/
  rekeyAt : Nat
  deriving DecidableEq, Repr

/-- Link policy of an AP MLD or a station (R121). -/
structure LinkPolicy where
  /-- Mode. [8; 05 R121; 0] -/
  mode : Nat
  /-- Links permitted. [3; 05 R135; 7] -/
  links : Nat
  /-- Spill time, microseconds. [16; 05 R135; 1000] -/
  spill : Nat
  /-- Links per TID, 0 = links. [8 x 3; 05 R135; 0] -/
  tidLinks : List Nat
  deriving DecidableEq, Repr

/-- A received MPDU past its MIC verdict, waiting for release (R114, R129). -/
structure HeldRx where
  /-- Sequence number. [12; 05 R114; none] -/
  seq : Nat
  /-- PN; none where it was not protected. [48; 05 R128; none] -/
  pn : Option Nat
  /-- Length. [16; 05 R129; none] -/
  length : Nat
  /-- Its MSDUs; none where it was received and discarded. [—; 05 R129; none] -/
  msdus : Option (List Frame)
  deriving DecidableEq, Repr

/-- A BlockAck session (R111, R114). -/
structure Session where
  /-- Buffer size. [11; 05 R111; none] -/
  size : Nat
  /-- Scoreboard window start. [12; 05 R115; none] -/
  start : Nat
  /-- Sequence numbers set in the scoreboard. [—; 05 R115; none] -/
  board : List Nat
  /-- Late-recovered sequence numbers among them. [—; 03 R80; none] -/
  late : List Nat
  /-- Next sequence number the reorder buffer releases. [12; 05 R114; none] -/
  next : Nat
  /-- MPDUs verified and waiting for release. [—; 05 R114; none] -/
  held : List HeldRx
  deriving DecidableEq, Repr

/-- A queued downlink MPDU (R113, R121). -/
structure Mpdu where
  /-- Identity within the model's queues. [—; 05 R121; none] -/
  id : Nat
  /-- TID. [3; 05 R113; none] -/
  tid : Nat
  /-- Length. [16; 05 R111; none] -/
  length : Nat
  /-- Sequence number once given. [12; 05 R121; none] -/
  seq : Option Nat
  /-- Transmission attempts so far. [5; 05 R113; 0] -/
  attempts : Nat
  /-- In flight on a slice. [—; 05 R121; none] -/
  flight : Option Nat
  /-- Time it entered the queue, ns. [64; 08 R225; none] -/
  entered : Nat
  /-- Marked by a policer. [1; 08 R216; false] -/
  marked : Bool
  /-- Inject ring and index whose completion it is. [—; 10 R262; none] -/
  inject : Option (Nat × Nat)
  /-- Cumulus tag, MCS, information bits of a codeword, and device time of its first transmission under the tag. [—; 03 R82; none] -/
  tag : Option (Nat × Nat × Nat × Nat)
  /-- Key slot it was protected under at its first transmission; none before, or unprotected. [16; 05 R131; none] -/
  slot : Option Nat
  deriving DecidableEq, Repr

/-- A TWT agreement (R126). -/
structure Twt where
  /-- Flow ID. [3; 05 R126; none] -/
  flow : Nat
  /-- Wake duration, 256 microsecond units. [8; 05 R126; none] -/
  duration : Nat
  /-- Wake interval, microseconds. [32; 05 R126; none] -/
  interval : Nat
  /-- Offset. [32; 05 R126; none] -/
  offset : Nat
  /-- Its service period is open. [1; 08 R222; false] -/
  open_ : Bool
  deriving DecidableEq, Repr

/-- A station (R119). -/
structure Station where
  /-- State, 1 authenticating, 2 associated, 3 authorised, 4 disconnecting. [8; 05 R135; none] -/
  state : Nat
  /-- Kind, 0 single-link, 1 STR, 2 NSTR, 3 EMLSR, 4 Cumulus peer link. [8; 05 R122; none] -/
  kind : Nat
  /-- Address, or MLD address. [48; 05 R135; none] -/
  addr : Nat
  /-- AP MLD, 255 single-link. [8; 05 R135; none] -/
  mld : Nat
  /-- BSS on slices 0, 1, 2; 255 none. [3 x 8; 05 R135; none] -/
  links : Tri Nat
  /-- Its address on each link: its entries of the station address table. [3 x 48; 06 R151; none] -/
  linkAddrs : Tri Nat
  /-- Slice of the link associated on. [2; 05 R136; none] -/
  home : Nat
  /-- Dozing per link. [3; 05 R124; awake] -/
  doze : Tri Bool
  /-- U-APSD trigger-enabled categories. [4; 05 R124; 0] -/
  uapsd : Nat
  /-- A U-APSD service period or PS-Poll delivery is open: units left. [8; 05 R124; 0] -/
  deliver : Nat
  /-- Flags: bit 3 PMF, 4 Extended Key ID, 5 LDPC. [8; 05 R135; none] -/
  flags : Nat
  /-- HE or EHT station. [1; 06 R160; none] -/
  he : Bool
  /-- Most spatial streams. [4; 05 R135; none] -/
  streams : Nat
  /-- Most octets of an A-MPDU to it. [24; 05 R111; none] -/
  maxAmpdu : Nat
  /-- Pairwise cipher: 0 CCMP-128, 1 GCMP-256. [1; 05 R127; none] -/
  cipher : Nat
  /-- NSTR link pair it declares. [3; 05 R122; none] -/
  nstrPair : Nat
  /-- It answers trigger frames. [1; 06 R148; none] -/
  triggers : Bool
  /-- BlockAck sessions by TID. [8; 05 R111; none] -/
  sessions : Tab Session
  /-- Next transmit sequence number per TID. [8 x 12; 05 R121; DESIGN CHOICE 0, log 2] -/
  txSeq : List Nat
  /-- Transmit PN per TID and for management (index 8). [9 x 48; 05 R128; 0 with each new key] -/
  txPn : List Nat
  /-- Replay floor per TID and for management (index 8). [9 x 48; 05 R128; 0 with each new key] -/
  floor : List Nat
  /-- Retry cache per TID, and index 8 for non-QoS and management: sequence number and fragment. [9 x 16; 05 R115; none] -/
  retry : Tab (Nat × Nat)
  /-- Late-recovered MPDU outside a session, by place of the retry cache: sequence number and fragment. [9 x 16; 03 R80; none] -/
  lateAlone : Tab (Nat × Nat)
  /-- Reassembly under way per TID: sequence number and fragments so far. [8; 05 R111; none] -/
  reassembly : Tab (Nat × Nat)
  /-- TIDs owed a BlockAckReq. [8; 05 R113; 0] -/
  barOwed : List Nat
  /-- Queued downlink MPDUs, oldest first. [—; 05 R121; empty] -/
  queue : List Mpdu
  /-- Running time from which the head of each TID's queue has been its head. [8 x 64; 05 R121; association] -/
  headAt : List Nat
  /-- Link policy override. [—; 05 R121; none] -/
  policy : Option LinkPolicy
  /-- Pairwise key slot. [16; 12 R307; 0xFFFF] -/
  ptk : Nat
  /-- TWT agreements. [4; 05 R126; none] -/
  twts : List Twt
  /-- EMLSR: slice of the exchange; none outside one. [—; 05 R123; none] -/
  emlsrOn : Option Nat
  /-- EMLSR: transition delay running. [1; 05 R123; false] -/
  emlsrHold : Bool
  /-- EMLSR transition delay, microseconds. [16; 05 R123; none] -/
  transition : Nat
  /-- EMLSR padding delay, microseconds. [9; 05 R123; none] -/
  padding : Nat
  /-- Buffered uplink reported. [32; 06 R148; 0] -/
  uplink : Nat
  /-- Access category of the buffered uplink reported. [2; 06 R144; 0] -/
  uplinkAc : Nat
  /-- Running time of its last buffer status report. [64; 06 R148; none] -/
  reported : Option Nat
  /-- A precoder is valid. [1; 01 R27; false] -/
  precoder : Bool
  /-- Number of its latest precoder set. [—; 03 R66; 0] -/
  precoderSet : Nat
  /-- Ng and codebook size of its latest report. [—; 03 R67; none] -/
  reportForm : Option (Nat × Nat)
  /-- Running time of the latest beamforming report. [64; 06 R147; none] -/
  report : Option Nat
  /-- Beamformee. [1; 06 R147; none] -/
  beamformee : Bool
  /-- Target RSSI per slice, dBm. [3 x 8 signed; 04 R96; DESIGN CHOICE 0, log 2] -/
  target : Tri Int
  /-- Windows eligible but unplanned. [8; 06 R144; 0] -/
  starved : Nat
  /-- Airtime deficit, microseconds. [32 signed; 06 R144; 0] -/
  deficit : Int
  /-- 4-way handshake: 0 none, 1 message 1 sent, 3 message 3 sent; tries. [—; 12 R307; none] -/
  fourWay : Option (Nat × Nat)
  /-- PMK the Hatbox holds for the station; empty none. [<=48 bytes; 12 R307; empty] -/
  pmk : Bytes
  /-- Key management: 0 none, 1 SAE, 2 PSK, 3 IEEE 802.1X, 4 fast transition. [8; 19 R448; none] -/
  akm : Nat
  /-- VLAN of its frames. [12; 19 R448; its BSS's] -/
  vlan : Nat
  /-- Session timeout, seconds; 0 none. [32; 19 R448; 0] -/
  timeout : Nat
  /-- RADIUS Class. [<=128 bytes; 19 R448; empty] -/
  radiusClass : Bytes
  /-- A disconnect by command is under way: reason, mode, step. [—; 05 R135; none] -/
  leaving : Option (Nat × Nat × Nat)
  /-- MPDUs acknowledged. [64; 05 R135; 0] -/
  nAcked : Nat
  /-- MPDUs failed. [64; 05 R135; 0] -/
  nFailed : Nat
  /-- MPDUs delivered. [64; 05 R135; 0] -/
  nDelivered : Nat
  /-- Bytes sent. [64; 05 R135; 0] -/
  nSent : Nat
  /-- Bytes received. [64; 05 R135; 0] -/
  nReceived : Nat
  /-- Duplicates. [32; 05 R115; 0] -/
  nDup : Nat
  /-- Replays. [32; 05 R128; 0] -/
  nReplay : Nat
  /-- MIC failures. [32; 05 R129; 0] -/
  nMic : Nat
  /-- No key. [32; 05 R131; 0] -/
  nNoKey : Nat
  /-- Key erased drops. [32; 05 R131; 0] -/
  nErased : Nat
  /-- Holes given up. [32; 05 R114; 0] -/
  nHoles : Nat
  /-- MIC failures, replays and no-key frames of the current second. [3 x 16; 05 R136; 0] -/
  secNow : Nat × Nat × Nat
  /-- RSSI of the last frame. [8 signed; 05 R135; DESIGN CHOICE 0, log 2] -/
  rssi : Int
  /-- Receive MCS of the last frame. [8; 05 R135; DESIGN CHOICE 0, log 2] -/
  rxMcs : Nat
  /-- Transmit MCS of the last PPDU. [8; 05 R135; DESIGN CHOICE 0, log 2] -/
  txMcs : Nat
  /-- Operating second of the last frame. [32; 05 R125; association] -/
  lastFrame : Nat
  /-- Operating second of the association. [32; 05 R135; association] -/
  since : Nat
  deriving DecidableEq, Repr

/-- An MPDU decrypted and awaiting its MIC verdict (R129). -/
structure MicWait where
  /-- Station. [11; 05 R129; none] -/
  station : Nat
  /-- Slice it came from. [2; 05 R129; none] -/
  slice : Nat
  /-- The MPDU. [—; 05 R129; none] -/
  mpdu : RxMpdu
  /-- The key it latched as its decryption began. [<=32 bytes; 05 R130; none] -/
  key : Bytes
  /-- Its MSDUs, with the RX vector. [—; 05 R129; none] -/
  msdus : List Frame
  deriving DecidableEq, Repr

/-- The air group: MACs, BSSs, AP MLDs and stations. -/
structure Air where
  /-- Air MACs of slices 0 to 2. [—; 05 R106; as SliceMac] -/
  macs : Tri SliceMac
  /-- BSS table by handle. [48; 05 R117; empty] -/
  bss : Tab Bss
  /-- Link policies of AP MLDs 0 to 15 where set. [16; 05 R121; mode 0, links 7] -/
  mldPolicy : Tab LinkPolicy
  /-- Station table by handle. [2048; 05 R119; empty] -/
  stations : Tab Station
  /-- Freed handles, oldest first, each with the operating second in which it was freed. [—; 11 R274; empty] -/
  freed : List (Nat × Nat)
  /-- MPDUs awaiting their MIC verdict. [<=512; 05 R129; empty] -/
  mic : List MicWait
  /-- Fine timing sessions. [<=48; 05 R134; empty] -/
  ftm : List Ftm
  /-- Next identity given to a queued MPDU by the model. [—; model's own; 0] -/
  nextId : Nat
  deriving DecidableEq, Repr

/-- CWmin of the access categories BK, BE, VI, VO (R106). -/
def Edca.resetAll : List Edca := [⟨15⟩, ⟨15⟩, ⟨7⟩, ⟨3⟩]

/-- The MAC of a slice after reset. -/
def SliceMac.reset : SliceMac := ⟨Edca.resetAll, 0, 0, none, none, none, [], false, []⟩

/-- The air group after reset. -/
def Air.reset : Air := ⟨.all .reset, [], [], [], [], [], [], 0⟩

end Sys2Proof.Machine
end

