-- ==== Sys2Proof/Machine/StateMem.lean ====
section
/-! DEFINITION. State of DRAM, ECC, the Felt store, configuration banks and check-value units (chapter 13).
Each field's docstring ends in brackets: width; file and rule of spec/; value at reset. -/
namespace Sys2Proof.Machine

/-- A channel of the memory controller (R320, R321). -/
structure DramChannel where
  /-- Trained. [1; 13 R320; false until cold training ends] -/
  trained : Bool
  /-- Temperature at the last training, 0.25 degC. [16 signed; 13 R321; DESIGN CHOICE 0, log 2] -/
  trainedAt : Int
  /-- Temperature, 0.25 degC. [16 signed; 13 R321; DESIGN CHOICE 0, log 2] -/
  temperature : Int
  /-- Drift retraining steps left. [9; 13 R321; 0] -/
  steps : Nat
  /-- The step failed once. [1; 13 R321; false] -/
  failed : Bool
  /-- A lasting failure: the drift that starts the next attempt is 5 degC. [1; 13 R321; false] -/
  lasting : Bool
  /-- Running time of the last refresh of each bank. [16 x 64; 13 R322; 0] -/
  refreshAt : List Nat
  deriving DecidableEq, Repr

/-- A configuration record (R337). -/
structure CfgRecord where
  /-- Command code. [16; 13 R337; none] -/
  code : Nat
  /-- Payload (for a command with external data, the data). [—; 13 R337; none] -/
  payload : Bytes
  deriving DecidableEq, Repr

/-- A configuration bank (R337). -/
structure CfgBank where
  /-- Magic. [32; 13 R337; 0 at manufacture] -/
  magic : Nat
  /-- Format. [16; 13 R337; 0 at manufacture] -/
  format : Nat
  /-- Sequence. [32; 13 R337; 0 at manufacture] -/
  sequence : Nat
  /-- CRC. [32; 13 R337; 0 at manufacture] -/
  crc : Nat
  /-- Written by. [32; 13 R337; 0 at manufacture] -/
  writtenBy : Nat
  /-- Body. [<=262,112 bytes; 13 R337; empty at manufacture] -/
  body : List CfgRecord
  deriving DecidableEq, Repr

/-- A check-value unit (R342). -/
structure Cvu where
  /-- CVUn_CTL.POLY. [2; 13 R342; 0] -/
  poly : Nat
  /-- CVUn_CTL.IRQ_EN. [1; 13 R342; 0] -/
  irqEn : Bool
  /-- CVUn_STATE. [32; 13 R342; 0] -/
  state : Word32
  /-- CVUn_EXPECT. [32; 13 R342; 0] -/
  expect : Word32
  /-- CVUn_STAT.MATCH. [1; 13 R342; 0] -/
  matched : Bool
  /-- CVUn_STAT.MISMATCH. [1; 13 R342; 0] -/
  mismatch : Bool
  deriving DecidableEq, Repr

/-- Memory group. -/
structure Mem where
  /-- DRAM installed, MiB. [16; 13 R318; DESIGN CHOICE 4096 fitted on the board, log 2] -/
  installed : Nat
  /-- Address mapping mode. [2; 13 R323; 0] -/
  map : Nat
  /-- Channels DCH0 to DCH3. [4; 13 R318; untrained] -/
  channels : Tab DramChannel
  /-- Corrected. [64; 13 R327; 0] -/
  corrected : Nat
  /-- Corrected errors of the current second. [32; 13 R343; 0] -/
  correctedNow : Nat
  /-- Uncorrectable, transient. [32; 13 R343; 0] -/
  uncTransient : Nat
  /-- Uncorrectable, lasting. [32; 13 R343; 0] -/
  uncLasting : Nat
  /-- Memory losses. [32; 13 R327; 0] -/
  losses : Nat
  /-- Drift retrains. [32; 13 R343; 0] -/
  drifts : Nat
  /-- Cold retrains. [32; 13 R343; 0] -/
  colds : Nat
  /-- Scrub passes complete. [32; 13 R343; 0] -/
  scrubs : Nat
  /-- Corrected errors per page in 24 h. [—; 13 R328; 0] -/
  pageErrors : Tab Nat
  /-- Retired pages: page and cause. [256; 13 R329; kept over resets; empty at manufacture] -/
  retired : List (Nat × Nat)
  /-- PASR bank mask. [16; 13 R330; 0xFFFF] -/
  bankMask : Word16
  /-- PASR segment mask. [8; 13 R330; 0xFF] -/
  segMask : BitVec 8
  /-- Operating seconds in the Felt store. [32; 13 R335; kept over resets; 0 at manufacture] -/
  seconds : Nat
  /-- Power-cycle count. [24; 13 R335; kept over resets; 0 at manufacture] -/
  cycles : Nat
  /-- Brown-out count. [32; 13 R335; kept over resets; 0 at manufacture] -/
  brownouts : Nat
  /-- LLT lock word holds 0x4C4C_4F4B. [32; 13 R334; kept over resets; unlocked at manufacture] -/
  lltLock : Bool
  /-- The store controller refuses writes to 0x00_3000 to 0x00_3FFF. [1; 13 R334; the lock word read at reset] -/
  lltRefuse : Bool
  /-- Writes refused. [32; 13 R334; 0] -/
  lltRefused : Nat
  /-- MRAM writes that succeeded on retry. [32; 13 R343; 0] -/
  mramTransient : Nat
  /-- MRAM writes that failed lastingly. [32; 13 R343; 0] -/
  mramLasting : Nat
  /-- Bank A. [256 KiB; 13 R337; kept over resets] -/
  bankA : CfgBank
  /-- Bank B. [256 KiB; 13 R337; kept over resets] -/
  bankB : CfgBank
  /-- Active bank: 0 A, 1 B. [1; 13 R338; none] -/
  active : Option Nat
  /-- The configuration shadow, in the order accepted. [—; 13 R336; empty] -/
  shadow : List CfgRecord
  /-- Check-value units 0 to 3. [4; 13 R342; 0] -/
  cvus : Tab Cvu
  deriving DecidableEq, Repr

/-- An untrained channel. -/
def DramChannel.reset : DramChannel := ⟨false, 0, 0, 0, false, false, List.replicate 16 0⟩

/-- A bank as manufactured: it fails its check. -/
def CfgBank.empty : CfgBank := ⟨0, 0, 0, 0, 0, []⟩

/-- A check-value unit after reset (R342). -/
def Cvu.reset : Cvu := ⟨0, false, 0, 0, false, false⟩

/-- The memory group of a device as manufactured, after reset. -/
def Mem.reset : Mem where
  installed := 4096
  map := 0
  channels := [(0, .reset), (1, .reset), (2, .reset), (3, .reset)]
  corrected := 0
  correctedNow := 0
  uncTransient := 0
  uncLasting := 0
  losses := 0
  drifts := 0
  colds := 0
  scrubs := 0
  pageErrors := []
  retired := []
  bankMask := 0xFFFF
  segMask := 0xFF
  seconds := 0
  cycles := 0
  brownouts := 0
  lltLock := false
  lltRefuse := false
  lltRefused := 0
  mramTransient := 0
  mramLasting := 0
  bankA := .empty
  bankB := .empty
  active := none
  shadow := []
  cvus := [(0, .reset), (1, .reset), (2, .reset), (3, .reset)]

end Sys2Proof.Machine
end

