-- ==== Sys2Proof/Machine/StateMls.lean ====
section
/-! DEFINITION. State of the Milliner scheduler and the Crown cache (chapter 06).
Each field's docstring ends in brackets: width; file and rule of spec/; value at reset. -/
namespace Sys2Proof.Machine

/-- Settings of SCH_SET_WINDOW, SCH_SET_POLICY and CRN_SET_RESERVE. -/
structure SchedSettings where
  /-- Window, microseconds. [16; 06 R137; 2000] -/
  window : Nat
  /-- Brim, microseconds. [16; 06 R138; 250] -/
  brim : Nat
  /-- Maximum users. [8; 06 R154; 0] -/
  maxUsers : Nat
  /-- Flags. [8; 06 R167; 0x1F] -/
  flags : Nat
  /-- Uplink share, %. [8; 06 R148; 40] -/
  uplink : Nat
  /-- Sounding interval, ms. [16; 06 R147; 50] -/
  sounding : Nat
  /-- Poll interval, ms. [16; 06 R148; 20] -/
  poll : Nat
  /-- Slice weights. [3 x 8; 06 R153; 4] -/
  weights : Tri Nat
  /-- Staging budget, 0.1 microsecond. [8; 06 R156; 15] -/
  budget : Nat
  /-- Late threshold, 0.1 %. [8; 06 R164; 10] -/
  lateThr : Nat
  /-- Reserve-wait threshold, %. [8; 06 R164; 5] -/
  waitThr : Nat
  /-- Starvation age, windows. [8; 06 R144; 8] -/
  starvation : Nat
  /-- Reserve. [8; 06 R152; 8] -/
  reserve : Nat
  /-- Linger, microseconds. [16; 06 R162; 500] -/
  linger : Nat
  /-- Pinned stations, ascending. [<=32; 06 R163; none] -/
  pins : List Nat
  deriving DecidableEq, Repr

/-- A committed plan. -/
structure Plan where
  /-- TXOPs not yet started, in order. [—; 06 R139; none] -/
  txops : List PlanTxop
  /-- Busy slices. [3; 06 R153; 0] -/
  busy : Nat
  /-- Half H. [6; 06 R152; 44] -/
  half : Nat
  /-- Shares. [3 x 8; 06 R153; 0] -/
  shares : Tri Nat
  /-- Distinct stations planned. [<=512; 06 R144; none] -/
  stations : List Nat
  /-- Slices the plan begins with a 200 microsecond idle gap. [3; 06 R146; 0] -/
  gaps : Nat
  deriving DecidableEq, Repr

/-- Role of a Crown slot (R152). -/
inductive CrownRole where
  | pinned | reserve | pool
  deriving DecidableEq, Repr

/-- A resident Crown entry (R151). -/
structure CrownEntry where
  /-- Station. [11; 06 R151; none] -/
  station : Nat
  /-- Role of its slot. [2; 06 R152; none] -/
  role : CrownRole
  /-- Dirty. [1; 06 R151; none] -/
  dirty : Bool
  /-- In the active set or staging set. [1; 06 R152; none] -/
  inUse : Bool
  /-- Linger time running. [1; 06 R162; none] -/
  lingering : Bool
  deriving DecidableEq, Repr

/-- An operation of the Crown engine (R155). -/
structure CrownOp where
  /-- Station. [11; 06 R155; none] -/
  station : Nat
  /-- Fetch (true) or write-back (false). [1; 06 R155; none] -/
  fetch : Bool
  /-- Demand fetch. [1; 06 R160; none] -/
  demand : Bool
  /-- Staging deadline, ns of device time. [64; 06 R156; none] -/
  deadline : Nat
  deriving DecidableEq, Repr

/-- An MPDU held for a Crown entry (R161). -/
structure HeldMpdu where
  /-- Slice it was received on. [2; 06 R161; none] -/
  slice : Nat
  /-- The MPDU. [—; 06 R161; none] -/
  mpdu : RxMpdu
  /-- RX vector of its PPDU. [48 bytes; 04 R102; none] -/
  vector : Bytes
  /-- Raw TIME_NS at the L-STF start of its PPDU. [32; 04 R102; none] -/
  stamp : Nat
  /-- Its PPDU's freeze has passed: it is acknowledged. [1; 06 R161; none] -/
  acked : Bool
  deriving DecidableEq, Repr

/-- A broadcast or restricted TWT schedule (R126, R167). -/
structure TwtSchedule where
  /-- BSS. [8; 06 R167; none] -/
  bss : Nat
  /-- Kind, 0 broadcast, 1 restricted. [8; 06 R167; none] -/
  kind : Nat
  /-- Schedule ID. [8; 06 R167; none] -/
  id : Nat
  /-- Flags. [8; 06 R167; none] -/
  flags : Nat
  /-- TIDs. [8; 06 R167; none] -/
  tids : Nat
  /-- Wake duration. [8; 06 R167; none] -/
  duration : Nat
  /-- Wake interval. [32; 06 R167; none] -/
  interval : Nat
  /-- Offset. [32; 06 R167; none] -/
  offset : Nat
  /-- Persistence. [8; 06 R167; none] -/
  persistence : Nat
  deriving DecidableEq, Repr

/-- Counters of CRN_GET_STATS. -/
structure CrownStats where
  /-- Staging fetches. [64; 06 R156; 0] -/
  fetches : Nat
  /-- Demand fetches. [64; 06 R160; 0] -/
  demand : Nat
  /-- Write-backs. [64; 06 R158; 0] -/
  writebacks : Nat
  /-- User appearances. [64; 06 R167; 0] -/
  appearances : Nat
  /-- Late users. [32; 06 R157; 0] -/
  late : Nat
  /-- Reserve waits. [32; 06 R162; 0] -/
  waits : Nat
  /-- Partial-state responses. [32; 06 R160; 0] -/
  partialState : Nat
  /-- MPDUs held. [32; 06 R161; 0] -/
  held : Nat
  /-- Hold-full. [32; 06 R161; 0] -/
  holdFull : Nat
  /-- Hold-expired. [32; 06 R161; 0] -/
  holdExpired : Nat
  /-- Refetches. [32; 06 R167; 0] -/
  refetches : Nat
  /-- Peak operation time, 0.1 microsecond, since last read. [16; 06 R167; 0] -/
  peakOp : Nat
  /-- Peak hold, since last read. [16; 06 R167; 0] -/
  peakHold : Nat
  /-- Entries lost. [32; 06 R165; 0] -/
  lost : Nat
  /-- Thrash events. [32; 06 R164; 0] -/
  thrash : Nat
  /-- Plan-full windows. [32; 06 R144; 0] -/
  planFull : Nat
  /-- Stations planned in the last window. [16; 06 R167; 0] -/
  planned : Nat
  /-- Peak stations planned, since last read. [16; 06 R167; 0] -/
  peakPlanned : Nat
  deriving DecidableEq, Repr

/-- What is queued for and by a station at a brim start (R139). -/
structure Backlog where
  /-- Station. [11; 06 R139; none] -/
  station : Nat
  /-- Access categories with downlink frames. [4; 06 R144; none] -/
  down : Nat
  /-- Access categories with downlink frames of TIDs held for restricted TWT. [4; 08 R222; none] -/
  held : Nat
  /-- Access category of its buffered uplink, where it has reported some. [2; 06 R144; none] -/
  up : Option Nat
  /-- Device time at which its oldest head of line entered. [64; 06 R144; none] -/
  oldest : Nat
  /-- Airtime its airtime shaper allows it in the window, microseconds; none without one. [32 signed; 06 R149; none] -/
  airtime : Option Int
  deriving DecidableEq, Repr

/-- The scheduler and the Crown cache. -/
structure Milliner where
  /-- Settings last accepted. [—; 06 R167; defaults] -/
  settings : SchedSettings
  /-- Settings snapshot taken at the last brim start. [—; 06 R139; defaults] -/
  snapshot : SchedSettings
  /-- Settings in force in the running window. [—; 06 R138; defaults] -/
  inForce : SchedSettings
  /-- Settings of the last plan committed, under which the Crown's slots have their roles. [—; 06 R163; defaults] -/
  committed : SchedSettings
  /-- Windows run. [1; 06 R137; false] -/
  running : Bool
  /-- Window index. [32; 06 R137; 0] -/
  index : Nat
  /-- A window has run since reset, so the index continues. [1; 06 R137; false] -/
  everRan : Bool
  /-- Raw TIME_NS at the start of the current window. [32; 06 R167; 0] -/
  start : Nat
  /-- Running time at the start of the current window. [64; 06 R139; 0] -/
  startAt : Nat
  /-- The brim is running. [1; 06 R139; false] -/
  inBrim : Bool
  /-- Plan now running. [—; 06 R139; none] -/
  plan : Plan
  /-- Plan of the next window, from the snapshot on; its TXOPs come with its commit. [—; 06 R139; none] -/
  next : Option Plan
  /-- Links and stations sampled at the brim start, and their credit, until the commit. [—; 06 R139; none] -/
  sampled : Option (List (Nat × Nat × Bool))
  /-- Queue depths and airtime credits of stations sampled at the brim start. [—; 06 R139; empty] -/
  backlog : List Backlog
  /-- Crown entries resident, least recently used first. [<=96; 06 R151; empty] -/
  crown : List CrownEntry
  /-- Operations queued. [—; 06 R155; empty] -/
  queue : List CrownOp
  /-- Operations in flight. [<=4; 06 R155; empty] -/
  flight : List CrownOp
  /-- Demand fetches waiting for a reserve slot. [—; 06 R162; empty] -/
  waiting : List Nat
  /-- Hold area. [<=4096; 06 R161; empty] -/
  hold : List HeldMpdu
  /-- Stations evicted in this and in the previous window. [—; 06 R167; empty] -/
  evicted : List Nat × List Nat
  /-- Counts of the current 100 ms: late users, appearances, reserve waits, demand fetches. [4 x 32; 06 R164; 0] -/
  ratio : Nat × Nat × Nat × Nat
  /-- TWT schedules stored. [—; 06 R167; empty] -/
  twt : List TwtSchedule
  /-- TWT schedules snapshot taken at the last brim start. [—; 06 R139; empty] -/
  twtSnap : List TwtSchedule
  /-- TWT schedules in force. [—; 01 R18; empty] -/
  twtNow : List TwtSchedule
  /-- Member stations of schedules: BSS, kind, schedule, station. [—; 06 R167; empty] -/
  members : List (Nat × Nat × Nat × Nat)
  /-- Schedules whose service period is open: BSS, kind, schedule. [—; 08 R222; empty] -/
  openSps : List (Nat × Nat × Nat)
  /-- Beacon intervals schedules have persisted: BSS, kind, schedule, intervals. [—; 06 R167; empty] -/
  persisted : List (Nat × Nat × Nat × Nat)
  /-- MPDUs discarded as hold-full in the current second. [32; 06 R168; 0] -/
  holdFullNow : Nat
  /-- Windows, plan-full windows and peak eligible stations of the current second. [3 x 16; 06 R168; 0] -/
  fullNow : Nat × Nat × Nat
  /-- Counters. [—; 06 R167; 0] -/
  stats : CrownStats
  deriving DecidableEq, Repr

/-- Scheduler settings at their defaults (R167). -/
def SchedSettings.reset : SchedSettings :=
  ⟨2000, 250, 0, 0x1F, 40, 50, 20, .all 4, 15, 10, 5, 8, 8, 500, []⟩

/-- The empty plan. -/
def Plan.empty : Plan := ⟨[], 0, 44, .all 0, [], 0⟩

/-- Crown counters at zero. -/
def CrownStats.reset : CrownStats := ⟨0, 0, 0, 0, 0, 0, 0, 0, 0, 0, 0, 0, 0, 0, 0, 0, 0, 0⟩

/-- The scheduler after reset. -/
def Milliner.reset : Milliner where
  settings := .reset
  snapshot := .reset
  inForce := .reset
  committed := .reset
  running := false
  index := 0
  everRan := false
  start := 0
  startAt := 0
  inBrim := false
  plan := .empty
  next := none
  sampled := none
  backlog := []
  crown := []
  queue := []
  flight := []
  waiting := []
  hold := []
  evicted := ([], [])
  ratio := (0, 0, 0, 0)
  twt := []
  twtSnap := []
  twtNow := []
  members := []
  openSps := []
  persisted := []
  holdFullNow := 0
  fullNow := (0, 0, 0)
  stats := .reset

end Sys2Proof.Machine
end

