-- ==== Sys2Proof/Machine/StateModem.lean ====
section
/-! DEFINITION. State of the LDPC array, the turbo receiver and Cumulus combining (chapter 03).
Each field's docstring ends in brackets: width; file and rule of spec/; value at reset. -/
namespace Sys2Proof.Machine

/-- A codeword in the array (R72). -/
structure Codeword where
  /-- Identity given by its owner. [—; 03 R72; none] -/
  id : Nat
  /-- Slice it came from. [2; 03 R75; none] -/
  slice : Nat
  /-- Class, 0 to 2. [2; 03 R72; none] -/
  cls : Nat
  /-- Deadline, ns of device time. [64; 03 R72; none] -/
  deadline : Nat
  /-- Iteration limit it entered with. [8; 03 R71; none] -/
  limit : Nat
  /-- Its deadline is the freeze of a response. [1; 03 R72; none] -/
  freeze : Bool
  /-- Detection pass of a multi-user RU it belongs to: RU, pass. [—; 03 R76; none] -/
  ru : Option (Nat × Nat)
  deriving DecidableEq, Repr

/-- A multi-user RU between detection passes (R76). -/
structure TurboRu where
  /-- Identity of the RU's TB PPDU and index. [—; 03 R76; none] -/
  id : Nat
  /-- Slice. [2; 03 R76; none] -/
  slice : Nat
  /-- Users in the RU. [4; 03 R76; none] -/
  users : Nat
  /-- Pass finished last, or running. [3; 03 R76; none] -/
  pass : Nat
  /-- Pass count latched when the trigger was sent. [3; 03 R77; none] -/
  latched : Nat
  /-- Codewords that may still enter in the running pass: those that failed in the one before. [—; 03 R76; none] -/
  again : List Nat
  /-- Codewords of the pass still in the array. [13; 03 R76; none] -/
  outstanding : Nat
  /-- Codewords that have failed in the pass. [—; 03 R76; none] -/
  failed : List Nat
  /-- Running time at which the last data symbol of its PPDU ends: codewords of pass 1 come till then. [64; 03 R78; none] -/
  symbols : Nat
  /-- Running time at which the running pass began. [64; 03 R78; none] -/
  begun : Nat
  deriving DecidableEq, Repr

/-- Settings and counters of SCH_SET_TURBO. -/
structure LdpcArray where
  /-- Passes as last accepted. [8; 03 R76; 1] -/
  passes : Nat
  /-- Passes latched for triggers, from the last committed plan. [8; 03 R77; 1] -/
  passesNow : Nat
  /-- Pass count of the plan committed for the next window. [3; 03 R77; as passesNow] -/
  passesNext : Nat
  /-- Iteration limit. [8; 03 R71; 12] -/
  limit : Nat
  /-- Pressure limit. [8; 03 R74; 6] -/
  pressure : Nat
  /-- Late window, microseconds. [16; 03 R80; 200] -/
  lateWindow : Nat
  /-- Codewords queued. [<=8192; 03 R74; empty] -/
  queue : List Codeword
  /-- Codewords in the 24 engines. [<=24; 03 R70; empty] -/
  engines : List Codeword
  /-- RUs with turbo passes outstanding. [—; 03 R76; empty] -/
  rus : List TurboRu
  /-- Peak queue depth in the current second. [16; 03 R85; 0] -/
  peak : Nat
  /-- Codewords dropped in the current second. [32; 03 R85; 0] -/
  droppedNow : Nat
  /-- Codewords decoded. [64; 03 R85; 0] -/
  decoded : Nat
  /-- Codewords failed. [64; 03 R85; 0] -/
  failed : Nat
  /-- Iterations. [64; 03 R85; 0] -/
  iterations : Nat
  /-- Early terminations. [64; 03 R71; 0] -/
  early : Nat
  /-- Late codewords. [32; 03 R73; 0] -/
  late : Nat
  /-- Dropped. [32; 03 R74; 0] -/
  dropped : Nat
  /-- Pressure-limited. [32; 03 R74; 0] -/
  pressured : Nat
  /-- MPDUs recovered in pass 2. [32; 03 R85; 0] -/
  rec2 : Nat
  /-- MPDUs recovered in pass 3. [32; 03 R85; 0] -/
  rec3 : Nat
  /-- MPDUs recovered in pass 4. [32; 03 R85; 0] -/
  rec4 : Nat
  /-- Late-recovered MPDUs. [32; 03 R80; 0] -/
  lateRecovered : Nat
  /-- Late passes not run. [32; 03 R80; 0] -/
  lateNotRun : Nat
  /-- Late duplicates. [32; 03 R80; 0] -/
  lateDup : Nat
  deriving DecidableEq, Repr

/-- A soft-buffer entry (R83). -/
structure SoftEntry where
  /-- Peer station handle. [11; 03 R83; none] -/
  peer : Nat
  /-- Tag. [16; 03 R83; none] -/
  tag : Nat
  /-- Link slice it came from. [2; 03 R84; none] -/
  slice : Nat
  /-- MCS, coding, codeword length and rate as one signature. [—; 03 R83; none] -/
  form : Nat
  /-- Codeword count, the slots it takes. [16; 03 R83; none] -/
  codewords : Nat
  /-- Transmissions it holds. [3; 03 R83; none] -/
  transmissions : Nat
  /-- Usable. [1; 03 R83; none] -/
  usable : Bool
  /-- Slice whose combination in progress locks it. [2; 03 R84; none] -/
  locked : Option Nat
  /-- Its soft values. [6 bits each; 03 R83; none] -/
  llr : List Int
  /-- Running time at which its lifetime ends. [64; 03 R83; none] -/
  expires : Nat
  deriving DecidableEq, Repr

/-- One peer of Cumulus combining (R81). -/
structure CumulusPeer where
  /-- Enabled on this side. [1; 03 R81; false] -/
  enabled : Bool
  /-- Links as last accepted. [3; 03 R81; 7] -/
  links : Nat
  /-- Slots. [16; 03 R83; 43,690] -/
  slots : Nat
  /-- Lifetime, ms. [8; 03 R83; 4] -/
  lifetime : Nat
  /-- Combines. [8; 03 R83; 4] -/
  combines : Nat
  /-- Element received from the peer: version, flags, links, lifetime, combines. [—; 03 R81; none] -/
  element : Option (Nat × Nat × Nat × Nat × Nat)
  /-- Combining is active. [1; 03 R81; false] -/
  active : Bool
  /-- Next tag. [16; 03 R82; DESIGN CHOICE 0, log 2] -/
  nextTag : Nat
  /-- Maps failed. [32; 03 R84; 0] -/
  mapsFailed : Nat
  /-- Codewords stored. [32; 03 R85; 0] -/
  stored : Nat
  /-- Not stored. [32; 03 R84; 0] -/
  notStored : Nat
  /-- Combined. [32; 03 R85; 0] -/
  combined : Nat
  /-- Combined and correct. [32; 03 R85; 0] -/
  correct : Nat
  /-- Expired. [32; 03 R85; 0] -/
  expired : Nat
  /-- Mismatched. [32; 03 R84; 0] -/
  mismatched : Nat
  deriving DecidableEq, Repr

/-- Modem group: shared decoding resources. -/
structure Modem where
  /-- The LDPC array and its settings. [—; 03 R70; as LdpcArray] -/
  lda : LdpcArray
  /-- Cumulus peers by station handle. [<=8; 03 R81; none] -/
  peers : Tab CumulusPeer
  /-- Soft buffer. [43,690 slots; 03 R83; empty] -/
  soft : List SoftEntry
  deriving DecidableEq, Repr

/-- The LDPC array after reset. -/
def LdpcArray.reset : LdpcArray where
  passes := 1
  passesNow := 1
  passesNext := 1
  limit := 12
  pressure := 6
  lateWindow := 200
  queue := []
  engines := []
  rus := []
  peak := 0
  droppedNow := 0
  decoded := 0
  failed := 0
  iterations := 0
  early := 0
  late := 0
  dropped := 0
  pressured := 0
  rec2 := 0
  rec3 := 0
  rec4 := 0
  lateRecovered := 0
  lateNotRun := 0
  lateDup := 0

/-- The modem group after reset. -/
def Modem.reset : Modem := ⟨.reset, [], []⟩

end Sys2Proof.Machine
end

