-- ==== Sys2Proof/Machine/StatePower.lean ====
section
/-! DEFINITION. State of the power manager, resets, wake logic, boot and thermal protection (chapters 17, 20 and 21).
Each field's docstring ends in brackets: width; file and rule of spec/; value at reset. -/
namespace Sys2Proof.Machine

/-- The power states of R399. -/
inductive PwrState where
  | run | quiet | standby | sleep | off
  deriving DecidableEq, Repr

/-- Where a wake sequence stands (R407). -/
inductive WakePhase where
  /-- No wake in progress. -/
  | none
  /-- Waiting for the ready signal of the step. -/
  | waiting
  /-- The retry delay of the step is running. -/
  | delay
  /-- All five steps are done; firmware resumes or boots. -/
  | resuming
  deriving DecidableEq, Repr

/-- What PWR_SET_WAKE_SOURCES sets (R419). -/
structure WakeConfig where
  /-- Wake target, 0 RUN or 1 QUIET. [8; 17 R419; 0] -/
  target : Nat
  /-- Sources. [16; 17 R419; 0] -/
  sources : Word16
  /-- GPIO mask. [16; 17 R419; 0] -/
  gpioMask : Word16
  /-- GPIO polarity, 1 active high. [16; 17 R419; 0] -/
  gpioPolarity : Word16
  /-- AON timer, in seconds. [32; 17 R419; 0] -/
  timer : Nat
  deriving DecidableEq, Repr

/-- An event that waits until UMP is ready (R298, R406, R407, R408). -/
structure Report where
  /-- Event code. [16; 17 R407; none] -/
  code : Nat
  /-- Payload. [<=112 bytes; 17 R407; none] -/
  payload : Bytes
  /-- A fixed record of it has been written already. [1; 17 R407; none] -/
  recorded : Bool
  /-- FAULT_CODE takes it. [1; 18 R436; none] -/
  fault : Bool
  deriving DecidableEq, Repr

/-- The power manager. -/
structure Power where
  /-- PWR_STAT.STATE. [3; 10 R246; RUN] -/
  state : PwrState
  /-- PWR_STAT.LIMP. [1; 10 R246; 0] -/
  limp : Bool
  /-- PWR_STAT.CHANGING. [1; 10 R246; 0] -/
  changing : Bool
  /-- Target of the transition in progress or accepted. [3; 17 R402; none] -/
  target : Option PwrState
  /-- PWR_STAT.DOMAINS: bit n is PWR_STAT bit 16 + n. [11; 10 R246; 0] -/
  domains : BitVec 11
  /-- Device held in reset by TEST0. [1; 20 R467; false] -/
  held : Bool
  /-- BOOT_STAT.STAGE. [8; 10 R246; 0] -/
  stage : Nat
  /-- BOOT_STAT.SLOT. [1; 10 R246; 0] -/
  bootSlot : Nat
  /-- BOOT_STAT.FELL_BACK. [1; 10 R246; 0] -/
  fellBack : Bool
  /-- BOOT_STAT.CAUSE. [4; 10 R246; 0] -/
  bootCauseCode : Nat
  /-- BOOT_STAT.FAULT. [16; 10 R246; 0] -/
  bootFault : Nat
  /-- BOOT_SEL[1:0] as sampled. [2; 17 R417; strap: 0] -/
  bootSel : Nat
  /-- DEV_IDX[5:0] as sampled. [6; 17 R417; strap: 0] -/
  devIdx : Nat
  /-- Cause of the boot in progress for EV_SYS_BOOT, 0 to 4. [8; 18 R440; 0 power-on] -/
  bootCause : Nat
  /-- Image now running: 0 A, 1 B, 2 host image, 255 none. [8; 11 R279; 255] -/
  image : Nat
  /-- FW_VER of the image accepted, shown from stage 0x03. [32; 10 R246; 0] -/
  version : Nat
  /-- Why the other slot was booted: 0 unconfirmed trial, 1 rejected. [8; 19 R455; 0] -/
  fellCause : Nat
  /-- WAKE_LAST.SOURCE. [8; 10 R246; 0] -/
  wakeSource : Nat
  /-- WAKE_LAST.PORT. [3; 10 R246; 0] -/
  wakePort : Nat
  /-- WAKE_LAST.INDEX. [4; 10 R246; 0] -/
  wakeIndex : Nat
  /-- Wake phase. [—; 17 R407; none] -/
  wake : WakePhase
  /-- Wake step in progress, 1 to 5. [3; 17 R407; 0] -/
  wakeStep : Nat
  /-- The step has failed once. [1; 17 R407; false] -/
  wakeFailed : Bool
  /-- Power state left by the wake. [3; 17 R420; none] -/
  wakeFrom : PwrState
  /-- Events to raise once UMP is ready. [—; 17 R407; empty] -/
  reports : List Report
  /-- The retained DRAM set was lost and the wake boots from NOR. [1; 17 R408; false] -/
  coldWake : Bool
  /-- The wake sources are armed. [1; 17 R404; false] -/
  armed : Bool
  /-- Wake configuration as last accepted. [128; 17 R419; target RUN, sources 0] -/
  wakeCfg : WakeConfig
  /-- Wake configuration taken at the last arming. [128; 17 R404; as wakeCfg] -/
  armedCfg : WakeConfig
  /-- Wakes. [32; 17 R418; 0] -/
  wakes : Nat
  /-- Wake transient faults. [32; 17 R418; 0] -/
  wakeTransient : Nat
  /-- Wake lasting faults. [32; 17 R418; 0] -/
  wakeLasting : Nat
  /-- Access faults. [32; 17 R418; 0] -/
  accessFaults : Nat
  /-- Limp entries. [32; 17 R418; 0] -/
  limpEntries : Nat
  /-- Cause of limp mode for EV_PWR_LIMP, 0 to 2. [8; 17 R420; 0] -/
  limpCause : Nat
  /-- Last wake time, in microseconds. [32; 17 R418; 0] -/
  lastWakeTime : Nat
  /-- PD_AON runs from the RC oscillator. [1; 17 R415; true until the crystal starts] -/
  aonRc : Bool
  /-- The crystal start-up window of 2 s is running. [1; 21 R480; true] -/
  xt32Starting : Bool
  /-- Brown-out latch. [1; 17 R406; 0] -/
  brownoutLatch : Bool
  /-- Thermal level, 0 to 3. [2; 17 R413; 0] -/
  thermal : Nat
  /-- A limit set by a lasting AVS failure holds until reset. [1; 21 R475; false] -/
  avsLimit : Bool
  /-- A thermal trip has happened and the wake sources are not armed yet. [1; 17 R413; false] -/
  tripped : Bool
  /-- Highest junction reading, 0.25 degC. [16 signed; 17 R413; DESIGN CHOICE 0, log 2] -/
  temperature : Int
  /-- Sensor that gave it. [8; 17 R420; DESIGN CHOICE 0, log 2] -/
  sensor : Nat
  /-- FAULT_OUT_N asserted. [1; 17 R408; false] -/
  faultOut : Bool
  /-- SLP_N driven low. [1; 17 R411; false] -/
  slpLow : Bool
  /-- PCIE_WAKE_N pulled low by the device. [1; 17 R404; false] -/
  pcieWakeLow : Bool
  /-- VDD_CORE target in units of 5 mV. [8; 21 R475; DESIGN CHOICE 0: not written yet, log 2] -/
  avsTarget : Nat
  /-- VDD_CORE target acknowledged by the PMIC. [8; 21 R475; DESIGN CHOICE 0, log 2] -/
  avsNow : Nat
  /-- An AVS write waits for its retry. [1; 21 R475; false] -/
  avsRetry : Bool
  /-- Running time of the latest AVS write. [64; 21 R475; 0] -/
  avsAt : Nat
  /-- A reset due 100 ms after a command: 1 trial or roll-back, 2 lifecycle. [2; 12 R291; none] -/
  pendingReset : Nat
  /-- Running time at which that reset is due. [64; 12 R291; 0] -/
  resetAt : Nat
  /-- The pending MPX halt latched in PD_AON for the next boot: core and cause. [—; 18 R429; none] -/
  mpxHalt : Option (Nat × Nat)
  /-- MPX cores halted. [2; 18 R429; 0] -/
  mpxHalted : BitVec 2
  deriving DecidableEq, Repr

/-- The wake configuration before any command (R419). -/
def WakeConfig.reset : WakeConfig := ⟨0, 0, 0, 0, 0⟩

/-- The power manager right after a power-on reset (R246, R416). -/
def Power.reset : Power where
  state := .run
  limp := false
  changing := false
  target := none
  domains := 0
  held := false
  stage := 0
  bootSlot := 0
  fellBack := false
  bootCauseCode := 0
  bootFault := 0
  bootSel := 0
  devIdx := 0
  bootCause := 0
  image := 255
  version := 0
  fellCause := 0
  wakeSource := 0
  wakePort := 0
  wakeIndex := 0
  wake := .none
  wakeStep := 0
  wakeFailed := false
  wakeFrom := .run
  reports := []
  coldWake := false
  armed := false
  wakeCfg := .reset
  armedCfg := .reset
  wakes := 0
  wakeTransient := 0
  wakeLasting := 0
  accessFaults := 0
  limpEntries := 0
  limpCause := 0
  lastWakeTime := 0
  aonRc := true
  xt32Starting := true
  brownoutLatch := false
  thermal := 0
  avsLimit := false
  tripped := false
  temperature := 0
  sensor := 0
  faultOut := false
  slpLow := false
  pcieWakeLow := false
  avsTarget := 0
  avsNow := 0
  avsRetry := false
  avsAt := 0
  pendingReset := 0
  resetAt := 0
  mpxHalt := none
  mpxHalted := 0

end Sys2Proof.Machine
end

