-- ==== Sys2Proof/Machine/StateQme.lean ====
section
/-! DEFINITION. State of queueing, shaping, policing, gates and sampling (chapter 08).
Each field's docstring ends in brackets: width; file and rule of spec/; value at reset. -/
namespace Sys2Proof.Machine

/-- A queue's settings and counters (R205, R207, R225). -/
structure QueueInfo where
  /-- Limit, cells. [—; 08 R207; 2048, 1024, 512 or 256 by kind] -/
  limit : Nat
  /-- Marked limit, cells. [—; 08 R207; half the limit] -/
  marked : Nat
  /-- Sojourn drop enabled. [1; 08 R225; false] -/
  sojourn : Bool
  /-- Sojourn target, ms. [8; 08 R225; 5] -/
  target : Nat
  /-- Sojourn interval, ms. [16; 08 R225; 100] -/
  interval : Nat
  /-- above, in ns; none. [64; 08 R225; none] -/
  above : Option Nat
  /-- dropping. [1; 08 R225; false] -/
  dropping : Bool
  /-- count. [32; 08 R225; 0] -/
  count : Nat
  /-- next, in ns. [64; 08 R225; 0] -/
  next : Nat
  /-- Cells in the queue. [—; 08 R207; 0] -/
  depth : Nat
  /-- Peak depth since the last read. [—; 08 R226; 0] -/
  peak : Nat
  /-- Frames held (wired, punt, Drizzle, MGT and group queues). [—; 08 R205; empty] -/
  frames : List Frame
  /-- Deficit of round robin, bytes. [—; 08 R208; 0] -/
  deficit : Nat
  /-- Entered. [64; 08 R226; 0] -/
  nIn : Nat
  /-- Left. [64; 08 R226; 0] -/
  nOut : Nat
  /-- Tail drops. [32; 08 R207; 0] -/
  nTail : Nat
  /-- Marked drops. [32; 08 R207; 0] -/
  nMarked : Nat
  /-- Pool drops. [32; 08 R207; 0] -/
  nPool : Nat
  /-- Sojourn drops. [32; 08 R225; 0] -/
  nSojourn : Nat
  /-- Gate-oversize drops. [32; 08 R220; 0] -/
  nOversize : Nat
  /-- Gate overruns. [32; 08 R221; 0] -/
  nOverrun : Nat
  /-- Gate-closed time, ns. [64; 08 R220; 0] -/
  closedNs : Nat
  /-- Running time from which the queue has held frames behind a closed gate; none while it does not. [64; 08 R220; none] -/
  closedAt : Option Nat
  deriving DecidableEq, Repr

/-- Settings of a shaper (R212). -/
structure ShaperCfg where
  /-- Unit, 0 bytes, 1 airtime. [8; 08 R211; none] -/
  unit : Nat
  /-- Rate. [32; 08 R212; none] -/
  rate : Nat
  /-- Burst. [32; 08 R212; none] -/
  burst : Nat
  /-- Refill interval, microseconds. [16; 08 R212; 10] -/
  interval : Nat
  /-- Overhead. [8 signed; 08 R211; +20 wired, 0 air] -/
  overhead : Int
  /-- Level. [8; 08 R210; none] -/
  level : Nat
  deriving DecidableEq, Repr

/-- An object a shaper covers (R210): kind 0 station, 1 BSS, 2 wired queue, 3 port; and its number. -/
abbrev ShaperTarget := Nat × Nat

/-- A shaper (R210). -/
structure Shaper where
  /-- Settings in effect. [—; 08 R212; none] -/
  cfg : ShaperCfg
  /-- Settings accepted and due at the next refill. [—; 08 R215; none] -/
  due : Option ShaperCfg
  /-- Credit. [32 signed; 08 R212; 0] -/
  credit : Int
  /-- Remainder carried, in millionths of a unit. [—; 08 R212; 0] -/
  remainder : Nat
  /-- Credit at the last refill. [32 signed; 08 R226; 0] -/
  lastCredit : Int
  /-- Active. [1; 08 R213; false] -/
  active : Bool
  /-- Objects attached. [—; 08 R210; none] -/
  attached : List ShaperTarget
  /-- Attach (true) and detach requests due at the next refill. [—; 08 R215; empty] -/
  dueAttach : List (Bool × ShaperTarget)
  deriving DecidableEq, Repr

/-- Settings of a policer (R216). -/
structure PolicerCfg where
  /-- Mode. [8; 08 R216; none] -/
  mode : Nat
  /-- CIR, kbit/s. [32; 08 R216; none] -/
  cir : Nat
  /-- PIR, kbit/s. [32; 08 R216; none] -/
  pir : Nat
  /-- CBS, bytes. [32; 08 R216; none] -/
  cbs : Nat
  /-- PBS, bytes. [32; 08 R216; none] -/
  pbs : Nat
  /-- Yellow action. [8; 08 R217; 1] -/
  yellow : Nat
  /-- Red action. [8; 08 R217; 2] -/
  red : Nat
  deriving DecidableEq, Repr

/-- A policer (R216). -/
structure Policer where
  /-- Settings in effect. [—; 08 R216; none] -/
  cfg : PolicerCfg
  /-- Settings due at the next refill. [—; 08 R216; none] -/
  due : Option PolicerCfg
  /-- Committed bucket, bytes. [32; 08 R216; full] -/
  tc : Nat
  /-- Peak bucket, bytes. [32; 08 R216; full] -/
  tp : Nat
  /-- Remainders carried, in 1/8000 byte. [—; 08 R216; 0] -/
  rem : Nat × Nat
  /-- Sources attached: kind 1 station, 2 port; number. [—; 08 R218; none] -/
  sources : List (Nat × Nat)
  /-- Green packets. [64; 08 R226; 0] -/
  green : Nat
  /-- Yellow packets. [64; 08 R226; 0] -/
  yellow : Nat
  /-- Red packets. [64; 08 R226; 0] -/
  red : Nat
  /-- Dropped packets. [64; 08 R226; 0] -/
  dropped : Nat
  deriving DecidableEq, Repr

/-- A gate control list (R219). -/
structure Gcl where
  /-- Base time, ns. [64; 08 R219; none] -/
  base : Nat
  /-- Cycle time, ns. [32; 08 R219; none] -/
  cycle : Nat
  /-- Entries: gates and interval. [1 to 256; 08 R219; none] -/
  entries : List (Nat × Nat)
  deriving DecidableEq, Repr

/-- The gates of a port (R219). -/
structure Gates where
  /-- Operational list. [—; 08 R219; none] -/
  oper : Option Gcl
  /-- Pending list. [—; 08 R219; none] -/
  pending : Option Gcl
  /-- Entry now applied. [8; 08 R219; 0] -/
  entry : Nat
  /-- Gates now open. [8; 08 R219; 0xFF: every gate open] -/
  open_ : Nat
  deriving DecidableEq, Repr

/-- Queueing and shaping. -/
structure Qme where
  /-- Queues whose settings, content or counters differ from the defaults of their kind. [16,489; 08 R205; defaults] -/
  queues : Tab QueueInfo
  /-- Free cells of the DRAM pool. [—; 08 R206; by installed DRAM once trained] -/
  poolFree : Nat
  /-- Cells of the DRAM pool, fixed at boot. [—; 08 R206; by installed DRAM] -/
  poolSize : Nat
  /-- Cells of retired pages that frames still hold: they are not used again. [—; 13 R329; 0] -/
  poolOwed : Nat
  /-- Pool drops of the current second. [32; 08 R227; 0] -/
  poolDropNow : Nat
  /-- Shapers. [4096; 08 R210; none set] -/
  shapers : Tab Shaper
  /-- Policers. [4096; 08 R216; none set] -/
  policers : Tab Policer
  /-- Gates of ports 0 to 3. [4; 08 R219; no list] -/
  gates : Tab Gates
  /-- Strict mask per port. [4 x 8; 08 R208; 0xFF] -/
  strict : Tab Nat
  /-- Weights per port. [4 x 8 x 8; 08 R208; 1] -/
  weights : Tab (List Nat)
  /-- Round-robin position per port. [4 x 3; 08 R208; 0] -/
  rr : Tab Nat
  /-- Priority-to-queue map per port. [4 x 8 x 3; 07 R200; identity] -/
  prioMap : Tab (List Nat)
  /-- DSCP map. [64 x 3; 07 R200; DSCP[5:3], 44 and 46 to 6] -/
  dscpMap : List Nat
  /-- PCP map. [8 x 3; 07 R200; identity] -/
  pcpMap : List Nat
  /-- Sample ring size, records. [21; 08 R223; 65,536] -/
  ringSize : Nat
  /-- Sample records waiting, oldest first. [16 bytes each; 08 R223; empty] -/
  samples : List Bytes
  /-- Write index. [32; 08 R226; 0] -/
  writeIdx : Nat
  /-- Read index. [32; 08 R226; 0] -/
  readIdx : Nat
  /-- Samples lost. [32; 08 R224; 0] -/
  lost : Nat
  /-- Samples lost before the next record. [1; 08 R224; false] -/
  lostFlag : Bool
  /-- Samples lost in the current second. [32; 08 R227; 0] -/
  lostNow : Nat
  /-- Sampled ranges: first queue, last queue, interval ms. [—; 08 R223; none] -/
  sampled : List (Nat × Nat × Nat)
  /-- The last range command as in force: first, last, interval. [3 x 16; 08 R226; 0] -/
  lastRange : Nat × Nat × Nat
  deriving DecidableEq, Repr

/-- The DSCP map before any command: DSCP[5:3], with 44 and 46 to 6 (R200). -/
def Qme.dscpDefault : List Nat :=
  (List.range 64).map fun d => if d == 44 || d == 46 then 6 else d / 8

/-- Queueing after reset. -/
def Qme.reset : Qme where
  queues := []
  poolFree := 0
  poolSize := 0
  poolOwed := 0
  poolDropNow := 0
  shapers := []
  policers := []
  gates := []
  strict := []
  weights := []
  rr := []
  prioMap := []
  dscpMap := Qme.dscpDefault
  pcpMap := [0, 1, 2, 3, 4, 5, 6, 7]
  ringSize := 65536
  samples := []
  writeIdx := 0
  readIdx := 0
  lost := 0
  lostFlag := false
  lostNow := 0
  sampled := []
  lastRange := (0, 0, 0)

end Sys2Proof.Machine
end

