-- ==== Sys2Proof/Machine/StateRadio.lean ====
section
/-! DEFINITION. State of the radio slices, the Halo canceller and receive acquisition (chapters 02 and 04).
Each field's docstring ends in brackets: width; file and rule of spec/; value at reset. -/
namespace Sys2Proof.Machine

/-- The states of a slice (R30). -/
inductive SliceState where
  | off | stopped | tuning | cac | ready | fault
  deriving DecidableEq, Repr

/-- A channel (R32). -/
structure Channel where
  /-- Width code, 0 = 20 MHz to 4 = 320 MHz. [8; 02 R32; none] -/
  width : Nat
  /-- Centre, in MHz. [16; 02 R32; none] -/
  centre : Nat
  /-- Primary 20 MHz index. [8; 02 R32; none] -/
  primary : Nat
  /-- Puncture bitmap. [16; 02 R32; none] -/
  puncture : Word16
  deriving DecidableEq, Repr

/-- A channel change under way (R33, R35). -/
structure Tuning where
  /-- Channel asked for; none where the slice is to stop. [—; 02 R35; none] -/
  channel : Option Channel
  /-- Backup channel that goes with it. [—; 02 R35; none] -/
  backup : Option Channel
  /-- The hop has begun. [1; 02 R35; none] -/
  begun : Bool
  /-- It changes the band, or tunes from STOPPED, FAULT or power-up. [1; 02 R33; none] -/
  band : Bool
  /-- The lock has failed once. [1; 02 R58; none] -/
  lockFailed : Bool
  /-- The lock has been reached. [1; 02 R33; none] -/
  locked : Bool
  /-- A fast calibration has failed once. [1; 02 R58; none] -/
  calFailed : Bool
  /-- Lock time, in microseconds. [16; 02 R59; none] -/
  lockUs : Nat
  deriving DecidableEq, Repr

/-- The |gamma| band of a chain (R44). -/
inductive GammaBand where
  | normal | warning | reduced | disabled
  deriving DecidableEq, Repr

/-- One transmit chain and its aerial port (R44). -/
structure Chain where
  /-- Tuner shunt code. [6; 02 R44; DESIGN CHOICE 0, log 2] -/
  shunt : Nat
  /-- Tuner series code. [6; 02 R44; DESIGN CHOICE 0, log 2] -/
  series : Nat
  /-- Codes held or set. [1; 02 R46; false] -/
  held : Bool
  /-- |gamma| x 255 as last measured. [8; 02 R44; DESIGN CHOICE 0, log 2] -/
  gamma : Nat
  /-- Mismatch band. [2; 02 R44; normal] -/
  band : GammaBand
  /-- Consecutive PPDUs at least 0.05 below the band's threshold. [4; 02 R44; 0] -/
  below : Nat
  deriving DecidableEq, Repr

/-- A calibration step queued or running (R49). -/
structure CalStep where
  /-- Kind: 0 DC, 1 IQ, 2 TSSI, 3 tuner, 4 DPD. [3; 02 R49; none] -/
  kind : Nat
  /-- Steps left of the kind. [3; 02 R49; none] -/
  left : Nat
  /-- The step failed once. [1; 02 R58; none] -/
  failed : Bool
  deriving DecidableEq, Repr

/-- A RAD_CALIBRATE in progress (R50). -/
structure CalJob where
  /-- Kinds requested. [5; 02 R50; none] -/
  kinds : Nat
  /-- Kinds done. [5; 02 R59; none] -/
  done : Nat
  /-- Kinds failed lastingly. [5; 02 R59; none] -/
  failed : Nat
  /-- Kinds retried. [5; 02 R59; none] -/
  retried : Nat
  /-- Force mode. [1; 02 R50; none] -/
  forced : Bool
  /-- Its CTS-to-self has not been sent. [1; 02 R50; none] -/
  waits : Bool
  /-- Running time of its acceptance. [64; 02 R59; none] -/
  since : Nat
  /-- Running time at which its last step so far ended. [64; 02 R59; as since] -/
  lastEnd : Nat
  deriving DecidableEq, Repr

/-- The receiver of a slice (chapter 04). -/
inductive RxPhase where
  /-- Ordinary search (R86). -/
  | search
  /-- Search blanked (R87). -/
  | blanked
  /-- TB window: only the TB search runs (R96). -/
  | tbWindow
  /-- Receiving a PPDU. -/
  | receiving
  /-- Waiting out a foreign format's L-SIG duration (R95). -/
  | foreign
  deriving DecidableEq, Repr

/-- A reception in progress. -/
structure Reception where
  /-- Its number among the slice's receptions. [—; 04 R101; none] -/
  id : Nat
  /-- Format code of R102. [8; 04 R102; none] -/
  format : Nat
  /-- L-SIG duration, in microseconds. [16; 04 R102; none] -/
  duration : Nat
  /-- Reference level, dBm. [8 signed; 04 R98; none] -/
  reference : Int
  /-- Width code. [8; 04 R102; none] -/
  width : Nat
  /-- RSSI per chain, dBm. [8 x 8 signed; 04 R102; none] -/
  rssi : List Int
  /-- Analog gain frozen or preset, dB. [8; 04 R89 R96; none] -/
  gain : Int
  /-- Digital gain trim, dB. [8 signed; 04 R90; none] -/
  trim : Int
  /-- Carrier frequency offset frozen, 100 Hz. [16 signed; 04 R91; none] -/
  cfo : Int
  /-- Sampling frequency offset frozen with it, ppb. [—; 04 R92; none] -/
  sfo : Int
  /-- L-SIG checks passed. [1; 04 R100; none] -/
  lsig : Bool
  /-- Capture restart armed. [1; 04 R99; none] -/
  armed : Bool
  /-- It is a solicited TB PPDU. [1; 04 R96; none] -/
  tb : Bool
  /-- It has replaced a solicited TB PPDU, whose span is not shortened. [1; 04 R100; none] -/
  span : Bool
  /-- The RA check has rejected it: it is not addressed to the device. [1; 02 R56; none] -/
  rejected : Bool
  /-- Halo was cancelling for the slice at its start. [1; 04 R102; none] -/
  halo : Bool
  /-- RX vector flags so far. [8; 04 R102; none] -/
  flags : Nat
  /-- Receptions abandoned on the way to it. [8; 04 R102; none] -/
  restarts : Nat
  /-- MPDUs delivered so far. [—; 04 R102; none] -/
  delivered : Nat
  /-- Raw TIME_NS at the L-STF start. [32; 04 R102; none] -/
  stamp : Nat
  /-- Station its first MPDU with a good FCS came from; 0xFFFF none yet. [16; 05 R122; none] -/
  station : Nat
  /-- RX vectors composed so far, by the user's station, 0xFFFF for a PPDU of one user. [48 bytes each; 04 R102; none] -/
  vectors : Tab Bytes
  deriving DecidableEq, Repr

/-- Acquisition settings of R103. -/
structure AcqSettings where
  /-- Detection threshold, dBm. [8 signed; 04 R86; -82] -/
  detection : Int
  /-- Capture threshold, dB; 0 off. [8; 04 R98; 8] -/
  capture : Nat
  /-- Preset tolerance, dB. [8; 04 R97; 6] -/
  tolerance : Nat
  deriving DecidableEq, Repr

/-- Acquisition counters of R104. -/
structure AcqCounters where
  /-- Detections. [32; 04 R104; 0] -/
  detections : Nat
  /-- L-SIG parity failures. [32; 04 R94; 0] -/
  lsigParity : Nat
  /-- L-SIG rate failures. [32; 04 R94; 0] -/
  lsigRate : Nat
  /-- L-SIG length failures. [32; 04 R94; 0] -/
  lsigLength : Nat
  /-- SIG CRC failures. [32; 04 R94; 0] -/
  sigCrc : Nat
  /-- EHT-SIG CRC failures. [32; 04 R94; 0] -/
  ehtSigCrc : Nat
  /-- DSSS header failures. [32; 04 R94; 0] -/
  dsssHeader : Nat
  /-- Foreign formats. [32; 04 R95; 0] -/
  foreign : Nat
  /-- Captures. [32; 04 R100; 0] -/
  captures : Nat
  /-- Restarts. [32; 04 R100; 0] -/
  restarts : Nat
  /-- Overlaps ignored. [32; 04 R100; 0] -/
  overlaps : Nat
  /-- Receptions cut by transmission. [32; 04 R87; 0] -/
  cut : Nat
  /-- TB PPDUs missing. [32; 04 R97; 0] -/
  tbMissing : Nat
  /-- TB preset misses. [32; 04 R97; 0] -/
  presetMisses : Nat
  /-- False detections in the current second. [16; 04 R105; 0] -/
  falseThisSecond : Nat
  /-- MPDUs whose FCS failed: the stage that stops a frame counts it. [32; 01 R23, 04 R92; 0] -/
  fcsFailed : Nat
  /-- MPDUs discarded at stage 8: behind a hole given up, or a fragment out of order. [32; 01 R23; 0] -/
  stage8 : Nat
  deriving DecidableEq, Repr

/-- A PPDU being sent on a slice (R37, R65). -/
structure TxPpdu where
  /-- Kind: 0 data, 1 trigger, 2 beacon, 3 management, 4 control response, 5 group, 6 RTS, 7 FTM or NDP. [—; 05 R121; none] -/
  kind : Nat
  /-- Duration, in microseconds. [16; 02 R42; none] -/
  duration : Nat
  /-- Owner's access category. [2; 05 R110; none] -/
  ac : Nat
  /-- What the modem is given with it. [—; 03 R65; none] -/
  vec : TxVector
  /-- Running time at which it started. [64; 02 R42; none] -/
  since : Nat
  /-- Target power of each active chain, in 0.01 dBm. [8 x 16 signed; 02 R37; none] -/
  power : Tab Int
  /-- Stations it is sent to. [—; 02 R65; none] -/
  stations : List Nat
  deriving DecidableEq, Repr

/-- One radio slice. -/
structure Slice where
  /-- State. [3; 02 R30; OFF] -/
  state : SliceState
  /-- TX lock flag. [1; 02 R43; 0] -/
  txLock : Bool
  /-- Channel in force. [—; 02 R32; none] -/
  channel : Option Channel
  /-- Channel last requested. [—; 02 R35; none] -/
  requested : Option Channel
  /-- Backup channel. [—; 02 R35; none] -/
  backup : Option Channel
  /-- Channel held when the slice last lost its power. [—; 17 R401; none] -/
  last : Option Channel
  /-- Channel change in progress. [—; 02 R33; none] -/
  tuning : Option Tuning
  /-- Chain mask of RAD_SET_TX_LIMITS. [8; 02 R59; 0xFF] -/
  chainMask : BitVec 8
  /-- Maximum power, 0.25 dBm. [16 signed; 02 R37; +64] -/
  maxPower : Int
  /-- TX_TMO, 0.1 ms. [16; 02 R43; 60] -/
  txTmo : Nat
  /-- TX_DEFER, microseconds. [16; 02 R34; 100] -/
  txDefer : Nat
  /-- FEM mode. [1; 02 R46; off] -/
  fem : Bool
  /-- FEM_CTLx[3:0] as driven. [4; 02 R46; 0b0000] -/
  femCtl : BitVec 4
  /-- The eight chains. [—; 02 R44; as Chain] -/
  chains : List Chain
  /-- PA-on intervals of the last second: device time of start and end. [—; 02 R42; empty] -/
  paOn : List (Nat × Nat)
  /-- Duty denials in the current second. [16; 02 R60; 0] -/
  denialsNow : Nat
  /-- Transmit requests waiting on the synthesiser: access category, and what is to be sent as in `Txop.what`. [—; 02 R34; empty] -/
  deferred : List (Nat × Nat)
  /-- PPDU being sent. [—; 02 R43; none] -/
  tx : Option TxPpdu
  /-- Deferred transmits. [32; 02 R34; 0] -/
  nDeferred : Nat
  /-- SYNTH_NOT_READY. [32; 02 R34; 0] -/
  nSynth : Nat
  /-- TX timeouts. [32; 02 R43; 0] -/
  nTimeout : Nat
  /-- Regulatory clips. [32; 02 R40; 0] -/
  nClip : Nat
  /-- Duty denials. [32; 02 R42; 0] -/
  nDuty : Nat
  /-- Radar detections. [32; 02 R47; 0] -/
  nRadar : Nat
  /-- Radar confirmed on the READY slice, channel move pending. [1; 02 R48; false] -/
  radarMove : Bool
  /-- Calibration kinds queued. [—; 02 R49; empty] -/
  calQueue : List CalStep
  /-- Calibration step running. [—; 02 R49; none] -/
  calRunning : Option CalStep
  /-- RAD_CALIBRATE in progress. [—; 02 R50; none] -/
  calJob : Option CalJob
  /-- Calibration kinds marked failed. [5; 02 R58; 0] -/
  calFailed : Nat
  /-- IQ capture outstanding, with raw TIME_NS of its trigger once it has fired. [—; 02 R59; none] -/
  capture : Option (Option Nat)
  /-- Self test in progress. [1; 02 R51; false] -/
  selfTest : Bool
  /-- Temperature, 0.25 degC. [16 signed; 02 R59; DESIGN CHOICE 0, log 2] -/
  temperature : Int
  /-- It waits out of every plan for its canceller to be trained for its new channel. [1; 01 R18; false] -/
  haloWait : Bool
  /-- The LNA is bypassed. [1; 02 R46; false] -/
  lnaBypass : Bool
  /-- Receptions begun. [—; 04 R101; 0] -/
  rxCount : Nat
  /-- The response freeze of the PPDU received last has passed. [1; 03 R72; true] -/
  rxFrozen : Bool
  /-- The Cumulus map of the PPDU received last failed. [1; 03 R84; false] -/
  rxMapFailed : Bool
  /-- Receiver phase. [3; 04 R86; blanked: the slice is not READY] -/
  rx : RxPhase
  /-- Reception in progress. [—; 04 R86; none] -/
  reception : Option Reception
  /-- The reception that ended last, with its end cause: MPDUs of it still decode. [—; 04 R102, 03 R73; none] -/
  lastRx : Option (Reception × Nat)
  /-- Preset of the TB window: its level in 0.1 dBm, and the power over the 0.8 us before it, dBm. [—; 04 R96 R98; none] -/
  preset : Option (Int × Int)
  /-- Turbo pass count latched by the trigger frame sent last. [3; 03 R77; 1] -/
  tbPasses : Nat
  /-- Settings last accepted. [24; 04 R103; -82, 8, 6] -/
  acq : AcqSettings
  /-- Settings of the current search. [24; 04 R103; -82, 8, 6] -/
  acqNow : AcqSettings
  /-- Counters. [—; 04 R104; 0] -/
  counters : AcqCounters
  /-- Last RX vector produced. [48 bytes; 04 R102; none] -/
  rxVector : Bytes
  /-- Airtime sent since the last Halo tick, microseconds. [17; 02 R55; 0] -/
  airtime : Nat
  deriving DecidableEq, Repr

/-- The Halo coefficients of one ordered pair, victim towards aggressor (R53, R55). -/
structure Halo where
  /-- Coefficients valid for both slices' current channels, powers and tuner codes. [1; 02 R53; false] -/
  valid : Bool
  /-- Running time of the last success; none when there has been none. [64; 02 R59; none] -/
  last : Option Nat
  /-- Microseconds the aggressor has sent since the last change, until 200 have been. [8; 02 R55; 0] -/
  await : Option Nat
  /-- A training has ended, either way, since the last change. [1; 02 R55; false] -/
  settled : Bool
  /-- A training has captured its data and runs. [1; 02 R55; false] -/
  training : Bool
  /-- The last training failed and its retry is due at the next tick. [1; 02 R55; false] -/
  failed : Bool
  /-- No success for 300 ms, and none since. [1; 02 R53; false] -/
  stale : Bool
  /-- Coefficients per victim chain, stream, odd order and tap, as real and imaginary parts. [768 complex; 02 R54; none] -/
  coeff : List (Int × Int)
  deriving DecidableEq, Repr

/-- STR policy of a pair (R57). -/
inductive StrPolicy where
  | auto | forceNstr | noHalo
  deriving DecidableEq, Repr

/-- One unordered pair of slices. -/
structure Pair where
  /-- Policy last accepted. [8; 02 R57; AUTO] -/
  policy : StrPolicy
  /-- Policy of the last committed plan. [8; 02 R57; AUTO] -/
  committed : StrPolicy
  /-- Policy of the running window. [8; 02 R57; AUTO] -/
  inForce : StrPolicy
  /-- The pair is in fall-back under R28. [1; 02 R55; false] -/
  fallback : Bool
  /-- STR in the plan committed for the next window, and Halo cancelling there. [2; 02 R57; false] -/
  next : Bool × Bool
  /-- STR in the running window, and Halo cancelling. [2; 02 R53 R57; false] -/
  now : Bool × Bool
  deriving DecidableEq, Repr

/-- A channel rule of the regulatory package or an entry of the locked limit table (R39, R41). -/
structure Limit where
  /-- Band. [8; 02 R39; none] -/
  band : Nat
  /-- Width mask. [8; 02 R39; none] -/
  widths : Nat
  /-- Lowest centre, MHz. [16; 02 R39; none] -/
  low : Nat
  /-- Highest centre, MHz. [16; 02 R39; none] -/
  high : Nat
  /-- Maximum EIRP, 0.25 dBm. [16 signed; 02 R39; none] -/
  eirp : Int
  /-- Maximum PSD, 0.25 dBm/MHz. [16 signed; 02 R39; none] -/
  psd : Int
  /-- Flags of a rule: bit 0 DFS, bit 1 indoor only; duty limit in 0.1 % of an LLT entry. [16; 02 R39 R41; none] -/
  flags : Nat
  /-- Aerial gain of an LLT entry, 0.25 dBi. [16 signed; 02 R41; none] -/
  gain : Int
  deriving DecidableEq, Repr

/-- The stored regulatory package (R39). -/
structure Rdp where
  /-- Country. [16; 02 R39; none] -/
  country : Nat
  /-- Serial. [32; 02 R39; none] -/
  serial : Nat
  /-- Channel rules. [—; 02 R39; none] -/
  rules : List Limit
  /-- DFS duties: CAC s, non-occupancy min, move ms, closing ms. [4 x 16; 02 R39; none] -/
  dfs : Option (Nat × Nat × Nat × Nat)
  /-- Aerial gains of the 24 ports, 0.25 dBi. [24 x 8 signed; 02 R39; none] -/
  gains : List Int
  deriving DecidableEq, Repr

/-- The radio group of the device. -/
structure Radio where
  /-- Slices 0 to 2. [—; 02 R29; OFF] -/
  slices : Tri Slice
  /-- Halo coefficients of victim v towards the lower-numbered other slice. [—; 02 R53; none] -/
  haloLow : Tri Halo
  /-- Halo coefficients of victim v towards the higher-numbered other slice. [—; 02 R53; none] -/
  haloHigh : Tri Halo
  /-- Pairs 0-1, 0-2, 1-2. [—; 02 R57; AUTO] -/
  pairs : Tri Pair
  /-- Regulatory package in the Felt store. [<=12 KiB; 02 R39; kept over resets; none stored at manufacture] -/
  rdp : Option Rdp
  /-- Locked limit table. [64 x 16 bytes; 02 R41; kept over resets; none at manufacture] -/
  llt : Option (List Limit)
  /-- Channels in their non-occupancy period. [—; 02 R47; empty] -/
  nonOccupancy : List Channel
  /-- Temperatures at the last IQ and DPD calibrations per slice, 0.25 degC. [2 x 16; 02 R49; DESIGN CHOICE 0, log 2] -/
  lastCalibration : Tab (List Int)
  /-- COEX_REQ. [1; 20 R465; low] -/
  coexReq : Bool
  /-- COEX_PRI. [1; 20 R465; low] -/
  coexPri : Bool
  deriving DecidableEq, Repr

/-- A chain after reset. -/
def Chain.reset : Chain := ⟨0, 0, false, 0, .normal, 0⟩

/-- The acquisition settings at their defaults (R86, R97, R98). -/
def AcqSettings.reset : AcqSettings := ⟨-82, 8, 6⟩

/-- Acquisition counters at zero. -/
def AcqCounters.reset : AcqCounters := ⟨0, 0, 0, 0, 0, 0, 0, 0, 0, 0, 0, 0, 0, 0, 0, 0, 0⟩

/-- A slice after reset (R30, R37, R43). -/
def Slice.reset : Slice where
  state := .off
  txLock := false
  channel := none
  requested := none
  backup := none
  last := none
  tuning := none
  chainMask := 0xFF
  maxPower := 64
  txTmo := 60
  txDefer := 100
  fem := false
  femCtl := 0
  chains := List.replicate 8 .reset
  paOn := []
  denialsNow := 0
  deferred := []
  tx := none
  nDeferred := 0
  nSynth := 0
  nTimeout := 0
  nClip := 0
  nDuty := 0
  nRadar := 0
  radarMove := false
  calQueue := []
  calRunning := none
  calJob := none
  calFailed := 0
  capture := none
  selfTest := false
  temperature := 0
  haloWait := false
  lnaBypass := false
  rxCount := 0
  rxFrozen := true
  rxMapFailed := false
  rx := .blanked
  reception := none
  lastRx := none
  preset := none
  tbPasses := 1
  acq := .reset
  acqNow := .reset
  counters := .reset
  rxVector := []
  airtime := 0

/-- Halo coefficients before any training (R53). -/
def Halo.reset : Halo := ⟨false, none, some 0, false, false, false, false, []⟩

/-- A pair after reset (R57). -/
def Pair.reset : Pair := ⟨.auto, .auto, .auto, false, (false, false), (false, false)⟩

/-- The radio group after a power-on reset of a device as manufactured. -/
def Radio.reset : Radio :=
  ⟨.all .reset, .all .reset, .all .reset, .all .reset, none, none, [], [], false, false⟩

end Sys2Proof.Machine
end

