-- ==== Sys2Proof/Machine/StateSec.lean ====
section
/-! DEFINITION. State of the Hatbox, keys, credentials, RADIUS, fleet and firmware update (chapters 12 and 19).
Each field's docstring ends in brackets: width; file and rule of spec/; value at reset. -/
namespace Sys2Proof.Machine

/-- Lifecycle states (R290). -/
inductive Lifecycle where
  | blank | provisioned | deployed | rma
  deriving DecidableEq, Repr

/-- A loaded credential (R304). -/
structure Credential where
  /-- Kind, 1 or 2. [8; 12 R303; none] -/
  kind : Nat
  /-- Label. [16; 12 R302; none] -/
  label : Nat
  /-- Serial. [32; 12 R302; none] -/
  serial : Nat
  /-- The body, known to the Hatbox alone. [<=256 bytes; 12 R303; none] -/
  body : Bytes
  deriving DecidableEq, Repr

/-- A RADIUS profile (R309, R316). -/
structure RadiusProfile where
  /-- Bytes 0 to 55 of the profile as stored. [56 bytes; 12 R316; none] -/
  bytes : Bytes
  /-- The secret, known to the Hatbox alone. [<=128 bytes; 12 R303; none] -/
  secret : Bytes
  /-- Primary dead, secondary dead. [2; 12 R309; false] -/
  dead : Bool × Bool
  deriving DecidableEq, Repr

/-- An outstanding RADIUS exchange of a station (R309). -/
structure RadiusReq where
  /-- Station. [11; 12 R309; none] -/
  station : Nat
  /-- Profile. [3; 12 R309; none] -/
  profile : Nat
  /-- On the secondary server. [1; 12 R309; none] -/
  secondary : Bool
  /-- Resends so far. [3; 12 R309; 0] -/
  resends : Nat
  deriving DecidableEq, Repr

/-- A cached PMKSA (R307). -/
structure Pmksa where
  /-- Station address. [48; 12 R307; none] -/
  addr : Nat
  /-- BSS or AP MLD address it belongs to. [48; 12 R307; none] -/
  ap : Nat
  /-- The PMK, known to the Hatbox alone. [32 or 48 bytes; 12 R309; none] -/
  pmk : Bytes
  /-- Running time at which its lifetime ends. [64; 12 R307; none] -/
  expires : Nat
  /-- Body of the station context it came from, whose session settings apply to the association; empty: none. [—; 19 R449; empty] -/
  body : Bytes
  deriving DecidableEq, Repr

/-- An SAE exchange (R306). -/
structure Sae where
  /-- Peer address. [48; 12 R306; none] -/
  addr : Nat
  /-- BSS. [6; 12 R306; none] -/
  bss : Nat
  /-- 0 the Commit awaits the Hatbox, 1 the device's Commit is sent, 2 accepted. [2; 12 R306; none] -/
  step : Nat
  deriving DecidableEq, Repr

/-- A key-slot write or erase under way (R311). -/
structure KeyWrite where
  /-- Key-slot handle. [16; 12 R311; none] -/
  handle : Nat
  /-- New key; none erases. [<=32 bytes; 12 R311; none] -/
  key : Option Bytes
  deriving DecidableEq, Repr

/-- The security group. -/
structure Sec where
  /-- Device-unique secret in OTP, opaque outside the Hatbox. [256; 12 R288; DESIGN CHOICE zero, log 2; kept over resets] -/
  secret : Bytes
  /-- OEM root-key hash in OTP; empty stands for all zero. [48 bytes; 12 R288; all zero in BLANK; kept over resets] -/
  rootHash : Bytes
  /-- Device serial in OTP. [8 bytes; 12 R288; DESIGN CHOICE zero, log 2; kept over resets] -/
  serial : Bytes
  /-- MGT MAC address of the device. [48; 11 R279; DESIGN CHOICE 0, log 2; kept over resets] -/
  mgtMac : Nat
  /-- Lifecycle in force. [4; 12 R290; BLANK at manufacture; kept over resets] -/
  lifecycle : Lifecycle
  /-- Lifecycle programmed in OTP, in force from the next reset. [4; 12 R291; as lifecycle; kept over resets] -/
  otpLifecycle : Lifecycle
  /-- Lifecycle of the previous boot, for EV_SEC_LIFECYCLE. [4; 12 R291; as lifecycle; kept over resets] -/
  bootedLifecycle : Lifecycle
  /-- Identity certificate. [—; 12 R301; DESIGN CHOICE empty, log 2; kept over resets] -/
  certificate : Bytes
  /-- Sealing public key and its recipient ID. [97 + 8 bytes; 12 R301; DESIGN CHOICE zero, log 2; kept over resets] -/
  sealing : Bytes × Bytes
  /-- Outstanding challenge, and the running time at which its validity ends. [32 bytes + 64; 12 R292; none] -/
  challenge : Option (Bytes × Nat)
  /-- Debug scopes open: bit 0 JTAG, bit 1 DIAG_WINDOW. [2; 12 R294; 0, or 3 in BLANK and RMA] -/
  debugScope : Nat
  /-- Minutes granted to the debug now open. [16; 12 R295; 0] -/
  debugMinutes : Nat
  /-- Running time at which debug opened. [64; 12 R295; 0] -/
  debugSince : Nat
  /-- Restrictions of R294 hold until reset. [1; 12 R294; 0, or 1 in BLANK and RMA] -/
  restricted : Bool
  /-- The TRNG has failed lastingly. [1; 12 R289; false] -/
  trngFailed : Bool
  /-- A TRNG health failure waits for its retry. [1; 12 R289; false] -/
  trngRetry : Bool
  /-- Credentials by handle. [256; 12 R304; empty; kept over resets] -/
  credentials : Tab Credential
  /-- Highest serial per kind x 65536 + label. [1024; 12 R304; empty; kept over resets] -/
  serials : Tab Nat
  /-- RADIUS profiles. [8; 12 R309; none; kept over resets] -/
  radius : Tab RadiusProfile
  /-- RADIUS requests outstanding. [—; 12 R309; empty] -/
  requests : List RadiusReq
  /-- Key RAM by handle (spaces 0, 1, 2): the slots that hold a key. [5120 + 256 + 64; 12 R310; empty] -/
  keys : Tab Bytes
  /-- Writes and erases under way. [—; 12 R311; empty] -/
  writes : List KeyWrite
  /-- Vault copies of Drizzle and MACsec slots, by handle. [320; 12 R311; empty; kept over resets] -/
  vaultSlots : Tab Bytes
  /-- Vault keys for cipher jobs, by index. [64; 12 R316; empty; kept over resets] -/
  vaultKeys : Tab Bytes
  /-- Vault records discarded. [32; 12 R289; 0] -/
  vaultBad : Nat
  /-- PMKSA cache, oldest first. [4096; 12 R307; empty] -/
  pmksa : List Pmksa
  /-- Password elements of hash-to-element kept in the Hatbox: credential handle and SSID. [—; 12 R306; empty] -/
  elements : List (Nat × Bytes)
  /-- SAE exchanges, oldest first. [—; 12 R306; empty] -/
  sae : List Sae
  /-- Handshake failures of the current second by BSS. [16; 12 R317; 0] -/
  failsNow : Tab Nat
  /-- Anti-rollback counter in the Felt store. [32; 12 R300; 0 at manufacture; kept over resets] -/
  antiRollback : Nat
  deriving DecidableEq, Repr

/-- An admission of a fleet device (R445, R446). -/
structure Admission where
  /-- Recipient ID. [8 bytes; 19 R446; none] -/
  recipient : Bytes
  /-- Sealing key. [97 bytes; 19 R446; none] -/
  key : Bytes
  deriving DecidableEq, Repr

/-- A station context staged by FLT_CONTEXT_IMPORT (R447, R449). -/
structure StagedContext where
  /-- Station address. [48; 19 R447; none] -/
  addr : Nat
  /-- Created: device time of export. [64; 19 R447; none] -/
  created : Nat
  /-- Fleet epoch. [16; 19 R447; none] -/
  epoch : Nat
  /-- Format. [8; 19 R448; none] -/
  format : Nat
  /-- Running time at which its lifetime ends. [64; 19 R449; none] -/
  expires : Nat
  /-- Body, known to the Hatbox alone. [<=624 bytes; 19 R448; none] -/
  body : Bytes
  deriving DecidableEq, Repr

/-- The fleet group (chapter 19). -/
structure Fleet where
  /-- Fleet ID in the Felt store. [16; 19 R444; 0 at manufacture; kept over resets] -/
  id : Nat
  /-- Fleet floor. [16; 19 R451; 0x0300 at manufacture; kept over resets] -/
  floor : Nat
  /-- Current epoch, 0xFFFF none. [16; 13 R335; 0xFFFF at manufacture; kept over resets] -/
  epoch : Nat
  /-- Previous epoch, 0xFFFF none. [16; 13 R335; 0xFFFF at manufacture; kept over resets] -/
  previous : Nat
  /-- Fleet keys by epoch, in the vault. [2 x 32 bytes; 19 R444; none; kept over resets] -/
  keys : Tab Bytes
  /-- Admissions. [64; 19 R446; empty; kept over resets] -/
  admissions : List Admission
  /-- Staged contexts. [128; 19 R446; kept over resets; empty at manufacture] -/
  staged : List StagedContext
  /-- Exports. [32; 19 R455; 0] -/
  exports : Nat
  /-- Imports. [32; 19 R455; 0] -/
  imports : Nat
  /-- Refused. [32; 19 R455; 0] -/
  refused : Nat
  /-- Consumed. [32; 19 R455; 0] -/
  consumed : Nat
  /-- Expired. [32; 19 R455; 0] -/
  expired : Nat
  /-- UMP frames dropped for their fleet header. [32; 19 R455; 0] -/
  dropped : Nat
  deriving DecidableEq, Repr

/-- A firmware image slot in serial NOR, as the boot checks see it (R297, R298). -/
structure ImageSlot where
  /-- Cause code of the first check that fails, 0 none. [8; 12 R298; DESIGN CHOICE: slots empty, cause 1, log 2] -/
  cause : Nat
  /-- FW_VER of the manifest. [32; 12 R297; DESIGN CHOICE 0, log 2] -/
  version : Nat
  /-- Security version. [32; 12 R297; DESIGN CHOICE 0, log 2] -/
  security : Nat
  /-- Bytes written from the start. [32; 19 R453; 0] -/
  written : Nat
  deriving DecidableEq, Repr

/-- Firmware update (R452, R453). -/
structure Fwu where
  /-- Image slots A and B. [2; 12 R298; kept over resets] -/
  slotA : ImageSlot
  /-- Image slot B. [—; 12 R298; kept over resets] -/
  slotB : ImageSlot
  /-- Boot control word bit 0: active slot. [1; 19 R452; 0 at manufacture; kept over resets] -/
  active : Nat
  /-- Boot control word bit 1: trial. [1; 19 R452; 0 at manufacture; kept over resets] -/
  trial : Bool
  /-- Boot control word bit 2: tried. [1; 19 R452; 0 at manufacture; kept over resets] -/
  tried : Bool
  /-- Session open. [1; 19 R453; false] -/
  session : Bool
  /-- Slot the session writes. [1; 19 R453; 0] -/
  slot : Nat
  /-- Image length of the session. [32; 19 R453; 0] -/
  length : Nat
  /-- Bytes written in the session. [32; 19 R453; 0] -/
  written : Nat
  /-- The session's image has been committed. [1; 19 R453; false] -/
  committed : Bool
  /-- The device runs a trial boot not yet confirmed. [1; 19 R452; false] -/
  onTrial : Bool
  deriving DecidableEq, Repr

/-- The security group of a device as manufactured, after reset. -/
def Sec.reset : Sec where
  secret := List.replicate 32 0
  rootHash := []
  serial := List.replicate 8 0
  mgtMac := 0
  lifecycle := .blank
  otpLifecycle := .blank
  bootedLifecycle := .blank
  certificate := []
  sealing := ([], [])
  challenge := none
  debugScope := 3
  debugMinutes := 0
  debugSince := 0
  restricted := true
  trngFailed := false
  trngRetry := false
  credentials := []
  serials := []
  radius := []
  requests := []
  keys := []
  writes := []
  vaultSlots := []
  vaultKeys := []
  vaultBad := 0
  pmksa := []
  elements := []
  sae := []
  failsNow := []
  antiRollback := 0

/-- The fleet group of a device as manufactured. -/
def Fleet.reset : Fleet where
  id := 0
  floor := 0x0300
  epoch := 0xFFFF
  previous := 0xFFFF
  keys := []
  admissions := []
  staged := []
  exports := 0
  imports := 0
  refused := 0
  consumed := 0
  expired := 0
  dropped := 0

/-- An image slot that holds no image: its first boot check fails. -/
def ImageSlot.empty : ImageSlot := ⟨1, 0, 0, 0⟩

/-- Firmware update state of a device as manufactured. -/
def Fwu.reset : Fwu := ⟨.empty, .empty, 0, false, false, false, 0, 0, 0, false, false⟩

end Sys2Proof.Machine
end

