-- ==== Sys2Proof/Machine/StateTds.lean ====
section
/-! DEFINITION. State of the task dispatcher and the Nimbus cores (chapters 14 and 15).
Each field's docstring ends in brackets: width; file and rule of spec/; value at reset. -/
namespace Sys2Proof.Machine

/-- What a work item asks for. -/
inductive Work where
  /-- A host work item: code, length, CRC and bytes of its payload, FORCE, completion wanted, key field, result address, result
  limit, cookie, ring index. -/
  | host (code len crc : Nat) (payload : Bytes) (force wanted : Bool) (key result limit cookie index : Nat)
  /-- Flow setup for a 5-tuple (class 0). -/
  | flow (tuple : Tuple)
  /-- A frame of the forwarding engine on the slow path (classes 1 to 4) and the reason: 0 ARP or neighbour discovery,
  1 next-hop resolution, 2 TTL expired, 3 no route, 4 IPv4 options, 5 larger than the egress MTU, 6 host unreachable,
  7 the device's own address, 8 IGMP or MLD, 9 behind an earlier frame of its flow. -/
  | frame (f : Frame) (why : Nat)
  /-- An item of firmware (classes 7 to 11). -/
  | firmware
  /-- A beamforming report of a station, and whether a precoder can be computed from it (class 10, R67). -/
  | precoder (station : Nat) (valid : Bool)
  /-- DSP_RUN of a kernel slot, under its command's transport and tag. -/
  | kernel (slot : Nat) (via : Via) (tag : Nat)
  deriving DecidableEq, Repr

/-- A work item (R346). -/
structure WorkItem where
  /-- Class. [4; 14 R346; none] -/
  cls : Nat
  /-- Atomic flow key; none with the parallel flag. [18; 14 R349; none] -/
  key : Option Nat
  /-- Order in which it was queued, by the model's count. [—; 14 R347; none] -/
  seq : Nat
  /-- Running time at which it was queued. [64; 14 R347; none] -/
  queuedAt : Nat
  /-- It has waited for its key. [1; 14 R356; false] -/
  keyWait : Bool
  /-- What it asks for. [—; 14 R352; none] -/
  work : Work
  deriving DecidableEq, Repr

/-- An item in service on a core: packet cores 0 to 15, Nimbus cores 16 to 19. -/
structure InService where
  /-- Core. [5; 14 R347; none] -/
  core : Nat
  /-- Item. [—; 14 R347; none] -/
  item : WorkItem
  /-- Running time at which it started. [64; 14 R356; none] -/
  startedAt : Nat
  deriving DecidableEq, Repr

/-- Statistics of a class (R356). -/
structure ClassStats where
  /-- Full now: the device time since which; none. [64; 14 R348; none] -/
  full : Option Nat
  /-- Peak depth. [32; 14 R356; 0] -/
  peak : Nat
  /-- Queued. [64; 14 R356; 0] -/
  queued : Nat
  /-- Ended. [64; 14 R356; 0] -/
  ended : Nat
  /-- Refusals. [32; 14 R350; 0] -/
  refusals : Nat
  /-- Full time up to the last time it was full, ns. [—; 14 R356; 0] -/
  fullNs : Nat
  /-- Key waits. [32; 14 R356; 0] -/
  keyWaits : Nat
  /-- Peak wait, microseconds. [32; 14 R356; 0] -/
  peakWait : Nat
  /-- Peak service, microseconds. [32; 14 R356; 0] -/
  peakService : Nat
  /-- Air drops. [32; 14 R350; 0] -/
  airDrops : Nat
  /-- Discarded. [32; 14 R351; 0] -/
  discarded : Nat
  /-- Refusals and air drops of the current second. [32; 14 R357; 0] -/
  refusedNow : Nat
  deriving DecidableEq, Repr

/-- A thread known to the dispatcher (R345). -/
structure Thread where
  /-- Identity. [10; 14 R345; none] -/
  id : Nat
  /-- Group. [2; 14 R345; none] -/
  group : Nat
  /-- Priority, 0 highest. [6; 14 R345; none] -/
  priority : Nat
  /-- Core it is bound to in its group; none runs on either. [1; 14 R345; none] -/
  bound : Option Nat
  /-- Running time at which it became ready. [64; 14 R356; none] -/
  readyAt : Nat
  deriving DecidableEq, Repr

/-- A thread group. -/
structure ThreadGroup where
  /-- Ready threads, in ready order. [<=1024; 14 R345; DESIGN CHOICE empty, log 2] -/
  ready : List Thread
  /-- Thread running on core 0 of the group. [—; 14 R345; none] -/
  run0 : Option Thread
  /-- Thread running on core 1 of the group. [—; 14 R345; none] -/
  run1 : Option Thread
  /-- Peak latency, ns. [32; 14 R356; 0] -/
  peak : Nat
  /-- Switches. [32; 14 R356; 0] -/
  switches : Nat
  deriving DecidableEq, Repr

/-- The dispatcher. -/
structure Tds where
  /-- Thread groups 0 to 3. [4; 14 R345; empty] -/
  groups : Tab ThreadGroup
  /-- Items queued, oldest first, all classes. [16 x 65,536; 14 R346; empty] -/
  items : List WorkItem
  /-- Items of air frames that wait in the air hold of their class, oldest first. [5 x 4096; 14 R350; empty] -/
  airItems : List WorkItem
  /-- Items in service. [<=20; 14 R347; empty] -/
  service : List InService
  /-- Link, packet and Nimbus cores halted, by the core numbers of EV_SYS_FW_HALT. [26; 18 R429; none] -/
  halted : List Nat
  /-- Statistics per class. [16; 14 R356; 0] -/
  stats : Tab ClassStats
  /-- Order counter of the model. [—; model's own; 0] -/
  nextSeq : Nat
  /-- TDS_SET_HOST_RING flags. [8; 14 R355; 0x03] -/
  flags : Nat
  /-- In-flight limit. [16; 14 R355; 4096] -/
  limit : Nat
  /-- Default class. [8; 14 R355; 6] -/
  cls : Nat
  /-- Completions waiting for room in ring 33. [—; 14 R353; empty] -/
  hold : List Bytes
  /-- Consumed. [64; 14 R356; 0] -/
  consumed : Nat
  /-- Completions. [64; 14 R356; 0] -/
  completions : Nat
  /-- In flight. [16; 14 R353; 0] -/
  inFlight : Nat
  /-- Time with consumption stopped, up to its last end, ns. [—; 14 R356; 0] -/
  stoppedNs : Nat
  /-- Running time since which consumption is stopped; none. [64; 14 R353; none] -/
  stoppedAt : Option Nat
  /-- Bad items. [32; 14 R356; 0] -/
  bad : Nat
  /-- Ring stops. [32; 14 R356; 0] -/
  ringStops : Nat
  deriving DecidableEq, Repr

/-- A thread group after reset. -/
def ThreadGroup.reset : ThreadGroup := ⟨[], none, none, 0, 0⟩

/-- Statistics of a class after reset. -/
def ClassStats.reset : ClassStats := ⟨none, 0, 0, 0, 0, 0, 0, 0, 0, 0, 0, 0⟩

/-- The dispatcher after reset. -/
def Tds.reset : Tds where
  groups := [(0, .reset), (1, .reset), (2, .reset), (3, .reset)]
  items := []
  airItems := []
  service := []
  halted := []
  stats := []
  nextSeq := 0
  flags := 3
  limit := 4096
  cls := 6
  hold := []
  consumed := 0
  completions := 0
  inFlight := 0
  stoppedNs := 0
  stoppedAt := none
  bad := 0
  ringStops := 0

end Sys2Proof.Machine
end

