-- ==== Sys2Proof/Machine/StateTime.lean ====
section
/-! DEFINITION. State of the time unit, the servo, PTP and PPS (chapter 09).
Each field's docstring ends in brackets: width; file and rule of spec/; value at reset. -/
namespace Sys2Proof.Machine

/-- Servo states (TIM_GET, R236, R237). -/
inductive Servo where
  | unset | free | locking | locked | holdover
  deriving DecidableEq, Repr

/-- The configuration of TIM_SET_PTP. -/
structure PtpCfg where
  /-- Source. [8; 09 R238; 0] -/
  source : Nat
  /-- Profile. [8; 09 R238; DESIGN CHOICE 0, log 2] -/
  profile : Nat
  /-- Domain. [8; 09 R238; DESIGN CHOICE 0, log 2] -/
  domain : Nat
  /-- Ports. [5; 09 R238; DESIGN CHOICE 0, log 2] -/
  ports : Nat
  /-- Role. [8; 09 R238; DESIGN CHOICE 0, log 2] -/
  role : Nat
  /-- Transport. [8; 09 R238; DESIGN CHOICE 0, log 2] -/
  transport : Nat
  /-- One-step. [4; 09 R238; DESIGN CHOICE 0, log 2] -/
  oneStep : Nat
  /-- Sync interval. [8 signed; 09 R241; -3] -/
  sync : Int
  /-- Announce interval. [8 signed; 09 R241; 0] -/
  announce : Int
  /-- Delay interval. [8 signed; 09 R241; 0] -/
  delay : Int
  /-- Announce timeout. [8; 09 R241; 3] -/
  timeout : Nat
  /-- Priority1. [8; 09 R241; 128] -/
  priority1 : Nat
  /-- Priority2. [8; 09 R241; 128] -/
  priority2 : Nat
  /-- Clock class. [8; 09 R241; 248] -/
  clockClass : Nat
  /-- PPS_OUT width, microseconds. [32; 09 R240; 100,000] -/
  ppsWidth : Nat
  /-- PPS_IN cable delay, ns. [32 signed; 09 R240; DESIGN CHOICE 0, log 2] -/
  cable : Int
  deriving DecidableEq, Repr

/-- The time unit and its servo. -/
structure Clock where
  /-- Upper 32 bits of device time, kept by firmware. [32; 09 R228; 0] -/
  upper : Nat
  /-- TIME_NS. [32; 09 R228; 0] -/
  ns : Nat
  /-- Fraction of TIME_NS. [32; 09 R229; 0] -/
  frac : Nat
  /-- A wrap of TIME_NS that firmware has not yet counted. [1; 09 R228; false] -/
  wrapPending : Bool
  /-- Frequency, ppb. [32 signed; 09 R229; 0] -/
  freq : Int
  /-- Slew remaining, ns. [32 signed; 09 R233; 0] -/
  slew : Int
  /-- Slew gained and not yet a whole ns, in 2^-32 ns. [32; 09 R233; 0] -/
  slewFrac : Nat
  /-- Slew rate of the slew in progress, ppb. [32; 09 R233; 50,000] -/
  slewRate : Nat
  /-- Configuration. [28 bytes; 09 R238; defaults] -/
  cfg : PtpCfg
  /-- Servo state. [3; 09 R236; UNSET] -/
  servo : Servo
  /-- Consecutive offsets below 100 ns. [4; 09 R237; 0] -/
  good : Nat
  /-- Servo has measured its source since that source was set. [1; 09 R233; false] -/
  measured : Bool
  /-- The servo has been LOCKED. [1; 09 R236; false] -/
  wasLocked : Bool
  /-- Frequencies of the last LOCKED operation and their number, for the 64 s mean. [—; 09 R236; 0] -/
  lockedFreqs : List Int
  /-- Refused jump pending. [1; 09 R235; 0] -/
  refused : Bool
  /-- Refused offset, ns. [64 signed; 09 R235; 0] -/
  refusedOffset : Int
  /-- Step count. [32; 09 R234; 0] -/
  steps : Nat
  /-- Last step, ns. [64 signed; 09 R234; 0] -/
  lastStep : Int
  /-- Sum of the jumps made, ns: windows and the intervals the device measures are not moved by it. [64 signed; 09 R234; 0] -/
  stepped : Int
  /-- Last servo measurement, ns. [64 signed; 09 R237; 0] -/
  offset : Int
  /-- Device time of the last PPS_IN edge. [64; 09 R240; 0] -/
  ppsIn : Nat
  /-- PPS_IN present. [1; 09 R240; 0] -/
  ppsPresent : Bool
  /-- A whole second given by Set, for the next PPS_IN capture. [64; 09 R237; none] -/
  ppsSecond : Option Nat
  /-- Grandmaster identity. [64; 09 R238; 0] -/
  grandmaster : Nat
  /-- Grandmaster picked by the best master selection and not yet measured. [64; 09 R237; none] -/
  gmPending : Option Nat
  /-- Grandmaster whose time was refused. [64; 09 R237; none] -/
  gmRefused : Option Nat
  /-- The exchange under way: device time of its first stamp and the step count then. [64 + 32; 09 R237; none] -/
  exchange : Option (Nat × Nat)
  /-- Jump limit, ns. [32; 09 R235; 1,000,000] -/
  jumpLimit : Nat
  /-- Device time has been set since reset. [1; 09 R235; false] -/
  isSet : Bool
  /-- Allowance of the first step after a wake, ns; none once used. [64; 09 R230; none] -/
  allowance : Option Nat
  /-- Device time recorded in PD_AON on entry to STANDBY or SLEEP. [64; 09 R230; 0] -/
  recorded : Nat
  /-- TSF bases of the slices, ns; none before the slice's first BSS. [3 x 64; 09 R239; none] -/
  tsfBase : Tri (Option Int)
  /-- PPS_OUT high. [1; 09 R240; low] -/
  ppsOut : Bool
  deriving DecidableEq, Repr

/-- The time configuration before any command (R241). -/
def PtpCfg.reset : PtpCfg := ⟨0, 0, 0, 0, 0, 0, 0, -3, 0, 0, 3, 128, 128, 248, 100000, 0⟩

/-- The time unit after reset: device time 0, servo UNSET (R228, R236). -/
def Clock.reset : Clock where
  upper := 0
  ns := 0
  frac := 0
  wrapPending := false
  freq := 0
  slew := 0
  slewFrac := 0
  slewRate := 50000
  cfg := .reset
  servo := .unset
  good := 0
  measured := false
  wasLocked := false
  lockedFreqs := []
  refused := false
  refusedOffset := 0
  steps := 0
  lastStep := 0
  stepped := 0
  offset := 0
  ppsIn := 0
  ppsPresent := false
  ppsSecond := none
  grandmaster := 0
  gmPending := none
  gmRefused := none
  exchange := none
  jumpLimit := 1000000
  isSet := false
  allowance := none
  recorded := 0
  tsfBase := .all none
  ppsOut := false

end Sys2Proof.Machine
end

