-- ==== Sys2Proof/Machine/State.lean ====
section
/-! DEFINITION. The whole state of the block, the reasons a step can stop, and the state after reset. -/
namespace Sys2Proof.Machine

/-- The block. -/
structure State where
  /-- Mailbox, events and commands in progress. [—; 10 R246; as Mbox] -/
  mbox : Mbox
  /-- PCIe endpoint. [—; 10 R243; as Pcie] -/
  pcie : Pcie
  /-- BAR2 rings 0 to 33, where they differ from their reset values. [34; 10 R258; as Ring] -/
  rings : Tab Ring
  /-- Host DMA operations waiting for their retry. [—; 10 R249; empty] -/
  dma : List DmaWait
  /-- Power manager. [—; 17 R399; as Power] -/
  power : Power
  /-- Event recorder. [—; 18 R421; as Recorder] -/
  evr : Recorder
  /-- Radio slices and Halo canceller. [—; 02 R29; as Radio] -/
  radio : Radio
  /-- LDPC array and Cumulus. [—; 03 R70; as Modem] -/
  modem : Modem
  /-- Air MACs, BSSs and stations. [—; 05 R117; as Air] -/
  air : Air
  /-- Scheduler and Crown. [—; 06 R137; as Milliner] -/
  mls : Milliner
  /-- Ports and forwarding. [—; 07 R169; as Wire] -/
  wire : Wire
  /-- Queues, shapers, policers, gates and samples. [—; 08 R205; as Qme] -/
  qme : Qme
  /-- Time unit. [—; 09 R228; as Clock] -/
  clock : Clock
  /-- Security. [—; 12 R288; as Sec] -/
  sec : Sec
  /-- Fleet. [—; 19 R444; as Fleet] -/
  fleet : Fleet
  /-- Firmware update. [—; 19 R452; as Fwu] -/
  fwu : Fwu
  /-- DRAM, Felt store, configuration banks and check-value units. [—; 13 R318; as Mem] -/
  mem : Mem
  /-- Task dispatcher. [—; 14 R345; as Tds] -/
  tds : Tds
  /-- Nimbus cores. [—; 15 R358; as Dsp] -/
  dsp : Dsp
  /-- Drizzle radio. [—; 16 R376; as Drz] -/
  drz : Drz
  /-- What left the device during the current command: the model's own record of the device's outputs. [—; model's own; empty] -/
  out : List Out
  /-- Commands waiting, first in first out. [—; model's own; empty] -/
  pending : List Instr
  deriving DecidableEq, Repr

/-- Why a step stops with a fault. -/
inductive Fault where
  /-- Operation outside the operating conditions of R474, where R473 says the manual's behaviour does not hold. No command of
  the table takes the device there, so no meaning raises it. Safe: the model stops where the hardware may go on. -/
  | outsideConditions
  deriving DecidableEq, Repr

/-- Why a step is refused. -/
inductive Refusal where
  /-- The command has no meaning in the model yet; raised by its arm in Dispatch. Safe: nothing is claimed about it. -/
  | notModelled (mnemonic : String)
  deriving DecidableEq, Repr

/-- The block of a device as manufactured, right after its first power-on reset and before the boot ROM runs. -/
def State.reset : State where
  mbox := .reset
  pcie := .reset
  rings := []
  dma := []
  power := .reset
  evr := .reset
  radio := .reset
  modem := .reset
  air := .reset
  mls := .reset
  wire := .reset
  qme := .reset
  clock := .reset
  sec := .reset
  fleet := .reset
  fwu := .reset
  mem := .reset
  tds := .reset
  dsp := .reset
  drz := .reset
  out := []
  pending := []

end Sys2Proof.Machine
end

