-- ==== Sys2Proof/Machine/Ops.lean ====
section
/-! DEFINITION. Shared operations: outputs, interrupts, events, records, faults and the bookkeeping of async commands
(chapters 10, 11 and 18). -/
namespace Sys2Proof.Machine

/-- The state at the start of a command: nothing has left the device in it yet. -/
def start (s : State) : State := { s with out := [] }

/-- Something leaves the device. -/
def emit (o : Out) (s : State) : State := { s with out := s.out ++ [o] }

/-- The mailbox changed by a function. -/
def onMbox (f : Mbox → Mbox) (s : State) : State := { s with mbox := f s.mbox }

/-- The power manager changed by a function. -/
def onPower (f : Power → Power) (s : State) : State := { s with power := f s.power }

/-- The recorder changed by a function. -/
def onEvr (f : Recorder → Recorder) (s : State) : State := { s with evr := f s.evr }

/-- The time unit changed by a function. -/
def onClock (f : Clock → Clock) (s : State) : State := { s with clock := f s.clock }

/-- The memory group changed by a function. -/
def onMem (f : Mem → Mem) (s : State) : State := { s with mem := f s.mem }

/-- The security group changed by a function. -/
def onSec (f : Sec → Sec) (s : State) : State := { s with sec := f s.sec }

/-- A power domain of PWR_STAT.DOMAINS: 0 PD_AON, 1 PD_CORE, 2 PD_PKT, 3 to 5 PD_RAD0 to PD_RAD2, 6 PD_LDA, 7 PD_DSP,
8 PD_DRZ, 9 PD_ETH, 10 PD_DMC (R246). -/
def powered (d : Nat) (s : State) : Bool := s.power.domains.getLsbD d

/-- Device time in nanoseconds: the upper word, a wrap firmware has yet to count, and TIME_NS (R228). -/
def deviceTime (s : State) : Nat :=
  (s.clock.upper + b2n s.clock.wrapPending) % 2 ^ 32 * 2 ^ 32 + s.clock.ns

/-- Running time in nanoseconds: device time less the jumps made, so that a step moves neither service windows nor any interval that
the device measures (R234). -/
def runTime (s : State) : Nat := ((deviceTime s : Int) - s.clock.stepped).toNat

/-- The host reaches BAR0 and BAR2: the link is up, PERST_N is released, the function is in D0 and PD_CORE is powered
(R243, R255, R416). -/
def reachable (s : State) : Bool :=
  powered 1 s && s.pcie.linkUp && !s.pcie.perst && !s.pcie.d3 && !s.power.held

/-- An MSI-X message (R257); in D3hot it waits for D0 (R243), and with single-vector MSI all sources share one. -/
def msix (v : Nat) (s : State) : State :=
  if s.pcie.d3 then
    { s with pcie := { s.pcie with held := if s.pcie.held.contains v then s.pcie.held else s.pcie.held ++ [v] } }
  else if s.pcie.linkUp && !s.pcie.perst then emit (.msix (if s.pcie.msi then 0 else v)) s
  else s

/-- DEV_DOORBELL bit `b` is set; vector 0 is sent where the bit was 0 and is unmasked (R257). -/
def setDoorbell (b : Nat) (s : State) : State :=
  let old := s.mbox.devDoorbell
  let s' := onMbox (fun m => { m with devDoorbell := old ||| BitVec.ofNat 32 (2 ^ b) }) s
  if !old.getLsbD b && !s.mbox.irqMask.getLsbD b then msix 0 s' else s'

/-- The code and parameter of FAULT_CODE, and DEV_DOORBELL bit 17 (R246, R427, R435). -/
def setFault (code : Nat) (payload : Bytes) (s : State) : State :=
  setDoorbell 17 (onMbox (fun m => { m with faultCode := code, faultParam := rd payload 0 2 }) s)

/-! ### Records -/

/-- Only fixed records are written in this stage (R428). -/
def fixedPhase (stage : Nat) : Bool := stage < 4 || stage == 5 || stage == 6 || stage == 255

/-- An occurrence joins the writer queue, or is lost and counted when 512 wait (R428). -/
def enqueueOcc (o : Occurrence) (s : State) : State :=
  if s.evr.queue.length < 512 then onEvr (fun r => { r with queue := r.queue ++ [o] }) s
  else onEvr (fun r => { r with lost := inc 32 r.lost, lostFlag := true }) s

/-- An occurrence is recorded, stamped as it is raised (R428). -/
def record (code : Nat) (payload : Bytes) (transient lasting isEvent : Bool) (extra : List (Nat × Bytes))
    (s : State) : State :=
  enqueueOcc
    ⟨code, payload, fixedPhase s.power.stage || fixedRecordCodes.contains code, transient, lasting, isEvent,
      s.mem.seconds, s.mem.cycles, deviceTime s, extra⟩ s

/-! ### Events -/

/-- A UMP message: the 16-byte header and the payload (R247, R284). -/
def message (type flags code tag status devIdx : Nat) (payload : Bytes) : Bytes :=
  leBytes 1 type ++ leBytes 1 flags ++ leBytes 2 code ++ leBytes 2 tag ++ leBytes 2 payload.length
    ++ leBytes 2 status ++ leBytes 2 devIdx
    ++ leBytes 4 (if payload.length = 0 then 0 else crc32c payload) ++ payload

/-- The message of an event (R284). -/
def eventMessage (s : State) (e : Event) : Bytes :=
  message 3 (if e.code = 0x0001 then 4 else 0) e.code e.tag e.status s.power.devIdx e.payload

/-- EV_EVT_LOST with a count (R256). -/
def evtLost (n : Nat) : Event := ⟨0x0002, 0, 0, leBytes 4 n, none⟩

/-- The event ring is full (R253). -/
def evtFull (m : Mbox) : Bool := (m.evtProd + 65536 - m.evtCons) % 65536 == 32

/-- An event is written to the next event slot (R253). -/
def writeEvent (e : Event) (s : State) : State :=
  setDoorbell 16 (onMbox (fun m =>
    { m with mem := Cells.writeAll m.mem (0x3000 + m.evtProd % 32 * 0x80) (eventMessage s e)
             evtProd := inc 16 m.evtProd }) s)

/-- EV_EVT_LOST is written first where a slot is free and events were dropped (R254). It is recorded as any event. -/
def reportLostPcie (s : State) : State :=
  if s.mbox.pcieDropped = 0 || evtFull s.mbox then s
  else
    let n := s.mbox.pcieDropped
    record 0x0002 (leBytes 4 n) false false true []
      (writeEvent (evtLost n) (onMbox (fun m => { m with pcieDropped := 0 }) s))

/-- Queued events are written while slots are free, in order. -/
def flushPcie : List Event → State → State
  | [], s => onMbox (fun m => { m with pcieQueue := [] }) s
  | e :: r, s =>
    if evtFull s.mbox then onMbox (fun m => { m with pcieQueue := e :: r }) s
    else flushPcie r (writeEvent e s)

/-- An EV_CMD_DONE whose command came over PCIe. -/
def ownPcie (e : Event) : Bool := match e.done with | some (.pcie _) => true | _ => false

/-- An EV_CMD_DONE whose command came over Ethernet. -/
def ownMgt (e : Event) : Bool := match e.done with | some (.mgt _) => true | _ => false

/-- An event reaches the PCIe transport: written, queued, or dropped and counted (R253, R254, R255). -/
def toPcie (e : Event) (s : State) : State :=
  if !powered 1 s then s
  else
    let s := reportLostPcie s
    let s := flushPcie s.mbox.pcieQueue s
    if s.mbox.pcieQueue.isEmpty && !evtFull s.mbox then writeEvent e s
    else if ownPcie e || (s.mbox.pcieQueue.filter fun x => !ownPcie x).length < 192 then
      onMbox (fun m => { m with pcieQueue := m.pcieQueue ++ [e] }) s
    else
      onMbox (fun m => { m with pcieDropped := inc 32 m.pcieDropped
                                pcieDroppedAll := incSat 65535 m.pcieDroppedAll }) s

/-- MGT is UP and powered, so the sink can be reached (R255). -/
def mgtUp (s : State) : Bool :=
  powered 9 s && !s.power.limp && decide ((Tab.look s.wire.ports 4).map (·.state) = some .up)

/-- An event passes the group mask of the sink (R282). -/
def sinkPasses (m : Mbox) (e : Event) : Bool :=
  e.code == 0x0001 || e.code == 0x0002 || m.sinkMask.getLsbD (e.code / 256)

/-- Queued sink events are sent while MGT is UP, after EV_EVT_LOST where events were dropped (R254, R255). -/
def flushSink (mac : Nat) (s : State) : State :=
  if !mgtUp s then s
  else
    let n := s.mbox.sinkDropped
    let s1 := if n = 0 then s
      else record 0x0002 (leBytes 4 n) false false true []
        (emit (.ump mac (eventMessage s (evtLost n))) (onMbox (fun m => { m with sinkDropped := 0 }) s))
    let s2 := s1.mbox.sinkQueue.foldl (fun st e => emit (.ump mac (eventMessage st e)) st) s1
    onMbox (fun m => { m with sinkQueue := [] }) s2

/-- An event reaches the Ethernet sink, where one is set and its group passes (R255, R282). -/
def toSink (e : Event) (s : State) : State :=
  match s.mbox.sink with
  | none => s
  | some mac =>
    if !powered 1 s || !sinkPasses s.mbox e then s
    else if mgtUp s then emit (.ump mac (eventMessage s e)) (flushSink mac s)
    else if ownMgt e || (s.mbox.sinkQueue.filter fun x => !ownMgt x).length < 192 then
      onMbox (fun m => { m with sinkQueue := m.sinkQueue ++ [e] }) s
    else
      onMbox (fun m => { m with sinkDropped := inc 32 m.sinkDropped
                                sinkDroppedAll := incSat 65535 m.sinkDroppedAll }) s

/-- An event is delivered to both transports. -/
def deliver (e : Event) (s : State) : State := toSink e (toPcie e s)

/-- An event is raised with record flags: delivered to both transports and recorded (R255, R285). -/
def raiseWith (code : Nat) (payload : Bytes) (transient lasting : Bool) (extra : List (Nat × Bytes))
    (s : State) : State :=
  record code payload transient lasting true extra (deliver ⟨code, 0, 0, payload, none⟩ s)

/-- An event is raised. -/
def raise (code : Nat) (payload : Bytes) (s : State) : State := raiseWith code payload false false [] s

/-- An event limited to once per period for its object: raised where no period runs, else suppressed (R285). -/
def raiseLimited (code obj : Nat) (payload : Bytes) (s : State) : State :=
  if s.mbox.limited.contains (code, obj) then s
  else raise code payload (onMbox (fun m => { m with limited := m.limited ++ [(code, obj)] }) s)

/-! ### Faults (R435, R436) -/

/-- The UMP command an occurrence concerns, as a type 0x04 entry (R426). -/
def cmdEntry (code tag status : Nat) : Nat × Bytes :=
  (4, leBytes 2 code ++ leBytes 2 tag ++ leBytes 2 status)

/-- A transient fault: counted and recorded with flag bit 1; no event. -/
def transientFault (code : Nat) (payload : Bytes) (s : State) : State :=
  record code payload true false false []
    (onMbox (fun m => { m with transient := inc 32 m.transient }) s)

/-- A lasting fault without an event of its own: counted and recorded with flag bit 2. -/
def lastingRecord (code : Nat) (payload : Bytes) (setsFault : Bool) (s : State) : State :=
  let s := record code payload false true false []
    (onMbox (fun m => { m with lasting := inc 32 m.lasting }) s)
  if setsFault then setFault code payload s else s

/-- A lasting fault: counted, recorded with flag bit 2, its event raised, and FAULT_CODE set where R436 says so. -/
def lastingFault (code : Nat) (payload : Bytes) (setsFault : Bool) (s : State) : State :=
  let s := raiseWith code payload false true []
    (onMbox (fun m => { m with lasting := inc 32 m.lasting }) s)
  if setsFault then setFault code payload s else s

/-- The outcome of a retried operation recorded under a code: nothing, transient, or lasting without an event. -/
def retryRecord (r : Retry) (code : Nat) (payload : Bytes) (setsFault : Bool) (s : State) : State :=
  match r with
  | .ok => s
  | .retried => transientFault code payload s
  | .lasting => lastingRecord code payload setsFault s

/-- The status a command returns after a retried operation (R277, R435). -/
def retryStatus (r : Retry) : Nat := match r with
  | .ok => ST.ok
  | .retried => ST.okRetried
  | .lasting => ST.faultLasting

/-- The outcome of a retried operation that a command met: recorded with the command's entry beside it (R426, R435). -/
def commandFault (r : Retry) (cmd tag code : Nat) (payload : Bytes) (setsFault : Bool) (s : State) : State :=
  let e := [cmdEntry cmd tag (retryStatus r)]
  match r with
  | .ok => s
  | .retried => record code payload true false false e (onMbox (fun m => { m with transient := inc 32 m.transient }) s)
  | .lasting =>
    let s := record code payload false true false e (onMbox (fun m => { m with lasting := inc 32 m.lasting }) s)
    if setsFault then setFault code payload s else s

/-- The outcome of a host DMA read or write of a command: the record carries its code and the status returned (R427, R436). -/
def dmaFault (r : Retry) (cmd tag : Nat) (s : State) : State :=
  commandFault r cmd tag 0x00C5 (leBytes 2 cmd ++ leBytes 2 (retryStatus r)) false s

/-! ### Async commands -/

/-- Commands counted against the limit of 64: outstanding, or ended with their EV_CMD_DONE still queued (R252). -/
def asyncCount (s : State) : Nat :=
  s.mbox.async.length + (s.mbox.pcieQueue.filter ownPcie).length + (s.mbox.sinkQueue.filter ownMgt).length

/-- An object is locked by an outstanding async command (R271). -/
def locked (o : Obj) (s : State) : Bool := s.mbox.async.any fun a => a.locks.contains o

/-- The outstanding command of a code and tag that started last. -/
def findAsync (code tag : Nat) (s : State) : Option AsyncCmd :=
  s.mbox.async.reverse.find? fun a => a.code == code && a.tag == tag

/-- The outstanding command of a code that started first. -/
def firstAsync (code : Nat) (s : State) : Option AsyncCmd :=
  s.mbox.async.find? fun a => a.code == code

/-- One command removed from the outstanding ones. -/
def dropAsync (a : AsyncCmd) (s : State) : State :=
  onMbox (fun m => { m with async := m.async.erase a }) s

/-- An async command ends: it is no longer outstanding and its EV_CMD_DONE is raised (R252, R277). -/
def endAsync (a : AsyncCmd) (status : Nat) (payload : Bytes) (s : State) : State :=
  let st := if status = ST.ok && a.retried then ST.okRetried else status
  record 0x0001 payload false false true [cmdEntry a.code a.tag st]
    (deliver ⟨0x0001, a.tag, st, payload, some a.via⟩ (dropAsync a s))

/-- Every outstanding command of the given codes ends with one status (R402, R351). -/
def endAllAsync (codes : List Nat) (status : Nat) (s : State) : State :=
  (s.mbox.async.filter fun a => codes.contains a.code).foldl (fun st a => endAsync a status [] st) s

/-- An outstanding command replaced by an updated copy of itself. -/
def setAsync (a b : AsyncCmd) (s : State) : State :=
  onMbox (fun m => { m with async := m.async.map fun x => if x = a then b else x }) s

/-- Every outstanding command of a code passes its last point of abort (R270). -/
def passPoint (code : Nat) (sel : AsyncCmd → Bool) (s : State) : State :=
  onMbox (fun m => { m with async := m.async.map fun x =>
    if x.code == code && sel x then { x with past := true } else x }) s

end Sys2Proof.Machine
end

