-- ==== Sys2Proof/Machine/Operands.lean ====
section
/-! DEFINITION. How a UMP command is judged and answered: the header checks (R247), the order of judgement (R276), the
locks (R271), the response (R250, R252, R263) and the range checks of the common types (R272). -/
namespace Sys2Proof

/-- The data a command acts on: its external data where the flag says so, else its payload (R249). -/
def Ump.data (u : Ump) : Bytes := if bit u.flags 1 then u.env.ext else u.payload

/-- Byte `o` of the command's data. -/
def Ump.b8 (u : Ump) (o : Nat) : Nat := rd u.data o 1
/-- The 16-bit field at `o`. -/
def Ump.b16 (u : Ump) (o : Nat) : Nat := rd u.data o 2
/-- The 32-bit field at `o`. -/
def Ump.b32 (u : Ump) (o : Nat) : Nat := rd u.data o 4
/-- The 64-bit field at `o`. -/
def Ump.b64 (u : Ump) (o : Nat) : Nat := rd u.data o 8
/-- FORCE, flag bit 0 (R247). -/
def Ump.force (u : Ump) : Bool := bit u.flags 0

end Sys2Proof

namespace Sys2Proof.Machine

/-- What a command's manager answers: the state it leaves, the status, the response payload, and whether the response is
posted now (a SYS_ABORT may be set aside, R251). -/
structure Reply where
  /-- State left behind. -/
  st : State
  /-- Status. -/
  status : Nat
  /-- Response payload. -/
  data : Bytes
  /-- Posted now. -/
  posted : Bool

/-- The command fails: nothing changes (R17). -/
def refuse (st : Nat) (s : State) : Reply := ⟨s, st, [], true⟩

/-- The command is done. -/
def reply (data : Bytes) (s : State) : Reply := ⟨s, ST.ok, data, true⟩

/-- The command is done, with a hardware operation that may have needed its retry (R277). -/
def replyHw (r : Retry) (data : Bytes) (s : State) : Reply :=
  match r with
  | .retried => ⟨s, ST.okRetried, data, true⟩
  | _ => ⟨s, ST.ok, data, true⟩

/-- The first check that fails decides the status; each check is its failure condition and its status (R276). -/
def judge (checks : List (Bool × Nat)) (s : State) (k : Unit → Reply) : Reply :=
  match checks.find? fun c => c.1 with
  | some c => refuse c.2 s
  | none => k ()

/-- Step 7: the data is shorter than the layout (R248). -/
def short (u : Ump) (n : Nat) : Bool × Nat := (decide (u.data.length < n), ST.badLength)

/-- Step 7 for a command selected by the field at `o`: an undefined value, above `hi`, is measured up to that field
(R248). -/
def shortOp (u : Ump) (o hi n : Nat) : Bool × Nat := short u (if u.b8 o ≤ hi then n else o + 1)

/-- A failure with ST_BAD_PARAM. -/
def param (c : Bool) : Bool × Nat := (c, ST.badParam)

/-- Step 9: the target's domain is off. -/
def off (d : Nat) (s : State) : Bool × Nat := (!powered d s, ST.poweredOff)

/-- Step 12: a transition under way (R400), a transition waiting for commands that never stop (R402), a locked object
(R271), or 64 async commands outstanding (R252). -/
def gate (code : Nat) (async : Bool) (locks : List Obj) (s : State) : List (Bool × Nat) :=
  [(s.power.changing && !changingCodes.contains code, ST.busy),
   (s.power.target.isSome && neverCodes.contains code, ST.busy),
   (locks.any fun o => locked o s, ST.busy),
   (async && decide (64 ≤ asyncCount s), ST.busy)]

/-- The async command is accepted: it is outstanding from its ST_PENDING (R252). -/
def accept (u : Ump) (code : Nat) (locks : List Obj) (s : State) : State :=
  onMbox (fun m => { m with async := m.async ++
    [⟨u.via, u.tag, code, locks, neverCodes.contains code, decide (u.env.dma = .retried), u.payload, u.env.ext⟩] }) s

/-- ST_PENDING. -/
def pend (s : State) : Reply := ⟨s, ST.pending, [], true⟩

/-- The async command is accepted and answered with ST_PENDING. -/
def pending (u : Ump) (code : Nat) (locks : List Obj) (s : State) : Reply := pend (accept u code locks s)

/-! ### Header checks -/

/-- The transport can carry the message to the code now running (R251, R266, R417). -/
def carries (v : Via) (s : State) : Bool :=
  s.power.mpxHalted != 3 && match v with
  | .pcie _ => s.power.stage == 4 || s.power.stage == 5 || (s.power.stage == 7 && s.power.bootSel != 2)
  | .mgt _ => mgtUp s && (s.power.stage == 4 || (s.power.stage == 7 && s.power.bootSel == 2))
  | .uart => s.power.stage == 6 || s.power.stage == 5

/-- Address of an external descriptor (R249). -/
def descAddr (p : Bytes) : Nat := rd p 0 8
/-- Length of an external descriptor. -/
def descLen (p : Bytes) : Nat := rd p 8 4
/-- CRC of an external descriptor. -/
def descCrc (p : Bytes) : Nat := rd p 12 4

/-- The checks of R247 in order, as failure conditions with their statuses. -/
def headerChecks (code : Nat) (u : Ump) (s : State) : List (Bool × Nat) :=
  let ext := bit u.flags 1
  [(u.type != 1, ST.badCmd),
   (!(servedCodes s.power.stage).contains code, ST.badCmd),
   (decide (240 < u.length) || ext != extInCodes.contains code || (ext && u.length != 16)
      || u.payload.length != u.length, ST.badLength),
   (u.crc != (if u.length = 0 then 0 else crc32c u.payload), ST.badCrc),
   (ext && (descLen u.payload == 0 || decide (1048576 < descLen u.payload)
      || descAddr u.payload % 4 != 0), ST.badLength),
   (ext && decide (u.env.dma = .lasting), ST.faultLasting),
   (ext && (u.env.ext.length != descLen u.payload || crc32c u.env.ext != descCrc u.payload), ST.badCrc)]

/-- The status of the first header check that fails. -/
def headerStatus (code : Nat) (u : Ump) (s : State) : Option Nat :=
  ((headerChecks code u s).find? fun c => c.1).map Prod.snd

/-! ### Responses -/

/-- At most 16 responses are kept for each source MAC address, the newest first (R263). -/
def keepReplay (r : Replay) (l : List Replay) : List Replay :=
  let mine := (l.filter fun x => x.mac == r.mac).take 15
  r :: (mine ++ l.filter fun x => x.mac != r.mac)

/-- A response is posted on the transport of its command (R250, R251, R263). -/
def post (v : Via) (code tag status : Nat) (data : Bytes) (s : State) : State :=
  let msg := message 2 (if status = ST.pending then 4 else 0) code tag status s.power.devIdx data
  let s := onMbox (fun m => { m with served := inc 32 m.served }) s
  match v with
  | .pcie n =>
    setDoorbell n (onMbox (fun m =>
      { m with mem := Cells.writeAll m.mem (0x2000 + n * 0x100) msg
               slots := m.slots.set n .answered }) s)
  | .mgt mac =>
    emit (.ump mac msg) (onMbox (fun m => { m with replay := keepReplay ⟨mac, tag, msg⟩ m.replay }) s)
  | .uart => emit (.uart msg) s

/-- A waiting message that no row serves: not a command, or a code the running code does not serve (R247). -/
def unservable (m : Msg) (s : State) : Bool := m.type != 1 || !(servedCodes s.power.stage).contains m.code

/-- Messages at the head of the queue that no row serves are answered with ST_BAD_CMD. -/
def drain : List Msg → State → State
  | [], s => onMbox (fun m => { m with cmdQueue := [] }) s
  | h :: r, s =>
    if carries h.via s && unservable h s then drain r (post h.via h.code h.tag ST.badCmd [] s)
    else onMbox (fun m => { m with cmdQueue := h :: r }) s

/-- What a retried or failed DMA read of external data leaves: its count and record (R249, R436). -/
def noteDma (code : Nat) (u : Ump) (s : State) : State :=
  if bit u.flags 1 then dmaFault u.env.dma code u.tag s else s

/-- The command is judged and answered. A handler that fails leaves the state as it was (R17), but where a rule gives the
failure an effect of its own (R235, R277, R292). `after` is what follows a good response (R280). -/
def answer (code : Nat) (h : Ump → State → Reply) (after : State → State) (u : Ump) (s : State) : State :=
  match headerStatus code u s with
  | some st =>
    post u.via code u.tag st [] (if st = ST.faultLasting then noteDma code u s else s)
  | none =>
    let s1 := noteDma code u s
    let r := h u s1
    let st := if r.status = ST.ok && bit u.flags 1 && decide (u.env.dma = .retried) then ST.okRetried else r.status
    if r.posted then
      let t := post u.via code u.tag st r.data r.st
      if ST.good st then after t else t
    else r.st

/-- Commands of the Ethernet transport that wait. -/
def mgtWaiting (s : State) : Nat :=
  (s.mbox.cmdQueue.filter fun m => match m.via with | .mgt _ => true | _ => false).length

/-- A message joins the queue (R250, R251); over PCIe its slot becomes Queued. -/
def joinQueue (m : Msg) (s : State) : State :=
  match m.via with
  | .pcie n => onMbox (fun b => { b with cmdQueue := b.cmdQueue ++ [m], slots := b.slots.set n .queued }) s
  | _ => onMbox (fun b => { b with cmdQueue := b.cmdQueue ++ [m] }) s

/-- The host's bytes in CMD_SLOT n: the header and the payload of the message (R246, R247). -/
def writeSlot (n : Nat) (m : Msg) (s : State) : State :=
  let bytes := leBytes 1 m.type ++ leBytes 1 m.flags ++ leBytes 2 m.code ++ leBytes 2 m.tag
    ++ leBytes 2 m.length ++ leBytes 4 0 ++ leBytes 4 m.crc ++ m.payload
  onMbox (fun b => { b with mem := Cells.writeAll b.mem (0x1000 + n * 0x100) bytes }) s

/-- The stored response to a tag from a source MAC address (R263). -/
def stored (mac tag : Nat) (s : State) : Option Replay :=
  s.mbox.replay.find? fun r => r.mac == mac && r.tag == tag

/-- A UMP command reaches the device: it is served at once where nothing waits before it, served from the head of the
queue where it waits there, or joins the queue (R250, R251, R263, log entry 6). -/
def serveThen (code : Nat) (h : Ump → State → Reply) (after : State → State) (u : Ump) (s : State) : State :=
  let s := start s
  let m := u.msg code
  let run (q : List Msg) (t : State) : State :=
    let t := answer code h after u (onMbox (fun b => { b with cmdQueue := q }) t)
    drain t.mbox.cmdQueue t
  match u.via with
  | .pcie n =>
    if 16 ≤ n then s
    else match s.mbox.cmdQueue with
      | [] =>
        if !reachable s || s.mbox.slots.getD n .free != .free then s
        else if carries u.via s then run [] (writeSlot n m s)
        else joinQueue m (writeSlot n m s)
      | q :: r =>
        if q = m then (if carries u.via s then run r s else s)
        else if !reachable s || s.mbox.slots.getD n .free != .free then s
        else joinQueue m (writeSlot n m s)
  | .mgt mac =>
    if !carries u.via s then s
    else match s.mbox.cmdQueue with
      | [] =>
        match stored mac u.tag s with
        | some r => emit (.ump mac r.message) s
        | none => run [] s
      | q :: r =>
        if q = m then run r s
        else match stored mac u.tag s with
          | some p => emit (.ump mac p.message) s
          | none => if 64 ≤ mgtWaiting s then s else joinQueue m s
  | .uart =>
    if !carries u.via s then s
    else match s.mbox.cmdQueue with
      | [] => run [] s
      | q :: r => if q = m then run r s else joinQueue m s

/-- A UMP command reaches the device and nothing follows its response. -/
def serve (code : Nat) (h : Ump → State → Reply) (u : Ump) (s : State) : State := serveThen code h id u s

/-! ### Ranges of the common types (R272) -/

/-- Not a slice. -/
def badSlice (n : Nat) : Bool × Nat := param (decide (2 < n))
/-- Not a port. -/
def badPort (n : Nat) : Bool × Nat := param (decide (4 < n))
/-- Not a VLAN. -/
def badVlan (n : Nat) : Bool := n == 0 || decide (4094 < n)
/-- A key-slot handle that names a slot. -/
def keyHandleOk (h : Nat) : Bool :=
  match h / 8192 with
  | 0 => decide (h % 8192 < 5120)
  | 1 => decide (h % 8192 < 256)
  | 2 => decide (h % 8192 < 64)
  | _ => false
/-- A host address that is not 4-byte aligned. -/
def badHost (a : Nat) : Bool := a % 4 != 0
/-- A MAC address that is all zero or group addressed. -/
def notUnicast (b : Bytes) : Bool := bit (rd b 0 1) 0 || beNat b == 0

/-! ### The configuration shadow (R336) -/

/-- A record joins the shadow in place of earlier ones of the same object. -/
def cfgKeepIf (same : CfgRecord → Bool) (code : Nat) (payload : Bytes) (s : State) : State :=
  onMem (fun m => { m with shadow := (m.shadow.filter fun r => !same r) ++ [⟨code, payload⟩] }) s

/-- A set command joins the shadow; the object is named by `n` bytes of the payload at `o`. -/
def cfgKeep (code o n : Nat) (payload : Bytes) (s : State) : State :=
  cfgKeepIf (fun r => r.code == code && field r.payload o n == field payload o n) code payload s

/-- Records removed from the shadow. -/
def cfgDrop (gone : CfgRecord → Bool) (s : State) : State :=
  onMem (fun m => { m with shadow := m.shadow.filter fun r => !gone r }) s

/-- A delete: the object's records are removed, and a delete record is left only where no kept record created it. -/
def cfgDelete (same : CfgRecord → Bool) (code : Nat) (payload : Bytes) (s : State) : State :=
  if s.mem.shadow.any same then cfgDrop same s
  else onMem (fun m => { m with shadow := m.shadow ++ [⟨code, payload⟩] }) s

/-! ### Felt store writes (R332) -/

/-- The store controller refuses a write to the locked limit table's range since its lock word was read at reset (R334). -/
def feltRefuses (addr : Nat) (s : State) : Bool := s.mem.lltRefuse && decide (0x3000 ≤ addr ∧ addr ≤ 0x3FFF)

/-- What a Felt store granule write leaves: nothing, a transient fault, or a lasting one with its event. A refused write is counted, and
changes nothing (R334). -/
def feltWrite (r : Retry) (addr : Nat) (s : State) : State :=
  if feltRefuses addr s then onMem (fun m => { m with lltRefused := inc 32 m.lltRefused }) s
  else match r with
  | .ok => s
  | .retried =>
    transientFault 0x0908 (leBytes 4 addr ++ leBytes 1 0)
      (onMem (fun m => { m with mramTransient := inc 32 m.mramTransient }) s)
  | .lasting =>
    lastingFault 0x0908 (leBytes 4 addr ++ leBytes 1 0) true
      (onMem (fun m => { m with mramLasting := inc 32 m.mramLasting }) s)

/-- A command whose effect writes the Felt store: done, done on a retry, or failed lastingly with its settings not applied
(R277, R332). -/
def replyFelt (r : Retry) (addr : Nat) (data : Bytes) (before effect : State) : Reply :=
  match r with
  | .lasting => ⟨feltWrite r addr before, ST.faultLasting, [], true⟩
  | _ => replyHw r data (feltWrite r addr effect)

end Sys2Proof.Machine
end

