-- ==== Sys2Proof/Machine/HostLink.lean ====
section
/-! DEFINITION. Host link: doorbells, masks, event slots, ring registers, generic register writes and the endpoint's power
states (chapter 10, R242 to R259, R263, R416). -/
namespace Sys2Proof.Machine

/-! ### Reading registers -/

/-- The code of PWR_STAT.STATE (R246). -/
def pwrCode : PwrState → Nat
  | .run => 0 | .quiet => 1 | .standby => 2 | .sleep => 3 | .off => 4

/-- FW_VER, 0 until STAGE reaches 0x03 (R246); the limp firmware's is 3.2 build 0 (DESIGN CHOICE, log entry 10). -/
def fwVer (s : State) : Nat :=
  if s.power.stage == 3 || s.power.stage == 4 then s.power.version
  else if s.power.stage == 5 then 0x03020000 else 0

/-- UMP_VER, 0 until STAGE reaches 0x03 (R246). -/
def umpVer (s : State) : Nat :=
  if (s.power.stage == 3 || s.power.stage == 4 || s.power.stage == 5) then 0x0302 else 0

/-- BOOT_STAT (R246). -/
def bootStat (s : State) : Nat :=
  s.power.stage + s.power.bootSlot * 2 ^ 8 + b2n s.power.fellBack * 2 ^ 9 + s.power.bootSel * 2 ^ 10
    + s.power.bootCauseCode * 2 ^ 12 + s.power.bootFault * 2 ^ 16

/-- PWR_STAT (R246). -/
def pwrStat (s : State) : Nat :=
  pwrCode s.power.state + b2n s.power.limp * 2 ^ 3 + b2n s.power.changing * 2 ^ 4
    + s.power.domains.toNat * 2 ^ 16

/-- WAKE_LAST (R246). -/
def wakeLast (s : State) : Nat :=
  s.power.wakeSource + s.power.wakePort * 2 ^ 8 + s.power.wakeIndex * 2 ^ 16

/-- ACCESS_FAULT (R246). -/
def accessFault (s : State) : Nat :=
  s.mbox.accAddr % 2 ^ 28 + s.mbox.accSrc % 4 * 2 ^ 28 + b2n s.mbox.accWrite * 2 ^ 30 + b2n s.mbox.accValid * 2 ^ 31

/-- What a 32-bit read of BAR0 at an aligned offset returns, side effects apart (R245, R246). -/
def readBar0 (s : State) (o : Nat) : Nat :=
  if o = 0x00 then 0x96320201
  else if o = 0x04 then bootStat s
  else if o = 0x08 then fwVer s
  else if o = 0x0C then umpVer s
  else if o = 0x14 then s.mbox.devDoorbell.toNat
  else if o = 0x18 then s.mbox.irqMask.toNat
  else if o = 0x1C then s.mbox.scratch.toNat
  else if o = 0x20 then pwrStat s
  else if o = 0x24 then wakeLast s
  else if o = 0x2C then accessFault s
  else if o = 0x30 then s.mbox.evtProd
  else if o = 0x34 then s.mbox.evtCons
  else if o = 0x38 then s.mbox.heartbeat
  else if o = 0x3C then s.mbox.faultCode + s.mbox.faultParam * 2 ^ 16
  else if o = 0x40 then s.evr.cursor
  else if o = 0x44 then s.evr.page + b2n s.evr.next * 4
  else if o = 0x48 then s.evr.stat.toNat
  else if o = 0x4C then s.evr.count
  else if 0x80 ≤ o ∧ o < 0xC0 then rd s.evr.window (s.evr.page * 64 + (o - 0x80)) 4
  else if 0x1000 ≤ o ∧ o < 0x4000 then leNat (Cells.readAll s.mbox.mem o 4)
  else if 0x8000 ≤ o ∧ o < 0x10000 ∧ s.sec.debugScope / 2 % 2 = 0 then 0x0FF00FF0
  else 0

/-- The ring r, at its reset values where it was never changed. -/
def ring (r : Nat) (s : State) : Ring := Tab.getD s.rings r .reset

/-- Ring r changed by a function. -/
def onRing (r : Nat) (f : Ring → Ring) (s : State) : State :=
  { s with rings := Tab.put s.rings r (f (ring r s)) }

/-- RING_STAT (R258). -/
def ringStat (q : Ring) : Nat := b2n q.idle + b2n q.error * 2 + q.cause * 2 ^ 8 + q.drops * 2 ^ 16

/-- What a 32-bit read of BAR2 returns, side effects apart (R258). -/
def readBar2 (s : State) (o : Nat) : Nat :=
  if 34 ≤ o / 0x100 then 0
  else
    let q := ring (o / 0x100) s
    match o % 0x100 with
    | 0x00 => q.base % 2 ^ 32
    | 0x04 => q.base / 2 ^ 32
    | 0x08 => q.log2
    | 0x0C => b2n q.enable + q.count * 2 ^ 8 + q.time * 2 ^ 16
    | 0x10 => q.prod
    | 0x14 => q.cons
    | 0x18 => ringStat q
    | _ => 0

/-! ### Doorbells, masks and event slots -/

/-- The UMP message held by bytes that start with its header (R247). -/
def parseMsg (v : Via) (b : Bytes) : Msg :=
  ⟨v, rd b 0 1, rd b 1 1, rd b 2 2, rd b 4 2, rd b 6 2, rd b 12 4, (b.drop 16).take (rd b 6 2)⟩

/-- A doorbell: a Free slot is copied and Queued; a slot that is not Free ignores it (R250). -/
def hostDoorbell (value : Word32) (s : State) : State :=
  let n := value.toNat % 16
  if !reachable s || s.mbox.slots.getD n .free != .free then s
  else
    let m := parseMsg (.pcie n) (Cells.readAll s.mbox.mem (0x1000 + n * 0x100) 256)
    let t := joinQueue m s
    drain t.mbox.cmdQueue t

/-- HOST_DOORBELL_WRITE (R250): a doorbell for a slot in use is ignored, whichever host rings it (R264). -/
def execHostDoorbellWrite (value : Word32) (s : State) : Host.Outcome State Fault Refusal :=
  .next (hostDoorbell value (start s))

/-- The slot states after bits of DEV_DOORBELL are cleared: a slot whose set bit is cleared becomes Free (R250). -/
def freeSlots (cleared : Word32) (slots : List SlotState) : List SlotState :=
  slots.mapIdx fun n x => if cleared.getLsbD n then .free else x

/-- A W1C write of DEV_DOORBELL (R8, R246, R250). -/
def devDoorbellClear (value : Word32) (s : State) : State :=
  if !reachable s then s
  else onMbox (fun m =>
    { m with devDoorbell := m.devDoorbell &&& ~~~value
             slots := freeSlots (m.devDoorbell &&& value) m.slots }) s

/-- DEV_DOORBELL_CLEAR (R250): a cleared response frees its slot for every host (R264). -/
def execDevDoorbellClear (value : Word32) (s : State) : Host.Outcome State Fault Refusal :=
  .next (devDoorbellClear value (start s))

/-- A write of IRQ_MASK; vector 0 is sent where a set bit is unmasked (R257). -/
def irqMaskWrite (value : Word32) (s : State) : State :=
  if !reachable s then s
  else
    let v := value &&& 0x0007FFFF
    let hit := s.mbox.devDoorbell &&& s.mbox.irqMask &&& ~~~v
    let t := onMbox (fun m => { m with irqMask := v }) s
    if hit = 0 then t else msix 0 t

/-- IRQ_MASK_WRITE (R257). -/
def execIrqMaskWrite (value : Word32) (s : State) : Host.Outcome State Fault Refusal :=
  .next (irqMaskWrite value (start s))

/-- A write of EVT_CONS: a value outside EVT_CONS to EVT_PROD is ignored; a slot that frees takes EV_EVT_LOST first
(R253, R254). -/
def evtConsWrite (value : Word32) (s : State) : State :=
  let v := value.toNat % 65536
  if !reachable s
      || decide ((s.mbox.evtProd + 65536 - s.mbox.evtCons) % 65536 < (v + 65536 - s.mbox.evtCons) % 65536) then s
  else reportLostPcie (onMbox (fun m => { m with evtCons := v }) s)

/-- EVT_CONS_WRITE (R253). -/
def execEvtConsWrite (value : Word32) (s : State) : Host.Outcome State Fault Refusal :=
  .next (evtConsWrite value (start s))

/-- One queued event is delivered on a transport that has room (R253, R254, R255). -/
def eventDelivery (sink : Bool) (s : State) : State :=
  if sink then
    match s.mbox.sink, s.mbox.sinkQueue with
    | some mac, e :: r =>
      if !mgtUp s then s
      else
        let n := s.mbox.sinkDropped
        let t := if n = 0 then s
          else record 0x0002 (leBytes 4 n) false false true []
            (emit (.ump mac (eventMessage s (evtLost n))) (onMbox (fun m => { m with sinkDropped := 0 }) s))
        emit (.ump mac (eventMessage t e)) (onMbox (fun m => { m with sinkQueue := r }) t)
    | _, _ => s
  else
    let t := reportLostPcie s
    match t.mbox.pcieQueue with
    | e :: r => if evtFull t.mbox then t else writeEvent e (onMbox (fun m => { m with pcieQueue := r }) t)
    | [] => t

/-- EVENT_DELIVERY (R253). -/
def execEventDelivery (sink : Bool) (s : State) : Host.Outcome State Fault Refusal :=
  .next (eventDelivery sink (start s))

/-! ### UMP frames on MGT -/

/-- Codes served for a broadcast index (R443). -/
def broadcastCodes : List Nat := [0x0001, 0x0003, 0x0801, 0x0D01, 0x0D02]

/-- The fleet header addresses this device (R442). -/
def fleetAccepts (version fleetId index : Nat) (s : State) : Bool :=
  version == 1 && (fleetId == 0 || fleetId == s.fleet.id) && (index == s.power.devIdx || index == 0xFFFF)

/-- A UMP frame on MGT: dropped and counted where its fleet header is not for this device or its broadcast code is not
served; answered again from the replay cache; queued; or dropped when 64 wait (R263, R441 to R443). -/
def umpFrame (mac version fleetId index : Nat) (bytes : Bytes) (s : State) : State :=
  let m := parseMsg (.mgt mac) bytes
  if !carries (.mgt mac) s then s
  else if !fleetAccepts version fleetId index s || (index == 0xFFFF && !broadcastCodes.contains m.code) then
    { s with fleet := { s.fleet with dropped := inc 32 s.fleet.dropped } }
  else
    match stored mac m.tag s with
    | some r => emit (.ump mac r.message) s
    | none =>
      if 64 ≤ mgtWaiting s then s
      else
        let t := joinQueue m s
        drain t.mbox.cmdQueue t

/-- UMP_FRAME_RECEIVE (R263). -/
def execUmpFrameReceive (mac version fleetId index : Nat) (message : Bytes) (s : State) :
    Host.Outcome State Fault Refusal :=
  .next (umpFrame mac version fleetId index message (start s))

/-- UART_FRAME_RECEIVE (R417): a message framed by SLIP, in stage 0x06 or limp mode, waits for its row; one that no row serves
is answered with ST_BAD_CMD. -/
def execUartFrameReceive (message : Bytes) (s : State) : Host.Outcome State Fault Refusal :=
  .next (let s := start s
    if carries .uart s then
      let t := joinQueue (parseMsg .uart message) s
      drain t.mbox.cmdQueue t
    else s)

/-! ### Rings -/

/-- The entries of a ring. -/
def ringSize (q : Ring) : Nat := 2 ^ q.log2

/-- A ring stops: ERROR and CAUSE set, ENABLE cleared, EV_HOST_RING_ERROR raised (R262, R256). -/
def ringStop (r cause index : Nat) (s : State) : State :=
  raise 0x0003 (leBytes 1 r ++ leBytes 1 cause ++ leBytes 4 index)
    (onRing r (fun q => { q with error := true, cause := cause, enable := false, idle := true
                                 inProgress := false }) s)

/-- How far one 32-bit free-running index is ahead of another. -/
def ahead (a b : Nat) : Nat := (a + 2 ^ 32 - b) % 2 ^ 32

/-- The host's index of a ring runs more than the ring size ahead of the device's (R262). On the completion ring the host's
CONS follows the device's PROD, so it may not pass it: the same comparison (DEDUCED, log entry 7). -/
def indexBad (q : Ring) : Bool := decide (ringSize q < ahead q.prod q.cons)

/-- A write of RING_PROD: ignored where the host does not own it; an index beyond the size stops the ring (R258, R262). -/
def ringProdWrite (r : Nat) (value : Word32) (s : State) : State :=
  if !reachable s || decide (32 < r) then s
  else
    let t := onRing r (fun q => { q with prod := value.toNat }) s
    let q := ring r t
    if q.enable && indexBad q then ringStop r 1 value.toNat t else t

/-- RING_PROD_WRITE (R259). -/
def execRingProdWrite (ring : Nat) (value : Word32) (s : State) : Host.Outcome State Fault Refusal :=
  .next (ringProdWrite ring value (start s))

/-- The MSI-X vector of a ring (R257). -/
def ringVector (r : Nat) : Nat := r + 1 - b2n (decide (32 < r))

/-- A completed entry of a ring: unsignalled until COUNT is reached, when the interrupt is sent (R258, R259). A COUNT of 0
signals every entry. -/
def ringSignal (r : Nat) (s : State) : State :=
  let n := (ring r s).unsignalled + 1
  if (ring r s).count ≤ n then msix (ringVector r) (onRing r (fun q => { q with unsignalled := 0 }) s)
  else onRing r (fun q => { q with unsignalled := n }) s

/-- Completion entries that waited for room in ring 33 are written while there is room, in order (R353, R354). -/
def flushHold : List Bytes → State → State
  | [], s => { s with tds := { s.tds with hold := [] } }
  | e :: r, s =>
    let q := ring 33 s
    if !q.enable || s.pcie.d3 || decide (ringSize q ≤ ahead q.prod q.cons) then { s with tds := { s.tds with hold := e :: r } }
    else
      let s := emit (.dma (q.base + q.prod % ringSize q * 32) e) s
      let s := onRing 33 (fun q => { q with prod := inc 32 q.prod }) s
      flushHold r (ringSignal 33
        { s with tds := { s.tds with completions := inc 64 s.tds.completions, inFlight := s.tds.inFlight - 1 } })

/-- A write of RING_CONS: only the completion ring's belongs to the host (R258, R259, R262). -/
def ringConsWrite (r : Nat) (value : Word32) (s : State) : State :=
  if !reachable s || r != 33 then s
  else
    let t := onRing r (fun q => { q with cons := value.toNat }) s
    let q := ring r t
    if q.enable && indexBad q then ringStop r 1 value.toNat t else flushHold t.tds.hold t

/-- RING_CONS_WRITE (R259). -/
def execRingConsWrite (ring : Nat) (value : Word32) (s : State) : Host.Outcome State Fault Refusal :=
  .next (ringConsWrite ring value (start s))

/-- The COUNT and TIME fields of a RING_CTL value stored. -/
def ringCtlFields (value : Word32) (q : Ring) : Ring :=
  { q with count := value.toNat / 2 ^ 8 % 256, time := value.toNat / 2 ^ 16 }

/-- Base or size invalid: the base not 64-byte aligned, or LOG2 outside 6 to 16 (R258). -/
def ringInvalid (q : Ring) : Bool := q.base % 64 != 0 || decide (q.log2 < 6) || decide (16 < q.log2)

/-- RING_CTL.ENABLE set: the ring starts, or stops at once with its cause; in limp mode ENABLE is ignored (R258, R262). -/
def ringEnable (r : Nat) (value : Word32) (s : State) : State :=
  if !reachable s || decide (33 < r) then s
  else
    let t := onRing r (ringCtlFields value) s
    if s.power.limp || (ring r s).enable then t
    else if ringInvalid (ring r t) then ringStop r 3 0 t
    else
      let t := onRing r (fun q => { q with enable := true, idle := false }) t
      let q := ring r t
      if indexBad q then ringStop r 1 (if r = 33 then q.cons else q.prod) t else flushHold t.tds.hold t

/-- RING_ENABLE (R258). -/
def execRingEnable (ring : Nat) (value : Word32) (s : State) : Host.Outcome State Fault Refusal :=
  .next (ringEnable ring value (start s))

/-- RING_CTL.ENABLE cleared: IDLE once no entry is in progress (R262). -/
def ringDisable (r : Nat) (value : Word32) (s : State) : State :=
  if !reachable s || decide (33 < r) then s
  else onRing r (fun q =>
    { ringCtlFields value q with enable := false, idle := q.idle || !q.inProgress }) s

/-- RING_DISABLE (R262). -/
def execRingDisable (ring : Nat) (value : Word32) (s : State) : Host.Outcome State Fault Refusal :=
  .next (ringDisable ring value (start s))

/-- A read of RING_STAT returns it and clears DROPS (R8, R258). -/
def ringDropsRead (r : Nat) (s : State) : State :=
  if !reachable s || decide (33 < r) then s
  else onRing r (fun q => { q with drops := 0 }) (emit (.read (BitVec.ofNat 32 (ringStat (ring r s)))) s)

/-- RING_DROPS_READ (R258). -/
def execRingDropsRead (ring : Nat) (s : State) : Host.Outcome State Fault Refusal :=
  .next (ringDropsRead ring (start s))

/-- TIME after the first unsignalled completion: the ring's interrupt is sent (R258). -/
def ringCoalesce (r : Nat) (s : State) : State :=
  if (ring r s).unsignalled = 0 || (ring r s).time = 0 then s
  else msix (ringVector r) (onRing r (fun q => { q with unsignalled := 0 }) s)

/-- RING_COALESCE_TIMEOUT (R258). -/
def execRingCoalesceTimeout (ring : Nat) (s : State) : Host.Outcome State Fault Refusal :=
  .next (ringCoalesce ring (start s))

/-! ### PCI power states, PERST_N and the link -/

/-- PCI_D3HOT_ENTRY (R243): DMA and messages stop; the rest of the state is left. -/
def execPciD3hotEntry (s : State) : Host.Outcome State Fault Refusal :=
  .next (let s := start s
    if powered 1 s && s.pcie.linkUp then { s with pcie := { s.pcie with d3 := true } } else s)

/-- A return to D0: DMA and messages resume; messages that waited, and vector 0 for unmasked doorbell bits set meanwhile,
are sent (R243). -/
def pciD0Return (s : State) : State :=
  if !s.pcie.d3 then s
  else
    let held := s.pcie.held
    held.foldl (fun t v => msix v t) { s with pcie := { s.pcie with d3 := false, held := [] } }

/-- PCI_D0_RETURN (R243). -/
def execPciD0Return (s : State) : Host.Outcome State Fault Refusal := .next (pciD0Return (start s))

/-- PERST_N_ASSERT (R416): the endpoint alone is reset; configuration space returns to its defaults. -/
def execPerstNAssert (s : State) : Host.Outcome State Fault Refusal :=
  .next (let s := start s
    { s with pcie := { Pcie.reset with perst := true } })

/-- PERST_N_RELEASE (R416): the endpoint leaves reset and the link begins to train. -/
def execPerstNRelease (s : State) : Host.Outcome State Fault Refusal :=
  .next (let s := start s
    { s with pcie := { s.pcie with perst := false } })

/-- PCIE_LINK_UP (R404): the link reaches L0, where the endpoint is powered and out of reset, and PCIE_WAKE_N is let go. -/
def execPcieLinkUp (s : State) : Host.Outcome State Fault Refusal :=
  .next (let s := start s
    if powered 1 s && !s.pcie.perst then
      onPower (fun p => { p with pcieWakeLow := false }) { s with pcie := { s.pcie with linkUp := true } }
    else s)

end Sys2Proof.Machine
end

