-- ==== Sys2Proof/Machine/Recorder.lean ====
section
/-! DEFINITION. The event recorder: record formats, the writer, floods, the window registers, and the recorder's commands
but EVR_CLEAR (chapter 18, R421 to R433, R439). -/
namespace Sys2Proof.Machine

/-! ### Record formats (R425, R426) -/

/-- One entry of a body: type, length, value. -/
def tlv (t : Nat) (v : Bytes) : Bytes := leBytes 1 t ++ leBytes 1 v.length ++ v

/-- The bytes of a fixed record with its CRC. -/
def fixedBytes (code a seconds cycles rep b : Nat) : Bytes :=
  let h := leBytes 2 (code % 2 ^ 15) ++ leBytes 2 a ++ leBytes 4 seconds ++ leBytes 3 cycles ++ leBytes 1 rep
    ++ leBytes 2 b
  h ++ leBytes 2 (crc16 h)

/-- The bytes of a variable record; the CRC leaves out the repeat count. -/
def variableBytes (code seconds cycles flags rep : Nat) (body : Bytes) : Bytes :=
  let h := leBytes 2 (0x8000 + (body.length + 16)) ++ leBytes 2 code ++ leBytes 4 seconds ++ leBytes 3 cycles
    ++ leBytes 1 flags
  h ++ leBytes 2 rep ++ body ++ leBytes 2 (crc16 (h ++ body))

/-- A record is variable: bit 15 of its first word is set. -/
def isVariable (b : Bytes) : Bool := bit (rd b 0 2) 15

/-- The code of a record. -/
def recordCode (b : Bytes) : Nat := if isVariable b then rd b 2 2 else rd b 0 2

/-- The body of a variable record. -/
def recordBody (b : Bytes) : Bytes := (b.drop 14).take (b.length - 16)

/-- A body without its type 0x02 entries; at most `fuel` entries. -/
def stripTime : Nat → Bytes → Bytes
  | fuel + 1, t :: l :: r =>
    (if t = 2 then [] else t :: l :: r.take l.toNat) ++ stripTime fuel (r.drop l.toNat)
  | _, b => b

/-- The CRC of a record is correct (R425). -/
def recordValid (b : Bytes) : Bool :=
  if isVariable b then
    rd b (b.length - 2) 2 == crc16 (b.take 12 ++ recordBody b)
  else rd b 14 2 == crc16 (b.take 14)

/-- The body of an occurrence: its payload first where it is an event, the device time, and the entries that concern a
command or a unit. A code recorded and not raised carries its parameters as a unit detail (log entry 8). -/
def occBody (o : Occurrence) : Bytes :=
  (if o.isEvent then tlv 1 o.payload else []) ++ tlv 2 (leBytes 8 o.time)
    ++ (if o.isEvent then [] else tlv 5 (fit 8 o.payload))
    ++ (o.extra.map fun e => tlv e.1 e.2).flatten

/-- The flags byte of a variable record (R425). -/
def occFlags (o : Occurrence) (lost : Bool) : Nat :=
  b2n o.transient * 2 + b2n o.lasting * 4 + b2n lost * 8

/-- The bytes of the record of an occurrence. -/
def occBytes (o : Occurrence) (lost : Bool) : Bytes :=
  if o.fixed then fixedBytes o.code (rd o.payload 0 2) o.seconds o.cycles 0 (rd o.payload 2 2)
  else variableBytes o.code o.seconds o.cycles (occFlags o lost) 0 (occBody o)

/-! ### Placing a record (R421 to R423) -/

/-- The next multiple of 8. -/
def up8 (n : Nat) : Nat := (n + 7) / 8 * 8

/-- The 16-byte header of a segment or of the permanent area, from its first ordinal (R422). -/
def areaHeader (first : Nat) : Bytes :=
  let h := leBytes 4 0x53455645 ++ leBytes 4 first ++ List.replicate 6 0
  h ++ leBytes 2 (crc16 h)

/-- An area as the Felt store holds it: its header, and each record filled with zeros to its boundary (R422, R423). -/
def areaBytes (first : Nat) (l : List EvrRecord) : Bytes :=
  areaHeader first ++ (l.map fun x => fit (up8 x.bytes.length) x.bytes).flatten

/-- The written part of a segment of the circulating area (R422). -/
def segmentBytes (n : Nat) (r : Recorder) : Bytes :=
  match Tab.look r.segFirst n with
  | some f => areaBytes f (r.records.filter fun x => !x.permanent && x.segment == n)
  | none => []

/-- The circulating area made ready for a record of `len` bytes: it stays in its segment, or the writer moves to the next
one, whose records are gone and whose header takes the next ordinal (R422). -/
def roomFor (len : Nat) (r : Recorder) : Recorder :=
  if !r.segStarted then
    { r with segStarted := true, segment := 0, segNext := 16, segFirst := Tab.put r.segFirst 0 r.count }
  else if r.segNext + len ≤ 65536 then r
  else
    let seg := (r.segment + 1) % 11
    { r with segment := seg, segNext := 16, segFirst := Tab.put r.segFirst seg r.count
             records := r.records.filter fun x => x.permanent || x.segment != seg }

/-- A record is written: it takes the next ordinal and its place, and is the newest, which repeats may match unless it is a
summary (R421, R430). -/
def writeRecord (b : Bytes) (seconds : Nat) (summary : Bool) (r : Recorder) : Recorder :=
  if !r.permClosed && decide (r.permNext + b.length ≤ 65536) then
    { r with records := r.records ++ [⟨r.count, true, 0, r.permNext, b, seconds⟩]
             permNext := up8 (r.permNext + b.length)
             count := inc 32 r.count
             newest := if summary then none else some r.count }
  else
    let r := roomFor b.length { r with permClosed := true }
    { r with records := r.records ++ [⟨r.count, false, r.segment, r.segNext, b, seconds⟩]
             segNext := up8 (r.segNext + b.length)
             count := inc 32 r.count
             newest := if summary then none else some r.count }

/-! ### Floods (R430, R431) -/

/-- The newest record matches an occurrence. -/
def matchesRecord (o : Occurrence) (x : EvrRecord) : Bool :=
  if o.fixed then
    !isVariable x.bytes && recordCode x.bytes == o.code && rd x.bytes 2 2 == rd o.payload 0 2
      && rd x.bytes 12 2 == rd o.payload 2 2
  else
    isVariable x.bytes && recordCode x.bytes == o.code
      && (rd x.bytes 11 1 / 2 % 4 == occFlags o false / 2)
      && stripTime 240 (recordBody x.bytes) == stripTime 240 (occBody o)

/-- The repeat count of a record. -/
def repeatCount (b : Bytes) : Nat := if isVariable b then rd b 12 2 else rd b 11 1

/-- A record with its repeat count one higher; a fixed record's CRC covers it (R425). -/
def bumpRepeat (b : Bytes) : Bytes :=
  if isVariable b then b.take 12 ++ leBytes 2 (rd b 12 2 + 1) ++ b.drop 14
  else
    let h := b.take 11 ++ leBytes 1 (rd b 11 1 + 1) ++ (b.drop 12).take 2
    h ++ leBytes 2 (crc16 h)

/-- The repeat count is saturated. -/
def repeatFull (b : Bytes) : Bool := if isVariable b then repeatCount b == 65535 else repeatCount b == 255

/-- The record an occurrence repeats, where it does (R430 step 1). -/
def repeatOf (o : Occurrence) (r : Recorder) : Option EvrRecord :=
  match r.newest with
  | none => none
  | some n => r.records.find? fun x =>
      x.ordinal == n && matchesRecord o x && decide (o.seconds - x.lastSeen ≤ r.repeatWindow) && !repeatFull x.bytes

/-- Codes never rate-limited (R430 step 2). -/
def rateExempt (o : Occurrence) : Bool :=
  o.fixed || o.lasting || o.code == 0x0004 || o.code == 0x0005 || o.code == 0x0A01

/-- The writer writes the record of an occurrence. -/
def writeOcc (o : Occurrence) (r : Recorder) : Recorder :=
  let r' := writeRecord (occBytes o r.lostFlag) o.seconds false r
  if o.fixed then r' else { r' with lostFlag := false }

/-- A window of a code closes: a summary is written where occurrences were suppressed in it (R431). -/
def closeWindow (code seconds cycles time : Nat) (r : Recorder) : Recorder :=
  match r.windows.find? fun w => w.code == code with
  | none => r
  | some w =>
    let r := { r with windows := r.windows.filter fun v => v.code != code }
    if w.suppressed = 0 then r
    else
      let body := tlv 1 w.last ++ tlv 2 (leBytes 8 time) ++ tlv 3 (leBytes 4 w.suppressed)
      let b := variableBytes code seconds cycles (1 + b2n r.lostFlag * 8) (min w.suppressed 65535) body
      { writeRecord b seconds true r with lostFlag := false }

/-- A window has been open for its period. -/
def windowOver (w : RateWindow) (seconds : Nat) : Bool := decide (w.opened + w.period ≤ seconds)

/-- The writer judges an occurrence: a repeat is counted in place, a suppressed one counted, any other written (R430). A window of
its code whose period is over closes before (R431). -/
def judgeOcc (o : Occurrence) (r : Recorder) : Recorder :=
  let r := if r.windows.any fun w => w.code == o.code && windowOver w o.seconds then
      closeWindow o.code o.seconds o.cycles o.time r else r
  match repeatOf o r with
  | some x =>
    { r with records := r.records.map fun y =>
               if y = x then { y with bytes := bumpRepeat y.bytes, lastSeen := o.seconds } else y
             repeats := inc 32 r.repeats }
  | none =>
    match r.windows.find? fun w => w.code == o.code with
    | some w =>
      if !rateExempt o && decide (r.limit ≤ w.written) then
        { r with windows := r.windows.map fun v => if v = w then
                   { v with suppressed := inc 32 v.suppressed, last := o.payload } else v
                 suppressed := inc 32 r.suppressed }
      else
        let r' := writeOcc o r
        if o.fixed then r'
        else { r' with windows := r'.windows.map fun v => if v = w then { v with written := v.written + 1 } else v }
    | none =>
      let r' := writeOcc o r
      if rateExempt o then r'
      else { r' with windows := r'.windows ++ [⟨o.code, 1, 0, [], r'.period, o.seconds⟩] }

/-- The writer takes the next occurrence from its queue; during a clear the queue waits (R428, R434). -/
def writerStep (r : Recorder) : Recorder :=
  match r.queue with
  | o :: q => if r.clearing then r else judgeOcc o { r with queue := q }
  | [] => r

/-- The whole queue is written (R428: before step 6 of R402). -/
def drainWriter (r : Recorder) : Recorder := Nat.repeat writerStep r.queue.length r

/-- EVR_RECORD_WRITE (R428): no records are written while PD_CORE is off. -/
def execEvrRecordWrite (s : State) : Host.Outcome State Fault Refusal :=
  .next (let s := start s
    if powered 1 s then onEvr writerStep s else s)

/-- EVR_RATE_WINDOW_CLOSE (R431). -/
def execEvrRateWindowClose (code : Nat) (s : State) : Host.Outcome State Fault Refusal :=
  .next (let s := start s
    if s.evr.windows.any fun w => w.code == code && windowOver w s.mem.seconds then
      onEvr (closeWindow code s.mem.seconds s.mem.cycles (deviceTime s)) s
    else s)

/-! ### The window registers (R432) -/

/-- The record of an ordinal, where it is kept. -/
def recordAt (n : Nat) (r : Recorder) : Option EvrRecord := r.records.find? fun x => x.ordinal == n

/-- An ordinal is not yet written, by serial arithmetic against EVR_COUNT (R421). -/
def beyond (n : Nat) (r : Recorder) : Bool := decide ((n + 2 ^ 32 - r.count) % 2 ^ 32 < 2 ^ 31)

/-- The window and EVR_STAT after the record of the cursor is latched (R246, R432). -/
def latch (r : Recorder) : Recorder :=
  match recordAt r.cursor r with
  | some x =>
    let v := x.bytes.length % 512 + b2n (recordValid x.bytes) * 2 ^ 9 + b2n (!isVariable x.bytes) * 2 ^ 10
      + b2n x.permanent * 2 ^ 11
    { r with window := x.bytes, stat := BitVec.ofNat 16 v }
  | none =>
    { r with window := [], stat := if beyond r.cursor r then 0x2000 else 0x1000 }

/-- EVR_CURSOR_WRITE (R432). -/
def execEvrCursorWrite (value : Word32) (s : State) : Host.Outcome State Fault Refusal :=
  .next (let s := start s
    if reachable s then onEvr (fun r => latch { r with cursor := value.toNat }) s else s)

/-- The read of the word that holds the record's last byte: with NEXT set, ORDINAL advances, PAGE is 0 and the next record is
latched (R432). -/
def windowRead (s : State) : State :=
  let len := s.evr.stat.toNat % 512
  if !reachable s || len = 0 || s.evr.page != (len - 1) / 64 then s
  else
    let t := emit (.read (BitVec.ofNat 32 (rd s.evr.window ((len - 1) / 4 * 4) 4))) s
    if s.evr.next then onEvr (fun r => latch { r with cursor := inc 32 r.cursor, page := 0 }) t else t

/-- EVR_WINDOW_AUTO_ADVANCE (R432). -/
def execEvrWindowAutoAdvance (s : State) : Host.Outcome State Fault Refusal := .next (windowRead (start s))

/-- A read of EVR_STAT: a BEYOND ordinal is latched again first (R432). -/
def execEvrStatRead (s : State) : Host.Outcome State Fault Refusal :=
  .next (let s := start s
    if !reachable s then s
    else
      let t := if s.evr.stat.getLsbD 13 then onEvr latch s else s
      emit (.read (t.evr.stat.setWidth 32)) t)

/-! ### Commands (R433, R439) -/

/-- Ordinal of the oldest circulating record kept (R439). -/
def oldestKept (r : Recorder) : Nat :=
  match r.records.find? fun x => !x.permanent with
  | some x => x.ordinal
  | none => r.count

/-- Bytes in use in the circulating area: the records kept there. -/
def circulatingBytes (r : Recorder) : Nat :=
  ((r.records.filter fun x => !x.permanent).map fun x => up8 x.bytes.length).sum

/-- The response of EVR_GET_INFO (R439). -/
def evrInfo (s : State) : Bytes :=
  let r := s.evr
  leBytes 4 r.count ++ leBytes 4 (r.records.filter fun x => x.permanent).length ++ leBytes 4 (oldestKept r)
    ++ leBytes 4 (circulatingBytes r)
    ++ leBytes 1 (b2n r.permClosed + b2n (fixedPhase s.power.stage) * 2 + b2n r.clearing * 4)
    ++ leBytes 1 r.segment ++ leBytes 2 0 ++ leBytes 4 r.suppressed ++ leBytes 4 r.repeats ++ leBytes 4 r.lost
    ++ leBytes 4 r.corrupt ++ leBytes 4 r.clears ++ leBytes 4 s.mem.seconds ++ leBytes 4 s.mem.cycles

/-- EVR_GET_INFO answers its record. -/
def evrGetInfo (_ : Ump) (s : State) : Reply := reply (evrInfo s) s

/-- EVR_GET_INFO (R439). -/
def execEvrGetInfo (m : Ump) (s : State) : Host.Outcome State Fault Refusal :=
  .next (serve 0x0A01 evrGetInfo m s)

/-- One entry of EVR_READ: the 8-byte header and the record (R433). -/
def readEntry (x : EvrRecord) : Bytes :=
  leBytes 4 x.ordinal ++ leBytes 1 (b2n (recordValid x.bytes) + b2n x.permanent * 2) ++ leBytes 1 0
    ++ leBytes 2 x.bytes.length ++ x.bytes

/-- Whole entries that fit in `room` bytes, at most `n` of them. -/
def takeFitting : Nat → Nat → List EvrRecord → List EvrRecord
  | _, 0, _ => []
  | _, _, [] => []
  | room, n + 1, x :: r =>
    let e := 8 + x.bytes.length
    if e ≤ room then x :: takeFitting (room - e) n r else []

/-- Records from the later of `start` and the oldest kept, in ordinal order (R433). -/
def readFrom (n : Nat) (r : Recorder) : List EvrRecord :=
  r.records.filter fun x => decide ((x.ordinal + 2 ^ 32 - n) % 2 ^ 32 < 2 ^ 31)

/-- A DMA write of results to a host address: done, done on its retry, or failed lastingly (R249, R277). -/
def dmaReply (u : Ump) (code addr : Nat) (bytes data : Bytes) (s : State) : Reply :=
  match u.env.wr with
  | .lasting => ⟨dmaFault .lasting code u.tag s, ST.faultLasting, [], true⟩
  | .retried => ⟨emit (.dma addr bytes) (dmaFault .retried code u.tag s), ST.okRetried, data, true⟩
  | .ok => ⟨emit (.dma addr bytes) s, ST.ok, data, true⟩

/-- EVR_READ: entries inline or at a host address (R433, R439). -/
def evrRead (u : Ump) (s : State) : Reply :=
  let start := u.b32 0
  let addr := u.b64 8
  let limit := u.b32 16
  judge ([short u 20, param (u.b16 4 == 0), param (badHost addr),
      param (addr != 0 && (decide (limit < 264) || decide (1048576 < limit)))] ++ gate 0x0A05 false [] s) s fun _ =>
    let all := readFrom start s.evr
    let got := takeFitting (if addr = 0 then 228 else limit) (u.b16 4) all
    let bytes := (got.map readEntry).flatten
    let next := match got.getLast? with
      | some x => inc 32 x.ordinal
      | none => if all.isEmpty && !beyond start s.evr then s.evr.count else start
    let head := leBytes 4 got.length ++ leBytes 4 next ++ leBytes 4 bytes.length
    if addr = 0 then reply (head ++ bytes) s else dmaReply u 0x0A05 addr bytes head s

/-- EVR_READ (R439). -/
def execEvrRead (m : Ump) (s : State) : Host.Outcome State Fault Refusal :=
  .next (serve 0x0A05 evrRead m s)

end Sys2Proof.Machine
end

