-- ==== Sys2Proof/Machine/Memory.lean ====
section
/-! DEFINITION. DRAM, ECC, page retirement, PASR, configuration banks and check-value units (chapter 13). -/
namespace Sys2Proof.Machine

/-! ### Address mapping (R319, R324, R325) -/

/-- Rows per bank of the installed DRAM. -/
def dramRows (mib : Nat) : Nat := mib * 8

/-- Data rows per bank. -/
def dramDataRows (mib : Nat) : Nat := dramRows mib * 15 / 16

/-- Usable DRAM in MiB. -/
def dramUsable (mib : Nat) : Nat := mib * 15 / 16

/-- The channel of a DRAM address. -/
def dramChannel (a : Nat) : Nat := a / 2 ^ 12 % 4

/-- The channel-local address. -/
def dramLocal (a : Nat) : Nat := a / 2 ^ 14 * 2 ^ 12 + a % 2 ^ 12

/-- Row, bank and column of a channel-local address in a mapping mode, with D data rows per bank. -/
def dramDecode (mode d c : Nat) : Nat × Nat × Nat :=
  match mode with
  | 0 => (c / 2 ^ 15, c / 2 ^ 11 % 16, c % 2 ^ 11)
  | 1 => (c / 2 ^ 15, c / 2 ^ 8 % 16, c / 2 ^ 12 % 8 * 2 ^ 8 + c % 2 ^ 8)
  | _ => (c / 2 ^ 11 % d, c / 2 ^ 11 / d, c % 2 ^ 11)

/-- Row and byte of the check bits of a row and column. -/
def dramCheck (d row col : Nat) : Nat × Nat := (d + row / 16, row % 16 * 128 + col / 32 * 2)

/-- The bank mask bits and segment bits the retained set of R331 needs, its check rows included. -/
def retainedNeed (mode mib : Nat) : Nat × Nat :=
  let seg := dramRows mib / 8
  match mode with
  | 2 => (1, (2 ^ (8191 / seg + 1) - 1) ||| 0x80)
  | _ => (0xFFFF, (2 ^ (511 / seg + 1) - 1) ||| 0x80)

/-- Every location of the retained set is retained by the masks last accepted (R331). -/
def retainedCovered (s : State) : Bool :=
  let n := retainedNeed s.mem.map s.mem.installed
  s.mem.bankMask.toNat &&& n.1 == n.1 && s.mem.segMask.toNat &&& n.2 == n.2

/-- Bits set in the low `w` bits of a number. -/
def popcount (w v : Nat) : Nat := ((List.range w).filter fun i => bit v i).length

/-- Retained MiB (R330). -/
def retainedMiB (s : State) : Nat :=
  s.mem.installed * popcount 16 s.mem.bankMask.toNat * popcount 8 s.mem.segMask.toNat / 128

/-! ### Training and refresh (R320 to R322) -/

/-- A channel of the memory controller. -/
def channel (c : Nat) (s : State) : DramChannel := Tab.getD s.mem.channels c .reset

/-- A channel changed by a function. -/
def onChannel (c : Nat) (f : DramChannel → DramChannel) (s : State) : State :=
  onMem (fun m => { m with channels := Tab.modify m.channels c f }) s

/-- EV_MEM_RETRAIN's payload (R344). -/
def retrainPayload (mask cause flags : Nat) (temp : Int) : Bytes :=
  leBytes 1 mask ++ leBytes 1 cause ++ leBytes 1 flags ++ leBytes 1 0 ++ wrS 2 temp

/-- DRAM_DRIFT_DETECT (R321): 20 degC from the last training, or a further 5 degC after a lasting failure. -/
def execDramDriftDetect (chan : Nat) (temp : Int) (s : State) : Host.Outcome State Fault Refusal :=
  .next (let s := start s
    let c := channel chan s
    let ref := if c.lasting then c.temperature else c.trainedAt
    let limit : Nat := if c.lasting then 20 else 80
    if powered 10 s && c.trained && c.steps == 0 && decide (limit ≤ (temp - ref).natAbs) then
      onChannel chan (fun c => { c with temperature := temp, steps := 400, failed := false }) s
    else s)

/-- A drift retraining step ends: the next one follows, the last one ends the retraining, a failed one is retried, and a
second failure leaves the channel on its last good values (R321). -/
def retrainStep (chan : Nat) (ok : Bool) (s : State) : State :=
  let c := channel chan s
  if c.steps = 0 then s
  else if ok then
    let s := if c.failed then transientFault 0x0904 (retrainPayload (2 ^ chan) 0 0 c.temperature) s else s
    let s := onChannel chan (fun c => { c with steps := c.steps - 1, failed := false }) s
    if c.steps = 1 then
      raise 0x0904 (retrainPayload (2 ^ chan) 0 0 c.temperature)
        (onMem (fun m => { m with drifts := inc 32 m.drifts })
          (onChannel chan (fun c => { c with trainedAt := c.temperature, lasting := false }) s))
    else s
  else if c.failed then
    lastingFault 0x0904 (retrainPayload (2 ^ chan) 0 1 c.temperature) true
      (onChannel chan (fun c => { c with steps := 0, failed := false, lasting := true }) s)
  else onChannel chan (fun c => { c with failed := true }) s

/-- DRAM_RETRAIN_STEP (R321). -/
def execDramRetrainStep (chan : Nat) (ok : Bool) (s : State) : Host.Outcome State Fault Refusal :=
  .next (retrainStep chan ok (start s))

/-- The refresh interval of a bank, ns: 3.906 us over 16 banks at the base rate, half above 85 degC and a quarter above 105 degC
(R322). -/
def refreshInterval (temp : Int) : Nat := if 420 < temp then 61 else if 340 < temp then 122 else 244

/-- DRAM_REFRESH (R322): a bank of a trained channel is refreshed once its interval has passed. -/
def execDramRefresh (chan bank : Nat) (s : State) : Host.Outcome State Fault Refusal :=
  .next (let s := start s
    let c := channel chan s
    if powered 10 s && c.trained && decide (c.refreshAt.getD bank 0 + refreshInterval c.temperature ≤ runTime s) then
      onChannel chan (fun c => { c with refreshAt := c.refreshAt.set bank (runTime s) }) s
    else s)

/-! ### ECC and retirement (R327 to R329) -/

/-- Cells of a page leave the pool: free ones at once, and those that frames hold as the frames leave (R329). -/
def poolShrink (n : Nat) (q : Qme) : Qme :=
  { q with poolSize := q.poolSize - n, poolFree := q.poolFree - n, poolOwed := q.poolOwed + (n - q.poolFree) }

/-- A page is retired: appended to the list, its 16 cells taken from the pool where it lies inside it; or, with the list
full, only reported (R329). -/
def retirePage (page cause : Nat) (inPool : Bool) (s : State) : State :=
  if s.mem.retired.any fun r => r.1 == page then s
  else if 256 ≤ s.mem.retired.length then
    raise 0x0903 (leBytes 4 page ++ leBytes 1 cause ++ leBytes 1 1 ++ leBytes 2 s.mem.retired.length) s
  else
    let t := onMem (fun m => { m with retired := m.retired ++ [(page, cause)] }) s
    let t := if inPool then { t with qme := poolShrink 16 t.qme } else t
    raise 0x0903 (leBytes 4 page ++ leBytes 1 cause ++ leBytes 1 0 ++ leBytes 2 t.mem.retired.length) t

/-- A corrected error: counted, and EV_MEM_ECC_CORRECTED at most once per second (R327). -/
def eccCorrected (addr : Nat) (s : State) : State :=
  let t := onMem (fun m => { m with corrected := inc 64 m.corrected, correctedNow := inc 32 m.correctedNow
                                    pageErrors := Tab.put m.pageErrors (addr / 4096)
                                      (Tab.getD m.pageErrors (addr / 4096) 0 + 1) }) s
  raiseLimited 0x0901 0 (leBytes 4 t.mem.correctedNow ++ leBytes 8 addr) t

/-- A configuration record in a bank: code, length, payload, padded to 4 bytes (R337). -/
def cfgBytes (r : CfgRecord) : Bytes :=
  fit ((4 + r.payload.length + 3) / 4 * 4) (leBytes 2 r.code ++ leBytes 2 r.payload.length ++ r.payload)

/-- The body of a bank. -/
def bankBody (l : List CfgRecord) : Bytes := (l.map cfgBytes).flatten

/-- Bytes 0 to 15 of a bank's header. -/
def bankHead (b : CfgBank) : Bytes :=
  leBytes 4 b.magic ++ leBytes 2 b.format ++ leBytes 2 0 ++ leBytes 4 b.sequence
    ++ leBytes 4 (bankBody b.body).length

/-- The CRC of a bank. -/
def bankCrc (b : CfgBank) : Nat := crc32c (bankHead b ++ bankBody b.body)

/-- A bank is valid (R337). -/
def bankValid (b : CfgBank) : Bool :=
  b.magic == 0x4746435A && b.format == 1 && decide ((bankBody b.body).length ≤ 262112) && b.crc == bankCrc b

/-- A bank: 0 A, 1 B. -/
def bank (n : Nat) (s : State) : CfgBank := if n = 0 then s.mem.bankA else s.mem.bankB

/-- A bank replaced. -/
def setBank (n : Nat) (b : CfgBank) (s : State) : State :=
  onMem (fun m => if n = 0 then { m with bankA := b } else { m with bankB := b }) s

/-- One corrected block of the scrub; the eighth within 24 h retires the page with cause 1 (R328). -/
def scrubCorrected (s : State) (e : Nat × Bool) : State :=
  let t := eccCorrected e.1 s
  if 8 ≤ Tab.getD t.mem.pageErrors (e.1 / 4096) 0 then retirePage (e.1 / 4096) 1 e.2 t else t

/-- One uncorrectable block of the scrub: the page is retired with cause 2 (R329). -/
def scrubBad (s : State) (e : Nat × Bool) : State :=
  retirePage (e.1 / 4096) 2 e.2
    (lastingFault 0x0902 (leBytes 8 e.1 ++ leBytes 1 1) true
      (onMem (fun m => { m with uncLasting := inc 32 m.uncLasting }) s))

/-- PATROL_SCRUB (R328): blocks found corrected and uncorrectable, each with whether it lies in the cell pool, and whether
the pass is complete. -/
def execPatrolScrub (corrected bad : List (Nat × Bool)) (complete : Bool) (s : State) :
    Host.Outcome State Fault Refusal :=
  .next (let s := start s
    if !powered 10 s then s
    else
      let t := bad.foldl scrubBad (corrected.foldl scrubCorrected s)
      if complete then onMem (fun m => { m with scrubs := inc 32 m.scrubs }) t else t)

/-- MRAM_WRITE_RETRY (R332): the rewrite of a granule succeeds or fails lastingly. -/
def execMramWriteRetry (addr : Nat) (ok : Bool) (s : State) : Host.Outcome State Fault Refusal :=
  .next (feltWrite (if ok then .retried else .lasting) addr (start s))

/-! ### Configuration banks (R338, R339) -/

/-- The active bank at boot. -/
def pickBank (a b : CfgBank) : Option Nat :=
  match bankValid a, bankValid b with
  | true, true =>
    let d := (b.sequence + 2 ^ 32 - a.sequence) % 2 ^ 32
    if 1 ≤ d ∧ d ≤ 0x7FFFFFFF then some 1 else some 0
  | true, false => some 0
  | false, true => some 1
  | false, false => none

/-- The cause EV_CFG_BANK_INVALID gives for a bank, none where it is valid or erased (R338, R344). -/
def bankCause (b : CfgBank) : Option Nat :=
  if bankValid b || b.magic == 0 then none
  else if b.magic != 0x4746435A then some 0
  else if b.format != 1 then some 3
  else if 262112 < (bankBody b.body).length then some 2
  else some 1

/-- The bank a commit writes. -/
def commitBank (s : State) : Nat := match s.mem.active with | some 0 => 1 | _ => 0

/-- The sequence a commit writes. -/
def commitSeq (s : State) : Nat :=
  match s.mem.active with
  | none => 1
  | some n => inc 32 (bank n s).sequence

/-- A bank with granule 0 zero. -/
def zeroGranule (b : CfgBank) : CfgBank := { b with magic := 0, format := 0 }

/-- CFG_COMMIT: the shadow as it stands is written into the bank that is not active, whose magic stays zero until the end; or
granule 0 of both banks is to be written as zero (R339, R343). -/
def cfgCommit (u : Ump) (s : State) : Reply :=
  let mode := u.b8 0
  judge ([shortOp u 0 1 4, param (decide (1 < mode)), param (mode == 1 && !u.force)]
      ++ gate 0x0902 true [.bank 0, .bank 1] s
      ++ [(mode == 0 && decide (262112 < (bankBody s.mem.shadow).length), ST.noResource)]) s fun _ =>
    let t := if mode = 1 then s else setBank (commitBank s) ⟨0, 0, commitSeq s, 0, fwVer s, s.mem.shadow⟩ s
    pending u 0x0902 [.bank 0, .bank 1] t

/-- CFG_COMMIT (R339). -/
def execCfgCommit (m : Ump) (s : State) : Host.Outcome State Fault Refusal :=
  .next (serve 0x0902 cfgCommit m s)

/-- The bank write and read-back end: the bank becomes active, or its granule 0 is zeroed again and the commit fails; or both
banks are erased (R339, R343). -/
def cfgWritten (hw : Retry) (readBack : Bool) (s : State) : State :=
  match firstAsync 0x0902 s with
  | none => s
  | some a =>
    let a' := { a with retried := decide (hw = .retried) }
    let s := setAsync a a' (feltWrite hw (0x8000 + commitBank s * 0x40000) s)
    if rd a.payload 0 1 = 1 then
      if hw = .lasting then endAsync a' ST.faultLasting [] s
      else endAsync a' ST.ok (leBytes 4 0xFF ++ leBytes 12 0)
        (onMem (fun m => { m with bankA := zeroGranule m.bankA, bankB := zeroGranule m.bankB, active := none }) s)
    else if hw = .lasting || !readBack then endAsync a' ST.faultLasting [] s
    else
      let n := commitBank s
      let b := { bank n s with magic := 0x4746435A, format := 1 }
      let b := { b with crc := bankCrc b }
      let len := (bankBody b.body).length
      let t := onMem (fun m => { m with active := some n }) (setBank n b s)
      let t := endAsync a' ST.ok
        (leBytes 4 n ++ leBytes 4 b.sequence ++ leBytes 4 len ++ leBytes 4 b.crc) t
      raise 0x0905 (leBytes 4 n ++ leBytes 4 b.sequence ++ leBytes 4 len) t

/-- CFG_BANK_WRITTEN (R339). -/
def execCfgBankWritten (hw : Retry) (readBack : Bool) (s : State) : Host.Outcome State Fault Refusal :=
  .next (cfgWritten hw readBack (start s))

/-- One bank's header in the response of CFG_READ Op 0 (R343). -/
def bankHeader (b : CfgBank) : Bytes :=
  leBytes 4 (b2n (bankValid b)) ++ leBytes 4 b.sequence ++ leBytes 4 (bankBody b.body).length
    ++ leBytes 4 b.writtenBy

/-- The bytes of a bank: its 32-byte header and its body (R337). -/
def bankBytes (b : CfgBank) : Bytes :=
  bankHead b ++ leBytes 4 b.crc ++ leBytes 4 b.writtenBy ++ leBytes 8 0 ++ bankBody b.body

/-- CFG_READ: both headers, or a bank copied to the host (R343). -/
def cfgRead (u : Ump) (s : State) : Reply :=
  let op := u.b8 0
  let n := u.b8 1
  judge ([short u (if op = 0 then 2 else if op = 1 then 16 else 1), param (op == 1 && decide (1 < n)), param (decide (1 < op)),
      param (op == 1 && (badHost (u.b64 8) || u.b64 8 == 0))] ++ gate 0x0903 false [] s
      ++ [(op == 1 && !bankValid (bank n s), ST.badState)]) s fun _ =>
    if op = 0 then
      reply (bankHeader s.mem.bankA ++ bankHeader s.mem.bankB ++ leBytes 1 (s.mem.active.getD 0xFF)) s
    else
      let b := bankBytes (bank n s)
      dmaReply u 0x0903 (u.b64 8) b (leBytes 4 b.length) s

/-- CFG_READ (R343). -/
def execCfgRead (m : Ump) (s : State) : Host.Outcome State Fault Refusal :=
  .next (serve 0x0903 cfgRead m s)

/-! ### Memory information and PASR (R343) -/

/-- The highest of some temperatures; 0 where there is none. -/
def highest : List Int → Int
  | [] => 0
  | t :: r => r.foldl max t

/-- The response of MEM_GET_INFO (R343). -/
def memInfo (s : State) : Bytes :=
  let m := s.mem
  let ch := m.channels.map Prod.snd
  leBytes 4 m.installed ++ leBytes 4 (dramUsable m.installed) ++ leBytes 1 m.map
    ++ leBytes 1 (bitsNat (ch.map (·.trained))) ++ wrS 2 (highest (ch.map (·.temperature)))
    ++ wrS 2 (highest (ch.map (·.trainedAt))) ++ leBytes 2 m.retired.length ++ leBytes 8 m.corrected
    ++ leBytes 4 m.uncTransient ++ leBytes 4 m.uncLasting ++ leBytes 4 m.losses ++ leBytes 4 m.drifts
    ++ leBytes 4 m.colds ++ leBytes 2 m.bankMask.toNat ++ leBytes 1 m.segMask.toNat
    ++ leBytes 1 (b2n (retainedCovered s) + b2n (decide (256 ≤ m.retired.length)) * 2)
    ++ leBytes 4 s.qme.poolSize ++ leBytes 4 m.mramTransient ++ leBytes 4 m.mramLasting ++ leBytes 4 m.scrubs

/-- MEM_GET_INFO answers its record. -/
def memGetInfo (_ : Ump) (s : State) : Reply :=
  judge (gate 0x0901 false [] s) s fun _ => reply (memInfo s) s

/-- MEM_GET_INFO (R343). -/
def execMemGetInfo (m : Ump) (s : State) : Host.Outcome State Fault Refusal :=
  .next (serve 0x0901 memGetInfo m s)

/-- The response of PWR_SET_PASR. -/
def pasrInfo (op : Nat) (s : State) : Bytes :=
  leBytes 1 op ++ leBytes 1 0 ++ leBytes 2 s.mem.bankMask.toNat ++ leBytes 1 s.mem.segMask.toNat ++ leBytes 3 0
    ++ leBytes 4 (retainedMiB s) ++ leBytes 1 (b2n (retainedCovered s))

/-- PWR_SET_PASR: the masks for the next entry to STANDBY or SLEEP (R330, R343). -/
def pwrSetPasr (u : Ump) (s : State) : Reply :=
  let op := u.b8 0
  let bm := u.b16 2
  let sm := u.b8 4
  judge ([shortOp u 0 1 8, param (decide (1 < op)), param (op == 1 && bm != 0 && !bit sm 7)]
      ++ gate 0x0104 false [] s) s fun _ =>
    if op = 0 then reply (pasrInfo 0 s) s
    else
      let t := cfgKeep 0x0104 0 0 u.payload
        (onMem (fun m => { m with bankMask := BitVec.ofNat 16 bm, segMask := BitVec.ofNat 8 sm }) s)
      reply (pasrInfo 1 t) t

/-- PWR_SET_PASR (R343). -/
def execPwrSetPasr (m : Ump) (s : State) : Host.Outcome State Fault Refusal :=
  .next (serve 0x0104 pwrSetPasr m s)

/-! ### Check-value units (R340, R342) -/

/-- A check-value unit. -/
def cvu (n : Nat) (s : State) : Cvu := Tab.getD s.mem.cvus n .reset

/-- A check-value unit changed by a function. -/
def onCvu (n : Nat) (f : Cvu → Cvu) (s : State) : State :=
  onMem (fun m => { m with cvus := Tab.modify m.cvus n f }) s

/-- CVUn_STATE: a short check value uses the low bits, and the upper bits read 0 (R342). -/
def cvuState (c : Cvu) : Word32 := c.state &&& cvMask c.poly

/-- CVUn_RESULT. -/
def cvuResult (c : Cvu) : Word32 := cvuState c ^^^ cvXor c.poly

/-- FINISH: RESULT against EXPECT. A match sets MATCH; a mismatch clears it and sets MISMATCH, which only a write clears
(log entry 9). -/
def cvuCompare (c : Cvu) : Cvu :=
  if cvuResult c = c.expect then { c with matched := true }
  else { c with matched := false, mismatch := true }

/-- EV_CVU_MISMATCH's payload (R344). -/
def cvuPayload (n : Nat) (c : Cvu) : Bytes :=
  leBytes 1 n ++ leBytes 1 c.poly ++ leBytes 2 0 ++ leBytes 4 (cvuResult c).toNat ++ leBytes 4 c.expect.toNat

/-- A write of CVUn_CTL: POLY and IRQ_EN stored, then INIT, then FINISH; a mismatch in the device's own checks (units 1 and 2,
R341) raises EV_CVU_MISMATCH. -/
def cvuCtl (n : Nat) (value : Nat) (s : State) : State :=
  let s := onCvu n (fun c => { c with poly := value % 4, irqEn := bit value 4 }) s
  let s := if bit value 2 then onCvu n (fun c => { c with state := cvInit c.poly }) s else s
  if bit value 3 then
    let c := cvu n s
    let s := onCvu n cvuCompare s
    if cvuResult c != c.expect && (n == 1 || n == 2) then raise 0x0907 (cvuPayload n c) s else s
  else s

/-- CVU_INIT (R342). -/
def execCvuInit (unit : Nat) (value : Word32) (s : State) : Host.Outcome State Fault Refusal :=
  .next (let s := start s
    if powered 1 s then cvuCtl unit (value.toNat ||| 4) s else s)

/-- A write of CVUn_DATA of 1, 2 or 4 bytes; other sizes are no access to it. -/
def cvuData (n : Nat) (data : Bytes) (s : State) : State :=
  if data.length = 1 || data.length = 2 || data.length = 4 then
    onCvu n (fun c => { c with state := cvFeed c.poly c.state data }) s
  else s

/-- CVU_DATA_WRITE (R342). -/
def execCvuDataWrite (unit : Nat) (data : Bytes) (s : State) : Host.Outcome State Fault Refusal :=
  .next (let s := start s
    if powered 1 s then cvuData unit data s else s)

/-- CVU_FINISH (R342). -/
def execCvuFinish (unit : Nat) (value : Word32) (s : State) : Host.Outcome State Fault Refusal :=
  .next (let s := start s
    if powered 1 s then cvuCtl unit (value.toNat ||| 8) s else s)

/-- CVU_RUN: unit 3 over external data; a mismatch is a result (R343). -/
def cvuRun (u : Ump) (s : State) : Reply :=
  let poly := u.b8 0
  let fl := u.b8 1
  judge ([short u 16, param (decide (3 < poly))] ++ gate 0x0904 false [] s) s fun _ =>
    let data := u.data.drop 16
    let init := if bit fl 0 then cvInit poly else BitVec.ofNat 32 (u.b32 4)
    let c : Cvu := { cvu 3 s with poly := poly, state := cvFeed poly init data, expect := BitVec.ofNat 32 (u.b32 8) }
    let c := if bit fl 1 then cvuCompare c else c
    let hit := cvuResult c = c.expect
    let t := onCvu 3 (fun _ => c) s
    let t := if bit fl 1 && bit fl 2 && !decide hit then raise 0x0907 (cvuPayload 3 c) t else t
    reply (leBytes 4 (cvuState c).toNat ++ leBytes 4 (cvuResult c).toNat
      ++ leBytes 4 (if bit fl 1 then (if hit then 1 else 0) else 0xFF) ++ leBytes 4 data.length) t

/-- CVU_RUN (R343). -/
def execCvuRun (m : Ump) (s : State) : Host.Outcome State Fault Refusal :=
  .next (serve 0x0904 cvuRun m s)

/-! ### The recorder's policy (R439), kept in the shadow -/

/-- EVR_SET_POLICY: repeat window, limit and period from the next occurrence; open windows keep their period. -/
def evrSetPolicy (u : Ump) (s : State) : Reply :=
  let op := u.b8 0
  let show_ (op : Nat) (r : Recorder) : Bytes :=
    leBytes 1 op ++ leBytes 1 r.repeatWindow ++ leBytes 1 r.limit ++ leBytes 1 0 ++ leBytes 2 r.period ++ leBytes 2 0
  judge ([shortOp u 0 1 8, param (decide (1 < op)),
      param (op == 1 && (u.b8 1 == 0 || decide (60 < u.b8 1) || decide (u.b8 2 < 4) || decide (64 < u.b8 2)
        || decide (u.b16 4 < 10) || decide (600 < u.b16 4)))] ++ gate 0x0A02 false [.recorder] s) s fun _ =>
    if op = 0 then reply (show_ 0 s.evr) s
    else
      let t := cfgKeep 0x0A02 0 0 u.payload
        (onEvr (fun r => { r with repeatWindow := u.b8 1, limit := u.b8 2, period := u.b16 4 }) s)
      reply (show_ 1 t.evr) t

/-- EVR_SET_POLICY (R439). -/
def execEvrSetPolicy (m : Ump) (s : State) : Host.Outcome State Fault Refusal :=
  .next (serve 0x0A02 evrSetPolicy m s)

/-! ### Generic register writes (R8, R245, R246, R258, R342) -/

/-- A 32-bit aligned write of a BAR0 register. Offsets with a row of their own act as that row. -/
def writeBar0 (o : Nat) (v : Word32) (s : State) : State :=
  match o with
  | 0x10 => hostDoorbell v s
  | 0x14 => devDoorbellClear v s
  | 0x18 => irqMaskWrite v s
  | 0x1C => onMbox (fun m => { m with scratch := v }) s
  | 0x2C => if v.getLsbD 31 then onMbox (fun m => { m with accValid := false }) s else s
  | 0x34 => evtConsWrite v s
  | 0x40 => onEvr (fun r => latch { r with cursor := v.toNat }) s
  | 0x44 => onEvr (fun r => { r with page := v.toNat % 4, next := v.getLsbD 2 }) s
  | _ => s

/-- A write into the slots: bytes of a CMD_SLOT that is not Queued; the other slots belong to the device (R250). -/
def writeSlots (o width : Nat) (v : Word32) (s : State) : State :=
  if 0x1000 ≤ o ∧ o + width ≤ 0x2000 ∧ s.mbox.slots.getD ((o - 0x1000) / 0x100) .free ≠ .queued then
    onMbox (fun m => { m with mem := Cells.writeAll m.mem o (leBytes width v.toNat) }) s
  else s

/-- A 32-bit aligned write of a ring register (R258, R259). -/
def writeBar2 (o : Nat) (v : Word32) (s : State) : State :=
  let r := o / 0x100
  let q := ring r s
  if 34 ≤ r then s
  else match o % 0x100 with
    | 0x00 => if q.enable then s else onRing r (fun q => { q with base := q.base / 2 ^ 32 * 2 ^ 32 + v.toNat }) s
    | 0x04 => if q.enable then s else onRing r (fun q => { q with base := v.toNat * 2 ^ 32 + q.base % 2 ^ 32 }) s
    | 0x08 => if q.enable then s else onRing r (fun q => { q with log2 := v.toNat % 32 }) s
    | 0x0C => if v.getLsbD 0 then ringEnable r v s else ringDisable r v s
    | 0x10 => ringProdWrite r v s
    | 0x14 => ringConsWrite r v s
    | 0x18 => if v.getLsbD 1 then onRing r (fun q => { q with error := false }) s else s
    | _ => s

/-- A check-value unit asks for an interrupt: IRQ_EN and MISMATCH are set (R342). -/
def cvuInterrupt (c : Cvu) : Bool := c.irqEn && c.mismatch

/-- What a read of a check-value unit's register returns: WO fields read 0, and the upper bits of a short check value (R8, R342). -/
def readCvu (n o : Nat) (s : State) : Nat :=
  let c := cvu n s
  match o with
  | 0x00 => c.poly + b2n c.irqEn * 16
  | 0x04 => (cvuState c).toNat
  | 0x0C => (cvuResult c).toNat
  | 0x10 => c.expect.toNat
  | 0x14 => b2n c.matched + b2n c.mismatch * 2
  | _ => 0

/-- A write of a check-value unit's register (R342). -/
def writeCvu (n o width : Nat) (v : Word32) (s : State) : State :=
  match o with
  | 0x00 => cvuCtl n v.toNat s
  | 0x04 => onCvu n (fun c => { c with state := v }) s
  | 0x08 => cvuData n (leBytes width v.toNat) s
  | 0x10 => onCvu n (fun c => { c with expect := v }) s
  | 0x14 => if v.getLsbD 1 then onCvu n (fun c => { c with mismatch := false }) s else s
  | _ => s

end Sys2Proof.Machine
end

