-- ==== Sys2Proof/Machine/Reset.lean ====
section
/-! DEFINITION. Resets, the boot ROM, the wake sequence, limp mode, off-block accesses, the AON clock and AVS
(chapters 17, 12 and 19: R298, R299, R400, R403 to R417, R452, R467, R475, R480). -/
namespace Sys2Proof.Machine

/-! ### What survives -/

/-- The slice of the security group that every reset leaves: OTP, credentials, the vault and the counters; the lifecycle
programmed takes force, and debug is as that lifecycle holds it (R290, R292, R295, R304, R311, R416). -/
def resetSec (aonKept : Bool) (c : Sec) : Sec :=
  let standing := c.otpLifecycle == .blank || c.otpLifecycle == .rma
  { Sec.reset with
    secret := c.secret, rootHash := c.rootHash, serial := c.serial, mgtMac := c.mgtMac
    lifecycle := c.otpLifecycle, otpLifecycle := c.otpLifecycle, bootedLifecycle := c.bootedLifecycle
    certificate := c.certificate
    sealing := if c.otpLifecycle == .rma && c.lifecycle != .rma then Config.rmaSealing c.secret else c.sealing
    debugScope := if standing then 3 else 0
    restricted := standing
    credentials := c.credentials, serials := c.serials
    radius := Tab.mapVals (fun r => { r with dead := (false, false) }) c.radius
    vaultSlots := c.vaultSlots, vaultKeys := c.vaultKeys
    pmksa := if aonKept then c.pmksa else []
    antiRollback := c.antiRollback }

/-- The fleet group over a reset (R446, R454). -/
def resetFleet (f : Fleet) : Fleet :=
  { Fleet.reset with
    id := f.id, floor := f.floor, epoch := f.epoch, previous := f.previous, keys := f.keys
    admissions := f.admissions, staged := f.staged }

/-- Firmware update state over a reset: the slots and the boot control word (R452). -/
def resetFwu (f : Fwu) : Fwu :=
  { Fwu.reset with slotA := f.slotA, slotB := f.slotB, active := f.active, trial := f.trial, tried := f.tried }

/-- The memory group over a reset: what the Felt store holds; the LLT lock word is read (R333, R334). -/
def resetMem (m : Mem) : Mem :=
  { Mem.reset with
    installed := m.installed, retired := m.retired, seconds := m.seconds, cycles := m.cycles
    brownouts := m.brownouts, lltLock := m.lltLock, lltRefuse := m.lltLock, bankA := m.bankA, bankB := m.bankB }

/-- The recorder over a reset: its areas and counters; the writer queue, the windows and the policy are lost
(R421, R424, R439). -/
def resetEvr (r : Recorder) : Recorder :=
  { Recorder.reset with
    count := r.count, records := r.records, permClosed := r.permClosed, permNext := r.permNext
    segment := r.segment, segNext := r.segNext, segStarted := r.segStarted, segFirst := r.segFirst, newest := r.newest
    suppressed := r.suppressed, repeats := r.repeats, lost := r.lost, clears := r.clears
    corrupt := addWrap 32 r.corrupt (r.records.filter fun x => !recordValid x.bytes).length }

/-- Every domain but PD_AON, with the endpoint, back at reset; the Felt store and the OTP survive (R416). -/
def clearCore (aonKept : Bool) (s : State) : State :=
  { State.reset with
    pcie := s.pcie
    power := s.power
    evr := resetEvr s.evr
    radio := { Radio.reset with rdp := s.radio.rdp, llt := s.radio.llt }
    sec := resetSec aonKept s.sec
    fleet := resetFleet s.fleet
    fwu := resetFwu s.fwu
    mem := resetMem s.mem
    dsp := { Dsp.reset with kernels := s.dsp.kernels }
    drz := { Drz.reset with savedCounters := s.drz.savedCounters }
    out := s.out
    pending := s.pending }

/-- The power manager's registers outside PD_AON at reset, those of PD_AON kept (R416). -/
def resetPower (p : Power) : Power :=
  { Power.reset with
    bootSel := p.bootSel, devIdx := p.devIdx
    wakeSource := p.wakeSource, wakePort := p.wakePort, wakeIndex := p.wakeIndex
    wakes := p.wakes, wakeTransient := p.wakeTransient, wakeLasting := p.wakeLasting
    accessFaults := p.accessFaults, limpEntries := p.limpEntries, lastWakeTime := p.lastWakeTime
    aonRc := p.aonRc, xt32Starting := p.xt32Starting, brownoutLatch := p.brownoutLatch
    thermal := p.thermal, temperature := p.temperature, sensor := p.sensor
    faultOut := p.faultOut, avsTarget := p.avsNow, avsNow := p.avsNow, mpxHalt := p.mpxHalt }

/-- The endpoint after a reset that drops the link; the level the host holds PERST_N at stays (R416). -/
def dropLink (c : Pcie) : Pcie := { Pcie.reset with perst := c.perst }

/-- A record of the boot ROM or the PMU: fixed, and written at once, since the writer's core does not run (R428). -/
def recordNow (code : Nat) (payload : Bytes) (s : State) : State :=
  onEvr (judgeOcc ⟨code, payload, true, false, false, true, s.mem.seconds, s.mem.cycles, deviceTime s, []⟩) s

/-- An event to raise once UMP is ready. -/
def report (code : Nat) (payload : Bytes) (recorded fault : Bool) (s : State) : State :=
  onPower (fun p => { p with reports := p.reports ++ [⟨code, payload, recorded, fault⟩] }) s

/-! ### The boot ROM -/

/-- The device halts in stage 0xFF with the code of its fixed record (R246, R298, R299, R318, R320). -/
def bootHalt (code a b : Nat) (s : State) : State :=
  onPower (fun p => { p with stage := 255, bootFault := code })
    (recordNow code (leBytes 2 a ++ leBytes 2 b) s)

/-- An image slot: 0 A, 1 B. -/
def slotOf (n : Nat) (f : Fwu) : ImageSlot := if n = 0 then f.slotA else f.slotB

/-- The cause code of the first check of R298 that rejects an image, 0 where it passes. -/
def imageCause (i : ImageSlot) (antiRollback : Nat) : Nat :=
  if i.cause = 1 then 1 else if i.security < antiRollback then 2 else i.cause

/-- EV_SEC_IMAGE_REJECTED's payload (R317). -/
def rejectedPayload (slot cause security antiRollback : Nat) : Bytes :=
  leBytes 1 slot ++ leBytes 1 cause ++ leBytes 4 security ++ leBytes 4 antiRollback

/-- A slot is rejected at boot: BOOT_STAT.CAUSE, a fixed record, and the event once firmware runs (R298). -/
def rejectSlot (n cause : Nat) (s : State) : State :=
  let pay := rejectedPayload n cause (slotOf n s.fwu).security s.sec.antiRollback
  report 0x0505 pay true false
    (recordNow 0x0505 pay (onPower (fun p => { p with bootCauseCode := cause }) s))

/-- A slot is accepted: its sections load, stage 0x02 (R298, R299). -/
def acceptSlot (n : Nat) (s : State) : State :=
  onPower (fun p => { p with stage := 2, bootSlot := n, image := n, version := (slotOf n s.fwu).version }) s

/-- The other slot is booted in place of the active one (R298, R452). -/
def fellBack (cause : Nat) (s : State) : State :=
  onPower (fun p => { p with fellBack := true, fellCause := cause }) s

/-- The boot control word as the boot ROM leaves it before the checks (R452). -/
def bootControl (s : State) : State :=
  let f := s.fwu
  if f.trial && f.tried then
    fellBack 0 { s with fwu := { f with active := 1 - f.active, trial := false, tried := false } }
  else if f.trial then { s with fwu := { f with tried := true, onTrial := true } }
  else s

/-- Images are checked: the active slot, then the other one; with both rejected the ROM waits for a host image where the
link is up, and halts otherwise (R298, R452). -/
def bootNor (link : Bool) (s : State) : State :=
  let s := bootControl s
  let a := s.fwu.active
  let ca := imageCause (slotOf a s.fwu) s.sec.antiRollback
  if ca = 0 then acceptSlot a s
  else
    let s := rejectSlot a ca s
    let b := 1 - a
    let s := { s with fwu := { s.fwu with active := b, trial := false, tried := false, onTrial := false } }
    let cb := imageCause (slotOf b s.fwu) s.sec.antiRollback
    if cb = 0 then fellBack 1 (acceptSlot b s)
    else
      let s := rejectSlot b cb s
      let t := recordNow 0x00C4 (leBytes 2 (if a = 0 then ca else cb) ++ leBytes 2 (if a = 0 then cb else ca)) s
      onPower (fun p => { p with stage := if link then 7 else 255, bootFault := 0x00C4 }) t

/-- Cold training of the channels: trained; a retry is transient, a lasting failure halts the boot (R320, R436). -/
def trainAll : List (Nat × Retry) → State → Option Nat × State
  | [], s => (none, s)
  | (c, r) :: rest, s =>
    match r with
    | .ok => trainAll rest s
    | .retried =>
      trainAll rest (recordNow 0x00C2 (leBytes 2 c) (onMbox (fun m => { m with transient := inc 32 m.transient }) s))
    | .lasting => (some c, s)

/-- The channels after cold training at a temperature. -/
def trainedChannels (temp : Int) : Tab DramChannel :=
  (List.range 4).map fun c => (c, { DramChannel.reset with trained := true, trainedAt := temp, temperature := temp })

/-- The DRAM does not meet R318: the channels and the density read, Gbit; none where it does. Anything but 2, 4 or 8 GiB of four equal
channels halts the boot. -/
def dramFault (b : Boot) : Option (Nat × Nat) :=
  match b.badDram with
  | some x => some x
  | none => if [2048, 4096, 8192].contains b.installed then none else some (15, b.installed / 512)

/-- The boot after the DRAM is trained: by BOOT_SEL (R417). -/
def bootSource (b : Boot) (s : State) : State :=
  let up := (s.pcie.linkUp || b.link) && !s.pcie.perst
  let s := { s with pcie := { s.pcie with linkUp := up } }
  match s.power.bootSel with
  | 0 => bootNor up s
  | 3 => onPower (fun p => { p with stage := 6 }) (recordNow 0x00C9 (leBytes 2 3) s)
  | _ => onPower (fun p => { p with stage := 7 }) s

/-- Limp mode is entered: PD_AON and PD_CORE alone are powered, and the limp firmware starts (R409). -/
def enterLimp (cause : Nat) (s : State) : State :=
  let t := clearCore true s
  onPower (fun p =>
    { p with state := .run, limp := true, changing := false, target := none, stage := 0, domains := 3, image := 255
             wake := .none, wakeStep := 0, wakeFailed := false, armed := false, slpLow := false
             limpEntries := inc 32 p.limpEntries, limpCause := cause }) t

/-- The boot from a reset release or a cold wake, up to the image checks: an MPX halt latched in PD_AON and a brown-out are
recorded; the oscillator, the known-answer tests and the DRAM are met in turn (R299, R318, R320, R406, R409, R429). -/
def boot (cause : Nat) (b : Boot) (s : State) : State :=
  let s := onPower (fun p => { p with bootCause := cause }) s
  let s := match s.power.mpxHalt with
    | some (core, why) =>
      recordNow 0x0005 (leBytes 1 core ++ leBytes 1 why ++ leBytes 6 0) (onPower (fun p => { p with mpxHalt := none }) s)
    | none => s
  let s := if cause = 1 then
      let n := inc 32 s.mem.brownouts
      recordNow 0x0104 (leBytes 4 n) (onMem (fun m => { m with brownouts := n }) s)
    else s
  if cause < 4 && decide (b.oscillator = .lasting) then enterLimp 2 s
  else
    match b.selfTest with
    | some t => bootHalt 0x00C3 t 0 s
    | none =>
      match dramFault b with
      | some (mask, density) => bootHalt 0x00C1 mask density s
      | none =>
        match trainAll b.training s with
        | (some c, t) => bootHalt 0x00C2 c 0 t
        | (none, t) =>
          bootSource b (onMem (fun m =>
            { m with installed := b.installed, map := if b.map < 3 then b.map else 0, channels := trainedChannels b.temperature }) t)

/-- Domains and slices as a reset release or a cold wake leaves them: the slices of powered domains are STOPPED
(R30, R399). -/
def powerUp (quiet : Bool) (s : State) : State :=
  let st : SliceState := if quiet then .off else .stopped
  onPower (fun p => { p with state := if quiet then .quiet else .run, domains := if quiet then 0x687 else 0x7FF })
    { s with radio := { s.radio with slices := .all { Slice.reset with state := st } } }

/-! ### Resets (R416) -/

/-- The straps sampled at a release (R417). -/
def sampleStraps (b : Boot) (p : Power) : Power := { p with bootSel := b.bootSel % 4, devIdx := b.devIdx % 64 }

/-- A release with the straps sampled: TEST0 high holds the device (R467); else it boots. -/
def release (cause : Nat) (b : Boot) (s : State) : State :=
  if b.test0 then onPower (fun p => { p with held := true, domains := 1 }) s
  else boot cause b (powerUp false (onPower (sampleStraps b) s))

/-- A power-on (0) or brown-out (1) reset: everything, the straps, and the power-cycle count; the brown-out latch is set
by a brown-out and cleared by the loss of VIN_AON (R406, R416). -/
def powerOnReset (cause : Nat) (b : Boot) (s : State) : State :=
  let t := clearCore false s
  let t := { t with pcie := dropLink s.pcie, power := { Power.reset with brownoutLatch := cause == 1 } }
  release cause b (onMem (fun m => { m with cycles := inc 24 m.cycles }) t)

/-- A full reset: every domain with PD_AON's logic, the straps sampled, the link dropped. The brown-out latch stays, as do
the counters cumulative since power-on and an MPX halt due to be written at the next boot (R416, R418, R429). -/
def fullReset (b : Boot) (s : State) : State :=
  let t := clearCore false s
  let p := s.power
  let t := { t with
    pcie := dropLink s.pcie
    power := { Power.reset with
      brownoutLatch := p.brownoutLatch, wakes := p.wakes, wakeTransient := p.wakeTransient
      wakeLasting := p.wakeLasting, accessFaults := p.accessFaults, limpEntries := p.limpEntries
      lastWakeTime := p.lastWakeTime, mpxHalt := p.mpxHalt, avsNow := p.avsNow, avsTarget := p.avsNow
      wakeFrom := p.state } }
  release 2 b t

/-- A device reset: every domain but PD_AON; the link and configuration space are kept, and the straps hold (R416). -/
def deviceReset (b : Boot) (s : State) : State :=
  let t := clearCore true s
  let t := { t with pcie := { s.pcie with held := [] }, power := { resetPower s.power with wakeFrom := s.power.state } }
  boot 3 b (powerUp false t)

/-- POWER_ON_RESET (R416): VIN_AON rises. -/
def execPowerOnReset (boot : Boot) (s : State) : Host.Outcome State Fault Refusal :=
  .next (powerOnReset 0 boot (start s))

/-- VIN_AON_LOSS (R400, R476): the device is OFF; only the Felt store and the OTP hold. -/
def execVinAonLoss (s : State) : Host.Outcome State Fault Refusal :=
  .next (let s := start s
    let t := clearCore false s
    { t with pcie := dropLink s.pcie, power := { Power.reset with state := .off } })

/-- AON_BROWNOUT (R406, R476): in low-power mode, the PMU resets the device. -/
def execAonBrownout (boot : Boot) (s : State) : Host.Outcome State Fault Refusal :=
  .next (let s := start s
    if s.power.state == .sleep && !s.power.held then powerOnReset 1 boot s else s)

/-- A RESET_CTL value: its kind, 0 where the key or the kind is wrong (R246). -/
def resetKind (value : Word32) : Nat :=
  let k := value.toNat % 16
  if value.toNat / 2 ^ 16 = 0xC1A0 ∧ (k = 1 ∨ k = 2) then k else 0

/-- RESET_CTL_DEVICE_RESET (R246, R416). -/
def execResetCtlDeviceReset (value : Word32) (boot : Boot) (s : State) : Host.Outcome State Fault Refusal :=
  .next (let s := start s
    if reachable s && resetKind value == 1 then deviceReset boot s else s)

/-- RESET_CTL_FULL_RESET (R246, R416). -/
def execResetCtlFullReset (value : Word32) (boot : Boot) (s : State) : Host.Outcome State Fault Refusal :=
  .next (let s := start s
    if reachable s && resetKind value == 2 then fullReset boot s else s)

/-- A write of RESET_CTL: the reset of its kind; none where the key or the kind is wrong (R246). -/
def resetCtl (value : Word32) (b : Boot) (s : State) : State :=
  match resetKind value with
  | 1 => deviceReset b s
  | 2 => fullReset b s
  | _ => s

/-- A register write, as its access code gives (R8, R245, R246, R258, R342). Commands come one at a time, so a write and a hardware set
of one bit, or a read and an increment of one field, never meet; each is kept as R9 gives. -/
def registerWrite (space : RegSpace) (o width : Nat) (v : Word32) (b : Boot) (s : State) : State :=
  match space with
  | .bar0 =>
    if !reachable s then s
    else if o = 0x28 ∧ width = 4 then resetCtl v b s
    else if o < 0xC0 then (if width = 4 ∧ o % 4 = 0 then writeBar0 o v s else s)
    else writeSlots o width v s
  | .bar2 => if reachable s && width == 4 && o % 4 == 0 then writeBar2 o v s else s
  | .cvu n => if powered 1 s && decide (n < 4) then writeCvu n o width v s else s

/-- REGISTER_WRITE (R8). -/
def execRegisterWrite (space : RegSpace) (offset width : Nat) (value : Word32) (boot : Boot) (s : State) :
    Host.Outcome State Fault Refusal :=
  .next (registerWrite space offset width value boot (start s))

/-- FUNCTION_LEVEL_RESET (R244): as RESET_CTL with KIND 1. -/
def execFunctionLevelReset (boot : Boot) (s : State) : Host.Outcome State Fault Refusal :=
  .next (let s := start s
    if powered 1 s && s.pcie.linkUp && !s.pcie.perst && !s.power.held then deviceReset boot s else s)

/-- FWU_TRIAL_RESET (R453): due 100 ms after FWU_ACTIVATE. -/
def execFwuTrialReset (boot : Boot) (s : State) : Host.Outcome State Fault Refusal :=
  .next (let s := start s
    if s.power.pendingReset = 1 ∧ s.power.resetAt ≤ runTime s then fullReset boot s else s)

/-- LIFECYCLE_RESET (R291): due 100 ms after an accepted lifecycle token. -/
def execLifecycleReset (boot : Boot) (s : State) : Host.Outcome State Fault Refusal :=
  .next (let s := start s
    if s.power.pendingReset = 2 ∧ s.power.resetAt ≤ runTime s then fullReset boot s else s)

/-- TEST0_HOLD (R467): a power-on, brown-out or full reset is released with TEST0 high. -/
def execTest0Hold (cause : Nat) (s : State) : Host.Outcome State Fault Refusal :=
  .next (let s := start s
    if cause = 2 then fullReset { test0 := true } s
    else if cause < 2 then powerOnReset cause { test0 := true } s
    else s)

/-- MPX_RELEASE (R299): the last section digest matches; STAGE 0x03 and MPX runs. -/
def execMpxRelease (s : State) : Host.Outcome State Fault Refusal :=
  .next (let s := start s
    if s.power.stage = 2 then onPower (fun p => { p with stage := 3 }) s else s)

/-! ### Wake sources (R403, R404) -/

/-- A wake source of R403 is armed: HOST_WAKE_N always; the others as configured, and only GPIO and the AON timer in
SLEEP. -/
def sourceArmed (src : Nat) (s : State) : Bool :=
  let c := s.power.armedCfg.sources
  s.power.armed && match src with
    | 1 => s.power.state == .standby && c.getLsbD 0
    | 2 => s.power.state == .standby && c.getLsbD 1
    | 3 => c.getLsbD 4
    | 4 => s.power.state == .standby && c.getLsbD 3
    | 5 => c.getLsbD 5
    | 6 => true
    | 7 => s.power.state == .standby && c.getLsbD 2
    | _ => false

/-- A qualified trigger: it starts the wake; at the edge of the wake's first trigger the lowest source code is kept; any
later one is ignored (R404, R407). -/
def trigger (src port index : Nat) (same : Bool) (s : State) : State :=
  if !sourceArmed src s || !(s.power.state == .standby || s.power.state == .sleep) then s
  else if s.power.wake == .none then
    onPower (fun p =>
      { p with wakeSource := src, wakePort := port, wakeIndex := index, wakes := inc 32 p.wakes, wake := .waiting
               wakeStep := if p.state = .sleep then 1 else 4, wakeFailed := false, wakeFrom := p.state
               slpLow := false }) s
  else if same && decide (src < s.power.wakeSource) then
    onPower (fun p => { p with wakeSource := src, wakePort := port, wakeIndex := index }) s
  else s

/-- HOST_WAKE_N_WAKE (R403). -/
def execHostWakeNWake (same : Bool) (s : State) : Host.Outcome State Fault Refusal :=
  .next (trigger 6 0 0 same (start s))

/-- GPIO_WAKE (R403, R419): an armed GPIO held at its active level. -/
def execGpioWake (gpio : Nat) (high same : Bool) (s : State) : Host.Outcome State Fault Refusal :=
  .next (let s := start s
    if s.power.armedCfg.gpioMask.getLsbD gpio && high == s.power.armedCfg.gpioPolarity.getLsbD gpio then trigger 3 0 gpio same s else s)

/-- AON_TIMER_WAKE (R403, R419): the set number of seconds has been counted from the arming. -/
def execAonTimerWake (aon : Nat) (same : Bool) (s : State) : Host.Outcome State Fault Refusal :=
  .next (let s := start s
    if s.power.armedCfg.timer * 32768 ≤ aon then trigger 5 0 0 same s else s)

/-- The bytes of a frame that a pattern's mask selects, in ascending offset (R185). -/
def maskedBytes (mask frame : Bytes) : Bytes :=
  ((List.range 128).filter fun i => (mask.getD (i / 8) 0).getLsbD (i % 8)).map fun i => frame.getD i 0

/-- The highest byte a mask selects, plus one. -/
def maskReach (mask : Bytes) : Nat :=
  match ((List.range 128).filter fun i => (mask.getD (i / 8) 0).getLsbD (i % 8)).getLast? with
  | some i => i + 1
  | none => 0

/-- A wake pattern matches a frame (R185). -/
def patternMatches (w : WakePattern) (frame : Bytes) : Bool :=
  w.enable && decide (0 < maskReach w.mask) && decide (maskReach w.mask ≤ frame.length)
    && crc16 (maskedBytes w.mask frame) == w.check

/-- From the match of a frame until forwarding is ready, frames are dropped, and ports with pause or PFC enabled have XOFF
sent (R186). -/
def matchXoff (s : State) : State :=
  [0, 1, 2, 3, 4].foldl (fun t p =>
    match Tab.look t.wire.ports p with
    | none => t
    | some x =>
      if x.state != .up then t
      else
        let mask := if x.cfg.flow = 2 then x.cfg.pfcMask else 1
        let i := if x.cfg.flow = 2 then 30 else 29
        let y := { x with notReady := true, xoffSent := if x.cfg.flow = 0 then 0 else mask
                          counters := if x.cfg.flow = 0 then x.counters
                            else Tab.put x.counters i (inc 64 (Tab.getD x.counters i 0)) }
        let t := { t with wire := { t.wire with ports := Tab.put t.wire.ports p y } }
        if x.cfg.flow = 0 then t else emit (.pause p mask 0xFFFF) t) s

/-- A frame's trigger; the first trigger of a wake has XOFF sent (R186). -/
def frameTrigger (src port index : Nat) (same : Bool) (s : State) : State :=
  let t := trigger src port index same s
  if s.power.wake == .none && t.power.wake != .none then matchXoff t else t

/-- The wake functions of a port in STANDBY: PD_ETH is on and the port is UP (R185, R403). -/
def wakePort (port : Nat) (s : State) : Option Port :=
  if powered 9 s then (Tab.look s.wire.ports port).filter fun p => p.state == .up else none

/-- WAKE_PATTERN_MATCH (R185): the lowest-numbered pattern of the port that matches the frame. -/
def execWakePatternMatch (port : Nat) (frame : Bytes) (same : Bool) (s : State) :
    Host.Outcome State Fault Refusal :=
  .next (let s := start s
    match wakePort port s with
    | none => s
    | some p =>
      match p.patterns.find? fun e => patternMatches e.2 frame with
      | some e => frameTrigger 1 port e.1 same s
      | none => s)

/-- A byte string occurs in a frame. -/
def occursIn (needle : Bytes) : Bytes → Bool
  | [] => needle.isEmpty
  | b :: r => needle == (b :: r).take needle.length || occursIn needle r

/-- The magic packet of a MAC address (R185). -/
def magicBytes (mac : Nat) : Bytes :=
  List.replicate 6 0xFF ++ (List.replicate 16 (beBytes 6 mac)).flatten

/-- MAGIC_PACKET_MATCH (R185). -/
def execMagicPacketMatch (port : Nat) (frame : Bytes) (same : Bool) (s : State) :
    Host.Outcome State Fault Refusal :=
  .next (let s := start s
    match wakePort port s with
    | some p => if p.magic && occursIn (magicBytes p.magicMac) frame then frameTrigger 2 port 0 same s else s
    | none => s)

/-- The low-rate radio's extended address: as set, or derived from the device serial where all zero (R397). -/
def drzOwnExt (s : State) : Nat :=
  let e := s.drz.channel.ext
  if rdBe e 0 8 = 0 then Config.drzAddress s.sec.serial else rdBe e 0 8

/-- Whom a frame is for: 0 the device's own address, 1 broadcast on its PAN, 2 another (R393, R396). -/
def drzDest (f : DrzRx) (s : State) : Nat :=
  let c := s.drz.channel
  if f.pan != c.pan && f.pan != 0xFFFF then 2
  else match f.destExt with
    | some a => if a = drzOwnExt s then 0 else 2
    | none => if f.dest = 0xFFFF then 1 else if f.dest = c.short then 0 else 2

/-- DRIZZLE_WAKE_FRAME (R396): a frame addressed to the device; it is discarded. -/
def execDrizzleWakeFrame (f : DrzRx) (same : Bool) (s : State) : Host.Outcome State Fault Refusal :=
  .next (let s := start s
    if powered 8 s && drzDest f s == 0 then trigger 4 0 0 same s else s)

/-- MGT_HOST_WAKE_FRAME (R403): the frame is discarded. -/
def execMgtHostWakeFrame (index : Nat) (same : Bool) (s : State) : Host.Outcome State Fault Refusal :=
  .next (let s := start s
    if powered 9 s && (index == s.power.devIdx || index == 0xFFFF) then frameTrigger 7 0 0 same s else s)

/-! ### The wake sequence (R407, R408) -/

/-- EV_PWR_WAKE_FAIL's payload (R420). -/
def wakeFailPayload (step lasting outcome : Nat) : Bytes :=
  leBytes 1 step ++ leBytes 1 lasting ++ leBytes 1 outcome

/-- A wake failure: a fixed record, and the event once UMP is ready; a lasting one then sets FAULT_CODE (R407, R408,
R436). -/
def wakeFail (step lasting outcome : Nat) (s : State) : State :=
  let pay := wakeFailPayload step lasting outcome
  let t := report 0x0102 pay true (lasting == 1) (recordNow 0x0102 pay s)
  if lasting = 1 then
    onPower (fun p => { p with wakeLasting := inc 32 p.wakeLasting })
      (onMbox (fun m => { m with lasting := inc 32 m.lasting }) t)
  else
    onPower (fun p => { p with wakeTransient := inc 32 p.wakeTransient })
      (onMbox (fun m => { m with transient := inc 32 m.transient }) t)

/-- A wake that proceeds as a boot from serial NOR: a wake is no reset, so device time recorded in PD_AON, the wake's own
registers and the counters are kept (R230, R331, R408, R416). -/
def coldBoot (b : Boot) (s : State) : State :=
  let quiet := s.power.armedCfg.target == 1
  let t := clearCore true s
  let t := { t with
    pcie := dropLink s.pcie
    clock := { t.clock with recorded := s.clock.recorded }
    mem := { t.mem with colds := s.mem.colds }
    mbox := { t.mbox with lasting := s.mbox.lasting, transient := s.mbox.transient }
    power := { resetPower s.power with
      wake := .resuming, wakeFrom := s.power.wakeFrom, reports := s.power.reports
      pcieWakeLow := true, tripped := s.power.tripped, armedCfg := s.power.armedCfg } }
  boot 4 b (powerUp quiet t)

/-- LOGIC_RDY: PCIE_WAKE_N is pulled low, the domains of the wake target are on, and firmware resumes from DRAM, or boots
from serial NOR where the retained set is not there (R331, R404, R408, R413). -/
def logicReady (b : Boot) (s : State) : State :=
  if s.power.tripped || s.power.coldWake || !retainedCovered s then coldBoot b s
  else
    onPower (fun p =>
      { p with wake := .resuming, wakeStep := 0, wakeFailed := false, armed := false, pcieWakeLow := true, stage := 3
               domains := if p.armedCfg.target = 1 then 0x687 else 0x7FF }) s

/-- A step's ready signal: on its retry the fault is transient; the next step begins, and the last ends the sequence
(R407). -/
def wakeReady (b : Boot) (s : State) : State :=
  if s.power.wake != .waiting then s
  else
    let k := s.power.wakeStep
    let s := if s.power.wakeFailed then wakeFail k 0 0 s else s
    if k < 5 then onPower (fun p => { p with wakeStep := k + 1, wakeFailed := false }) s
    else logicReady b s

/-- WAKE_STEP_READY (R407). -/
def execWakeStepReady (boot : Boot) (s : State) : Host.Outcome State Fault Refusal :=
  .next (wakeReady boot (start s))

/-- The second failure of a wake step (R408). -/
def wakeLasting (b : Boot) (s : State) : State :=
  match s.power.wakeStep with
  | 1 =>
    onPower (fun p => { p with wake := .none, wakeStep := 0, wakeFailed := false, faultOut := true, slpLow := true })
      (wakeFail 1 1 1 s)
  | 2 => enterLimp 0 (wakeFail 2 1 2 s)
  | 3 => enterLimp 1 (wakeFail 3 1 2 s)
  | 4 =>
    let t := report 0x0904 (retrainPayload 15 1 0 b.temperature) false false (wakeFail 4 1 3 s)
    onPower (fun p => { p with wakeStep := 5, wakeFailed := false, coldWake := true })
      (onMem (fun m => { m with colds := inc 32 m.colds, channels := trainedChannels b.temperature }) t)
  | _ =>
    let t := wakeFail 5 1 4 s
    let reps := t.power.reports
    let n := t.mbox.lasting
    let u := fullReset b t
    onPower (fun p => { p with reports := reps ++ p.reports }) (onMbox (fun m => { m with lasting := n }) u)

/-- A step's timeout: the first schedules the retry, the second is lasting (R407, R408). -/
def wakeTimeout (b : Boot) (s : State) : State :=
  if s.power.wake != .waiting then s
  else if s.power.wakeFailed then wakeLasting b s
  else onPower (fun p => { p with wakeFailed := true, wake := .delay }) s

/-- WAKE_STEP_TIMEOUT (R408). -/
def execWakeStepTimeout (boot : Boot) (s : State) : Host.Outcome State Fault Refusal :=
  .next (wakeTimeout boot (start s))

/-- WAKE_RETRY_DELAY_EXPIRY (R407): the step is tried again. -/
def execWakeRetryDelayExpiry (s : State) : Host.Outcome State Fault Refusal :=
  .next (let s := start s
    if s.power.wake == .delay then onPower (fun p => { p with wake := .waiting }) s else s)

/-! ### Device time over a sleep (R230) -/

/-- Elapsed nanoseconds of an AON count: count x 30,517.578125. -/
def aonNs (count : Nat) : Nat := count * 1953125 / 64

/-- Device time set as one number. -/
def setTime (t : Nat) (c : Clock) : Clock :=
  { c with upper := t / 2 ^ 32 % 2 ^ 32, ns := t % 2 ^ 32, wrapPending := false }

/-- Device time restored on wake; the servo is FREE, and the first step has its allowance (R230). -/
def restoreTime (count : Nat) (s : State) : State :=
  let span := aonNs count
  onClock (fun c =>
    { setTime ((c.recorded + span) % 2 ^ 64) c with
      frac := 0, servo := .free, slew := 0, slewFrac := 0, good := 0
      allowance := some (span * (if s.power.aonRc then 30000000 else 100000) / 1000000000) }) s

/-! ### Limp mode (R409) -/

/-- Events that waited for UMP are raised: those recorded already are only delivered (R298, R407, R408). -/
def raiseReports (s : State) : State :=
  let reps := s.power.reports
  reps.foldl (fun t r =>
      let t := if r.recorded then deliver ⟨r.code, 0, 0, r.payload, none⟩ t else raise r.code r.payload t
      if r.fault then setFault r.code r.payload t else t)
    (onPower (fun p => { p with reports := [] }) s)

/-- LIMP_FIRMWARE_READY (R409): STAGE 0x05 and EV_PWR_LIMP; waiting commands are served, and every ring is stopped (R251,
R262). -/
def execLimpFirmwareReady (aon : Nat) (s : State) : Host.Outcome State Fault Refusal :=
  .next (let s := start s
    if !s.power.limp || s.power.stage != 0 then s
    else
      let woke := s.power.limpCause != 2
      let t := onPower (fun p => { p with stage := 5, faultOut := p.faultOut && !woke }) s
      let t := if woke then restoreTime aon t else onClock (fun c => { c with servo := .free }) t
      let t := raise 0x0105 (leBytes 1 t.power.limpCause) t
      let t := raiseReports t
      drain t.mbox.cmdQueue t)

/-! ### Off-block accesses (R412) -/

/-- EV_ACCESS_OFF_BLOCK's payload (R420). -/
def offBlockPayload (s : State) : Bytes := leBytes 4 (accessFault s) ++ leBytes 4 s.mbox.accCount

/-- An access to a block that is off: ACCESS_FAULT, its counters, and its event at most once per second (R412). -/
def offBlock (domain addr src : Nat) (write : Bool) (s : State) : State :=
  if powered domain s || !powered 1 s || (src == 0 && !reachable s) then s
  else
    let t := onMbox (fun m => { m with accAddr := addr % 2 ^ 28, accSrc := src % 4, accWrite := write, accValid := true
                                       accCount := inc 32 m.accCount }) s
    let t := onPower (fun p => { p with accessFaults := inc 32 p.accessFaults }) t
    let t := if write then t else emit (.read 0x0FF00FF0) t
    if t.mbox.limited.contains (0x0103, 0) then t
    else onMbox (fun m => { m with accCount := 0 }) (raiseLimited 0x0103 0 (offBlockPayload t) t)

/-- ACCESS_OFF_BLOCK (R11, R412). -/
def execAccessOffBlock (domain addr src : Nat) (write : Bool) (s : State) : Host.Outcome State Fault Refusal :=
  .next (offBlock domain addr src write (start s))

/-! ### The AON clock, AVS and the heartbeat -/

/-- XT32_LOSS (R415): PD_AON moves to the RC oscillator; the watch applies once the crystal has been taken. -/
def execXt32Loss (s : State) : Host.Outcome State Fault Refusal :=
  .next (let s := start s
    if powered 0 s && !s.power.xt32Starting then onPower (fun p => { p with aonRc := true }) s else s)

/-- XT32_STARTED (R480): PD_AON moves to the crystal. -/
def execXt32Started (s : State) : Host.Outcome State Fault Refusal :=
  .next (let s := start s
    if s.power.state != .off && s.power.xt32Starting then
      onPower (fun p => { p with aonRc := false, xt32Starting := false }) s
    else s)

/-- XT32_START_TIMEOUT (R480): PD_AON stays on the RC oscillator. -/
def execXt32StartTimeout (s : State) : Host.Outcome State Fault Refusal :=
  .next (let s := start s
    if s.power.state != .off && s.power.xt32Starting then
      onPower (fun p => { p with aonRc := true, xt32Starting := false }) s
    else s)

/-- The distance of two targets. -/
def apart (a b : Nat) : Nat := if a < b then b - a else a - b

/-- AVS_PMBUS_STEP (R475): one write of VOUT_COMMAND, the first one whole, later ones a step of 5 mV, at most one per 100 us. -/
def execAvsPmbusStep (target : Nat) (ack : Bool) (s : State) : Host.Outcome State Fault Refusal :=
  .next (let s := start s
    if powered 1 s && !s.power.avsRetry && decide (130 ≤ target) && decide (target ≤ 170)
        && (s.power.avsNow == 0 || (apart target s.power.avsNow == 1 && decide (s.power.avsAt + 100000 ≤ runTime s))) then
      onPower (fun p => { p with avsTarget := target, avsNow := if ack then target else p.avsNow, avsRetry := !ack
                                 avsAt := runTime s }) s
    else s)

/-- EV_PWR_THERMAL's payload (R420). -/
def thermalPayload (level : Nat) (s : State) : Bytes :=
  leBytes 1 level ++ leBytes 1 s.power.sensor ++ wrS 2 s.power.temperature

/-- HEARTBEAT_TICK (R246): it counts while firmware or the limp firmware runs, and freezes when MPX halts. -/
def execHeartbeatTick (s : State) : Host.Outcome State Fault Refusal :=
  .next (let s := start s
    if powered 1 s && (s.power.stage == 3 || s.power.stage == 4 || s.power.stage == 5)
        && s.power.mpxHalted != 3 then
      onMbox (fun m => { m with heartbeat := inc 32 m.heartbeat }) s
    else s)

end Sys2Proof.Machine
end

