-- ==== Sys2Proof/Machine/Queue.lean ====
section
/-! DEFINITION. Queues, shapers, policers, gates and samplers (chapter 08). -/
namespace Sys2Proof.Machine

/-- The queueing group changed by a function. -/
def onQme (f : Qme → Qme) (s : State) : State := { s with qme := f s.qme }

/-- Cells return to the DRAM pool; those of retired pages do not (R329). -/
def poolReturn (n : Nat) (q : Qme) : Qme := { q with poolFree := q.poolFree + (n - q.poolOwed), poolOwed := q.poolOwed - n }

/-! ### Queues (R205 to R208) -/

/-- Kind of a queue ID: 0 station, 1 BSS group, 2 wired, 3 host punt, 4 Drizzle, 5 MGT FIFO (R205). -/
def queueKind (q : Nat) : Nat :=
  if q < 16384 then 0 else if q < 16432 then 1 else if q < 16464 then 2
  else if q < 16480 then 3 else if q < 16488 then 4 else 5

/-- A queue ID that exists (R205). -/
def queueId (q : Nat) : Bool := decide (q < 16489)

/-- Default limit of a kind of queue in cells (R207). -/
def defaultLimit : Nat → Nat
  | 0 => 2048
  | 3 => 512
  | 5 => 256
  | _ => 1024

/-- A queue before any setting or frame (R207, R225). -/
def QueueInfo.default (q : Nat) : QueueInfo where
  limit := defaultLimit (queueKind q)
  marked := defaultLimit (queueKind q) / 2
  sojourn := false
  target := 5
  interval := 100
  above := none
  dropping := false
  count := 0
  next := 0
  depth := 0
  peak := 0
  frames := []
  deficit := 0
  nIn := 0
  nOut := 0
  nTail := 0
  nMarked := 0
  nPool := 0
  nSojourn := 0
  nOversize := 0
  nOverrun := 0
  closedNs := 0
  closedAt := none

/-- A queue. -/
def queue (q : Nat) (s : State) : QueueInfo := Tab.getD s.qme.queues q (.default q)

/-- A queue changed by a function. -/
def onQueue (q : Nat) (f : QueueInfo → QueueInfo) (s : State) : State :=
  onQme (fun m => { m with queues := Tab.put m.queues q (f (queue q s)) }) s

/-- Cells of a frame of a length (R206). -/
def cellsOf (len : Nat) : Nat := (len + 255) / 256

/-- Queue ID of wired queue `i` of a port. -/
def wiredQueue (port i : Nat) : Nat := 16432 + port * 8 + i

/-- Queue ID of the egress queue of a port: the MGT FIFO for port 4. -/
def portQueue (port i : Nat) : Nat := if port = 4 then 16488 else wiredQueue port i

/-- A port. -/
def port (p : Nat) (s : State) : Port := Tab.getD s.wire.ports p (.reset (p == 4))

/-- A port changed by a function. -/
def onPort (p : Nat) (f : Port → Port) (s : State) : State :=
  { s with wire := { s.wire with ports := Tab.put s.wire.ports p (f (port p s)) } }

/-- Raw TIME_NS (R228). -/
def rawTime (s : State) : Nat := s.clock.ns

/-- The gates of a port; with no list every gate is open (R219). -/
def gates (p : Nat) (s : State) : Gates := Tab.getD s.qme.gates p ⟨none, none, 0, 0xFF⟩

/-- The gates of a port changed by a function. -/
def onGates (p : Nat) (f : Gates → Gates) (s : State) : State :=
  onQme (fun m => { m with gates := Tab.put m.gates p (f (gates p s)) }) s

/-- The gate of a queue is closed: only wired queues have gates (R219). -/
def gateClosed (q : Nat) (s : State) : Bool :=
  queueKind q == 2 && !bit (gates ((q - 16432) / 8) s).open_ ((q - 16432) % 8)

/-- A queue is stopped by a pause or PFC frame (R177). -/
def pfcStop (q : Nat) (s : State) : Bool :=
  match queueKind q with
  | 2 => let p := port ((q - 16432) / 8) s; p.paused || bit p.pfcStopped ((q - 16432) % 8)
  | 5 => (port 4 s).paused
  | _ => false

/-- Gate-closed time of a wired queue, counted up to now or started (R220). -/
def settleClosed (q : Nat) (s : State) : State :=
  let i := queue q s
  let waits := decide (0 < i.depth) && gateClosed q s
  match i.closedAt with
  | none => if waits then onQueue q (fun i => { i with closedAt := some (runTime s) }) s else s
  | some t =>
    onQueue q (fun i => { i with closedNs := addWrap 64 i.closedNs (runTime s - t)
                                 closedAt := if waits then some (runTime s) else none }) s

/-- Gate-closed time of the eight queues of a port. -/
def settlePort (p : Nat) (s : State) : State :=
  (List.range 8).foldl (fun t i => settleClosed (wiredQueue p i) t) s

/-- EV_QUE_POOL_LOW where free cells are below 5 % of the pool (R227). -/
def poolLow (s : State) : State :=
  if s.qme.poolFree * 20 < s.qme.poolSize then
    raiseLimited 0x0703 0 (leBytes 4 s.qme.poolFree ++ leBytes 4 s.qme.poolDropNow) s
  else s

/-- The first of R207's tests that a frame fails: 0 none, 1 tail, 2 marked, 3 pool. -/
def enterTest (q cells : Nat) (marked dram : Bool) (s : State) : Nat :=
  let i := queue q s
  if i.limit < i.depth + cells then 1
  else if marked && decide (i.marked < i.depth + cells) then 2
  else if dram && decide (s.qme.poolFree < cells) then 3
  else 0

/-- A dropped frame is counted in its queue's counter (R207). -/
def countEnterDrop (q test : Nat) (s : State) : State :=
  match test with
  | 1 => onQueue q (fun i => { i with nTail := inc 32 i.nTail }) s
  | 2 => onQueue q (fun i => { i with nMarked := inc 32 i.nMarked }) s
  | _ => poolLow (onQueue q (fun i => { i with nPool := inc 32 i.nPool })
      (onQme (fun m => { m with poolDropNow := inc 32 m.poolDropNow }) s))

/-- Cells enter a queue; DRAM cells come from the pool (R206, R207). -/
def enterCells (q cells : Nat) (dram : Bool) (s : State) : State :=
  let t := onQueue q (fun i =>
    { i with depth := i.depth + cells, peak := max i.peak (i.depth + cells), nIn := inc 64 i.nIn }) s
  if dram then poolLow (onQme (fun m => { m with poolFree := m.poolFree - cells }) t) else t

/-- Cells leave a queue. -/
def leaveCells (q cells : Nat) (s : State) : State :=
  onQueue q (fun i => { i with depth := i.depth - cells, nOut := inc 64 i.nOut }) s

/-- Cells are freed: to the packet SRAM or the pool (R206). -/
def freeCells (sram : Bool) (cells : Nat) (s : State) : State :=
  if sram then { s with wire := { s.wire with sramFree := s.wire.sramFree + cells } }
  else onQme (poolReturn cells) s

/-! ### Shapers (R210 to R215) -/

/-- A BSS group queue's or station's queue holds a frame; a BSS also covers the stations linked to it (R210). -/
def targetHolds (t : ShaperTarget) (s : State) : Bool :=
  match t.1 with
  | 0 => match Tab.look s.air.stations t.2 with
    | some x => !x.queue.isEmpty
    | none => false
  | 1 => decide (0 < (queue (16384 + t.2) s).depth)
      || s.air.stations.any fun e => e.2.links.toList.contains t.2 && !e.2.queue.isEmpty
  | 2 => decide (0 < (queue (16432 + t.2) s).depth)
  | _ => (List.range 8).any fun i => decide (0 < (queue (wiredQueue t.2 i) s).depth)

/-- The activity check of one shaper (R213). -/
def checkActive (s : State) (x : Shaper) : Shaper :=
  let holds := x.attached.any fun t => targetHolds t s
  if holds == x.active then x else { x with active := holds, credit := min x.credit 0 }

/-- The activity check at the end of a cycle in which queues changed (R214). -/
def settleShapers (s : State) : State :=
  onQme (fun m => { m with shapers := Tab.mapVals (checkActive s) m.shapers }) s

/-- The shaper an object is attached to (R210). -/
def shaperOf (t : ShaperTarget) (s : State) : Option (Nat × Shaper) :=
  s.qme.shapers.find? fun e => e.2.attached.contains t

/-- The shapers that cover a wired queue of a port (R210). -/
def wiredShapers (p i : Nat) (s : State) : List (Nat × Shaper) :=
  ([shaperOf (2, p * 8 + i) s, shaperOf (3, p) s]).filterMap id

/-- Every shaper that covers a wired queue has credit above zero (R208). -/
def wiredCredit (p i : Nat) (s : State) : Bool := (wiredShapers p i s).all fun e => decide (0 < e.2.credit)

/-- A charge to the shaper of an object (R211). -/
def charge (t : ShaperTarget) (amount : Shaper → Int) (s : State) : State :=
  match shaperOf t s with
  | none => s
  | some (n, x) => onQme (fun m => { m with shapers := Tab.put m.shapers n { x with credit := x.credit - amount x } }) s

/-- The amount of a frame of a byte shaper: its bytes and the overhead; an airtime shaper takes none (R211). -/
def byteCharge (len : Nat) (x : Shaper) : Int := if x.cfg.unit = 0 then (len : Int) + x.cfg.overhead else 0

/-- The amount of an airtime share (R211). -/
def airCharge (us : Nat) (x : Shaper) : Int := if x.cfg.unit = 1 then (us : Int) else 0

/-- Attach and detach requests applied in order. -/
def applyAttach (l : List (Bool × ShaperTarget)) (a : List ShaperTarget) : List ShaperTarget :=
  l.foldl (fun a e => if e.1 then a ++ [e.2] else a.filter (· != e.2)) a

/-- The objects attached once every accepted request has applied (R492). -/
def attachedTo (x : Shaper) : List ShaperTarget := applyAttach x.dueAttach x.attached

/-- The settings last accepted (R492). -/
def shaperCfg (x : Shaper) : ShaperCfg := x.due.getD x.cfg

/-- One refill's amount in millionths of a byte or microsecond (R212). -/
def refillAmount (c : ShaperCfg) : Nat := if c.unit = 0 then c.rate * c.interval * 125 else c.rate * c.interval

/-- The settings and attachments due at a refill: a change of unit and an attach set the credit to zero (R215). -/
def shaperDue (x : Shaper) : Shaper :=
  let c := shaperCfg x
  let zero := c.unit != x.cfg.unit || x.dueAttach.any fun e => e.1
  { x with cfg := c, due := none, attached := attachedTo x, dueAttach := []
           credit := if zero then 0 else x.credit, remainder := if zero then 0 else x.remainder }

/-- The refill: rate by interval is added, the remainder carried, the credit capped at the burst (R212). -/
def shaperFill (x : Shaper) : Shaper :=
  let total := x.remainder + refillAmount x.cfg
  let credit := min (x.credit + (total / 1000000 : Nat)) (x.cfg.burst : Int)
  { x with credit := credit, remainder := total % 1000000, lastCredit := credit }

/-- A refill of a shaper in the order of R214. -/
def shaperRefill (n : Nat) (s : State) : State :=
  match Tab.look s.qme.shapers n with
  | none => s
  | some x => settleShapers (onQme (fun m => { m with shapers := Tab.put m.shapers n (shaperFill (shaperDue x)) }) s)

/-- SHAPER_REFILL (R212). -/
def execShaperRefill (shaper : Nat) (s : State) : Host.Outcome State Fault Refusal :=
  .next (shaperRefill shaper (start s))

/-- The object of QUE_SET_SHAPER exists (R226). -/
def targetExists (t : ShaperTarget) (s : State) : Bool :=
  match t.1 with
  | 0 => (Tab.look s.air.stations t.2).isSome
  | 1 => (Tab.look s.air.bss t.2).isSome
  | 2 => decide (t.2 < 32)
  | 3 => decide (t.2 < 4)
  | _ => false

/-- The level of an object's kind (R210). -/
def targetLevel (kind : Nat) : Nat := if kind = 0 ∨ kind = 2 then 1 else 2

/-- The settings a QUE_SET_SHAPER carries. -/
def shaperArgs (u : Ump) : ShaperCfg :=
  ⟨u.b8 3, u.b32 4, u.b32 8, u.b16 12, rdS u.data 14 1, u.b8 15⟩

/-- The settings are out of range (R212, R226). -/
def shaperArgsBad (c : ShaperCfg) : Bool :=
  decide (1 < c.unit) || c.level == 0 || decide (2 < c.level) || c.interval == 0 || decide (1000 < c.interval)
  || decide (c.overhead < -32)
  || (if c.unit = 0 then decide (c.rate < 64) || decide (100000000 < c.rate) || decide (c.burst < 64)
        || decide (16777216 < c.burst)
      else decide (c.rate < 1000) || decide (1000000 < c.rate) || decide (c.burst < 10) || decide (1000000 < c.burst))
  || decide (c.burst * 1000000 < refillAmount c)

/-- Bytes 0 to 15 of a shaper's response: the values last accepted (R492). -/
def shaperBytes (n op : Nat) (c : Option ShaperCfg) : Bytes :=
  let c := c.getD ⟨0, 0, 0, 10, 0, 0⟩
  leBytes 2 n ++ leBytes 1 op ++ leBytes 1 c.unit ++ leBytes 4 c.rate ++ leBytes 4 c.burst ++ leBytes 2 c.interval
    ++ wrS 1 c.overhead ++ leBytes 1 c.level

/-- The response of QUE_SET_SHAPER (R226). -/
def shaperReply (u : Ump) (s : State) : Reply :=
  let n := u.b16 0
  let x := Tab.look s.qme.shapers n
  reply (shaperBytes n (u.b8 2) (x.map shaperCfg) ++ field u.data 16 4 ++ wrS 4 ((x.map (·.lastCredit)).getD 0)
    ++ leBytes 2 ((x.map fun x => (attachedTo x).length).getD 0)) s

/-- A shaper changed by a function. -/
def onShaper (n : Nat) (f : Shaper → Shaper) (s : State) : State :=
  onQme (fun m => { m with shapers := Tab.modify m.shapers n f }) s

/-- Records of a shaper in the shadow: its set, or its attach of an object. -/
def shaperRecord (n : Nat) (op : Nat) (r : CfgRecord) : Bool :=
  r.code == 0x0701 && rd r.payload 0 2 == n && rd r.payload 2 1 == op

/-- An attach record of an object. -/
def attachRecord (t : ShaperTarget) (r : CfgRecord) : Bool :=
  r.code == 0x0701 && rd r.payload 2 1 == 3 && rd r.payload 16 1 == t.1 && rd r.payload 18 2 == t.2

/-- QUE_SET_SHAPER (R215, R226). -/
def queSetShaper (u : Ump) (s : State) : Reply :=
  let n := u.b16 0
  let op := u.b8 2
  let x := Tab.look s.qme.shapers n
  let cur : List ShaperTarget := (x.map attachedTo).getD []
  let t : ShaperTarget := (u.b8 16, u.b16 18)
  let g := gate 0x0701 false [] s
  judge [shortOp u 2 4 20, param (decide (4095 < n)), param (decide (4 < op)),
      param ((op == 3 || op == 4) && !targetExists t s)] s fun _ =>
    match op with
    | 0 => judge g s fun _ => shaperReply u s
    | 1 =>
      let c := shaperArgs u
      judge ([param (shaperArgsBad c), param (c.unit == 1 && cur.any fun t => decide (1 < t.1)),
          param (!cur.isEmpty && (x.map fun x => (shaperCfg x).level) != some c.level)] ++ g) s fun _ =>
        let s1 := match x with
          | none => onQme (fun m => { m with shapers := Tab.put m.shapers n ⟨c, none, 0, 0, 0, false, [], []⟩ }) s
          | some _ => onShaper n (fun x => { x with due := some c }) s
        shaperReply u (cfgKeepIf (shaperRecord n 1) 0x0701 u.payload s1)
    | 2 =>
      judge (g ++ [(!cur.isEmpty, ST.badState)]) s fun _ =>
        shaperReply u (cfgDrop (fun r => shaperRecord n 1 r)
          (onQme (fun m => { m with shapers := Tab.del m.shapers n }) s))
    | _ =>
      let c := (x.map shaperCfg).getD ⟨0, 0, 0, 0, 0, 0⟩
      let held := s.qme.shapers.any fun e => (attachedTo e.2).contains t
      judge ([param (x.isNone || u.b8 15 != c.level || targetLevel t.1 != c.level),
          param (c.unit == 1 && decide (1 < t.1))] ++ g
          ++ [(if op = 3 then held else !cur.contains t, ST.badState)]) s fun _ =>
        let s1 := onShaper n (fun x => { x with dueAttach := x.dueAttach ++ [(op == 3, t)] }) s
        shaperReply u (if op = 4 then cfgDrop (attachRecord t) s1
          else if t.1 = 0 then s1 else cfgKeepIf (attachRecord t) 0x0701 u.payload s1)

/-- QUE_SET_SHAPER (R215). -/
def execQueSetShaper (m : Ump) (s : State) : Host.Outcome State Fault Refusal :=
  .next (serve 0x0701 queSetShaper m s)

/-- An object that is removed is detached from its shaper at once (DEDUCED from R210, R274). -/
def detachObject (t : ShaperTarget) (s : State) : State :=
  cfgDrop (attachRecord t) (onQme (fun m => { m with shapers := Tab.mapVals (fun x =>
    { x with attached := x.attached.filter (· != t), dueAttach := x.dueAttach.filter fun e => e.2 != t }) m.shapers }) s)

/-! ### Policers (R216 to R218) -/

/-- The settings of a policer last accepted (R492). -/
def policerCfg (p : Policer) : PolicerCfg := p.due.getD p.cfg

/-- A refill of one bucket: kbit/s in one microsecond is rate / 8000 bytes; the remainder is carried (R216). -/
def bucketFill (rate cap level remain : Nat) : Nat × Nat :=
  let total := remain + rate
  (min (level + total / 8000) cap, total % 8000)

/-- POLICER_REFILL's effect: the settings due, then both buckets (R216). -/
def policerFill (p : Policer) : Policer :=
  let c := policerCfg p
  let a := bucketFill c.cir c.cbs p.tc p.rem.1
  let b := bucketFill c.pir c.pbs p.tp p.rem.2
  { p with cfg := c, due := none, tc := a.1, tp := b.1, rem := (a.2, b.2) }

/-- A policer changed by a function. -/
def onPolicer (n : Nat) (f : Policer → Policer) (s : State) : State :=
  onQme (fun m => { m with policers := Tab.modify m.policers n f }) s

/-- POLICER_REFILL (R216). -/
def execPolicerRefill (policer : Nat) (s : State) : Host.Outcome State Fault Refusal :=
  .next (onPolicer policer policerFill (start s))

/-- The colour of a packet of a size, and the buckets after it (R216, RFC 2698): 0 green, 1 yellow, 2 red. -/
def colourOf (p : Policer) (size input : Nat) : Nat × Policer :=
  let aware := bit p.cfg.mode 0
  if (aware && input == 2) || decide (p.tp < size) then (2, p)
  else if (aware && input == 1) || decide (p.tc < size) then (1, { p with tp := p.tp - size })
  else (0, { p with tc := p.tc - size, tp := p.tp - size })

/-- The input colour of a packet no policer has coloured: from its DSCP, green where it is not IP (R217). -/
def dscpColour (dscp : Option Nat) : Nat :=
  match dscp with
  | some d => if [12, 20, 28, 36].contains d then 1 else if [14, 22, 30, 38].contains d then 2 else 0
  | none => 0

/-- What a policer's action for a colour is: 0 pass, 1 mark, 2 drop (R217). -/
def policerAction (p : Policer) (colour : Nat) : Nat :=
  match colour with
  | 0 => 0
  | 1 => p.cfg.yellow
  | _ => p.cfg.red

/-- The packet counted under the colour it leaves with (R217). -/
def policerCount (action colour : Nat) (p : Policer) : Policer :=
  if action = 0 then { p with green := inc 64 p.green }
  else
    let p := if colour = 1 then { p with yellow := inc 64 p.yellow } else { p with red := inc 64 p.red }
    if action = 2 then { p with dropped := inc 64 p.dropped } else p

/-- A packet meets a policer: the colour it carries on with, or none where it is dropped (R217). A policer that is not
set up passes it unchanged. -/
def police (n size input : Nat) (s : State) : Option Nat × State :=
  match Tab.look s.qme.policers n with
  | none => (some input, s)
  | some p =>
    let r := colourOf p size input
    let act := policerAction p r.1
    let s := onQme (fun m => { m with policers := Tab.put m.policers n (policerCount act r.1 r.2) }) s
    (if act = 2 then none else some (if act = 0 then 0 else r.1), s)

/-- The policer attached to a source: kind 1 station, 2 port (R218). -/
def sourcePolicer (src : Nat × Nat) (s : State) : Option Nat :=
  (s.qme.policers.find? fun e => e.2.sources.contains src).map Prod.fst

/-- The settings a QUE_SET_POLICER carries. -/
def policerArgs (u : Ump) : PolicerCfg :=
  ⟨u.b8 3 % 2, u.b32 4, u.b32 8, u.b32 12, u.b32 16, u.b8 20, u.b8 21⟩

/-- The settings are out of range (R216, R226). -/
def policerArgsBad (c : PolicerCfg) : Bool :=
  decide (c.cir < 64) || decide (100000000 < c.cir) || decide (c.pir < c.cir) || decide (100000000 < c.pir)
  || decide (c.cbs < 1518) || decide (16777216 < c.cbs) || decide (c.pbs < 1518) || decide (16777216 < c.pbs)
  || decide (2 < c.yellow) || decide (2 < c.red)

/-- The response of QUE_SET_POLICER (R226). -/
def policerReply (u : Ump) (s : State) : Reply :=
  let n := u.b16 0
  let x := Tab.look s.qme.policers n
  let c := (x.map policerCfg).getD ⟨0, 0, 0, 0, 0, 1, 2⟩
  let k (f : Policer → Nat) : Bytes := leBytes 8 ((x.map f).getD 0)
  reply (leBytes 2 n ++ leBytes 1 (u.b8 2) ++ leBytes 1 c.mode ++ leBytes 4 c.cir ++ leBytes 4 c.pir ++ leBytes 4 c.cbs
    ++ leBytes 4 c.pbs ++ leBytes 1 c.yellow ++ leBytes 1 c.red ++ fit 4 (field u.data 22 4) ++ leBytes 6 0
    ++ k (·.green) ++ k (·.yellow) ++ k (·.red) ++ k (·.dropped)) s

/-- An ACL rule names the policer by its police modifier (R199, R218). -/
def aclPolices (n : Nat) (s : State) : Bool :=
  s.wire.acl.any fun e => bit (rd e.2.bytes 4 1) 1 && rd e.2.bytes 8 2 == n

/-- Records of a policer in the shadow. -/
def policerRecord (n op : Nat) (r : CfgRecord) : Bool :=
  r.code == 0x0702 && rd r.payload 0 2 == n && rd r.payload 2 1 == op

/-- The attach record of a source. -/
def sourceRecord (src : Nat × Nat) (r : CfgRecord) : Bool :=
  r.code == 0x0702 && rd r.payload 2 1 == 3 && rd r.payload 22 1 == src.1 && rd r.payload 24 2 == src.2

/-- QUE_SET_POLICER (R216, R218, R226). -/
def queSetPolicer (u : Ump) (s : State) : Reply :=
  let n := u.b16 0
  let op := u.b8 2
  let x := Tab.look s.qme.policers n
  let src : Nat × Nat := (u.b8 22, u.b16 24)
  let exists_ := match src.1 with
    | 1 => (Tab.look s.air.stations src.2).isSome
    | 2 => decide (src.2 ≤ 4)
    | _ => false
  let g := gate 0x0702 false [] s
  judge [shortOp u 2 4 32, param (decide (4095 < n)), param (decide (4 < op)),
      param ((op == 3 || op == 4) && !exists_)] s fun _ =>
    match op with
    | 0 => judge g s fun _ => policerReply u s
    | 1 =>
      let c := policerArgs u
      judge (param (policerArgsBad c) :: g) s fun _ =>
        let s1 := match x with
          | none =>
            let p : Policer := ⟨c, none, c.cbs, c.pbs, (0, 0), [], 0, 0, 0, 0⟩
            onQme (fun m => { m with policers := Tab.put m.policers n p }) s
          | some _ => onPolicer n (fun p => { p with due := some c }) s
        policerReply u (cfgKeepIf (policerRecord n 1) 0x0702 u.payload s1)
    | 2 =>
      judge (g ++ [((x.any fun p => !p.sources.isEmpty) || aclPolices n s, ST.badState)]) s fun _ =>
        policerReply u (cfgDrop (policerRecord n 1)
          (onQme (fun m => { m with policers := Tab.del m.policers n }) s))
    | 3 =>
      judge (param x.isNone :: g ++ [((sourcePolicer src s).isSome, ST.badState)]) s fun _ =>
        let s1 := onPolicer n (fun p => { p with sources := p.sources ++ [src] }) s
        policerReply u (if src.1 = 1 then s1 else cfgKeepIf (sourceRecord src) 0x0702 u.payload s1)
    | _ =>
      judge (param x.isNone :: g ++ [(sourcePolicer src s != some n, ST.badState)]) s fun _ =>
        policerReply u (cfgDrop (sourceRecord src)
          (onPolicer n (fun p => { p with sources := p.sources.filter (· != src) }) s))

/-- QUE_SET_POLICER (R216). -/
def execQueSetPolicer (m : Ump) (s : State) : Host.Outcome State Fault Refusal :=
  .next (serve 0x0702 queSetPolicer m s)

/-- A station that is removed is detached from its policer (DEDUCED from R218, R274). -/
def detachSource (h : Nat) (s : State) : State :=
  onQme (fun m => { m with policers := Tab.mapVals (fun p =>
    { p with sources := p.sources.filter (· != (1, h)) }) m.policers }) s

/-! ### Gates (R219 to R221) -/

/-- The entry in force at an offset into the cycle: the last entry lasts until the cycle ends (R219). -/
def entryAt : List (Nat × Nat) → Nat → Nat → Nat
  | [], _, i => i - 1
  | (_, d) :: r, t, i => if t < d then i else entryAt r (t - d) (i + 1)

/-- The entry of a list at a device time at or after its base (R219). -/
def gclAt (g : Gcl) (now : Nat) : Nat := entryAt g.entries ((now - g.base) % g.cycle) 0

/-- The gates an entry opens. -/
def entryGates (g : Gcl) (i : Nat) : Nat := (g.entries.getD i (0, 0)).1

/-- The position of a port in its operational list worked out from the device time (R221). -/
def gatePosition (p : Nat) (s : State) : State :=
  match (gates p s).oper with
  | none => s
  | some g =>
    let i := gclAt g (deviceTime s)
    settlePort p (onGates p (fun x => { x with entry := i, open_ := entryGates g i }) (settlePort p s))

/-- The pending list becomes operational: a frame that started under the old list is counted as an overrun on its queue,
and EV_QUE_GCL_CHANGED is raised (R221). -/
def gclSwitch (p : Nat) (late : Bool) (s : State) : State :=
  match (gates p s).pending with
  | none => s
  | some g =>
    let hadList := (gates p s).oper.isSome
    let s := match (port p s).sending with
      | some (q, _) => if hadList then onQueue (wiredQueue p q) (fun i => { i with nOverrun := inc 32 i.nOverrun }) s else s
      | none => s
    let now := max (deviceTime s) g.base
    let i := gclAt g now
    let s := settlePort p (onGates p (fun x =>
      { x with oper := some g, pending := none, entry := i, open_ := entryGates g i }) (settlePort p s))
    raise 0x0701 (leBytes 1 p ++ leBytes 1 (b2n late) ++ leBytes 2 g.entries.length ++ leBytes 8 g.base) s

/-- GCL_BASE_TIME (R221): the row's arrival is the base time. -/
def execGclBaseTime (port : Nat) (s : State) : Host.Outcome State Fault Refusal :=
  .next (gclSwitch port false (start s))

/-- The intervals of the entries up to and with entry `i`. -/
def entriesEnd (g : Gcl) (i : Nat) : Nat := ((g.entries.take (i + 1)).map Prod.snd).foldl (· + ·) 0

/-- An entry's interval or the cycle ends: the next entry applies, or entry 0 of the next cycle (R219). -/
def gclAdvance (p : Nat) (s : State) : State :=
  match (gates p s).oper with
  | none => s
  | some g =>
    let i := (gates p s).entry
    let j := if i + 1 < g.entries.length ∧ entriesEnd g i < g.cycle then i + 1 else 0
    settlePort p (onGates p (fun x => { x with entry := j, open_ := entryGates g j }) (settlePort p s))

/-- GCL_ENTRY_ADVANCE (R219). -/
def execGclEntryAdvance (port : Nat) (s : State) : Host.Outcome State Fault Refusal :=
  .next (gclAdvance port (start s))

/-- The gates after a step of device time: a passed base time makes a pending list operational late; otherwise the position
is worked out again (R221). -/
def gatesFollow (s : State) : State :=
  [0, 1, 2, 3].foldl (fun t p =>
    match (gates p t).pending with
    | some g => if g.base ≤ deviceTime t then gclSwitch p true t else gatePosition p t
    | none => gatePosition p t) s

/-- The time for which the gate of a queue stays open from an offset into the cycle, up to `bound`; the list is walked from
entry `i` with `left` ns of it remaining, over at most `fuel` entries (R220). -/
def openFor (g : Gcl) (q : Nat) : Nat → Nat → Nat → Nat → Nat → Nat
  | 0, _, _, _, acc => acc
  | fuel + 1, i, left, bound, acc =>
    if bound ≤ acc || !bit (entryGates g i) q then acc
    else
      let j := if i + 1 < g.entries.length ∧ entriesEnd g i < g.cycle then i + 1 else 0
      let d := if j + 1 < g.entries.length ∧ entriesEnd g j < g.cycle then (g.entries.getD j (0, 0)).2
        else g.cycle - (if j = 0 then 0 else entriesEnd g (j - 1))
      openFor g q fuel j d bound (acc + left)

/-- Time from now to the end of the entry applied. -/
def entryLeft (g : Gcl) (i now : Nat) : Nat :=
  let t := (now - g.base) % g.cycle
  (if i + 1 < g.entries.length ∧ entriesEnd g i < g.cycle then entriesEnd g i else g.cycle) - t

/-- The gate of a queue is open and stays open for a time (R220). A pending list's base time ends the list it replaces, and
does not cut a frame (R221). -/
def gateAllows (p q need : Nat) (s : State) : Bool :=
  match (gates p s).oper with
  | none => true
  | some g =>
    let i := (gates p s).entry
    decide (need ≤ openFor g q 1024 i (entryLeft g i (deviceTime s)) need 0)

/-- Length of an entry within its cycle (R219). -/
def entryLength (g : Gcl) (i : Nat) : Nat :=
  let a := if i = 0 then 0 else entriesEnd g (i - 1)
  if i + 1 < g.entries.length then min (entriesEnd g i) g.cycle - min a g.cycle else g.cycle - min a g.cycle

/-- No open interval of a queue in the operational list is long enough (R220). -/
def neverOpen (p q need : Nat) (s : State) : Bool :=
  match (gates p s).oper with
  | none => false
  | some g =>
    (List.range g.entries.length).all fun i =>
      decide (openFor g q (2 * g.entries.length) i (entryLength g i) need 0 < need)

/-- Whether a pending list's base time lies in the next 100 microseconds (R221). -/
def gclNear (p : Nat) (s : State) : Bool :=
  (gates p s).pending.any fun g => decide (g.base < deviceTime s + 100000)

/-- The list a QUE_SET_GCL carries. -/
def gclArgs (d : Bytes) : Gcl :=
  ⟨rd d 8 8, rd d 16 4, (List.range (rd d 2 2)).map fun n => (rd d (32 + 8 * n) 1, rd d (36 + 8 * n) 4)⟩

/-- A list as it is returned: the header and the entries (R226). -/
def gclBytes (p op : Nat) (addr : Nat) (g : Gcl) : Bytes :=
  leBytes 1 p ++ leBytes 1 op ++ leBytes 2 g.entries.length ++ leBytes 4 0 ++ leBytes 8 g.base ++ leBytes 4 g.cycle
    ++ leBytes 8 addr ++ leBytes 4 0
    ++ (g.entries.map fun e => leBytes 1 e.1 ++ leBytes 3 0 ++ leBytes 4 e.2).flatten

/-- QUE_SET_GCL (R219, R221, R226). -/
def queSetGcl (u : Ump) (s : State) : Reply :=
  let p := u.b8 0
  let op := u.b8 1
  let n := u.b16 2
  let addr := u.b64 20
  let g := gate 0x0703 false [] s
  judge [short u 32, param (decide (3 < p)), param (decide (3 < op))] s fun _ =>
    match op with
    | 0 =>
      let l := gclArgs u.data
      judge ([param (n == 0 || decide (256 < n)), short u (32 + 8 * n),
          param (decide (l.cycle < 1000) || decide (1000000000 < l.cycle) || l.cycle % 8 != 0),
          param (l.entries.any fun e => e.2 == 0 || e.2 % 8 != 0),
          param (decide (l.base < deviceTime s + 100000))] ++ g ++ [(gclNear p s, ST.busy)]) s fun _ =>
        reply [] (cfgKeep 0x0703 0 1 u.data (onGates p (fun x => { x with pending := some l }) s))
    | 1 =>
      judge (g ++ [((gates p s).pending.isNone, ST.badState), (gclNear p s, ST.busy)]) s fun _ =>
        reply [] (cfgDrop (fun r => r.code == 0x0703 && rd r.payload 0 1 == p)
          (onGates p (fun x => { x with pending := none }) s))
    | _ =>
      let l := if op = 2 then (gates p s).oper else (gates p s).pending
      judge (param (addr == 0 || badHost addr) :: g ++ [(l.isNone, ST.badState)]) s fun _ =>
        dmaReply u 0x0703 addr (gclBytes p op addr (l.getD ⟨0, 0, []⟩)) [] s

/-- QUE_SET_GCL (R221). -/
def execQueSetGcl (m : Ump) (s : State) : Host.Outcome State Fault Refusal :=
  .next (serve 0x0703 queSetGcl m s)

/-! ### Sampling (R223, R224) -/

/-- Samples per second of a set of ranges, times the product basis: the sum over queues of 1000 / interval, as an exact
fraction (numerator, denominator) (R223). -/
def sampleRate (l : List (Nat × Nat × Nat)) : Nat × Nat :=
  l.foldl (fun a e => (a.1 * e.2.2 + (e.2.1 + 1 - e.1) * 1000 * a.2, a.2 * e.2.2)) (0, 1)

/-- The ranges with a range of queues taken out. -/
def cutRange (lo hi : Nat) (l : List (Nat × Nat × Nat)) : List (Nat × Nat × Nat) :=
  (l.map fun e =>
    (if e.1 < lo then [(e.1, min e.2.1 (lo - 1), e.2.2)] else [])
      ++ (if hi < e.2.1 then [(max e.1 (hi + 1), e.2.1, e.2.2)] else [])).flatten

/-- The sampling interval of a queue, 0 where it is not sampled. -/
def sampleInterval (q : Nat) (s : State) : Nat :=
  ((s.qme.sampled.find? fun e => decide (e.1 ≤ q) && decide (q ≤ e.2.1)).map (·.2.2)).getD 0

/-- Head-of-line stamp of a queue: raw TIME_NS of its head's entry; none where it is empty (R223). -/
def headStamp (q : Nat) (s : State) : Option Nat :=
  if queueKind q = 0 then
    match Tab.look s.air.stations (q / 8) with
    | some x => (x.queue.find? fun m => m.tid == q % 8).map fun m => m.entered % 2 ^ 32
    | none => none
  else (queue q s).frames.head?.map (·.stamp)

/-- Head-of-line sojourn in microseconds (R223). -/
def headSojourn (q : Nat) (s : State) : Nat :=
  match headStamp q s with
  | some t => (rawTime s + 2 ^ 32 - t) % 2 ^ 32 / 1000
  | none => 0

/-- A sample record (R223). -/
def sampleBytes (q : Nat) (s : State) : Bytes :=
  leBytes 4 (rawTime s) ++ leBytes 2 q
    ++ leBytes 1 (bitsNat [(queue q s).depth == 0, gateClosed q s, pfcStop q s, s.qme.lostFlag])
    ++ leBytes 1 0 ++ leBytes 4 (queue q s).depth ++ leBytes 4 (headSojourn q s)

/-- A sampling interval passes: a record is written, or lost and counted where the ring is full (R223, R224). -/
def samplerTick (q : Nat) (s : State) : State :=
  if !queueId q || sampleInterval q s == 0 then s
  else if s.qme.ringSize ≤ s.qme.samples.length then
    let t := onQme (fun m => { m with lost := inc 32 m.lost, lostNow := inc 32 m.lostNow, lostFlag := true }) s
    raiseLimited 0x0702 0 (leBytes 4 t.qme.lostNow) t
  else onQme (fun m => { m with samples := m.samples ++ [sampleBytes q s], writeIdx := inc 32 m.writeIdx
                                lostFlag := false }) s

/-- SAMPLER_TICK (R223). -/
def execSamplerTick (queue : Nat) (s : State) : Host.Outcome State Fault Refusal :=
  .next (samplerTick queue (start s))

/-- The response of QUE_SET_SAMPLER (R226). -/
def samplerReply (op : Nat) (s : State) : Reply :=
  let m := s.qme
  let r := sampleRate m.sampled
  reply (leBytes 1 op ++ leBytes 1 0 ++ leBytes 2 m.lastRange.1 ++ leBytes 2 m.lastRange.2.1
    ++ leBytes 2 m.lastRange.2.2 ++ leBytes 4 m.ringSize ++ leBytes 4 m.writeIdx ++ leBytes 4 m.readIdx
    ++ leBytes 4 m.lost ++ leBytes 4 (r.1 / r.2)) s

/-- QUE_SET_SAMPLER (R223, R224, R226). -/
def queSetSampler (u : Ump) (s : State) : Reply :=
  let op := u.b8 0
  let lo := u.b16 2
  let hi := u.b16 4
  let iv := u.b16 6
  let n := u.b32 8
  let ranged := op == 2 || op == 3
  let g := gate 0x0704 false [] s
  judge [shortOp u 0 3 12, param (decide (3 < op)),
      param (ranged && (!queueId lo || !queueId hi || decide (hi < lo)))] s fun _ =>
    match op with
    | 0 => judge g s fun _ => samplerReply op s
    | 1 =>
      judge (param (n != 2 ^ n.log2 || decide (n < 4096) || decide (1048576 < n)) :: g
          ++ [(!s.qme.sampled.isEmpty, ST.badState)]) s fun _ =>
        samplerReply op (cfgKeepIf (fun r => r.code == 0x0704 && rd r.payload 0 1 == 1) 0x0704 u.payload
          (onQme (fun m => { m with ringSize := n, samples := [], writeIdx := 0, readIdx := 0, lostFlag := false }) s))
    | 2 =>
      let l := cutRange lo hi s.qme.sampled ++ [(lo, hi, iv)]
      let r := sampleRate l
      judge (param (iv == 0 || decide (1000 < iv)) :: g ++ [(decide (4000000 * r.2 < r.1), ST.noResource)]) s fun _ =>
        let s1 := onQme (fun m => { m with sampled := l, lastRange := (lo, hi, iv) }) s
        samplerReply op (if lo < 16384 then s1
          else cfgKeepIf (fun r => r.code == 0x0704 && rd r.payload 0 1 == 2 && field r.payload 2 4 == field u.payload 2 4)
            0x0704 u.payload s1)
    | _ =>
      judge g s fun _ =>
        samplerReply op (cfgDrop (fun r => r.code == 0x0704 && rd r.payload 0 1 == 2
            && decide (lo ≤ rd r.payload 2 2) && decide (rd r.payload 4 2 ≤ hi))
          (onQme (fun m => { m with sampled := cutRange lo hi m.sampled, lastRange := (lo, hi, iv) }) s))

/-- QUE_SET_SAMPLER (R223). -/
def execQueSetSampler (m : Ump) (s : State) : Host.Outcome State Fault Refusal :=
  .next (serve 0x0704 queSetSampler m s)

/-- QUE_READ_SAMPLES (R224, R226). -/
def queReadSamples (u : Ump) (s : State) : Reply :=
  let n := u.b32 0
  let addr := u.b64 8
  judge ([short u 16, param (n == 0 || decide (65536 < n)), param (badHost addr)] ++ gate 0x0705 false [] s) s fun _ =>
    let k := min s.qme.samples.length (if addr = 0 then min n 14 else n)
    let bytes := (s.qme.samples.take k).flatten
    let s1 := onQme (fun m => { m with samples := m.samples.drop k, readIdx := addWrap 32 m.readIdx k }) s
    let head := leBytes 4 k ++ leBytes 4 s1.qme.readIdx
    if addr = 0 then reply (head ++ bytes) s1
    else match u.env.wr with
      | .lasting => dmaReply u 0x0705 addr bytes head s
      | _ => dmaReply u 0x0705 addr bytes head s1

/-- QUE_READ_SAMPLES (R224). -/
def execQueReadSamples (m : Ump) (s : State) : Host.Outcome State Fault Refusal :=
  .next (serve 0x0705 queReadSamples m s)

/-! ### Maps and limits (R200, R207, R208, R225) -/

/-- Largest limit of a queue: the packet SRAM for wired queues and the MGT FIFO, else the pool (R226). -/
def limitMax (q : Nat) (s : State) : Nat := if queueKind q = 2 ∨ queueKind q = 5 then 32768 else s.qme.poolSize

/-- Whether a station TID is held for restricted TWT: some agreement of the station names it and its service period is
closed (R222). TWT_SET names the TIDs of a schedule. -/
def twtHeld (q : Nat) (s : State) : Bool :=
  queueKind q == 0 && s.mls.twtNow.any fun e =>
    e.kind == 1 && bit e.tids (q % 8) && s.mls.members.contains (e.bss, 1, e.id, q / 8)
      && !s.mls.openSps.contains (e.bss, 1, e.id)

/-- The shaper numbers of a queue at levels 1 and 2, 0xFFFF where none (R226). A station queue's level 2 is the BSS of its
lowest link. -/
def queueShapers (q : Nat) (s : State) : Nat × Nat :=
  let num (t : ShaperTarget) : Nat := ((shaperOf t s).map Prod.fst).getD 0xFFFF
  match queueKind q with
  | 0 => (num (0, q / 8),
      match Tab.look s.air.stations (q / 8) with
      | some x => ((x.links.toList.find? fun b => b != 255).map fun b => num (1, b)).getD 0xFFFF
      | none => 0xFFFF)
  | 1 => (0xFFFF, num (1, q - 16384))
  | 2 => (num (2, q - 16432), num (3, (q - 16432) / 8))
  | _ => (0xFFFF, 0xFFFF)

/-- Frames in a queue. -/
def queueFrames (q : Nat) (s : State) : Nat :=
  if queueKind q = 0 then
    match Tab.look s.air.stations (q / 8) with
    | some x => (x.queue.filter fun m => m.tid == q % 8).length
    | none => 0
  else (queue q s).frames.length

/-- The queue record of QUE_MAP Op 4 (R226). -/
def queueRecord (q : Nat) (s : State) : Bytes :=
  let i := queue q s
  let sh := queueShapers q s
  leBytes 2 q ++ leBytes 1 (queueKind q)
    ++ leBytes 1 (bitsNat [i.sojourn, gateClosed q s, pfcStop q s, i.dropping, twtHeld q s])
    ++ leBytes 4 i.limit ++ leBytes 4 i.marked ++ leBytes 4 i.depth ++ leBytes 4 (queueFrames q s)
    ++ leBytes 4 (headSojourn q s) ++ leBytes 2 i.target ++ leBytes 2 i.interval ++ leBytes 2 sh.1 ++ leBytes 2 sh.2
    ++ leBytes 8 i.nIn ++ leBytes 4 i.nTail ++ leBytes 4 i.nMarked ++ leBytes 4 i.nPool ++ leBytes 4 i.nSojourn
    ++ leBytes 4 i.nOverrun ++ leBytes 4 i.nOversize ++ leBytes 8 i.closedNs

/-- The queue map of a port: default identity (R226). -/
def prioMap (p : Nat) (s : State) : List Nat := Tab.getD s.qme.prioMap p [0, 1, 2, 3, 4, 5, 6, 7]
/-- The strict mask of a port (R208). -/
def strictMask (p : Nat) (s : State) : Nat := Tab.getD s.qme.strict p 0xFF
/-- The weights of a port (R208). -/
def weights (p : Nat) (s : State) : List Nat := Tab.getD s.qme.weights p [1, 1, 1, 1, 1, 1, 1, 1]

/-- The layout of a QUE_MAP record as in force. -/
def mapBytes (opByte op : Nat) (u : Ump) (s : State) : Bytes :=
  let b (l : List Nat) : Bytes := l.map fun n => BitVec.ofNat 8 n
  match op with
  | 0 => leBytes 1 opByte ++ leBytes 1 0 ++ b s.qme.dscpMap
  | 1 => leBytes 1 opByte ++ leBytes 1 0 ++ b s.qme.pcpMap
  | 2 => leBytes 1 opByte ++ leBytes 1 (u.b8 1) ++ b (prioMap (u.b8 1) s)
  | 3 =>
    let i := queue (u.b16 2) s
    leBytes 1 opByte ++ leBytes 1 0 ++ leBytes 2 (u.b16 2) ++ leBytes 4 i.limit ++ leBytes 4 i.marked
      ++ leBytes 1 (b2n i.sojourn) ++ leBytes 1 0 ++ leBytes 2 i.target ++ leBytes 2 i.interval
  | 4 => queueRecord (u.b16 2) s
  | _ => leBytes 1 opByte ++ leBytes 1 (u.b8 1) ++ leBytes 1 (strictMask (u.b8 1) s) ++ b (weights (u.b8 1) s)

/-- Length of the layout of a QUE_MAP command (R226). -/
def mapLength (op : Nat) (readsIt : Bool) : Nat :=
  if readsIt then (match op with | 0 => 1 | 1 => 1 | 3 => 4 | 4 => 4 | _ => 2)
  else match op with
    | 0 => 66
    | 1 => 10
    | 2 => 10
    | 3 => 18
    | 4 => 4
    | _ => 11

/-- QUE_MAP (R207, R226). -/
def queMap (u : Ump) (s : State) : Reply :=
  let opByte := u.b8 0
  let op := opByte % 128
  let readsIt := bit opByte 7 || op == 4
  let q := u.b16 2
  let bytes (o n : Nat) : List Nat := (List.range n).map fun i => u.b8 (o + i)
  let g := gate 0x0706 false [] s
  judge [short u 1, param (decide (5 < op)), short u (mapLength op readsIt),
      param ((op == 2 || op == 5) && decide (3 < u.b8 1)), param ((op == 3 || op == 4) && !queueId q)] s fun _ =>
    let rep (s : State) : Reply := reply (mapBytes opByte op u s) s
    if readsIt then judge g s fun _ => rep s
    else match op with
      | 0 => judge (param ((bytes 2 64).any fun x => decide (7 < x)) :: g) s fun _ =>
          rep (cfgKeep 0x0706 0 1 u.payload (onQme (fun m => { m with dscpMap := bytes 2 64 }) s))
      | 1 => judge (param ((bytes 2 8).any fun x => decide (7 < x)) :: g) s fun _ =>
          rep (cfgKeep 0x0706 0 1 u.payload (onQme (fun m => { m with pcpMap := bytes 2 8 }) s))
      | 2 => judge (param ((bytes 2 8).any fun x => decide (7 < x)) :: g) s fun _ =>
          rep (cfgKeep 0x0706 0 2 u.payload
            (onQme (fun m => { m with prioMap := Tab.put m.prioMap (u.b8 1) (bytes 2 8) }) s))
      | 3 =>
        judge ([param (decide (u.b32 4 < 16) || decide (limitMax q s < u.b32 4)), param (decide (u.b32 4 < u.b32 8)),
            param (bit (u.b8 12) 0 && queueKind q != 0),
            param (u.b16 14 == 0 || decide (50 < u.b16 14) || decide (u.b16 16 < 10) || decide (1000 < u.b16 16)
              || decide (u.b16 16 ≤ u.b16 14))] ++ g) s fun _ =>
          let s1 := onQueue q (fun i => { i with limit := u.b32 4, marked := u.b32 8, sojourn := bit (u.b8 12) 0
                                                 target := u.b16 14, interval := u.b16 16 }) s
          rep (if queueKind q = 0 then s1
            else cfgKeepIf (fun r => r.code == 0x0706 && rd r.payload 0 1 == 3 && rd r.payload 2 2 == q) 0x0706 u.payload s1)
      | _ =>
        judge (param ((bytes 3 8).any fun x => x == 0 || decide (64 < x)) :: g) s fun _ =>
          rep (cfgKeep 0x0706 0 2 u.payload (onQme (fun m =>
            { m with strict := Tab.put m.strict (u.b8 1) (u.b8 2), weights := Tab.put m.weights (u.b8 1) (bytes 3 8) }) s))

/-- QUE_MAP (R207). -/
def execQueMap (m : Ump) (s : State) : Host.Outcome State Fault Refusal :=
  .next (serve 0x0706 queMap m s)

end Sys2Proof.Machine
end

