-- ==== Sys2Proof/Machine/TimeUnit.lean ====
section
/-! DEFINITION. The time unit: the count, adjustment, jumps, the servo, PTP and PPS (chapter 09). -/
namespace Sys2Proof.Machine

/-! ### The count (R228, R229, R233) -/

/-- The nominal increment in 32.32 fixed point (R229). -/
def nominalInc : Nat := 0x10AAAAAAB

/-- A frequency within the clamp of R229. -/
def clampPpb (f : Int) : Int := max (-100000) (min 100000 f)

/-- The increment of a frequency in ppb, rounded to the resolution of the fixed point (R229). -/
def incOf (f : Int) : Nat := (((nominalInc : Int) * (1000000000 + f) * 2 + 1000000000) / 2000000000).toNat

/-- The slew's rate in ppb: the margin that the frequency leaves (R233). -/
def slewPpb (c : Clock) : Int :=
  if c.slew = 0 then 0
  else clampPpb (c.freq + (if 0 < c.slew then (c.slewRate : Int) else -(c.slewRate : Int))) - c.freq

/-- The slew after one cycle gained `d` of 2^-32 ns of it. -/
def slewAfter (c : Clock) (d : Nat) : Int × Nat :=
  let total := c.slewFrac + d
  let whole := total / 2 ^ 32
  if c.slew.natAbs ≤ whole then (0, 0)
  else (if 0 < c.slew then c.slew - whole else c.slew + whole, total % 2 ^ 32)

/-- One CLK_FAB cycle of the time unit; in limp mode CLK_FAB runs at half its rate and the increment doubles (R229, R414).
A wrap of TIME_NS waits for firmware (R228). -/
def clockTick (limp : Bool) (c : Clock) : Clock :=
  let base := incOf (clampPpb c.freq)
  let full := incOf (c.freq + slewPpb c)
  let d := if base ≤ full then full - base else base - full
  let total := c.ns * 2 ^ 32 + c.frac + (if limp then 2 else 1) * full
  let left := if c.slew = 0 then (0, 0) else slewAfter c ((if limp then 2 else 1) * d)
  { c with ns := total / 2 ^ 32 % 2 ^ 32, frac := total % 2 ^ 32
           wrapPending := c.wrapPending || decide (2 ^ 32 ≤ total / 2 ^ 32), slew := left.1, slewFrac := left.2 }

/-- The block idles for one CLK_FAB cycle: where PD_CORE is powered, the time unit counts (log entry 1). -/
def idle (s : State) : State :=
  if powered 1 s then onClock (clockTick s.power.limp) (start s) else start s

/-- TIME_NS_WRAP (R228): firmware counts the wrap. Where the count has not been run up to it, the row's arrival is the wrap. -/
def execTimeNsWrap (s : State) : Host.Outcome State Fault Refusal :=
  .next (let s := start s
    if !powered 1 s then s
    else onClock (fun c =>
      { c with upper := inc 32 c.upper, wrapPending := false
               ns := if c.wrapPending then c.ns else 0, frac := if c.wrapPending then c.frac else 0 }) s)

/-- Device time moved by a number of ns. -/
def moveTime (d : Int) (s : State) : State :=
  let t := ofSigned 64 ((deviceTime s : Int) + d)
  onClock (fun c => setTime t c) s

/-- SLEW_DONE (R233): what remained of the slew has been added, and the slew ends. -/
def execSlewDone (s : State) : Host.Outcome State Fault Refusal :=
  .next (let s := start s
    if s.clock.slew = 0 then s
    else onClock (fun c => { c with slew := 0, slewFrac := 0 }) (moveTime s.clock.slew s))

/-- TSF of a slice: whole microseconds of device time since its base; none before the slice's first BSS (R239). -/
def tsf (n : Nat) (s : State) : Option Int := (s.clock.tsfBase.get n).map fun b => ((deviceTime s : Int) - b) / 1000

/-- The base of a slice's TSF is fixed when its first BSS is created (R239). -/
def startTsf (n : Nat) (s : State) : State :=
  onClock (fun c => { c with tsfBase := c.tsfBase.set n (some ((c.tsfBase.get n).getD (deviceTime s))) }) s

/-- The 64-bit time that a raw stamp stands for, nearest a reference, as host software works it out (R231). -/
def extendStamp (ref raw : Nat) : Int :=
  let d : Int := ((raw : Int) - ref) % 2 ^ 32
  ref + (if 2 ^ 31 ≤ d then d - 2 ^ 32 else d)

/-! ### Jumps (R230, R234, R235) -/

/-- The cause EV_TIM_STEPPED gives a jump, or none where it is refused (R235, R241). -/
def judgeJump (jump : Int) (force : Bool) (cause : Nat) (c : Clock) : Option Nat :=
  if !c.isSet || (c.allowance.any fun a => decide (jump.natAbs ≤ c.jumpLimit + a)) then some 2
  else if force then some 3
  else if jump.natAbs ≤ c.jumpLimit then some cause
  else none

/-- A step or set takes effect in one cycle: the slew ends, the gates follow, the TSFs keep their place, EV_TIM_STEPPED is
raised (R233, R234, R239). -/
def stepTime (jump : Int) (cause : Nat) (s : State) : State :=
  let s := moveTime jump s
  let s := onClock (fun c =>
    { c with slew := 0, slewFrac := 0, steps := inc 32 c.steps, lastStep := jump, isSet := true, allowance := none
             refused := false, servo := if c.servo = .unset then .free else c.servo
             stepped := c.stepped + jump, tsfBase := c.tsfBase.map fun b => b.map (· + jump) }) s
  gatesFollow (raise 0x0802 (leBytes 1 cause ++ leBytes 7 0 ++ wrS 8 jump) s)

/-- A jump is refused: the flag and the offset, and EV_TIM_JUMP_REFUSED (R235). -/
def refuseJump (jump : Int) (cause : Nat) (s : State) : State :=
  raise 0x0801 (leBytes 1 cause ++ leBytes 7 0 ++ wrS 8 jump)
    (onClock (fun c => { c with refused := true, refusedOffset := jump }) s)

/-! ### The servo (R236, R237) -/

/-- The platform manager runs, outside limp mode. -/
def timeRuns (s : State) : Bool := powered 1 s && !s.power.limp && s.power.stage == 4

/-- The mean of a list of frequencies; the one in force where there is none. -/
def meanFreq (l : List Int) (f : Int) : Int := if l.isEmpty then f else l.foldl (· + ·) 0 / (l.length : Int)

/-- HOLDOVER is entered: device time runs at the mean frequency of the last 64 s of LOCKED operation (R236). -/
def enterHoldover (cause : Nat) (s : State) : State :=
  raise 0x0803 (leBytes 1 1 ++ leBytes 1 cause)
    (onClock (fun c => { c with servo := .holdover, good := 0, freq := meanFreq c.lockedFreqs c.freq }) s)

/-- HOLDOVER is left (R236). -/
def leaveHoldover (s : State) : State :=
  raise 0x0803 (leBytes 1 0 ++ leBytes 1 3) (onClock (fun c => { c with servo := .locking }) s)

/-- EV_TIM_GM_CHANGED. -/
def gmEvent (id : Nat) (accepted : Bool) (s : State) : State :=
  raise 0x0804 (beBytes 8 id ++ leBytes 1 (b2n accepted))
    (onClock (fun c => { c with gmPending := none, gmRefused := if accepted then none else some id
                                grandmaster := if accepted then id else c.grandmaster }) s)

/-- The new grandmaster picked is accepted, where there is one. -/
def acceptGm (s : State) : State :=
  match s.clock.gmPending with
  | some id => gmEvent id true s
  | none => s

/-- The servo takes a measured offset: it steps above 100 microseconds, subject to R235, and otherwise corrects by frequency
(R236, R237). `cause` is the cause of a refusal. -/
def measure (off freq : Int) (cause : Nat) (s : State) : State :=
  let held := s.clock.servo == .holdover
  let s := onClock (fun c => { c with offset := off, measured := true }) s
  let big := decide (100000 < off.natAbs)
  let verdict := judgeJump (-off) false 1 s.clock
  if (big || held) && verdict.isNone then
    let pend := s.clock.gmPending
    let s := match pend with
      | some id => gmEvent id false s
      | none => s
    let s := refuseJump (-off) (if pend.isSome then 1 else cause) s
    let s := onClock (fun c => { c with good := 0 }) s
    if held then s else enterHoldover 1 s
  else
    let s := acceptGm s
    if big then
      let s := onClock (fun c => { c with good := 0, servo := .locking }) (stepTime (-off) (verdict.getD 1) s)
      if held then leaveHoldover s else s
    else
      let s := if held then leaveHoldover s else s
      onClock (fun c =>
        let good := if off.natAbs < 100 then min 8 (c.good + 1) else 0
        { c with freq := clampPpb freq, good := good, servo := if 8 ≤ good then .locked else .locking
                 wasLocked := c.wasLocked || decide (8 ≤ good) }) s

/-- SERVO_MEASUREMENT (R237): an exchange with the PTP source yields an offset; one whose stamps straddle a step is
discarded. The frequency is the firmware's own law. -/
def servoMeasurement (off freq : Int) (s : State) : State :=
  if !timeRuns s || s.clock.cfg.source != 1 then s
  else
    let whole := (s.clock.exchange.map fun e => e.2 == s.clock.steps).getD true
    let s := onClock (fun c => { c with exchange := none }) s
    if whole then measure off freq 2 s else s

/-- SERVO_MEASUREMENT (R237). -/
def execServoMeasurement (offset freq : Int) (s : State) : Host.Outcome State Fault Refusal :=
  .next (servoMeasurement offset freq (start s))

/-- ANNOUNCE_TIMEOUT (R236). -/
def execAnnounceTimeout (s : State) : Host.Outcome State Fault Refusal :=
  .next (let s := start s
    if timeRuns s && s.clock.cfg.source == 1 && s.clock.servo != .holdover then enterHoldover 0 s else s)

/-- PPS_IN_LOSS (R236). -/
def execPpsInLoss (s : State) : Host.Outcome State Fault Refusal :=
  .next (let s := start s
    if !timeRuns s then s
    else
      let s := onClock (fun c => { c with ppsPresent := false }) s
      if s.clock.cfg.source == 2 && s.clock.servo != .holdover then enterHoldover 2 s else s)

/-- The whole second nearest to a time, in ns. -/
def nearestSecond (t : Int) : Int := (t + 500000000) / 1000000000 * 1000000000

/-- A rising edge on PPS_IN is captured, less the cable delay; with source PPS_IN the servo steers it to a whole second: the
nearest one, or the one a Set gave (R237, R240). -/
def ppsCapture (freq : Int) (s : State) : State :=
  if !timeRuns s then s
  else
    let t : Int := (deviceTime s : Int) - s.clock.cfg.cable
    let ahead : Int := match s.clock.ppsSecond with
      | some v => toSigned 64 v
      | none => 0
    let s := onClock (fun c => { c with ppsIn := ofSigned 64 t, ppsPresent := true, ppsSecond := none }) s
    if s.clock.cfg.source == 2 then measure (t - nearestSecond (t + ahead)) freq 3 s else s

/-- PPS_IN_CAPTURE (R240). -/
def execPpsInCapture (freq : Int) (s : State) : Host.Outcome State Fault Refusal :=
  .next (ppsCapture freq (start s))

/-! ### PPS_OUT (R240) -/

/-- PPS_OUT_SECOND (R240). -/
def execPpsOutSecond (s : State) : Host.Outcome State Fault Refusal :=
  .next (let s := start s
    if !powered 1 s || s.clock.cfg.ppsWidth == 0 then s
    else onClock (fun c => { c with ppsOut := true }) (emit (.pps true) s))

/-- PPS_OUT_WIDTH_END (R240). -/
def execPpsOutWidthEnd (s : State) : Host.Outcome State Fault Refusal :=
  .next (let s := start s
    if s.clock.ppsOut then onClock (fun c => { c with ppsOut := false }) (emit (.pps false) s) else s)

/-! ### PTP messages (R232, R238) -/

/-- An event message is stamped: the first stamp of an exchange is kept with the step count (R232, R237). -/
def ptpStamp (s : State) : State :=
  onClock (fun c => { c with exchange := some (c.exchange.getD (deviceTime s, c.steps)) }) s

/-- PTP_MESSAGE_RECEIVE (R238): a message on an enabled port ends in the device. An event message is stamped; an Announce
may make the best master selection pick a new grandmaster, whose change is reported at its first measurement (R237). -/
def execPtpMessageReceive (port : Nat) (event : Bool) (best : Option Nat) (s : State) :
    Host.Outcome State Fault Refusal :=
  .next (let s := start s
    if !timeRuns s || s.clock.cfg.source != 1 || !bit s.clock.cfg.ports port then s
    else
      let s := if event then ptpStamp s else s
      match best with
      | some id => if id = s.clock.grandmaster then onClock (fun c => { c with gmPending := none }) s
        else onClock (fun c => { c with gmPending := some id }) s
      | none => s)

/-- The clock class announced: in HOLDOVER 7 if the device was locked before, else 248 (R236). -/
def announcedClass (c : Clock) : Nat :=
  if c.servo = .holdover then (if c.wasLocked then 7 else 248) else c.cfg.clockClass

/-- The role and profile send messages of a kind: 0 Sync and 1 Announce from boundary and grandmaster ports, 2 Delay_Req with
delay request-response, 3 Pdelay_Req with peer delay (R238). -/
def ptpSends (kind : Nat) (c : PtpCfg) : Bool :=
  match kind with
  | 0 => c.role != 0
  | 1 => c.role != 0
  | 2 => c.profile == 0 && c.role != 2
  | 3 => c.profile != 0
  | _ => false

/-- A message leaves with its stamp: a two-step Sync with its Follow_Up behind it, MGT having no other (R232, R238). -/
def ptpEmit (port kind : Nat) (s : State) : State :=
  let send (k : Nat) (s : State) : State := emit (.ptp port k (announcedClass s.clock) (deviceTime s)) s
  if kind = 0 && !(decide (port < 4) && bit s.clock.cfg.oneStep port) then send 4 (send 0 s) else send kind s

/-- PTP_MESSAGE_SEND (R238). -/
def execPtpMessageSend (port kind : Nat) (s : State) : Host.Outcome State Fault Refusal :=
  .next (let s := start s
    let c := s.clock
    let runs := c.cfg.source == 1 || c.cfg.role == 2
    if !timeRuns s || !runs || !bit c.cfg.ports port || (Machine.port port s).state != .up || !ptpSends kind c.cfg then s
    else
      let s := ptpEmit port kind s
      if kind = 2 ∨ kind = 3 then ptpStamp s else s)

/-! ### Commands -/

/-- The code of a servo state. -/
def servoCode : Servo → Nat
  | .unset => 0 | .free => 1 | .locking => 2 | .locked => 3 | .holdover => 4

/-- TIM_GET (R228). -/
def timGet (_ : Ump) (s : State) : Reply :=
  let c := s.clock
  judge (gate 0x0801 false [] s) s fun _ =>
    reply (leBytes 8 (deviceTime s) ++ leBytes 1 c.cfg.source
      ++ leBytes 1 (if s.power.limp then 1 else servoCode c.servo)
      ++ leBytes 2 (bitsNat [c.refused, c.slew != 0, c.ppsPresent]) ++ leBytes 4 c.steps ++ wrS 8 c.lastStep
      ++ wrS 4 c.freq ++ wrS 4 c.slew ++ wrS 8 c.offset ++ leBytes 8 c.ppsIn ++ wrS 8 c.refusedOffset
      ++ beBytes 8 c.grandmaster ++ leBytes 4 c.jumpLimit) s

/-- TIM_GET (R228). -/
def execTimGet (m : Ump) (s : State) : Host.Outcome State Fault Refusal :=
  .next (serve 0x0801 timGet m s)

/-- The response of TIM_ADJUST: device time after the command and the jump applied. -/
def adjustReply (jump : Int) (s : State) : Reply := reply (leBytes 8 (deviceTime s) ++ wrS 8 jump) s

/-- A jump asked by command: applied, or refused with its flag and event (R235). -/
def adjustJump (u : Ump) (jump : Int) (after : State → State) (s : State) : Reply :=
  match judgeJump jump u.force 0 s.clock with
  | none => ⟨refuseJump jump 0 s, ST.timeJumpRefused, [], true⟩
  | some cause => adjustReply jump (after (stepTime jump cause s))

/-- Length of TIM_ADJUST's layout by Op (R248). -/
def adjustLength (op : Nat) : Nat :=
  match op with
  | 1 => 8
  | 2 => 20
  | 3 => 16
  | 4 => 16
  | _ => 1

/-- TIM_ADJUST (R233, R235, R237). -/
def timAdjust (u : Ump) (s : State) : Reply :=
  let op := u.b8 0
  let f := rdS u.data 4 4
  let v := rdS u.data 8 8
  let rate := if u.b32 16 = 0 then 50000 else u.b32 16
  let src := s.clock.cfg.source
  judge ([short u (adjustLength op), param (op == 0 || decide (5 < op)), param (op == 1 && decide (100000 < f.natAbs)),
      param (op == 2 && (decide (1000000000 < v.natAbs) || decide (rate < 1000) || decide (100000 < rate)))]
      ++ gate 0x0802 false [] s
      ++ [(src != 0 && op != 5 && !(src == 2 && op == 4), ST.badState),
          (op == 5 && (src == 0 || !s.clock.measured), ST.badState)]) s fun _ =>
    match op with
    | 1 => adjustReply 0 (onClock (fun c => { c with freq := f }) s)
    | 2 => adjustReply 0 (onClock (fun c => { c with slew := v, slewFrac := 0, slewRate := rate }) s)
    | 3 => adjustJump u v id s
    | 4 =>
      let d : Int := (u.b64 8 : Int) - deviceTime s
      if src = 2 then
        let whole := nearestSecond d
        adjustJump u whole (onClock fun c => { c with ppsSecond := some (ofSigned 64 (d - whole)) }) s
      else adjustJump u d id s
    | _ => adjustJump u (-s.clock.offset)
        (onClock fun c => { c with grandmaster := c.gmRefused.getD c.grandmaster, gmRefused := none }) s

/-- TIM_ADJUST (R233). -/
def execTimAdjust (m : Ump) (s : State) : Host.Outcome State Fault Refusal :=
  .next (serve 0x0802 timAdjust m s)

/-- The configuration a TIM_SET_PTP carries; reserved bits are ignored (R7). -/
def ptpArgs (u : Ump) : PtpCfg :=
  ⟨u.b8 1, u.b8 2, u.b8 3, u.b8 4 % 32, u.b8 5, u.b8 6, u.b8 7 % 16, rdS u.data 8 1, rdS u.data 9 1, rdS u.data 10 1,
   u.b8 11, u.b8 12, u.b8 13, u.b8 14, u.b32 16, rdS u.data 20 4⟩

/-- The configuration is out of range or a form R238 does not have. -/
def ptpArgsBad (u : Ump) (c : PtpCfg) : Bool :=
  decide (2 < c.source) || decide (2 < c.profile) || decide (127 < c.domain) || decide (2 < c.role)
  || decide (2 < c.transport) || decide (c.sync < -7) || decide (1 < c.sync) || decide (c.announce < -3)
  || decide (4 < c.announce) || decide (c.delay < -7) || decide (5 < c.delay) || decide (c.timeout < 2)
  || decide (10 < c.timeout) || decide (500000 < c.ppsWidth)
  || (c.profile == 2 && (c.domain != 0 || c.transport != 0)) || bit (u.b8 7) 4

/-- Bytes 0 to 27 of TIM_SET_PTP as in force. -/
def ptpBytes (op : Nat) (c : PtpCfg) : Bytes :=
  leBytes 1 op ++ leBytes 1 c.source ++ leBytes 1 c.profile ++ leBytes 1 c.domain ++ leBytes 1 c.ports
    ++ leBytes 1 c.role ++ leBytes 1 c.transport ++ leBytes 1 c.oneStep ++ wrS 1 c.sync ++ wrS 1 c.announce
    ++ wrS 1 c.delay ++ leBytes 1 c.timeout ++ leBytes 1 c.priority1 ++ leBytes 1 c.priority2 ++ leBytes 1 c.clockClass
    ++ leBytes 1 0 ++ leBytes 4 c.ppsWidth ++ wrS 4 c.cable ++ leBytes 4 0

/-- A change of source or profile: the servo is LOCKING, or has no source to lock to, and nothing is measured (R233, R238). -/
def newSource (c : Clock) : Clock :=
  { c with servo := if c.cfg.source = 0 then (if c.isSet then .free else .unset) else .locking
           good := 0, measured := false, gmPending := none, gmRefused := none, exchange := none
           ppsSecond := none }

/-- TIM_SET_PTP (R238). -/
def timSetPtp (u : Ump) (s : State) : Reply :=
  let op := u.b8 0
  let n := ptpArgs u
  judge ([shortOp u 0 1 28, param (decide (1 < op)), param (op == 1 && ptpArgsBad u n)]
      ++ gate 0x0803 false [] s) s fun _ =>
    if op = 0 then reply (ptpBytes 0 s.clock.cfg) s
    else
      let old := s.clock.cfg
      let t := onClock (fun c => { c with cfg := n }) s
      let t := if old.source == n.source && old.profile == n.profile then t else onClock newSource t
      reply (ptpBytes 1 n) (cfgKeep 0x0803 0 0 u.payload t)

/-- TIM_SET_PTP (R238). -/
def execTimSetPtp (m : Ump) (s : State) : Host.Outcome State Fault Refusal :=
  .next (serve 0x0803 timSetPtp m s)

/-- TIM_SET_JUMP_LIMIT (R235). -/
def timSetJumpLimit (u : Ump) (s : State) : Reply :=
  let op := u.b8 0
  let n := u.b32 4
  judge ([shortOp u 0 1 8, param (decide (1 < op)), param (op == 1 && (decide (n < 1000) || decide (1000000000 < n)))]
      ++ gate 0x0804 false [] s) s fun _ =>
    let t := if op = 0 then s else cfgKeep 0x0804 0 0 u.payload (onClock (fun c => { c with jumpLimit := n }) s)
    reply (leBytes 1 op ++ leBytes 3 0 ++ leBytes 4 t.clock.jumpLimit) t

/-- TIM_SET_JUMP_LIMIT (R235). -/
def execTimSetJumpLimit (m : Ump) (s : State) : Host.Outcome State Fault Refusal :=
  .next (serve 0x0804 timSetJumpLimit m s)

end Sys2Proof.Machine
end

