-- ==== Sys2Proof/Machine/Pause.lean ====
section
/-! DEFINITION. Port counters, pause and PFC in both directions, and the cells of packet SRAM (R174 to R178, R184, R206). -/
namespace Sys2Proof.Machine

/-- The wired group changed by a function. -/
def onWire (f : Wire → Wire) (s : State) : State := { s with wire := f s.wire }

/-- Counter `i` of R184 of a port counts `n` more; other ingresses keep no such counters. -/
def countPort (p i n : Nat) (s : State) : State :=
  if 4 < p then s
  else onPort p (fun x => { x with counters := Tab.put x.counters i (addWrap 64 (Tab.getD x.counters i 0) n) }) s

/-- A port is UP. -/
def portUp (p : Nat) (s : State) : Bool := (port p s).state == .up

/-- Speed of a port in Mbit/s by its speed code (R203). -/
def speedMbps : Nat → Nat
  | 1 => 10
  | 2 => 100
  | 3 => 1000
  | 4 => 2500
  | 5 => 5000
  | 6 => 10000
  | 7 => 25000
  | _ => 0

/-! ### Sending pause (R178) -/

/-- A pause or PFC frame leaves: a PFC frame on PFC ports. -/
def sendPause (p mask quanta : Nat) (s : State) : State :=
  countPort p (if (port p s).cfg.flow = 2 then 30 else 29) 1 (emit (.pause p mask quanta) s)

/-- A pause or PFC frame is due: it goes ahead of every queued frame, once the frame in progress ends. -/
def owePause (p mask quanta : Nat) (s : State) : State :=
  if !portUp p s then s
  else if (port p s).sending.isSome then
    onPort p (fun x => { x with pauseOwed := x.pauseOwed ++ [(mask, quanta)] }) s
  else sendPause p mask quanta s

/-- The pause frames that waited for the frame in progress leave, in order. -/
def flushPause (p : Nat) (s : State) : State :=
  (port p s).pauseOwed.foldl (fun t e => sendPause p e.1 e.2 t) (onPort p (fun x => { x with pauseOwed := [] }) s)

/-- The cells a port counts under a priority: all priorities are summed on 802.3x ports. -/
def pauseCount (x : Port) (k : Nat) : Nat :=
  if x.cfg.flow = 1 then x.cells.foldl (· + ·) 0 else x.cells.getD k 0

/-- The priorities a port counts apart: bit 0 stands for all on 802.3x ports. -/
def pausePriorities (x : Port) : List Nat :=
  match x.cfg.flow with
  | 0 => []
  | 1 => [0]
  | _ => (List.range 8).filter fun k => bit x.cfg.pfcMask k

/-- Free cells of packet SRAM are below 2048. -/
def sramLow (s : State) : Bool := decide (s.wire.sramFree < 2048)

/-- XOFF and XON of one priority of a port. -/
def settlePriority (p k : Nat) (s : State) : State :=
  let x := port p s
  let n := pauseCount x k
  if portUp p s && !bit x.xoffSent k && (decide (x.cfg.xoff < n) || sramLow s) then
    owePause p (2 ^ k) 0xFFFF (onPort p (fun y => { y with xoffSent := y.xoffSent + 2 ^ k }) s)
  else if bit x.xoffSent k && decide (n < x.cfg.xon) && !sramLow s then
    owePause p (2 ^ k) 0 (onPort p (fun y => { y with xoffSent := y.xoffSent - 2 ^ k }) s)
  else s

/-- XOFF and XON of every port after its cells changed. -/
def settleXoff (s : State) : State :=
  [0, 1, 2, 3, 4].foldl (fun t p => (pausePriorities (port p t)).foldl (fun u k => settlePriority p k u) t) s

/-- Half a pause time has passed: the frame is repeated while the count stays above XON (R178). -/
def pauseRefresh (p k : Nat) (s : State) : State :=
  let x := port p s
  if bit x.xoffSent k && (pausePriorities x).contains k && (decide (x.cfg.xon < pauseCount x k) || sramLow s) then
    owePause p (2 ^ k) 0xFFFF s
  else s

/-- PAUSE_REFRESH (R178). -/
def execPauseRefresh (port priority : Nat) (s : State) : Host.Outcome State Fault Refusal :=
  .next (pauseRefresh port priority (start s))

/-! ### Received pause (R177) -/

/-- Time spent stopped is counted up to now, and counting goes on while anything of the port is stopped (R177). -/
def settleStopped (p : Nat) (s : State) : State :=
  let x := port p s
  let held := x.paused || x.pfcStopped != 0
  let s1 := match x.stoppedAt with
    | some t => countPort p 37 (runTime s - t) s
    | none => s
  onPort p (fun y => { y with stoppedAt := if held then some (runTime s) else none }) s1

/-- Queues of a port stop or start: bit k is queue k; all of them with 802.3x. -/
def setStopped (p : Nat) (paused : Bool) (mask : Nat) (s : State) : State :=
  settleStopped p (onPort p (fun x => { x with paused := paused, pfcStopped := mask })
    (settleStopped p s))

/-- A pause frame: counted, and on an 802.3x port all transmission stops, or starts at a pause time of 0. -/
def pauseReceive (p quanta : Nat) (s : State) : State :=
  if !portUp p s then s
  else
    let s := onPort p (fun x => { x with partner := true }) (countPort p 5 1 s)
    if (port p s).cfg.flow = 1 then setStopped p (quanta != 0) (port p s).pfcStopped s else s

/-- PAUSE_FRAME_RECEIVE (R177). -/
def execPauseFrameReceive (port quanta : Nat) (s : State) : Host.Outcome State Fault Refusal :=
  .next (pauseReceive port quanta (start s))

/-- A PFC frame: counted, and on a PFC port each queue it names inside the mask stops, or starts at a time of 0. -/
def pfcReceive (p enable : Nat) (quanta : List Nat) (s : State) : State :=
  if !portUp p s then s
  else
    let s := onPort p (fun x => { x with partner := true }) (countPort p 6 1 s)
    let x := port p s
    if x.cfg.flow = 2 then
      let l := (List.range 8).map fun k =>
        if bit enable k && bit x.cfg.pfcMask k then quanta.getD k 0 != 0 else bit x.pfcStopped k
      setStopped p x.paused (bitsNat l) s
    else s

/-- PFC_FRAME_RECEIVE (R177). -/
def execPfcFrameReceive (port enable : Nat) (quanta : List Nat) (s : State) : Host.Outcome State Fault Refusal :=
  .next (pfcReceive port enable quanta (start s))

/-- A received pause time runs out: the queues of a mask start again, all of them on an 802.3x port (R177). -/
def pauseExpiry (p mask : Nat) (s : State) : State :=
  let x := port p s
  if x.cfg.flow = 1 then setStopped p false x.pfcStopped s
  else setStopped p x.paused (bitsNat ((List.range 8).map fun k => bit x.pfcStopped k && !bit mask k)) s

/-- PAUSE_TIME_EXPIRY (R177). -/
def execPauseTimeExpiry (port mask : Nat) (s : State) : Host.Outcome State Fault Refusal :=
  .next (pauseExpiry port mask (start s))

/-! ### Cells (R175, R178, R206) -/

/-- The cells of a frame are freed: in the packet SRAM, where its port counts them, or in the DRAM pool. -/
def freeFrame (f : Frame) (s : State) : State :=
  if f.sram then
    let s := onWire (fun w => { w with sramFree := w.sramFree + f.cells }) s
    settleXoff (if 4 < f.ingress then s
      else onPort f.ingress (fun x => { x with cells := x.cells.modify f.rxPrio (· - f.cells) }) s)
  else onQme (poolReturn f.cells) s

/-- A frame takes cells of packet SRAM on its port; none where too few are free, or where the priority has used its headroom
above XOFF (R175, R178), or where without pause a FIFO that waits for a packet core has filled to XOFF (R176). -/
def takeCells (p k n : Nat) (s : State) : Option State :=
  let x := port p s
  let i := if x.cfg.flow = 1 then 0 else k
  let paused := (pausePriorities x).contains i
  let full := if paused then decide (x.cfg.xoff + x.cfg.headroom < pauseCount x i + n)
    else bit x.blocked k && decide (x.cfg.xoff < x.cells.getD k 0 + n)
  if decide (s.wire.sramFree < n) || full then none
  else some (settleXoff (onPort p (fun y => { y with cells := y.cells.modify k (· + n) })
    (onWire (fun w => { w with sramFree := w.sramFree - n }) s)))

end Sys2Proof.Machine
end

