-- ==== Sys2Proof/Machine/Removal.lean ====
section
/-! DEFINITION. What removing a station, dropping its frames and erasing a key come to, across the blocks they touch
(R113, R131, R132, R135, R150, R163, R182, R274, R311, R388). -/
namespace Sys2Proof.Machine

/-- The air group changed by a function. -/
def onAir (f : Air → Air) (s : State) : State := { s with air := f s.air }
/-- The scheduler changed by a function. -/
def onMls (f : Milliner → Milliner) (s : State) : State := { s with mls := f s.mls }
/-- The low-rate radio changed by a function. -/
def onDrz (f : Drz → Drz) (s : State) : State := { s with drz := f s.drz }
/-- The modem group changed by a function. -/
def onModem (f : Modem → Modem) (s : State) : State := { s with modem := f s.modem }

/-- A station. -/
def station (h : Nat) (s : State) : Option Station := Tab.look s.air.stations h
/-- A station changed by a function. -/
def onStation (h : Nat) (f : Station → Station) (s : State) : State :=
  onAir (fun a => { a with stations := Tab.modify a.stations h f }) s
/-- A BSS. -/
def bss (b : Nat) (s : State) : Option Bss := Tab.look s.air.bss b
/-- A BSS changed by a function. -/
def onBss (b : Nat) (f : Bss → Bss) (s : State) : State :=
  onAir (fun a => { a with bss := Tab.modify a.bss b f }) s

/-- A slice. -/
def slice (n : Nat) (s : State) : Slice := s.radio.slices.get n
/-- A slice changed by a function. -/
def onSlice (n : Nat) (f : Slice → Slice) (s : State) : State :=
  { s with radio := { s.radio with slices := s.radio.slices.set n (f (slice n s)) } }
/-- The air MAC of a slice. -/
def mac (n : Nat) (s : State) : SliceMac := s.air.macs.get n
/-- The air MAC of a slice changed by a function. -/
def onMac (n : Nat) (f : SliceMac → SliceMac) (s : State) : State :=
  onAir (fun a => { a with macs := a.macs.set n (f (mac n s)) }) s

/-- Chains that may transmit (R45, R59). -/
def chainsOn (x : Slice) : List Nat :=
  (List.range 8).filter fun i => x.chainMask.getLsbD i && (x.chains[i]?.map (·.band)) != some .disabled

/-- The slice transmits nothing: its TX lock is set, or no chain can transmit (R43, R45). -/
def txBlocked (x : Slice) : Bool := x.txLock || (chainsOn x).isEmpty

/-- A slice carries traffic: READY and not TX locked (R45, R120). -/
def sliceUsable (n : Nat) (s : State) : Bool := (slice n s).state == .ready && !txBlocked (slice n s)

/-- A station has a usable link on a slice (R120). -/
def linkUsable (x : Station) (n : Nat) (s : State) : Bool := x.links.get n != 255 && sliceUsable n s

/-- The lowest slice on which a station has a usable link. -/
def usableLink (x : Station) (s : State) : Option Nat := [0, 1, 2].find? fun n => linkUsable x n s

/-- The link mask of a station (R135). -/
def linkMask (x : Station) : Nat := bitsNat (x.links.toList.map fun b => b != 255)

/-! ### Frames of the link cores (R107) -/

/-- The first element that passes a test, changed by a function. -/
def mapFirst {α : Type} (p : α → Bool) (f : α → α) : List α → List α
  | [] => []
  | x :: r => if p x then f x :: r else x :: mapFirst p f r

/-- A frame of a link core waits on the AC_VO function of a slice. -/
def queueMgmt (n : Nat) (f : MgmtFrame) (s : State) : State := onMac n (fun m => { m with mgmt := m.mgmt ++ [f] }) s

/-- A frame of a link core to an address: its station where it has one, what frame it is and what it says. -/
def coreFrame (station addr frame : Nat) (b : MgmtBody) : MgmtFrame := ⟨station, addr, 0, frame, b, 0, false⟩

/-- A frame of a link core to a station waits on its lowest usable link, where it has one. -/
def coreTo (h frame : Nat) (b : MgmtBody) (s : State) : State :=
  match station h s with
  | none => s
  | some x => match usableLink x s with
    | some n => queueMgmt n (coreFrame h x.addr frame b) s
    | none => s

/-! ### Frames that meet their fate (R132, R262) -/

/-- An injected frame has met its fate: its completion is due (R261). -/
def injectFate (e : Option (Nat × Nat)) (status stamp : Nat) (s : State) : State :=
  match e with
  | none => s
  | some (r, i) => onRing r (fun q => { q with done := q.done ++ [(i, status, stamp)] }) s

/-- Queue ID of a station's TID queue. -/
def stationQueue (h tid : Nat) : Nat := h * 8 + tid

/-- A queued MPDU leaves its station's queue with a transmit status: its cells are freed and an inject completion is due. -/
def endMpdu (h : Nat) (m : Mpdu) (status stamp : Nat) (s : State) : State :=
  let s := onStation h (fun x =>
    { x with headAt := if ((x.queue.find? fun y => y.tid == m.tid).any fun y => y.id == m.id) then x.headAt.set m.tid (runTime s)
               else x.headAt
             queue := x.queue.filter fun y => y.id != m.id }) s
  injectFate m.inject status stamp
    (freeCells false (cellsOf m.length) (leaveCells (stationQueue h m.tid) (cellsOf m.length) s))

/-- An MPDU is dropped: counted by its status, and a BlockAckReq is owed where its TID has a session (R113). -/
def dropMpdu (h : Nat) (status : Nat) (s : State) (m : Mpdu) : State :=
  onStation h (fun x =>
    { x with nFailed := if status = 1 ∨ status = 2 then inc 64 x.nFailed else x.nFailed
             nErased := if status = 3 then inc 32 x.nErased else x.nErased
             barOwed := if (Tab.look x.sessions m.tid).isSome && !x.barOwed.contains m.tid then x.barOwed ++ [m.tid]
               else x.barOwed }) (endMpdu h m status (rawTime s) s)

/-- The queued MPDUs of a station that a test picks are dropped with a status; answers their number. -/
def dropMpdus (h : Nat) (pick : Mpdu → Bool) (status : Nat) (s : State) : Nat × State :=
  match station h s with
  | none => (0, s)
  | some x =>
    let l := x.queue.filter pick
    (l.length, settleShapers (l.foldl (dropMpdu h status) s))

/-- The queued MPDUs of a station end with status TX_LOCKED where no link of it is usable and one is on a READY slice that
transmits nothing (R43, R45, R132). -/
def lockedStation (h : Nat) (s : State) : State :=
  match station h s with
  | none => s
  | some x =>
    let locked (n : Nat) : Bool := x.links.get n != 255 && (slice n s).state == .ready && txBlocked (slice n s)
    if (usableLink x s).isNone && [0, 1, 2].any locked then (dropMpdus h (fun m => m.flight.isNone) 5 s).2 else s

/-- Frames of a queue other than a station's leave it: their cells are freed. -/
def endFrame (q : Nat) (f : Frame) (status : Nat) (s : State) : State :=
  injectFate f.inject status (rawTime s) (freeFrame f (leaveCells q f.cells s))

/-- Every frame of a queue is dropped; answers their number. -/
def dropFrames (q status : Nat) (s : State) : Nat × State :=
  let l := (queue q s).frames
  (l.length, settleShapers (l.foldl (fun t f => endFrame q f status t) (onQueue q (fun i => { i with frames := [] }) s)))

/-- The outstanding command of a code, transport and tag. -/
def findOwn (code : Nat) (o : Via × Nat) (s : State) : Option AsyncCmd :=
  s.mbox.async.find? fun a => a.code == code && a.via == o.1 && a.tag == o.2

/-- A Drizzle frame ends with its transmit status, and so does its DRZ_SEND (R380, R397). -/
def drzEnd (f : DrzFrame) (status : Nat) (s : State) : State :=
  let lost := f.kind == 0 && ((Tab.look s.drz.nodes f.node).any fun n => n.lost)
  match f.owner.bind fun o => findOwn 0x0C04 o s with
  | none => s
  | some a =>
    endAsync a ST.ok (leBytes 1 status ++ leBytes 1 f.attempts ++ leBytes 1 (bitsNat [f.wake == 2 || f.fullTried != 0, lost])
      ++ leBytes 1 0 ++ leBytes 4 f.stamp ++ leBytes 4 f.counter) s

/-- Queue ID of Drizzle queue `p`. -/
def drzQueueId (p : Nat) : Nat := 16480 + p

/-- A queued Drizzle frame leaves its queue. -/
def drzLeave (f : DrzFrame) (s : State) : State :=
  let n := cellsOf f.payload.length
  freeCells false n (leaveCells (drzQueueId f.queue) n s)

/-- The queued Drizzle frames that a test picks end with a status; answers their number. -/
def drzDrop (pick : DrzFrame → Bool) (status : Nat) (s : State) : Nat × State :=
  let l := s.drz.queue.filter pick
  (l.length, l.foldl (fun t f => drzEnd f status (drzLeave f t))
    (onDrz (fun d => { d with queue := d.queue.filter fun f => !pick f }) s))

/-! ### Key erases (R131, R182, R311, R388) -/

/-- A key-slot handle holds a key, writes under way included. -/
def keyHeld (h : Nat) (s : State) : Bool :=
  match s.sec.writes.reverse.find? fun w => w.handle == h with
  | some w => w.key.isSome
  | none => (Tab.look s.sec.keys h).isSome

/-- The key of a slot as the pipelines read it. -/
def keyOf (h : Nat) (s : State) : Option Bytes := Tab.look s.sec.keys h

/-- Frames queued on an erased slot are dropped with status KEY_ERASED; answers their number. MACsec frames are dropped as
they are sent (R182). -/
def eraseDrops (h : Nat) (s : State) : Nat × State :=
  if h < 4096 then
    let now := (station (h / 2) s).any fun x => x.ptk == h
    dropMpdus (h / 2) (fun m => m.flight.isNone && (match m.slot with | some k => k == h | none => now)) 3 s
  else if h < 4384 then
    let b := (h - 4096) / 6
    if (bss b s).any fun x => x.groupKey == h then
      let r := dropFrames (16384 + b) 3 s
      (r.1, onBss b (fun x => { x with groupHeld := 0, groupReady := 0 }) r.2)
    else (0, s)
  else if h / 8192 = 1 then drzDrop (fun f => f.key == h) 3 s
  else (0, s)

/-- The station an erase of a slot concerns: its number, or 0xFFFF. -/
def slotStation (h : Nat) : Nat := if h < 4096 then h / 2 else 0xFFFF

/-- EV_KEY_ERASED_IN_USE's payload (R136). -/
def erasedPayload (h stn n : Nat) : Bytes := leBytes 2 h ++ leBytes 2 stn ++ leBytes 2 n

/-- A slot is erased whole, and the frames queued on it meet R131's outcomes (R311). -/
def eraseSlot (h : Nat) (s : State) : State :=
  let r := eraseDrops h { s with sec := { s.sec with keys := Tab.del s.sec.keys h
                                                     writes := s.sec.writes.filter fun w => w.handle != h } }
  if r.1 = 0 then r.2 else raise 0x0305 (erasedPayload h (slotStation h) r.1) r.2

/-- A slot is written whole (R311). -/
def writeSlotKey (h : Nat) (key : Bytes) (s : State) : State :=
  { s with sec := { s.sec with keys := Tab.put s.sec.keys h key
                               writes := s.sec.writes.filter fun w => w.handle != h } }

/-- Keys that are held are erased. -/
def eraseHeld (l : List Nat) (s : State) : State :=
  l.foldl (fun t h => if keyHeld h t then eraseSlot h t else t) s

/-! ### Cumulus peers (R81, R84) -/

/-- Every soft-buffer entry of a peer is freed (R84). -/
def freeSoft (peer : Nat) (s : State) : State :=
  onModem (fun m => { m with soft := m.soft.filter fun e => e.peer != peer }) s

/-- Combining with a peer ends (R81, R85). -/
def cumulusDown (peer reason : Nat) (s : State) : State :=
  match Tab.look s.modem.peers peer with
  | none => s
  | some p =>
    let s := freeSoft peer (onModem (fun m => { m with peers := Tab.put m.peers peer { p with active := false } }) s)
    if p.active then raise 0x0381 (leBytes 2 peer ++ leBytes 1 reason) s else s

/-! ### Stations (R135, R150, R163, R274) -/

/-- A TXOP without a station; none where no user is left and it had not begun with others. -/
def planWithout (h : Nat) (p : Plan) : Plan :=
  { p with txops := (p.txops.map fun t => { t with users := t.users.filter (· != h) }).filter fun t => !t.users.isEmpty }

/-- A station leaves the plans, the Crown, the pins and the schedules; its held MPDUs are discarded (R150, R158, R163). -/
def crownForget (h : Nat) (s : State) : State :=
  onMls (fun m =>
    { m with plan := planWithout h m.plan, next := m.next.map (planWithout h)
             crown := m.crown.filter fun e => e.station != h
             queue := m.queue.filter fun o => o.station != h
             flight := m.flight.filter fun o => o.station != h
             waiting := m.waiting.filter (· != h)
             hold := m.hold.filter fun x => x.mpdu.station != h
             settings := { m.settings with pins := m.settings.pins.filter (· != h) }
             snapshot := { m.snapshot with pins := m.snapshot.pins.filter (· != h) }
             evicted := (m.evicted.1.filter (· != h), m.evicted.2.filter (· != h))
             members := m.members.filter fun e => e.2.2.2 != h }) s

/-- A station leaves the forwarding tables (R191, R201). -/
def forwardForget (h : Nat) (s : State) : State :=
  onWire (fun w =>
    { w with macs := w.macs.filter fun e => e.station != some h
             groups := w.groups.map fun g => { g with members := g.members.filter (· != h) } }) s

/-- A station leaves the MACs: no PPDU fixed later carries it (R150). -/
def macForget (h : Nat) (s : State) : State :=
  onAir (fun a =>
    { a with macs := a.macs.map fun m => { m with
               txop := m.txop.map fun t => { t with users := t.users.filter (· != h) }
               mgmt := m.mgmt.filter fun e => e.station != h }
             mic := a.mic.filter fun e => e.station != h
             bss := Tab.mapVals (fun b => { b with rekeyWaiting := b.rekeyWaiting.filter fun e => e.1 != h }) a.bss }) s

/-- The BSS a station associated on. -/
def homeBss (x : Station) : Nat := x.links.get x.home

/-- The server that takes requests of a profile: the primary, or the secondary where it is present and the primary is dead;
none where no server is left (R309). -/
def radiusServer (n : Nat) (s : State) : Option Bool :=
  match Tab.look s.sec.radius n with
  | none => none
  | some p =>
    if !p.dead.1 then some false
    else if bit (rd p.bytes 2 1) 1 && !p.dead.2 then some true else none

/-- Accounting of an authorised station, where its profile enables it: 1 start, 2 stop (R309). -/
def accounting (h kind : Nat) (s : State) : State :=
  match (station h s).bind fun x => bss (homeBss x) s with
  | none => s
  | some b =>
    if (Tab.look s.sec.radius b.radius).any fun p => bit (rd p.bytes 2 1) 0 then
      match radiusServer b.radius s with
      | some v => emit (.radius b.radius v kind h) s
      | none => s
    else s

/-- The payload of EV_TWT_CHANGED (R136). -/
def twtPayload (h torn flow : Nat) : Bytes := leBytes 2 h ++ leBytes 1 torn ++ leBytes 1 flow

/-- The TWT agreements of a station are torn down, each with its event (R126). -/
def tearDownTwts (h : Nat) (s : State) : State :=
  (((station h s).map (·.twts)).getD []).foldl (fun t a => raise 0x0306 (twtPayload h 1 a.flow) t)
    (onStation h (fun x => { x with twts := [] }) s)

/-- EV_STA_DISASSOC's payload (R136). -/
def disassocPayload (h cause reason : Nat) : Bytes :=
  leBytes 2 h ++ leBytes 1 cause ++ leBytes 1 0 ++ leBytes 2 reason

/-- Steps 2 to 4 of STA_DISCONNECT: the keys are erased, the queues flushed, the Crown entry and the handle freed and
EV_STA_DISASSOC raised (R135). -/
def removeStation (h cause reason : Nat) (s : State) : State :=
  if (station h s).isNone then s
  else
    let s := tearDownTwts h (if (station h s).any fun x => x.ptk != 0xFFFF then accounting h 2 s else s)
    let s := eraseHeld [2 * h, 2 * h + 1] s
    let s := (dropMpdus h (fun _ => true) 4 s).2
    let s := if (Tab.look s.modem.peers h).isSome then
        onModem (fun m => { m with peers := Tab.del m.peers h }) (cumulusDown h 2 s) else s
    let s := detachSource h (detachObject (0, h) (macForget h (forwardForget h (crownForget h s))))
    let s := { s with sec := { s.sec with requests := s.sec.requests.filter fun r => r.station != h } }
    let s := onAir (fun a => { a with stations := Tab.del a.stations h, freed := a.freed ++ [(h, s.mem.seconds)] }) s
    settleShapers (raise 0x0302 (disassocPayload h cause reason) s)

/-- The outstanding STA_DISCONNECT of a station. -/
def disconnecting (h : Nat) (s : State) : Option AsyncCmd :=
  s.mbox.async.find? fun a => a.code == 0x0305 && rd a.payload 0 2 == h

/-- The aborts that wait for a command are answered with its final transmit status (R133). -/
def answerAborts (code tag status : Nat) (s : State) : State :=
  let l := s.mbox.aborts.filter fun w => w.code == code && w.target == tag
  l.foldl (fun t w => post w.via 0x0005 w.tag ST.nothingToAbort (leBytes 1 status ++ leBytes 1 0 ++ leBytes 2 code) t)
    (onMbox (fun m => { m with aborts := m.aborts.filter fun w => !(w.code == code && w.target == tag) }) s)

/-- A STA_DISCONNECT ends: waiting aborts are answered first (R133, R135). -/
def endDisconnect (h status : Nat) (s : State) : State :=
  match disconnecting h s with
  | none => s
  | some a => endAsync a ST.ok (leBytes 2 h ++ leBytes 1 status) (answerAborts 0x0305 a.tag status s)

/-- A station is removed for a cause other than its STA_DISCONNECT; a disconnect still under way ends with its frame not
sent. -/
def dismissOne (h cause reason : Nat) (s : State) : State := endDisconnect h 7 (removeStation h cause reason s)

/-- The handle a new station takes: the lowest never issued, else the one freed longest ago, 1 s past its freeing (R274). The
count of whole operating seconds shows that 1 s has passed. -/
def newHandle (s : State) : Option Nat :=
  match (List.range 2048).find? fun h => (station h s).isNone && !(s.air.freed.any fun e => e.1 == h) with
  | some h => some h
  | none => (s.air.freed.find? fun e => decide (e.2 + 2 ≤ s.mem.seconds)).map Prod.fst

/-- Stations associated with a BSS. -/
def stationsOf (b : Nat) (s : State) : List Nat :=
  (s.air.stations.filter fun e => e.2.links.toList.contains b).map Prod.fst

/-- EV_STA_LINKS_CHANGED (R120). -/
def linksChanged (h old new : Nat) (s : State) : State := raise 0x0303 (leBytes 2 h ++ leBytes 1 old ++ leBytes 1 new) s

/-! ### The end of a BSS (R135) -/

/-- A station loses its link on a slice; with no link left it is removed (R120, R135). -/
def loseLink (n h : Nat) (s : State) : State :=
  match station h s with
  | none => s
  | some x =>
    let links := x.links.set n 255
    if links.toList.all (· == 255) then dismissOne h 3 3 s
    else
      let home := if x.home = n then (([0, 1, 2].find? fun m => links.get m != 255).getD n) else x.home
      linksChanged h (linkMask x) (linkMask { x with links := links })
        (onStation h (fun x => { x with links := links, home := home, emlsrOn := if x.emlsrOn = some n then none else x.emlsrOn }) s)

/-- BSS_DELETE completes: the group keys are erased, the stations lose the link, the BSS and its schedules are removed, and
EV_CMD_DONE carries the worst transmit status (R16, R135). -/
def finishDelete (b : Nat) (s : State) : State :=
  match bss b s with
  | none => s
  | some x =>
    let worst := ((x.deleting.bind id).getD 7)
    let s := eraseHeld ((List.range 6).map fun i => 4096 + 6 * b + i) s
    let s := (stationsOf b s).foldl (fun t h => loseLink x.slice h t) s
    let s := (dropFrames (16384 + b) 4 s).2
    let s := onMls (fun m => { m with
        twt := m.twt.filter (·.bss != b), twtSnap := m.twtSnap.filter (·.bss != b), twtNow := m.twtNow.filter (·.bss != b)
        members := m.members.filter (·.1 != b), openSps := m.openSps.filter (·.1 != b)
        persisted := m.persisted.filter (·.1 != b) }) (detachObject (1, b) s)
    let s := onSec (fun c => { c with sae := c.sae.filter fun e => e.bss != b }) s
    let s := cfgDrop (fun r => (r.code == 0x0301 && rd r.payload 61 1 == b)
      || ((r.code == 0x0303 || r.code == 0x0406) && rd r.payload 0 1 == b)) s
    let s := onAir (fun a => { a with bss := Tab.del a.bss b }) s
    match s.mbox.async.find? fun a => a.code == 0x0302 && rd a.payload 0 1 == b with
    | some a => endAsync a ST.ok (leBytes 1 worst) (answerAborts 0x0302 a.tag worst s)
    | none => s

/-- Frames of a BSS_DELETE still wait on its slice. -/
def deleteWaits (b n : Nat) (s : State) : Bool :=
  (mac n s).mgmt.any fun f => f.owner == 2 && (station f.station s).any fun x => x.links.get n == b

/-- A BSS_DELETE completes once none of its frames waits, whatever took the last of them away (R133, R135). -/
def settleDeletes (s : State) : State :=
  (s.air.bss.filter fun e => e.2.deleting.isSome).foldl (fun t e =>
    if deleteWaits e.1 e.2.slice t then t else finishDelete e.1 t) s

/-- A station is removed as a whole: a BSS_DELETE that waited for it alone completes. -/
def dismiss (h cause reason : Nat) (s : State) : State := settleDeletes (dismissOne h cause reason s)

/-- A Deauthentication is given to AC_VO of a usable link, addressed to the station, and the station removed (R107; that the
removal does not wait for it is a DESIGN CHOICE, log 69). -/
def deauth (h cause reason : Nat) (s : State) : State :=
  let s := match station h s with
    | none => s
    | some x => match usableLink x s with
      | some n => queueMgmt n (coreFrame 0xFFFF x.addr 8 (.leave reason)) s
      | none => s
  dismiss h cause reason s

/-! ### Uncorrectable reads (R327) -/

/-- The frame at the head of a queue in DRAM is discarded: `obj` is its queue ID, one past the last the hold area. The status it ends
with, NOT_SENT or dropped, is a DESIGN CHOICE (log entry 68). -/
def frameLost (obj : Nat) (s : State) : State :=
  if obj < 16384 then
    match (station (obj / 8) s).bind fun x => x.queue.find? fun m => m.tid == obj % 8 with
    | some m => (dropMpdus (obj / 8) (fun y => y.id == m.id) 7 s).2
    | none => s
  else if 16480 ≤ obj ∧ obj < 16488 then
    match s.drz.queue.find? fun f => f.queue == obj - 16480 with
    | some f => (drzDrop (· == f) 7 s).2
    | none => s
  else if 16488 < obj then onMls (fun m => { m with hold := m.hold.drop 1 }) s
  else match (queue obj s).frames.find? fun f => !f.sram with
    | some f => settleShapers (endFrame obj f 16 (onQueue obj (fun i => { i with frames := i.frames.erase f }) s))
    | none => s

/-- What a lasting uncorrectable read does to its reader (R327); a Crown entry's loss is CROWN_ENTRY_LOST. -/
def eccReader (reader obj : Nat) (s : State) : State :=
  match reader with
  | 1 => frameLost obj (onMem (fun m => { m with losses := inc 32 m.losses }) s)
  | 2 => { s with modem := { s.modem with soft := s.modem.soft.eraseIdx obj } }
  | 3 => { s with qme := { s.qme with samples := s.qme.samples.eraseIdx obj, lostFlag := true } }
  | 4 =>
    let s := onMem (fun m => { m with shadow := match m.active with
      | some 0 => m.bankA.body
      | some _ => m.bankB.body
      | none => [] }) s
    match firstAsync 0x0902 s with
    | some a => endAsync a ST.faultLasting [] s
    | none => s
  | 5 => raiseWith 0x0005 (leBytes 1 obj ++ leBytes 7 0) false true []
      (setFault 0x0005 (leBytes 1 obj ++ leBytes 1 0) s)
  | _ => s

/-- The retry of an uncorrectable read: right (transient), or failed (lasting): counted, its event raised, the page retired
with cause 0, and the reader's outcome (R327, R329, R436). -/
def eccRetry (addr reader obj : Nat) (ok : Bool) (s : State) : State :=
  if !powered 10 s then s
  else
    let pay := leBytes 8 addr ++ leBytes 1 reader
    if ok then
      transientFault 0x0902 pay (onMem (fun m => { m with uncTransient := inc 32 m.uncTransient }) s)
    else
      eccReader reader obj
        (retirePage (addr / 4096) 0 (reader == 1)
          (lastingFault 0x0902 pay true (onMem (fun m => { m with uncLasting := inc 32 m.uncLasting }) s)))

/-- ECC_READ_RETRY (R327). -/
def execEccReadRetry (addr reader obj : Nat) (ok : Bool) (s : State) : Host.Outcome State Fault Refusal :=
  .next (eccRetry addr reader obj ok (start s))

end Sys2Proof.Machine
end

