-- ==== Sys2Proof/Machine/Security.lean ====
section
/-! DEFINITION. The Hatbox: identity, sealed blobs, keys, tokens, debug, handshakes, RADIUS and the cipher engine
(chapter 12). -/
namespace Sys2Proof.Machine

/-- Sealed blobs, key import, cipher jobs and handshakes are refused: BLANK, RMA, and after a JTAG unlock (R290, R294). -/
def keysRefused (s : State) : Bool := s.sec.restricted

/-- No handshake runs: R294 holds, or no random number is issued (R289). -/
def handshakesRefused (s : State) : Bool := s.sec.restricted || s.sec.trngFailed

/-- Lifecycle as SYS_GET_INFO numbers it (R279). -/
def lifecycleCode : Lifecycle → Nat
  | .blank => 0 | .provisioned => 1 | .deployed => 2 | .rma => 3

/-! ### SEC_GET_IDENTITY (R301, R316) -/

/-- The attestation record but for its signature (R316). -/
def attestation (u : Ump) (s : State) : Bytes :=
  fit 8 s.sec.serial ++ leBytes 4 (fwVer s) ++ leBytes 1 (lifecycleCode s.sec.lifecycle) ++ leBytes 1 s.power.image
    ++ leBytes 1 (bitsNat [s.sec.debugScope != 0, s.sec.restricted]) ++ leBytes 1 0 ++ leBytes 4 s.sec.antiRollback
    ++ fit 48 u.env.plain ++ field u.data 4 32

/-- SEC_GET_IDENTITY's answer; its signatures and the image digest are what the Hatbox returns. -/
def getIdentity (u : Ump) (s : State) : Reply :=
  let op := u.b8 0
  judge ([shortOp u 0 2 (match op with | 0 => 1 | 1 => 36 | _ => 4), param (decide (2 < op))] ++ gate 0x0501 false [] s
    ++ [(op == 1 && s.sec.trngFailed, ST.faultLasting)]) s fun _ =>
    match op with
    | 0 => reply (fit 97 s.sec.sealing.1 ++ fit 8 s.sec.sealing.2 ++ fit 96 u.env.plain) s
    | 1 => reply (attestation u s ++ fit 96 (u.env.plain.drop 48)) s
    | _ =>
      let cert := if s.sec.lifecycle = .rma then [] else s.sec.certificate
      let part := (cert.drop (u.b16 2)).take 224
      reply (leBytes 2 cert.length ++ leBytes 2 (u.b16 2) ++ leBytes 2 part.length ++ leBytes 2 0 ++ part) s

/-- SEC_GET_IDENTITY (R301). -/
def execSecGetIdentity (m : Ump) (s : State) : Host.Outcome State Fault Refusal :=
  .next (serve 0x0501 getIdentity m s)

/-! ### Sealed blobs (R302 to R304) -/

/-- Body lengths of a blob kind (R303). -/
def bodyRange (kind n : Nat) : Bool :=
  match kind with
  | 1 => decide (1 ≤ n ∧ n ≤ 128)
  | 2 => decide (32 ≤ n ∧ n ≤ 160)
  | 3 => decide (16 ≤ n ∧ n ≤ 128)
  | 4 => n == 16 || n == 32
  | 5 => n == 40
  | _ => false

/-- The checks of a blob's clear header at step 11: magic, kind and field ranges, then the lengths (R304). -/
def blobChecks (kinds : List Nat) (b : Bytes) : List (Bool × Nat) :=
  let n := rd b 12 2
  [(rd b 0 4 != 0x314C4553 || !kinds.contains (rd b 5 1) || n == 0 || decide (256 < n), ST.badParam),
   (b.length != 96 + n || !bodyRange (rd b 5 1) n, ST.badLength)]

/-- Kind and label of a blob. -/
def blobKey (b : Bytes) : Nat := rd b 5 1 * 65536 + rd b 6 2
/-- Serial of a blob. -/
def blobSerial (b : Bytes) : Nat := rd b 8 4

/-- A new label when 1024 are kept (R304 check 3). -/
def labelsFull (b : Bytes) (s : State) : Bool × Nat :=
  ((Tab.look s.sec.serials (blobKey b)).isNone && decide (1024 ≤ s.sec.serials.length), ST.noResource)

/-- The format, and a serial below the one kept (R304 check 4). -/
def blobStale (b : Bytes) (s : State) : Bool × Nat :=
  (rd b 4 1 != 1 || decide (blobSerial b < Tab.getD s.sec.serials (blobKey b) 0), ST.versionMismatch)

/-- A blob opens: it is sealed to this device's key, and its tag holds (R304 check 5). -/
def blobOpens (b : Bytes) (opens : Bool) (s : State) : Bool := opens && field b 16 8 == fit 8 s.sec.sealing.2

/-- The body a blob opens to: as many bytes as its header says (R302). -/
def blobBody (b body : Bytes) : Bytes := fit (rd b 12 2) body

/-- The Hatbox keeps the highest serial accepted (R304). -/
def keepSerial (b : Bytes) (s : State) : State :=
  onSec (fun c => { c with serials := Tab.put c.serials (blobKey b) (max (blobSerial b) (Tab.getD c.serials (blobKey b) 0)) }) s

/-- Handle of the credential of a kind and label. -/
def credentialOf (key : Nat) (s : State) : Option Nat :=
  (s.sec.credentials.find? fun e => e.2.kind * 65536 + e.2.label == key).map Prod.fst

/-- BSSs that use a credential. -/
def credentialUses (h : Nat) (s : State) : Nat := (s.air.bss.filter fun e => e.2.credential == h).length

/-- The completion payload of SEC_LOAD_SEALED (R316). -/
def credentialDone (h : Nat) (c : Credential) (s : State) : Bytes :=
  leBytes 2 h ++ leBytes 1 c.kind ++ leBytes 1 (credentialUses h s) ++ leBytes 2 c.label ++ leBytes 2 0 ++ leBytes 4 c.serial

/-- SEC_LOAD_SEALED up to ST_PENDING (R304, R316). -/
def loadSealed (u : Ump) (s : State) : Reply :=
  let op := u.b8 0
  let h := u.b16 2
  let b := u.data.drop 4
  let have_ := credentialOf (blobKey b) s
  let locks := match op with
    | 0 => Obj.label (blobKey b) :: (have_.map Obj.credential).toList
    | 1 => [Obj.credential h]
    | _ => []
  judge ([shortOp u 0 2 (if op = 0 then 100 else 4), param (decide (2 < op)),
      param (op != 0 && (Tab.look s.sec.credentials h).isNone), (op == 0 && keysRefused s, ST.notAuthorised)]
    ++ (if op = 0 then blobChecks [1, 2] b else []) ++ gate 0x0502 true locks s
    ++ (if op = 0 then
        [(have_.isNone && decide (256 ≤ s.sec.credentials.length), ST.noResource), labelsFull b s, blobStale b s]
      else [(op == 1 && credentialUses h s != 0, ST.badState)])) s fun _ => pending u 0x0502 locks s

/-- SEC_LOAD_SEALED (R304): its job ends at HATBOX_JOB_DONE. -/
def execSecLoadSealed (m : Ump) (s : State) : Host.Outcome State Fault Refusal :=
  .next (serve 0x0502 loadSealed m s)

/-- A vault write of a job fails lastingly: EV_MRAM_WRITE_FAIL, and the command ends with ST_FAULT_LASTING (R277, R332). -/
def endVault (a : AsyncCmd) (hw : Retry) (payload : Bytes) (before effect : State) : State :=
  match hw with
  | .lasting => endAsync a ST.faultLasting [] (feltWrite hw 0x88000 before)
  | .retried => endAsync { a with retried := true } ST.ok payload (setAsync a { a with retried := true } (feltWrite hw 0x88000 effect))
  | .ok => endAsync a ST.ok payload effect

/-- The job of SEC_LOAD_SEALED ends (R304). -/
def loadSealedDone (a : AsyncCmd) (opens : Bool) (body : Bytes) (hw : Retry) (s : State) : State :=
  let d := a.ext
  let h := rd d 2 2
  let b := d.drop 4
  let done (h : Nat) (t : State) : Bytes := match Tab.look t.sec.credentials h with
    | some c => credentialDone h c t
    | none => []
  match rd d 0 1 with
  | 0 =>
    if !blobOpens b opens s then endAsync a ST.authFail [] s
    else
      let put (h : Nat) : State := onSec (fun c =>
        { c with credentials := Tab.put c.credentials h ⟨rd b 5 1, rd b 6 2, blobSerial b, blobBody b body⟩
                 elements := c.elements.filter fun e => e.1 != h }) (keepSerial b s)
      match credentialOf (blobKey b) s with
      | some h =>
        if (Tab.look s.sec.credentials h).any fun c => c.serial == blobSerial b then endAsync a ST.ok (done h s) s
        else endVault a hw (done h (put h)) s (put h)
      | none =>
        match Tab.lowestFree s.sec.credentials 0 255 with
        | some h => endVault a hw (done h (put h)) s (put h)
        | none => endAsync a ST.noResource [] s
  | 1 => endVault a hw (done h s) s (onSec (fun c =>
      { c with credentials := Tab.del c.credentials h, elements := c.elements.filter fun e => e.1 != h }) s)
  | _ => endAsync a ST.ok (done h s) s

/-! ### RADIUS profiles (R309, R316) -/

/-- A VLAN is a router interface (R192, R203). -/
def isInterface (v : Nat) (s : State) : Bool := (Tab.look s.wire.vlans v).any fun x => bit x.flags 4

/-- An IPv4 or IPv6 server address: an address of zeros is none (R273). -/
def noAddress (d : Bytes) : Bool := beNat d == 0

/-- The fields of SEC_SET_RADIUS Op 0 that are out of range (R316). -/
def radiusArgsBad (d : Bytes) (s : State) : Bool :=
  decide (5 < rd d 3 1) || decide (rd d 4 2 < 10) || decide (300 < rd d 4 2) || !isInterface (rd d 6 2) s
    || decide (rd d 44 2 < 10) || decide (3600 < rd d 44 2) || decide (rd d 46 2 < 5) || decide (120 < rd d 46 2)

/-- SEC_SET_RADIUS up to ST_PENDING. -/
def setRadius (u : Ump) (s : State) : Reply :=
  let op := u.b8 0
  let n := u.b8 1
  let b := u.data.drop 56
  let locks := if op = 2 then [] else [Obj.radius n]
  judge ([shortOp u 0 2 (if op = 0 then 168 else 48), param (decide (2 < op) || decide (7 < n)),
      param (op != 0 && (Tab.look s.sec.radius n).isNone), (op == 0 && keysRefused s, ST.notAuthorised)]
    ++ (if op = 0 then param (radiusArgsBad u.data s) :: blobChecks [3] b else []) ++ gate 0x0503 true locks s
    ++ (if op = 0 then [labelsFull b s, blobStale b s]
      else [(op == 1 && s.air.bss.any (fun e => e.2.radius == n), ST.badState)])) s fun _ => pending u 0x0503 locks s

/-- SEC_SET_RADIUS (R309): its job ends at HATBOX_JOB_DONE. -/
def execSecSetRadius (m : Ump) (s : State) : Host.Outcome State Fault Refusal :=
  .next (serve 0x0503 setRadius m s)

/-- The job of SEC_SET_RADIUS ends: bytes 0 to 55 of the profile, with Op and Profile as sent (R316). -/
def setRadiusDone (a : AsyncCmd) (opens : Bool) (body : Bytes) (hw : Retry) (s : State) : State :=
  let d := a.ext
  let n := rd d 1 1
  let done (p : Bytes) : Bytes := (d.take 2) ++ field p 2 54
  let old : Bytes := match Tab.look s.sec.radius n with | some p => p.bytes | none => []
  match rd d 0 1 with
  | 0 =>
    let b := d.drop 56
    if !blobOpens b opens s then endAsync a ST.authFail [] s
    else
      let p := d.take 48 ++ List.replicate 8 0
      endVault a hw (done p) s
        (onSec (fun c => { c with radius := Tab.put c.radius n ⟨p, blobBody b body, (false, false)⟩ }) (keepSerial b s))
  | 1 => endVault a hw (done old) s (onSec (fun c => { c with radius := Tab.del c.radius n }) s)
  | _ => endAsync a ST.ok (done old) s

/-! ### Keys (R310, R311, R316) -/

/-- A handle names a slot of space 1 or 2. -/
def importSlot (h : Nat) : Bool := keyHandleOk h && h / 8192 != 0

/-- SEC_KEY_IMPORT up to ST_PENDING: the command names a slot handle, and the Hatbox alone decides and writes (R15, R287). -/
def keyImport (u : Ump) (s : State) : Reply :=
  let h := u.b16 0
  let v := u.b8 2
  let b := u.data.drop 4
  let vault := h == 0xFFFF
  let held := if vault then (Tab.look s.sec.vaultKeys v).isSome else keyHeld h s
  let lock := Obj.key (if vault then 65536 + v else h)
  judge ([short u 116, param (vault == (v == 0xFF)), param (if vault then decide (63 < v) else !importSlot h),
      (keysRefused s, ST.notAuthorised)]
    ++ blobChecks [4] b
    ++ [(!vault && rd b 12 2 != (if h / 8192 = 1 then 16 else 32), ST.badLength)]
    ++ gate 0x0504 true [lock] s ++ [(held && !bit (u.b8 3) 0, ST.badState), labelsFull b s, blobStale b s]) s
    fun _ => pending u 0x0504 [lock] s

/-- SEC_KEY_IMPORT (R311): its job ends at HATBOX_JOB_DONE. -/
def execSecKeyImport (m : Ump) (s : State) : Host.Outcome State Fault Refusal :=
  .next (serve 0x0504 keyImport m s)

/-- A new key in a Drizzle slot starts its frame counters anew (R387, R389). -/
def newCounters (h : Nat) (s : State) : State :=
  onDrz (fun d => { d with txCounters := Tab.del d.txCounters h, savedCounters := Tab.del d.savedCounters h
                           nodes := Tab.mapVals (fun n => { n with counters := Tab.del n.counters h }) d.nodes }) s

/-- The job of SEC_KEY_IMPORT ends: the key is in its slot and the vault, or in the vault alone. -/
def keyImportDone (a : AsyncCmd) (opens : Bool) (body : Bytes) (hw : Retry) (s : State) : State :=
  let d := a.payload
  let h := rd d 0 2
  let v := rd d 2 1
  let b := d.drop 4
  let body := blobBody b body
  if !blobOpens b opens s then endAsync a ST.authFail [] s
  else
    let t := keepSerial b s
    let t := if h = 0xFFFF then onSec (fun c => { c with vaultKeys := Tab.put c.vaultKeys v body }) t
      else onSec (fun c => { c with vaultSlots := Tab.put c.vaultSlots h body }) (writeSlotKey h body (newCounters h t))
    endVault a hw (d.take 3) s t

/-- A key-slot write or erase begins; KEY_WRITE_COMPLETE ends it (R311). -/
def startWrite (h : Nat) (key : Option Bytes) (s : State) : State :=
  onSec (fun c => { c with writes := (c.writes.filter fun w => w.handle != h) ++ [⟨h, key⟩] }) s

/-! ### Group keys (R308, R310) -/

/-- The group slots of a BSS with key pair `j` (0 or 1): GTK, IGTK and, with beacon protection, BIGTK. -/
def groupSlots (b j : Nat) (beacon : Bool) : List Nat :=
  [4096 + 6 * b + j, 4098 + 6 * b + j] ++ (if beacon then [4100 + 6 * b + j] else [])

/-- Bytes of a group key under a security mode (R127). -/
def groupKeyLength (mode : Nat) : Nat := if mode = 4 then 32 else 16

/-- Keys drawn for a list of slots from random bytes. -/
def drawKeys (n : Nat) : List Nat → Bytes → List (Nat × Bytes)
  | [], _ => []
  | h :: r, rand => (h, fit n rand) :: drawKeys n r (rand.drop n)

/-- An EAPOL frame for a station waits on a usable link of it (on AC_VO like management frames: DESIGN CHOICE, log 69). -/
def eapol (h msg : Nat) (s : State) : State := coreTo h 16 (.handshake msg) s

/-- A rekey starts: the alternate slots are written, and the group key handshake runs with every authorised station. No
group key is generated while the Hatbox takes part in no handshake (R289, R294). -/
def startRekey (b : Nat) (rand : Bytes) (s : State) : State :=
  match bss b s with
  | none => s
  | some x =>
    if x.security = 0 || handshakesRefused s then s
    else
      let j := 1 - (x.groupKey - 4096) % 6 % 2
      let l := drawKeys (groupKeyLength x.security) (groupSlots b j (bit x.flags 4)) rand
      let who := (stationsOf b s).filter fun h => (station h s).any fun y => y.state == 3
      let s := l.foldl (fun t e => startWrite e.1 (some e.2) t) s
      let s := onBss b (fun x => { x with newGroupKey := some (4096 + 6 * b + j), rekeyWaiting := who.map fun h => (h, 1)
                                          rekeyAt := s.mem.seconds }) s
      who.foldl (fun t h => eapol h 5 t) s

/-- The keys of a BSS are due: 86,400 operating seconds after the last rekey (R308). -/
def rekeyDue (b : Nat) (rand : Bytes) (s : State) : State :=
  if (bss b s).any fun x => decide (x.rekeyAt + 86400 ≤ s.mem.seconds) then startRekey b rand s else s

/-- GROUP_REKEY_DUE (R308). -/
def execGroupRekeyDue (bss : Nat) (rand : Bytes) (s : State) : Host.Outcome State Fault Refusal :=
  .next (rekeyDue bss rand (start s))

/-- A station has not answered within 1 s: another attempt, or after 3 it is deauthenticated with reason code 16. -/
def groupRetry (b h : Nat) (s : State) : State :=
  match (bss b s).bind fun x => x.rekeyWaiting.find? fun e => e.1 == h with
  | none => s
  | some (_, n) =>
    if n < 3 then
      eapol h 5 (onBss b (fun x => { x with rekeyWaiting := x.rekeyWaiting.map fun e => if e.1 = h then (h, n + 1) else e }) s)
    else deauth h 4 16 (onBss b (fun x => { x with rekeyWaiting := x.rekeyWaiting.filter fun e => e.1 != h }) s)

/-- GROUP_KEY_RETRY_TIMEOUT (R308). -/
def execGroupKeyRetryTimeout (bss station : Nat) (s : State) : Host.Outcome State Fault Refusal :=
  .next (groupRetry bss station (start s))

/-- The new group key is used and the old slots are erased. -/
def groupSwitch (b : Nat) (s : State) : State :=
  match bss b s with
  | none => s
  | some x =>
    match x.newGroupKey with
    | none => s
    | some g =>
      if !x.rekeyWaiting.isEmpty || !keyHeld g s then s
      else
        let old := groupSlots b ((x.groupKey - 4096) % 6 % 2) (bit x.flags 4)
        eraseHeld old (onBss b (fun x => { x with groupKey := g, newGroupKey := none }) s)

/-- GROUP_KEY_SWITCH (R308): at the first DTIM beacon after every station has answered or been removed. -/
def execGroupKeySwitch (bss : Nat) (s : State) : Host.Outcome State Fault Refusal := .next (groupSwitch bss (start s))

/-- SEC_KEY_ERASE: the vault copy goes at once, the slot when the Hatbox reports the erase done; a group slot of a live BSS
starts a rekey (R311, R316). -/
def keyErase (u : Ump) (s : State) : Reply :=
  let h := u.b16 0
  let v := u.b8 2
  let vault := h == 0xFFFF
  judge ([short u 4, param (vault == (v == 0xFF)),
      param (if vault then decide (63 < v) else !keyHandleOk h || (h / 8192 == 0 && decide (h < 4096)))]
    ++ gate 0x0505 false [Obj.key (if vault then 65536 + v else h)] s) s fun _ =>
    if vault then
      reply [BitVec.ofNat 8 (b2n (Tab.look s.sec.vaultKeys v).isSome)]
        (onSec (fun c => { c with vaultKeys := Tab.del c.vaultKeys v }) s)
    else
      let held := keyHeld h s
      let t := onSec (fun c => { c with vaultSlots := Tab.del c.vaultSlots h }) s
      let t := if held then startWrite h none t else t
      let t := if h / 8192 = 0 && decide (4096 ≤ h) && decide (h < 4384) then startRekey ((h - 4096) / 6) u.env.rand t else t
      reply [BitVec.ofNat 8 (b2n held)] t

/-- SEC_KEY_ERASE (R316). -/
def execSecKeyErase (m : Ump) (s : State) : Host.Outcome State Fault Refusal :=
  .next (serve 0x0505 keyErase m s)

/-- A pairwise slot has been written: MPDUs transmitted under what it held before are dropped, and the station's frames use the slot
from now on, with the PN sequences of the new key; retries under another slot keep theirs (R128, R131). -/
def rewritten (h : Nat) (s : State) : State :=
  let n := h / 2
  let s := (dropMpdus n (fun m => m.flight.isNone && m.attempts != 0 && m.slot == some h) 3 s).2
  onStation n (fun x => { x with ptk := h, txPn := List.replicate 9 0, floor := List.replicate 9 0 }) s

/-- A slot write or erase of the Hatbox is reported done (R15, R130, R131, R287, R311). -/
def keyWriteComplete (h : Nat) (s : State) : State :=
  match s.sec.writes.find? fun w => w.handle == h with
  | none => s
  | some w =>
    match w.key with
    | none => eraseSlot h s
    | some k => (if h < 4096 then rewritten h else id) (writeSlotKey h k s)

/-- KEY_WRITE_COMPLETE (R311). -/
def execKeyWriteComplete (handle : Nat) (s : State) : Host.Outcome State Fault Refusal :=
  .next (keyWriteComplete handle (start s))

/-! ### The cipher engine (R312 to R314) -/

/-- Nonce lengths of a mode (R312). -/
def nonceOk (mode n : Nat) : Bool :=
  match mode with
  | 4 => n == 12
  | 5 => decide (7 ≤ n ∧ n ≤ 13)
  | _ => n == 16

/-- Tag lengths of a mode (R312, R313). -/
def tagOk (mode n : Nat) : Bool :=
  match mode with
  | 4 => decide (12 ≤ n ∧ n ≤ 16)
  | 5 => decide (4 ≤ n ∧ n ≤ 16 ∧ n % 2 = 0)
  | _ => n == 0

/-- Data lengths of a mode (R312). -/
def dataOk (mode n : Nat) : Bool :=
  match mode with
  | 1 => decide (16 ≤ n ∧ n ≤ 65536 ∧ n % 16 = 0)
  | 2 => decide (1 ≤ n ∧ n ≤ 65536)
  | 3 => decide (1 ≤ n ∧ n ≤ 65536)
  | _ => decide (n ≤ 4096)

/-- Engine time of a job in µs: 38 MB/s with AES-128 and 28 MB/s with AES-256 (R312). -/
def engineTime (key : Bytes) (n : Nat) : Nat :=
  let rate := if key.length = 16 then 38 else 28
  (n + rate - 1) / rate

/-- SEC_CIPHER_JOB: the output is what the Hatbox returns, and is written to the host (R313, R314). -/
def cipherJob (u : Ump) (s : State) : Reply :=
  let d := u.data
  let dir := rd d 0 1
  let mode := rd d 1 1
  let v := rd d 2 1
  let tag := rd d 4 1
  let aad := rd d 6 2
  let n := rd d 8 4
  let addr := rd d 16 8
  let aead := decide (4 ≤ mode)
  let total := 40 + aad + n + (if aead && dir == 1 then tag else 0)
  judge ([short u 40, param (decide (63 < v)), (keysRefused s, ST.notAuthorised),
      param (decide (1 < dir) || mode == 0 || decide (5 < mode) || addr == 0 || badHost addr),
      (!nonceOk mode (rd d 3 1) || !tagOk mode tag || decide (1024 < aad) || (!aead && aad != 0) || !dataOk mode n
        || d.length != total, ST.badLength)]
    ++ gate 0x0506 false [] s ++ [((Tab.look s.sec.vaultKeys v).isNone, ST.keyAbsent),
      (aead && dir == 1 && !u.env.auth, ST.authFail)]) s fun _ =>
    let out := fit (n + (if aead && dir == 0 then tag else 0)) u.env.plain
    dmaReply u 0x0506 addr out (leBytes 4 out.length ++ leBytes 4 (engineTime (Tab.getD s.sec.vaultKeys v []) n)) s

/-- SEC_CIPHER_JOB (R313). -/
def execSecCipherJob (m : Ump) (s : State) : Host.Outcome State Fault Refusal :=
  .next (serve 0x0506 cipherJob m s)

/-! ### Tokens (R291 to R293) -/

/-- The lifecycle states in which a purpose fits (R290, R291). -/
def purposeFits (purpose : Nat) (l : Lifecycle) : Bool :=
  match purpose with
  | 1 => l == .blank
  | 2 => l == .provisioned
  | 3 => l == .provisioned || l == .deployed
  | 4 => l == .provisioned || l == .deployed
  | _ => l != .blank

/-- The signer's bundle hash of a token (R293). -/
def tokenHash (t : Bytes) : Bytes := Config.sha384 (field t 40 97)

/-- A token's fields are out of range for the purposes its command takes (R293). -/
def tokenBad (purposes : List Nat) (t : Bytes) : Bool :=
  let scope := rd t 4 2
  let minutes := rd t 6 2
  rd t 0 2 != 0x5A54 || rd t 2 1 != 1 || !purposes.contains (rd t 3 1)
    || (if rd t 3 1 = 4 then scope == 0 || decide (3 < scope) || minutes == 0 || decide (1440 < minutes)
      else scope != 0 || minutes != 0)

/-- The outstanding challenge is consumed (R292). -/
def consumeChallenge (s : State) : State := onSec (fun c => { c with challenge := none }) s

/-- A token carries the outstanding, unexpired challenge (R292). -/
def carriesChallenge (t : Bytes) (s : State) : Bool :=
  s.sec.challenge.any fun c => c.1 == field t 8 32 && decide (runTime s < c.2)

/-- A token that passed the lifecycle check is presented: it must carry the outstanding challenge, which it consumes whether
it is accepted or not (R292, R293). -/
def present (u : Ump) (t : Bytes) (purposes : List Nat) (rest : List (Bool × Nat)) (s : State) (k : State → Reply) : Reply :=
  if !carriesChallenge t s then refuse ST.notAuthorised s
  else
    let c := consumeChallenge s
    judge (param (tokenBad purposes t) :: rest
      ++ [((rd t 3 1 != 1 && tokenHash t != s.sec.rootHash) || !u.env.sig, ST.signatureFail)]) c fun _ => k c

/-- OTP byte offset that the record of a failed lifecycle write names (DESIGN CHOICE, log entry 12). -/
def otpOffset : Nat := 88

/-- An accepted lifecycle token takes force in the OTP (R291): purpose 1 programs the root-key hash, purpose 3 erases the
vault, the credentials and the fleet's state (R446). -/
def programLifecycle (purpose : Nat) (t : Bytes) (s : State) : State :=
  let s := onPower (fun p => { p with pendingReset := 2, resetAt := runTime s + 100000000 }) s
  match purpose with
  | 1 => onSec (fun c => { c with otpLifecycle := .provisioned, rootHash := tokenHash t }) s
  | 2 => onSec (fun c => { c with otpLifecycle := .deployed }) s
  | _ =>
    { onSec (fun c => { c with otpLifecycle := .rma, credentials := [], elements := [], radius := [], vaultSlots := [], vaultKeys := []
                               serials := [] }) s with
      fleet := { s.fleet with id := 0, floor := 0x0300, epoch := 0xFFFF, previous := 0xFFFF, keys := [], admissions := []
                              staged := [] } }

/-- SEC_AUTH_CHALLENGE (R291, R292). -/
def authChallenge (u : Ump) (s : State) : Reply :=
  let op := u.b8 0
  let t := field u.data 4 236
  let p := rd t 3 1
  judge [shortOp u 0 1 (if op = 0 then 1 else 240), param (decide (1 < op))] s fun _ =>
    if op = 0 then
      judge (gate 0x0507 false [] s ++ [(s.sec.trngFailed, ST.faultLasting)]) s fun _ =>
        let r := commandFault u.env.hw 0x0507 u.tag 0x00C7 (leBytes 4 0) true s
        match u.env.hw with
        | .lasting => refuse ST.faultLasting (onSec (fun c => { c with trngFailed := true }) r)
        | _ =>
          let c := fit 32 u.env.rand
          replyHw u.env.hw (c ++ leBytes 2 300) (onSec (fun x => { x with challenge := some (c, runTime s + 300000000000) }) r)
    else if decide (1 ≤ p) && decide (p ≤ 3) && !(purposeFits p s.sec.lifecycle && purposeFits p s.sec.otpLifecycle) then
      refuse ST.notAuthorised s
    else
      present u t [1, 2, 3] (gate 0x0507 false [] s) s fun c =>
        match u.env.hw with
        | .lasting => refuse ST.faultLasting (commandFault .lasting 0x0507 u.tag 0x00C6 (leBytes 2 otpOffset ++ leBytes 2 0) true c)
        | r => replyHw r [BitVec.ofNat 8 p]
            (programLifecycle p t (commandFault r 0x0507 u.tag 0x00C6 (leBytes 2 otpOffset ++ leBytes 2 0) true c))

/-- SEC_AUTH_CHALLENGE (R292); an accepted token's reset is LIFECYCLE_RESET. -/
def execSecAuthChallenge (m : Ump) (s : State) : Host.Outcome State Fault Refusal :=
  .next (serve 0x0507 authChallenge m s)

/-- CHALLENGE_EXPIRY (R292): 300 s after its issue. -/
def execChallengeExpiry (s : State) : Host.Outcome State Fault Refusal :=
  .next (let s := start s
    if s.sec.challenge.any fun c => decide (c.2 ≤ runTime s) then consumeChallenge s else s)

/-! ### Debug (R294, R295) -/

/-- EV_SEC_DEBUG_UNLOCKED's payload (R317). -/
def debugPayload (opened scope cause minutes : Nat) : Bytes :=
  leBytes 1 opened ++ leBytes 1 scope ++ leBytes 1 cause ++ leBytes 1 0 ++ leBytes 2 minutes

/-- Debug ends: 0 relock, 1 expiry. In BLANK and RMA it never ends. -/
def endDebug (cause : Nat) (s : State) : State :=
  if s.sec.debugScope = 0 || s.sec.lifecycle = .blank || s.sec.lifecycle = .rma then s
  else raise 0x0502 (debugPayload 0 s.sec.debugScope cause s.sec.debugMinutes)
    (onSec (fun c => { c with debugScope := 0 }) s)

/-- Every slot of the key RAM is erased; answers the frames dropped, which one event reports (R294). -/
def eraseAllKeys (s : State) : State :=
  let hs := Tab.keys s.sec.keys ++ (s.sec.writes.map (·.handle)).filter fun h => !(Tab.keys s.sec.keys).contains h
  let s := onSec (fun c => { c with keys := [], writes := [] }) s
  let r := hs.foldl (fun a h => let d := eraseDrops h a.2; (a.1 + d.1, d.2)) ((0, s) : Nat × State)
  raise 0x0305 (erasedPayload 0xFFFF 0xFFFF (min r.1 0xFFFF)) r.2

/-- What the Hatbox does before JTAG opens (R294). -/
def beforeJtag (s : State) : State :=
  let s := eraseAllKeys s
  let s := (Tab.keys s.air.stations).foldl (fun t h => dismiss h 0 0 t) s
  onSec (fun c => { c with restricted := true, sae := [] }) s

/-- Running time at which the debug now open ends (R295). -/
def debugEnds (s : State) : Nat := s.sec.debugSince + s.sec.debugMinutes * 60000000000

/-- Minutes of debug left, rounded up. -/
def debugLeft (s : State) : Nat :=
  if s.sec.lifecycle = .blank ∨ s.sec.lifecycle = .rma then 0xFFFF
  else if s.sec.debugScope = 0 then 0
  else (debugEnds s - runTime s + 59999999999) / 60000000000

/-- SEC_DEBUG_UNLOCK's answer (R316). -/
def debugInfo (s : State) : Bytes :=
  leBytes 1 s.sec.debugScope ++ leBytes 1 0 ++ leBytes 2 (debugLeft s) ++ leBytes 1 (b2n s.sec.restricted)

/-- SEC_DEBUG_UNLOCK (R290, R294, R295). -/
def debugUnlock (u : Ump) (s : State) : Reply :=
  let op := u.b8 0
  let t := field u.data 4 236
  let standing := s.sec.lifecycle == .blank || s.sec.lifecycle == .rma
  judge [shortOp u 0 2 (if op = 0 then 240 else 1), param (decide (2 < op)), (op == 0 && standing, ST.notAuthorised)] s
    fun _ =>
    match op with
    | 0 => present u t [4] (gate 0x0508 false [] s) s fun c =>
        let scope := rd t 4 2
        let c := endDebug 0 c
        let c := if bit scope 0 then beforeJtag c else c
        let c := onSec (fun x => { x with debugScope := scope, debugMinutes := rd t 6 2, debugSince := runTime s }) c
        let c := raise 0x0502 (debugPayload 1 scope 0 (rd t 6 2)) c
        reply (debugInfo c) c
    | 1 => judge (gate 0x0508 false [] s ++ [(standing, ST.badState)]) s fun _ =>
        let c := endDebug 0 s
        reply (debugInfo c) c
    | _ => judge (gate 0x0508 false [] s) s fun _ => reply (debugInfo s) s

/-- SEC_DEBUG_UNLOCK (R294). -/
def execSecDebugUnlock (m : Ump) (s : State) : Host.Outcome State Fault Refusal :=
  .next (serve 0x0508 debugUnlock m s)

/-- DEBUG_DURATION_EXPIRY (R295): the token's duration ends. -/
def execDebugDurationExpiry (s : State) : Host.Outcome State Fault Refusal :=
  .next (let s := start s
    if debugEnds s ≤ runTime s then endDebug 1 s else s)

/-- TRNG_HEALTH_FAIL (R289, R436): the first failure waits 1 ms; then the retry ends it, or stops random generation. -/
def execTrngHealthFail (ok : Bool) (s : State) : Host.Outcome State Fault Refusal :=
  .next (let s := start s
    if s.sec.trngFailed then s
    else if !s.sec.trngRetry then onSec (fun c => { c with trngRetry := true }) s
    else
      let s := onSec (fun c => { c with trngRetry := false, trngFailed := !ok }) s
      retryRecord (if ok then .retried else .lasting) 0x00C7 (leBytes 4 0) true s)

/-! ### Handshakes (R305 to R307) -/

/-- EV_SEC_HANDSHAKE_FAIL, at most once per second per BSS (R317). -/
def handshakeFail (b cause addr : Nat) (s : State) : State :=
  let n := inc 16 (Tab.getD s.sec.failsNow b 0)
  raiseLimited 0x0503 b (leBytes 1 b ++ leBytes 1 cause ++ leBytes 2 n ++ beBytes 6 addr)
    (onSec (fun c => { c with failsNow := Tab.put c.failsNow b n }) s)

/-- An authentication frame for an address waits on AC_VO (R107). -/
def authFrame (slice kind addr status : Nat) (s : State) : State :=
  queueMgmt slice (coreFrame 0xFFFF addr (if kind ≤ 2 then 16 else 10) (.auth kind status)) s

/-- The address a PMKSA is bound to: the AP MLD's, or the BSS's. -/
def apAddress (x : Bss) : Nat := if x.mld = 255 then x.bssid else x.mldAddr

/-- A PMKSA is cached for a number of seconds, the oldest evicted when 4096 are kept; `body` is that of the context it came with
(R307, R449). -/
def cachePmksa (addr ap : Nat) (pmk : Bytes) (life : Nat) (body : Bytes) (s : State) : State :=
  onSec (fun c =>
    let l := (c.pmksa.filter fun p => !(p.addr == addr && p.ap == ap))
      ++ [⟨addr, ap, pmk, runTime s + life * 1000000000, body⟩]
    { c with pmksa := l.drop (l.length - 4096) }) s

/-- Lifetime of a PMKSA, seconds (R307). -/
def pmksaLife : Nat := 43200

/-- The live PMKSA of a station with an AP. -/
def pmksaOf (addr ap : Nat) (s : State) : Option Pmksa :=
  s.sec.pmksa.find? fun p => p.addr == addr && p.ap == ap && decide (runTime s < p.expires)

/-- PMKSA_EXPIRY (R307): its lifetime has passed. -/
def execPmksaExpiry (addr ap : Nat) (s : State) : Host.Outcome State Fault Refusal :=
  .next (let s := start s
    onSec (fun c => { c with pmksa := c.pmksa.filter fun p =>
      !(p.addr == addr && p.ap == ap && decide (p.expires ≤ runTime s)) }) s)

/-- A BSS has an SAE password: a kind 1 credential, or a kind 2 one longer than its PSK (R305). -/
def hasPassword (x : Bss) (s : State) : Bool :=
  (x.security == 1 || x.security == 2)
    && (Tab.look s.sec.credentials x.credential).any fun c => c.kind == 1 || decide (32 < c.body.length)

/-- A slice tuned to 6 GHz. -/
def sixGhz (n : Nat) (s : State) : Bool := (slice n s).channel.any fun c => decide (5925 ≤ c.centre)

/-- Exchanges that await the Hatbox (R306). -/
def saeAwaiting (s : State) : Nat := (s.sec.sae.filter fun e => e.step == 0).length

/-- An SAE Commit of a group, hash-to-element or not; the password element of hash-to-element is computed once per credential and
SSID, and kept (R305, R306). -/
def saeCommit (b addr group : Nat) (h2e : Bool) (s : State) : State :=
  match bss b s with
  | none => s
  | some x =>
    if !sliceUsable x.slice s then s
    else if handshakesRefused s || !hasPassword x s || (sixGhz x.slice s && !h2e) then authFrame x.slice 0 addr 1 s
    else if group != 19 && group != 20 then authFrame x.slice 0 addr 77 s
    else if 16 < saeAwaiting s then authFrame x.slice 2 addr 76 s
    else onSec (fun c => { c with
      sae := (c.sae.filter fun e => !(e.addr == addr && e.bss == b)) ++ [⟨addr, b, 0⟩]
      elements := if h2e && !c.elements.contains (x.credential, x.ssid) then c.elements ++ [(x.credential, x.ssid)]
        else c.elements }) s

/-- SAE_COMMIT_RECEIVE (R306): the Hatbox serves it at HATBOX_JOB_DONE. -/
def execSaeCommitReceive (bss addr group : Nat) (h2e : Bool) (s : State) : Host.Outcome State Fault Refusal :=
  .next (saeCommit bss addr group h2e (start s))

/-- The Hatbox has computed a Commit: the device's own is sent (R306). -/
def saeServed (addr : Nat) (s : State) : State :=
  match s.sec.sae.find? fun e => e.addr == addr && e.step == 0 with
  | none => s
  | some e =>
    let s := onSec (fun c => { c with sae := c.sae.map fun x => if x = e then { x with step := 1 } else x }) s
    match bss e.bss s with
    | some x => if sliceUsable x.slice s then authFrame x.slice 0 addr 0 s else s
    | none => s

/-- An SAE Confirm (R306): it is accepted with the PMK that the Hatbox computed, or ends the exchange and counts under cause 1. -/
def saeConfirm (b addr : Nat) (good : Bool) (pmk : Bytes) (s : State) : State :=
  match bss b s with
  | none => s
  | some x =>
    if !(s.sec.sae.any fun e => e.addr == addr && e.bss == b && e.step == 1) || !sliceUsable x.slice s then s
    else if good then
      authFrame x.slice 1 addr 0 (cachePmksa addr (apAddress x) (fit 32 pmk) pmksaLife [] (onSec (fun c =>
        { c with sae := c.sae.map fun e => if e.addr = addr ∧ e.bss = b then { e with step := 2 } else e }) s))
    else
      handshakeFail b 1 addr (onSec (fun c => { c with sae := c.sae.filter fun e => !(e.addr == addr && e.bss == b) }) s)

/-- SAE_CONFIRM_RECEIVE (R306). -/
def execSaeConfirmReceive (bss addr : Nat) (good : Bool) (pmk : Bytes) (s : State) : Host.Outcome State Fault Refusal :=
  .next (saeConfirm bss addr good pmk (start s))

/-- EV_STA_ASSOC (R119, R136): the station is authorised, and accounting starts. -/
def authorise (h : Nat) (s : State) : State :=
  match station h s with
  | none => s
  | some x =>
    let s := onStation h (fun x => { x with state := 3 }) s
    accounting h 1 (raise 0x0301 (leBytes 2 h ++ leBytes 1 x.kind ++ leBytes 1 (linkMask x) ++ beBytes 6 x.addr
      ++ leBytes 1 (homeBss x)) s)

/-- The 4-way handshake begins with message 1, from a PMK that the Hatbox holds (R307). -/
def startFourWay (h : Nat) (pmk : Bytes) (s : State) : State :=
  eapol h 1 (onStation h (fun x => { x with state := 2, pmk := pmk, fourWay := some (1, 1) }) s)

/-- The pairwise slot a handshake writes: the alternate key ID where the station offers Extended Key ID and holds a key
(R131, R307, R310). -/
def nextPtk (h : Nat) (x : Station) : Nat :=
  if x.ptk = 2 * h && bit x.flags 4 then 2 * h + 1 else 2 * h

/-- Bytes of a pairwise key of a station's cipher: CCMP-128 or GCMP-256 (R127). -/
def pairwiseLength (x : Station) : Nat := if x.cipher = 1 then 32 else 16

/-- The 4-way handshake ends: the PTK is written to the station's slot, and the station is authorised. A key it holds serves until
the write is done (R131, R307, R310). -/
def endFourWay (h : Nat) (key : Bytes) (s : State) : State :=
  match station h s with
  | none => s
  | some x =>
    let p := nextPtk h x
    let s := startWrite p (some (fit (pairwiseLength x) key))
      (onStation h (fun x => { x with fourWay := none, ptk := if x.ptk = 0xFFFF then p else x.ptk }) s)
    if x.state = 2 then authorise h s else s

/-- Authentication of a station fails (R309): it is counted under its cause and the station deauthenticated with reason
code 23 (PRESUMED, log entry 13). -/
def authFails (h cause : Nat) (s : State) : State :=
  match station h s with
  | none => s
  | some x => deauth h 4 23 (handshakeFail (homeBss x) cause x.addr s)

/-- An Access-Request goes to the server that is alive; with none left the authentication fails with cause 5 (R309). -/
def radiusRequest (h : Nat) (s : State) : State :=
  match (station h s).bind fun x => bss (homeBss x) s with
  | none => s
  | some b =>
    match radiusServer b.radius s with
    | none => authFails h 5 s
    | some v =>
      emit (.radius b.radius v 0 h)
        (onSec (fun c => { c with requests := (c.requests.filter fun r => r.station != h) ++ [⟨h, b.radius, v, 0⟩] }) s)

/-- An EAPOL frame from a station: 0 EAP, 2 and 4 messages of the 4-way handshake, 6 the group key answer (R307, R308,
R309). -/
def eapolReceive (h msg : Nat) (good : Bool) (key : Bytes) (s : State) : State :=
  match station h s with
  | none => s
  | some x =>
    if x.state = 4 || handshakesRefused s then s
    else match msg, x.fourWay with
      | 0, _ => if x.state = 1 then radiusRequest h s else s
      | 2, some (1, _) =>
        if good then eapol h 3 (onStation h (fun x => { x with fourWay := some (3, 1) }) s)
        else handshakeFail (homeBss x) 2 x.addr s
      | 4, some (3, _) => if good then endFourWay h key s else s
      | 6, _ =>
        if good then onAir (fun a => { a with
            bss := Tab.mapVals (fun b => { b with rekeyWaiting := b.rekeyWaiting.filter fun e => e.1 != h }) a.bss }) s
        else s
      | _, _ => s

/-- EAPOL_KEY_RECEIVE (R307). -/
def execEapolKeyReceive (station msg : Nat) (good : Bool) (key : Bytes) (s : State) : Host.Outcome State Fault Refusal :=
  .next (eapolReceive station msg good key (start s))

/-- Message 1 or 3 is sent up to 3 times; then the station is deauthenticated with reason code 15 (R307). -/
def fourWayRetry (h : Nat) (s : State) : State :=
  match station h s with
  | none => s
  | some x =>
    match x.fourWay with
    | none => s
    | some (m, n) =>
      if n < 3 then eapol h m (onStation h (fun x => { x with fourWay := some (m, n + 1) }) s)
      else deauth h 4 15 (handshakeFail (homeBss x) 3 x.addr s)

/-- FOURWAY_RETRY_TIMEOUT (R307). -/
def execFourwayRetryTimeout (station : Nat) (s : State) : Host.Outcome State Fault Refusal :=
  .next (fourWayRetry station (start s))

/-! ### The RADIUS client (R309) -/

/-- The PMK of an Access-Accept: the first 32 bytes of Recv-Key followed by Send-Key, or the first 48 in security mode 4 (R309). -/
def radiusPmk (mode : Nat) (recv send : Bytes) : Bytes := fit (if mode = 4 then 48 else 32) (recv ++ send)

/-- A RADIUS response: discarded as if lost, relayed (0), an accept (1) or a reject (2). -/
def radiusResponse (h : Nat) (valid : Bool) (kind : Nat) (recv send cls : Bytes) (timeout : Nat) (s : State) : State :=
  if !valid || !(s.sec.requests.any fun r => r.station == h) then s
  else
    let s := onSec (fun c => { c with requests := c.requests.filter fun r => r.station != h }) s
    match kind, (station h s).bind fun x => bss (homeBss x) s with
    | 0, _ => eapol h 0 s
    | 1, some b =>
      match station h s with
      | some x =>
        let pmk := radiusPmk b.security recv send
        if handshakesRefused s then s
        else startFourWay h pmk (cachePmksa x.addr (apAddress b) pmk pmksaLife []
          (onStation h (fun x => { x with timeout := timeout, radiusClass := cls.take 128 }) s))
      | none => s
    | 2, _ => authFails h 4 s
    | _, _ => s

/-- RADIUS_RESPONSE_RECEIVE (R309). -/
def execRadiusResponseReceive (station : Nat) (valid : Bool) (kind : Nat) (recv send cls : Bytes) (timeout : Nat) (s : State) :
    Host.Outcome State Fault Refusal := .next (radiusResponse station valid kind recv send cls timeout (start s))

/-- A request is unanswered: it is resent, or its server is declared dead and the requests that wait on it go to the other one. -/
def radiusTimeout (h : Nat) (s : State) : State :=
  match s.sec.requests.find? fun r => r.station == h with
  | none => s
  | some r =>
    match Tab.look s.sec.radius r.profile with
    | none => s
    | some p =>
      if r.resends < rd p.bytes 3 1 then
        emit (.radius r.profile r.secondary 0 h) (onSec (fun c => { c with
          requests := c.requests.map fun x => if x = r then { x with resends := x.resends + 1 } else x }) s)
      else
        let dead := if r.secondary then (p.dead.1, true) else (true, p.dead.2)
        let there (x : RadiusReq) : Bool := x.profile == r.profile && x.secondary == r.secondary
        let moved := s.sec.requests.filter there
        let s := onSec (fun c => { c with
          requests := c.requests.filter fun x => !there x
          radius := Tab.put c.radius r.profile { p with dead := dead } }) s
        let both := (radiusServer r.profile s).isNone
        let s := raise 0x0504 (leBytes 1 r.profile ++ leBytes 1 (b2n r.secondary) ++ leBytes 1 (b2n both)) s
        moved.foldl (fun t x => radiusRequest x.station t) s

/-- RADIUS_TIMEOUT (R309). -/
def execRadiusTimeout (station : Nat) (s : State) : Host.Outcome State Fault Refusal :=
  .next (radiusTimeout station (start s))

/-- RADIUS_DEAD_TIME_END (R309). -/
def execRadiusDeadTimeEnd (profile : Nat) (secondary : Bool) (s : State) : Host.Outcome State Fault Refusal :=
  .next (onSec (fun c => { c with radius := Tab.modify c.radius profile fun p =>
    { p with dead := if secondary then (p.dead.1, false) else (false, p.dead.2) } }) (start s))

/-- EAP_TIMEOUT (R309): the EAP timeout of a station's profile passes. -/
def execEapTimeout (station : Nat) (s : State) : Host.Outcome State Fault Refusal :=
  .next (let s := start s
    if (Tab.look s.air.stations station).any fun x => x.state == 1 then authFails station 5 s else s)

end Sys2Proof.Machine
end

