-- ==== Sys2Proof/Machine/Fleet.lean ====
section
/-! DEFINITION. Fleet keys, admissions, station contexts, the floor, firmware update, the ends of Hatbox jobs, and the clear
of the event recorder (chapter 19; R270, R315, R434). -/
namespace Sys2Proof.Machine

/-- The fleet group changed by a function. -/
def onFleet (f : Fleet → Fleet) (s : State) : State := { s with fleet := f s.fleet }
/-- Firmware update state changed by a function. -/
def onFwu (f : Fwu → Fwu) (s : State) : State := { s with fwu := f s.fwu }

/-! ### The floor (R451, R454) -/

/-- The context format written under a floor (R451). -/
def formatWritten (floor : Nat) : Nat := if floor ≤ 0x0300 then 1 else if floor = 0x0301 then 2 else 3

/-- Major and minor version of the running firmware, as a floor gives them. -/
def runningVersion (s : State) : Nat := fwVer s / 2 ^ 16

/-- The floor changes: EV_FLT_FLOOR_CHANGED with its cause (R451). -/
def setFloor (new cause : Nat) (s : State) : State :=
  let old := s.fleet.floor
  let s := onFleet (fun f => { f with floor := new }) s
  if new = old then s else raise 0x0D02 (leBytes 2 old ++ leBytes 2 new ++ leBytes 1 cause) s

/-- FLT_SET_FLOOR's answer. -/
def floorInfo (op : Nat) (s : State) : Bytes :=
  leBytes 1 op ++ leBytes 1 0 ++ leBytes 2 s.fleet.floor ++ leBytes 1 (formatWritten s.fleet.floor)

/-- FLT_SET_FLOOR reads or sets the floor. -/
def setFloorCmd (u : Ump) (s : State) : Reply :=
  let op := u.b8 0
  let f := u.b16 2
  judge ([short u 4, param (decide (1 < op)), param (op == 1 && (decide (f < 0x0300) || decide (runningVersion s < f)))]
    ++ gate 0x0D02 false [] s) s fun _ =>
    if op = 0 then reply (floorInfo 0 s) s
    else
      let t := setFloor f 0 s
      replyFelt u.env.hw 0x403C (floorInfo 1 t) s t

/-- FLT_SET_FLOOR (R451). -/
def execFltSetFloor (m : Ump) (s : State) : Host.Outcome State Fault Refusal := .next (serve 0x0D02 setFloorCmd m s)

/-- FLT_GET_INFO's answer (R454). -/
def fleetInfo (s : State) : Bytes :=
  let f := s.fleet
  leBytes 2 f.id ++ leBytes 2 s.power.devIdx ++ leBytes 2 f.floor ++ leBytes 1 (formatWritten f.floor) ++ leBytes 1 3
    ++ leBytes 2 f.epoch ++ leBytes 2 f.previous ++ leBytes 1 f.admissions.length ++ leBytes 1 f.staged.length
    ++ leBytes 1 (bitsNat [s.power.image == 1, s.fwu.onTrial, s.fwu.committed]) ++ leBytes 1 0
    ++ leBytes 4 f.exports ++ leBytes 4 f.imports ++ leBytes 4 f.refused ++ leBytes 4 f.consumed ++ leBytes 4 f.expired
    ++ leBytes 4 f.dropped

/-- FLT_GET_INFO answers its record. -/
def fltGetInfo (_ : Ump) (s : State) : Reply :=
  judge (gate 0x0D01 false [] s) s fun _ => reply (fleetInfo s) s

/-- FLT_GET_INFO (R454). -/
def execFltGetInfo (m : Ump) (s : State) : Host.Outcome State Fault Refusal := .next (serve 0x0D01 fltGetInfo m s)

/-! ### The fleet key (R444) -/

/-- The device holds a fleet key. -/
def fleetHeld (s : State) : Bool := s.fleet.epoch != 0xFFFF

/-- A new current key: the former one becomes the previous, and staged contexts of an epoch no longer held are discarded. -/
def newFleetKey (id epoch : Nat) (key : Bytes) (s : State) : State :=
  onFleet (fun f =>
    let kept := match Tab.look f.keys f.epoch with
      | some k => [(f.epoch, k)]
      | none => []
    { f with id := id, previous := f.epoch, epoch := epoch, keys := Tab.put kept epoch key
             staged := f.staged.filter fun c => c.epoch == epoch || c.epoch == f.epoch }) s

/-- Erase: both epochs, every admission and every staged context are gone, and the fleet ID is 0 (R444). -/
def eraseFleet (s : State) : State :=
  onFleet (fun f => { f with id := 0, epoch := 0xFFFF, previous := 0xFFFF, keys := [], admissions := [], staged := [] }) s

/-- FLT_SET_KEY up to ST_PENDING. -/
def setFleetKey (u : Ump) (s : State) : Reply :=
  let op := u.b8 0
  let b := u.data.drop 4
  judge ([shortOp u 0 2 (match op with | 0 => 140 | 1 => 4 | _ => 1), param (decide (2 < op)),
      (keysRefused s, ST.notAuthorised)]
    ++ (match op with
      | 0 => blobChecks [5] b
      | 1 => [param (u.b16 2 == 0 || (fleetHeld s && u.b16 2 != s.fleet.id))]
      | _ => [])
    ++ gate 0x0D05 true [.fleetKey] s ++ (if op = 0 then [labelsFull b s, blobStale b s] else [])) s
    fun _ => pending u 0x0D05 [.fleetKey] s

/-- FLT_SET_KEY (R444): its job ends at HATBOX_JOB_DONE. -/
def execFltSetKey (m : Ump) (s : State) : Host.Outcome State Fault Refusal := .next (serve 0x0D05 setFleetKey m s)

/-- FLT_SET_KEY's completion payload. -/
def fleetKeyDone (s : State) : Bytes := leBytes 2 s.fleet.id ++ leBytes 2 s.fleet.epoch

/-- The job of FLT_SET_KEY ends: an install is judged on its body, a generate takes the key drawn (R444). -/
def setFleetKeyDone (a : AsyncCmd) (opens : Bool) (body : Bytes) (hw : Retry) (s : State) : State :=
  let d := a.payload
  match rd d 0 1 with
  | 0 =>
    let id := rd body 0 2
    let e := rd body 2 2
    if !blobOpens (d.drop 4) opens s then endAsync a ST.authFail [] s
    else if id = 0 || (fleetHeld s && id != s.fleet.id) then endAsync a ST.badParam [] s
    else if fleetHeld s && decide (e < s.fleet.epoch) then endAsync a ST.versionMismatch [] s
    else if fleetHeld s && e == s.fleet.epoch then endAsync a ST.ok (fleetKeyDone s) (keepSerial (d.drop 4) s)
    else
      let t := newFleetKey id e (field body 4 32) (keepSerial (d.drop 4) s)
      endVault a hw (fleetKeyDone t) s t
  | 1 =>
    if s.sec.trngFailed then endAsync a ST.faultLasting [] s
    else
      let t := newFleetKey (rd d 2 2) (if fleetHeld s then s.fleet.epoch + 1 else 1) (fit 32 body) s
      endVault a hw (fleetKeyDone t) s t
  | _ => endVault a hw (fleetKeyDone (eraseFleet s)) s (eraseFleet s)

/-! ### The station context (R447, R448)

The spec gives a context's entry types and what each holds, not how a value is laid out: the layouts here are a DESIGN CHOICE
(log entry 75). -/

/-- One entry of a body: type, length, value (R426). -/
def tlvEntry (k : Nat) (v : Bytes) : Bytes := leBytes 1 k ++ leBytes 1 v.length ++ v

/-- The entries of a body, oldest first; `n` bounds how many are read. -/
def tlvEntries : Nat → Bytes → List (Nat × Bytes)
  | 0, _ => []
  | n + 1, d => if d.length < 2 then [] else (rd d 0 1, field d 2 (rd d 1 1)) :: tlvEntries n (d.drop (2 + rd d 1 1))

/-- The value of the first entry of a type; empty where there is none. -/
def tlvValue (k : Nat) (body : Bytes) : Bytes :=
  (((tlvEntries body.length body).find? fun e => e.1 == k).map Prod.snd).getD []

/-- Entry 0x01: key management, pairwise cipher, PMK-R0 name, PMKID, then PMK-R0 and PMK, each behind its length. -/
def contextKeys (x : Station) (b : Bss) : Bytes :=
  let r0 := Config.pmkR0 x.pmk b.ssid x.addr
  leBytes 1 x.akm ++ leBytes 1 x.cipher ++ fit 16 r0.2 ++ fit 16 (Config.pmkid x.pmk (if b.mld = 255 then b.bssid else b.mldAddr) x.addr)
    ++ leBytes 1 x.pmk.length ++ fit x.pmk.length r0.1 ++ x.pmk

/-- PMK of an entry 0x01. -/
def contextPmk (v : Bytes) : Bytes := let n := rd v 34 1; field v (35 + n) n

/-- Seconds left of the PMKSA of a station with the AP of a BSS. -/
def pmkLeft (x : Station) (b : Bss) (s : State) : Nat :=
  match pmksaOf x.addr (apAddress b) s with
  | some p => (p.expires - runTime s) / 1000000000
  | none => 0

/-- Entry 0x02: VLAN, remaining PMK lifetime, session timeout and SSID. -/
def contextSession (x : Station) (b : Bss) (s : State) : Bytes :=
  leBytes 2 x.vlan ++ leBytes 4 (pmkLeft x b s) ++ leBytes 4 x.timeout ++ b.ssid

/-- Entry 0x04: kind of station, flags, streams, U-APSD categories and most octets of an A-MPDU. -/
def contextCaps (x : Station) : Bytes :=
  leBytes 1 x.kind ++ leBytes 1 x.flags ++ leBytes 1 x.streams ++ leBytes 1 x.uapsd ++ leBytes 4 x.maxAmpdu

/-- Entry 0x05: the links and the address on each. -/
def contextLinks (x : Station) : Bytes := leBytes 1 (linkMask x) ++ (x.linkAddrs.toList.map (beBytes 6)).flatten

/-- Entry 0x06: an agreement's flow, wake duration, wake interval and offset, each in turn. -/
def contextTwt (x : Station) : Bytes :=
  (x.twts.map fun t => leBytes 1 t.flow ++ leBytes 1 t.duration ++ leBytes 4 t.interval ++ leBytes 4 t.offset).flatten

/-- Entry 0x07: the settings CUMULUS_SET gave the peer. -/
def contextCumulus (p : CumulusPeer) : Bytes :=
  leBytes 1 (b2n p.enabled) ++ leBytes 1 p.links ++ leBytes 2 p.slots ++ leBytes 1 p.lifetime ++ leBytes 1 p.combines

/-- The body of a station's context in a format, which holds every type of the formats before it (R448). -/
def contextBody (h format : Nat) (s : State) : Bytes :=
  match station h s with
  | none => []
  | some x =>
    match bss (homeBss x) s with
    | none => []
    | some b =>
      tlvEntry 1 (contextKeys x b) ++ tlvEntry 2 (contextSession x b s) ++ tlvEntry 3 x.radiusClass ++ tlvEntry 4 (contextCaps x)
        ++ tlvEntry 5 (contextLinks x)
        ++ (if 2 ≤ format then tlvEntry 6 (contextTwt x)
            ++ (match Tab.look s.modem.peers h with | some p => tlvEntry 7 (contextCumulus p) | none => []) else [])
        ++ (if 3 ≤ format then tlvEntry 8 (leBytes 2 x.padding ++ leBytes 2 x.transition) else [])

/-- A context blob (R447): its header in the clear with the nonce that the Hatbox draws (the first 8 bytes of `found`), then the
ciphertext of a body of `n` bytes and its tag. -/
def contextBlob (h epoch n : Nat) (found : Bytes) (s : State) : Bytes :=
  leBytes 4 0x58435A46 ++ leBytes 1 6 ++ leBytes 1 (formatWritten s.fleet.floor) ++ leBytes 2 s.fleet.id ++ leBytes 2 epoch
    ++ leBytes 2 n ++ leBytes 4 0 ++ fit 8 s.sec.serial ++ beBytes 6 (((station h s).map (·.addr)).getD 0) ++ leBytes 2 0
    ++ leBytes 8 (deviceTime s) ++ fit 8 found ++ fit (n + 16) (found.drop 8)

/-- The fleet key sealed to a recipient: a kind 5 blob of 136 bytes (R302, R445). Its label, its serial, the ephemeral key, the
ciphertext and the tag are what the Hatbox returns. -/
def fleetKeyBlob (recipient found : Bytes) : Bytes :=
  leBytes 4 0x314C4553 ++ leBytes 1 1 ++ leBytes 1 5 ++ fit 6 found ++ leBytes 2 40 ++ leBytes 2 0 ++ fit 8 recipient
    ++ fit 49 (found.drop 6) ++ fit 7 [] ++ fit 56 (found.drop 55)

/-! ### Contexts (R445 to R450) -/

/-- A context export up to ST_PENDING; the epoch and the length of the body to be sealed are those of its start. -/
def contextExport (u : Ump) (s : State) : Reply :=
  let op := u.b8 0
  let h := u.b16 2
  let locks := if op = 2 then [Obj.station h] else []
  let n := (contextBody h (formatWritten s.fleet.floor) s).length
  let need := if op = 1 then 136 else 64 + n
  let v := { u with env := { u.env with ext := leBytes 2 s.fleet.epoch ++ leBytes 2 n } }
  judge ([shortOp u 0 2 (if op = 2 then 16 else 24), param (decide (2 < op)), param (op != 1 && (station h s).isNone),
      (keysRefused s, ST.notAuthorised),
      (op == 1 && !(s.fleet.admissions.any fun e => e.recipient == field u.data 4 8), ST.notAuthorised),
      param (op != 2 && (u.b64 16 == 0 || badHost (u.b64 16) || decide (u.b32 12 < need)))]
    ++ gate 0x0D03 true locks s
    ++ [(op == 0 && !((station h s).any fun x => x.state == 3), ST.badState), (op != 2 && !fleetHeld s, ST.keyAbsent)]) s
    fun _ => pending v 0x0D03 locks s

/-- FLT_CONTEXT_EXPORT (R445, R449, R450): its job ends at HATBOX_JOB_DONE. -/
def execFltContextExport (m : Ump) (s : State) : Host.Outcome State Fault Refusal := .next (serve 0x0D03 contextExport m s)

/-- The job of FLT_CONTEXT_EXPORT ends: the sealed bytes go to the host, or the station is released with cause 5. The epoch is
the one current at its start (R450). -/
def contextExportDone (a : AsyncCmd) (body : Bytes) (hw : Retry) (s : State) : State :=
  let d := a.payload
  let done (n : Nat) : Bytes :=
    leBytes 4 n ++ leBytes 1 (formatWritten s.fleet.floor) ++ leBytes 1 0 ++ leBytes 2 (rd a.ext 0 2)
  if rd d 0 1 = 2 then endAsync a ST.ok (done 0) (dismiss (rd d 2 2) 5 0 s)
  else if s.sec.trngFailed then endAsync a ST.faultLasting [] s
  else
    let out := if rd d 0 1 = 1 then fleetKeyBlob (field d 4 8) body else contextBlob (rd d 2 2) (rd a.ext 0 2) (rd a.ext 2 2) body s
    let n := dmaFault hw 0x0D03 a.tag s
    match hw with
    | .lasting => endAsync a ST.faultLasting [] n
    | _ =>
      let b := { a with retried := a.retried || decide (hw = .retried) }
      let n := emit (.dma (rd d 16 8) out) (setAsync a b n)
      let n := if rd d 0 1 = 0 then onFleet (fun f => { f with exports := inc 32 f.exports }) n else n
      endAsync b ST.ok (done out.length) n

/-- A context import is refused (R449, R455): reason 0 format, 1 fleet ID, 2 epoch, 3 tag, 4 range. -/
def contextRefused (b : Bytes) (reason : Nat) (s : State) : State :=
  raise 0x0D01 (fit 6 (field b 24 6) ++ leBytes 1 reason ++ leBytes 1 (rd b 5 1))
    (onFleet (fun f => { f with refused := inc 32 f.refused }) s)

/-- Magic, kind and ranges of a context blob (R447, R449 step 1). -/
def contextBad (b : Bytes) : Bool :=
  rd b 0 4 != 0x58435A46 || rd b 4 1 != 6 || rd b 5 1 == 0 || rd b 6 2 == 0 || rd b 10 2 == 0 || decide (624 < rd b 10 2)

/-- The data of an import does not hold the object it carries: a blob with its tag, a record with a certificate, a recipient ID or a
station address (R248, R276 step 11). -/
def importShort (op : Nat) (b : Bytes) : Bool :=
  decide (b.length < match op with
    | 0 => 65
    | 1 => 202
    | 2 => 8
    | _ => 6)

/-- A context newer than this one is staged for its station (R450). -/
def contextOlder (b : Bytes) (s : State) : Bool :=
  s.fleet.staged.any fun c => c.addr == rdBe b 24 6 && decide (rd b 32 8 < c.created)

/-- FLT_CONTEXT_IMPORT up to ST_PENDING (R445, R449). -/
def contextImport (u : Ump) (s : State) : Reply :=
  let op := u.b8 0
  let b := u.data.drop 8
  let life := u.b16 2
  let go : Reply := pending u 0x0D04 [] s
  let refuseAs (st reason : Nat) : Reply := ⟨contextRefused b reason s, st, [], true⟩
  judge [short u 8, param (decide (3 < op)),
      param (op == 2 && !(s.fleet.admissions.any fun e => e.recipient == field b 0 8)),
      param (op == 3 && !(s.fleet.staged.any fun c => c.addr == rdBe b 0 6)),
      (keysRefused s, ST.notAuthorised), param (op == 0 && life != 0 && (decide (life < 10) || decide (3600 < life))),
      (op != 0 && importShort op b, ST.badLength), param (op == 1 && decide (2249 < b.length))] s fun _ =>
    if op = 0 ∧ importShort 0 b then refuseAs ST.badLength 4
    else if op = 0 ∧ contextBad b then refuseAs ST.badParam 4
    else if op = 0 ∧ b.length < 64 + rd b 10 2 then refuseAs ST.badLength 4
    else if op = 0 ∧ rd b 6 2 ≠ s.fleet.id then refuseAs ST.badParam 1
    else
      judge (gate 0x0D04 true [] s ++ [(op == 1 && decide (64 ≤ s.fleet.admissions.length)
          && !(s.fleet.admissions.any fun e => e.recipient == field b 97 8), ST.noResource)]) s fun _ =>
        if op = 0 ∧ (Tab.look s.fleet.keys (rd b 8 2)).isNone then refuseAs ST.keyAbsent 2
        else if op = 0 ∧ 3 < rd b 5 1 then refuseAs ST.belowFloor 0
        else if op = 0 ∧ contextOlder b s then refuse ST.versionMismatch s
        else go

/-- FLT_CONTEXT_IMPORT (R449): its job ends at HATBOX_JOB_DONE. -/
def execFltContextImport (m : Ump) (s : State) : Host.Outcome State Fault Refusal := .next (serve 0x0D04 contextImport m s)

/-- A context is staged for its lifetime; the oldest entry is evicted from a full cache (R446, R449). -/
def stage (b body : Bytes) (life : Nat) (s : State) : State :=
  onFleet (fun f =>
    let l := f.staged.filter fun c => c.addr != rdBe b 24 6
    let l := l.drop (l.length - 127)
    { f with staged := l ++ [⟨rdBe b 24 6, rd b 32 8, rd b 8 2, rd b 5 1, runTime s + life * 1000000000, fit (rd b 10 2) body⟩]
             imports := inc 32 f.imports }) s

/-- The job of FLT_CONTEXT_IMPORT ends (R445, R449). -/
def contextImportDone (a : AsyncCmd) (opens : Bool) (body : Bytes) (hw : Retry) (s : State) : State :=
  let d := a.ext
  let b := d.drop 8
  let finish (payload : Bytes) (t : State) : State :=
    match hw with
    | .lasting => endAsync a ST.faultLasting [] (feltWrite hw 0xA9000 s)
    | _ =>
      let c := { a with retried := a.retried || decide (hw = .retried) }
      endAsync c ST.ok payload (setAsync a c (feltWrite hw 0xA9000 t))
  let named (id : Bytes) (f : Nat) : Bytes := fit 8 id ++ leBytes 1 f
  match rd d 0 1 with
  | 0 =>
    if !opens then endAsync a ST.authFail [] (contextRefused b 3 s)
    else if contextOlder b s then endAsync a ST.versionMismatch [] s
    else finish (named (field b 24 6) (rd b 5 1)) (stage b body (if rd d 2 2 = 0 then 60 else rd d 2 2) s)
  | 1 =>
    if !opens then endAsync a ST.authFail [] s
    else if 64 ≤ (s.fleet.admissions.filter fun e => e.recipient != field b 97 8).length then endAsync a ST.noResource [] s
    else finish (named (field b 97 8) 0) (onFleet (fun f =>
      { f with admissions := (f.admissions.filter fun e => e.recipient != field b 97 8) ++ [⟨field b 97 8, b.take 97⟩] }) s)
  | 2 => finish (named (field b 0 8) 0)
      (onFleet (fun f => { f with admissions := f.admissions.filter fun e => e.recipient != field b 0 8 }) s)
  | _ => finish (named (field b 0 6) 0)
      (onFleet (fun f => { f with staged := f.staged.filter fun c => c.addr != rdBe b 0 6 }) s)

/-- The context staged for an address, while its lifetime lasts. -/
def stagedFor (addr : Nat) (s : State) : Option StagedContext :=
  s.fleet.staged.find? fun c => c.addr == addr && decide (runTime s < c.expires)

/-- A staged context is used and consumed: its PMK enters the PMKSA cache for what is left of its lifetime, with the body whose session
settings apply to the new association (R449). -/
def consumeContext (c : StagedContext) (ap : Nat) (s : State) : State :=
  let s := onFleet (fun f => { f with staged := f.staged.filter fun e => e.addr != c.addr, consumed := inc 32 f.consumed }) s
  cachePmksa c.addr ap (contextPmk (tlvValue 1 c.body)) (rd (tlvValue 2 c.body) 2 4) c.body s

/-- FT_AUTH_RECEIVE (R449, R450): completed by the Hatbox from the staged context of the sender, else refused with status
code 53 and counted as a staging miss. -/
def execFtAuthReceive (bss addr : Nat) (found : Bool) (s : State) : Host.Outcome State Fault Refusal :=
  .next (let s := start s
    match Sys2Proof.Machine.bss bss s with
    | none => s
    | some x =>
      if !sliceUsable x.slice s then s
      else if handshakesRefused s then authFrame x.slice 4 addr 1 s
      else match (if found then stagedFor addr s else none) with
      | some c => authFrame x.slice 4 addr 0 (consumeContext c (apAddress x) s)
      | none => authFrame x.slice 4 addr 53 (onFleet (fun f => { f with expired := inc 32 f.expired }) s))

/-- A staged context ends unused: discarded and counted (R449). -/
def expireContext (addr : Nat) (s : State) : State :=
  if s.fleet.staged.any fun c => c.addr == addr then
    onFleet (fun f => { f with staged := f.staged.filter fun c => c.addr != addr, expired := inc 32 f.expired }) s
  else s

/-- CONTEXT_STAGING_EXPIRY (R449): its lifetime has passed. -/
def execContextStagingExpiry (addr : Nat) (s : State) : Host.Outcome State Fault Refusal :=
  .next (let s := start s
    if s.fleet.staged.any fun c => c.addr == addr && decide (c.expires ≤ runTime s) then expireContext addr s else s)

/-! ### The end of a Hatbox job (R270, R304, R315) -/

/-- The job of the command of a code that started first ends, or the SAE step of a sender. -/
def hatboxDone (code addr : Nat) (opens : Bool) (body : Bytes) (hw : Retry) (s : State) : State :=
  if code = 0 then saeServed addr s
  else match firstAsync code s with
    | none => s
    | some a =>
      match code with
      | 0x0502 => loadSealedDone a opens body hw s
      | 0x0503 => setRadiusDone a opens body hw s
      | 0x0504 => keyImportDone a opens body hw s
      | 0x0D03 => contextExportDone a body hw s
      | 0x0D04 => contextImportDone a opens body hw s
      | 0x0D05 => setFleetKeyDone a opens body hw s
      | _ => s

/-- HATBOX_JOB_DONE (R315). -/
def execHatboxJobDone (code addr : Nat) (opens : Bool) (body : Bytes) (hw : Retry) (s : State) :
    Host.Outcome State Fault Refusal := .next (hatboxDone code addr opens body hw (start s))

/-! ### Firmware update (R452, R453) -/

/-- The slot an update writes: the inactive one, or the DRAM buffer (2) in stage 0x07. -/
def updateSlot (s : State) : Nat := if s.power.stage = 7 then 2 else 1 - s.fwu.active

/-- An image slot changed by a function; the DRAM buffer is not kept as a slot. -/
def onImage (n : Nat) (f : ImageSlot → ImageSlot) (s : State) : State :=
  onFwu (fun w => match n with
    | 0 => { w with slotA := f w.slotA }
    | 1 => { w with slotB := f w.slotB }
    | _ => w) s

/-- FWU_BEGIN opens an update of the inactive slot, whose manifest sector is erased. -/
def fwuBegin (u : Ump) (s : State) : Reply :=
  let n := u.b32 0
  let k := updateSlot s
  judge ([short u 4, param (n == 0 || decide (33554432 < n))] ++ gate 0x0E01 false [.image k] s
    ++ [(s.fwu.onTrial || s.fwu.session, ST.badState)]) s fun _ =>
    replyHw u.env.hw [BitVec.ofNat 8 k] (onImage k (fun _ => .empty)
      (onFwu (fun w => { w with session := true, slot := k, length := n, written := 0, committed := false }) s))

/-- FWU_BEGIN (R453). -/
def execFwuBegin (m : Ump) (s : State) : Host.Outcome State Fault Refusal := .next (serve 0x0E01 fwuBegin m s)

/-- FWU_DATA up to ST_PENDING: its offset is the bytes written so far. -/
def fwuData (u : Ump) (s : State) : Reply :=
  let n := u.data.length - 8
  judge ([short u 8, (n == 0, ST.badLength), param (decide (1048568 < n) || u.b32 0 != s.fwu.written
      || (s.fwu.session && decide (s.fwu.length < u.b32 0 + n)))]
    ++ gate 0x0E02 true [.image s.fwu.slot] s ++ [(!s.fwu.session, ST.badState)]) s
    fun _ => pending u 0x0E02 [.image s.fwu.slot] s

/-- FWU_DATA (R453): its sectors are written at FWU_DATA_WRITTEN. -/
def execFwuData (m : Ump) (s : State) : Host.Outcome State Fault Refusal := .next (serve 0x0E02 fwuData m s)

/-- The sectors of an FWU_DATA are written and read back, or one failed twice. -/
def fwuWritten (hw : Retry) (s : State) : State :=
  match firstAsync 0x0E02 s with
  | none => s
  | some a =>
    match hw with
    | .lasting => endAsync a ST.faultLasting [] s
    | _ =>
      let n := s.fwu.written + (a.ext.length - 8)
      let b := { a with retried := a.retried || decide (hw = .retried) }
      let t := onImage s.fwu.slot (fun i => { i with written := n }) (onFwu (fun w => { w with written := n }) (setAsync a b s))
      endAsync b ST.ok (leBytes 4 n) t

/-- FWU_DATA_WRITTEN (R453). -/
def execFwuDataWritten (hw : Retry) (s : State) : Host.Outcome State Fault Refusal := .next (fwuWritten hw (start s))

/-- FWU_COMMIT up to ST_PENDING: the image must be complete. -/
def fwuCommit (u : Ump) (s : State) : Reply :=
  judge (gate 0x0E03 true [.image s.fwu.slot] s
    ++ [(!s.fwu.session || s.fwu.committed || s.fwu.written != s.fwu.length, ST.badState)]) s
    fun _ => pending u 0x0E03 [.image s.fwu.slot] s

/-- FWU_COMMIT (R453): its checks end at FWU_COMMIT_CHECKED. -/
def execFwuCommit (m : Ump) (s : State) : Host.Outcome State Fault Refusal := .next (serve 0x0E03 fwuCommit m s)

/-- The status that reports the check of R298 an image fails (DESIGN CHOICE, log entry 14). -/
def imageStatus (cause : Nat) : Nat :=
  match cause with
  | 0 => ST.ok
  | 1 => ST.badParam
  | 2 => ST.versionMismatch
  | 6 => ST.badCrc
  | _ => ST.signatureFail

/-- The checks of FWU_COMMIT end: the first that fails, and the manifest's versions. -/
def fwuChecked (cause version security : Nat) (s : State) : State :=
  match firstAsync 0x0E03 s with
  | none => s
  | some a =>
    let n := s.fwu.slot
    let i : ImageSlot := ⟨cause, version, security, s.fwu.written⟩
    let c := imageCause i s.sec.antiRollback
    if c = 0 then
      endAsync a ST.ok (leBytes 4 version ++ leBytes 4 security)
        (onImage n (fun _ => i) (onFwu (fun w => { w with committed := true, session := false }) s))
    else endAsync a (imageStatus c) [] (raise 0x0505 (rejectedPayload n c security s.sec.antiRollback) s)

/-- FWU_COMMIT_CHECKED (R453). -/
def execFwuCommitChecked (cause version security : Nat) (s : State) : Host.Outcome State Fault Refusal :=
  .next (fwuChecked cause version security (start s))

/-- FWU_ACTIVATE up to ST_PENDING. -/
def fwuActivate (u : Ump) (s : State) : Reply :=
  let op := u.b8 0
  let rom := s.power.stage == 7
  let other := slotOf (1 - s.fwu.active) s.fwu
  judge ([short u 1, param (decide (2 < op))] ++ gate 0x0E04 true [.image s.fwu.slot] s
    ++ [(op == 0 && (if rom then !s.fwu.session || s.fwu.written != s.fwu.length else !s.fwu.committed || s.fwu.onTrial),
          ST.badState),
        (op == 1 && !s.fwu.onTrial, ST.badState),
        (op == 2 && decide (other.security < s.sec.antiRollback), ST.versionMismatch)]) s
    fun _ => pending u 0x0E04 [.image s.fwu.slot] s

/-- FWU_ACTIVATE's completion payload. -/
def activateDone (slot : Nat) (s : State) : Bytes := leBytes 1 slot ++ leBytes 3 0 ++ leBytes 4 s.sec.antiRollback

/-- The boot control word is written, with its retry; lastingly failed, the command ends so (R332, R453). -/
def writeControl (a : AsyncCmd) (hw : Retry) (slot : Nat) (f : State → State) (s : State) : State :=
  match hw with
  | .lasting => endAsync a ST.faultLasting [] (feltWrite hw 0x4030 s)
  | _ =>
    let b := { a with retried := a.retried || decide (hw = .retried) }
    let t := f (setAsync a b (feltWrite hw 0x4030 s))
    endAsync b ST.ok (activateDone slot t) t

/-- The host image in the DRAM buffer is checked and run (R298, R453); its first failing check and its versions are what the
boot ROM finds. -/
def runHostImage (a : AsyncCmd) (found : Bytes) (s : State) : State :=
  let i : ImageSlot := ⟨rd found 0 1, rd found 1 4, rd found 5 4, s.fwu.written⟩
  let c := imageCause i s.sec.antiRollback
  if c = 0 then
    onPower (fun p => { p with stage := 2, image := 2, version := i.version })
      (onFwu (fun w => { w with session := false }) (endAsync a ST.ok (activateDone 2 s) s))
  else
    let pay := rejectedPayload 2 c i.security s.sec.antiRollback
    endAsync a (imageStatus c) []
      (report 0x0505 pay true false (recordNow 0x0505 pay (onPower (fun p => { p with bootCauseCode := c }) s)))

/-- What FWU_ACTIVATE does once accepted: trial, confirm or roll back; its reset is FWU_TRIAL_RESET, 100 ms later (R453). -/
def activate (u : Ump) (s : State) : State :=
  match findOwn 0x0E04 (u.via, u.tag) s with
  | none => s
  | some a =>
    let due (t : State) : State := onPower (fun p => { p with pendingReset := 1, resetAt := runTime t + 100000000 }) t
    match u.b8 0 with
    | 0 =>
      if s.power.stage = 7 then runHostImage a u.env.plain s
      else writeControl a u.env.hw s.fwu.slot (fun t => due (onFwu (fun w =>
        { w with active := w.slot, trial := true, tried := false, committed := false }) t)) s
    | 1 =>
      writeControl a u.env.hw s.fwu.active (fun t =>
        onSec (fun c => { c with antiRollback := max c.antiRollback (slotOf s.fwu.active s.fwu).security })
          (onFwu (fun w => { w with trial := false, tried := false, onTrial := false }) t)) s
    | _ =>
      writeControl a u.env.hw (1 - s.fwu.active) (fun t => due (onFwu (fun w =>
        { w with active := 1 - w.active, trial := false, tried := false, onTrial := false }) t)) s

/-- FWU_ACTIVATE (R453). -/
def execFwuActivate (m : Ump) (s : State) : Host.Outcome State Fault Refusal :=
  .next (serveThen 0x0E04 fwuActivate (activate m) m s)

/-! ### EVR_CLEAR (R434) -/

/-- EVR_CLEAR up to ST_PENDING. -/
def evrClear (u : Ump) (s : State) : Reply :=
  judge [short u 240, (s.sec.lifecycle == .blank, ST.notAuthorised)] s fun _ =>
    present u (field u.data 4 236) [5] (gate 0x0A03 true [.recorder] s) s fun c =>
      pending u 0x0A03 [.recorder] (onEvr (fun r => { r with clearing := true }) c)

/-- EVR_CLEAR (R434): the segments are zero at EVR_CLEAR_DONE. -/
def execEvrClear (m : Ump) (s : State) : Host.Outcome State Fault Refusal := .next (serve 0x0A03 evrClear m s)

/-- The circulating area is erased: EV_LOG_CLEARED is the first record of segment 0, and ordinals continue (R434). -/
def clearLog (s : State) : State :=
  match firstAsync 0x0A03 s with
  | none => s
  | some a =>
    let r := s.evr
    let gone := (r.records.filter fun x => !x.permanent).length
    let pay := leBytes 4 r.count ++ leBytes 4 gone
    let o : Occurrence := ⟨0x0A01, pay, false, false, false, true, s.mem.seconds, s.mem.cycles, deviceTime s, []⟩
    let s := onEvr (fun r => writeOcc o
      { r with records := r.records.filter fun x => x.permanent
               permClosed := true, segStarted := true, segment := 0, segNext := 16, segFirst := [(0, r.count)], newest := none
               clearing := false, clears := inc 32 r.clears }) s
    endAsync a ST.ok (pay ++ leBytes 4 r.count) (deliver ⟨0x0A01, 0, 0, pay, none⟩ s)

/-- EVR_CLEAR_DONE (R434). -/
def execEvrClearDone (s : State) : Host.Outcome State Fault Refusal := .next (clearLog (start s))

end Sys2Proof.Machine
end

