-- ==== Sys2Proof/Machine/Wired.lean ====
section
/-! DEFINITION. Ethernet ports and the tables of the forwarding engine: bring-up, link changes and the commands of group 0x06
(R169 to R172, R180, R182 to R185, R189 to R204). -/
namespace Sys2Proof.Machine

/-! ### Ports (R169 to R171) -/

/-- Speed code of a mode of ports 0 to 3 (R203). -/
def modeSpeed : Nat → Nat
  | 1 => 3
  | 2 => 4
  | 3 => 5
  | 4 => 6
  | 5 => 7
  | _ => 0

/-- EV_ETH_LINK's payload (R204). -/
def linkPayload (p up speed fec cause : Nat) : Bytes :=
  leBytes 1 p ++ leBytes 1 up ++ leBytes 1 speed ++ leBytes 1 fec ++ leBytes 1 cause

/-- A frame bound for a port that is down is dropped and counted in TX_LINK_DOWN_DROP (R170); its inject completion is port
down (R262). -/
def linkDownDrop (p : Nat) (f : Frame) (s : State) : State :=
  injectFate f.inject 17 (rawTime s) (freeFrame f (countPort p 38 1 s))

/-- Every frame queued for a port is dropped and counted (R170). -/
def dropPortQueue (p : Nat) (s : State) : State :=
  let qs := if p = 4 then [16488] else (List.range 8).map (wiredQueue p)
  qs.foldl (fun t q =>
    (queue q t).frames.foldl (fun u f => linkDownDrop p f (leaveCells q f.cells u))
      (onQueue q (fun i => { i with frames := [] }) t)) s

/-- The entries learned on a port are removed (R170). -/
def forgetPort (p : Nat) (s : State) : State :=
  onWire (fun w => { w with macs := w.macs.filter fun e => e.station.isSome || e.port != p }) s

/-- A port leaves UP for a state: EV_ETH_LINK, its queued frames and learned addresses are gone (R170). -/
def leaveUp (p cause : Nat) (dst : PortState) (s : State) : State :=
  let x := port p s
  let s := match x.sending with
    | some (_, f) => linkDownDrop p f s
    | none => s
  let s := settleStopped p s
  let s := onPort p (fun y =>
    { y with state := dst, retry := 0, speed := 0, fecActive := 0, changes := inc 32 y.changes, sending := none
             paused := false, pfcStopped := 0, stoppedAt := none, xoffSent := 0, pauseOwed := [] }) s
  let s := forgetPort p (dropPortQueue p s)
  let s := if p = 4 then s else settlePort p s
  settleShapers (raise 0x0601 (linkPayload p 0 x.speed x.fecActive cause) (countPort p 39 1 s))

/-- A port enters UP (R170). -/
def enterUp (p speed : Nat) (s : State) : State :=
  let fec := if p = 4 then 0 else (port p s).cfg.fec
  let s := onPort p (fun y =>
    { y with state := .up, retry := 0, speed := speed, fecActive := fec, changes := inc 32 y.changes }) s
  raise 0x0601 (linkPayload p 1 speed fec 0) (settleXoff s)

/-- A port's blocks run: PD_ETH is on and the port is no bring-up of another domain. -/
def portRuns (p : Nat) (s : State) : Bool := powered 9 s && decide (p ≤ 4)

/-- A signal appears on a DOWN port (R170). -/
def signalDetect (p : Nat) (s : State) : State :=
  if portRuns p s && (port p s).state == .down then
    onPort p (fun x => { x with state := .training, retry := 0 }) s
  else s

/-- PORT_SIGNAL_DETECT (R170). -/
def execPortSignalDetect (port : Nat) (s : State) : Host.Outcome State Fault Refusal :=
  .next (signalDetect port (start s))

/-- EV_ETH_PORT_FAULT's payload (R204). -/
def portFaultPayload (p : Nat) (s : State) : Bytes := leBytes 1 p ++ leBytes 1 (port p s).cfg.mode

/-- Bring-up succeeds; on its retry it was a transient fault (R170, R436). -/
def bringupDone (p : Nat) (s : State) : State :=
  let x := port p s
  if portRuns p s && p != 4 && x.state == .training && x.retry != 1 then
    enterUp p (modeSpeed x.cfg.mode)
      (if x.retry = 2 then transientFault 0x0602 (portFaultPayload p s) s else s)
  else s

/-- PORT_BRINGUP_DONE (R170). -/
def execPortBringupDone (port : Nat) (s : State) : Host.Outcome State Fault Refusal :=
  .next (bringupDone port (start s))

/-- Bring-up fails with a signal present (on MGT it lasts until the PHY reports link): it waits for its retry, or the port enters FAULT (R170). -/
def bringupFail (p : Nat) (s : State) : State :=
  let x := port p s
  if !portRuns p s || p == 4 || x.state != .training || x.retry == 1 then s
  else if x.retry = 0 then onPort p (fun y => { y with retry := 1 }) s
  else lastingFault 0x0602 (portFaultPayload p s) true (onPort p (fun y => { y with state := .fault, retry := 0 }) s)

/-- PORT_BRINGUP_FAIL (R170). -/
def execPortBringupFail (port : Nat) (s : State) : Host.Outcome State Fault Refusal :=
  .next (bringupFail port (start s))

/-- PORT_BRINGUP_RETRY (R170): 100 ms after the failure the retry begins. -/
def execPortBringupRetry (port : Nat) (s : State) : Host.Outcome State Fault Refusal :=
  .next (let s := start s
    let x := Machine.port port s
    if portRuns port s && x.state == .training && x.retry == 1 then onPort port (fun y => { y with retry := 2 }) s else s)

/-- Loss of signal or of block lock (R170). -/
def signalLoss (p : Nat) (s : State) : State :=
  if !portRuns p s then s
  else match (port p s).state with
    | .up => leaveUp p 0 .down s
    | .training => onPort p (fun x => { x with state := .down, retry := 0 }) s
    | _ => s

/-- PORT_SIGNAL_LOSS (R170). -/
def execPortSignalLoss (port : Nat) (s : State) : Host.Outcome State Fault Refusal :=
  .next (signalLoss port (start s))

/-- The MGT PHY is polled: UP at full duplex; out of UP to DOWN without link; and held DOWN with a link at half duplex, which
EV_ETH_LINK reports with cause 2 when it is found (R170, R171). -/
def mdioPoll (link half : Bool) (speed : Nat) (s : State) : State :=
  let x := port 4 s
  if !portRuns 4 s || x.state == .adminDown || x.state == .fault then s
  else if link && half then
    let s := onPort 4 (fun y => { y with half := true }) s
    if x.state = .up then leaveUp 4 2 .down s
    else
      let s := onPort 4 (fun y => { y with state := .down }) s
      if x.half then s else raise 0x0601 (linkPayload 4 0 0 0 2) s
  else
    let s := onPort 4 (fun y => { y with half := false }) s
    if link then
      let n := if speed < 4 then speed else 3
      if x.state = .up then (if x.speed = n then s else enterUp 4 n (leaveUp 4 0 .down s)) else enterUp 4 n s
    else if x.state = .up then leaveUp 4 0 .down s
    else s

/-- MDIO_POLL (R171). -/
def execMdioPoll (link half : Bool) (speed : Nat) (s : State) : Host.Outcome State Fault Refusal :=
  .next (mdioPoll link half speed (start s))

/-! ### FWD_SET_PORT -/

/-- Step 9 for group 0x06: PD_PKT and PD_ETH (R203). -/
def wiredOff (s : State) : List (Bool × Nat) := [off 2 s, off 9 s]

/-- The settings a FWD_SET_PORT carries. -/
def portArgs (u : Ump) : PortCfg where
  mode := u.b8 2
  fec := u.b8 3
  flow := u.b8 4
  pfcMask := u.b8 5
  maxFrame := u.b16 6
  pvid := u.b16 8
  trust := u.b8 10
  priority := u.b8 11
  xoff := u.b16 12
  xon := u.b16 14
  headroom := u.b16 16
  hold := u.b16 18
  admin := bit (u.b8 20) 0

/-- A FEC setting the mode does not allow (R169). -/
def fecBad (mode fec : Nat) : Bool :=
  match mode with
  | 4 => decide (1 < fec)
  | 5 => decide (2 < fec)
  | _ => fec != 0

/-- The settings are out of range or forbidden (R169, R177, R178, R203). -/
def portArgsBad (p : Nat) (c : PortCfg) : Bool :=
  (if p = 4 then c.mode != 6 else c.mode == 0 || decide (5 < c.mode)) || fecBad c.mode c.fec
  || decide ((if p = 4 then 1 else 2) < c.flow) || decide (c.maxFrame < 1518) || decide (9216 < c.maxFrame)
  || badVlan c.pvid || decide (2 < c.trust) || decide (7 < c.priority)
  || decide (c.xoff < 64) || decide (4096 < c.xoff) || decide (c.xoff ≤ c.xon) || decide (1024 < c.headroom)
  || decide (c.hold < 256) || decide (8192 < c.hold)

/-- State code of a port (R203). -/
def portCode : PortState → Nat
  | .adminDown => 0
  | .down => 1
  | .training => 2
  | .up => 3
  | .fault => 4

/-- The response of FWD_SET_PORT. -/
def portReply (p op : Nat) (s : State) : Reply :=
  let x := port p s
  let c := x.cfg
  reply (leBytes 1 p ++ leBytes 1 op ++ leBytes 1 c.mode ++ leBytes 1 c.fec ++ leBytes 1 c.flow ++ leBytes 1 c.pfcMask
    ++ leBytes 2 c.maxFrame ++ leBytes 2 c.pvid ++ leBytes 1 c.trust ++ leBytes 1 c.priority ++ leBytes 2 c.xoff
    ++ leBytes 2 c.xon ++ leBytes 2 c.headroom ++ leBytes 2 c.hold ++ leBytes 1 (b2n c.admin) ++ leBytes 3 0
    ++ leBytes 1 (portCode x.state) ++ leBytes 1 x.speed ++ leBytes 1 x.fecActive ++ leBytes 1 (b2n x.partner)
    ++ leBytes 4 x.changes) s

/-- A port enters DOWN under its settings (R170). -/
def enterDown (p : Nat) (s : State) : State := onPort p (fun x => { x with state := .down, retry := 0, half := false }) s

/-- New settings of a port take effect (R170, R203). A change of flow control ends the stops and the XOFFs of the old one. -/
def setPort (p : Nat) (c : PortCfg) (s : State) : State :=
  let old := (port p s).cfg
  let st := (port p s).state
  let relink := old.mode != c.mode || old.fec != c.fec
  let s := onPort p (fun x => { x with cfg := c }) s
  let s := if old.flow = c.flow then s
    else onPort p (fun x => { x with xoffSent := 0, pauseOwed := [] }) (setStopped p false 0 s)
  let s := if !c.admin then
      (if st = .up then leaveUp p 1 .adminDown s else onPort p (fun x => { x with state := .adminDown, retry := 0 }) s)
    else if st == .adminDown || st == .fault then enterDown p s
    else if relink then enterDown p (if st = .up then leaveUp p 1 .down s else s)
    else s
  settleXoff s

/-- FWD_SET_PORT (R203). -/
def fwdSetPort (u : Ump) (s : State) : Reply :=
  let p := u.b8 0
  let op := u.b8 1
  let c := portArgs u
  judge ([shortOp u 1 1 24, badPort p] ++ wiredOff s ++ [param (decide (1 < op))]) s fun _ =>
    if op = 0 then judge (gate 0x0601 false [] s) s fun _ => portReply p op s
    else
      judge (param (portArgsBad p c) :: gate 0x0601 false (if c.admin then [.port p, .bist 2] else [.port p]) s) s fun _ =>
        portReply p op (cfgKeep 0x0601 0 2 u.payload (setPort p c s))

/-- FWD_SET_PORT (R170). -/
def execFwdSetPort (m : Ump) (s : State) : Host.Outcome State Fault Refusal :=
  .next (serve 0x0601 fwdSetPort m s)

/-! ### FWD_VLAN_SET -/

/-- A VLAN. -/
def vlan (v : Nat) (s : State) : Option Vlan := Tab.look s.wire.vlans v

/-- Learned addresses of a VLAN are removed. -/
def flushVlan (v : Nat) (s : State) : State :=
  onWire (fun w => { w with macs := w.macs.filter fun e => e.station.isSome || e.vlan != v }) s

/-- The VLAN a FWD_VLAN_SET carries. -/
def vlanArgs (u : Ump) : Vlan where
  flags := u.b8 3
  members := u.b8 4
  untagged := u.b8 5
  mac := rdBe u.data 6 6
  v4 := (rdBe u.data 12 4, u.b8 16)
  v6 := (rdBe u.data 20 16, u.b8 17)
  mtu := u.b16 18

/-- Bytes 0 to 35 with the values stored for a VLAN. -/
def vlanBytes (v op : Nat) (x : Vlan) : Bytes :=
  leBytes 2 v ++ leBytes 1 op ++ leBytes 1 x.flags ++ leBytes 1 x.members ++ leBytes 1 x.untagged ++ beBytes 6 x.mac
    ++ beBytes 4 x.v4.1 ++ leBytes 1 x.v4.2 ++ leBytes 1 x.v6.2 ++ leBytes 2 x.mtu ++ beBytes 16 x.v6.1

/-- Router interfaces other than a VLAN. -/
def otherRouters (v : Nat) (s : State) : Nat :=
  (s.wire.vlans.filter fun e => e.1 != v && bit e.2.flags 4).length

/-- A VLAN is removed, with the addresses, groups and next hops kept on it. -/
def deleteVlan (v : Nat) (s : State) : State :=
  onWire (fun w => { w with vlans := Tab.del w.vlans v, groups := w.groups.filter fun g => g.vlan != v
                            nextHops := w.nextHops.filter fun h => h.iface != v }) (flushVlan v s)

/-- FWD_VLAN_SET (R189, R190, R192, R203). -/
def fwdVlanSet (u : Ump) (s : State) : Reply :=
  let v := u.b16 0
  let op := u.b8 2
  let x := vlanArgs u
  let g := gate 0x0609 false [] s
  judge ([short u 36, param (badVlan v)] ++ wiredOff s
      ++ [param (decide (3 < op)), param (op != 0 && (vlan v s).isNone)]) s fun _ =>
    match op with
    | 0 =>
      judge (param (decide (31 < x.members) || decide (31 < x.untagged) || decide (31 < x.v4.2) || decide (127 < x.v6.2)
            || decide (x.mtu < 1280) || decide (9198 < x.mtu)
            || (bit x.flags 4 && notUnicast (field u.data 6 6))) :: g
          ++ [(bit x.flags 4 && decide (256 ≤ otherRouters v s), ST.noResource)]) s fun _ =>
        reply [] (cfgKeepIf (fun r => r.code == 0x0609 && rd r.payload 0 2 == v) 0x0609 u.payload
          (onWire (fun w => { w with vlans := Tab.put w.vlans v x }) s))
    | 1 =>
      judge (g ++ [(s.air.bss.any fun e => e.2.vlan == v, ST.badState)]) s fun _ =>
        reply [] (cfgDelete (fun r => r.code == 0x0609 && rd r.payload 0 2 == v) 0x0609 u.payload (deleteVlan v s))
    | 2 => judge g s fun _ => reply (vlanBytes v op ((vlan v s).getD x)) s
    | _ => judge g s fun _ => reply [] (flushVlan v s)

/-- FWD_VLAN_SET (R203). -/
def execFwdVlanSet (m : Ump) (s : State) : Host.Outcome State Fault Refusal :=
  .next (serve 0x0609 fwdVlanSet m s)

/-! ### FWD_ROUTE_SET -/

/-- An address of a 16-byte field: an IPv4 address lies in its first four bytes (R273). -/
def addrAt (b : Bytes) (o family : Nat) : Nat := if family = 4 then rdBe b o 4 else rdBe b o 16

/-- An IPv4 address whose field is not zero after its four bytes (R273). -/
def addrBad (b : Bytes) (o family : Nat) : Bool := family == 4 && rdBe b (o + 4) 12 != 0

/-- An address in a 16-byte field. -/
def addrBytes (family a : Nat) : Bytes := if family = 4 then beBytes 4 a ++ leBytes 12 0 else beBytes 16 a

/-- Bits of an address of a family. -/
def addrBits (family : Nat) : Nat := if family = 4 then 32 else 128

/-- The first `len` bits of an address, the rest zero. -/
def prefixOf (family len a : Nat) : Nat := a / 2 ^ (addrBits family - len) * 2 ^ (addrBits family - len)

/-- The route a FWD_ROUTE_SET carries. -/
def routeArgs (u : Ump) : Route :=
  ⟨u.b8 1, u.b8 2, prefixOf (u.b8 1) (u.b8 2) (addrAt u.data 4 (u.b8 1)), u.b8 3, u.b16 20, addrAt u.data 24 (u.b8 1)⟩

/-- Two routes name one prefix. -/
def sameRoute (a b : Route) : Bool := a.family == b.family && a.len == b.len && a.pfx == b.pfx

/-- A kept record of a route's prefix. -/
def routeRecord (r : Route) (c : CfgRecord) : Bool :=
  c.code == 0x0602 && rd c.payload 1 1 == r.family && rd c.payload 2 1 == r.len
    && prefixOf r.family r.len (addrAt c.payload 4 r.family) == r.pfx

/-- A route as it is returned. -/
def routeBytes (op : Nat) (r : Route) : Bytes :=
  leBytes 1 op ++ leBytes 1 r.family ++ leBytes 1 r.len ++ leBytes 1 r.kind ++ addrBytes r.family r.pfx
    ++ leBytes 2 r.iface ++ leBytes 2 0 ++ addrBytes r.family r.gateway

/-- The router interface of a VLAN. -/
def routerVlan (v : Nat) (s : State) : Option Vlan := (vlan v s).filter fun x => bit x.flags 4

/-- FWD_ROUTE_SET (R192, R203). -/
def fwdRouteSet (u : Ump) (s : State) : Reply :=
  let op := u.b8 0
  let r := routeArgs u
  let n := match u.b8 3 with | 0 => 22 | 1 => 40 | _ => 20
  let old := s.wire.routes.find? fun x => sameRoute x r
  let rest := s.wire.routes.filter fun x => !sameRoute x r
  let g := gate 0x0602 false [] s
  judge ([shortOp u 3 3 n] ++ wiredOff s
      ++ [param (decide (2 < op)), param (r.family != 4 && r.family != 6), param (decide (addrBits r.family < r.len)),
        param (addrBad u.data 4 r.family), param (op != 0 && old.isNone)]) s fun _ =>
    match op with
    | 0 =>
      judge (param (decide (3 < r.kind) || (decide (r.kind < 2) && (routerVlan r.iface s).isNone)
            || (r.kind == 1 && addrBad u.data 24 r.family)) :: g
          ++ [(decide ((if r.family = 4 then 65536 else 32768) ≤ (rest.filter fun x => x.family == r.family).length),
              ST.noResource)]) s fun _ =>
        reply [] (cfgKeepIf (routeRecord r) 0x0602 u.payload (onWire (fun w => { w with routes := rest ++ [r] }) s))
    | 1 => judge g s fun _ =>
        reply [] (cfgDelete (routeRecord r) 0x0602 u.payload (onWire (fun w => { w with routes := rest }) s))
    | _ => judge g s fun _ => reply (routeBytes op (old.getD r)) s

/-- FWD_ROUTE_SET (R203). -/
def execFwdRouteSet (m : Ump) (s : State) : Host.Outcome State Fault Refusal :=
  .next (serve 0x0602 fwdRouteSet m s)

/-! ### FWD_ACL_SET -/

/-- An ACL rule's fields are out of range (R203). -/
def aclBad (b : Bytes) : Bool :=
  let m := rd b 10 2
  let fam := rd b 18 1
  decide (3 < rd b 3 1) || decide (7 < rd b 5 1) || decide (63 < rd b 6 1) || decide (15 < rd b 7 1)
  || decide (4095 < rd b 8 2)
  || (bit m 10 && decide (47 < rd b 13 1)) || (bit m 1 && badVlan (rd b 14 2))
  || ((bit m 4 || bit m 5) && ((fam != 4 && fam != 6) || decide (addrBits fam < rd b 36 1)
        || decide (addrBits fam < rd b 37 1) || addrBad b 20 fam || addrBad b 40 fam))
  || (bit m 6 && decide (rd b 58 2 < rd b 56 2)) || (bit m 7 && decide (rd b 62 2 < rd b 60 2))
  || (bit m 8 && decide (63 < rd b 64 1))

/-- FWD_ACL_SET (R199, R203). -/
def fwdAclSet (u : Ump) (s : State) : Reply :=
  let n := u.b16 0
  let op := u.b8 2
  let g := gate 0x0603 false [] s
  let same (r : CfgRecord) : Bool := r.code == 0x0603 && rd r.payload 0 2 == n
  judge ([short u 68, param (decide (4095 < n))] ++ wiredOff s
      ++ [param (decide (2 < op)), param (op != 0 && (Tab.look s.wire.acl n).isNone)]) s fun _ =>
    match op with
    | 0 =>
      judge (param (aclBad u.data) :: g) s fun _ =>
        reply [] (cfgKeepIf same 0x0603 u.payload
          (onWire (fun w => { w with acl := Tab.put w.acl n ⟨fit 68 u.data, 0, 0⟩ }) s))
    | 1 => judge g s fun _ =>
        reply [] (cfgDelete same 0x0603 u.payload (onWire (fun w => { w with acl := Tab.del w.acl n }) s))
    | _ => judge g s fun _ =>
        let r := (Tab.look s.wire.acl n).getD ⟨[], 0, 0⟩
        reply (r.bytes ++ leBytes 8 r.hits ++ leBytes 8 r.octets) s

/-- FWD_ACL_SET (R203). -/
def execFwdAclSet (m : Ump) (s : State) : Host.Outcome State Fault Refusal :=
  .next (serve 0x0603 fwdAclSet m s)

/-! ### FWD_NAT_SET -/

/-- Ranges of the flow timeouts (R198). -/
def timeoutRanges : List (Nat × Nat) :=
  [(5, 300), (60, 86400), (1, 300), (5, 600), (10, 3600), (5, 600), (10, 3600)]

/-- The seven timeouts a FWD_NAT_SET carries. -/
def timeoutArgs (u : Ump) : List Nat := (List.range 7).map fun i => u.b32 (4 + 4 * i)

/-- The pool a FWD_NAT_SET carries. -/
def poolArgs (u : Ump) : NatPool := ⟨rdBe u.data 4 4, u.b8 8, u.b8 9 % 2, u.b16 10, u.b16 12, 0⟩

/-- A record of FWD_NAT_SET as it is returned; none where there is none. -/
def natBytes (op n : Nat) (s : State) : Option Bytes :=
  match op with
  | 0 => (Tab.look s.wire.pools n).map fun p =>
      leBytes 1 0 ++ leBytes 1 0 ++ leBytes 2 n ++ beBytes 4 p.first ++ leBytes 1 p.count ++ leBytes 1 p.flags
        ++ leBytes 2 p.low ++ leBytes 2 p.high
  | 1 => (Tab.look s.wire.forwards n).map fun f =>
      leBytes 1 1 ++ leBytes 1 0 ++ leBytes 2 n ++ leBytes 1 f.proto ++ leBytes 1 0 ++ leBytes 2 f.outside
        ++ beBytes 4 f.inside ++ leBytes 2 f.port
  | 3 => some (leBytes 1 3 ++ leBytes 3 0 ++ (s.wire.timeouts.map (leBytes 4)).flatten ++ leBytes 4 s.wire.macAging)
  | _ => none

/-- Kept records of FWD_NAT_SET: an Op, and the interface or index it names. -/
def natRecord (op n : Nat) (r : CfgRecord) : Bool :=
  r.code == 0x0604 && rd r.payload 0 1 == op && (op == 3 || rd r.payload 2 2 == n)

/-- FWD_NAT_SET (R191, R197, R198, R203). -/
def fwdNatSet (u : Ump) (s : State) : Reply :=
  let op := u.b8 0
  let n := u.b16 2
  let len := match op with | 0 => 14 | 1 => 14 | 2 => 4 | 3 => 36 | _ => 4
  let g := gate 0x0604 false [] s
  judge ([shortOp u 0 4 len, param ((op == 1 || op == 2) && decide (1023 < n))] ++ wiredOff s
      ++ [param (decide (4 < op))]) s fun _ =>
    match op with
    | 0 =>
      let p := poolArgs u
      judge (param ((routerVlan n s).all (fun x => !bit x.flags 7) || p.count == 0 || decide (16 < p.count)
          || p.low == 0 || decide (p.high < p.low)) :: g) s fun _ =>
        reply [] (cfgKeepIf (natRecord 0 n) 0x0604 u.payload
          (onWire (fun w => { w with pools := Tab.put w.pools n p }) s))
    | 1 =>
      judge (param (u.b8 4 != 6 && u.b8 4 != 17) :: g) s fun _ =>
        let f : Forward := ⟨u.b8 4, u.b16 6, rdBe u.data 8 4, u.b16 12⟩
        reply [] (cfgKeepIf (natRecord 1 n) 0x0604 u.payload
          (onWire (fun w => { w with forwards := Tab.put w.forwards n f }) s))
    | 2 =>
      judge (param (Tab.look s.wire.forwards n).isNone :: g) s fun _ =>
        reply [] (cfgDelete (natRecord 1 n) 0x0604 u.payload
          (onWire (fun w => { w with forwards := Tab.del w.forwards n }) s))
    | 3 =>
      let l := timeoutArgs u
      judge (param (((l.zip timeoutRanges).any fun e => decide (e.1 < e.2.1) || decide (e.2.2 < e.1))
          || decide (u.b32 32 < 10) || decide (3600 < u.b32 32)) :: g) s fun _ =>
        reply [] (cfgKeepIf (natRecord 3 n) 0x0604 u.payload
          (onWire (fun w => { w with timeouts := l, macAging := u.b32 32 }) s))
    | _ =>
      judge (param (natBytes (u.b8 1) n s).isNone :: g) s fun _ => reply ((natBytes (u.b8 1) n s).getD []) s

/-- FWD_NAT_SET (R203). -/
def execFwdNatSet (m : Ump) (s : State) : Host.Outcome State Fault Refusal :=
  .next (serve 0x0604 fwdNatSet m s)

/-! ### FWD_FLOW_QUERY -/

/-- A tuple as 38 bytes. -/
def Tuple.bytes (t : Tuple) : Bytes :=
  leBytes 1 t.family ++ leBytes 1 t.proto ++ beBytes 16 t.src ++ beBytes 16 t.dst ++ leBytes 2 t.sport ++ leBytes 2 t.dport

/-- The tuple is a flow's own, as its inside sends it. -/
def flowForward (t : Tuple) (f : Flow) : Bool :=
  t.family == f.family && t.proto == f.proto && t.src == f.src && t.dst == f.dst && t.sport == f.sport
    && t.dport == f.dport

/-- The tuple is a flow's as its far side sends it: to the NAT address and port where it is translated. -/
def flowReverse (t : Tuple) (f : Flow) : Bool :=
  t.family == f.family && t.proto == f.proto && t.src == f.dst && t.sport == f.dport
    && (if bit f.flags 1 then t.dst == f.nat && t.dport == f.natPort else t.dst == f.src && t.dport == f.sport)

/-- A flow entry as 64 bytes (R203). -/
def flowBytes (n : Nat) (f : Flow) (s : State) : Bytes :=
  leBytes 4 n ++ leBytes 1 f.state ++ leBytes 1 f.proto ++ leBytes 1 f.flags ++ leBytes 1 0
    ++ addrBytes f.family f.src ++ addrBytes f.family f.dst ++ leBytes 2 f.sport ++ leBytes 2 f.dport
    ++ beBytes 4 f.nat ++ leBytes 2 f.natPort ++ leBytes 2 (min 65535 (s.mem.seconds - f.last)) ++ leBytes 4 f.packets
    ++ leBytes 8 f.octets

/-- The response of FWD_FLOW_QUERY: a count, the next index and the entries. -/
def flowReply (l : List (Nat × Flow)) (next : Nat) (s : State) : Reply :=
  reply (leBytes 1 l.length ++ leBytes 3 0 ++ leBytes 4 next ++ (l.map fun e => flowBytes e.1 e.2 s).flatten) s

/-- A flow entry is removed. -/
def removeFlow (n : Nat) (s : State) : State :=
  onWire (fun w => { w with flows := Tab.del w.flows n
                            fragments := w.fragments.filter fun e => e.2.2.2 != n }) s

/-- FWD_FLOW_QUERY (R203). -/
def fwdFlowQuery (u : Ump) (s : State) : Reply :=
  let op := u.b8 0
  let fam := u.b8 1
  let t : Tuple := ⟨fam, u.b8 2, addrAt u.data 8 fam, addrAt u.data 24 fam, u.b16 40, u.b16 42⟩
  let hit := s.wire.flows.find? fun e => flowForward t e.2 || flowReverse t e.2
  let g := gate 0x0605 false [] s
  judge ([short u 44] ++ wiredOff s
      ++ [param (decide (2 < op)), param (op != 1 && fam != 4 && fam != 6)]) s fun _ =>
    match op with
    | 0 => judge g s fun _ => flowReply hit.toList 0xFFFFFFFF s
    | 1 => judge g s fun _ =>
        let l := s.wire.flows.filter fun e => decide (u.b32 4 ≤ e.1)
        flowReply (l.take 3) (((l.drop 3).head?.map Prod.fst).getD 0xFFFFFFFF) s
    | _ => judge (param hit.isNone :: g) s fun _ =>
        flowReply [] 0xFFFFFFFF (match hit with | some e => removeFlow e.1 s | none => s)

/-- FWD_FLOW_QUERY (R203). -/
def execFwdFlowQuery (m : Ump) (s : State) : Host.Outcome State Fault Refusal :=
  .next (serve 0x0605 fwdFlowQuery m s)

/-! ### ETH_GET_COUNTERS, ETH_SET_WOL -/

/-- What a port's FEC and PCS have counted joins its counters; they do not apply to MGT, nor FEC to a link without it (R184). -/
def countLine (p : Nat) (l : Nat × Nat × Nat) (s : State) : State :=
  if p = 4 then s
  else
    let s := if (port p s).cfg.fec = 0 then s else countPort p 21 l.2.1 (countPort p 20 l.1 s)
    countPort p 22 l.2.2 s

/-- The 48 counters are latched with their time into the snapshot, and cleared (R184). -/
def takeSnapshot (p : Nat) (l : Nat × Nat × Nat) (s : State) : State :=
  let s := countLine p l (settleStopped p s)
  onPort p (fun x => { x with snapshot := some (inc 16 ((x.snapshot.map (·.1)).getD 0), rawTime s, x.counters)
                              counters := [] }) s

/-- ETH_GET_COUNTERS (R184, R203). -/
def ethGetCounters (u : Ump) (s : State) : Reply :=
  let p := u.b8 0
  let op := u.b8 1
  let page := u.b8 2
  judge ([short u 4, badPort p] ++ wiredOff s ++ [param (decide (1 < op) || decide (1 < page))] ++ gate 0x0606 false [] s
      ++ [(op == 1 && (port p s).snapshot.isNone, ST.badState)]) s fun _ =>
    let s := if op = 0 then takeSnapshot p u.env.line s else s
    let n := (port p s).snapshot.getD (0, 0, [])
    reply (leBytes 1 p ++ leBytes 1 page ++ leBytes 2 n.1 ++ leBytes 4 n.2.1
      ++ ((List.range 24).map fun i => leBytes 8 (Tab.getD n.2.2 (24 * page + i) 0)).flatten) s

/-- ETH_GET_COUNTERS (R184). -/
def execEthGetCounters (m : Ump) (s : State) : Host.Outcome State Fault Refusal :=
  .next (serve 0x0606 ethGetCounters m s)

/-- Kept records of ETH_SET_WOL: a pattern of a port, or its magic packet. -/
def wolRecord (p op k : Nat) (r : CfgRecord) : Bool :=
  r.code == 0x0607 && rd r.payload 0 1 == p && rd r.payload 1 1 == op && (op == 2 || rd r.payload 2 1 == k)

/-- ETH_SET_WOL (R185, R203). -/
def ethSetWol (u : Ump) (s : State) : Reply :=
  let p := u.b8 0
  let op := u.b8 1
  let k := u.b8 2
  let n := match op with | 2 => 28 | _ => 22
  let g := gate 0x0607 false [] s
  judge ([shortOp u 1 3 n, badPort p] ++ wiredOff s
      ++ [param (decide (3 < op) || decide (15 < k) || decide (1 < u.b8 3)), param (op == 0 && rdBe u.data 4 16 == 0)]
      ++ g) s fun _ =>
    match op with
    | 0 => reply [] (cfgKeepIf (wolRecord p 0 k) 0x0607 u.payload (onPort p (fun x =>
        { x with patterns := Tab.put x.patterns k ⟨bit (u.b8 3) 0, field u.data 4 16, u.b16 20⟩ }) s))
    | 1 => reply [] (cfgDrop (wolRecord p 0 k) (onPort p (fun x => { x with patterns := Tab.del x.patterns k }) s))
    | 2 => reply [] (cfgKeepIf (wolRecord p 2 k) 0x0607 u.payload (onPort p (fun x =>
        { x with magic := bit (u.b8 3) 0, magicMac := rdBe u.data 22 6 }) s))
    | _ =>
      let x := port p s
      let w := (Tab.look x.patterns k).getD ⟨false, leBytes 16 0, 0⟩
      reply (leBytes 1 p ++ leBytes 1 op ++ leBytes 1 k ++ leBytes 1 (b2n w.enable) ++ w.mask ++ leBytes 2 w.check
        ++ beBytes 6 x.magicMac ++ leBytes 1 (b2n x.magic) ++ leBytes 3 0) s

/-- ETH_SET_WOL (R185). -/
def execEthSetWol (m : Ump) (s : State) : Host.Outcome State Fault Refusal :=
  .next (serve 0x0607 ethSetWol m s)

/-! ### ETH_SET_MACSEC -/

/-- The SecY of a port changed by a function. -/
def onSecy (p : Nat) (f : SecY → SecY) (s : State) : State := onPort p (fun x => { x with secy := f x.secy }) s

/-- The SA a command names: a transmit SA by its AN, or a receive SA by SC and AN. -/
def saOf (y : SecY) (receive : Bool) (sc an : Nat) : Option Sa :=
  if receive then Tab.look y.rx (sc * 4 + an) else Tab.look y.tx an

/-- Bytes 0 to 47 of ETH_SET_MACSEC for an SA and its SecY, with the PN in force (R203). -/
def macsecBytes (u : Ump) (y : SecY) (sci : Nat) (a : Option Sa) : Bytes :=
  let a := a.getD ⟨0xFFFF, 0, leBytes 12 0, 0, false⟩
  field u.data 0 4 ++ leBytes 8 sci ++ leBytes 2 a.key ++ leBytes 4 a.ssci ++ fit 12 a.salt ++ leBytes 2 0 ++ leBytes 8 a.pn
    ++ leBytes 4 y.window ++ leBytes 1 y.flags ++ leBytes 3 0

/-- A MACsec key handle holds a SAK (R180). -/
def sakHeld (h : Nat) (s : State) : Bool := keyHandleOk h && h / 8192 == 2 && keyHeld h s

/-- Kept records of ETH_SET_MACSEC: an Op of a port, with its AN and SC. -/
def macsecRecord (p op an sc : Nat) (r : CfgRecord) : Bool :=
  r.code == 0x0608 && rd r.payload 0 1 == p && rd r.payload 1 1 == op
    && (op == 0 || op == 3 || (rd r.payload 2 1 == an && (op == 1 || rd r.payload 3 1 == sc)))

/-- ETH_SET_MACSEC (R180, R182, R203). A delete or read names a receive SA by an SC that is set up and holds it, else a
transmit SA. -/
def ethSetMacsec (u : Ump) (s : State) : Reply :=
  let p := u.b8 0
  let op := u.b8 1
  let an := u.b8 2
  let sc := u.b8 3
  let y := (port p s).secy
  let sa : Sa := ⟨u.b16 12, u.b32 14, field u.data 18 12, u.b64 32, false⟩
  let inRx := (saOf y true sc an).isSome
  let onSc := (y.rx.filter fun e => e.1 / 4 == sc).length
  let g := gate 0x0608 false [.port p] s
  judge ([short u 48, param (decide (3 < p))] ++ wiredOff s
      ++ [param (decide (5 < op) || decide (3 < an) || decide (3 < sc)), param (op == 0 && decide (2 ^ 30 < u.b32 40))]
      ++ (if op = 5 then gate 0x0608 false [] s else g)) s fun _ =>
    match op with
    | 0 => reply [] (cfgKeepIf (macsecRecord p 0 0 0) 0x0608 u.payload
        (onSecy p (fun y => { y with flags := u.b8 44 % 16, sci := rd u.data 4 8, window := u.b32 40 }) s))
    | 1 =>
      judge [((saOf y false sc an).isSome, ST.badState), (decide (2 ≤ y.tx.length), ST.noResource),
          (!sakHeld (u.b16 12) s, ST.keyAbsent)] s fun _ =>
        reply [] (cfgKeepIf (macsecRecord p 1 an sc) 0x0608 u.payload
          (onSecy p (fun y => { y with tx := Tab.put y.tx an sa }) s))
    | 2 =>
      judge [(inRx, ST.badState), (decide (2 ≤ onSc), ST.noResource), (!sakHeld (u.b16 12) s, ST.keyAbsent)] s fun _ =>
        reply [] (cfgKeepIf (macsecRecord p 2 an sc) 0x0608 u.payload (onSecy p (fun y =>
          { y with rx := Tab.put y.rx (sc * 4 + an) sa, rxSci := Tab.put y.rxSci sc (rd u.data 4 8) }) s))
    | 3 =>
      judge [((saOf y false sc an).isNone, ST.badState)] s fun _ =>
        reply [] (cfgKeepIf (macsecRecord p 3 an sc) 0x0608 u.payload
          (onSecy p (fun y => { y with active := some an }) s))
    | 4 =>
      judge [(!inRx && ((saOf y false sc an).isNone || y.active == some an), ST.badState)] s fun _ =>
        reply [] (if inRx then cfgDrop (macsecRecord p 2 an sc) (onSecy p (fun y => { y with rx := Tab.del y.rx (sc * 4 + an) }) s)
          else cfgDrop (macsecRecord p 1 an sc) (onSecy p (fun y => { y with tx := Tab.del y.tx an }) s))
    | _ =>
      reply (macsecBytes u y (if inRx then Tab.getD y.rxSci sc 0 else y.sci)
        (if inRx then saOf y true sc an else saOf y false sc an)) s

/-- ETH_SET_MACSEC (R180). -/
def execEthSetMacsec (m : Ump) (s : State) : Host.Outcome State Fault Refusal :=
  .next (serve 0x0608 ethSetMacsec m s)

end Sys2Proof.Machine
end

