-- ==== Sys2Proof/Machine/Tasks.lean ====
section
/-! DEFINITION. The dispatcher's classes: how a work item is queued, refused, given to a core and ended (R346 to R350). -/
namespace Sys2Proof.Machine

/-- The dispatcher changed by a function. -/
def onTds (f : Tds → Tds) (s : State) : State := { s with tds := f s.tds }

/-- Statistics of a class. -/
def classStats (c : Nat) (s : State) : ClassStats := Tab.getD s.tds.stats c .reset

/-- Statistics of a class changed by a function. -/
def onClass (c : Nat) (f : ClassStats → ClassStats) (s : State) : State :=
  onTds (fun t => { t with stats := Tab.put t.stats c (f (classStats c s)) }) s

/-- Items queued in a class: those waiting for their key count, those in service do not (R348). -/
def classDepth (c : Nat) (s : State) : Nat := (s.tds.items.filter fun i => i.cls == c).length

/-- A class is full (R348). -/
def classFull (c : Nat) (s : State) : Bool := (classStats c s).full.isSome

/-- Group of a class: false the packet cores, true Nimbus (R346). -/
def classGroup (c : Nat) : Bool := decide (8 ≤ c)

/-- The key of an item is in service in its group (R349). -/
def keyBusy (i : WorkItem) (s : State) : Bool :=
  i.key.isSome && s.tds.service.any fun x => classGroup x.item.cls == classGroup i.cls && x.item.key == i.key

/-- An item of the same key waits in its group. -/
def keyQueued (i : WorkItem) (s : State) : Bool :=
  i.key.isSome && s.tds.items.any fun x => classGroup x.cls == classGroup i.cls && x.key == i.key

/-- EV_TDS_BACKPRESSURE's payload (R357). The time full in the last second is the time since it became full, up to 1 s. -/
def backPayload (c : Nat) (s : State) : Bytes :=
  let x := classStats c s
  let us := match x.full with | some t => min 1000000 ((runTime s - t) / 1000) | none => 0
  leBytes 1 c ++ leBytes 1 (b2n x.full.isSome) ++ leBytes 4 x.refusedNow ++ leBytes 4 us

/-- EV_TDS_BACKPRESSURE while a class is full, at most once per second for the class (R350, R357). -/
def fullEvent (c : Nat) (s : State) : State := if classFull c s then raiseLimited 0x0B02 c (backPayload c s) s else s

/-- A work item joins its class, which is full at 65,536 items (R348, R350). -/
def queueItem (c : Nat) (key : Option Nat) (w : Work) (s : State) : State :=
  let i : WorkItem := ⟨c, key, s.tds.nextSeq, runTime s, false, w⟩
  let waits := keyBusy i s || keyQueued i s
  let n := classDepth c s + 1
  let t := onClass c (fun x => { x with queued := inc 64 x.queued, peak := max x.peak n
                                        keyWaits := if waits then inc 32 x.keyWaits else x.keyWaits
                                        full := if x.full.isNone && decide (65536 ≤ n) then some (runTime s) else x.full })
    (onTds (fun t => { t with items := t.items ++ [{ i with keyWait := waits }], nextSeq := t.nextSeq + 1 }) s)
  if classFull c s then t else fullEvent c t

/-- A producer meets a full class (R350). -/
def refuseClass (c : Nat) (s : State) : State :=
  let t := onClass c (fun x => { x with refusals := inc 32 x.refusals, refusedNow := inc 32 x.refusedNow }) s
  raiseLimited 0x0B02 c (backPayload c t) t

/-- An air frame's item while its class is full: it waits in the air hold, or is dropped and counted (R350); answers whether
it was kept. -/
def airHold (c : Nat) (key : Option Nat) (w : Work) (s : State) : Bool × State :=
  if (s.tds.airItems.filter fun i => i.cls == c).length < 4096 then
    (true, onTds (fun t => { t with airItems := t.airItems ++ [⟨c, key, t.nextSeq, runTime s, false, w⟩]
                                    nextSeq := t.nextSeq + 1 }) s)
  else
    let t := onClass c (fun x => { x with airDrops := inc 32 x.airDrops, refusedNow := inc 32 x.refusedNow }) s
    (false, raiseLimited 0x0B02 c (backPayload c t) t)

/-- A class that has fallen to 61,440 items accepts again (R348), first of all the items of its air hold. -/
def settleClass (c : Nat) (s : State) : State :=
  if classFull c s && decide (61440 < classDepth c s) then s
  else
    let s := onClass c (fun x => match x.full with
      | some t => { x with full := none, fullNs := x.fullNs + (runTime s - t) }
      | none => x) s
    (s.tds.airItems.filter fun i => i.cls == c).foldl (fun t i =>
      if classFull c t then t
      else queueItem c i.key i.work (onTds (fun d => { d with airItems := d.airItems.filter (· != i) }) t)) s

/-- Customer kernels in service: at most two run at any one time (R358). -/
def kernelsRunning (s : State) : Nat := (s.tds.service.filter fun x => x.item.cls == 12).length

/-- An item is startable: no item of its key is in service in its group, and none of its class and key is ahead of it; and a
customer kernel would not be the third (R347, R349, R358). -/
def startable (i : WorkItem) (s : State) : Bool :=
  !(i.cls == 12 && decide (2 ≤ kernelsRunning s)) && !keyBusy i s && !(i.key.isSome && s.tds.items.any fun x => x.cls == i.cls && x.key == i.key && decide (x.seq < i.seq))

/-- The item that starts longest ago among some. -/
def oldest (l : List WorkItem) : Option WorkItem :=
  l.foldl (fun a i => match a with | none => some i | some x => if i.seq < x.seq then some i else a) none

/-- The item a free core of a group is given (R347): an oldest startable item of a class that has waited more than 2 ms, of the
lowest such class; else the oldest startable item of the lowest class. -/
def chooseItem (group : Bool) (s : State) : Option WorkItem :=
  let l := s.tds.items.filter fun i => classGroup i.cls == group && startable i s
  let heads := (List.range 16).filterMap fun c => oldest (l.filter fun i => i.cls == c)
  match heads.find? fun i => decide (i.queuedAt + 2000000 < runTime s) with
  | some i => some i
  | none => heads.head?

/-- Group of a core: packet cores 0 to 15, Nimbus cores 16 to 19. -/
def coreGroup (core : Nat) : Bool := decide (16 ≤ core)

/-- The item in service on a core. -/
def served (core : Nat) (s : State) : Option InService := s.tds.service.find? fun x => x.core == core

/-- The item on a core ends: its key is released, and the class is counted (R349, R356). -/
def releaseCore (core : Nat) (s : State) : State :=
  match served core s with
  | none => s
  | some x =>
    onClass x.item.cls (fun c => { c with ended := inc 64 c.ended
                                          peakService := max c.peakService ((runTime s - x.startedAt) / 1000) })
      (onTds (fun t => { t with service := t.service.filter fun y => y.core != core }) s)

end Sys2Proof.Machine
end

