-- ==== Sys2Proof/Machine/Forward.lean ====
section
/-! DEFINITION. The forwarding engine: lookup, learning, routing, flows, NAT, ACL, multicast and the packet cores' slow path
(R174 to R181, R187 to R202, R207, R218). -/
namespace Sys2Proof.Machine

/-! ### Into the queues (R207) -/

/-- The frame carries the colour yellow or red (R207). -/
def marked (f : Frame) : Bool := f.colour == some 1 || f.colour == some 2

/-- A frame out of packet SRAM: its cells there are freed as it moves to DRAM (R22). -/
def toDram (f : Frame) (s : State) : Frame × State :=
  if f.sram then ({ f with sram := false, cells := 0 }, freeFrame f s) else (f, s)

/-- A frame enters a queue other than a station's, whole or not at all (R207). -/
def enqueue (q : Nat) (f : Frame) (s : State) : Bool × State :=
  let n := if f.sram then f.cells else cellsOf f.bytes.length
  match enterTest q n (marked f) (!f.sram) s with
  | 0 => (true, onQueue q (fun i => { i with frames := i.frames ++ [{ f with cells := n, stamp := rawTime s }] })
      (enterCells q n (!f.sram) s))
  | t => (false, injectFate f.inject 16 (rawTime s) (if f.sram then freeFrame f (countEnterDrop q t s) else countEnterDrop q t s))

/-- A frame enters a station's TID queue as an MPDU yet to be built (R205, R207). -/
def toStation (h : Nat) (f : Frame) (s : State) : State :=
  let r := toDram f s
  let s := r.2
  let tid := f.priority % 8
  let q := stationQueue h tid
  let n := cellsOf f.bytes.length
  if (station h s).isNone then injectFate f.inject 18 (rawTime s) s
  else match enterTest q n (marked f) true s with
    | 0 =>
      let m : Mpdu := ⟨s.air.nextId, tid, f.bytes.length, none, 0, none, deviceTime s, marked f, f.inject, none, none⟩
      lockedStation h (settleShapers (onStation h (fun x =>
          { x with queue := x.queue ++ [m]
                   headAt := if x.queue.any fun y => y.tid == tid then x.headAt else x.headAt.set tid (runTime s) })
        (onAir (fun a => { a with nextId := a.nextId + 1 }) (enterCells q n true s))))
    | t => injectFate f.inject 7 (rawTime s) (countEnterDrop q t s)

/-- A frame enters a BSS group queue (R124, R205). -/
def toGroup (b : Nat) (f : Frame) (s : State) : State :=
  let r := toDram f s
  if (bss b r.2).isNone then injectFate f.inject 18 (rawTime s) r.2
  else
    let e := enqueue (16384 + b) r.1 r.2
    let n := ((bss b e.2).map (·.slice)).getD 0
    let held := (stationsOf b e.2).any fun h => (station h e.2).any fun x => x.doze.get n
    if e.1 then settleShapers (onBss b (fun x =>
      if held then { x with groupHeld := x.groupHeld + 1 } else { x with groupReady := x.groupReady + 1 }) e.2) else e.2

/-- A punted frame enters a host punt queue; a full one drops it, counted in FWE_PUNTED too (R202). -/
def toPunt (q : Nat) (f : Frame) (s : State) : State :=
  let r := toDram f s
  (enqueue (16464 + q) r.1 (countPort f.ingress 45 1 r.2)).2

/-- The frame a port sends of a VLAN: untagged, or tagged with its priority as PCP and DEI for a marked frame (R190, R200,
R217). -/
def egressBytes (p : Nat) (f : Frame) (s : State) : Bytes :=
  if (vlan f.vlan s).all fun v => bit v.untagged p then f.bytes
  else withTag (f.priority * 8192 + (if marked f then 4096 else 0) + f.vlan) f.bytes

/-- A frame enters the queue of a port: the MGT FIFO, or the wired queue its priority maps to (R200, R205). -/
def toPort (p : Nat) (f : Frame) (s : State) : State :=
  if !portUp p s then linkDownDrop p f s
  else
    let q := portQueue p ((prioMap p s).getD f.priority 0)
    settleShapers (settleClosed q (enqueue q { f with bytes := egressBytes p f s } s).2)

/-! ### Where a frame goes -/

/-- A target of a frame. -/
inductive Target where
  /-- A port. -/
  | port (p : Nat)
  /-- A station. -/
  | station (h : Nat)
  /-- A BSS's group-addressed delivery. -/
  | group (b : Nat)
  deriving DecidableEq, Repr

/-- A copy of a frame for one more port: it takes cells of its own, or is dropped and counted (R175). -/
def copyToPort (f : Frame) (s : State) (p : Nat) : State :=
  if f.sram then
    match takeCells f.ingress f.rxPrio f.cells s with
    | some t => toPort p f t
    | none => countPort f.ingress 12 1 s
  else toPort p f s

/-- A frame goes to its targets: copies for the air are held in DRAM, those for ports in packet SRAM where the frame came by
wire (R22, R201); without a target its cells are freed. -/
def sendAll (l : List Target) (f : Frame) (s : State) : State :=
  let air : Frame := { f with sram := false, cells := 0 }
  let s := l.foldl (fun t x => match x with
    | .station h => toStation h air t
    | .group b => toGroup b air t
    | .port _ => t) s
  match l.filterMap (fun x => match x with | .port p => some p | _ => none) with
  | [] => if f.sram then freeFrame f s else s
  | p :: r => toPort p f (r.foldl (copyToPort f) s)

/-- The MAC table's entry of an address (R191). -/
def macEntry (v a : Nat) (s : State) : Option MacEntry := s.wire.macs.find? fun e => e.vlan == v && e.addr == a

/-- Member ports of a VLAN apart from the ingress. -/
def members (x : Vlan) (ingress : Nat) : List Target :=
  ((List.range 5).filter fun p => bit x.members p && p != ingress).map .port

/-- The group of a VLAN that snooping keeps (R201). -/
def groupOf (v a : Nat) (s : State) : Option Group := s.wire.groups.find? fun g => g.vlan == v && g.addr == a

/-- The BSSs of a VLAN, each as a group-addressed target. -/
def groupTargets (v : Nat) (s : State) : List Target :=
  ((s.air.bss.filter fun e => e.2.vlan == v).map Prod.fst).map .group

/-- A group in 224.0.0.0/24 or ff02::/16 by its MAC address (R201). -/
def linkLocalGroup (a : Nat) : Bool := a / 256 == 0x01005E0000 || a / 2 ^ 32 == 0x3333

/-- The L2 targets of a destination on a VLAN (R191, R201). -/
def targets (v : Nat) (x : Vlan) (f : Frame) (s : State) : List Target :=
  let a := dstMac f.bytes
  if !groupBound f.bytes then
    match macEntry v a s with
    | some e => match e.station with
      | some h => [.station h]
      | none => if e.port = f.ingress then [] else [.port e.port]
    | none => if bit x.flags 1 then members x f.ingress else []
  else if a = broadcast then members x f.ingress ++ groupTargets v s
  else
    match groupOf v a s with
    | some g =>
      let wired := ((List.range 5).filter fun p => bit g.ports p && bit x.members p && p != f.ingress).map Target.port
      let airs := if linkLocalGroup a || g.grouped then groupTargets v s
        else (g.members.filter (· != f.station)).map Target.station
      wired ++ (if bit x.flags 3 then airs else groupTargets v s)
    | none =>
      (if bit x.flags 2 then members x f.ingress else [])
        ++ (if bit x.flags 2 || linkLocalGroup a then groupTargets v s else [])

/-- Air copies among targets of a group frame (R184). -/
def airCopies (l : List Target) : Nat := (l.filter fun x => match x with | .port _ => false | _ => true).length

/-- A frame is bridged on its VLAN (R191, R201). -/
def bridge (f : Frame) (s : State) : State :=
  match vlan f.vlan s with
  | none => if f.sram then freeFrame f s else s
  | some x =>
    let l := targets f.vlan x f s
    let s := if l.isEmpty then s else countPort f.ingress 40 1 s
    let s := if groupBound f.bytes then countPort f.ingress 47 (airCopies l) s else s
    sendAll l f s

/-! ### Learning (R191) -/

/-- Bucket of an address. -/
def bucketOf (v a : Nat) : Nat := Config.macHash v a % 16320

/-- EV_FWD_MAC's payload (R204). -/
def macPayload (cause p v a : Nat) : Bytes := leBytes 1 cause ++ leBytes 1 p ++ leBytes 2 v ++ beBytes 6 a

/-- An entry joins its bucket of four ways, else the overflow area of 256 (R191); none where both are full. -/
def macInsert (e : MacEntry) (l : List MacEntry) : Option (List MacEntry) :=
  if (l.filter fun x => !x.overflow && bucketOf x.vlan x.addr == bucketOf e.vlan e.addr).length < 4 then some (l ++ [e])
  else if (l.filter fun x => x.overflow).length < 256 then some (l ++ [{ e with overflow := true }])
  else none

/-- The source of a good frame from a wired port is learned, or moves (R191). -/
def learn (f : Frame) (s : State) : State :=
  let a := srcMac f.bytes
  if 4 < f.ingress || !f.good || bit (rdBe f.bytes 6 1) 0 || !(vlan f.vlan s).any (fun v => bit v.flags 0) then s
  else
    match macEntry f.vlan a s with
    | none =>
      match macInsert ⟨f.vlan, a, f.ingress, none, false, 0, s.mem.seconds⟩ s.wire.macs with
      | some l => onWire (fun w => { w with macs := l }) s
      | none => raiseLimited 0x0606 0 (macPayload 0 f.ingress f.vlan a) s
    | some e =>
      if e.station.isSome then s
      else if e.port = f.ingress then
        onWire (fun w => { w with macs := w.macs.map fun x => if x = e then { x with seen := s.mem.seconds } else x }) s
      else
        let s := onWire (fun w => { w with moves := inc 32 w.moves, macs := w.macs.map fun x =>
          if x = e then { x with port := f.ingress, moves := inc 8 x.moves, seen := s.mem.seconds } else x }) s
        if 10 < e.moves + 1 then raiseLimited 0x0606 (f.vlan * 2 ^ 48 + a + 1) (macPayload 1 f.ingress f.vlan a) s else s

/-- MAC_AGE_OUT (R191): a learned entry goes once its address has been no source for the aging time. -/
def execMacAgeOut (vlan addr : Nat) (s : State) : Host.Outcome State Fault Refusal :=
  .next (let s := start s
    let stays (e : MacEntry) : Bool := e.station.isSome || e.vlan != vlan || e.addr != addr
      || decide (s.mem.seconds < e.seen + s.wire.macAging)
    onWire (fun w => { w with macs := w.macs.filter stays }) s)

/-! ### The slow path (R176, R202, R350) -/

/-- The pool has no cells for a frame that waits: it is dropped, and counted as a pool drop of the second (R207). -/
def poolDrop (s : State) : State := poolLow (onQme (fun m => { m with poolDropNow := inc 32 m.poolDropNow }) s)

/-- A frame moves to DRAM to wait for a packet core, in the hold area of its port (R22, R176); none where the pool is short. -/
def holdFrame (f : Frame) (s : State) : Option (Frame × State) :=
  let r := toDram f s
  let n := cellsOf f.bytes.length
  if r.2.qme.poolFree < n then none
  else
    let s := onQme (fun m => { m with poolFree := m.poolFree - n }) r.2
    some ({ r.1 with cells := n },
      if 4 < f.ingress then s else onPort f.ingress (fun x => { x with holdCells := x.holdCells + n }) s)

/-- A held frame leaves the hold area, its cells freed; it carries on without cells. -/
def unholdFrame (f : Frame) (s : State) : Frame × State :=
  let s := freeFrame f s
  ({ f with cells := 0 },
    if 4 < f.ingress then s else onPort f.ingress (fun x => { x with holdCells := x.holdCells - f.cells }) s)

/-- What comes of a packet: done, or it must stay at the head of its FIFO for a class that is full (0 to 15) or the hold area
(255). -/
abbrev Fate := Except Nat State

/-- The hold area of a frame's port has no room for it (R176). -/
def holdFull (f : Frame) (s : State) : Bool :=
  decide (f.ingress ≤ 4) && decide ((port f.ingress s).cfg.hold < (port f.ingress s).holdCells + cellsOf f.bytes.length)

/-- The atomic flow key of a tuple (R196, R349). -/
def flowKey (t : Tuple) : Nat := Config.flowHash t.bytes % 2 ^ 18

/-- The reasons after which a packet core sends the frame on: an order is kept among these (R25). -/
def leavesCore (why : Nat) : Bool := why == 1 || why == 4 || why == 5 || why == 9

/-- The key of a frame that the packet cores send on: of its addresses and protocol, which every fragment of a flow bears, so that
the frames of one flow are served one after the other (R25, R349; DESIGN CHOICE, log entry 54). -/
def slowKey (f : Frame) : Option Nat := (ipOf f.bytes).map fun i => flowKey ⟨i.family, i.proto, i.src, i.dst, 0, 0⟩

/-- The class in which the packet cores hold a frame of a frame's flow that they are to send on. -/
def heldAhead (f : Frame) (s : State) : Option Nat :=
  let key := slowKey f
  if key.isNone then none
  else ((s.tds.service.map (·.item) ++ s.tds.items ++ s.tds.airItems).reverse.find? fun i =>
    i.key == key && (match i.work with | .frame _ why => leavesCore why | _ => false)).map (·.cls)

/-- A frame passes to the packet cores in a class, for a reason (R202). One that they are to send on while they hold earlier frames
of its flow joins the class of those, to be judged there again (reason 9), so that it does not overtake them (R25). -/
def slowPath (class0 : Nat) (f : Frame) (why0 : Nat) (s : State) : Fate :=
  let after := if leavesCore why0 then heldAhead f s else none
  let c := after.getD class0
  let why := if after.isSome then 9 else why0
  let key := if leavesCore why then slowKey f else none
  if f.ingress ≤ 4 && classFull c s then .error c
  else if holdFull f s then .error 255
  else
    let s := countPort f.ingress 45 1 s
    match holdFrame f s with
    | none => .ok (poolDrop (toDram f s).2)
    | some (g, t) =>
      if classFull c t then
        let r := airHold c key (.frame g why) t
        .ok (if r.1 then r.2 else (unholdFrame g r.2).2)
      else .ok (queueItem c key (.frame g why) t)

/-- A frame is dropped: its cells are freed. -/
def dropFrame (f : Frame) (s : State) : State := if f.sram then freeFrame f s else s

/-! ### Routing (R192 to R194) -/

/-- Where the longest prefix sends an address: kind of R192, interface and next-hop address. -/
structure Hop where
  /-- Kind, 0 connected, 1 via gateway, 2 drop, 3 local. -/
  kind : Nat
  /-- Egress interface. -/
  iface : Nat
  /-- Next hop's address. -/
  addr : Nat
  deriving DecidableEq, Repr

/-- The router interface's own address and length of a family; none where it has none. -/
def ifaceAddr (family : Nat) (x : Vlan) : Option (Nat × Nat) :=
  let a := if family = 4 then x.v4 else x.v6
  if bit x.flags 4 && a.2 != 0 then some a else none

/-- An address of the device's own. -/
def ownAddress (family a : Nat) (s : State) : Bool :=
  s.wire.vlans.any fun e => (ifaceAddr family e.2).any fun x => x.1 == a

/-- The connected routes that the interfaces' addresses define (R203). -/
def connected (family : Nat) (s : State) : List Route :=
  s.wire.vlans.filterMap fun e =>
    (ifaceAddr family e.2).map fun a => ⟨family, a.2, prefixOf family a.2 a.1, 0, e.1, 0⟩

/-- The longest prefix that holds an address; a route set by command goes before a connected one of its length. -/
def lpm (family a : Nat) (s : State) : Option Hop :=
  let l := (s.wire.routes.filter fun r => r.family == family) ++ connected family s
  let l := l.filter fun r => prefixOf family r.len a == r.pfx
  let best := l.foldl (fun b r => match b with
    | none => some r
    | some x => if x.len < r.len then some r else b) none
  best.map fun (r : Route) => ⟨r.kind, r.iface, if r.kind = 1 then r.gateway else a⟩

/-- The next hop an interface and address name. -/
def nextHop (iface a : Nat) (s : State) : Option NextHop :=
  s.wire.nextHops.find? fun h => h.iface == iface && h.addr == a

/-- A next hop changed by a function. -/
def onHop (iface a : Nat) (f : NextHop → NextHop) (s : State) : State :=
  onWire (fun w => { w with nextHops := w.nextHops.map fun h => if h.iface == iface && h.addr == a then f h else h }) s

/-- A routed packet leaves by an interface to a link-layer address: rewritten, its TTL decremented, and sent by the L2 table
of the egress VLAN (R191, R194). -/
def emitRouted (i : Ip) (iface mac : Nat) (f : Frame) (s : State) : State :=
  match vlan iface s with
  | none => dropFrame f s
  | some x =>
    let b := beBytes 6 mac ++ beBytes 6 x.mac ++ (decTtl i f.bytes).drop 12
    let g : Frame := { f with bytes := b, vlan := iface }
    sendAll (targets iface x g s) g (countPort f.ingress 41 1 s)

/-- The L2 target of a link-layer address is a station (R194). -/
def airBound (iface mac : Nat) (s : State) : Bool := (macEntry iface mac s).any fun e => e.station.isSome

/-- A packet is larger than the MTU of the interface it leaves by, and does not leave over the air (R194). -/
def tooLong (i : Ip) (iface mac : Nat) (s : State) : Bool :=
  !airBound iface mac s && (vlan iface s).any fun x => decide (x.mtu < i.len)

/-- A packet with its next hop known passes the checks of R194 and leaves, unless the packet cores hold an earlier one of its
flow (R25). -/
def finishRoute (i : Ip) (iface mac : Nat) (f : Frame) (s : State) : Fate :=
  if i.ttl ≤ 1 then slowPath 2 f 2 (countPort f.ingress 44 1 s)
  else if i.options then slowPath 2 f 4 s
  else if tooLong i iface mac s then slowPath 2 f 5 s
  else if (heldAhead f s).isSome then slowPath 2 f 9 s
  else .ok (emitRouted i iface mac f s)

/-- A packet takes its own longest-prefix lookup and next hop (R192, R193). -/
def routeOut (i : Ip) (f : Frame) (s : State) : Fate :=
  if ownAddress i.family i.dst s then slowPath 3 f 7 s
  else match lpm i.family i.dst s with
    | none => slowPath 2 f 3 (countPort f.ingress 43 1 s)
    | some h =>
      if h.kind = 2 then .ok (dropFrame f s)
      else if h.kind = 3 then slowPath 3 f 7 s
      else match nextHop h.iface h.addr s with
        | some n =>
          match n.mac with
          | some m => finishRoute i h.iface m f s
          | none => if n.unreachable then slowPath 2 f 6 (countPort f.ingress 43 1 s) else slowPath 1 f 1 s
        | none => slowPath 1 f 1 s

/-! ### Flows and NAT (R195 to R198) -/

/-- An interface flag of a VLAN that is a router interface: 5 stateful, 6 NAT inside, 7 NAT outside. -/
def ifaceFlag (v n : Nat) (s : State) : Bool := (routerVlan v s).any fun x => bit x.flags n

/-- An interface is stateful; NAT outside implies it (R195). -/
def stateful (v : Nat) (s : State) : Bool := ifaceFlag v 5 s || ifaceFlag v 7 s

/-- The egress interface of a destination; none without a route out. -/
def egressOf (i : Ip) (s : State) : Option Nat :=
  ((lpm i.family i.dst s).filter fun h => decide (h.kind < 2)).map (·.iface)

/-- The flow of a tuple, and whether it runs in the flow's own direction. -/
def flowOf (t : Tuple) (s : State) : Option (Nat × Flow × Bool) :=
  match s.wire.flows.find? fun e => flowForward t e.2 with
  | some e => some (e.1, e.2, true)
  | none => (s.wire.flows.find? fun e => flowReverse t e.2).map fun e => (e.1, e.2, false)

/-- The state of a flow after a packet (R198): TCP setup, established, closing; UDP one way, both ways; ICMP; other. -/
def flowState (f : Flow) (fwd : Bool) (flags : Nat) : Nat × Nat :=
  let fins := if bit flags 0 then f.fins ||| (if fwd then 1 else 2) else f.fins
  if f.proto = 6 then
    (if bit flags 2 || fins == 3 then 2 else if f.state = 0 && !fwd then 1 else f.state, fins)
  else if f.proto = 17 then (if f.state = 3 && !fwd then 4 else f.state, fins)
  else (f.state, fins)

/-- A packet of a flow: its state, idle time and counters (R198). -/
def flowTouch (n : Nat) (fwd : Bool) (i : Ip) (s : State) : State :=
  onWire (fun w => { w with flows := Tab.modify w.flows n fun f =>
    let r := flowState f fwd i.flags
    { f with state := r.1, fins := r.2, last := s.mem.seconds, packets := inc 32 f.packets
             octets := addWrap 64 f.octets i.len } }) s

/-- A packet rewritten by its flow: the source of the flow's own direction, the destination of the other (R197). -/
def translate (fl : Flow) (fwd : Bool) (i : Ip) (b : Bytes) : Bytes :=
  if !bit fl.flags 1 then b
  else if fwd then setPort16 i true fl.natPort (setV4 i 26 fl.nat b)
  else setPort16 i false fl.sport (setV4 i 30 fl.src b)

/-- A first fragment's flow is kept for the fragments that follow (R197); the oldest entry makes room beyond 4096. -/
def noteFragment (n : Nat) (i : Ip) (s : State) : State :=
  if i.mf && i.offset == 0 then
    onWire (fun w => { w with fragments := (if w.fragments.length < 4096 then w.fragments else w.fragments.drop 1)
                                ++ [(i.src, i.dst, i.ident, n)] }) s
  else s

/-- The flow of a fragment that is not the first, and whether it runs in the flow's own direction (R197). -/
def fragmentFlow (i : Ip) (s : State) : Option (Nat × Flow × Bool) :=
  (s.wire.fragments.find? fun e => e.1 == i.src && e.2.1 == i.dst && e.2.2.1 == i.ident).bind fun e =>
    (Tab.look s.wire.flows e.2.2.2).map fun fl => (e.2.2.2, fl, fl.src == i.src)

/-- A packet goes through its flow, and through a second one where its translated destination is another flow's (hairpinning),
and on to its own lookup (R195, R197). -/
def throughFlow (n : Nat) (fl : Flow) (fwd : Bool) (i : Ip) (f : Frame) (s : State) : Fate :=
  let s := flowTouch n fwd i (noteFragment n i s)
  let b := translate fl fwd i f.bytes
  match ipOf b with
  | none => .ok (dropFrame f s)
  | some j =>
    match (if fwd && bit fl.flags 1 then flowOf (ipTuple j) s else none) with
    | some (m, g, d) =>
      if d then routeOut j { f with bytes := b } s
      else
        let c := translate g d j b
        match ipOf c with
        | some k => routeOut k { f with bytes := c } (flowTouch m d j s)
        | none => .ok (dropFrame f s)
    | none => routeOut j { f with bytes := b } s

/-- The header that an ICMP error carries: the tuple of the packet it answers, as its sender would see a reply (R197). -/
def embedded (i : Ip) (b : Bytes) : Option (Ip × Tuple) :=
  let t := rdBe b i.l4 1
  if i.proto = 1 && i.offset == 0 && (t == 3 || t == 4 || t == 5 || t == 11 || t == 12) then
    (ipAt b (i.l4 + 8)).map fun e => (e, ⟨4, e.proto, e.dst, e.src, e.dport, e.sport⟩)
  else none

/-- An ICMP error about a flow's packet is translated, its embedded header too, and its checksum recomputed incrementally
(R179, R197). -/
def translateError (fl : Flow) (i : Ip) (b : Bytes) : Bytes :=
  if !bit fl.flags 1 then b
  else
    let e := i.l4 + 8
    let hi := rdBe b (e + 12) 2
    let lo := rdBe b (e + 14) 2
    let port := e + (rdBe b e 1 % 16) * 4
    let old := rdBe b port 2
    let b := setV4 i 30 fl.src b
    let b := splice (splice b (e + 12) (beBytes 4 fl.src)) port (beBytes 2 fl.sport)
    csumFix false (i.l4 + 2) old fl.sport
      (csumFix false (i.l4 + 2) lo (fl.src % 65536) (csumFix false (i.l4 + 2) hi (fl.src / 65536) b))

/-- A packet from the outside direction: it enters by a NAT outside interface, or by a stateful one towards one that is not
(R195, log entry 15). -/
def fromOutside (v : Nat) (i : Ip) (s : State) : Bool :=
  ifaceFlag v 7 s || (stateful v s && !(egressOf i s).any fun e => stateful e s)

/-- The static forward a packet to an outside address matches (R197). -/
def forwardOf (i : Ip) (s : State) : Option (Nat × Forward) :=
  s.wire.forwards.find? fun e => e.2.proto == i.proto && e.2.outside == i.dport

/-- An address of the NAT pool of an interface. -/
def inPool (iface a : Nat) (s : State) : Bool :=
  (Tab.look s.wire.pools iface).any fun p => decide (p.first ≤ a) && decide (a < p.first + p.count)

/-- The mapping of an outside address and port (R197). -/
def mappingOf (i : Ip) (s : State) : Option Flow :=
  (s.wire.flows.find? fun e => bit e.2.flags 1 && e.2.proto == i.proto && e.2.nat == i.dst && e.2.natPort == i.dport).map
    Prod.snd

/-- A packet from outside that no flow holds may set one up: it matches a static forward, or a mapping of a pool whose
filtering is endpoint-independent (R195, R197). -/
def mayEnter (v : Nat) (i : Ip) (s : State) : Bool :=
  i.family == 4 && inPool v i.dst s
    && ((forwardOf i s).isSome
      || ((Tab.look s.wire.pools v).any fun p => bit p.flags 0) && (mappingOf i s).isSome)

/-- A packet waits in the hold area behind the held packets of its flow (R196). -/
def holdBehind (t : Tuple) (f : Frame) (s : State) : Fate :=
  if holdFull f s then .error 255
  else match holdFrame f s with
    | none => .ok (poolDrop (toDram f s).2)
    | some (g, u) => .ok (onWire (fun w => { w with held := w.held.map fun h =>
        if h.key = t then { h with frames := h.frames ++ [g] } else h }) u)

/-- The held flow of a fragment's first fragment (R197). -/
def heldFragment (i : Ip) (s : State) : Option HeldFlow :=
  s.wire.held.find? fun h => h.frames.any fun g => (ipOf g.bytes).any fun j =>
    j.src == i.src && j.dst == i.dst && j.ident == i.ident && j.mf && j.offset == 0

/-- A first packet of a new flow: it is held, and flow setup passes to the packet cores; later ones wait behind it (R196). -/
def startFlow (i : Ip) (f : Frame) (s : State) : Fate :=
  let t := ipTuple i
  if s.wire.held.any fun h => h.key == t then holdBehind t f s
  else if f.ingress ≤ 4 && classFull 0 s then .error 0
  else if holdFull f s then .error 255
  else match holdFrame f s with
    | none => .ok (poolDrop (toDram f s).2)
    | some (g, u) =>
      let u := countPort f.ingress 45 1 u
      if classFull 0 u then
        let r := airHold 0 (some (flowKey t)) (.flow t) u
        if r.1 then .ok (onWire (fun w => { w with held := w.held ++ [⟨t, [g]⟩] }) r.2) else .ok (unholdFrame g r.2).2
      else .ok (queueItem 0 (some (flowKey t)) (.flow t) (onWire (fun w => { w with held := w.held ++ [⟨t, [g]⟩] }) u))

/-- A routed packet needs a flow entry: its ingress or egress interface is stateful (R195). -/
def needsFlow (v : Nat) (i : Ip) (s : State) : Bool := stateful v s || (egressOf i s).any fun e => stateful e s

/-- Stage 5: a packet to the router MAC of an interface (R188, R192 to R197). -/
def routeFrame (i : Ip) (f : Frame) (s : State) : Fate :=
  if !headerGood f.bytes i then .ok (dropFrame f (countPort f.ingress 14 1 s))
  else
    let s := if i.proto == 1 || l4Good f.bytes i then s else countPort f.ingress 15 1 s
    if !needsFlow f.vlan i s then routeOut i f s
    else if i.offset != 0 then
      match fragmentFlow i s with
      | some (n, fl, d) => throughFlow n fl d i f s
      | none => match heldFragment i s with
        | some h => holdBehind h.key f s
        | none => .ok (dropFrame f (countPort f.ingress 46 1 s))
    else match flowOf (ipTuple i) s with
      | some (n, fl, d) => throughFlow n fl d i f s
      | none =>
        match (embedded i f.bytes).bind fun e => flowOf e.2 s with
        | some (n, fl, false) =>
          let b := translateError fl i f.bytes
          match ipOf b with
          | some j => routeOut j { f with bytes := b } (flowTouch n false i s)
          | none => .ok (dropFrame f s)
        | some (n, _, true) => routeOut i f (flowTouch n true i s)
        | none =>
          if fromOutside f.vlan i s then
            if mayEnter f.vlan i s then startFlow i f s
            else if ownAddress i.family i.dst s then slowPath 3 f 7 s
            else .ok (dropFrame f (countPort f.ingress 42 1 s))
          else if ownAddress i.family i.dst s then slowPath 3 f 7 s
          else startFlow i f s

/-! ### ACL (R199) -/

/-- The bit of an ingress in an ACL rule. -/
def aclIngress (f : Frame) : Nat := if f.ingress ≤ 6 then 2 ^ f.ingress else 0

/-- A prefix holds an address. -/
def prefixHolds (family len p a : Nat) : Bool := prefixOf family len p == prefixOf family len a

/-- A rule matches a packet: every part that its Match field names (R199, R203). -/
def aclMatches (b : Bytes) (f : Frame) (i : Option Ip) : Bool :=
  let m := rd b 10 2
  let fam := rd b 18 1
  let ip (t : Ip → Bool) : Bool := i.any t
  (!bit m 0 || rd b 12 1 &&& aclIngress f != 0)
  && (!bit m 1 || rd b 14 2 == f.vlan)
  && (!bit m 2 || rd b 16 2 == etherType f.bytes)
  && (!bit m 3 || ip fun x => x.proto == rd b 19 1)
  && (!bit m 4 || ip fun x => x.family == fam && prefixHolds fam (rd b 36 1) (addrAt b 20 fam) x.src)
  && (!bit m 5 || ip fun x => x.family == fam && prefixHolds fam (rd b 37 1) (addrAt b 40 fam) x.dst)
  && (!bit m 6 || ip fun x => decide (rd b 56 2 ≤ x.sport) && decide (x.sport ≤ rd b 58 2))
  && (!bit m 7 || ip fun x => decide (rd b 60 2 ≤ x.dport) && decide (x.dport ≤ rd b 62 2))
  && (!bit m 8 || ip fun x => x.dscp == rd b 64 1)
  && (!bit m 9 || ip fun x => x.proto == 6 && x.flags &&& rd b 66 1 == rd b 65 1 &&& rd b 66 1)
  && (!bit m 10 || f.bss == rd b 13 1)

/-- The colour a packet meets a policer with (R217). -/
def inputColour (f : Frame) (i : Option Ip) : Nat := f.colour.getD (dscpColour (i.map (·.dscp)))

/-- A frame meets a policer: with the colour it carries on with, or none where it is dropped. -/
def policeFrame (n : Option Nat) (f : Frame) (i : Option Ip) (s : State) : Option Frame × State :=
  match n with
  | none => (some f, s)
  | some k =>
    let r := police k (f.bytes.length + 4 + (if f.tci.isSome then 4 else 0)) (inputColour f i) s
    (r.1.map fun c => { f with colour := some c }, r.2)

/-- The policer attached to a frame's source: its port, or its station (R218). -/
def framePolicer (f : Frame) (s : State) : Option Nat :=
  if f.ingress ≤ 4 then sourcePolicer (2, f.ingress) s
  else if f.ingress = 5 then sourcePolicer (1, f.station) s else none

/-! ### The pipeline (R188) -/

/-- A frame is sent to the router MAC of its VLAN. -/
def toRouter (f : Frame) (s : State) : Bool := (routerVlan f.vlan s).any fun x => x.mac == dstMac f.bytes

/-- An ARP or IPv6 neighbour message that concerns an address of the device's own, or answers its request (R202). -/
def arpForUs (f : Frame) (s : State) : Bool :=
  if etherType f.bytes = 0x0806 then ownAddress 4 (rdBe f.bytes 38 4) s || toRouter f s
  else (ipOf f.bytes).any fun i =>
    let ty := rdBe f.bytes i.l4 1
    i.proto == 58 && (ty == 135 || ty == 136) && (ownAddress 6 (rdBe f.bytes (i.l4 + 8) 16) s || toRouter f s)

/-- An IGMP or MLD message on a VLAN with multicast-to-unicast set (R201). -/
def snooped (f : Frame) (s : State) : Bool :=
  (vlan f.vlan s).any (fun x => bit x.flags 3)
  && (ipOf f.bytes).any fun i => i.proto == 2
      || (i.proto == 58 && [130, 131, 132, 143].contains (rdBe f.bytes i.l4 1))
      || (i.proto == 0 && i.family == 6 && [130, 131, 132, 143].contains (rdBe f.bytes (i.l4 + 8) 1))

/-- Stages 4 to 8 of a permitted packet. -/
def lookupFrame (f : Frame) (s : State) : Fate :=
  let s := learn f s
  if arpForUs f s then slowPath 1 f 0 s
  else if snooped f s then slowPath 4 f 8 s
  else
    match routerVlan f.vlan s, ipOf f.bytes with
    | some x, some i => if dstMac f.bytes = x.mac then routeFrame i f s else .ok (bridge f s)
    | _, _ => .ok (bridge f s)

/-- The action of the rule that decides a packet, with its modifiers (R199). -/
def aclApply (n : Nat) (b : Bytes) (f : Frame) (s : State) : Fate :=
  let i := ipOf f.bytes
  let s := onWire (fun w => { w with acl := Tab.modify w.acl n fun r =>
    { r with hits := inc 64 r.hits, octets := addWrap 64 r.octets (f.bytes.length + 4 + (if f.tci.isSome then 4 else 0)) } }) s
  let m := rd b 4 1
  let r := policeFrame (if bit m 1 then some (rd b 8 2) else none) f i s
  match r.1 with
  | none => .ok (dropFrame f r.2)
  | some f =>
    let f := if bit m 0 then { f with priority := rd b 5 1 } else f
    let f := if bit m 2 then { f with bytes := match i with | some x => setDscp x (rd b 6 1) f.bytes | none => f.bytes } else f
    let copy : Frame := { f with rule := n, sram := false, cells := 0, inject := none }
    match rd b 3 1 with
    | 0 => lookupFrame f r.2
    | 1 => .ok (dropFrame f (countPort f.ingress 42 1 r.2))
    | 2 => .ok (toPunt (rd b 7 1) { copy with reason := 1 } (dropFrame f r.2))
    | _ => lookupFrame f (toPunt (rd b 7 1) { copy with reason := 2 } r.2)

/-- Stage 3: the source's policer, then the lowest-numbered rule that matches; without one the packet is permitted (R199,
R218). -/
def aclStage (f : Frame) (s : State) : Fate :=
  let i := ipOf f.bytes
  let r := policeFrame (framePolicer f s) f i s
  match r.1 with
  | none => .ok (dropFrame f r.2)
  | some f =>
    match r.2.wire.acl.find? fun e => aclMatches e.2.bytes f i with
    | some e => aclApply e.1 e.2.bytes f r.2
    | none => lookupFrame f r.2

/-- The VLAN a frame of a port or of the host is assigned to: its tag's, or the PVID (R189); a host frame without a tag takes
VLAN 1 (log entry 16). -/
def assignVlan (f : Frame) (s : State) : Nat :=
  let v := (tagOf f.bytes).getD 0 % 4096
  if v != 0 then v else if f.ingress ≤ 4 then (port f.ingress s).cfg.pvid else 1

/-- A PTP message on a port that TIM_SET_PTP enables, in the transport set: it ends in the device, whose PTP instance takes it by
PTP_MESSAGE_RECEIVE (R238). -/
def ptpEnds (f : Frame) (s : State) : Bool :=
  let c := s.clock.cfg
  let udp (family : Nat) : Bool := (ipOf f.bytes).any fun i =>
    i.family == family && i.proto == 17 && (i.dport == 319 || i.dport == 320)
  decide (f.ingress ≤ 4) && bit c.ports f.ingress
    && (match c.transport with | 0 => etherType f.bytes == 0x88F7 | 1 => udp 4 | _ => udp 6)

/-- Stages 1 to 3: parse, VLAN assignment and filtering, ACL (R188, R190). Frames of the air come with their BSS's VLAN. -/
def pipeline (f : Frame) (s : State) : Fate :=
  let f := if f.ingress ≤ 4 || f.ingress == 6 then
      { f with vlan := assignVlan f s, tci := tagOf f.bytes, bytes := untag f.bytes }
    else f
  match vlan f.vlan s with
  | none => .ok (dropFrame f (countPort f.ingress 23 1 s))
  | some x =>
    if f.ingress ≤ 4 && !bit x.members f.ingress then .ok (dropFrame f (countPort f.ingress 23 1 s))
    else if ptpEnds f s then .ok (dropFrame f s)
    else aclStage f s

/-! ### Reception (R172 to R175, R179 to R181) -/

/-- The ingress priority of a frame of a port (R178, R200): DSCP of an IP packet, PCP of a tagged frame, or the default. -/
def ingressPriority (p : Nat) (b : Bytes) (s : State) : Nat :=
  let c := (port p s).cfg
  match c.trust, ipOf (untag b), tagOf b with
  | 2, some i, _ => s.qme.dscpMap.getD i.dscp 0
  | 1, _, some t => s.qme.pcpMap.getD (t / 8192) 0
  | _, _, _ => c.priority

/-- A frame's counter by destination, from the base index of receive (2) or transmit (26) counters. -/
def castCounter (base : Nat) (b : Bytes) : Nat :=
  if dstMac b = broadcast then base + 2 else if groupBound b then base + 1 else base

/-- A good frame is counted (R184). -/
def countGood (p len : Nat) (b : Bytes) (s : State) : State :=
  countPort p (castCounter 2 b) 1 (countPort p 1 1 (countPort p 0 len s))

/-- A frame of a port takes its cells and awaits its lookup, or is dropped whole (R175). -/
def enterLookup (p : Nat) (b : Bytes) (good : Bool) (s : State) : State :=
  let k := ingressPriority p b s
  let n := cellsOf b.length
  match takeCells p k n s with
  | none => countPort p 12 1 s
  | some t => onWire (fun w => { w with lookup := w.lookup ++
      [{ ingress := p, bytes := b, priority := k, rxPrio := k, first := rawTime s, sram := true, cells := n, good := good }] }) t

/-- The SecY of a port is enabled (R180). -/
def secyOn (p : Nat) (s : State) : Bool := decide (p < 4) && bit (port p s).secy.flags 0

/-- A frame that carries a SecTAG. -/
def hasSecTag (b : Bytes) : Bool := etherType b == 0x88E5

/-- The 64-bit PN of a received frame: the lowest number at or above the lower half-range of the lowest acceptable PN with the
SecTAG's low 32 bits (PRESUMED, IEEE 802.1AEbw; log entry 17). -/
def recoverPn (lowest pn32 : Nat) : Nat :=
  let c := lowest / 2 ^ 32 * 2 ^ 32 + pn32
  if c < lowest && 2 ^ 31 ≤ lowest - c then c + 2 ^ 32 else c

/-- A frame on a MACsec port: EAPOL passes; an untagged frame, or one whose SA holds no key, is dropped and counted; any other
waits for the verdict on its ICV, in its cells (R180 to R182). -/
def macsecReceive (p : Nat) (b : Bytes) (s : State) : State :=
  if etherType b = 0x888E then enterLookup p b true s
  else if !hasSecTag b then countPort p 19 1 s
  else
    let y := (port p s).secy
    let an := rdBe b 14 1 % 4
    let found := (y.rxSci.find? fun e => e.2 == rdBe b 20 8).bind fun e =>
      (saOf y true e.1 an).map fun a => (e.1, a)
    match found with
    | none => countPort p 18 1 s
    | some (sc, a) =>
      if (keyOf a.key s).isNone then countPort p 18 1 s
      else
        let k := (port p s).cfg.priority
        let n := cellsOf (b.length - 32)
        match takeCells p k n s with
        | none => countPort p 12 1 s
        | some t =>
          let f : Frame := { ingress := p, bytes := b, priority := k, rxPrio := k, first := rawTime s, sram := true, cells := n }
          onPort p (fun x => { x with icv := x.icv ++ [(f, sc, an, recoverPn a.pn (rdBe b 16 4))] }) t

/-- A frame arrives on a port (R172, R174, R175, R181, R186). A MAC control frame is taken as the pause or PFC frame it is, a
UMP frame of MGT as such (R177, R263, R442). -/
def frameReceive (p : Nat) (b : Bytes) (fcs : Bool) (s : State) : State :=
  let x := port p s
  if !portRuns p s || x.state != .up then s
  else if x.notReady then countPort p 12 1 s
  else if !powered 2 s then s
  else
    let len := b.length + 4 - (if secyOn p s && hasSecTag b then 32 else 0)
    if len < 64 then countPort p (if fcs then 8 else 9) 1 s
    else if x.cfg.maxFrame < len then countPort p (if fcs then 10 else 11) 1 s
    else if !fcs then
      let s := countPort p 7 1 s
      if secyOn p s || decide (b.length ≤ 252) then s else enterLookup p b false s
    else
      let s := countGood p len b s
      if etherType b = 0x8808 then
        (if rdBe b 14 2 = 1 then pauseReceive p (rdBe b 16 2) s
         else if rdBe b 14 2 = 0x0101 then
           pfcReceive p (rdBe b 16 2) ((List.range 8).map fun k => rdBe b (18 + 2 * k) 2) s
         else s)
      else if p = 4 ∧ etherType b = 0x88B5 then
        umpFrame (srcMac b) (rdBe b 14 1) (rd b 16 2) (rd b 18 2) (b.drop 22) s
      else if secyOn p s then macsecReceive p b s
      else enterLookup p b true s

/-- ETH_FRAME_RECEIVE (R172). -/
def execEthFrameReceive (port : Nat) (bytes : Bytes) (fcs : Bool) (s : State) : Host.Outcome State Fault Refusal :=
  .next (frameReceive port bytes fcs (start s))

/-- A MACsec frame's verdict: a frame that fails its ICV or the replay check is freed and counted; a good one raises the lowest
acceptable PN and is released to lookup (R180, R181). -/
def icvVerdict (p : Nat) (good : Bool) (plain : Bytes) (s : State) : State :=
  match (port p s).icv with
  | [] => s
  | (f, sc, an, pn) :: r =>
    let s := onPort p (fun x => { x with icv := r }) s
    let y := (port p s).secy
    match saOf y true sc an with
    | none => countPort p 18 1 (freeFrame f s)
    | some a =>
      if !good then countPort p 16 1 (freeFrame f s)
      else if bit y.flags 2 && decide (pn < a.pn) then countPort p 17 1 (freeFrame f s)
      else
        let low := max a.pn (pn + 1 - y.window)
        let s := onSecy p (fun y => { y with rx := Tab.modify y.rx (sc * 4 + an) fun a => { a with pn := low } }) s
        let k := ingressPriority p plain s
        let s := onPort p (fun x => { x with cells := (x.cells.modify f.rxPrio (· - f.cells)).modify k (· + f.cells) }) s
        settleXoff (onWire (fun w =>
          { w with lookup := w.lookup ++ [{ f with bytes := plain, priority := k, rxPrio := k }] }) s)

/-- MACSEC_ICV_VERDICT (R181). -/
def execMacsecIcvVerdict (port : Nat) (good : Bool) (plain : Bytes) (s : State) : Host.Outcome State Fault Refusal :=
  .next (icvVerdict port good plain (start s))

/-! ### Lookup (R173, R174, R176, R188) -/

/-- The wired queues: port and queue. -/
def wiredQueues : List (Nat × Nat) :=
  (4, 16488) :: ((List.range 4).map fun p => (List.range 8).map fun k => (p, wiredQueue p k)).flatten

/-- The frame that a port may cut through, as its lookup found it: the one thing that came of the lookup is that it joined a
queue of the port, empty, neither stopped nor gated, the port being idle and no faster (R173). `s` is before the lookup, `u` after. -/
def cutThroughTo (f : Frame) (s u : State) : Option (Nat × Frame) :=
  if u.tds.items.length != s.tds.items.length || u.wire.held != s.wire.held then none
  else match (wiredQueues.filter fun e => (queue e.2 u).frames.length != (queue e.2 s).frames.length) with
    | [(p, q)] =>
      if portUp p s && !(port p s).paused && decide (speedMbps (port p s).speed ≤ speedMbps (port f.ingress s).speed)
          && (port p s).sending.isNone && !pfcStop q s && !gateClosed q s then
        match (queue q s).frames, (queue q u).frames with
        | [], [g] => some (p, g)
        | _, _ => none
      else none
    | _ => none

/-- A frame with a bad FCS: where its transmission has started by cut-through it ends with the inverse FCS; else it is dropped.
Nothing else comes of its lookup (R173, R174). -/
def badFrame (f : Frame) (s : State) : State :=
  match pipeline f s with
  | .error _ => freeFrame f s
  | .ok u => match cutThroughTo f s u with
    | some (p, g) => emit (.eth p g.bytes none true) (countPort p 31 1 (freeFrame f s))
    | none => freeFrame f s

/-- The FIFO head cannot go on: its priority's later frames wait behind it; a full class is met as R350 says, a full hold area
is reported (R176). -/
def headBlocked (f : Frame) (cause : Nat) (s : State) : State :=
  if 4 < f.ingress then s
  else
    let newly := !bit (port f.ingress s).blocked f.rxPrio
    let s := if newly then onPort f.ingress (fun x => { x with blocked := x.blocked + 2 ^ f.rxPrio }) s else s
    if cause = 255 then
      raiseLimited 0x0604 f.ingress
        (leBytes 1 f.ingress ++ leBytes 1 f.rxPrio ++ leBytes 4 (port f.ingress s).holdDropNow) s
    else if newly then refuseClass cause s else s

/-- The first frame waiting for its lookup on an ingress; ports keep a FIFO per ingress priority. -/
def lookupHead (ingress prio : Nat) (s : State) : Option Frame :=
  s.wire.lookup.find? fun f => f.ingress == ingress && (decide (4 < ingress) || f.rxPrio == prio)

/-- The frame at a FIFO head leaves the FIFO. -/
def popLookup (f : Frame) (s : State) : State :=
  let s := onWire (fun w => { w with lookup := w.lookup.erase f }) s
  if 4 < f.ingress then s
  else onPort f.ingress (fun x =>
    { x with blocked := if bit x.blocked f.rxPrio then x.blocked - 2 ^ f.rxPrio else x.blocked }) s

/-- The lookup of the frame at the head of an ingress FIFO (R188). -/
def packetLookup (ingress prio : Nat) (s : State) : State :=
  match lookupHead ingress prio s with
  | none => s
  | some f =>
    let t := popLookup f s
    if !f.good then badFrame f t
    else match pipeline f t with
      | .ok u => u
      | .error c => headBlocked f c s

/-- FWE_PACKET_LOOKUP (R188): stage 2 of the paths of R23 and R24; only what R21 lists goes to firmware. -/
def execFwePacketLookup (ingress prio : Nat) (s : State) : Host.Outcome State Fault Refusal :=
  .next (packetLookup ingress prio (start s))

/-- A frame has waited at a FIFO head for more than 10 ms: dropped and counted, which releases the FIFO (R176). -/
def headTimeout (p prio : Nat) (s : State) : State :=
  match lookupHead p prio s with
  | none => s
  | some f =>
    if p ≤ 4 && bit (port p s).blocked prio then
      freeFrame f (onPort p (fun x => { x with holdDropNow := inc 32 x.holdDropNow })
        (countPort p 13 1 (popLookup f s)))
    else s

/-- HOLD_FIFO_HEAD_TIMEOUT (R176). -/
def execHoldFifoHeadTimeout (port prio : Nat) (s : State) : Host.Outcome State Fault Refusal :=
  .next (headTimeout port prio (start s))

/-! ### Flow setup on a packet core (R195 to R198) -/

/-- A NAT address and port are taken on a protocol: by a mapping of another inside source, or by a static forward. -/
def natTaken (proto a p src sport : Nat) (s : State) : Bool :=
  s.wire.flows.any (fun e => bit e.2.flags 1 && e.2.proto == proto && e.2.nat == a && e.2.natPort == p
    && !(e.2.src == src && e.2.sport == sport))
  || s.wire.forwards.any fun e => e.2.proto == proto && e.2.outside == p

/-- The NAT address and port of a new flow (R197): the inside source's own mapping; else its port kept on an address where it
is free; else a free port. Which of the free ones is taken is the device's choice, given by the row. -/
def natPick (pool : NatPool) (t : Tuple) (pick : Nat) (s : State) : Option (Nat × Nat) :=
  match s.wire.flows.find? fun e => bit e.2.flags 1 && !bit e.2.flags 2 && e.2.proto == t.proto && e.2.src == t.src
      && e.2.sport == t.sport with
  | some e => some (e.2.nat, e.2.natPort)
  | none =>
    let addrs := (List.range pool.count).map (· + pool.first)
    let inRange := decide (pool.low ≤ t.sport) && decide (t.sport ≤ pool.high)
    let kept := addrs.filter fun a => inRange && !natTaken t.proto a t.sport t.src t.sport s
    match kept with
    | a :: r => some ((a :: r).getD (pick % (r.length + 1)) a, t.sport)
    | [] =>
      let free := (addrs.map fun a =>
        ((List.range (pool.high + 1 - pool.low)).map (· + pool.low)).filterMap fun p =>
          if natTaken t.proto a p t.src t.sport s then none else some (a, p)).flatten
      match free with
      | [] => none
      | e :: r => some ((e :: r).getD (pick % (r.length + 1)) e)

/-- The state of a new flow of a protocol (R198). -/
def newState (proto : Nat) : Nat := if proto = 6 then 0 else if proto = 17 then 3 else if proto = 1 ∨ proto = 58 then 5 else 6

/-- A flow's entry. -/
def flowEntry (t : Tuple) (nat : Option (Nat × Nat)) (static : Bool) (s : State) : Flow where
  state := newState t.proto
  family := t.family
  proto := t.proto
  flags := b2n (t.family == 6) + (if nat.isSome then 2 else 0) + (if static then 4 else 0)
  src := t.src
  dst := t.dst
  sport := t.sport
  dport := t.dport
  nat := (nat.map Prod.fst).getD 0
  natPort := (nat.map Prod.snd).getD 0
  fins := 0
  last := s.mem.seconds
  packets := 0
  octets := 0

/-- A flow entry is installed at the lowest free index; none where the table is full (R195). -/
def installFlow (f : Flow) (s : State) : Option State :=
  if 262144 ≤ s.wire.flows.length then none
  else (Tab.lowestFree s.wire.flows 0 s.wire.flows.length).map fun n =>
    onWire (fun w => { w with flows := Tab.put w.flows n f }) s

/-- What flow setup comes to: an entry installed, the table full, or no free outside port on an interface (R197, R198). -/
inductive Setup where
  | done (s : State)
  | full
  | noPort (iface : Nat)

/-- The setup of a tuple that entered by a VLAN. -/
def setupFlow (v : Nat) (t : Tuple) (i : Ip) (pick : Nat) (s : State) : Setup :=
  let install (f : Flow) (s : State) : Setup := match installFlow f s with | some u => .done u | none => .full
  if fromOutside v i s then
    match forwardOf i s with
    | some (_, g) =>
      install (flowEntry ⟨4, t.proto, g.inside, t.src, g.port, t.sport⟩ (some (t.dst, t.dport)) true s) s
    | none =>
      match mappingOf i s with
      | some m => install (flowEntry ⟨4, t.proto, m.src, t.src, m.sport, t.sport⟩ (some (t.dst, t.dport)) false s) s
      | none => install (flowEntry t none false s) s
  else
    let hairpin := s.wire.pools.find? fun e => inPool e.1 i.dst s
    let out := match hairpin with | some e => some e.1 | none => egressOf i s
    match (if t.family = 4 && ifaceFlag v 6 s then out.filter fun e => ifaceFlag e 7 s else none) with
    | none => install (flowEntry t none false s) s
    | some e =>
      match Tab.look s.wire.pools e with
      | none => .noPort e
      | some pool =>
        match natPick pool t pick s with
        | none => .noPort e
        | some (a, p) =>
          match install (flowEntry t (some (a, p)) false s) s with
          | .done u =>
            if hairpin.isNone then .done u
            else
              let far := match forwardOf i u with
                | some (_, g) => some (g.inside, g.port)
                | none => (mappingOf i u).map fun m => (m.src, m.sport)
              match far with
              | none => .done u
              | some (b, q) => install (flowEntry ⟨4, t.proto, b, a, q, p⟩ (some (t.dst, t.dport)) false u) u
          | x => x

/-- A held packet goes on after its flow's setup; one that could not go on is dropped. -/
def releaseHeld (f : Frame) (s : State) : State :=
  let r := unholdFrame f s
  match ipOf r.1.bytes with
  | none => r.2
  | some i =>
    match (if i.offset = 0 then flowOf (ipTuple i) r.2 else fragmentFlow i r.2) with
    | none => countPort f.ingress 46 1 r.2
    | some (n, fl, d) =>
      match throughFlow n fl d i r.1 r.2 with
      | .ok t => t
      | .error c => if c < 16 then refuseClass c r.2 else r.2

/-- Held packets of a flow whose setup fails are dropped and counted (R196). -/
def refuseHeld (l : List Frame) (s : State) : State :=
  l.foldl (fun t f => countPort f.ingress 46 1 (unholdFrame f t).2) s

/-- The pool of an interface counts a setup that found no port, and EV_FWD_NAT_PORTS is raised (R197, R204). -/
def noPorts (iface : Nat) (s : State) : State :=
  let s := onWire (fun w => { w with pools := Tab.modify w.pools iface fun p => { p with failedNow := inc 32 p.failedNow } }) s
  let n := ((Tab.look s.wire.pools iface).map (·.failedNow)).getD 1
  raiseLimited 0x0607 iface (leBytes 2 iface ++ leBytes 4 n) s

/-- The flow table is full: the flow is refused (R198). -/
def flowFull (s : State) : State :=
  let s := onWire (fun w => { w with refusedNow := inc 32 w.refusedNow }) s
  raiseLimited 0x0605 0 (leBytes 4 s.wire.flows.length ++ leBytes 4 s.wire.refusedNow) s

/-- Flow setup ends on a core: the held packets of the flow go on in order, or are dropped (R25, R196). -/
def flowSetupDone (core pick : Nat) (s : State) : State :=
  match served core s with
  | some ⟨_, ⟨_, _, _, _, _, .flow t⟩, _⟩ =>
    match s.wire.held.find? fun h => h.key == t with
    | none => s
    | some h =>
      let s := onWire (fun w => { w with held := w.held.filter fun x => x.key != t }) s
      if (flowOf t s).isSome then h.frames.foldl (fun u f => releaseHeld f u) s
      else
        match h.frames.head?.bind fun f => (ipOf f.bytes).map fun i => (f, i) with
        | none => refuseHeld h.frames s
        | some (f, i) =>
          match setupFlow f.vlan t i pick s with
          | .done u => h.frames.foldl (fun u f => releaseHeld f u) u
          | .full => flowFull (refuseHeld h.frames s)
          | .noPort e => noPorts e (refuseHeld h.frames s)
  | _ => s

/-- FLOW_SETUP_DONE (R196). -/
def execFlowSetupDone (core pick : Nat) (s : State) : Host.Outcome State Fault Refusal :=
  .next (flowSetupDone core pick (start s))

/-- The idle time after which a flow goes: its state's timeout, but 5 s for TCP setup and one-way UDP while the table is more than
95 % full (R198). -/
def flowTimeout (f : Flow) (s : State) : Nat :=
  if (f.state == 0 || f.state == 3) && decide (262144 * 95 < s.wire.flows.length * 100) then 5
  else s.wire.timeouts.getD f.state 0

/-- FLOW_AGE_OUT (R198): a flow goes once it has been idle for its timeout. -/
def execFlowAgeOut (index : Nat) (s : State) : Host.Outcome State Fault Refusal :=
  .next (let s := start s
    if (Tab.look s.wire.flows index).any fun f => decide (f.last + flowTimeout f s ≤ s.mem.seconds) then removeFlow index s else s)

/-- NAT_FRAGMENT_EXPIRY (R197): an entry's 2 s lifetime ends. -/
def execNatFragmentExpiry (src dst ident : Nat) (s : State) : Host.Outcome State Fault Refusal :=
  .next (onWire (fun w => { w with fragments := w.fragments.filter fun e =>
    !(e.1 == src && e.2.1 == dst && e.2.2.1 == ident) }) (start s))

/-! ### The packet cores' slow path (R192 to R194, R201, R202) -/

/-- An ICMP error is sent about a packet, at most 100 in a second (R192). -/
def icmpError (kind : Nat) (b : Bytes) (s : State) : State :=
  if s.wire.icmpNow < 100 then emit (.stack kind b) (onWire (fun w => { w with icmpNow := w.icmpNow + 1 }) s) else s

/-- A packet larger than the egress MTU: an IPv4 one that allows it is fragmented, any other is answered with an ICMP error
(R194). -/
def overMtu (i : Ip) (iface mac : Nat) (f : Frame) (s : State) : State :=
  if i.family = 6 || i.df then icmpError 4 f.bytes s
  else (fragments i (((vlan iface s).map (·.mtu)).getD 0) f.bytes).foldl (fun t b =>
    match ipOf b with
    | some j => emitRouted j iface mac { f with bytes := b } t
    | none => t) s

/-- A packet core sends a packet to its resolved next hop, IPv4 options or not (R194). -/
def coreSend (i : Ip) (iface mac : Nat) (f : Frame) (s : State) : State :=
  if i.ttl ≤ 1 then icmpError 2 f.bytes (countPort f.ingress 44 1 s)
  else if tooLong i iface mac s then overMtu i iface mac f s
  else emitRouted i iface mac f s

/-- An address is resolved: its next hop takes the link-layer address and its waiting packets go on in order (R193). -/
def resolved (iface a mac : Nat) (s : State) : State :=
  match nextHop iface a s with
  | none => s
  | some h =>
    let s := onHop iface a (fun h => { h with mac := some mac, tries := 0, waiting := [], unreachable := false }) s
    h.waiting.foldl (fun t f =>
      let t := freeFrame f t
      let f := { f with cells := 0 }
      match ipOf f.bytes with
      | some i => coreSend i iface mac f t
      | none => t) s

/-- A packet core sends a packet on: to its next hop where that is resolved; else it waits with at most four, or is dropped and
counted (R193, R194). -/
def resolveStep (f : Frame) (s : State) : State :=
  match ipOf f.bytes with
  | none => s
  | some i =>
    match lpm i.family i.dst s with
    | none => icmpError 3 f.bytes (countPort f.ingress 43 1 s)
    | some h =>
      let wait (s : State) : State :=
        let n := cellsOf f.bytes.length
        if s.qme.poolFree < n then poolDrop s
        else onHop h.iface h.addr (fun x => { x with waiting := x.waiting ++ [{ f with cells := n }] })
          (onQme (fun m => { m with poolFree := m.poolFree - n }) s)
      if 2 ≤ h.kind then s
      else match nextHop h.iface h.addr s with
      | some n =>
        match n.mac with
        | some m => coreSend i h.iface m f s
        | none =>
          if n.unreachable then icmpError 5 f.bytes (countPort f.ingress 43 1 s)
          else if n.waiting.length < 4 then wait s else countPort f.ingress 43 1 s
      | none =>
        if 16384 ≤ s.wire.nextHops.length then countPort f.ingress 43 1 s
        else wait (emit (.stack 0 (leBytes 2 h.iface ++ addrBytes i.family h.addr))
          (onWire (fun w => { w with nextHops := w.nextHops ++ [⟨h.iface, h.addr, none, 1, [], false⟩] }) s))

/-- NEXT_HOP_RESOLVE_RETRY (R193): a request unanswered for 1 s is sent again, or after the third the next hop is unreachable. -/
def execNextHopResolveRetry (iface addr : Nat) (s : State) : Host.Outcome State Fault Refusal :=
  .next (let s := start s
    match nextHop iface addr s with
    | none => s
    | some h =>
      if h.mac.isSome || h.unreachable then s
      else if h.tries < 3 then
        emit (.stack 0 (leBytes 2 iface ++ beBytes 16 addr)) (onHop iface addr (fun x => { x with tries := x.tries + 1 }) s)
      else
        let s := onHop iface addr (fun x => { x with unreachable := true, waiting := [] }) s
        h.waiting.foldl (fun t f => icmpError 5 f.bytes (countPort f.ingress 43 1 (freeFrame f t))) s)

/-- NEXT_HOP_UNREACHABLE_END (R193). -/
def execNextHopUnreachableEnd (iface addr : Nat) (s : State) : Host.Outcome State Fault Refusal :=
  .next (let s := start s
    onWire (fun w => { w with nextHops := w.nextHops.filter fun h =>
      !(h.iface == iface && h.addr == addr && h.unreachable) }) s)

/-- ARP and neighbour discovery for the device's own addresses: the sender is learned as a next hop's address, a request is
answered, and the frame goes on as any other of its VLAN (R202). -/
def neighbour (f : Frame) (s : State) : State :=
  let b := f.bytes
  let arp := etherType b == 0x0806
  let i := ipOf b
  let l4 := ((i.map (·.l4)).getD 54)
  let sender := if arp then rdBe b 28 4 else if rdBe b l4 1 = 136 then rdBe b (l4 + 8) 16 else (i.map (·.src)).getD 0
  let mac := if arp then rdBe b 22 6 else srcMac b
  let request := if arp then rdBe b 20 2 == 1 else rdBe b l4 1 == 135
  let s := resolved f.vlan sender mac s
  let s := if request then emit (.stack 1 b) s else s
  if groupBound b then bridge f s else s

/-- Member stations at which delivery becomes group-addressed, and at which it returns to unicast (R201). -/
def regroup (g : Group) : Group :=
  { g with grouped := if 64 < g.members.length then true else if g.members.length ≤ 56 then false else g.grouped }

/-- A member joins (true) or leaves a group: a station, or a port (R201). -/
def groupMember (v a : Nat) (join : Bool) (f : Frame) (s : State) : State :=
  let upd (g : Group) : Group :=
    if f.station < 2048 then
      regroup { g with members := if join then (if g.members.contains f.station then g.members else g.members ++ [f.station])
                                  else g.members.filter (· != f.station) }
    else if f.ingress ≤ 4 then
      { g with ports := if join then g.ports ||| 2 ^ f.ingress
                        else if bit g.ports f.ingress then g.ports - 2 ^ f.ingress else g.ports }
    else g
  let l := if (groupOf v a s).isSome then s.wire.groups
    else if join && decide (s.wire.groups.length < 1024) then s.wire.groups ++ [⟨v, a, [], 0, false⟩] else s.wire.groups
  let l := l.map fun g => if g.vlan == v && g.addr == a then upd g else g
  onWire (fun w => { w with groups := l.filter fun g => !g.members.isEmpty || g.ports != 0 }) s

/-- The group MAC address of an IPv4 or IPv6 group. -/
def groupMac (family a : Nat) : Nat :=
  if family = 4 then 0x01005E000000 + a % 2 ^ 23 else 0x333300000000 + a % 2 ^ 32

/-- The group records of an IGMPv3 or MLDv2 report from an offset: each record's type, group, and whether it names sources. -/
def groupRecords (b : Bytes) (alen : Nat) : Nat → Nat → List (Nat × Nat × Nat)
  | 0, _ => []
  | n + 1, o => (rdBe b o 1, rdBe b (o + 4) alen, rdBe b (o + 2) 2)
      :: groupRecords b alen n (o + 4 + alen + alen * rdBe b (o + 2) 2 + 4 * rdBe b (o + 1) 1)

/-- A group record joins or leaves its group: modes INCLUDE of no source leave, others join. -/
def recordJoins (ty n : Nat) : Option Bool :=
  match ty with
  | 1 => some (n != 0)
  | 2 => some true
  | 3 => some (n != 0)
  | 4 => some true
  | 5 => some true
  | _ => none

/-- Snooping of an IGMP or MLD message (R201); the frame then goes on as any other of its VLAN. -/
def snoop (f : Frame) (s : State) : State :=
  match ipOf f.bytes with
  | none => s
  | some i =>
    let o := if i.family = 6 && i.proto == 0 then i.l4 + 8 else i.l4
    let ty := rdBe f.bytes o 1
    let l : List (Nat × Bool) :=
      if i.family = 4 then
        (match ty with
         | 0x16 => [(rdBe f.bytes (o + 4) 4, true)]
         | 0x17 => [(rdBe f.bytes (o + 4) 4, false)]
         | 0x22 => (groupRecords f.bytes 4 (rdBe f.bytes (o + 6) 2) (o + 8)).filterMap fun r =>
             (recordJoins r.1 r.2.2).map fun j => (r.2.1, j)
         | _ => [])
      else
        (match ty with
         | 131 => [(rdBe f.bytes (o + 8) 16, true)]
         | 132 => [(rdBe f.bytes (o + 8) 16, false)]
         | 143 => (groupRecords f.bytes 16 (rdBe f.bytes (o + 6) 2) (o + 8)).filterMap fun r =>
             (recordJoins r.1 r.2.2).map fun j => (r.2.1, j)
         | _ => [])
    bridge f (l.foldl (fun t e => groupMember f.vlan (groupMac i.family e.1) e.2 f t) s)

/-- A packet for the device's own stack: all its checksums are checked, those that its routing has counted already apart, and an
echo request is answered (R179, R202). RADIUS
responses and PTP messages are rows of their own. -/
def ownTraffic (f : Frame) (s : State) : State :=
  match ipOf f.bytes with
  | none => s
  | some i =>
    if !headerGood f.bytes i then countPort f.ingress 14 1 s
    else if !l4Good f.bytes i then (if i.proto = 1 then countPort f.ingress 15 1 s else s)
    else if (i.proto = 1 ∧ rdBe f.bytes i.l4 1 = 8) ∨ (i.proto = 58 ∧ rdBe f.bytes i.l4 1 = 128) then
      emit (.stack 6 f.bytes) s
    else s

/-- A packet core serves a frame of classes 1 to 4 for its reason. -/
def serveFrame (f : Frame) (why : Nat) (s : State) : State :=
  let r := unholdFrame f s
  match why with
  | 0 => neighbour r.1 r.2
  | 1 => resolveStep r.1 r.2
  | 2 => icmpError 2 r.1.bytes r.2
  | 3 => icmpError 3 r.1.bytes r.2
  | 4 => resolveStep r.1 r.2
  | 5 => resolveStep r.1 r.2
  | 6 => icmpError 5 r.1.bytes r.2
  | 7 => ownTraffic r.1 r.2
  | 9 => resolveStep r.1 r.2
  | _ => snoop r.1 r.2

/-! ### Transmission (R173, R177, R182, R183, R208, R211, R220) -/

/-- Time in ns that a frame and its 12-byte inter-frame gap take at a port's speed (R220). -/
def sendTime (p len : Nat) (s : State) : Nat := (len + 12) * 8000 / max 1 (speedMbps (port p s).speed)

/-- MACsec protects a frame of a port (R180). -/
def protects (p : Nat) (f : Frame) (s : State) : Bool :=
  secyOn p s && bit (port p s).secy.flags 1 && etherType f.bytes != 0x888E

/-- Length of a frame as sent, from destination address to FCS (R211). -/
def sentLength (p : Nat) (f : Frame) (s : State) : Nat := f.bytes.length + 4 + (if protects p f s then 32 else 0)

/-- Heads of a queue longer than every open interval of its gate are dropped (R220). -/
def dropOversize (p k : Nat) : List Frame → State → State
  | [], s => s
  | f :: r, s =>
    if neverOpen p k (sendTime p (sentLength p f s) s) s then
      let q := wiredQueue p k
      dropOversize p k r (injectFate f.inject 16 (rawTime s) (freeFrame f (leaveCells q f.cells
        (onQueue q (fun i => { i with frames := r, nOversize := inc 32 i.nOversize }) s))))
    else s

/-- A wired queue is eligible (R208). -/
def eligible (p k : Nat) (s : State) : Bool :=
  match (queue (wiredQueue p k) s).frames with
  | [] => false
  | f :: _ => !pfcStop (wiredQueue p k) s && !gateClosed (wiredQueue p k) s
      && gateAllows p k (sendTime p (sentLength p f s) s) s && wiredCredit p k s

/-- Length of the head of a wired queue. -/
def headLength (p k : Nat) (s : State) : Nat :=
  ((queue (wiredQueue p k) s).frames.head?.map fun f => f.bytes.length).getD 0

/-- Deficit round robin from the queue whose turn it is: it is served while its deficit covers its head; else the turn passes to
the next weighted queue, which gains its quantum where it is eligible, and an empty one loses its deficit (R208). -/
def deficitRound (p : Nat) (weighted : List Nat) : Nat → Nat → State → Option Nat × State
  | 0, _, s => (none, s)
  | fuel + 1, k, s =>
    if weighted.contains k && eligible p k s && decide (headLength p k s ≤ (queue (wiredQueue p k) s).deficit) then
      (some k, onQme (fun m => { m with rr := Tab.put m.rr p k })
        (onQueue (wiredQueue p k) (fun i => { i with deficit := i.deficit - headLength p k s }) s))
    else
      let j := (k + 1) % 8
      let q := wiredQueue p j
      let s := if !weighted.contains j then s
        else if (queue q s).frames.isEmpty then onQueue q (fun i => { i with deficit := 0 }) s
        else if eligible p j s then
          onQueue q (fun i => { i with deficit := i.deficit + (weights p s).getD j 1 * 256 }) s
        else s
      deficitRound p weighted fuel j s

/-- The queue a free EMAC of ports 0 to 3 serves: the highest eligible strict queue, else round robin (R208). -/
def pickQueue (p : Nat) (s : State) : Option Nat × State :=
  match (List.range 8).reverse.find? fun k => bit (strictMask p s) k && eligible p k s with
  | some k => (some k, s)
  | none =>
    let weighted := (List.range 8).filter fun k => !bit (strictMask p s) k
    if weighted.any fun k => eligible p k s then deficitRound p weighted 400 (Tab.getD s.qme.rr p 0) s else (none, s)

/-- The SA a protected frame latches at its first byte: AN and PN, or the counter of its drop (R182, R183). -/
def latchSa (p : Nat) (s : State) : Except Nat (Nat × Nat) :=
  let y := (port p s).secy
  match y.active.bind fun an => (saOf y false 0 an).map fun a => (an, a) with
  | none => .error 35
  | some (an, a) =>
    if (keyOf a.key s).isNone then .error 35
    else if 2 ^ 64 - 1 ≤ a.pn then .error 36
    else .ok (an, a.pn)

/-- The SecTAG of a protected frame: EtherType, TCI and AN with the SCI always present, short length, low half of the PN, and SCI
(R180; field layout PRESUMED, IEEE 802.1AE, log entry 17). -/
def secTag (y : SecY) (an pn len : Nat) : Bytes :=
  beBytes 2 0x88E5 ++ beBytes 1 (0x20 + (if bit y.flags 3 then 0x0C else 0) + an % 4) ++ beBytes 1 (if len < 48 then len else 0)
    ++ beBytes 4 (pn % 2 ^ 32) ++ beBytes 8 y.sci

/-- The SA's PN moves on; past the threshold EV_ETH_MACSEC_PN is raised once for it (R183). -/
def advancePn (p an pn : Nat) (s : State) : State :=
  let warn := decide (0xC000000000000000 < pn + 1)
    && (Tab.look (port p s).secy.tx an).any fun a => !a.warned
  let s := onSecy p (fun y => { y with tx := Tab.modify y.tx an fun a => { a with pn := pn + 1, warned := a.warned || warn } }) s
  if warn then raise 0x0603 (leBytes 1 p ++ leBytes 1 an ++ leBytes 4 ((pn + 1) / 2 ^ 32)) s else s

/-- A frame leaves its queue's head and starts on its port, charging its shapers (R211); one over the port's maximum, or
without an SA to protect it, is dropped (R182 to R184). -/
def sendHead (p k q : Nat) (s : State) : State :=
  match (queue q s).frames with
  | [] => s
  | f :: r =>
    let s := onQueue q (fun i => { i with frames := r }) (leaveCells q f.cells s)
    let s := settleClosed q s
    let drop (n : Nat) (s : State) : State := settleShapers (injectFate f.inject 18 (rawTime s) (freeFrame f (countPort p n 1 s)))
    if (port p s).cfg.maxFrame < f.bytes.length + 4 then drop 32 s
    else
      let go (sa : Option (Nat × Nat)) (s : State) : State :=
        let len := f.bytes.length + 4 + (if sa.isSome then 32 else 0)
        let s := if p = 4 then s else charge (3, p) (byteCharge len) (charge (2, p * 8 + k) (byteCharge len) s)
        let tag := sa.map fun e => (secTag (port p s).secy e.1 e.2 (f.bytes.length - 12), e.2)
        settleShapers (emit (.eth p f.bytes tag false)
          (onPort p (fun x => { x with sending := some (k, { f with stamp := rawTime s }) }) s))
      if protects p f s then
        match latchSa p s with
        | .error n => drop n s
        | .ok (an, pn) => go (some (an, pn)) (countPort p 34 1 (advancePn p an pn s))
      else go none s

/-- A free EMAC takes its next frame (R208). -/
def txStart (p : Nat) (s : State) : State :=
  let x := port p s
  if !portRuns p s || x.state != .up || x.sending.isSome || x.paused then s
  else if p = 4 then sendHead 4 0 16488 s
  else
    let s := (List.range 8).foldl (fun t k => dropOversize p k (queue (wiredQueue p k) t).frames t) s
    let r := pickQueue p s
    match r.1 with
    | some k => sendHead p k (wiredQueue p k) r.2
    | none => r.2

/-- EMAC_TX_START (R208). -/
def execEmacTxStart (port : Nat) (s : State) : Host.Outcome State Fault Refusal :=
  .next (txStart port (start s))

/-- A frame finishes: it is counted, its cells are freed, its inject completion is due, and pause frames that waited leave
(R173, R178, R184, R262). -/
def txEnd (p : Nat) (s : State) : State :=
  match (port p s).sending with
  | none => s
  | some (_, f) =>
    let len := f.bytes.length + 4
    let s := onPort p (fun x => { x with sending := none }) s
    let s := countPort p (castCounter 26 f.bytes) 1 (countPort p 25 1 (countPort p 24 len s))
    let s := if f.csum then countPort p 33 1 s else s
    flushPause p (injectFate f.inject 0 f.stamp (freeFrame f s))

/-- EMAC_TX_END (R173). -/
def execEmacTxEnd (port : Nat) (s : State) : Host.Outcome State Fault Refusal :=
  .next (txEnd port (start s))

end Sys2Proof.Machine
end

