-- ==== Sys2Proof/Machine/Rings.lean ====
section
/-! DEFINITION. Punt and inject rings: filling and reading entries, completions and DMA retries (R249, R260 to R262). -/
namespace Sys2Proof.Machine

/-- A ring's DMA can run: the ring is enabled, the host is reachable and the device is not in limp mode (R243, R262). -/
def ringRuns (r : Nat) (s : State) : Bool := (ring r s).enable && reachable s && !s.power.limp

/-- Host address of entry `i` of a ring (R258). -/
def entryAddr (r i : Nat) (s : State) : Nat :=
  (ring r s).base + i % ringSize (ring r s) * (if r = 32 then 64 else 32)

/-- A DMA operation of a ring ended in an error: it waits for its retry (R249, R262). -/
def awaitDma (r : Nat) (entry : Bool) (index : Nat) (s : State) : State :=
  onRing r (fun q => { q with inProgress := true }) { s with dma := s.dma ++ [⟨r, entry, index⟩] }

/-- A DMA operation of a ring waits for its retry. -/
def dmaWaits (r : Nat) (s : State) : Bool := s.dma.any fun d => d.ring == r

/-! ### Punt rings (R260) -/

/-- Source kind of a frame (R260). -/
def sourceKind (f : Frame) : Nat := if f.ingress ≤ 4 then 0 else if f.ingress = 5 then 1 else if f.ingress = 8 then 2 else 3

/-- The frame as a punt buffer takes it: with the tag it carried. -/
def puntFrame (f : Frame) : Bytes := match f.tci with | some t => withTag t f.bytes | none => f.bytes

/-- A filled punt entry (R260). -/
def puntEntry (e : Bytes) (f : Frame) : Bytes :=
  field e 0 10 ++ leBytes 2 (puntFrame f).length
    ++ leBytes 1 (bitsNat [true, !f.vector.isEmpty, f.tci.isSome]) ++ leBytes 1 f.reason ++ leBytes 2 f.rule
    ++ leBytes 4 f.first ++ leBytes 1 (sourceKind f)
    ++ leBytes 1 (if f.ingress ≤ 4 then f.ingress else if f.ingress = 5 then f.slice else 0)
    ++ leBytes 2 f.station ++ leBytes 2 f.vlan ++ leBytes 1 f.priority ++ leBytes 1 f.bss ++ leBytes 4 0

/-- The head of a punt queue leaves it: its cells are freed. -/
def dropPunt (r : Nat) (s : State) : State :=
  let q := 16464 + r
  match (queue q s).frames with
  | [] => s
  | f :: l => freeFrame f (leaveCells q f.cells (onQueue q (fun i => { i with frames := l }) s))

/-- A posted buffer takes the frame at the head of the punt queue; a frame that does not fit is dropped and counted in DROPS,
and the entry stays posted (R260). -/
def puntFill (r : Nat) (e : Bytes) (s : State) : State :=
  match (queue (16464 + r) s).frames with
  | [] => s
  | f :: _ =>
    let b := f.vector ++ puntFrame f
    if rd e 8 2 < b.length then dropPunt r (onRing r (fun q => { q with drops := inc 16 q.drops }) s)
    else
      let i := (ring r s).cons
      let s := emit (.dma (entryAddr r i s) (puntEntry e f)) (emit (.dma (rd e 0 8) b) s)
      ringSignal r (dropPunt r (onRing r (fun q => { q with cons := inc 32 q.cons }) s))

/-- PUNT_ENTRY_FILL (R260): `fail` is 0 where its DMA went well, 1 where the read of the entry, 2 where the write of the buffer
first ended in an error. -/
def execPuntEntryFill (ring : Nat) (entry : Bytes) (fail : Nat) (s : State) : Host.Outcome State Fault Refusal :=
  .next (let s := start s
    let q := Machine.ring ring s
    if 15 < ring || !ringRuns ring s || q.prod == q.cons || (queue (16464 + ring) s).frames.isEmpty || dmaWaits ring s then s
    else if fail = 0 then puntFill ring entry s
    else awaitDma ring (fail == 1) q.cons s)

/-! ### Inject rings (R261, R262) -/

/-- CONS of an inject ring: the lowest entry not yet completed. IDLE once a disabled ring has none left (R262). -/
def injectCons (q : Ring) : Ring :=
  let left := !q.open_.isEmpty
  { q with cons := (q.open_.head?.map Prod.fst).getD q.next, inProgress := left, idle := !q.enable && !left }

/-- An inject entry's frame meets its fate at once: its completion is due. -/
def injectDone (r i status : Nat) (s : State) : State :=
  onRing r (fun q => { q with done := q.done ++ [(i, status, 0)] }) s

/-- The frame of an inject entry goes to its target (R261). -/
def injectFrame (r i : Nat) (e frame : Bytes) (s : State) : State :=
  let kind := rd e 11 1
  let t := rd e 12 2
  let prio := rd e 14 1
  let csum := bit (rd e 10 1) 1
  let b := if csum then insertChecksums frame else frame
  let f : Frame := { ingress := 6, bytes := b, priority := prio, first := rawTime s, inject := some (r, i), csum := csum }
  if rd e 8 2 < 14 || 9216 < rd e 8 2 || 7 < prio || 3 < kind then injectDone r i 18 s
  else match kind with
    | 0 => injectDone r i 0 (onWire (fun w => { w with lookup := w.lookup ++ [{ f with inject := none }] }) s)
    | 1 => if 4 < t then injectDone r i 18 s else toPort t f s
    | 2 => if (station t s).isNone then injectDone r i 18 s else toStation t f s
    | _ => if (bss t s).isNone then injectDone r i 18 s else toGroup t f s

/-- An inject entry is read: it is open until its completion. -/
def injectOpen (r : Nat) (e : Bytes) (s : State) : State :=
  onRing r (fun q => { q with open_ := q.open_ ++ [(q.next, e)], next := inc 32 q.next, inProgress := true, idle := false }) s

/-- INJECT_ENTRY_PROCESS (R261): `fail` is 0 where its DMA went well, 1 where the read of the entry, 2 where the read of the
frame first ended in an error. -/
def execInjectEntryProcess (ring : Nat) (entry frame : Bytes) (fail : Nat) (s : State) :
    Host.Outcome State Fault Refusal :=
  .next (let s := start s
    let q := Machine.ring ring s
    if ring < 16 || 31 < ring || !ringRuns ring s || q.prod == q.next || dmaWaits ring s then s
    else match fail with
      | 0 => injectFrame ring q.next entry frame (injectOpen ring entry s)
      | 1 => awaitDma ring true q.next s
      | _ => awaitDma ring false q.next (injectOpen ring entry s))

/-- A completed inject entry: status, done bit, and the time stamp where it was wanted (R261, R262). -/
def injectEntry (e : Bytes) (status stamp : Nat) : Bytes :=
  field e 0 10 ++ leBytes 1 (rd e 10 1 / 2 * 2 + 1) ++ field e 11 5
    ++ leBytes 4 (if bit (rd e 10 1) 2 then stamp else 0) ++ leBytes 1 status ++ leBytes 3 0 ++ field e 24 8

/-- An injected frame's status is written back, CONS advances over completed entries, and the ring's interrupt follows
(R259, R262). A ring that stopped writes no more. -/
def injectCompletion (r : Nat) (s : State) : State :=
  match (ring r s).done with
  | [] => s
  | (i, status, stamp) :: l =>
    if (ring r s).error then onRing r (fun q => { q with done := [], open_ := [] }) s
    else if !reachable s then s
    else
      let e := (((ring r s).open_.find? fun x => x.1 == i).map Prod.snd).getD (leBytes 32 0)
      let s := emit (.dma (entryAddr r i s) (injectEntry e status stamp)) s
      ringSignal r (onRing r (fun q => injectCons
        { q with done := l, open_ := q.open_.filter fun x => x.1 != i
                 drops := if status = 0 then q.drops else inc 16 q.drops }) s)

/-- INJECT_COMPLETION (R262). -/
def execInjectCompletion (ring : Nat) (s : State) : Host.Outcome State Fault Refusal :=
  .next (injectCompletion ring (start s))

end Sys2Proof.Machine
end

