-- ==== Sys2Proof/Machine/Nimbus.lean ====
section
/-! DEFINITION. The Nimbus cores: bundles, kernels and their commands (chapter 15). -/
namespace Sys2Proof.Machine

/-- The Nimbus group changed by a function. -/
def onDsp (f : Dsp → Dsp) (s : State) : State := { s with dsp := f s.dsp }

/-- A Nimbus core. -/
def nimbus (n : Nat) (s : State) : NimbusCore := Tab.getD s.dsp.cores n .reset

/-- A Nimbus core replaced. -/
def setNimbus (n : Nat) (c : NimbusCore) (s : State) : State :=
  onDsp (fun d => { d with cores := Tab.put d.cores n c }) s

/-! ### Lanes (R360, R363 to R366) -/

/-- Lane `i` of 16 bits of a V register. -/
def vLane (v : BitVec 512) (i : Nat) : Int := (v.extractLsb' (16 * i) 16).toInt

/-- Lanes as one number, lane 0 in the low bits. -/
def lanesNat : List Int → Nat
  | [] => 0
  | x :: r => ofSigned 16 x + 65536 * lanesNat r

/-- A V register from its 32 lanes. -/
def ofLanes (l : List Int) : BitVec 512 := BitVec.ofNat 512 (lanesNat l)

/-- The 32 lanes of a V register. -/
def lanes (v : BitVec 512) : List Int := (List.range 32).map (vLane v)

/-- A result outside a range of `w` bits. -/
def exceeds (w : Nat) (x : Int) : Bool := decide (x < -(2 ^ (w - 1) : Int)) || decide ((2 ^ (w - 1) : Int) ≤ x)

/-- A result narrowed to `w` bits: clamped with S, else its low bits in two's complement (R366). -/
def narrow (sat : Bool) (w : Nat) (x : Int) : Int :=
  if sat then max (-(2 ^ (w - 1) : Int)) (min (2 ^ (w - 1) - 1 : Int) x) else toSigned w (ofSigned w x)

/-- A number shifted right arithmetically with convergent rounding (R365). -/
def roundEven (x : Int) (n : Nat) : Int :=
  let q := x / (2 ^ n : Int)
  let r := x % (2 ^ n : Int)
  if n = 0 ∨ 2 * r < 2 ^ n then q else if 2 ^ n < 2 * r then q + 1 else if q % 2 = 0 then q else q + 1

/-- Lane `i` of an accumulator. -/
def accLane (a : List (BitVec 40)) (i : Nat) : Int := (a.getD i 0).toInt

/-- The product of each of the 32 accumulator lanes for an operation of the MAC family; `a2` and `b2` are the next registers
of VDMAC. Complex lanes hold I in even and Q in odd lanes (R363). -/
def macProduct (op : Nat) (a b a2 b2 : BitVec 512) (i : Nat) : Int :=
  let re := i / 2 * 2
  let ar := vLane a re
  let ai := vLane a (re + 1)
  let br := vLane b re
  let bi := vLane b (re + 1)
  match op with
  | 0 => vLane a i * vLane b i
  | 1 => vLane a i * vLane b i
  | 2 => vLane a i * vLane b i + vLane a2 i * vLane b2 i
  | 5 => if i % 2 = 0 then ar * br + ai * bi else ai * br - ar * bi
  | _ => if i % 2 = 0 then ar * br - ai * bi else ar * bi + ai * br

/-- An accumulator after products are added, subtracted or set (R362, R363); the lanes before narrowing. -/
def accumulate (z subtract : Bool) (acc : List (BitVec 40)) (prod : Nat → Int) : List Int :=
  (List.range 32).map fun i => if z then prod i else if subtract then accLane acc i - prod i else accLane acc i + prod i

/-! ### What a slot does -/

/-- A fault of a bundle: the End of R374 and the fault address. -/
abbrev BundleFault := Nat × Nat

/-- Results of a slot: what it writes, read from the core at the bundle's start, and which registers it writes. -/
structure SlotWrite where
  /-- The writes. -/
  apply : NimbusCore → NimbusCore
  /-- V registers written. -/
  vs : List Nat
  /-- Accumulators written. -/
  accs : List Nat
  /-- P registers written. -/
  ps : List Nat

/-- A slot that writes nothing. -/
def SlotWrite.none : SlotWrite := ⟨id, [], [], []⟩

/-- A V register. -/
def vReg (c : NimbusCore) (n : Nat) : BitVec 512 := c.v.getD n 0
/-- A P register. -/
def pReg (c : NimbusCore) (n : Nat) : Word32 := c.p.getD n 0

/-- A V register takes lanes narrowed to 16 bits; OV is set where one exceeded them (R366). -/
def writeV (n : Nat) (sat : Bool) (l : List Int) : NimbusCore → NimbusCore := fun c =>
  { c with v := c.v.set n (ofLanes (l.map (narrow sat 16))), ov := c.ov || l.any (exceeds 16) }

/-- An accumulator takes lanes narrowed to 40 bits; OV likewise. -/
def writeAcc (n : Nat) (sat : Bool) (l : List Int) : NimbusCore → NimbusCore := fun c =>
  { c with acc := c.acc.set n (l.map fun x => BitVec.ofInt 40 (narrow sat 40 x)), ov := c.ov || l.any (exceeds 40) }

/-- A P register takes a value. -/
def writeP (n : Nat) (x : Word32) : NimbusCore → NimbusCore := fun c => { c with p := c.p.set n x }

/-- An address advanced under the circular rule of P0 to P7 with LENn non-zero (R364, R367). -/
def circular (c : NimbusCore) (n : Nat) (step : Int) : Word32 :=
  let p := pReg c n
  let base := c.base.getD n 0
  let len := (c.len.getD n 0).toNat
  if 8 ≤ n ∨ len = 0 then p + BitVec.ofInt 32 step
  else base + BitVec.ofInt 32 ((p + BitVec.ofInt 32 step - base).toInt % (len : Int))

/-- A data access at an address outside data memory, or misaligned (R367). -/
def dataBad (a align size : Nat) : Bool := a % align != 0 || decide (0x80000 < a + size)

/-- The fields of a slot A word (R362). -/
structure SlotA where
  /-- GRP. -/
  grp : Nat
  /-- S. -/
  sat : Bool
  /-- OP. -/
  op : Nat
  /-- A. -/
  a : Nat
  /-- B. -/
  b : Nat
  /-- K. -/
  k : Nat
  /-- ACC. -/
  acc : Nat
  /-- C. -/
  c : Bool
  /-- PN. -/
  pn : Nat
  /-- Z. -/
  z : Bool

/-- A slot A word split into its fields. -/
def slotA (w : Word32) : SlotA :=
  let n := w.toNat
  ⟨n / 2 ^ 30, bit n 29, n / 2 ^ 24 % 32, n / 2 ^ 19 % 32, n / 2 ^ 14 % 32, n / 2 ^ 9 % 32, n / 2 ^ 6 % 8, bit n 5,
    n / 2 % 16, bit n 0⟩

/-- A slot A word is a reserved encoding: an unassigned operation, or a field its row does not use is not zero (R362, R363). -/
def slotAReserved (f : SlotA) : Bool :=
  match f.grp with
  | 0 => f.op == 0 || decide (3 < f.op) || f.k != 0 || f.acc != 0 || f.c || f.pn != 0 || f.z
  | 1 => !([0, 1, 2, 4, 5, 6].contains f.op) || f.k != 0 || f.c || f.pn != 0
      || (f.op == 2 && (f.a % 2 != 0 || f.b % 2 != 0))
  | 2 => f.op != 0 || f.b != 0 || f.k != 0 || f.c
  | _ => f.op != 0 || (f.c && decide (15 < f.k))

/-- Sample size of FTAP in bytes. -/
def sampleSize (f : SlotA) : Nat := if f.c then 4 else 2

/-- FTAP: a tap is applied, the delay line moves on and takes a sample, and PN advances (R364). -/
def execFtap (f : SlotA) (c : NimbusCore) : Except BundleFault SlotWrite :=
  let addr := (pReg c f.pn).toNat
  let size := sampleSize f
  if dataBad addr size size then .error (2, addr)
  else
    let va := vReg c f.a
    let vb := vReg c f.b
    let tr := vLane vb (2 * f.k)
    let ti := vLane vb (2 * f.k + 1)
    let prod (i : Nat) : Int :=
      if f.c then
        let ar := vLane va (i / 2 * 2)
        let ai := vLane va (i / 2 * 2 + 1)
        if i % 2 = 0 then ar * tr - ai * ti else ar * ti + ai * tr
      else vLane va i * vLane vb f.k
    let sample := leNat (Cells.readAll c.dmem addr size)
    let moved := BitVec.ofNat 512 (va.toNat / 2 ^ (8 * size) + sample * 2 ^ (512 - 8 * size))
    let lines := accumulate f.z false (c.acc.getD f.acc []) prod
    .ok ⟨fun d => writeP f.pn (circular c f.pn (size : Int))
        (writeAcc f.acc f.sat lines { d with v := d.v.set f.a moved }), [f.a], [f.acc], [f.pn]⟩

/-- Slot A (R362 to R366). -/
def execSlotA (w : Word32) (c : NimbusCore) : Except BundleFault SlotWrite :=
  let f := slotA w
  if w = 0 then .ok .none
  else if slotAReserved f then .error (4, c.pc)
  else
    let a := vReg c f.a
    let b := vReg c f.b
    match f.grp with
    | 0 =>
      let l := (List.range 32).map fun i =>
        match f.op with
        | 1 => vLane a i + vLane b i
        | 2 => vLane a i - vLane b i
        | _ => roundEven (vLane a i * vLane b i) 15
      .ok ⟨writeV f.a f.sat l, [f.a], [], []⟩
    | 1 =>
      let l := accumulate f.z (f.op == 1 || f.op == 6) (c.acc.getD f.acc [])
        (macProduct f.op a b (vReg c (f.a + 1)) (vReg c (f.b + 1)))
      .ok ⟨writeAcc f.acc f.sat l, [], [f.acc], []⟩
    | 2 =>
      let l := (List.range 32).map fun i => roundEven (accLane (c.acc.getD f.acc []) i) (w.toNat % 32)
      .ok ⟨writeV f.a f.sat l, [f.a], [], []⟩
    | _ => execFtap f c

/-! ### Slot B (R367 to R369) -/

/-- How a bundle leaves the flow of control. -/
inductive Flowing where
  /-- To the next bundle. -/
  | on
  /-- To a byte address. -/
  | jump (a : Nat)
  /-- A loop level starts. -/
  | loop (l : Loop)
  /-- A body with a count of 0 is skipped: its end bundle is passed as if the last pass had ended. -/
  | skip (last : Nat)
  /-- HALT. -/
  | halt

/-- The signed 13-bit immediate of the VLD row. -/
def slotBImm (n : Nat) : Int := toSigned 13 (n % 2 ^ 13)

/-- Bits of a number of `k` bits reversed. -/
def bitReverse (k n : Nat) : Nat := bitsNat ((List.range k).map fun i => bit n (k - 1 - i))

/-- The address and the post-modified P register of an addressing mode; none where it is a reserved encoding (R367). -/
def addressing (n : Nat) (c : NimbusCore) : Option (Nat × Option Word32) :=
  let pn := n / 2 ^ 19 % 16
  let mm := c.m.getD (n / 2 ^ 13 % 8) 0
  let p := pReg c pn
  let imm := slotBImm n
  let len := (c.len.getD pn 0).toNat
  match n / 2 ^ 16 % 8 with
  | 0 => some ((p + BitVec.ofInt 32 imm).toNat, none)
  | 1 => some (p.toNat, some (p + BitVec.ofInt 32 imm))
  | 2 => some (p.toNat, some (p + mm))
  | 3 => if 8 ≤ pn then none else some (p.toNat, some (circular c pn mm.toInt))
  | 4 =>
    if 8 ≤ pn || len == 0 || len != 2 ^ len.log2 then none
    else
      let k := len.log2
      let sum := bitReverse k (p.toNat % len) + bitReverse k (mm.toNat % len)
      some (p.toNat, some (BitVec.ofNat 32 (p.toNat / len * len + bitReverse k (sum % len))))
  | _ => none

/-- The write of a post-modified P register. -/
def postWrite (n : Nat) (q : Option Word32) : SlotWrite :=
  match q with
  | some x => ⟨writeP (n / 2 ^ 19 % 16) x, [], [], [n / 2 ^ 19 % 16]⟩
  | none => .none

/-- Two sets of writes together. -/
def bothWrites (a b : SlotWrite) : SlotWrite :=
  ⟨fun c => b.apply (a.apply c), a.vs ++ b.vs, a.accs ++ b.accs, a.ps ++ b.ps⟩

/-- Bytes stored from an address. -/
def storeBytes (a : Nat) (b : Bytes) : SlotWrite := ⟨fun c => { c with dmem := Cells.writeAll c.dmem a b }, [], [], []⟩

/-- VLD and VST (R367). -/
def execVector (n : Nat) (load : Bool) (c : NimbusCore) : Except BundleFault (SlotWrite × Flowing) :=
  let v := n / 2 ^ 23 % 32
  match addressing n c with
  | none => .error (4, c.pc)
  | some (a, q) =>
    if dataBad a 4 64 then .error (2, a)
    else
      let w := if load then
          ⟨fun d => { d with v := d.v.set v (BitVec.ofNat 512 (leNat (Cells.readAll c.dmem a 64))) }, [v], [], []⟩
        else storeBytes a (leBytes 64 (vReg c v).toNat)
      .ok (bothWrites w (postWrite n q), .on)

/-- Scalar loads and stores (R367, R369); which one a word names is left open. -/
def execScalar (w : Word32) (c : NimbusCore) : Except BundleFault (SlotWrite × Flowing) :=
  match Config.scalarOp w, addressing w.toNat c with
  | some (store, k, signed, r), some (a, q) =>
    let size := 2 ^ (k % 3)
    let r := r % 16
    if dataBad a size size then .error (2, a)
    else
      let x := leNat (Cells.readAll c.dmem a size)
      let load : SlotWrite := ⟨writeP r (if signed then BitVec.ofInt 32 (toSigned (8 * size) x) else BitVec.ofNat 32 x), [], [], [r]⟩
      .ok (bothWrites (if store then storeBytes a (leBytes size (pReg c r).toNat) else load) (postWrite w.toNat q), .on)
  | _, _ => .error (4, c.pc)

/-- Address arithmetic on P and M (R369); which operation a word names is left open. -/
def execAddress (w : Word32) (c : NimbusCore) : Except BundleFault (SlotWrite × Flowing) :=
  match Config.addressDest w with
  | none => .error (4, c.pc)
  | some (true, r) => .ok (⟨fun d => { d with m := d.m.set (r % 8) (Config.addressValue w c.p c.m) }, [], [], []⟩, .on)
  | some (false, r) => .ok (⟨writeP (r % 16) (Config.addressValue w c.p c.m), [], [], [r % 16]⟩, .on)

/-- A branch (R368, R369): a fault in the end bundle of a body, out of a body, or outside instruction memory. -/
def execBranch (w : Word32) (c : NimbusCore) : Except BundleFault (SlotWrite × Flowing) :=
  let t := Config.branchTarget w c.pc
  let inBody := match c.loops with
    | [] => true
    | l :: _ => decide (l.first ≤ t) && decide (t ≤ l.last)
  match Config.branchOp w with
  | none => .error (4, c.pc)
  | some nonzero =>
    if c.loops.any (fun l => l.last == c.pc) || !inBody || decide (65528 < t) || t % 8 != 0 then .error (6, c.pc)
    else .ok (.none, if (pReg c (w.toNat / 2 ^ 19 % 16) != 0) == nonzero then .jump t else .on)

/-- STW (R360). -/
def stwOf (c : NimbusCore) : Word32 := BitVec.ofNat 32 (b2n c.ov + 2 * c.loops.length)

/-- MVC to and from STW, BASEn and LENn (R360, R369); which a word names is left open. Only OV of STW is written. -/
def execMvc (w : Word32) (c : NimbusCore) : Except BundleFault (SlotWrite × Flowing) :=
  match Config.mvcOp w with
  | none => .error (4, c.pc)
  | some (toVector, k, r, p) =>
    let r := r % 8
    let p := p % 16
    let x := pReg c p
    if toVector then
      let f : NimbusCore → NimbusCore := fun d => match k with
        | 0 => { d with ov := x.getLsbD 0 }
        | 1 => { d with base := d.base.set r x }
        | _ => { d with len := d.len.set r x }
      .ok (⟨f, [], [], []⟩, .on)
    else
      let y := match k with | 0 => stwOf c | 1 => c.base.getD r 0 | _ => c.len.getD r 0
      .ok (⟨writeP p y, [], [], [p]⟩, .on)

/-- LOOP (R368): a fifth level, or a body that does not end within the one enclosing it, is a loop fault, as is a count of a P register
above 65,535 (log entry 19); a count of 0 skips the body. -/
def execLoop (n : Nat) (c : NimbusCore) : Except BundleFault (SlotWrite × Flowing) :=
  let count := if bit n 27 then (pReg c (n / 2 ^ 23 % 16)).toNat else n / 2 ^ 11 % 2 ^ 16
  let last := c.pc + 8 * (n % 2 ^ 11)
  if n % 2 ^ 11 = 0 then .error (4, c.pc)
  else if 65535 < count || decide (4 ≤ c.loops.length) || (c.loops.head?.any fun l => decide (l.last < last)) then
    .error (5, c.pc)
  else if count = 0 then .ok (.none, .skip last)
  else .ok (.none, .loop ⟨c.pc + 8, last, count⟩)

/-- Slot B (R367 to R369). -/
def execSlotB (w : Word32) (c : NimbusCore) : Except BundleFault (SlotWrite × Flowing) :=
  if w = 0 then .ok (.none, .on)
  else match w.toNat / 2 ^ 28 with
    | 1 => execVector w.toNat true c
    | 2 => execVector w.toNat false c
    | 3 => execScalar w c
    | 4 => execAddress w c
    | 5 => execBranch w c
    | 6 => execLoop w.toNat c
    | 7 => execMvc w c
    | 15 => if w = 0xF0000000 then .ok (.none, .halt) else .error (4, c.pc)
    | _ => .error (4, c.pc)

/-! ### Bundles (R361, R368) -/

/-- A slot B word is a load: it uses the load port (R361). -/
def slotBLoads (w : Word32) : Bool :=
  w.toNat / 2 ^ 28 == 1 || (w.toNat / 2 ^ 28 == 3 && (Config.scalarOp w).any fun x => !x.1)

/-- Both slots use the load port: FTAP beside a load, a bundle conflict (R361). -/
def portConflict (wa wb : Word32) : Bool := wa.toNat / 2 ^ 30 == 3 && slotBLoads wb

/-- Both slots write one register, a bundle conflict (R361). -/
def writeConflict (a b : SlotWrite) : Bool :=
  a.vs.any b.vs.contains || a.accs.any b.accs.contains || a.ps.any b.ps.contains

/-- Exhausted loop levels end (R368). -/
def expireLoops (c : NimbusCore) : NimbusCore := { c with loops := c.loops.filter fun l => l.left != 0 }

/-- The end bundle of loop levels, innermost first: a level with passes left begins its next one, an exhausted one lets the
bundle's successor through (R368). -/
def endBundle (at_ : Nat) : List Loop → List Loop × Option Nat
  | [] => ([], none)
  | l :: r =>
    if l.last != at_ then (l :: r, none)
    else if 1 < l.left then ({ l with left := l.left - 1 } :: r, some l.first)
    else
      let t := endBundle at_ r
      ({ l with left := 0 } :: t.1, t.2)

/-- The core after the flow of control of a bundle at an address. -/
def advance (at_ : Nat) (f : Flowing) (c : NimbusCore) : NimbusCore :=
  match f with
  | .jump a => { c with pc := a }
  | .skip last =>
    let t := endBundle last c.loops
    { c with loops := t.1, pc := t.2.getD (last + 8) }
  | .loop l => { c with loops := l :: c.loops, pc := at_ + 8 }
  | _ =>
    let t := endBundle at_ c.loops
    { c with loops := t.1, pc := t.2.getD (at_ + 8) }

/-- One bundle: the core after it and whether it halted, or a fault with nothing written. A bundle past the end of instruction
memory is a branch fault; of several faults in one bundle a reserved encoding is named first, then the load port, then a memory fault (log
entry 19). -/
def runBundle (c : NimbusCore) : Except BundleFault (NimbusCore × Bool) :=
  let c := expireLoops c
  if 65528 < c.pc then .error (6, c.pc)
  else
    let wa := BitVec.ofNat 32 (leNat (Cells.readAll c.imem c.pc 4))
    let wb := BitVec.ofNat 32 (leNat (Cells.readAll c.imem (c.pc + 4) 4))
    match execSlotA wa c, execSlotB wb c with
    | .error (4, _), _ => .error (4, c.pc)
    | _, .error (4, _) => .error (4, c.pc)
    | x, y =>
      if portConflict wa wb then .error (3, c.pc)
      else match x, y with
        | .ok a, .ok (b, f) =>
          if writeConflict a b then .error (3, c.pc)
          else .ok (advance c.pc f (a.apply (b.apply c)), match f with | .halt => true | _ => false)
        | .error e, .error g => .error (if e.1 = 2 then e else g)
        | .error e, _ => .error e
        | _, .error g => .error g

/-! ### Kernels (R359, R370 to R374) -/

/-- EV_DSP_KERNEL_FAULT's payload (R375). -/
def kernelFaultPayload (slot core end_ id addr cycles : Nat) : Bytes :=
  leBytes 1 slot ++ leBytes 1 core ++ leBytes 1 end_ ++ leBytes 1 0 ++ leBytes 2 id ++ leBytes 2 0 ++ leBytes 4 addr
    ++ leBytes 4 cycles

/-- The kernel on a Nimbus core ends (R374): at HALT its output is written to the host, at any other end nothing is and
EV_DSP_KERNEL_FAULT is raised; its command completes with ST_OK, the core's memory is zeroed and the core is free (R359). -/
def endKernel (n end_ addr : Nat) (s : State) : State :=
  let c := nimbus n s
  match c.run with
  | none => s
  | some k =>
    let wrote := if end_ = 0 then k.outLen else 0
    let s := if wrote = 0 then s else emit (.dma k.host (Cells.readAll c.dmem k.outAddr wrote)) s
    let s := releaseCore (16 + n) (setNimbus n .reset s)
    let s := if end_ = 0 then s else raise 0x0B01 (kernelFaultPayload k.slot n end_ k.id addr c.cycles) s
    match findOwn 0x0B02 (k.via, k.tag) s with
    | none => s
    | some a =>
      endAsync a ST.ok (leBytes 1 end_ ++ leBytes 1 n ++ leBytes 1 (b2n c.ov) ++ leBytes 1 0 ++ leBytes 4 c.cycles
        ++ leBytes 4 (if end_ = 0 then 0 else addr) ++ leBytes 4 wrote) s

/-- A Nimbus core can issue: it runs a kernel with cycles left, is powered and not halted. -/
def issues (n : Nat) (s : State) : Bool :=
  powered 7 s && !s.tds.halted.contains (24 + n)
    && ((nimbus n s).run.any fun k => decide ((nimbus n s).cycles < k.limit))

/-- A core issues one bundle (R361). -/
def bundleIssue (n : Nat) (s : State) : State :=
  let c := nimbus n s
  if 3 < n || !issues n s then s
  else
    let c := { c with cycles := c.cycles + 1 }
    match runBundle c with
    | .ok (d, halted) => if halted then endKernel n 0 0 (setNimbus n d s) else setNimbus n d s
    | .error e => endKernel n e.1 e.2 (setNimbus n c s)

/-- BUNDLE_ISSUE (R361). -/
def execBundleIssue (core : Nat) (s : State) : Host.Outcome State Fault Refusal :=
  .next (bundleIssue core (start s))

/-- KERNEL_CYCLE_LIMIT (R374). -/
def execKernelCycleLimit (core : Nat) (s : State) : Host.Outcome State Fault Refusal :=
  .next (let s := start s
    let c := nimbus core s
    if core ≤ 3 && c.run.any fun k => decide (k.limit ≤ c.cycles) then endKernel core 1 c.pc s else s)

/-- LOOP_COUNT_EXPIRY (R368): exhausted loop levels of a core end. -/
def execLoopCountExpiry (core : Nat) (s : State) : Host.Outcome State Fault Refusal :=
  .next (let s := start s
    if core ≤ 3 then setNimbus core (expireLoops (nimbus core s)) s else s)

/-- A DSP_RUN's item starts on a core (R373): memories zeroed, code, data, parameters and input placed, registers set (R370);
from here SYS_ABORT finds nothing to abort, and the capture buffer is free. -/
def startKernel (n slot : Nat) (via : Via) (tag : Nat) (s : State) : State :=
  match Tab.look s.dsp.kernels slot, findOwn 0x0B02 (via, tag) s with
  | some k, some a =>
    let p := a.payload
    let input := if bit (rd p 1 1) 0 then
        fit (rd p 8 4) (((Tab.look s.dsp.buffers (rd p 2 1)).getD []).drop (rd p 4 4)) else []
    let d := Cells.writeAll [] k.dataAddr k.data
    let d := Cells.writeAll d 0x7C000 (fit 256 (field p 40 (rd p 36 2)))
    let d := Cells.writeAll d (rd p 12 4) input
    let regs := (((List.replicate 16 (0 : Word32)).set 13 (BitVec.ofNat 32 (rd p 16 4))).set 14
      (BitVec.ofNat 32 (rd p 12 4))).set 15 0x7C000
    let c : NimbusCore := { NimbusCore.reset with
      imem := Cells.writeAll [] 0 k.code, dmem := d, p := regs, pc := k.entry
      run := some ⟨slot, k.id, via, tag, rd p 16 4, rd p 20 4, rd p 24 8, rd p 32 4⟩ }
    passPoint 0x0B02 (fun x => x == a) (setNimbus n c
      (onDsp (fun d => { d with locked := if bit (rd p 1 1) 0 then d.locked.erase (rd p 2 1) else d.locked }) s))
  | _, _ => releaseCore (16 + n) s

/-! ### Commands (R371 to R374) -/

/-- DSP_RUN items of a slot are queued or in service (R372). -/
def kernelBusy (slot : Nat) (s : State) : Bool :=
  let of (i : WorkItem) : Bool := match i.work with | .kernel n _ _ => n == slot | _ => false
  s.tds.items.any of || s.tds.service.any fun x => of x.item

/-- The completion payload of DSP_LOAD_KERNEL. -/
def kernelPayload (slot : Nat) (s : State) : Bytes :=
  match Tab.look s.dsp.kernels slot with
  | some k => leBytes 1 slot ++ leBytes 1 0 ++ leBytes 2 k.id ++ leBytes 4 k.version ++ leBytes 4 k.code.length
      ++ leBytes 4 k.data.length
  | none => leBytes 1 slot ++ leBytes 15 0

/-- An image's header fields out of range (R371). -/
def imageBad (b : Bytes) : Bool :=
  let code := rd b 12 4
  let data := rd b 16 4
  rd b 0 4 != 0x4B4E4C5A || rd b 4 2 != 1 || code % 8 != 0 || decide (code < 8) || decide (58128 < code)
    || decide (58128 < data) || decide (58128 < code + data) || rd b 20 4 % 64 != 0 || decide (0x7C000 < rd b 20 4 + data)
    || rd b 24 4 % 8 != 0 || decide (code ≤ rd b 24 4)

/-- Another slot holds the same kernel ID at a higher version (R372). -/
def kernelNewer (slot : Nat) (b : Bytes) (s : State) : Bool :=
  s.dsp.kernels.any fun e => e.1 != slot && e.2.id == rd b 6 2 && decide (rd b 8 4 < e.2.version)

/-- DSP_LOAD_KERNEL (R372). Its lifecycle is judged at step 10, as R276 orders, though R372 lists it after the lengths (DEDUCED, log
entry 59). -/
def dspLoadKernel (u : Ump) (s : State) : Reply :=
  let op := u.b8 0
  let slot := u.b8 1
  let b := u.data.drop 8
  let locks : List Obj := if op = 2 then [] else [.kernel slot]
  judge ([short u 8, param (decide (3 < slot)), (op == 0 && s.sec.lifecycle == .blank, ST.notAuthorised),
      param (decide (2 < op)), param (op == 0 && imageBad b),
      (op == 0 && b.length != 32 + rd b 12 4 + rd b 16 4 + 7376, ST.badLength)]
      ++ gate 0x0B01 true locks s
      ++ [(op != 2 && kernelBusy slot s, ST.busy), (op == 0 && kernelNewer slot b s, ST.versionMismatch),
        (op == 0 && !u.env.sig, ST.signatureFail)]) s fun _ => pending u 0x0B01 locks s

/-- DSP_LOAD_KERNEL (R372): it ends at KERNEL_LOAD_DONE. -/
def execDspLoadKernel (m : Ump) (s : State) : Host.Outcome State Fault Refusal :=
  .next (serve 0x0B01 dspLoadKernel m s)

/-- Felt store address of a kernel slot. -/
def kernelAddr (slot : Nat) : Nat := 0x180000 + slot * 0x10000

/-- A load's image is stored, or the slot left empty where the store fails lastingly; a delete or read is done (R372). -/
def kernelLoadDone (hw : Retry) (s : State) : State :=
  match firstAsync 0x0B01 s with
  | none => s
  | some a =>
    let slot := rd a.ext 1 1
    let op := rd a.ext 0 1
    let b := a.ext.drop 8
    let k : Kernel := ⟨rd b 6 2, rd b 8 4, field b 32 (rd b 12 4), field b (32 + rd b 12 4) (rd b 16 4), rd b 20 4, rd b 24 4⟩
    let put (s : State) : State := match op with
      | 0 => onDsp (fun d => { d with kernels := Tab.put d.kernels slot k }) s
      | 1 => onDsp (fun d => { d with kernels := Tab.del d.kernels slot }) s
      | _ => s
    if op = 2 then endAsync a ST.ok (kernelPayload slot s) s
    else match hw with
      | .lasting =>
        let s := feltWrite hw (kernelAddr slot) (onDsp (fun d => { d with kernels := Tab.del d.kernels slot }) s)
        endAsync a ST.faultLasting (kernelPayload slot s) s
      | _ =>
        let s := feltWrite hw (kernelAddr slot) (put s)
        endAsync a (if hw = .retried then ST.okRetried else ST.ok) (kernelPayload slot s) s

/-- KERNEL_LOAD_DONE (R372). -/
def execKernelLoadDone (hw : Retry) (s : State) : Host.Outcome State Fault Refusal :=
  .next (kernelLoadDone hw (start s))

/-- A capture into a buffer is outstanding (R59, R373). -/
def capturing (buffer : Nat) (s : State) : Bool :=
  s.mbox.async.any fun a => a.code == 0x020B && rd a.payload 8 8 == 0 && rd a.payload 16 1 == buffer

/-- DSP_RUN's fields are out of range (R374). -/
def runBad (u : Ump) : Bool :=
  let inOff := u.b32 4
  let inLen := u.b32 8
  decide (3 < u.b8 2) || inOff % 4 != 0 || inLen % 4 != 0 || decide (507904 < inLen) || u.b32 12 % 64 != 0
    || u.b32 16 % 64 != 0 || decide (507904 < u.b32 20) || decide (0x7C000 < u.b32 12 + inLen)
    || decide (0x7C000 < u.b32 16 + u.b32 20) || decide (8388608 < inOff + inLen)
    || (u.b32 20 != 0 && u.b64 24 == 0) || badHost (u.b64 24) || u.b32 32 == 0 || decide (2560000 < u.b32 32)
    || decide (192 < u.b16 36)

/-- DSP_RUN (R373, R374). -/
def dspRun (u : Ump) (s : State) : Reply :=
  let slot := u.b8 0
  let copies := bit (u.b8 1) 0
  judge ([short u 40, short u (40 + (if u.b16 36 ≤ 192 then u.b16 36 else 0)), param (decide (3 < slot)), off 7 s,
      param (runBad u)] ++ gate 0x0B02 true [] s
      ++ [(locked (.kernel slot) s || locked (.bist 1) s || (copies && capturing (u.b8 2) s), ST.busy), (classFull 12 s, ST.noResource),
        ((Tab.look s.dsp.kernels slot).isNone, ST.keyAbsent)]) s fun _ =>
    pend (queueItem 12 none (.kernel slot u.via u.tag)
      (onDsp (fun d => { d with locked := if copies then d.locked ++ [u.b8 2] else d.locked }) (accept u 0x0B02 [] s)))

/-- DSP_RUN (R373). -/
def execDspRun (m : Ump) (s : State) : Host.Outcome State Fault Refusal :=
  .next (serve 0x0B02 dspRun m s)

end Sys2Proof.Machine
end

