-- ==== Sys2Proof/Machine/Dispatcher.lean ====
section
/-! DEFINITION. The task dispatcher: host work items, cores, threads and core halts; and the retry of ring DMA
(R249, R345 to R357, R429). -/
namespace Sys2Proof.Machine

/-! ### Host work items (R352 to R354) -/

/-- A completion entry joins those for ring 33, and is written where the ring has room (R353, R354). -/
def complete (e : Bytes) (s : State) : State := let s := onTds (fun t => { t with hold := t.hold ++ [e] }) s
  flushHold s.tds.hold s

/-- The completion entry of an item (R354). -/
def completionEntry (cookie status cls key index bytes : Nat) (cut : Bool) (s : State) : Bytes :=
  leBytes 8 cookie ++ leBytes 2 status ++ leBytes 1 (bitsNat [true, cut]) ++ leBytes 1 cls ++ leBytes 4 key
    ++ leBytes 4 index ++ leBytes 4 bytes ++ leBytes 4 (rawTime s) ++ leBytes 4 0

/-- A host item ends: its entry is written where it is wanted, its status is not ST_OK, or every item is completed (R354). -/
def endHost (wanted : Bool) (cookie status cls key index bytes : Nat) (cut : Bool) (s : State) : State :=
  if wanted || status != ST.ok || bit s.tds.flags 1 then
    complete (completionEntry cookie status cls key index bytes cut s) s
  else onTds (fun t => { t with inFlight := t.inFlight - 1 }) s

/-- Consumption stops, or goes on; the time it was stopped is counted (R353, R356). -/
def stopConsuming (stopped : Bool) (s : State) : State :=
  onTds (fun t => match stopped, t.stoppedAt with
    | true, none => { t with stoppedAt := some (runTime s) }
    | false, some a => { t with stoppedAt := none, stoppedNs := t.stoppedNs + (runTime s - a) }
    | _, _ => t) s

/-- A work item read from ring 32 is checked and queued, or completed at once (R353). -/
def consumeItem (e payload : Bytes) (s : State) : State :=
  let index := (ring 32 s).cons
  let cls := if rd e 2 1 = 0 then s.tds.cls else rd e 2 1
  let flags := rd e 3 1
  let key := rd e 4 4 % 2 ^ 18
  let bad := rd e 0 2 != 1 || (cls != 5 && cls != 6)
  if !bad && classFull cls s then stopConsuming true s
  else
    let s := stopConsuming false s
    let s := onRing 32 (fun q => { q with cons := inc 32 q.cons }) s
    let s := onTds (fun t => { t with consumed := inc 64 t.consumed, inFlight := t.inFlight + 1 }) s
    if bad then
      endHost (bit flags 1) (rd e 40 8) ST.badParam cls (rd e 4 4) index 0 false
        (onTds (fun t => { t with bad := inc 32 t.bad }) s)
    else
      queueItem cls (if bit flags 0 then none else some key)
        (.host (rd e 8 2) (rd e 10 2) (rd e 12 4) payload (bit flags 2) (bit flags 1) (rd e 4 4) (rd e 24 8) (rd e 32 4)
          (rd e 40 8) index) s

/-- Consumption may go on: ring 32 runs, host work is enabled and an item is posted (R353, R355). -/
def mayConsume (s : State) : Bool :=
  ringRuns 32 s && bit s.tds.flags 0 && (ring 32 s).prod != (ring 32 s).cons && !dmaWaits 32 s && powered 2 s

/-- WORK_ITEM_CONSUME (R353): `fail` says that the read of the item first ended in an error. -/
def execWorkItemConsume (entry payload : Bytes) (fail : Bool) (s : State) : Host.Outcome State Fault Refusal :=
  .next (let s := start s
    if !mayConsume s then s
    else if s.tds.limit ≤ s.tds.inFlight then stopConsuming true s
    else if fail then awaitDma 32 true (ring 32 s).cons s
    else consumeItem entry payload s)

/-- The handler of a command a host work item may run, and whether its response payload is written (R352). -/
def hostHandler (code : Nat) (payload : Bytes) : Option ((Ump → State → Reply) × Bool) :=
  match code with
  | 0x0602 => some (fwdRouteSet, rd payload 0 1 == 2)
  | 0x0603 => some (fwdAclSet, rd payload 2 1 == 2)
  | 0x0605 => some (fwdFlowQuery, true)
  | _ => none

/-- A host work item runs its command by steps 7 to 15 of R276 and completes (R352, R354); a result write that fails lastingly
completes with ST_FAULT_LASTING (R249, R277). -/
def runHost (cls code len crc : Nat) (payload : Bytes) (force wanted : Bool) (key result limit cookie index : Nat)
    (wr : Retry) (s : State) : State :=
  let fin (status n : Nat) (cut : Bool) (s : State) : State := endHost wanted cookie status cls key index n cut s
  match hostHandler code payload with
  | none => fin ST.badCmd 0 false s
  | some (h, writes) =>
    if 256 < len then fin ST.badLength 0 false s
    else if payload.length != len || crc32c payload != crc then fin ST.badCrc 0 false s
    else
      let r := h { via := .pcie 0, flags := b2n force, length := len, payload := payload } s
      let data := if writes && r.status == ST.ok && result != 0 then r.data else []
      let out := data.take limit
      let cut := decide (limit < data.length)
      if data.isEmpty then fin r.status 0 false r.st
      else match wr with
        | .ok => fin r.status out.length cut (emit (.dma result out) r.st)
        | .retried => fin ST.okRetried out.length cut (dmaFault wr code 0 (emit (.dma result out) r.st))
        | .lasting => fin ST.faultLasting 0 false (dmaFault wr code 0 r.st)

/-! ### Cores (R347, R349) -/

/-- The number of a core in EV_SYS_FW_HALT: packet cores 0 to 15 are 8 to 23, Nimbus cores 16 to 19 are 24 to 27 (R429). -/
def haltNumber (core : Nat) : Nat := core + 8

/-- A core can be given work: it is free, powered and not halted. -/
def coreFree (core : Nat) (s : State) : Bool :=
  decide (core < 20) && (served core s).isNone && powered (if core < 16 then 2 else 7) s
    && !s.tds.halted.contains (haltNumber core)

/-- A free core is given the item chosen for it (R347). -/
def startItem (core : Nat) (s : State) : State :=
  if !coreFree core s then s
  else match chooseItem (coreGroup core) s with
    | none => s
    | some i =>
      let s := onTds (fun t => { t with items := t.items.erase i, service := t.service ++ [⟨core, i, runTime s⟩] }) s
      let s := settleClass i.cls (onClass i.cls (fun c =>
        { c with peakWait := max c.peakWait ((runTime s - i.queuedAt) / 1000) }) s)
      match i.work with
      | .kernel slot via tag => startKernel (core - 16) slot via tag s
      | _ => s

/-- WORK_ITEM_START (R347). -/
def execWorkItemStart (core : Nat) (s : State) : Host.Outcome State Fault Refusal :=
  .next (startItem core (start s))

/-- A station's precoder computed from its report is valid, under the next number; without one the last valid one serves on (R27, R66).
A PPDU already fixed keeps the set of its fix point. -/
def newPrecoder (h : Nat) (ok : Bool) (s : State) : State :=
  if ok then onStation h (fun x => { x with precoder := true, precoderSet := x.precoderSet + 1 }) s else s

/-- The item in service on a core ends with its work done; its key is released (R349). A flow setup still to end, and a kernel
still to end, keep their core. -/
def endItem (core : Nat) (wr : Retry) (s : State) : State :=
  match served core s with
  | none => s
  | some x =>
    if s.tds.halted.contains (haltNumber core) then s
    else match x.item.work with
      | .host code len crc payload force wanted key result limit cookie index =>
        runHost x.item.cls code len crc payload force wanted key result limit cookie index wr (releaseCore core s)
      | .flow t => if s.wire.held.any fun h => h.key == t then s else releaseCore core s
      | .frame f why => serveFrame f why (releaseCore core s)
      | .firmware => releaseCore core s
      | .precoder h ok => newPrecoder h ok (releaseCore core s)
      | .kernel _ _ _ => s

/-- WORK_ITEM_END (R349): `wr` is what came of the write of a host item's result. -/
def execWorkItemEnd (core : Nat) (wr : Retry) (s : State) : Host.Outcome State Fault Refusal :=
  .next (endItem core wr (start s))

/-! ### The retry of ring DMA (R249, R262) -/

/-- The oldest ring DMA that ended in an error is retried: it goes on as a transient fault, or fails lastingly. -/
def dmaRetry (ok : Bool) (entry data : Bytes) (s : State) : State :=
  match s.dma with
  | [] => s
  | d :: r =>
    let s := { s with dma := r }
    let s := retryRecord (if ok then .retried else .lasting) 0x00C5 (leBytes 2 d.ring) false s
    if !(ring d.ring s).enable && d.entry then onRing d.ring (fun q => { q with inProgress := false, idle := true }) s
    else if d.ring < 16 then
      let s := onRing d.ring (fun q => { q with inProgress := false }) s
      if ok then puntFill d.ring entry s
      else if d.entry then ringStop d.ring 2 d.index s
      else dropPunt d.ring (onRing d.ring (fun q => { q with drops := inc 16 q.drops }) s)
    else if d.ring < 32 then
      if d.entry then
        (if ok then injectFrame d.ring d.index entry data (injectOpen d.ring entry s) else ringStop d.ring 2 d.index s)
      else
        let e := (((ring d.ring s).open_.find? fun x => x.1 == d.index).map Prod.snd).getD entry
        if ok then injectFrame d.ring d.index e data s else injectDone d.ring d.index 19 s
    else
      let s := onRing d.ring (fun q => { q with inProgress := false }) s
      if ok then consumeItem entry data s
      else onTds (fun t => { t with ringStops := inc 32 t.ringStops }) (ringStop d.ring 2 d.index s)

/-- DMA_RETRY (R249): the entry and the frame, buffer or payload as the retry reads them. -/
def execDmaRetry (ok : Bool) (entry data : Bytes) (s : State) : Host.Outcome State Fault Refusal :=
  .next (dmaRetry ok entry data (start s))

/-! ### Commands (R355, R356) -/

/-- The settings of TDS_SET_HOST_RING in force. -/
def hostRingReply (op : Nat) (s : State) : Reply :=
  reply (leBytes 1 op ++ leBytes 1 s.tds.flags ++ leBytes 2 s.tds.limit ++ leBytes 1 s.tds.cls ++ leBytes 3 0) s

/-- TDS_SET_HOST_RING (R355). -/
def tdsSetHostRing (u : Ump) (s : State) : Reply :=
  let op := u.b8 0
  let g := gate 0x0B03 false [] s
  judge [shortOp u 0 1 8, param (decide (1 < op))] s fun _ =>
    if op = 0 then judge g s fun _ => hostRingReply op s
    else
      judge (param (decide (u.b16 2 < 64) || decide (16384 < u.b16 2) || (u.b8 4 != 5 && u.b8 4 != 6)) :: g
          ++ [((ring 32 s).enable, ST.badState)]) s fun _ =>
        hostRingReply op (onTds (fun t => { t with flags := u.b8 1 % 4, limit := u.b16 2, cls := u.b8 4 }) s)

/-- TDS_SET_HOST_RING (R355). -/
def execTdsSetHostRing (m : Ump) (s : State) : Host.Outcome State Fault Refusal :=
  .next (serve 0x0B03 tdsSetHostRing m s)

/-- Time a class has been full, ms. -/
def fullMs (c : Nat) (s : State) : Nat :=
  let x := classStats c s
  (x.fullNs + (match x.full with | some t => runTime s - t | none => 0)) / 1000000 % 2 ^ 32

/-- Page 0 of TDS_GET_STATS (R356). The producer of a class is stopped while it is full. -/
def classPage (c : Nat) (s : State) : Bytes :=
  let x := classStats c s
  leBytes 1 c ++ leBytes 1 (bitsNat [x.full.isSome, x.full.isSome]) ++ leBytes 2 0 ++ leBytes 4 (classDepth c s)
    ++ leBytes 4 x.peak ++ leBytes 4 (s.tds.service.filter fun i => i.item.cls == c).length ++ leBytes 8 x.queued
    ++ leBytes 8 x.ended ++ leBytes 4 x.refusals ++ leBytes 4 (fullMs c s) ++ leBytes 4 x.keyWaits ++ leBytes 4 x.peakWait
    ++ leBytes 4 x.peakService ++ leBytes 4 x.airDrops ++ leBytes 4 x.discarded

/-- A thread group. -/
def threadGroup (g : Nat) (s : State) : ThreadGroup := Tab.getD s.tds.groups g .reset

/-- A thread group changed by a function. -/
def onGroup (g : Nat) (f : ThreadGroup → ThreadGroup) (s : State) : State :=
  onTds (fun t => { t with groups := Tab.put t.groups g (f (threadGroup g s)) }) s

/-- Threads of a group: ready ones and running ones. -/
def threadCount (x : ThreadGroup) : Nat := x.ready.length + b2n x.run0.isSome + b2n x.run1.isSome

/-- One record of page 1. -/
def groupRecord (g : Nat) (s : State) : Bytes :=
  let x := threadGroup g s
  leBytes 2 (threadCount x) ++ leBytes 2 x.ready.length ++ leBytes 4 x.peak ++ leBytes 4 x.switches ++ leBytes 4 0

/-- Page 2. -/
def ringPage (s : State) : Bytes :=
  let t := s.tds
  let ns := t.stoppedNs + (match t.stoppedAt with | some a => runTime s - a | none => 0)
  leBytes 8 t.consumed ++ leBytes 8 t.completions ++ leBytes 4 t.inFlight ++ leBytes 4 (ns / 1000000) ++ leBytes 4 t.bad
    ++ leBytes 4 t.ringStops

/-- Peaks of a page are cleared. -/
def clearPeaks (page c : Nat) (s : State) : State :=
  match page with
  | 0 => onClass c (fun x => { x with peak := 0, peakWait := 0, peakService := 0 }) s
  | 1 => [0, 1, 2, 3].foldl (fun t g => onGroup g (fun x => { x with peak := 0 }) t) s
  | _ => s

/-- TDS_GET_STATS (R356). -/
def tdsGetStats (u : Ump) (s : State) : Reply :=
  let page := u.b8 0
  let c := u.b8 1
  judge ([short u 4, param (decide (2 < page)), param (page == 0 && decide (12 < c))] ++ gate 0x0B04 false [] s) s fun _ =>
    let data := match page with
      | 0 => classPage c s
      | 1 => ([0, 1, 2, 3].map fun g => groupRecord g s).flatten
      | _ => ringPage s
    reply data (if bit (u.b8 2) 0 then clearPeaks page c s else s)

/-- TDS_GET_STATS (R356). -/
def execTdsGetStats (m : Ump) (s : State) : Host.Outcome State Fault Refusal :=
  .next (serve 0x0B04 tdsGetStats m s)

/-! ### Threads (R345) -/

/-- The number in EV_SYS_FW_HALT of core `c` of a group: MPX 0 and 1, LC0 to LC5 from 2. -/
def groupCore (g c : Nat) : Nat := 2 * g + c

/-- A core of a group runs: its number is not halted. -/
def coreRuns (g c : Nat) (s : State) : Bool :=
  if g = 0 then !s.power.mpxHalted.getLsbD c else !s.tds.halted.contains (groupCore g c) && !s.power.limp

/-- A thread may run on a core of its group. -/
def mayRun (t : Thread) (g c : Nat) (s : State) : Bool := coreRuns g c s && t.bound.all fun b => b == c

/-- The thread running on a core of a group. -/
def runningOn (x : ThreadGroup) (c : Nat) : Option Thread := if c = 0 then x.run0 else x.run1

/-- A thread takes a core: its wait is counted where no ready thread has a higher priority (R356), and a thread it displaces becomes ready again, behind or before its equals. -/
def runThread (g c : Nat) (t : Thread) (behind : Bool) (s : State) : State :=
  onGroup g (fun x =>
    let old := (runningOn x c).map fun o => { o with readyAt := runTime s }
    let rest := x.ready.filter (· != t)
    let ready := match old with
      | some o => if behind then rest ++ [o] else o :: rest
      | none => rest
    let top := x.ready.all fun r => decide (t.priority ≤ r.priority)
    let x := { x with ready := ready, peak := if top then max x.peak (runTime s - t.readyAt) else x.peak, switches := inc 32 x.switches }
    if c = 0 then { x with run0 := some t } else { x with run1 := some t }) s

/-- The core a ready thread takes: an idle one, else the one whose thread has the lowest priority below its own (R345). -/
def coreFor (t : Thread) (g : Nat) (s : State) : Option Nat :=
  let x := threadGroup g s
  let cs := [0, 1].filter fun c => mayRun t g c s
  match cs.find? fun c => (runningOn x c).isNone with
  | some c => some c
  | none =>
    let lower := cs.filter fun c => (runningOn x c).any fun o => decide (t.priority < o.priority)
    lower.foldl (fun b c => match b with
      | none => some c
      | some d => if ((runningOn x d).map (·.priority)).getD 0 < ((runningOn x c).map (·.priority)).getD 0 then some c else b)
      none

/-- A thread becomes ready: it takes a core, pre-empting where it may, or waits (R345). A group holds 1024 threads, and every thread of a
link core is bound to it. -/
def threadReady (g id priority : Nat) (bound : Option Nat) (s : State) : State :=
  let x := threadGroup g s
  let known (t : Thread) : Bool := t.id == id
  if 3 < g || 63 < priority || 1024 ≤ threadCount x || x.ready.any known || x.run0.any known || x.run1.any known
      || (g != 0 && (s.power.limp || bound.isNone)) then s
  else
    let t : Thread := ⟨id, g, priority, bound, runTime s⟩
    match coreFor t g s with
    | some c => runThread g c t false s
    | none => onGroup g (fun x => { x with ready := x.ready ++ [t] }) s

/-- THREAD_READY (R345). -/
def execThreadReady (group id priority : Nat) (bound : Option Nat) (s : State) : Host.Outcome State Fault Refusal :=
  .next (threadReady group id priority bound (start s))

/-- A 1 ms slice ends: the first ready thread of equal priority that may run there takes the core (R345). -/
def sliceExpiry (g c : Nat) (s : State) : State :=
  let x := threadGroup g s
  match runningOn x c with
  | none => s
  | some o =>
    match x.ready.find? fun t => t.priority == o.priority && mayRun t g c s with
    | some t => runThread g c t true s
    | none => s

/-- TIME_SLICE_EXPIRY (R345). -/
def execTimeSliceExpiry (group core : Nat) (s : State) : Host.Outcome State Fault Refusal :=
  .next (sliceExpiry group core (start s))

/-! ### Core halts (R429) -/

/-- EV_SYS_FW_HALT's payload. -/
def haltPayload (core cause pc : Nat) : Bytes := leBytes 1 core ++ leBytes 1 cause ++ leBytes 2 0 ++ leBytes 4 pc

/-- A firmware core halts: recorded, named in FAULT_CODE and raised; with both MPX cores halted the halt is latched in PD_AON
and nothing is written or sent (R429). -/
def coreHalt (core cause pc : Nat) (s : State) : State :=
  let p := haltPayload core cause pc
  if 27 < core then s
  else if 2 ≤ core then
    if s.tds.halted.contains core then s
    else setFault 0x0005 p (raise 0x0005 p (onTds (fun t => { t with halted := t.halted ++ [core] }) s))
  else if s.power.mpxHalted.getLsbD core then s
  else
    let s := onPower (fun w => { w with mpxHalted := w.mpxHalted ||| BitVec.ofNat 2 (2 ^ core) }) s
    if s.power.mpxHalted = 3 then onPower (fun w => { w with mpxHalt := some (core, cause) }) s
    else setFault 0x0005 p (raise 0x0005 p s)

/-- FIRMWARE_CORE_HALT (R429). -/
def execFirmwareCoreHalt (core cause pc : Nat) (s : State) : Host.Outcome State Fault Refusal :=
  .next (coreHalt core cause pc (start s))

end Sys2Proof.Machine
end

