-- ==== Sys2Proof/Machine/Drizzle.lean ====
section
/-! DEFINITION. The low-rate radio: channels, frame exchange, coordinated sampled listening, security, flooding and its
commands (chapter 16). -/
namespace Sys2Proof.Machine

/-! ### Channels and settings (R376, R379, R397) -/

/-- The highest channel of a band and rate; none where the table has no such row (R376). -/
def drzChannels (band rate : Nat) : Option (Nat × Nat) :=
  match band, rate with
  | 0, 5 => some (11, 26)
  | 1, 1 => some (0, 33)
  | 1, 2 => some (0, 16)
  | 2, 1 => some (0, 128)
  | 2, 3 => some (0, 63)
  | 2, 4 => some (0, 63)
  | _, _ => none

/-- A channel of R376. -/
def drzChannelOk (band rate ch : Nat) : Bool :=
  match drzChannels band rate with
  | some r => decide (r.1 ≤ ch) && decide (ch ≤ r.2)
  | none => false

/-- The record a DRZ_SET_CHANNEL carries. -/
def drzChannelArgs (u : Ump) : DrzChannel :=
  ⟨u.b8 1, u.b8 2, u.b8 3, u.b16 4, u.b16 6, field u.data 8 8, rdS u.data 16 1, rdS u.data 17 1, u.b16 18, u.b8 20⟩

/-- The record is out of range (R376, R379, R397). -/
def drzChannelBad (c : DrzChannel) : Bool :=
  !drzChannelOk c.band c.rate c.channel || decide (0xFFFD < c.short)
  || decide (c.power < -20) || decide ((if c.band = 0 then 10 else 14) < c.power)
  || decide (c.cca < -95) || decide (-60 < c.cca) || c.duty == 0 || decide (1000 < c.duty)

/-- The channel record as last accepted. -/
def drzChannelBytes (op : Nat) (c : DrzChannel) : Bytes :=
  leBytes 1 op ++ leBytes 1 c.band ++ leBytes 1 c.rate ++ leBytes 1 c.channel ++ leBytes 2 c.pan ++ leBytes 2 c.short
    ++ fit 8 c.ext ++ wrS 1 c.power ++ wrS 1 c.cca ++ leBytes 2 c.duty ++ leBytes 1 c.flags ++ leBytes 3 0

/-- A command with one object is kept in the shadow once (R336). -/
def keepOne (code : Nat) (u : Ump) (s : State) : State := cfgKeepIf (fun r => r.code == code) code u.payload s

/-- DRZ_SET_CHANNEL: band, rate and channel follow at DRZ_CHANNEL_CHANGE_APPLY, the rest applies at once (R377, R397). -/
def drzSetChannel (u : Ump) (s : State) : Reply :=
  let op := u.b8 0
  let c := drzChannelArgs u
  judge ([short u 24, off 8 s, param (decide (1 < op)), param (op == 1 && drzChannelBad c)] ++ gate 0x0C01 false [] s) s
    fun _ =>
      if op = 0 then reply (drzChannelBytes op s.drz.channel) s
      else reply (drzChannelBytes op c) (keepOne 0x0C01 u (onDrz (fun d =>
        { d with channel := c
                 channelNow := { c with band := d.channelNow.band, rate := d.channelNow.rate
                                        channel := d.channelNow.channel } }) s))

/-- DRZ_SET_CHANNEL (R377). -/
def execDrzSetChannel (m : Ump) (s : State) : Host.Outcome State Fault Refusal :=
  .next (serve 0x0C01 drzSetChannel m s)

/-- DRZ_SET_CSL (R397). -/
def drzSetCsl (u : Ump) (s : State) : Reply :=
  let op := u.b8 0
  let c : DrzCsl := ⟨u.b8 1, u.b16 2, u.b16 4, u.b16 6, u.b8 8⟩
  let ms (n : Nat) : Bool := decide (10 ≤ n) && decide (n ≤ 1000)
  let bad := decide (7 < c.attempts) || (c.period != 0 && !ms c.period) || decide (c.guardBase < 50)
    || decide (2000 < c.guardBase) || !ms c.standby || decide (7 < c.retries)
  let show_ (c : DrzCsl) : Bytes := leBytes 1 op ++ leBytes 1 c.attempts ++ leBytes 2 c.period ++ leBytes 2 c.guardBase
    ++ leBytes 2 c.standby ++ leBytes 1 c.retries ++ leBytes 3 0
  judge ([short u 12, off 8 s, param (decide (1 < op)), param (op == 1 && bad)] ++ gate 0x0C02 false [] s) s fun _ =>
    if op = 0 then reply (show_ s.drz.csl) s
    else reply (show_ c) (keepOne 0x0C02 u (onDrz (fun d => { d with csl := c }) s))

/-- DRZ_SET_CSL (R382). -/
def execDrzSetCsl (m : Ump) (s : State) : Host.Outcome State Fault Refusal :=
  .next (serve 0x0C02 drzSetCsl m s)

/-- The response of DRZ_SET_MESH (R397). -/
def drzMeshBytes (op : Nat) (s : State) : Bytes :=
  let m := s.drz.mesh
  let d := s.drz
  leBytes 1 op ++ leBytes 1 m.flags ++ leBytes 1 m.ttl ++ leBytes 1 m.jitter ++ leBytes 1 m.suppression
    ++ leBytes 1 m.punt ++ leBytes 2 0 ++ leBytes 4 d.nRelayed ++ leBytes 4 d.nDup ++ leBytes 4 d.nSuppressed
    ++ leBytes 4 d.nTtl ++ leBytes 4 d.nEvicted ++ leBytes 4 d.nLearned

/-- DRZ_SET_MESH (R397). -/
def drzSetMesh (u : Ump) (s : State) : Reply :=
  let op := u.b8 0
  let c : DrzMesh := ⟨u.b8 1, u.b8 2, u.b8 3, u.b8 4, u.b8 5⟩
  let bad := c.ttl == 0 || decide (15 < c.ttl) || decide (10 < c.jitter) || decide (7 < c.suppression)
    || decide (15 < c.punt)
  judge ([short u 8, off 8 s, param (decide (1 < op)), param (op == 1 && bad)] ++ gate 0x0C03 false [] s) s fun _ =>
    let t := if op = 0 then s else keepOne 0x0C03 u (onDrz (fun d => { d with mesh := c }) s)
    reply (drzMeshBytes op t) t

/-- DRZ_SET_MESH (R391). -/
def execDrzSetMesh (m : Ump) (s : State) : Host.Outcome State Fault Refusal :=
  .next (serve 0x0C03 drzSetMesh m s)

/-! ### The node table (R383 to R385, R397) -/

/-- A node. -/
def drzNode (n : Nat) (s : State) : Option DrzNode := Tab.look s.drz.nodes n

/-- A node changed by a function. -/
def onNode (n : Nat) (f : DrzNode → DrzNode) (s : State) : State :=
  onDrz (fun d => { d with nodes := Tab.modify d.nodes n f }) s

/-- The guard of a sample at a running time, in ns: the base and 80 ppm of the time since t_ref (R384). -/
def drzGuard (s : State) (tref ts : Nat) : Nat := s.drz.csl.guardBase * 1000 + 80 * (ts - tref) / 1000000

/-- The next sample of a node at least 20 ms ahead (R384). -/
def nextSample (tref periodMs now : Nat) : Nat :=
  let p := periodMs * 1000000
  let at_ := now + 20000000
  if at_ ≤ tref then tref else tref + (at_ - tref + p - 1) / p * p

/-- A node is synchronised: it has a t_ref and a period, and its guard is at most 5 ms (R384, R385). -/
def drzSynced (n : DrzNode) (s : State) : Bool :=
  match n.tref with
  | none => false
  | some t => n.period != 0 && decide (drzGuard s t (nextSample t n.period (runTime s)) ≤ 5000000)

/-- The state of DRZ_NODE_SET Op 2. -/
def drzNodeState (n : DrzNode) (s : State) : Nat := if n.lost then 2 else if drzSynced n s then 1 else 0

/-- Bytes 0 to 19 of a node. -/
def drzNodeBytes (op i : Nat) (n : DrzNode) : Bytes :=
  leBytes 1 op ++ leBytes 1 n.flags ++ leBytes 2 i ++ beBytes 8 n.ext ++ leBytes 2 n.short ++ leBytes 2 n.key
    ++ leBytes 2 n.period ++ leBytes 2 0

/-- The response of DRZ_NODE_SET Op 2 (R397); the guard reads 0 without a t_ref (log entry 20). -/
def drzNodeRead (i : Nat) (n : DrzNode) (s : State) : Bytes :=
  drzNodeBytes 2 i n ++ leBytes 1 (drzNodeState n s) ++ leBytes 1 n.lqi ++ wrS 1 n.rssi ++ leBytes 1 0
    ++ leBytes 4 n.heard ++ leBytes 4 ((n.tref.map fun t => drzGuard s t (runTime s) / 1000).getD 0)
    ++ leBytes 4 n.counter ++ leBytes 4 n.replays ++ leBytes 4 n.mics ++ leBytes 4 n.full

/-- A frame queued or in its exchange is for a node. -/
def drzQueuedFor (i : Nat) (s : State) : Bool :=
  s.drz.queue.any (fun f => f.kind == 0 && f.node == i) || s.drz.exchange.any fun f => f.kind == 0 && f.node == i

/-- DRZ_NODE_SET (R397). -/
def drzNodeSet (u : Ump) (s : State) : Reply :=
  let op := u.b8 0
  let i := u.b16 2
  let cur := drzNode i s
  let key := u.b16 14
  let per := u.b16 16
  let bad := u.b16 12 == 0xFFFF || (key != 0xFFFF && !(keyHandleOk key && key / 8192 == 1))
    || (per != 0 && (decide (per < 10) || decide (1000 < per)))
  let g := gate 0x0C05 false [] s
  judge [short u 20, param (decide (4095 < i) || (op != 0 && cur.isNone)), off 8 s, param (decide (2 < op))] s fun _ =>
    match op with
    | 0 =>
      judge (param bad :: g ++ [(cur.isNone && decide (4096 ≤ s.drz.nodes.length), ST.noResource)]) s fun _ =>
        let n : DrzNode := cur.getD ⟨0, 0, 0xFFFE, 0xFFFF, 0, none, false, 0, 0, 0, [], 0, 0, 0, 0⟩
        let n := { n with flags := u.b8 1, ext := rdBe u.data 4 8, short := u.b16 12, key := key, period := per }
        reply [] (cfgKeepIf (fun r => r.code == 0x0C05 && field r.payload 2 2 == field u.payload 2 2) 0x0C05 u.payload
          (onDrz (fun d => { d with nodes := Tab.put d.nodes i n }) s))
    | 1 =>
      judge (g ++ [(drzQueuedFor i s, ST.busy)]) s fun _ =>
        reply [] (cfgDelete (fun r => r.code == 0x0C05 && field r.payload 2 2 == field u.payload 2 2) 0x0C05 u.payload
          (onDrz (fun d => { d with nodes := Tab.del d.nodes i }) s))
    | _ => judge g s fun _ => reply ((cur.map fun n => drzNodeRead i n s).getD []) s

/-- DRZ_NODE_SET (R397). -/
def execDrzNodeSet (m : Ump) (s : State) : Host.Outcome State Fault Refusal :=
  .next (serve 0x0C05 drzNodeSet m s)

/-! ### Sending (R380, R381, R386, R390) -/

/-- Bytes of a frame beyond its MAC payload (log entry 21): frame control, sequence, destination PAN, addresses, security
header, CSL IE, MIC and FCS. -/
def drzOverhead (node : Option DrzNode) (level : Nat) (mode1 csl : Bool) : Nat :=
  let dst := match node with
    | some n => if n.short = 0xFFFE then 8 else 2
    | none => 2
  let sec := if level = 0 then 0 else if mode1 then 6 else 5
  let mic := match level % 4 with
    | 0 => 0
    | 1 => 4
    | 2 => 8
    | _ => 16
  2 + 1 + 2 + dst + 2 + sec + (if csl then 8 else 0) + mic + 2

/-- The flood header (R390). -/
def floodHeader (ttl : Nat) (noRelay urgent : Bool) (origin seq : Nat) : Bytes :=
  leBytes 1 0xC5 ++ leBytes 1 (ttl * 16 + b2n noRelay + 2 * b2n urgent) ++ leBytes 2 origin ++ leBytes 2 seq

/-- The key-slot handle a DRZ_SEND secures its frame with: the key given under mode 1, the node's key under mode 0 (R386). -/
def drzSendKey (u : Ump) (s : State) : Nat :=
  if u.b8 4 = 0 then 0xFFFF
  else if u.b8 5 = 0xFF then
    (if u.b8 0 = 0 then ((drzNode (u.b16 2) s).map (·.key)).getD 0xFFFF else 0xFFFF)
  else u.b16 6

/-- DRZ_SEND (R381, R386, R397). -/
def drzSend (u : Ump) (s : State) : Reply :=
  let kind := u.b8 0
  let prio := u.b8 1
  let level := u.b8 4
  let keyed := u.b8 5 != 0xFF
  let len := u.b16 10
  let node := if kind = 0 then drzNode (u.b16 2) s else none
  let key := drzSendKey u s
  let ttl := if u.b8 8 = 0 then s.drz.mesh.ttl else u.b8 8
  let flood := floodHeader ttl (bit (u.b8 9) 2) (bit (u.b8 9) 1) s.drz.channel.short s.drz.floodSeq
  let body := (if kind = 2 then flood else []) ++ field u.data 12 len
  let limit := if s.drz.channelNow.band = 0 then 127 else 2047
  let q := drzQueueId prio
  let cells := cellsOf body.length
  judge ([short u 12, param (kind == 0 && (decide (4095 < u.b16 2) || node.isNone)), off 8 s,
      param (decide (2 < kind) || decide (7 < prio)), param (level == 4 || decide (7 < level)),
      param (u.b16 6 != 0xFFFF && !(keyHandleOk (u.b16 6) && u.b16 6 / 8192 == 1)),
      param (level != 0 && key == 0xFFFF), param (kind == 2 && decide (15 < u.b8 8)),
      param (len == 0 || decide (200 < len)), (decide (u.data.length < 12 + len), ST.badLength),
      (decide (limit < body.length + drzOverhead node level keyed (s.drz.csl.period != 0)), ST.badLength),
      (!bit s.drz.channel.flags 0, ST.badState)]
    ++ gate 0x0C04 true [] s
    ++ [(enterTest q cells false true s != 0, ST.noResource), (level != 0 && !keyHeld key s, ST.keyAbsent)]) s fun _ =>
      let f : DrzFrame := ⟨kind, prio, if kind = 0 then u.b16 2 else 0xFFFF, level, key, u.b8 9, body, some (u.via, u.tag),
        0, 0, 0, 0, 3, 0, 0, 0, (0, 0)⟩
      let t := onDrz (fun d => { d with queue := d.queue ++ [f]
                                        floodSeq := if kind = 2 then inc 16 d.floodSeq else d.floodSeq }) s
      pending u 0x0C04 [] (enterCells q cells true t)

/-- DRZ_SEND (R381): the frame's end ends it. -/
def execDrzSend (m : Ump) (s : State) : Host.Outcome State Fault Refusal :=
  .next (serve 0x0C04 drzSend m s)

/-! ### The exchange (R377, R379 to R381, R384, R385, R388, R389) -/

/-- The radio runs: PD_CORE and PD_DRZ are powered and the radio is enabled. -/
def drzOn (s : State) : Bool := powered 1 s && powered 8 s && bit s.drz.channelNow.flags 0

/-- The CSL IE the device sends: its own period, and the time left to its next sample (R382). -/
def drzOwnCsl (s : State) : Option (Nat × Nat) :=
  let p := s.drz.csl.period * 1000000
  if p = 0 then none else some (s.drz.csl.period, p - (runTime s - s.drz.sampled) % p)

/-- A frame of the low-rate radio as it leaves, with the fields every frame shares (R376, R379, R380, R382). -/
def drzTx (kind node : Nat) (s : State) : DrzTx :=
  let c := s.drz.channelNow
  { kind := kind, node := node, channel := (c.band, c.rate, c.channel), power := c.power, pan := c.pan, source := c.short
    csl := drzOwnCsl s }

/-- A queued frame as it leaves: to its node's short address, or its extended one where it has none; a broadcast or flood to all. -/
def drzSent (kind : Nat) (f : DrzFrame) (more : Bool) (span : Nat) (s : State) : DrzTx :=
  let n := if f.kind = 0 then drzNode f.node s else none
  { drzTx kind f.node s with
    destExt := match n with
      | some n => if n.short = 0xFFFE then some n.ext else none
      | none => none
    dest := match n with
      | some n => n.short
      | none => 0xFFFF
    ack := f.kind == 0 && bit f.flags 0, more := more, level := f.level, key := f.key, counter := f.counter
    span := span, payload := if kind = 0 then f.payload else [] }

/-- Nanoseconds of the wake-up sequence before a data frame: from t_s - g to t_s + g, at O-QPSK plus one wake-up frame; or a period
and one sample (R384, R385). -/
def drzSpan (f : DrzFrame) (s : State) : Nat :=
  let qpsk := s.drz.channelNow.band == 0
  match f.wake with
  | 0 => 0
  | 1 => 2 * f.meet.2 + (if qpsk then 704000 else 0)
  | _ => ((drzNode f.node s).map (·.period)).getD 0 * 1000000 + (if qpsk then 2500000 else 1000000)

/-- The queued frame the radio serves next: the one whose channel access is under way, else the first of the highest non-empty
queue (R381). -/
def drzPick (s : State) : Option DrzFrame :=
  match s.drz.queue.find? fun f => f.nb != 0 || f.phase == 1 with
  | some f => some f
  | none => [7, 6, 5, 4, 3, 2, 1, 0].findSome? fun p => s.drz.queue.find? fun f => f.queue == p

/-- A frame queued or in its exchange replaced. -/
def drzReplace (f g : DrzFrame) (s : State) : State :=
  onDrz (fun d => if d.exchange = some f then { d with exchange := some g }
    else { d with queue := d.queue.replace f g }) s

/-- A frame, queued or in its exchange, ends with a transmit status (R380). -/
def drzFinish (f : DrzFrame) (status : Nat) (s : State) : State :=
  if s.drz.exchange = some f then
    drzEnd f status (freeCells false (cellsOf f.payload.length) (onDrz (fun d => { d with exchange := none }) s))
  else drzEnd f status (drzLeave f (onDrz (fun d => { d with queue := d.queue.erase f }) s))

/-- PA-on time of the last 3600 s, in microseconds (R379). -/
def drzPaOn (s : State) : Nat :=
  ((s.drz.paOn.filter fun e => decide (s.mem.seconds < e.1 + 3600)).map Prod.snd).sum

/-- PA-on time is counted in the current operating second. -/
def drzPa (us : Nat) (s : State) : State :=
  onDrz (fun d =>
    let l := d.paOn.filter fun e => decide (s.mem.seconds < e.1 + 3600)
    { d with paOn := match l.getLast? with
        | some e => if e.1 = s.mem.seconds then l.dropLast ++ [(e.1, e.2 + us)] else l ++ [(s.mem.seconds, us)]
        | none => [(s.mem.seconds, us)] }) s

/-- A further exchange of `us` would pass the duty limit (R379). -/
def drzDuty (us : Nat) (s : State) : Bool :=
  decide (s.drz.channelNow.duty * 3600000 < drzPaOn s + us)

/-- The transmit frame counter of a key advances; every 4096 frames it is saved to its vault record (R389). -/
def drzCount (key : Nat) (hw : Retry) (s : State) : State :=
  let c := Tab.getD s.drz.txCounters key 0 + 1
  let s := onDrz (fun d => { d with txCounters := Tab.put d.txCounters key c }) s
  if c % 4096 != 0 then s
  else
    let t := feltWrite hw 0x88000 s
    match hw with
    | .lasting => t
    | _ => onDrz (fun d => { d with savedCounters := Tab.put d.savedCounters key c }) t

/-- The transmission of a frame starts, with its wake-up sequence: its key is latched, or it ends where the key is erased, its
counter exhausted or the duty limit met (R379, R388, R389). -/
def drzStart (f : DrzFrame) (us : Nat) (hw : Retry) (s : State) : State :=
  let first := s.drz.exchange != some f
  let fresh := f.level != 0 && f.attempts == 0 && f.fullTried == 0 && f.counter == 0
  let c := Tab.getD s.drz.txCounters f.key 0
  let span := drzSpan f s
  let us := us + (span + 999) / 1000
  if first && f.level != 0 && !keyHeld f.key s then drzFinish f 3 s
  else if fresh && decide (0xFFFFFFFF ≤ c) then drzFinish f 4 s
  else if drzDuty us s then drzFinish f 5 s
  else
    let s := if first then
        leaveCells (drzQueueId f.queue) (cellsOf f.payload.length)
          (onDrz (fun d => { d with queue := d.queue.erase f }) s)
      else s
    let s := match f.owner with
      | some o => passPoint 0x0C04 (fun a => a.via == o.1 && a.tag == o.2) s
      | none => s
    let s := if fresh then drzCount f.key hw s else s
    let g := { f with phase := 2, counter := if fresh then c else f.counter }
    let s := drzPa us (onDrz (fun d => { d with exchange := some g }) s)
    if f.wake = 0 then s else emit (.drz (drzSent 1 g false span s)) s

/-- Full-period attempts a frame to a node gets (R385). -/
def drzAllowance (f : DrzFrame) (s : State) : Nat :=
  if (drzNode f.node s).any fun n => n.lost then 1 else s.drz.csl.attempts

/-- Every full-period attempt of a frame has failed (R385). -/
def drzLose (f : DrzFrame) (s : State) : State :=
  let per := ((drzNode f.node s).map (·.period)).getD 0
  let s := onNode f.node (fun n => { n with lost := true }) s
  drzFinish f 1 (raise 0x0C01 (leBytes 2 f.node ++ leBytes 2 per ++ leBytes 1 f.fullTried) s)

/-- The wake-up sequence a frame needs: none but for a CSL receiver, synchronised, or full-period (R384, R385). -/
def drzWake (f : DrzFrame) (s : State) : Nat :=
  match (if f.kind = 0 then drzNode f.node s else none) with
  | none => 0
  | some n => if !bit n.flags 0 then 0 else if f.fullTried = 0 && !n.lost && drzSynced n s then 1 else 2

/-- The sample a synchronised exchange meets and its guard (R384). -/
def drzMeet (f : DrzFrame) (s : State) : Nat × Nat :=
  match (drzNode f.node s).bind fun n => n.tref.map fun t => (t, n.period) with
  | some (t, p) =>
    let ts := nextSample t p (runTime s)
    (ts, drzGuard s t ts)
  | none => (0, 0)

/-- A backoff ends and the channel is sensed: it is clear below the CCA threshold, the one way it defers to Wi-Fi (R378, R380, R397). A synchronised exchange then waits for
its rendezvous (R384). -/
def drzBackoff (level : Int) (us : Nat) (hw : Retry) (s : State) : State :=
  let cur := match s.drz.exchange with
    | some f => some f
    | none => drzPick s
  match cur with
  | none => s
  | some f =>
    if !drzOn s || f.phase != 0 then s
    else if s.drz.channelNow.cca ≤ level then
      if 4 ≤ f.nb then drzFinish f 2 s else drzReplace f { f with nb := f.nb + 1, be := min 5 (f.be + 1) } s
    else
      let w := drzWake f s
      let g := { f with nb := 0, be := 3, wake := w, phase := if w = 1 then 1 else 0, meet := if w = 1 then drzMeet f s else (0, 0) }
      let s := drzReplace f g s
      if w = 1 then s
      else if w = 2 && drzAllowance g s == 0 then drzLose g s
      else drzStart g us hw (onDrz (fun d => { d with follow := 0 }) s)

/-- DRZ_CSMA_BACKOFF_END (R380). -/
def execDrzCsmaBackoffEnd (level : Int) (us : Nat) (hw : Retry) (s : State) : Host.Outcome State Fault Refusal :=
  .next (drzBackoff level us hw (start s))

/-- The rendezvous of a synchronised node begins, at t_s - g (R384). -/
def drzRendezvous (us : Nat) (hw : Retry) (s : State) : State :=
  let cur := match s.drz.exchange with
    | some f => some f
    | none => drzPick s
  match cur with
  | none => s
  | some f => if !drzOn s || f.phase != 1 || decide (runTime s + f.meet.2 < f.meet.1) then s else drzStart f us hw (onDrz (fun d => { d with follow := 0 }) s)

/-- DRZ_RENDEZVOUS_START (R384). -/
def execDrzRendezvousStart (us : Nat) (hw : Retry) (s : State) : Host.Outcome State Fault Refusal :=
  .next (drzRendezvous us hw (start s))

/-- The frame that follows in a node's rendezvous, in the order of R381. -/
def drzNext (f : DrzFrame) (s : State) : Option DrzFrame :=
  if f.wake = 0 || f.kind != 0 || decide (8 ≤ s.drz.follow) then none
  else [7, 6, 5, 4, 3, 2, 1, 0].findSome? fun p =>
    s.drz.queue.find? fun g => g.queue == p && g.kind == 0 && g.node == f.node

/-- The next frame of the rendezvous is sent at once on the held channel (R381). -/
def drzFollow (f : DrzFrame) (us : Nat) (hw : Retry) (s : State) : State :=
  match drzNext f s with
  | none => s
  | some g =>
    let h := { g with wake := 0, phase := 0 }
    let s := drzStart h us hw (onDrz (fun d => { d with follow := d.follow + 1 }) (drzReplace g h s))
    match s.drz.exchange with
    | some x => onDrz (fun d => { d with exchange := some { x with wake := f.wake } }) s
    | none => s

/-- A data frame ends on the air: its stamp is taken; without an Ack to come the exchange ends (R380, R394). -/
def drzTxEnd (us : Nat) (hw : Retry) (s : State) : State :=
  match s.drz.exchange with
  | none => s
  | some f =>
    if f.phase != 2 then s
    else
      let s := emit (.drz (drzSent 0 f (drzNext f s).isSome 0 s)) s
      let waits := f.kind == 0 && bit f.flags 0
      let g := { f with stamp := rawTime s, attempts := f.attempts + 1, phase := 3 }
      let s := onDrz (fun d => { d with exchange := some g }) s
      if waits then s else drzFollow g us hw (drzFinish g 6 s)

/-- DRZ_FRAME_TX_END (R394). -/
def execDrzFrameTxEnd (us : Nat) (hw : Retry) (s : State) : Host.Outcome State Fault Refusal :=
  .next (drzTxEnd us hw (start s))

/-- A frame of a node is heard: its CSL IE sets P and t_ref, and a lost node is lost no more (R383, R385). -/
def drzHeard (i : Nat) (csl : Option (Nat × Nat)) (rssi : Int) (lqi : Nat) (s : State) : State :=
  onNode i (fun n =>
    let n := { n with lost := false, rssi := rssi, lqi := lqi, heard := s.mem.seconds }
    match csl with
    | some c => if bit n.flags 0 then { n with period := c.1, tref := some (runTime s + c.2) } else n
    | none => n) s

/-- An Enhanced Ack ends the exchange as ACKED (R380, R381, R383). -/
def drzAck (csl : Option (Nat × Nat)) (rssi : Int) (lqi us : Nat) (hw : Retry) (s : State) : State :=
  match s.drz.exchange with
  | none => s
  | some f =>
    if f.phase != 3 then s
    else drzFollow f us hw (drzFinish f 0 (drzHeard f.node csl rssi lqi s))

/-- DRZ_ACK_RECEIVE (R380). -/
def execDrzAckReceive (csl : Option (Nat × Nat)) (rssi : Int) (lqi us : Nat) (hw : Retry) (s : State) :
    Host.Outcome State Fault Refusal := .next (drzAck csl rssi lqi us hw (start s))

/-- No Ack arrives: the frame is retried, its rendezvous counted missed, or it ends NO_ACK (R380, R385). -/
def drzAckMiss (s : State) : State :=
  match s.drz.exchange with
  | none => s
  | some f =>
    if f.phase != 3 then s
    else
      let again := { f with phase := 0, nb := 0, be := 3 }
      match f.wake with
      | 0 => if f.attempts ≤ s.drz.csl.retries then drzReplace f again s else drzFinish f 1 s
      | 1 => drzReplace f again (onNode f.node (fun n => { n with tref := none }) s)
      | _ =>
        let s := onNode f.node (fun n => { n with tref := none, full := inc 32 n.full }) s
        let g := { again with fullTried := f.fullTried + 1 }
        let s := drzReplace f g s
        if drzAllowance f s ≤ g.fullTried then drzLose g s else s

/-- DRZ_ACK_TIMEOUT (R385). -/
def execDrzAckTimeout (s : State) : Host.Outcome State Fault Refusal := .next (drzAckMiss (start s))

/-- A channel, band or rate change takes effect, but not within a data frame on the air; a wake-up sequence in progress is cut and
its frame retried, and one that holds the old channel for its rendezvous contends anew (R377). -/
def drzRetune (s : State) : State :=
  if s.drz.exchange.any fun f => f.phase == 2 && f.wake == 0 then s
  else
    let again (f : DrzFrame) : DrzFrame := { f with phase := 0, nb := 0, be := 3 }
    onDrz (fun d =>
      { d with channelNow := d.channel
               exchange := d.exchange.map fun f => if f.wake != 0 && (f.phase == 1 || f.phase == 2) then again f else f
               queue := d.queue.map fun f => if f.phase == 1 then again f else f }) s

/-- DRZ_CHANNEL_CHANGE_APPLY (R377): the row arrives once the frame in progress has ended. -/
def execDrzChannelChangeApply (s : State) : Host.Outcome State Fault Refusal :=
  .next (let s := start s
    if powered 8 s then drzRetune s else s)

/-- The device's own receiver samples once per CSL period, in RUN at its own period and in STANDBY at the STANDBY period; a
sample inside a transmission is skipped, and the phase stays (R382, R396). -/
def drzSample (s : State) : State :=
  let armed := if powered 1 s then s.drz.csl.period != 0 else true
  if !powered 8 s || !armed then s
  else
    let skipped := s.drz.exchange.any fun f => f.phase == 2
    onDrz (fun d => { d with samples := if skipped then d.samples else d.samples + 1, sampled := runTime s }) s

/-- DRZ_CSL_SAMPLE (R382). -/
def execDrzCslSample (s : State) : Host.Outcome State Fault Refusal := .next (drzSample (start s))

/-! ### Receiving (R383, R387, R391, R393) -/

/-- The node a frame comes from: by its extended address, or by its short one. -/
def drzFrom (f : DrzRx) (s : State) : Option Nat :=
  (s.drz.nodes.find? fun e => match f.ext with
    | some a => e.2.ext == a
    | none => f.short != 0xFFFE && e.2.short == f.short).map Prod.fst

/-- EV_DRZ_RX_SECURITY, at most once per second (R387, R398). -/
def drzSecEvent (node : Nat) (s : State) : State :=
  let n := s.drz.secNow
  raiseLimited 0x0C02 0 (leBytes 2 node ++ leBytes 2 n.2.2 ++ leBytes 2 n.2.1 ++ leBytes 2 n.1) s

/-- A frame fails R387's step 1, 2 or 3: counted and discarded. -/
def drzRefuse (step : Nat) (node : Option Nat) (s : State) : State :=
  let s := onDrz (fun d =>
    { d with secNow := match step with
        | 1 => (d.secNow.1 + 1, d.secNow.2)
        | 2 => (d.secNow.1, d.secNow.2.1 + 1, d.secNow.2.2)
        | _ => (d.secNow.1, d.secNow.2.1, d.secNow.2.2 + 1) }) s
  let s := match node with
    | some i => onNode i (fun n => match step with
        | 1 => n
        | 2 => { n with replays := inc 32 n.replays }
        | _ => { n with mics := inc 32 n.mics }) s
    | none => s
  drzSecEvent (node.getD 0xFFFF) s

/-- EV_DRZ_TABLE_FULL, at most once per second for each table (R391, R398). -/
def drzTableFull (table : Nat) (s : State) : State :=
  let s := onDrz (fun d => { d with fullNow := if table = 0 then (d.fullNow.1 + 1, d.fullNow.2)
    else (d.fullNow.1, d.fullNow.2 + 1) }) s
  raiseLimited 0x0C03 table (leBytes 1 table ++ leBytes 1 0
    ++ leBytes 2 (if table = 0 then s.drz.fullNow.1 else s.drz.fullNow.2)) s

/-- The key-slot handle a received frame's key identifier names: the node's key in mode 0, the Drizzle slot of the key index
in mode 1 (log entry 22). -/
def drzRxKey (f : DrzRx) (node : Option Nat) (s : State) : Nat :=
  match f.keyIndex with
  | some k => 8192 + k
  | none => ((node.bind fun i => drzNode i s).map (·.key)).getD 0xFFFF

/-- What judging a frame comes to: passed with its node, or refused. -/
inductive DrzVerdict where
  /-- Passed; the node it is from, where one is known. -/
  | pass (node : Option Nat)
  /-- Refused and counted. -/
  | refused
  deriving DecidableEq, Repr

/-- An unknown node is learned with its counter (R391); none where the table is full. -/
def drzLearn (f : DrzRx) (a : Nat) (s : State) : Option (Nat × State) :=
  match Tab.lowestFree s.drz.nodes 0 4095 with
  | none => none
  | some i =>
    let k := drzRxKey f none s
    let n : DrzNode := ⟨0, a, f.short, 0xFFFF, 0, none, false, f.lqi, f.rssi, s.mem.seconds, [(k, f.counter)], f.counter,
      0, 0, 0⟩
    some (i, onDrz (fun d => { d with nodes := Tab.put d.nodes i n, nLearned := inc 32 d.nLearned }) s)

/-- A received secured frame is judged: key, replay, MIC (R387). A learned node's own frame is no replay (R391). -/
def drzJudge (f : DrzRx) (s : State) : DrzVerdict × State :=
  let node := drzFrom f s
  let finish (i : Nat) (s : State) : DrzVerdict × State :=
    let k := drzRxKey f (some i) s
    if !f.mic then (.refused, drzRefuse 3 (some i) s)
    else (.pass (some i), onNode i (fun n => { n with counters := Tab.put n.counters k f.counter, counter := f.counter }) s)
  let k := drzRxKey f node s
  if k == 0xFFFF || (keyOf k s).isNone then
    match node, f.ext, bit s.drz.mesh.flags 1 with
    | none, some a, true => match drzLearn f a s with
      | none => (.refused, drzTableFull 0 s)
      | some r => (.refused, drzRefuse 1 (some r.1) r.2)
    | _, _, _ => (.refused, drzRefuse 1 node s)
  else match node with
    | some i =>
      let seen := (drzNode i s).bind fun n => Tab.look n.counters k
      if seen.any fun c => decide (f.counter ≤ c) then (.refused, drzRefuse 2 (some i) s) else finish i s
    | none =>
      match f.ext, bit s.drz.mesh.flags 1 with
      | some a, true => match drzLearn f a s with
        | none => (.refused, drzTableFull 0 s)
        | some r => finish r.1 r.2
      | _, _ => (.refused, drzRefuse 2 none s)

/-- A payload carries the flood header (R390). -/
def isFlood (b : Bytes) : Bool := rd b 0 1 == 0xC5 && decide (6 ≤ b.length)

/-- The header and payload as the punt buffer holds them (R393). -/
def drzPuntBytes (f : DrzRx) (node : Option Nat) (acked : Bool) (s : State) : Bytes :=
  let fl := isFlood f.payload
  leBytes 2 (node.getD 0xFFFF) ++ leBytes 2 (if f.ext.isSome then 0xFFFE else f.short)
    ++ leBytes 1 (bitsNat [f.level != 0, fl, drzDest f s == 1, acked]) ++ leBytes 1 f.level ++ wrS 1 f.rssi ++ leBytes 1 f.lqi
    ++ leBytes 2 (if fl then rd f.payload 2 2 else 0) ++ leBytes 2 (if fl then rd f.payload 4 2 else 0)
    ++ leBytes 1 (if fl then rd f.payload 1 1 / 16 else 0) ++ leBytes 1 s.drz.channelNow.channel ++ leBytes 2 0 ++ f.payload

/-- A frame is delivered to the host punt queue of DRZ_SET_MESH (R393). -/
def drzDeliver (f : DrzRx) (node : Option Nat) (acked : Bool) (s : State) : State :=
  let g : Frame := { ingress := 8, bytes := drzPuntBytes f node acked s, first := f.stamp, reason := 1 }
  toPunt s.drz.mesh.punt g s

/-- An entry of the seen-cache is as old as its 30 s aging (R391). -/
def drzAged (e : (Nat × Nat) × Nat) (s : State) : Bool := decide (e.2 + 30000000000 ≤ runTime s)

/-- An entry stands in the seen-cache (R391). -/
def drzSeen (e : Nat × Nat) (s : State) : Bool := s.drz.seen.any fun x => x.1 == e && !drzAged x s

/-- An entry joins the seen-cache of 512; the oldest makes room (R391). -/
def drzSee (e : Nat × Nat) (s : State) : State :=
  let l := s.drz.seen.filter fun x => x.1 != e && !drzAged x s
  let x := (e, runTime s)
  if l.length < 512 then onDrz (fun d => { d with seen := l ++ [x] }) s
  else drzTableFull 1 (onDrz (fun d => { d with seen := l.drop 1 ++ [x], nEvicted := inc 32 d.nEvicted }) s)

/-- The end of a relay's jitter: 0 to the configured maximum, or to 2 ms where urgent, at random (R391). -/
def drzJitterEnd (urgent : Bool) (e : Nat × Nat) (s : State) : Nat :=
  let most := (if urgent then 2 else s.drz.mesh.jitter) * 1000000
  runTime s + Config.drzJitter e.1 e.2 (runTime s) % (most + 1)

/-- A duplicate is counted, and counts towards the suppression of a pending relay (R391). -/
def drzDuplicate (e : Nat × Nat) (s : State) : State :=
  let s := onDrz (fun d =>
    { d with nDup := inc 32 d.nDup
             relays := d.relays.map fun r => if (r.origin, r.seq) = e then { r with heard := r.heard + 1 } else r }) s
  match s.drz.relays.find? fun r => (r.origin, r.seq) == e && s.drz.mesh.suppression != 0
      && decide (s.drz.mesh.suppression ≤ r.heard) with
  | some r => onDrz (fun d => { d with relays := d.relays.erase r, nSuppressed := inc 32 d.nSuppressed }) s
  | none => s

/-- The relayed copy of a flood frame: TTL one lower, secured again under the key of the received frame (R391). -/
def drzCopy (f : DrzRx) (key : Nat) : DrzFrame :=
  let b := rd f.payload 1 1
  ⟨1, if bit b 1 then 7 else 3, 0xFFFF, f.level, if f.level = 0 then 0xFFFF else key, 0,
    f.payload.take 1 ++ leBytes 1 (b - 16) ++ f.payload.drop 2, none, 0, 0, 0, 0, 3, 0, 0, 0, (0, 0)⟩

/-- A flood frame that passed R387 (R391). -/
def drzFlood (f : DrzRx) (node : Option Nat) (acked : Bool) (s : State) : State :=
  let e := (rd f.payload 2 2, rd f.payload 4 2)
  let b := rd f.payload 1 1
  if drzSeen e s then drzDuplicate e s
  else
    let s := drzDeliver f node acked (drzSee e s)
    if b / 16 = 0 then onDrz (fun d => { d with nTtl := inc 32 d.nTtl }) s
    else if bit b 0 || !bit s.drz.mesh.flags 0 || e.1 == s.drz.channel.short then s
    else onDrz (fun d => { d with relays := d.relays ++ [⟨e.1, e.2, 0, drzCopy f (drzRxKey f node s), drzJitterEnd (bit b 1) e s⟩] }) s

/-- A received frame passes to the host and the relay, acknowledged where it asks (R387, R391, R393). -/
def drzAccept (f : DrzRx) (node : Option Nat) (s : State) : State :=
  let acked := f.ack && drzDest f s == 0
  let ack := { drzTx 2 (node.getD 0xFFFF) s with destExt := f.ext, dest := f.short }
  let s := if acked then drzPa f.ackUs (emit (.drz ack) s) else s
  if isFlood f.payload then drzFlood f node acked s
  else if drzDest f s = 2 then s else drzDeliver f node acked s

/-- A frame is received with a good FCS (R383, R387); one of another PAN ends there (log entry 52). A node marked as requiring security is refused unsecured frames as
no key (log entry 23). -/
def drzReceive (f : DrzRx) (s : State) : State :=
  if !drzOn s || s.drz.exchange.any (fun x => x.phase == 2) then s
  else
    let node := drzFrom f s
    let s := match node with
      | some i => drzHeard i f.csl f.rssi f.lqi s
      | none => s
    if f.kind != 0 || (f.pan != s.drz.channel.pan && f.pan != 0xFFFF) then s
    else if f.level = 0 then
      if (node.bind fun i => drzNode i s).any fun n => bit n.flags 1 then drzRefuse 1 node s else drzAccept f node s
    else
      let r := drzJudge f s
      match r.1 with
      | .pass n => drzAccept f n r.2
      | .refused => r.2

/-- DRZ_FRAME_RECEIVE (R387). -/
def execDrzFrameReceive (f : DrzRx) (s : State) : Host.Outcome State Fault Refusal := .next (drzReceive f (start s))

/-- A pending relay's jitter has ended: the copy enters its Drizzle queue, or is dropped at a full one (R380, R391). -/
def drzRelay (origin seq : Nat) (s : State) : State :=
  match s.drz.relays.find? fun r => r.origin == origin && r.seq == seq && decide (r.due ≤ runTime s) with
  | none => s
  | some r =>
    let s := onDrz (fun d => { d with relays := d.relays.erase r }) s
    let q := drzQueueId r.frame.queue
    let n := cellsOf r.frame.payload.length
    match enterTest q n false true s with
    | 0 => onDrz (fun d => { d with queue := d.queue ++ [r.frame], nRelayed := inc 32 d.nRelayed }) (enterCells q n true s)
    | t => countEnterDrop q t s

/-- DRZ_FLOOD_RELAY (R391). -/
def execDrzFloodRelay (origin seq : Nat) (s : State) : Host.Outcome State Fault Refusal :=
  .next (drzRelay origin seq (start s))

/-- DRZ_SEEN_CACHE_AGING (R391). -/
def execDrzSeenCacheAging (origin seq : Nat) (s : State) : Host.Outcome State Fault Refusal :=
  .next (onDrz (fun d => { d with seen := d.seen.filter fun e => !(e.1 == (origin, seq) && drzAged e s) }) (start s))

/-- Drizzle powers down: its frames end NOT_SENT, and the nodes, the seen-cache and the phases are lost (R395). -/
def drzPowerDown (s : State) : State :=
  let s := (drzDrop (fun _ => true) 7 s).2
  let s := match s.drz.exchange with
    | some f => drzFinish f 7 s
    | none => s
  onDrz (fun d => { d with nodes := [], seen := [], relays := [], follow := 0, channelNow := d.channel }) s

end Sys2Proof.Machine
end

