-- ==== Sys2Proof/Machine/Phy.lean ====
section
/-! DEFINITION. The PHY formats a modem sends and receives and their limits, the resource units of a PPDU, the choice of code,
and what a PPDU of a given form carries (chapter 03, R61 to R68, R79; chapter 06, R149). -/
namespace Sys2Proof.Machine

/-! ### Formats (R61, R62)

Codes are those of R102: 0 DSSS/CCK, 1 non-HT OFDM, 2 HT, 3 VHT, 4 HE SU, 5 HE ER SU, 6 HE TB, 7 EHT SU, 8 EHT TB; 9 is an HE
and 10 an EHT PPDU to several users. -/

/-- An HE format. -/
def isHe (f : Nat) : Bool := f == 4 || f == 5 || f == 6 || f == 9

/-- An EHT format. -/
def isEht (f : Nat) : Bool := f == 7 || f == 8 || f == 10

/-- A format the modems send: SU, MU and non-HT PPDUs, never a TB PPDU. -/
def sends (f : Nat) : Bool := [0, 1, 2, 3, 4, 7, 9, 10].contains f

/-- A format the modems receive: never an HE or EHT MU PPDU. -/
def receives (f : Nat) : Bool := decide (f ≤ 8)

/-- Bands of a format: 0 2.4 GHz, 1 5 GHz, 2 6 GHz. -/
def formatBands (f : Nat) : List Nat :=
  match f with
  | 0 => [0]
  | 2 => [0, 1]
  | 3 => [1]
  | _ => [0, 1, 2]

/-- Greatest width code of a format in a band. -/
def formatWidth (f band : Nat) : Nat :=
  match f with
  | 0 => 0
  | 2 => 1
  | 1 => if band = 2 then 4 else 3
  | _ => if isEht f && band == 2 then 4 else 3

/-- Most spatial streams of a format. -/
def formatStreams (f : Nat) : Nat := match f with | 0 => 1 | 1 => 1 | 2 => 4 | 5 => 1 | _ => 8

/-- Greatest MCS of a format: of DSSS/CCK and non-HT OFDM the place of the rate in its list. -/
def formatMcs (f : Nat) : Nat :=
  match f with
  | 0 => 3
  | 1 => 7
  | 2 => 31
  | 3 => 9
  | 5 => 2
  | _ => if isHe f then 11 else 15

/-- The guard interval is one of the format's: 0 0.4, 1 0.8, 2 1.6, 3 3.2 µs. -/
def guardOk (f gi : Nat) : Bool :=
  if f = 0 then true else if f = 1 then gi == 1 else if f ≤ 3 then decide (gi ≤ 1) else decide (1 ≤ gi ∧ gi ≤ 3)

/-- A format used in a band at a width is one of the table's (R61). -/
def formatFits (f band width : Nat) : Bool := (formatBands f).contains band && decide (width ≤ formatWidth f band)

/-- Streams, MCS and guard interval are the format's (R61). An HT MCS names its streams. -/
def rateFits (f streams mcs gi : Nat) : Bool :=
  decide (1 ≤ streams ∧ streams ≤ formatStreams f) && decide (mcs ≤ formatMcs f) && guardOk f gi
    && (f != 2 || mcs / 8 + 1 == streams)

/-- The restricted MCS values and DCM (R62). -/
def mcsFits (f band width streams mcs : Nat) (dcm : Bool) : Bool :=
  (!(isEht f && mcs == 14) || (band == 2 && decide (2 ≤ width) && streams == 1 && f == 7))
    && (!(isEht f && mcs == 15) || streams == 1)
    && (!dcm || ((isHe f || isEht f) && [0, 1, 3, 4].contains mcs && decide (streams ≤ 2)))

/-! ### Resource units (R64) -/

/-- The sets of 20 MHz subchannels that an RU or MRU of a size can take: those of 320 MHz, of which a narrower channel has the
lower ones (PRESUMED: the sizes and places of IEEE 802.11be, log 70). -/
def ruPlaces (tones : Nat) : List Nat :=
  let pairs := (List.range 8).map fun k => 3 * 4 ^ k
  let quads := (List.range 4).map fun k => 15 * 16 ^ k
  match tones with
  | 26 => (List.range 16).map (2 ^ ·) ++ quads
  | 52 => (List.range 16).map (2 ^ ·)
  | 78 => (List.range 16).map (2 ^ ·)
  | 106 => (List.range 16).map (2 ^ ·)
  | 132 => (List.range 16).map (2 ^ ·)
  | 242 => (List.range 16).map (2 ^ ·)
  | 484 => pairs
  | 726 => ((List.range 4).map fun k => ([7, 11, 13, 14] : List Nat).map fun m => m * 16 ^ k).flatten
  | 996 => quads
  | 1480 => ((List.range 2).map fun k => ((List.range 4).map fun j => (255 - 3 * 4 ^ j) * 256 ^ k)).flatten
  | 1722 => ((List.range 2).map fun k => ((List.range 8).map fun j => (255 - 2 ^ j) * 256 ^ k)).flatten
  | 1992 => [0xFF, 0xFF00]
  | 2476 => ((List.range 6).map fun j => 0xFFF - 3 * 4 ^ j) ++ (List.range 6).map fun j => (0xFFF - 3 * 4 ^ j) * 16
  | 2988 => (List.range 4).map fun k => 0xFFFF - 15 * 16 ^ k
  | 3472 => (List.range 8).map fun k => 0xFFFF - 3 * 4 ^ k
  | 3984 => [0xFFFF]
  | _ => []

/-- The 26-tone places that an RU takes of its subchannel: nine of a 20 MHz subchannel, and the tenth, the one in the middle of
an 80 MHz segment. -/
def ruSlots (r : Ru) : List Nat :=
  match r.tones with
  | 26 => if r.index < 9 ∧ popcount 16 r.subs = 1 then [r.index] else if r.index = 9 ∧ popcount 16 r.subs = 4 then [9] else []
  | 52 => ([[0, 1], [2, 3], [5, 6], [7, 8]] : List (List Nat)).getD r.index []
  | 78 => ([[1, 2, 3], [2, 3, 4], [5, 6, 7]] : List (List Nat)).getD r.index []
  | 106 => ([[0, 1, 2, 3], [5, 6, 7, 8]] : List (List Nat)).getD r.index []
  | 132 => ([[0, 1, 2, 3, 4], [4, 5, 6, 7, 8]] : List (List Nat)).getD r.index []
  | _ => if r.index = 0 then List.range 10 else []

/-- An RU of a PPDU: a size and place of the standard, within the occupied subchannels, so on no punctured one. -/
def ruOk (occupied : Nat) (r : Ru) : Bool :=
  (ruPlaces r.tones).contains r.subs && !(ruSlots r).isEmpty && (r.subs &&& occupied) == r.subs

/-- Two RUs share tones. -/
def ruMeet (a b : Ru) : Bool := (a.subs &&& b.subs) != 0 && (ruSlots a).any fun i => (ruSlots b).contains i

/-- The limits that a further user meets beside those of a PPDU (R64): RUs overlap only as one RU shared by MU-MIMO users, up to
eight of them, of eight streams in all, on 242 tones or more, and a PPDU has at most 148 users. -/
def ruRoom (occupied : Nat) (l : List (Ru × Nat)) (r : Ru) (streams : Nat) : Bool :=
  let mine := l.filter fun e => e.1 == r
  ruOk occupied r && decide (l.length < 148) && (l.all fun e => e.1 == r || !ruMeet e.1 r)
    && decide (mine.length < 8) && decide ((mine.map Prod.snd).sum + streams ≤ 8)
    && (mine.isEmpty || decide (242 ≤ r.tones))

/-! ### Coding (R63) -/

/-- LDPC rather than BCC for a transmitted user. -/
def sendsLdpc (f tones streams mcs : Nat) (declared : Bool) : Bool :=
  if f ≤ 1 then false
  else if f ≤ 3 then declared
  else declared || decide (242 < tones) || decide (4 < streams) || decide (9 < mcs)

/-! ### Padding (R77, R79) -/

/-- The nominal packet padding the device advertises, µs: up to 996 tones, and above. -/
def advertisedPadding : Nat × Nat := (0, 8)

/-- The nominal packet padding of an RU, µs. -/
def nominalPadding (tones : Nat) : Nat := if tones ≤ 996 then advertisedPadding.1 else advertisedPadding.2

/-! ### Rates (PRESUMED: the tables of IEEE 802.11, log 70) -/

/-- Data tones of an RU or MRU of HE and EHT. -/
def dataTones (tones : Nat) : Nat :=
  match tones with
  | 26 => 24 | 52 => 48 | 78 => 72 | 106 => 102 | 132 => 126 | 242 => 234 | 484 => 468 | 726 => 702 | 996 => 980
  | 1480 => 1448 | 1722 => 1682 | 1992 => 1960 | 2476 => 2428 | 2988 => 2940 | 3472 => 3408 | 3984 => 3920 | _ => 0

/-- Twenty-fourths of an information bit per tone and stream of an MCS. -/
def bitsPerTone (f mcs : Nat) : Nat :=
  match f with
  | 1 => ([12, 18, 24, 36, 48, 72, 96, 108] : List Nat).getD mcs 0
  | 2 => ([12, 24, 36, 48, 72, 96, 108, 120] : List Nat).getD (mcs % 8) 0
  | _ => ([12, 24, 36, 48, 72, 96, 108, 120, 144, 160, 180, 200, 216, 240, 3, 6] : List Nat).getD mcs 0

/-- Information bits in a time in µs of one user: its format, width, RU, MCS, streams, guard interval and DCM. -/
def bitsIn (f width tones mcs streams gi : Nat) (dcm : Bool) (us : Nat) : Nat :=
  if f = 0 then ([10, 20, 55, 110] : List Nat).getD mcs 0 * us / 10
  else
    let nsd := if f = 1 then 48 else if f ≤ 3 then ([52, 108, 234, 468] : List Nat).getD width 0 else dataTones tones
    let symbol := if f ≤ 3 then (if gi = 0 then 36 else 40) else 128 + 8 * 2 ^ (gi - 1)
    us * 10 / symbol * (nsd * bitsPerTone f mcs * streams / 24) / (if dcm then 2 else 1)

/-! ### The transmit path (R65, R66) -/

/-- Spatial mapping: precoding where a precoder set is used, direct mapping with as many streams as chains, else expansion. -/
def spatialMapping (precoder : Option Nat) (streams chains : Nat) : Mapping :=
  match precoder with
  | some k => .precoded k
  | none => if streams = chains then .direct else .expansion

/-- The steps a user's data pass in order. -/
def txSteps (u : TxUser) : List TxStep :=
  [.scramble, .encode u.ldpc, .parseStreams, .parseSegments, if u.ldpc then .mapTones else .interleave,
    .mapConstellation u.dcm, .mapSpatially u.mapping, .cyclicShift, .ifftGuardWindow, .toDacs]

/-- A PPDU's vector is one the modem may build: its format is sent, in the band and at the width, and every user within the
limits of R61, R62 and R64. -/
def vectorAllowed (band : Nat) (v : TxVector) : Bool :=
  sends v.format && formatFits v.format band v.width
    && (v.users.all fun u => rateFits v.format u.streams u.mcs v.gi && mcsFits v.format band v.width u.streams u.mcs u.dcm)

end Sys2Proof.Machine
end

