-- ==== Sys2Proof/Machine/Spectrum.lean ====
section
/-! DEFINITION. Channels, the regulatory package and the locked limit table, transmit power, the duty monitor, and the
judgement of slice pairs (chapter 02, R31 to R42, R52 to R57). -/
namespace Sys2Proof.Machine

/-! ### Channels (R32) -/

/-- The lower edge of a channel, MHz. -/
def Channel.low (c : Channel) : Nat := c.centre - 10 * 2 ^ c.width

/-- The upper edge of a channel, MHz. -/
def Channel.high (c : Channel) : Nat := c.centre + 10 * 2 ^ c.width

/-- The band of a centre frequency: 0 2.4 GHz, 1 5 GHz, 2 6 GHz. -/
def bandOf (centre : Nat) : Nat := if centre < 3000 then 0 else if centre < 5925 then 1 else 2

/-- IEEE 802.11 channel numbers in 5 GHz of a width code. -/
def numbers5 : Nat → List Nat
  | 0 => [36, 40, 44, 48, 52, 56, 60, 64, 100, 104, 108, 112, 116, 120, 124, 128, 132, 136, 140, 144, 149, 153, 157, 161,
      165, 169, 173, 177]
  | 1 => [38, 46, 54, 62, 102, 110, 118, 126, 134, 142, 151, 159, 167, 175]
  | 2 => [42, 58, 106, 122, 138, 155, 171]
  | 3 => [50, 114, 163]
  | _ => []

/-- The centre is a channel centre of IEEE 802.11 for the width (PRESUMED: the standard's channel lists, log 24). -/
def centreOk (w c : Nat) : Bool :=
  match bandOf c with
  | 0 => match w with
    | 0 => decide (2412 ≤ c ∧ c ≤ 2472) && (c - 2412) % 5 == 0
    | 1 => decide (2422 ≤ c ∧ c ≤ 2462) && (c - 2422) % 5 == 0
    | _ => false
  | 1 => decide (5000 ≤ c) && c % 5 == 0 && (numbers5 w).contains ((c - 5000) / 5)
  | _ =>
    (w == 0 && c == 5935)
    || (decide (5955 ≤ c) && decide (w ≤ 4) && c % 5 == 0
        && ((c - 5950) / 5) % min (4 * 2 ^ w) 32 == (2 * 2 ^ w - 1) % min (4 * 2 ^ w) 32)

/-- The whole channel lies in a band of R32. -/
def insideBand (c : Channel) : Bool :=
  decide (2400 ≤ c.low ∧ 2 * c.high ≤ 4967) || decide (5150 ≤ c.low ∧ c.high ≤ 5895)
  || decide (5925 ≤ c.low ∧ c.high ≤ 7125)

/-- The puncturing patterns of IEEE 802.11be for a width code (PRESUMED: the standard's table, log 24). -/
def punctures : Nat → List Nat
  | 2 => [1, 2, 4, 8]
  | 3 => [1, 2, 4, 8, 16, 32, 64, 128, 0x03, 0x0C, 0x30, 0xC0]
  | 4 =>
    let pairs := (List.range 8).map fun i => 3 * 4 ^ i
    let quads := (List.range 4).map fun i => 15 * 16 ^ i
    pairs ++ quads ++ ((pairs.drop 2).map (· + 0x000F)) ++ ((pairs.take 6).map (· + 0xF000))
  | _ => []

/-- The puncture bitmap is one the width allows, and leaves the primary. -/
def punctureOk (c : Channel) : Bool :=
  c.puncture == 0 || ((punctures c.width).contains c.puncture.toNat && !c.puncture.getLsbD c.primary)

/-- Two channels overlap. -/
def overlap (a b : Channel) : Bool := decide (a.low < b.high) && decide (b.low < a.high)

/-- The channel a slice is tuned to or being tuned to (R31, R58). -/
def tuned (n : Nat) (s : State) : Option Channel :=
  match (slice n s).state with
  | .tuning => (slice n s).tuning.bind (·.channel)
  | .cac => (slice n s).channel
  | .ready => (slice n s).channel
  | _ => none

/-- The channels a slice holds: the one in force and the one asked for. -/
def heldChannels (n : Nat) (s : State) : List Channel :=
  (tuned n s).toList ++ ((slice n s).tuning.bind (·.channel)).toList

/-- A channel that RAD_SET_CHANNEL refuses with ST_BAD_PARAM (R32). -/
def channelBad (n : Nat) (c : Channel) (s : State) : Bool :=
  decide (4 < c.width) || !centreOk c.width c.centre || !insideBand c || (c.width == 4 && bandOf c.centre != 2)
  || decide (2 ^ c.width ≤ c.primary) || !punctureOk c
  || [0, 1, 2].any fun m => m != n && (heldChannels m s).any fun d => overlap c d

/-! ### Regulatory limits (R39 to R41) -/

/-- The limits of a list that cover a channel by band, width and centre. -/
def covering (l : List Limit) (c : Channel) : List Limit :=
  l.filter fun r => r.band == bandOf c.centre && bit r.widths c.width && decide (r.low ≤ c.centre ∧ c.centre ≤ r.high)

/-- The rules of the stored package that cover a channel. -/
def ruleOf (c : Channel) (s : State) : List Limit :=
  match s.radio.rdp with
  | some p => covering p.rules c
  | none => []

/-- The entries of the locked limit table that cover a channel. -/
def entriesOf (c : Channel) (s : State) : List Limit :=
  match s.radio.llt with
  | some l => covering l c
  | none => []

/-- The package and the table permit the channel. -/
def allowed (c : Channel) (s : State) : Bool :=
  !(ruleOf c s).isEmpty && (s.radio.llt.isNone || !(entriesOf c s).isEmpty)

/-- The channel may be used now: permitted, and outside every non-occupancy period (R47). -/
def permitted (c : Channel) (s : State) : Bool := allowed c s && !s.radio.nonOccupancy.any fun d => overlap c d

/-- The governing rule carries the DFS flag (R40, R47). -/
def isDfs (c : Channel) (s : State) : Bool := (ruleOf c s).any fun r => bit r.flags 0

/-- The lowest of a list. -/
def lowest (l : List Int) : Int :=
  match l with
  | [] => 0
  | x :: r => r.foldl min x

/-- 1000 log10 n rounded up, for 1 to 8 chains: hundredths of a decibel of N chains (R40). -/
def chainGain (n : Nat) : Int := ([0, 302, 478, 603, 699, 779, 846, 904] : List Int).getD (n - 1) 0

/-- 1000 log10 of 20 k MHz rounded down: hundredths of a decibel of k occupied subchannels (R40). -/
def widthGain (k : Nat) : Int :=
  ([1301, 1602, 1778, 1903, 2000, 2079, 2146, 2204, 2255, 2301, 2342, 2380, 2414, 2447, 2477, 2505] : List Int).getD (k - 1) 0

/-- The 20 MHz subchannels of a channel that are not statically punctured, as a mask. -/
def unpunctured (c : Channel) : Nat := bitsNat ((List.range (2 ^ c.width)).map fun i => !c.puncture.getLsbD i)

/-- The number of 20 MHz subchannels a PPDU occupies. -/
def occupied (mask : Nat) : Nat := max 1 (popcount 16 mask)

/-- The largest port gain of a slice's active chains, 0.25 dBi: the package's, or the table's where larger (R40, R41). -/
def portGain (n : Nat) (chains : List Nat) (c : Channel) (s : State) : Int :=
  let g := match s.radio.rdp with
    | some p => highest (chains.map fun i => p.gains.getD (8 * n + i) 0)
    | none => 0
  ((entriesOf c s).map (·.gain)).foldl max g

/-- The per-chain power that meets both limits, in 0.01 dBm, of a PPDU over a mask of subchannels (R40; rounded towards less
power, DESIGN CHOICE, log 25). -/
def regulatoryPower (n : Nat) (chains : List Nat) (c : Channel) (mask : Nat) (s : State) : Int :=
  let l := ruleOf c s ++ entriesOf c s
  min (lowest (l.map (·.eirp)) * 25) (lowest (l.map (·.psd)) * 25 + widthGain (occupied mask))
    - chainGain chains.length - portGain n chains c s * 25

/-! ### Transmit power (R37) -/

/-- The MCS whose cap a PPDU of a format takes: MCS 0 for DSSS, CCK and non-HT, and the modulation of an HT MCS. -/
def cappedMcs (f mcs : Nat) : Nat := if f ≤ 1 then 0 else if f = 2 then mcs % 8 else mcs

/-- The cap of an MCS, in 0.01 dBm. -/
def mcsCap (mcs : Nat) : Int := ([16, 16, 16, 16, 16, 16, 16, 16, 15, 14, 13, 12, 11, 10, 16, 16] : List Int).getD mcs 16 * 100

/-- The cap of a PPDU: the lowest of its users', and MCS 0's where it has none. -/
def ppduCap (v : TxVector) : Int := (v.users.map fun u => mcsCap (cappedMcs v.format u.mcs)).foldl min (mcsCap 0)

/-- The slice's maximum per-chain power, 0.01 dBm: lowered by 3 dB at thermal level 2 (R37, R413). -/
def maximumPower (n : Nat) (s : State) : Int := (slice n s).maxPower * 25 - (if 2 ≤ s.power.thermal || s.power.avsLimit then 300 else 0)

/-- Target power of each active chain, and whether regulation lowered it (R37, R40, R44, R481). -/
def ppduPower (n : Nat) (v : TxVector) (s : State) : Tab Int × Bool :=
  let x := slice n s
  let on := chainsOn x
  let base := min (ppduCap v) (maximumPower n s)
  let reg := match x.channel with
    | some c => regulatoryPower n on c v.occupied s
    | none => base
  let p := min base reg
  (on.map fun i => (i, if (x.chains[i]?.map (·.band)) = some .reduced then p - 600 else p), decide (reg < base))

/-! ### The duty monitor (R42) -/

/-- PA-on nanoseconds of the last second of device time. -/
def paUsed (n : Nat) (s : State) : Nat :=
  let now := runTime s
  ((slice n s).paOn.map fun e => min e.2 now - max e.1 (now - 1000000000)).sum

/-- The governing entry's duty limit, 0.1 %; none without a locked table. -/
def dutyLimit (n : Nat) (s : State) : Option Nat :=
  match (slice n s).channel with
  | some c => match entriesOf c s with
    | [] => none
    | x :: r => some (r.foldl (fun a e => min a e.flags) x.flags)
  | none => none

/-- A PPDU of a duration in µs would carry the duty above the limit. -/
def dutyDenies (n us : Nat) (s : State) : Bool :=
  match dutyLimit n s with
  | some l => decide (l * 1000000000 < (paUsed n s + us * 1000) * 1000)
  | none => false

/-- The duty is at or above 0.99 times the limit. -/
def dutyNear (n : Nat) (s : State) : Bool :=
  match dutyLimit n s with
  | some l => decide (99 * l * 1000000000 ≤ paUsed n s * 100000)
  | none => false

/-- A duty denial is counted, and reported at most once per second. -/
def dutyDenial (n : Nat) (s : State) : State :=
  let s := onSlice n (fun x => { x with nDuty := inc 32 x.nDuty, denialsNow := inc 16 x.denialsNow }) s
  raiseLimited 0x0209 n (leBytes 1 n ++ leBytes 2 (slice n s).denialsNow) s

/-- The PA goes on for a time in µs; intervals older than a second are forgotten. -/
def paStarts (n us : Nat) (s : State) : State :=
  let now := runTime s
  onSlice n (fun x =>
    { x with paOn := (x.paOn.filter fun e => decide (now < e.2 + 1000000000)) ++ [(now, now + us * 1000)] }) s

/-- The PPDU on the air ends its PA-on time now, where that is before its planned end. -/
def paStops (n : Nat) (s : State) : State :=
  let now := runTime s
  onSlice n (fun x => { x with paOn := x.paOn.map fun e => (e.1, min e.2 now) }) s

/-- TX_TMO ends the PPDU on the air: its PA has been on for TX_TMO (R43). -/
def paTimedOut (n : Nat) (s : State) : State :=
  onSlice n (fun x => match x.tx with
    | some p => { x with paOn := x.paOn.map fun e => if e.1 = p.since then (e.1, e.1 + x.txTmo * 100000) else e }
    | none => x) s

/-! ### Slice pairs (R52, R53, R57) -/

/-- A pair of slices; its index is their sum less one. -/
def pairOf (a b : Nat) (s : State) : Pair := s.radio.pairs.get (a + b - 1)

/-- A pair changed by a function. -/
def onPair (a b : Nat) (f : Pair → Pair) (s : State) : State :=
  { s with radio := { s.radio with pairs := s.radio.pairs.set (a + b - 1) (f (pairOf a b s)) } }

/-- The lower-numbered other slice. -/
def lowerOther (v : Nat) : Nat := if v = 0 then 1 else 0

/-- The coefficients of a victim towards an aggressor. -/
def halo (v a : Nat) (s : State) : Halo := if a = lowerOther v then s.radio.haloLow.get v else s.radio.haloHigh.get v

/-- The coefficients of a victim towards an aggressor changed by a function. -/
def onHalo (v a : Nat) (f : Halo → Halo) (s : State) : State :=
  if a = lowerOther v then { s with radio := { s.radio with haloLow := s.radio.haloLow.set v (f (halo v a s)) } }
  else { s with radio := { s.radio with haloHigh := s.radio.haloHigh.set v (f (halo v a s)) } }

/-- The other two slices. -/
def others (n : Nat) : List Nat := [0, 1, 2].filter (· != n)

/-- Edge-gap thresholds with and without Halo, MHz; two slices in 2.4 GHz are read as two in one band (DESIGN CHOICE, log
26). -/
def thresholds (a b : Nat) : Nat × Option Nat :=
  if (a == 0) != (b == 0) then (0, some 0)
  else if a != b then (100, some 400)
  else (160, none)

/-- Edge gap and thresholds of a pair whose slices both have a channel; overlapping channels have a gap of 0. -/
def geometry (a b : Nat) (s : State) : Option (Nat × Nat × Option Nat) :=
  match tuned a s, tuned b s with
  | some c, some d =>
    let gap := if c.low ≤ d.low then d.low - c.high else c.low - d.high
    some (gap, thresholds (bandOf c.centre) (bandOf d.centre))
  | _, _ => none

/-- Both slices are READY. -/
def bothReady (a b : Nat) (s : State) : Bool := (slice a s).state == .ready && (slice b s).state == .ready

/-- The canceller has work on a pair under a policy: it meets the threshold with Halo and not the one without (R53). -/
def needsHalo (a b : Nat) (s : State) : Bool :=
  match geometry a b s with
  | some (gap, w, wo) => (pairOf a b s).policy == .auto && bothReady a b s && decide (w ≤ gap)
      && !(wo.any fun t => decide (t ≤ gap))
  | none => false

/-- One direction holds coefficients trained for what is in force, within 300 ms (R28, R53). -/
def haloTrained (v a : Nat) (s : State) : Bool :=
  let h := halo v a s
  h.valid && !h.stale && h.last.any fun t => decide (runTime s < t + 300000000)

/-- Both directions do. -/
def haloFresh (a b : Nat) (s : State) : Bool := haloTrained a b s && haloTrained b a s

/-- STR, and Halo cancelling, under a policy (R52, R53, R57). -/
def judgePair (a b : Nat) (p : StrPolicy) (s : State) : Bool × Bool :=
  match geometry a b s with
  | none => (false, false)
  | some (gap, w, wo) =>
    if p = .forceNstr then (false, false)
    else if wo.any fun t => decide (t ≤ gap) then (true, false)
    else if p = .auto && haloFresh a b s && bothReady a b s && decide (w ≤ gap) then (true, true)
    else (false, false)

/-- The three pairs. -/
def allPairs : List (Nat × Nat) := [(0, 1), (0, 2), (1, 2)]

/-- A pair is NSTR in the running window (R56). -/
def nstr (a b : Nat) (s : State) : Bool := a != b && !(pairOf a b s).now.1

/-- Halo cancels for a slice as victim. -/
def haloOn (n : Nat) (s : State) : Bool := (others n).any fun m => (pairOf n m s).now.2

/-- Coefficients that match what is in force no longer (R28, R53, R55). -/
def Halo.cleared (h : Halo) : Halo :=
  { h with valid := false, training := false, failed := false, await := some 0, settled := false, coeff := [] }

/-- A change of channel, power or tuner on a slice: the coefficients of its pairs match no longer, and training waits for
200 µs of the aggressor's traffic (R28, R38, R53, R55). -/
def haloChange (n : Nat) (s : State) : State :=
  (others n).foldl (fun t m =>
    let t := onHalo n m Halo.cleared (onHalo m n Halo.cleared t)
    onPair n m (fun p => { p with now := judgePair n m p.inForce t, next := judgePair n m p.committed t }) t) s

/-- The pairs judged at a commit, under the policies then accepted (R18, R57). -/
def pairsCommit (s : State) : State :=
  allPairs.foldl (fun t e =>
    onPair e.1 e.2 (fun p => { p with committed := p.policy, next := judgePair e.1 e.2 p.policy t }) t) s

/-- The committed judgement holds from the window's start. -/
def pairsStart (s : State) : State :=
  allPairs.foldl (fun t e => onPair e.1 e.2 (fun p => { p with inForce := p.committed, now := p.next }) t) s

/-- A slice that has changed its channel is left out of plans until its canceller has been trained for it: every pair of it
that cancels has ended a training in both directions. A slice whose partner has changed is not (R18, R28). -/
def haloPending (n : Nat) (s : State) : Bool :=
  (slice n s).haloWait && (others n).any fun m => needsHalo n m s && (!(halo n m s).settled || !(halo m n s).settled)

/-- A slice READY on its new channel waits no longer once its canceller has been trained. -/
def settleHaloWait (n : Nat) (s : State) : State :=
  if (slice n s).state == .ready && !haloPending n s then onSlice n (fun x => { x with haloWait := false }) s else s

/-- Airtime of a slice counts towards the training of its victims: at 200 µs since a change the data is captured (R55). -/
def haloTraffic (n us : Nat) (s : State) : State :=
  (others n).foldl (fun t v =>
    match (halo v n t).await with
    | none => t
    | some k =>
      if k + us < 200 then onHalo v n (fun h => { h with await := some (k + us) }) t
      else onHalo v n (fun h => { h with await := none, training := needsHalo v n t }) t)
    (onSlice n (fun x => { x with airtime := x.airtime + us }) s)

/-! ### The canceller's work (R54) -/

/-- A complex product. -/
def cmul (a b : Int × Int) : Int × Int := (a.1 * b.1 - a.2 * b.2, a.1 * b.2 + a.2 * b.1)

/-- A complex sum. -/
def cadd (a b : Int × Int) : Int × Int := (a.1 + b.1, a.2 + b.2)

/-- A sample times the magnitude's even power that makes it of odd order 1, 3 or 5. -/
def oddOrder (x : Int × Int) (k : Nat) : Int × Int := let m := (x.1 * x.1 + x.2 * x.2) ^ k; (x.1 * m, x.2 * m)

/-- The leakage that a victim chain's 96 coefficients make of an aggressor's four reference streams at a sample: orders 1, 3 and
5 and 8 taps of each stream, the newest sample first. -/
def leakage (coeff : List (Int × Int)) (refs : List (List (Int × Int))) (t : Nat) : Int × Int :=
  ((List.range 4).map fun st => ((List.range 3).map fun k => ((List.range 8).map fun tap =>
    let past := if tap ≤ t then (refs.getD st []).getD (t - tap) (0, 0) else (0, 0)
    cmul (coeff.getD (st * 24 + k * 8 + tap) (0, 0)) (oddOrder past k))).flatten).flatten.foldl cadd (0, 0)

/-- A received sample of a victim chain less its leakage; the scale of the products is the device's own (log 49). -/
def haloSubtract (y : Int × Int) (coeff : List (Int × Int)) (chain : Nat) (refs : List (List (Int × Int))) (t : Nat) : Int × Int :=
  let l := leakage ((coeff.drop (96 * chain)).take 96) refs t
  (y.1 - Config.haloScale l.1, y.2 - Config.haloScale l.2)

end Sys2Proof.Machine
end

