-- ==== Sys2Proof/Machine/Access.lean ====
section
/-! DEFINITION. How a slice's frames gain the medium, what a transmission that cannot start comes to, and the end of the
frames that commands send (chapter 02, R34, R48, R50, R56; chapter 05, R106 to R108, R113, R132, R135). -/
namespace Sys2Proof.Machine

/-- The access category of a TID. -/
def acOf (tid : Nat) : Nat := ([1, 0, 0, 1, 2, 2, 3, 3] : List Nat).getD tid 1

/-- CWmin of the access categories (R106). -/
def cwMin (ac : Nat) : Nat := ([15, 15, 7, 3] : List Nat).getD ac 15

/-- CWmax of the access categories (R106). -/
def cwMax (ac : Nat) : Nat := ([1023, 63, 15, 7] : List Nat).getD ac 1023

/-- AIFSN of the access categories (R106). -/
def aifsn (ac : Nat) : Nat := ([7, 3, 1, 1] : List Nat).getD ac 3

/-- TXOP limit of the access categories, µs (R106). -/
def txopLimit (ac : Nat) : Nat := ([2528, 2528, 4096, 2080] : List Nat).getD ac 2528

/-- SIFS on a slice, µs (R107). -/
def sifs (n : Nat) (s : State) : Nat := if (tuned n s).any fun c => bandOf c.centre == 0 then 10 else 16

/-- AIFS of a category on a slice, µs: SIFS and AIFSN slots of 9 µs (R106, R107). -/
def aifs (n ac : Nat) (s : State) : Nat := sifs n s + 9 * aifsn ac

/-- CW of a category is doubled up to CWmax (R106). -/
def doubleCw (n ac : Nat) (s : State) : State :=
  onMac n (fun m => { m with edca := m.edca.modify ac fun e => { e with cw := min (cwMax ac) (2 * e.cw + 1) } }) s

/-- CW of a category returns to CWmin. -/
def resetCw (n ac : Nat) (s : State) : State :=
  onMac n (fun m => { m with edca := m.edca.modify ac fun e => { e with cw := cwMin ac } }) s

/-- The BSSs of a slice. -/
def bssOn (n : Nat) (s : State) : Tab Bss := s.air.bss.filter fun e => e.2.slice == n

/-- The next TXOP of the running plan on a slice. -/
def nextPlanned (n : Nat) (p : Plan) : Option PlanTxop := p.txops.find? fun t => t.slice == n

/-! ### The Crown's active and staging sets (R152) -/

/-- Users of the TXOPs in progress on any slice. -/
def activeSet (s : State) : List Nat := (s.air.macs.toList.map fun m => (m.txop.map (·.users)).getD []).flatten

/-- Users of the next TXOP of each slice, in the running plan or else in the plan committed for the next window; in the brim of
both, since what is left of the running plan serves a TWT service period (R142). -/
def stagingSet (s : State) : List Nat :=
  let users (n : Nat) (p : Plan) : List Nat := ((nextPlanned n p).map (·.users)).getD []
  ([0, 1, 2].map fun n =>
    let next := (s.mls.next.map (users n)).getD []
    if s.mls.inBrim then users n s.mls.plan ++ next
    else if (nextPlanned n s.mls.plan).isSome then users n s.mls.plan else next).flatten

/-- Entries of the active and staging sets are marked in use. -/
def markUse (s : State) : State :=
  let l := activeSet s ++ stagingSet s
  onMls (fun m => { m with crown := m.crown.map fun e => { e with inUse := l.contains e.station } }) s

/-- A station's entry is resident. -/
def resident (h : Nat) (s : State) : Bool := s.mls.crown.any fun e => e.station == h

/-! ### Management frames that meet their fate (R113, R132) -/

/-- A management frame leaves its slice with a transmit status; the command that owns it goes on. -/
def mgmtEnd (n : Nat) (f : MgmtFrame) (status : Nat) (s : State) : State :=
  let s := onMac n (fun m => { m with mgmt := m.mgmt.erase f }) s
  match f.owner with
  | 1 =>
    let reason := match (station f.station s).bind (·.leaving) with | some l => l.1 | none => 0
    settleDeletes (endDisconnect f.station status (removeStation f.station 0 reason s))
  | 2 =>
    match station f.station s with
    | none => s
    | some x =>
      let b := x.links.get n
      let s := onBss b (fun y => { y with deleting := y.deleting.map fun w => some (max (w.getD 0) status) }) s
      if deleteWaits b n s then s else finishDelete b s
  | _ => s

/-- A slice transmits nothing more: its management frames to a station go to another usable link of the station, and the others
and the data of stations without a usable link end with status TX_LOCKED (R43, R120, R132). -/
def lockedFrames (n : Nat) (s : State) : State :=
  let s := ((mac n s).mgmt.filter fun f => !f.flight).foldl (fun t f =>
    match if f.owner = 2 then none else (station f.station t).bind fun x => usableLink x t with
    | some m => queueMgmt m f (onMac n (fun k => { k with mgmt := k.mgmt.erase f }) t)
    | none => mgmtEnd n f 5 t) s
  s.air.stations.foldl (fun t e => if e.2.links.get n = 255 then t else lockedStation e.1 t) s

/-- A failed attempt of a management frame: dropped at the seventh (R113). -/
def mgmtFailed (n : Nat) (f : MgmtFrame) (s : State) : State :=
  if 7 ≤ f.attempts + 1 then mgmtEnd n f 1 s
  else onMac n (fun m => { m with mgmt := mapFirst (· == f) (fun g => { g with attempts := g.attempts + 1, flight := false }) m.mgmt }) s

/-- A failed attempt of a data MPDU: dropped at the sixteenth (R113). -/
def attemptFailed (h : Nat) (m : Mpdu) (s : State) : State :=
  if 16 ≤ m.attempts + 1 then dropMpdu h 1 s m
  else onStation h (fun x => { x with queue := x.queue.map fun y =>
    if y.id = m.id then { y with attempts := y.attempts + 1, flight := none } else y }) s

/-! ### What an access category has to send (R107) -/

/-- Group-addressed frames are due on a slice (R124). -/
def groupDue (n : Nat) (s : State) : Bool := (bssOn n s).any fun e => decide (0 < e.2.groupReady)

/-- A RAD_CALIBRATE in force mode waits for its CTS-to-self (R50). -/
def ctsDue (n : Nat) (s : State) : Bool := (slice n s).calJob.any fun j => j.forced && j.waits

/-- A TWT service period of a station is open (R124, R126). -/
def inService (h : Nat) (x : Station) (s : State) : Bool :=
  (x.twts.any (·.open_)) || s.mls.openSps.any fun e => s.mls.members.contains (e.1, e.2.1, e.2.2, h)

/-- A TXOP without users, for a frame of the slice's own. -/
def ownTxop (what : Nat) : Txop := ⟨3, what, [], 0, true, false, false, false, 0, [], [], false, 0, (0, 0), none⟩

/-- The plan begins the window on a slice with an idle gap of 200 µs, and it runs (R49, R146). -/
def inGap (n : Nat) (s : State) : Bool := bit s.mls.plan.gaps n && decide (runTime s < s.mls.startAt + 200000)

/-- A planned TXOP that may start: outside the gap left for calibration; from the brim on, only one for a TWT service period
that has begun (R139, R142, R146). -/
def plannedTxop (n ac : Nat) (s : State) : Option Txop :=
  (nextPlanned n s.mls.plan).bind fun t =>
    let serves := t.twt && t.users.any fun h => (station h s).any fun x => inService h x s
    if t.ac = ac ∧ (!s.mls.inBrim || serves) ∧ !(slice n s).radarMove ∧ !inGap n s then
      some ⟨ac, 0, t.users, 0, false, t.uplink, t.sounding, t.twt, 0, [], [], false, 0, (0, 0), some t⟩
    else none

/-- A management frame that is a channel switch announcement. -/
def isCsa (f : MgmtFrame) : Bool := match f.body with | .csa _ => true | _ => false

/-- The device may send to a station on a link: an EMLSR client is in no exchange, nor a transition delay, elsewhere, and from an
NSTR MLD it neither receives, nor has triggered it, on the other link of the pair the station declares (R122, R123). -/
def linkFree (h n : Nat) (s : State) : Bool :=
  (station h s).all fun x =>
    (x.kind != 3 || (!x.emlsrHold && x.emlsrOn.all (· == n)))
      && !(x.kind == 2 && bit x.nstrPair n && (others n).any fun m => bit x.nstrPair m
        && (((mac m s).fixed.any fun f => f.kind == 11 && f.users.contains h) || (slice m s).reception.any fun r => r.station == h))

/-- A management frame that may be sent: after radar only a channel switch announcement (R48). -/
def mgmtReady (n : Nat) (s : State) (f : MgmtFrame) : Bool :=
  !f.flight && (!(slice n s).radarMove || isCsa f) && linkFree f.station n s

/-- What the EDCA function of a category has to send, in order: on AC_VO a beacon, then management frames, the CTS-to-self, group
frames due, and planned TXOPs (R107; the order among them and group frames on AC_VO are DESIGN CHOICE, log 27). After radar only
beacons and channel switch announcements remain (R48). -/
def contents (n ac : Nat) (s : State) : List Txop :=
  let m := mac n s
  let x := slice n s
  (if ac = 3 && m.beaconWaits then [ownTxop 1] else [])
    ++ (if ac = 3 && m.mgmt.any (mgmtReady n s) then [ownTxop 2] else [])
    ++ (if ac = 3 && !x.radarMove && ctsDue n s then [ownTxop 4] else [])
    ++ (if ac = 3 && !x.radarMove && groupDue n s then [ownTxop 3] else [])
    ++ (plannedTxop n ac s).toList

/-- What it would send next. -/
def content (n ac : Nat) (s : State) : Option Txop := (contents n ac s).head?

/-! ### The medium (R56, R108) -/

/-- A slice receives a frame that may be for the device, or awaits a TB PPDU (R56). -/
def receiving (n : Nat) (s : State) : Bool :=
  (slice n s).rx == .tbWindow || (slice n s).reception.any fun r => r.tb || r.span || (r.lsig && !r.rejected)

/-- A reception of a slice runs, or its acknowledgement is owed or on the air (R56). -/
def exchanging (n : Nat) (s : State) : Bool :=
  receiving n s || (mac n s).response.isSome || (slice n s).tx.any fun p => p.kind == 4

/-- A transmission on the slice waits for the reception of its NSTR partner, its acknowledgement included (R56). -/
def nstrHeld (n : Nat) (s : State) : Bool := (others n).any fun m => nstr n m s && exchanging m s

/-- A subchannel is busy: the primary by its energy, another also by a PPDU on it (R108). -/
def ccaBusy (primary : Bool) (c : Cca) : Bool := decide (-62 ≤ c.energy) || (!primary && decide (-72 ≤ c.ppdu))

/-- Subchannels of a channel that were idle, as a mask. -/
def idleMask (c : Channel) (l : List Cca) : Nat :=
  bitsNat ((List.range (2 ^ c.width)).map fun i => !ccaBusy (i == c.primary) (l.getD i {}))

/-- The subchannels of the channel of a width code around the primary, as a mask. -/
def blockAt (c : Channel) (k : Nat) : Nat := (2 ^ 2 ^ k - 1) * 2 ^ (c.primary / 2 ^ k * 2 ^ k)

/-- The subchannels of such a channel that a mask leaves out form a pattern of IEEE 802.11be, or none. -/
def patternOk (c : Channel) (k mask : Nat) : Bool :=
  let out := (blockAt c k ^^^ (blockAt c k &&& mask)) / 2 ^ (c.primary / 2 ^ k * 2 ^ k)
  mask.testBit c.primary && (out == 0 || (punctures k).contains out)

/-- Width code and subchannels of a PPDU no wider than asked: an EHT PPDU leaves the busy ones out where the pattern is allowed;
any other, and an EHT PPDU where it is not, takes the widest channel around the primary whose subchannels were all idle (R108;
only an EHT PPDU takes a channel with statically punctured ones, DEDUCED, log 71). -/
def coverOf (c : Channel) (idle : Nat) (eht : Bool) (ask : Nat) : Nat × Nat :=
  let k := min ask c.width
  let free := idle &&& unpunctured c
  let whole (j : Nat) : Bool :=
    if eht then (blockAt c j &&& unpunctured c &&& idle) == (blockAt c j &&& unpunctured c) && patternOk c j free
    else (blockAt c j &&& free) == blockAt c j
  if eht && patternOk c k free then (k, blockAt c k &&& free)
  else
    let j := (((List.range (k + 1)).reverse).find? whole).getD 0
    (j, blockAt c j &&& unpunctured c)

/-- The primary subchannel's energy was below the threshold. -/
def primaryIdle (n : Nat) (s : State) : Bool :=
  (tuned n s).all fun c => !ccaBusy true ((mac n s).cca.getD c.primary {})

/-- The slice's medium is its own to take: no TXOP, PPDU, reception, calibration step or forced RAD_CALIBRATE of it runs, its
primary subchannel is idle and no NAV is set (R50, R108). -/
def mediumFree (n : Nat) (s : State) : Bool :=
  (mac n s).txop.isNone && (slice n s).tx.isNone && (slice n s).reception.isNone && (slice n s).calRunning.isNone
    && !((slice n s).calJob.any fun j => j.forced && !j.waits) && primaryIdle n s
    && decide ((mac n s).navIntra ≤ runTime s) && decide ((mac n s).navBasic ≤ runTime s)

/-! ### TXOPs begin (R34, R106, R107) -/

/-- The TXOP begins over the subchannels that were idle; a planned one leaves the plan. -/
def startTxop (n : Nat) (t : Txop) (s : State) : State :=
  let cover := match tuned n s with
    | some c => (c.width, idleMask c (mac n s).cca &&& unpunctured c)
    | none => (0, 0)
  let now := runTime s
  let s := onMac n (fun m => { m with txop := some { t with since := now, cover := cover } }) s
  markUse (match t.plan with
    | some p => onMls (fun m => { m with plan := { m.plan with txops := m.plan.txops.erase p } }) s
    | none => s)

/-- The TXOP ends without having sent anything and contends again: a planned one returns to the plan, in the brim only one
for a TWT service period (R34, R42, R139, R490). -/
def undoTxop (n : Nat) (s : State) : State :=
  match (mac n s).txop with
  | none => s
  | some t =>
    let s := onMac n (fun m => { m with txop := none, beaconWaits := m.beaconWaits || t.what == 1 }) s
    markUse (match t.plan with
      | some p => if t.begun || (s.mls.inBrim && !t.twt) then s else onMls (fun m => { m with plan := { m.plan with txops := { p with users := t.users } :: m.plan.txops } }) s
      | none => s)

/-- A transmit request waits for the synthesiser (R34). -/
def deferRequest (n ac what : Nat) (s : State) : State :=
  if (slice n s).deferred.contains (ac, what) then s else onSlice n (fun x => { x with deferred := x.deferred ++ [(ac, what)] }) s

/-- A transmit request of a category: it begins its TXOP, waits for the synthesiser, or fails (R34, R43, R56). -/
def requestTx (n ac : Nat) (s : State) : State :=
  match (slice n s).state with
  | .tuning =>
    match (contents n ac s).find? fun t => !(slice n s).deferred.contains (ac, t.what) with
    | some t => deferRequest n ac t.what s
    | none => s
  | .ready =>
    match content n ac s with
    | none => s
    | some t =>
      if txBlocked (slice n s) then lockedFrames n s
      else if nstrHeld n s || !mediumFree n s then s
      else startTxop n t s
  | _ => s

/-- The lower category of an internal collision behaves as after a failed transmission: its CW is doubled and the attempt of its
head MPDU counts (R106). Of a TXOP with several users that head is the first MPDU waiting of the first user that has one of the
category (DESIGN CHOICE, log 45). -/
def internalCollision (n : Nat) (s : State) (ac : Nat) : State :=
  let s := doubleCw n ac s
  match content n ac s with
  | none => s
  | some t =>
    match t.what with
    | 0 =>
      match t.users.findSome? fun h => (station h s).bind fun x =>
          (x.queue.find? fun m => acOf m.tid == ac && m.flight.isNone).map fun m => (h, m) with
      | some (h, m) => settleShapers (attemptFailed h m s)
      | none => s
    | 2 => match (mac n s).mgmt.find? (mgmtReady n s) with
      | some f => mgmtFailed n f s
      | none => s
    | _ => s

/-- Backoffs of access categories end in one slot: the highest with something to send transmits, the others collide (R106). -/
def backoffEnd (n : Nat) (ends : List Nat) (s : State) : State :=
  let l := ends.filter fun ac => (content n ac s).isSome
  match l.foldl (fun a ac => match a with | none => some ac | some b => some (max b ac)) (none : Option Nat) with
  | none => s
  | some w =>
    if (slice n s).state == .ready && (txBlocked (slice n s) || nstrHeld n s || !mediumFree n s) then requestTx n w s
    else (l.filter (· != w)).foldl (internalCollision n) (requestTx n w s)

/-- What a slice's subchannels showed over the PIFS before a transmission (R86, R108). -/
def noteCca (n : Nat) (l : List Cca) (s : State) : State := onMac n (fun m => { m with cca := l }) s

/-- EDCA_BACKOFF_END (R106): a slice, the access categories whose backoffs end in the slot, and its subchannels. -/
def execEdcaBackoffEnd (slice : Nat) (ends : List Nat) (cca : List Cca) (s : State) : Host.Outcome State Fault Refusal :=
  .next (backoffEnd slice ends (noteCca slice cca (start s)))

/-- TX_DEFER_EXPIRY (R34): the oldest request of the category fails with ST_SYNTH_NOT_READY and contends again with the same
CW. -/
def execTxDeferExpiry (slice ac : Nat) (s : State) : Host.Outcome State Fault Refusal :=
  .next (let s := start s
    match (Machine.slice slice s).deferred.find? fun e => e.1 == ac with
    | some e => onSlice slice (fun x => { x with deferred := x.deferred.erase e, nSynth := inc 32 x.nSynth }) s
    | none => s)

/-- The slice has left TUNING for READY: of the waiting requests one of the highest category begins its TXOP and is a deferred
transmit; the others contend again (R34). -/
def wakeDeferred (n : Nat) (s : State) : State :=
  let l := (slice n s).deferred
  let s := onSlice n (fun x => { x with deferred := [] }) s
  if l.isEmpty then s
  else
    let t := requestTx n ((l.map Prod.fst).foldl max 0) s
    if (mac n s).txop.isNone && (mac n t).txop.isSome then onSlice n (fun x => { x with nDeferred := inc 32 x.nDeferred }) t else t

/-- The slice has left TUNING for another state: every waiting request fails with ST_SYNTH_NOT_READY (R34). -/
def failDeferred (n : Nat) (s : State) : State :=
  onSlice n (fun x => { x with nSynth := addWrap 32 x.nSynth x.deferred.length, deferred := [] }) s

end Sys2Proof.Machine
end

