-- ==== Sys2Proof/Machine/Crown.lean ====
section
/-! DEFINITION. The Crown cache: its slots, eviction, staging and demand fetches, and the engine that moves entries
(chapter 06, R151 to R165). -/
namespace Sys2Proof.Machine

/-- A station is pinned under the settings of the last plan committed. -/
def pinned (h : Nat) (s : State) : Bool := s.mls.committed.pins.contains h

/-- Pool slots, W (R152). -/
def poolSlots (c : SchedSettings) : Nat := 96 - c.pins.length - c.reserve

/-- Operations queued or in flight. -/
def crownOps (s : State) : List CrownOp := s.mls.queue ++ s.mls.flight

/-- An entry is being fetched. -/
def fetching (h : Nat) (s : State) : Bool := (crownOps s).any fun o => o.fetch && o.station == h

/-- An entry is being written back. -/
def writingBack (h : Nat) (s : State) : Bool := (crownOps s).any fun o => !o.fetch && o.station == h

/-- MPDUs of a station are held, or lie between stages 5 and 8 of R23. -/
def stagesBusy (h : Nat) (s : State) : Bool :=
  (s.mls.hold.any fun x => x.mpdu.station == h) || s.air.mic.any fun x => x.station == h

/-- MPDUs of a station are in flight, or a response of it is still to be judged. -/
def flightBusy (h : Nat) (s : State) : Bool :=
  ((station h s).any fun x => x.queue.any fun m => m.flight.isSome)
    || s.air.macs.toList.any fun m => m.fixed.any fun f => f.users.contains h

/-- An entry may be evicted (R158). -/
def evictable (e : CrownEntry) (s : State) : Bool := !e.inUse && !flightBusy e.station s && !stagesBusy e.station s

/-- An entry is used: it becomes the most recently used, and dirty where the use changes it (R151); in a reserve slot its linger
time starts anew behind the use (R162). -/
def touch (h : Nat) (dirty : Bool) (s : State) : State :=
  onMls (fun m => { m with
    crown := (m.crown.filter fun e => e.station != h)
      ++ (m.crown.filter fun e => e.station == h).map fun e => { e with dirty := e.dirty || dirty, lingering := e.lingering || e.role == .reserve } }) s

/-- An entry leaves the Crown: a dirty one is written back before its slot is reused (R158). -/
def evict (deadline : Nat) (e : CrownEntry) (s : State) : State :=
  onMls (fun m => { m with
    crown := m.crown.filter fun x => x.station != e.station
    evicted := (e.station :: m.evicted.1.filter (· != e.station), m.evicted.2)
    queue := if e.dirty then m.queue ++ [⟨e.station, false, false, deadline⟩] else m.queue
    stats := if e.dirty then { m.stats with writebacks := inc 64 m.stats.writebacks } else m.stats }) s

/-- The pool entry to evict: the least recently used, a clean one before a dirty one (R158). -/
def poolVictim (s : State) : Option CrownEntry :=
  let l := s.mls.crown.filter fun e => e.role == .pool && evictable e s
  (l.find? fun e => !e.dirty).or l.head?

/-- Pool slots taken or asked for. -/
def poolUsed (s : State) : Nat :=
  (s.mls.crown.filter fun e => e.role == .pool).length
    + ((crownOps s).filter fun o => o.fetch && !o.demand && !pinned o.station s).length

/-- Pool entries beyond the pool's size are evicted while some may be. -/
def trimPool (deadline extra : Nat) : Nat → State → State
  | 0, s => s
  | k + 1, s =>
    if poolUsed s + extra ≤ poolSlots s.mls.committed then s
    else match poolVictim s with
      | some e => trimPool deadline extra k (evict deadline e s)
      | none => s

/-- Crown counters changed by a function. -/
def onCrownStats (f : CrownStats → CrownStats) (s : State) : State := onMls (fun m => { m with stats := f m.stats }) s

/-- A staging fetch of a planned user joins the queue (R156); one of a station evicted in this or the previous window is a
refetch (R167). -/
def stageUser (deadline : Nat) (s : State) (h : Nat) : State :=
  if resident h s || fetching h s then s
  else
    let again := s.mls.evicted.1.contains h || s.mls.evicted.2.contains h
    let s := trimPool deadline (if pinned h s then 0 else 1) 96 s
    onCrownStats (fun c => { c with fetches := inc 64 c.fetches, refetches := if again then inc 32 c.refetches else c.refetches })
      (onMls (fun m => { m with queue := m.queue ++ [⟨h, true, false, deadline⟩] }) s)

/-- Reserve slots taken or asked for. -/
def reserveUsed (s : State) : Nat :=
  (s.mls.crown.filter fun e => e.role == .reserve).length + ((crownOps s).filter fun o => o.fetch && o.demand).length

/-- A station is being admitted: its handshake runs (R152). -/
def admitting (h : Nat) (s : State) : Bool := (station h s).any fun x => decide (x.state < 3)

/-- The reserve entry that a waiting demand fetch replaces: the least recently used without held MPDUs, MPDUs between stages 5
and 8, or a handshake under way; a fetch that waits ends its linger time (R152, R162). -/
def reserveVictim (s : State) : Option CrownEntry :=
  s.mls.crown.find? fun e => e.role == .reserve && evictable e s && !admitting e.station s

/-- Demand fetches that wait take the reserve slots that are free or can be freed (R162). -/
def serveWaiting : Nat → State → State
  | 0, s => s
  | k + 1, s =>
    match s.mls.waiting with
    | [] => s
    | h :: r =>
      let take (t : State) : State := onMls (fun m =>
        { m with waiting := r, queue := m.queue ++ [⟨h, true, true, runTime s⟩] }) t
      if reserveUsed s < s.mls.committed.reserve then serveWaiting k (take s)
      else match reserveVictim s with
        | some e => serveWaiting k (take (evict (runTime s) e s))
        | none => s

/-- An operation may be issued: a fetch waits for the write-back of the same entry and for a free slot (R155). -/
def opStartable (o : CrownOp) (s : State) : Bool :=
  !o.fetch || (!writingBack o.station s
    && decide (s.mls.crown.length + s.mls.flight.length + (s.mls.queue.filter fun x => !x.fetch).length < 96))

/-- The earliest deadline of a list of operations. -/
def earliest (l : List CrownOp) : Option CrownOp :=
  l.foldl (fun a o => match a with
    | none => some o
    | some b => if o.deadline < b.deadline then some o else some b) none

/-- The operation the engine issues next: a demand fetch ahead of staging operations whose deadline is more than 10 µs away,
else the staging operation with the earliest deadline (R155). -/
def nextOp (s : State) : Option CrownOp :=
  let l := s.mls.queue.filter fun o => opStartable o s
  let staging := earliest (l.filter fun o => !o.demand)
  match l.find? (·.demand), staging with
  | some d, some o => if runTime s + 10000 < o.deadline then some d else some o
  | some d, none => some d
  | none, o => o

/-- The engine issues queued operations, four in flight at most (R155). -/
def crownIssue : Nat → State → State
  | 0, s => s
  | k + 1, s =>
    if 4 ≤ s.mls.flight.length then s
    else match nextOp s with
      | none => s
      | some o => crownIssue k (onMls (fun m => { m with queue := m.queue.erase o, flight := m.flight ++ [o] }) s)

/-- The engine goes on: pool entries beyond the pool's size are worked off, and queued operations issued (R155, R163). -/
def crownGo (s : State) : State := crownIssue 4 (trimPool (runTime s) 0 96 s)

/-- A demand fetch into a reserve slot for a station that is neither resident nor being fetched (R160); with every reserve
slot busy it waits, and is counted as a reserve wait (R162). -/
def demandFetch (h : Nat) (s : State) : State :=
  if resident h s || fetching h s || s.mls.waiting.contains h then s
  else
    let s := onCrownStats (fun c => { c with demand := inc 64 c.demand })
      (onMls (fun m => { m with waiting := m.waiting ++ [h], ratio := (m.ratio.1, m.ratio.2.1, m.ratio.2.2.1, m.ratio.2.2.2 + 1) }) s)
    let s := serveWaiting 96 s
    let s := if s.mls.waiting.contains h then
        onCrownStats (fun c => { c with waits := inc 32 c.waits })
          (onMls (fun m => { m with ratio := (m.ratio.1, m.ratio.2.1, m.ratio.2.2.1 + 1, m.ratio.2.2.2) }) s)
      else s
    crownGo s

/-- Settings are committed: the Crown's slots take their roles, and pinned stations' entries are fetched (R152, R159, R163). -/
def commitCrown (c : SchedSettings) (s : State) : State :=
  let s := onMls (fun m => { m with
    committed := c
    crown := m.crown.map fun e =>
      if c.pins.contains e.station then { e with role := .pinned } else if e.role = .pinned then { e with role := .pool } else e }) s
  crownGo (c.pins.foldl (stageUser (runTime s)) s)

/-- Rounds the staging budget plans for some operations, and whether they meet a deadline that far away (R156). -/
def stagesInTime (lead : Nat) (ops : Nat) (s : State) : Bool := decide ((ops + 3) / 4 * s.mls.committed.budget ≤ lead)

/-- Operations that staging a list of users takes: fetches, dirty victims, and staging operations queued with an earlier or
equal deadline (R156). -/
def stagingOps (users : List Nat) (deadline : Nat) (s : State) : Nat :=
  let need := users.filter fun h => !resident h s && !fetching h s
  let room := poolSlots s.mls.committed - poolUsed s
  let out := need.length - room
  let victims := s.mls.crown.filter fun e => e.role == .pool && evictable e s
  let clean := (victims.filter fun e => !e.dirty).length
  need.length + (out - clean) + ((s.mls.queue.filter fun o => !o.demand && decide (o.deadline ≤ deadline))).length

/-- Users that can be staged by a deadline `lead` tenths of a microsecond away: the latest-ranked non-pinned users are dropped
until they can (R156). -/
def affordable (lead deadline : Nat) (s : State) : Nat → List Nat → List Nat
  | 0, l => l
  | k + 1, l =>
    if stagesInTime lead (stagingOps l deadline s) s then l
    else match l.reverse.find? fun h => !pinned h s with
      | some h => affordable lead deadline s k (l.reverse.erase h).reverse
      | none => l

/-- The staging deadline of a TXOP whose slice is free from a device time on, in ns: 24 µs before its earliest start, an AIFS
later (R156). -/
def stagingDeadline (n ac free : Nat) (s : State) : Nat := free + aifs n ac s * 1000 - 24000

/-- Staging of a slice's next TXOP begins: its users are fetched into the staging half by the deadline that follows from the
device time at which the slice is free (R156). -/
def stageNext (n free : Nat) (p : Plan) (s : State) : Plan × State :=
  match nextPlanned n p with
  | none => (p, s)
  | some t =>
    let deadline := stagingDeadline n t.ac free s
    let users := affordable ((deadline - runTime s) / 100) deadline s t.users.length t.users
    let t2 := { t with users := users }
    let p2 := { p with txops := if users.isEmpty then p.txops.erase t else p.txops.map fun x => if x = t then t2 else x }
    (p2, users.foldl (stageUser deadline) s)

end Sys2Proof.Machine
end

