-- ==== Sys2Proof/Machine/Radio.lean ====
section
/-! DEFINITION. The radio slices: states, tuning, calibration, tuners, DFS, the Halo canceller's training, captures, and the
commands and events of group 0x02 (chapter 02). -/
namespace Sys2Proof.Machine

/-- The radio group changed by a function. -/
def onRadio (f : Radio → Radio) (s : State) : State := { s with radio := f s.radio }

/-! ### Windows (R137) -/

/-- Half of the pool, H (R152). -/
def halfOf (c : SchedSettings) : Nat := (96 - c.pins.length - c.reserve) / 2

/-- The shares of the busy slices (R153). -/
def sharesOf (half : Nat) (c : SchedSettings) (busy : List Nat) : Tri Nat :=
  let total := (busy.map fun n => c.weights.get n).sum
  let base := busy.map fun n => (n, half * c.weights.get n / total)
  let left := half - (base.map Prod.snd).sum
  (base.mapIdx fun i e => (e.1, e.2 + b2n (decide (i < left)))).foldl (fun t e => t.set e.1 e.2) (.all 0)

/-- A plan with no TXOP, under settings. -/
def emptyPlan (c : SchedSettings) : Plan := ⟨[], 0, halfOf c, .all 0, [], 0⟩

/-- A slice takes part in plans (R18, R28, R42, R48, R143). -/
def inPlan (n : Nat) (s : State) : Bool :=
  let x := slice n s
  x.state == .ready && !txBlocked x && !dutyNear n s && !x.radarMove && x.tuning.isNone && !haloPending n s

/-- What the snapshot takes beside the scheduler's settings: slice pairs and turbo passes (R18, R57, R77). -/
def commitShared (s : State) : State :=
  let s := pairsCommit s
  { s with modem := { s.modem with lda := { s.modem.lda with passesNext := s.modem.lda.passes } } }

/-- What the snapshot took holds from the window's start. -/
def startShared (s : State) : State :=
  let s := pairsStart s
  { s with modem := { s.modem with lda := { s.modem.lda with passesNow := s.modem.lda.passesNext } } }

/-- A plan without TXOPs over the slices that take part: its half and shares (R152, R153). -/
def sharedPlan (c : SchedSettings) (s : State) : Plan :=
  let busy := [0, 1, 2].filter fun n => inPlan n s
  ⟨[], bitsNat ([0, 1, 2].map fun n => inPlan n s), halfOf c, sharesOf (halfOf c) c busy, [],
    bitsNat ([0, 1, 2].map fun n => inPlan n s && !(slice n s).calQueue.isEmpty)⟩

/-- Windows run while a slice is READY: they end when the last one leaves READY, and resume with the next index,
the first plan committed as its window starts (R137; DEDUCED, log 31). -/
def windowsFollow (s : State) : State :=
  let ready := s.radio.slices.toList.any fun x => x.state == .ready
  if s.mls.running && !ready then
    onMls (fun m =>
      { m with running := false, inBrim := false, plan := emptyPlan m.inForce, next := none, sampled := none
               stats := { m.stats with planned := m.plan.stations.length } }) s
  else if !s.mls.running && ready then
    let s := commitCrown s.mls.settings (startShared (commitShared s))
    let plan := sharedPlan s.mls.settings s
    onMls (fun m =>
      { m with running := true, everRan := true, index := if m.everRan then inc 32 m.index else m.index, start := rawTime s
               startAt := runTime s
               snapshot := m.settings, inForce := m.settings, plan := plan, evicted := ([], m.evicted.1)
               twtSnap := m.twt, twtNow := m.twt }) s
  else s

/-! ### States of a slice (R30, R46) -/

/-- FEM_CTLx for reception, with the LNA on or, where the AGC has bypassed it, off (R46; when it does is the AGC's, log 28). -/
def femReceive (n : Nat) (s : State) : BitVec 4 :=
  match (slice n s).fem, tuned n s with
  | true, some c => (if bandOf c.centre = 0 then 0b0011 else 0b1011) ||| (if (slice n s).lnaBypass then 0b0100 else 0)
  | _, _ => 0

/-- FEM_CTLx for transmission (R46). -/
def femTransmit (n : Nat) (s : State) : BitVec 4 :=
  match (slice n s).fem, tuned n s with
  | true, some c => if bandOf c.centre = 0 then 0b0001 else 0b1001
  | _, _ => 0

/-- FEM_CTLx driven for what the slice does. -/
def driveFem (n : Nat) (s : State) : State :=
  let v := if (slice n s).tx.isSome then femTransmit n s else femReceive n s
  onSlice n (fun x => { x with femCtl := v }) s

/-! ### The receiver's search (R87, R103) -/

/-- Acquisition counters of a slice changed by a function. -/
def onCounters (n : Nat) (f : AcqCounters → AcqCounters) (s : State) : State :=
  onSlice n (fun x => { x with counters := f x.counters }) s

/-- The slice's detector is blanked: the slice or its NSTR partner transmits, or it is not READY (R87). -/
def blankedNow (n : Nat) (s : State) : Bool :=
  (slice n s).state != .ready || (slice n s).tx.isSome || (others n).any fun m => nstr n m s && (slice m s).tx.isSome

/-- The receiver returns to search under the settings last accepted, or is blanked (R87, R103). -/
def toSearch (n : Nat) (s : State) : State :=
  let p : RxPhase := if blankedNow n s then .blanked else .search
  driveFem n (onSlice n (fun x => { x with rx := p, reception := none, preset := none, acqNow := x.acq, lnaBypass := false }) s)

/-- A transmission of a slice is over: detectors it blanked search again (R87). -/
def unblank (n : Nat) (s : State) : State :=
  (n :: others n).foldl (fun t m =>
    if (slice m t).rx == .blanked && (slice m t).reception.isNone && !blankedNow m t then toSearch m t else t) s

/-- The slice's RAD_CAPTURE_IQ. -/
def captureOf (n : Nat) (s : State) : Option AsyncCmd :=
  s.mbox.async.find? fun a => a.code == 0x020B && rd a.payload 0 1 == n

/-- The slice leaves READY and CAC: its capture ends with ST_BAD_STATE (R59). -/
def endCapture (n : Nat) (s : State) : State :=
  let s := onSlice n (fun x => { x with capture := none }) s
  match captureOf n s with
  | some a => endAsync a ST.badState [] s
  | none => s

/-- An MPDU of a PPDU that was never sent waits again; one never sent before is protected anew (R131). -/
def unfix (s : State) (e : Nat × Nat) : State :=
  onStation e.1 (fun x => { x with queue := x.queue.map fun y =>
    if y.id = e.2 then { y with flight := none, slot := if y.attempts = 0 then none else y.slot } else y }) s

/-- The attempt of an MPDU whose response will not be heard has failed (R113). -/
def loseAttempt (s : State) (e : Nat × Nat) : State :=
  match (station e.1 s).bind fun x => x.queue.find? fun y => y.id == e.2 with
  | some m => attemptFailed e.1 m s
  | none => s

/-- A PPDU fixed and not judged is given up: its MPDUs are in flight no longer, and one that was sent has failed. -/
def releaseFixed (n : Nat) (s : State) : State :=
  match (mac n s).fixed with
  | none => s
  | some f =>
    let s := onMac n (fun m => { m with fixed := none, mgmt := m.mgmt.map fun g => { g with flight := false } }) s
    if f.kind = 13 then s else settleShapers (f.mpdus.foldl (if f.sent then loseAttempt else unfix) s)

/-- An RX vector with its end cause set (R102). -/
def setCause (cause : Nat) (v : Bytes) : Bytes := if v.length < 37 then v else v.take 36 ++ leBytes 1 cause ++ v.drop 37

/-- The vectors kept with the MPDUs of one PPDU take its end cause (R102). -/
def markEnd (n stamp cause : Nat) (s : State) : State :=
  let one : Frame → Frame := fun f => if f.slice = n ∧ f.first = stamp then { f with vector := setCause cause f.vector } else f
  let s := onMls (fun m => { m with hold := m.hold.map fun x =>
    if x.slice = n ∧ x.stamp = stamp then { x with vector := setCause cause x.vector } else x }) s
  onAir (fun a => { a with
    mic := a.mic.map fun x => { x with msdus := x.msdus.map one }
    stations := Tab.mapVals (fun x => { x with sessions := Tab.mapVals (fun y =>
      { y with held := y.held.map fun h => { h with msdus := h.msdus.map (·.map one) } }) x.sessions }) a.stations }) s

/-- A reception ends early with an end cause; its vector says so where it delivered an MPDU (R87, R100, R102). -/
def cutReception (n cause : Nat) (s : State) : State :=
  match (slice n s).reception with
  | none => s
  | some r => onSlice n (fun x =>
      { x with reception := none
               lastRx := some ({ r with vectors := Tab.mapVals (setCause cause) r.vectors }, cause)
               rxVector := if r.delivered = 0 then x.rxVector else setCause cause x.rxVector
               counters := if cause = 2 then { x.counters with cut := inc 32 x.counters.cut } else x.counters })
      (if r.delivered = 0 then s else markEnd n r.stamp cause s)

/-- The PPDU on the air is cut with the slice's power: what it blanked searches again. -/
def cutTx (n : Nat) (s : State) : State :=
  if (slice n s).tx.isSome then unblank n (onSlice n (fun x => { x with tx := none }) (paStops n s)) else s

/-- What leaving READY ends on a slice: its reception, its TXOP and planned TXOPs, and the soft-buffer entries of its link. A PPDU
on the air finishes as it started, unless the slice loses its power (R18, R84, R87, R120, R150). -/
def leaveReady (n : Nat) (off : Bool) (s : State) : State :=
  let s := cutReception n 3 s
  let s := if off then cutTx n s else s
  let s := if (slice n s).tx.isSome then s else releaseFixed n s
  let s := onMac n (fun m => { m with txop := none, response := none, navIntra := 0, navBasic := 0, beaconWaits := false, cca := [] }) s
  let s := onSlice n (fun x => { x with deferred := [], radarMove := false, preset := none }) s
  let s := onMac n (fun m => { m with mgmt := m.mgmt.filter fun f => !isCsa f }) s
  let s := onAir (fun a => { a with bss := Tab.mapVals (fun b => if b.slice = n then { b with csaCount := 0 } else b) a.bss }) s
  let s := onModem (fun m => { m with soft := m.soft.filter fun e => e.slice != n }) s
  let drop : Plan → Plan := fun p => { p with txops := p.txops.filter fun t => t.slice != n }
  markUse (onMls (fun m => { m with plan := drop m.plan, next := m.next.map drop }) s)

/-- A slice enters a state. Requests that wait for the synthesiser fail where it is not READY (R34). -/
def enterState (n : Nat) (st : SliceState) (s : State) : State :=
  let was := (slice n s).state
  let s := if was = .ready && st != .ready then leaveReady n (st == .off) s else s
  let s := if was = .tuning && st != .tuning && st != .ready then failDeferred n s else s
  let s := toSearch n (onSlice n (fun x => { x with state := st }) s)
  let s := if (was == .ready || was == .cac) && st != .ready && st != .cac then endCapture n s else s
  windowsFollow s

/-- State codes (R30). -/
def sliceCode : SliceState → Nat
  | .off => 0 | .stopped => 1 | .tuning => 2 | .cac => 3 | .ready => 4 | .fault => 5

/-! ### Tuners (R44, R45) -/

/-- A chain of a slice changed by a function. -/
def onChain (n i : Nat) (f : Chain → Chain) (s : State) : State := onSlice n (fun x => { x with chains := x.chains.modify i f }) s

/-- The payload of the tuner and mismatch events (R60). -/
def chainPayload (n i : Nat) (s : State) : Bytes :=
  leBytes 1 n ++ leBytes 1 i ++ leBytes 1 (((slice n s).chains[i]?.map (·.gamma)).getD 0)

/-- A port is auto-tuned to the codes found; a lasting failure holds it at its last codes (R44, R58). -/
def autoTune (n i : Nat) (r : Nat × Nat × Retry) (s : State) : State :=
  let set := onChain n i fun c => { c with shunt := r.1 % 64, series := r.2.1 % 64, held := false }
  match r.2.2 with
  | .ok => set s
  | .retried => set (transientFault 0x0203 (chainPayload n i s) s)
  | .lasting => lastingFault 0x0203 (chainPayload n i s) false (onChain n i (fun c => { c with held := true }) s)

/-- A channel change auto-tunes every port: held codes end and disabled chains transmit again (R44, R45, R59). -/
def tuneAll (n : Nat) (tune : List (Nat × Nat × Retry)) (s : State) : State :=
  (List.range 8).foldl (fun t i =>
    let t := onChain n i (fun c => { c with held := false, below := 0, band := if c.band = .disabled then .normal else c.band }) t
    autoTune n i (tune.getD i (0, 0, .ok)) t) s

/-- The mismatch band of a measured |gamma| x 255 (R44). -/
def bandFor (g : Nat) : GammaBand :=
  if 70 * 255 < g * 100 then .disabled else if 50 * 255 < g * 100 then .reduced
  else if 33 * 255 < g * 100 then .warning else .normal

/-- Hundredths of |gamma| of a band's threshold. -/
def bandThreshold : GammaBand → Nat
  | .normal => 0 | .warning => 33 | .reduced => 50 | .disabled => 70

/-- Order of the bands. -/
def bandRank : GammaBand → Nat
  | .normal => 0 | .warning => 1 | .reduced => 2 | .disabled => 3

/-- A chain enters a band: its event, its auto-tune, and the power change Halo sees (R38, R44). A held port keeps its codes. The
bands are read as exclusive: a chain that jumps past a band raises the event of the one it enters alone, and only an entry into
the warning band itself auto-tunes (DESIGN CHOICE, log 72). -/
def enterBand (n i : Nat) (b : GammaBand) (tune : Nat × Nat × Retry) (s : State) : State :=
  let old := ((slice n s).chains[i]?.map (·.band)).getD .normal
  let held := ((slice n s).chains[i]?.map (·.held)).getD false
  let s := onChain n i (fun c => { c with band := b, below := 0 }) s
  let s := if (old == .reduced) != (b == .reduced) then haloChange n s else s
  match b with
  | .normal => s
  | .warning =>
    let s := raise 0x0203 (chainPayload n i s) s
    if held then s else haloChange n (autoTune n i tune s)
  | .reduced => raise 0x0204 (chainPayload n i s) s
  | .disabled => raise 0x0205 (chainPayload n i s) s

/-- One measurement of a chain: a higher band is entered at once, a lower one after 10 consecutive PPDUs at least 0.05 below
the band's threshold (R44). -/
def measureChain (n i g : Nat) (tune : Nat × Nat × Retry) (s : State) : State :=
  let s := onChain n i (fun c => { c with gamma := g }) s
  match (slice n s).chains[i]? with
  | none => s
  | some c =>
    let b := bandFor g
    if bandRank c.band < bandRank b then enterBand n i b tune s
    else if c.band = .normal then s
    else if g * 100 + 5 * 255 ≤ bandThreshold c.band * 255 then
      if 10 ≤ c.below + 1 then enterBand n i b tune s else onChain n i (fun c => { c with below := c.below + 1 }) s
    else onChain n i (fun c => { c with below := 0 }) s

/-- The reflected power of a PPDU on its active chains; in FEM mode each group of four with an active chain reads one detector,
and all four chains of the group follow it, masked ones too (R44, R46). -/
def measureGamma (n : Nat) (gamma : List Nat) (tune : List (Nat × Nat × Retry)) (s : State) : State :=
  let on := chainsOn (slice n s)
  let fem := (slice n s).fem
  let chains := if fem then (List.range 8).filter fun i => on.any fun j => j / 4 == i / 4 else on
  let s := chains.foldl (fun t i =>
    measureChain n i (gamma.getD (if fem then i / 4 * 4 else i) 0) (tune.getD i (0, 0, .ok)) t) s
  if txBlocked (slice n s) then lockedFrames n s else s

/-! ### Calibration (R36, R49, R50, R58) -/

/-- Length of a calibration kind, µs (R49). -/
def calLength (kind : Nat) : Nat := ([150, 400, 500, 300, 1200] : List Nat).getD kind 0

/-- Steps of at most 180 µs of a kind. -/
def calSteps (kind : Nat) : Nat := (calLength kind + 179) / 180

/-- The kinds of a mask. -/
def kindsOf (mask : Nat) : List Nat := (List.range 5).filter fun k => bit mask k

/-- The slice's RAD_CALIBRATE. -/
def calCommand (n : Nat) (s : State) : Option AsyncCmd :=
  s.mbox.async.find? fun a => a.code == 0x0203 && rd a.payload 0 1 == n

/-- The completion payload of RAD_CALIBRATE. -/
def calDone (n : Nat) (j : CalJob) (discarded : Nat) : Bytes :=
  leBytes 1 n ++ leBytes 1 j.done ++ leBytes 1 j.failed ++ leBytes 1 j.retried
    ++ leBytes 4 ((j.lastEnd - j.since) / 1000) ++ leBytes 1 discarded ++ leBytes 3 0

/-- RAD_CALIBRATE ends. -/
def endCal (n status discarded : Nat) (s : State) : State :=
  match (slice n s).calJob with
  | none => s
  | some j =>
    let s := onSlice n (fun x => { x with calJob := none }) s
    match calCommand n s with
    | some a => endAsync { a with retried := j.retried != 0 } status (calDone n j discarded)
        (setAsync a { a with retried := j.retried != 0 } s)
    | none => s

/-- The queue of a slice without the kinds of a mask. -/
def dropKinds (mask : Nat) (l : List CalStep) : List CalStep := l.filter fun c => !bit mask c.kind

/-- A channel change discards the queued calibrations; a RAD_CALIBRATE among them ends with ST_OK (R36). -/
def discardCal (n : Nat) (s : State) : State :=
  let gone := match (slice n s).calJob with | some j => bitsNat ((List.range 5).map fun k => bit j.kinds k && !bit j.done k && !bit j.failed k) | none => 0
  endCal n ST.ok gone (onSlice n (fun x => { x with calQueue := [] }) s)

/-- RAD_CALIBRATE is stopped before its first step: its kinds leave the queue. -/
def withdrawCal (n status : Nat) (s : State) : State :=
  match (slice n s).calJob with
  | none => s
  | some j => endCal n status 0 (onSlice n (fun x => { x with calQueue := dropKinds j.kinds x.calQueue }) s)

/-- The command ends once none of its kinds is queued or running (R50, R58, R277). -/
def settleCal (n : Nat) (s : State) : State :=
  match (slice n s).calJob with
  | none => s
  | some j =>
    if ((slice n s).calQueue ++ (slice n s).calRunning.toList).any fun c => bit j.kinds c.kind then s
    else endCal n (if j.failed = 0 then ST.ok else ST.faultLasting) 0 s

/-- EV_RAD_SLICE_FAULT's payload (R60). -/
def faultPayload (n cause kind : Nat) : Bytes := leBytes 1 n ++ leBytes 1 cause ++ leBytes 1 kind

/-- A periodic calibration is due: it is queued where the slice is READY and the kind is not queued already (R49). -/
def calibrationDue (n kind : Nat) (temp : Int) (s : State) : State :=
  let s := onSlice n (fun x => { x with temperature := temp }) s
  let x := slice n s
  if x.state != .ready || decide (4 < kind) || (x.calQueue ++ x.calRunning.toList).any (fun c => c.kind == kind) then s
  else onSlice n (fun x => { x with calQueue := x.calQueue ++ [⟨kind, calSteps kind, false⟩] }) s

/-- CALIBRATION_DUE (R49). -/
def execCalibrationDue (slice kind : Nat) (temp : Int) (s : State) : Host.Outcome State Fault Refusal :=
  .next (calibrationDue slice kind temp (start s))

/-- A queued step starts: on a STOPPED slice at once, on a READY one in an idle gap, or behind the CTS-to-self of a command in
force mode (R49, R50). -/
def calStepStart (n : Nat) (s : State) : State :=
  let x := slice n s
  let idle := match x.state with
    | .stopped => true
    | .ready => (mac n s).txop.isNone && x.tx.isNone && x.reception.isNone && !(x.calJob.any fun j => j.forced && j.waits)
    | _ => false
  match x.calQueue with
  | c :: r =>
    if !idle || x.calRunning.isSome then s
    else if classFull 9 s then refuseClass 9 s
    else
      let s := onSlice n (fun x => { x with calQueue := r, calRunning := some c }) s
      if x.calJob.any fun j => bit j.kinds c.kind then passPoint 0x0203 (fun a => rd a.payload 0 1 == n) s else s
  | [] => s

/-- CALIBRATION_STEP_START (R49). -/
def execCalibrationStepStart (slice : Nat) (s : State) : Host.Outcome State Fault Refusal :=
  .next (calStepStart slice (start s))

/-- A kind of the outstanding command is noted in a field. -/
def noteKind (n kind : Nat) (f : CalJob → Nat → CalJob) (s : State) : State :=
  onSlice n (fun x => { x with calJob := x.calJob.map fun j => if bit j.kinds kind then f j (2 ^ kind) else j }) s

/-- A bit set in a mask. -/
def setBit (mask b : Nat) : Nat := mask ||| b

/-- A step of the outstanding command has ended now (R59). -/
def noteStepEnd (n kind : Nat) (s : State) : State :=
  let now := runTime s
  onSlice n (fun x => { x with calJob := x.calJob.map fun j => if bit j.kinds kind then { j with lastEnd := now } else j }) s

/-- A calibration step ends: the next step of the kind is queued, the kind is done, or the step is retried or fails (R58). -/
def calStepDone (n : Nat) (ok : Bool) (temp : Int) (s : State) : State :=
  match (slice n s).calRunning with
  | none => s
  | some c =>
    let s := noteStepEnd n c.kind (onSlice n (fun x => { x with calRunning := none, temperature := temp }) s)
    let pay := faultPayload n 1 (2 ^ c.kind)
    let live := (slice n s).state == .ready || (slice n s).state == .stopped
    if ok then
      let s := if c.failed then noteKind n c.kind (fun j b => { j with retried := setBit j.retried b }) (transientFault 0x020A pay s) else s
      if !live then s
      else if 1 < c.left then onSlice n (fun x => { x with calQueue := ⟨c.kind, c.left - 1, false⟩ :: x.calQueue }) s
      else
        let s := noteKind n c.kind (fun j b => { j with done := setBit j.done b }) s
        let s := onSlice n (fun x => { x with calFailed := x.calFailed &&& (31 - 2 ^ c.kind) }) s
        let s := onRadio (fun r => { r with lastCalibration := Tab.put r.lastCalibration (5 * n + c.kind) [temp] }) s
        settleCal n s
    else if !c.failed then
      if !live then s
      else onSlice n (fun x =>
        { x with calQueue := if x.state = .ready && x.calJob.any (fun j => j.forced)
            then x.calQueue ++ [{ c with failed := true }] else { c with failed := true } :: x.calQueue }) s
    else
      let s := noteKind n c.kind (fun j b => { j with failed := setBit j.failed b }) s
      let s := onSlice n (fun x => { x with calFailed := setBit x.calFailed (2 ^ c.kind), calQueue := dropKinds (2 ^ c.kind) x.calQueue }) s
      settleCal n (lastingFault 0x020A pay true s)

/-- CALIBRATION_STEP_DONE (R58). -/
def execCalibrationStepDone (slice : Nat) (ok : Bool) (temp : Int) (s : State) : Host.Outcome State Fault Refusal :=
  .next (calStepDone slice ok temp (start s))

/-! ### Tuning (R33, R35, R36, R58) -/

/-- The slice's RAD_SET_CHANNEL. -/
def setChannelOf (n : Nat) (s : State) : Option AsyncCmd :=
  s.mbox.async.find? fun a => a.code == 0x0201 && rd a.payload 0 1 == n

/-- The completion payload of RAD_SET_CHANNEL: the channel in force. -/
def channelDone (n : Nat) (band retried : Bool) (lockUs calUs : Nat) (s : State) : Bytes :=
  let c := match (slice n s).state with | .cac => (slice n s).channel | .ready => (slice n s).channel | _ => none
  leBytes 1 n ++ leBytes 1 (sliceCode (slice n s).state) ++ leBytes 2 ((c.map (·.centre)).getD 0)
    ++ leBytes 1 ((c.map (·.width)).getD 0xFF) ++ leBytes 1 (bitsNat [band, retried, c.any fun d => isDfs d s])
    ++ leBytes 2 lockUs ++ leBytes 2 calUs ++ leBytes 2 0

/-- RAD_SET_CHANNEL ends, where one owns the change; a completed one is kept in the shadow, where it ends the slice's held and
set codes (R17, R336). -/
def endSetChannel (n status : Nat) (payload : Bytes) (retried : Bool) (s : State) : State :=
  match setChannelOf n s with
  | none => s
  | some a =>
    let s := endAsync { a with retried := retried } status payload (setAsync a { a with retried := retried } s)
    if status != ST.ok then s
    else cfgKeep 0x0201 0 1 a.payload (cfgDrop (fun r => r.code == 0x0206 && rd r.payload 0 1 == n
      && (rd r.payload 2 1 == 1 || rd r.payload 2 1 == 3)) s)

/-- The slice enters STOPPED: no channel, no Halo coefficients (R31). -/
def stopSlice (n : Nat) (s : State) : State :=
  let s := onSlice n (fun x => { x with tuning := none, channel := none, requested := none, backup := none }) s
  haloChange n (enterState n .stopped s)

/-- EV_PWR_STATE's payload (R420). -/
def statePayload (old new cause : Nat) (s : State) : Bytes :=
  leBytes 1 old ++ leBytes 1 new ++ leBytes 1 cause ++ leBytes 1 s.power.wakeSource

/-- The completion payload of PWR_SET_STATE (R418). -/
def stateDone (old new removed frames : Nat) : Bytes :=
  leBytes 1 old ++ leBytes 1 new ++ leBytes 2 removed ++ leBytes 4 frames

/-- The way back to RUN ends once every slice has left TUNING (R401). -/
def runReached (s : State) : State :=
  if !s.power.changing || s.power.target != some .run || s.radio.slices.toList.any (fun x => x.tuning.isSome) then s
  else
    let s := raise 0x0101 (statePayload 1 0 0 s) (onPower (fun p => { p with changing := false, target := none }) s)
    match firstAsync 0x0101 s with
    | some a => endAsync a ST.ok (stateDone 1 0 0 0) s
    | none => s

/-- The hop begins: the target is judged again, since regulatory data may have changed; a slice without one stops (R31, R35,
R36). A tune from STOPPED or FAULT, which takes the times of a change of band, counts as one in the completion's flag (DESIGN
CHOICE, log 72). -/
def beginHop (n : Nat) (tune : List (Nat × Nat × Retry)) (s : State) : State :=
  match (slice n s).tuning with
  | none => s
  | some t =>
    let s := discardCal n (passPoint 0x0201 (fun a => rd a.payload 0 1 == n) s)
    let old := if (slice n s).state = .fault then none else (slice n s).channel
    match t.channel.filter fun c => permitted c s with
    | none =>
      let s := stopSlice n s
      runReached (endSetChannel n ST.ok (channelDone n false false 0 0 s) false s)
    | some c =>
      let band := match old with | some o => bandOf o.centre != bandOf c.centre | none => true
      let s := onSlice n (fun x => { x with channel := none, last := old, requested := some c, backup := t.backup, radarMove := false, haloWait := true
                                            tuning := some { t with begun := true, band := band } }) s
      haloChange n (tuneAll n tune (enterState n .tuning s))

/-- A change may begin: the current TXOP, PPDU and calibration step have ended (R18, R36). -/
def mayHop (n : Nat) (s : State) : Bool :=
  ((slice n s).tuning.any fun t => !t.begun) && (mac n s).txop.isNone && (slice n s).tx.isNone && (slice n s).calRunning.isNone

/-- CHANNEL_CHANGE_APPLY (R18): the slice's TXOP has ended; the tuner codes each port finds. -/
def execChannelChangeApply (slice : Nat) (tune : List (Nat × Nat × Retry)) (s : State) : Host.Outcome State Fault Refusal :=
  .next (let s := start s
    if mayHop slice s then beginHop slice tune s else s)

/-- The slice is READY on its channel: EV_RAD_CHANNEL_READY, and waiting transmit requests go (R34, R35). -/
def becomeReady (n : Nat) (s : State) : State :=
  let s := enterState n .ready s
  let c := (slice n s).channel
  let s := raise 0x0208 (leBytes 1 n ++ leBytes 2 ((c.map (·.centre)).getD 0) ++ leBytes 1 ((c.map (·.width)).getD 0)) s
  wakeDeferred n (settleHaloWait n (if txBlocked (slice n s) then lockedFrames n s else s))

/-- Tuning is complete: CAC on a DFS channel, READY on any other; EV_CMD_DONE follows (R35, R47). -/
def tuningDone (n calUs : Nat) (s : State) : State :=
  match (slice n s).tuning with
  | none => s
  | some t =>
    let dfs := t.channel.any fun c => isDfs c s
    let s := onSlice n (fun x => { x with tuning := none, channel := t.channel }) s
    let fin (u : State) : State :=
      endSetChannel n ST.ok (channelDone n t.band t.lockFailed t.lockUs calUs u) (t.lockFailed || t.calFailed) u
    runReached (if dfs then fin (enterState n .cac s)
      else becomeReady n (fin (enterState n .ready s)))

/-- Tuning has failed lastingly: the slice is in FAULT (R58). -/
def tuningFails (n cause kind calUs : Nat) (s : State) : State :=
  match (slice n s).tuning with
  | none => s
  | some t =>
    let s := lastingFault 0x020A (faultPayload n cause kind) true s
    let s := onSlice n (fun x => { x with tuning := none, channel := none }) s
    let s := enterState n .fault s
    runReached (endSetChannel n ST.faultLasting (channelDone n t.band t.lockFailed t.lockUs calUs s) false s)

/-- The slice is in TUNING and awaits its lock. -/
def awaitsLock (n : Nat) (s : State) : Bool :=
  (slice n s).state == .tuning && (slice n s).tuning.any fun t => t.begun && !t.locked

/-- The synthesiser has locked: fast calibrations follow a change of band (R33). -/
def synthLocked (n lockUs : Nat) (retried : Bool) (s : State) : State :=
  let s := onSlice n (fun x => { x with tuning := x.tuning.map fun t =>
    { t with locked := true, lockUs := lockUs, lockFailed := retried } }) s
  if (slice n s).tuning.any fun t => t.band then s else tuningDone n 0 s

/-- SYNTH_LOCK (R33): slice and lock time. -/
def execSynthLock (slice lockUs : Nat) (s : State) : Host.Outcome State Fault Refusal :=
  .next (let s := start s
    if awaitsLock slice s then synthLocked slice lockUs false s else s)

/-- SYNTH_LOCK_RETRY (R58): the retried lock's outcome and time. -/
def execSynthLockRetry (slice : Nat) (ok : Bool) (lockUs : Nat) (s : State) : Host.Outcome State Fault Refusal :=
  .next (let s := start s
    if !awaitsLock slice s then s
    else if ok then synthLocked slice lockUs true (transientFault 0x020A (faultPayload slice 0 0) s)
    else tuningFails slice 0 0 0 (onSlice slice (fun x => { x with tuning := x.tuning.map fun t =>
      { t with lockFailed := true, lockUs := lockUs } }) s))

/-- TUNING_CALIBRATION_DONE (R33, R58): the outcome of the fast calibrations, the kind bit of one that failed, their time and
the temperature. -/
def execTuningCalibrationDone (slice : Nat) (hw : Retry) (kind calUs : Nat) (temp : Int) (s : State) :
    Host.Outcome State Fault Refusal :=
  .next (let s := start s
    if (Machine.slice slice s).state != .tuning || !((Machine.slice slice s).tuning.any fun t => t.locked && t.band) then s
    else
      let s := onSlice slice (fun x => { x with temperature := temp }) s
      match hw with
      | .ok => tuningDone slice calUs s
      | .retried => tuningDone slice calUs (onSlice slice (fun x => { x with tuning := x.tuning.map fun t => { t with calFailed := true } })
          (transientFault 0x020A (faultPayload slice 1 kind) s))
      | .lasting => tuningFails slice 1 kind calUs s)

/-- CAC_ELAPSED (R47). -/
def execCacElapsed (slice : Nat) (s : State) : Host.Outcome State Fault Refusal :=
  .next (let s := start s
    if (Machine.slice slice s).state == .cac then becomeReady slice s else s)

/-! ### Radar (R47, R48) -/

/-- A change of channel that no command owns. -/
def moveTo (n : Nat) (c : Option Channel) (s : State) : State :=
  onSlice n (fun x => { x with tuning := some ⟨c, none, false, false, false, false, false, 0⟩ }) s

/-- The backup channel, where it may be used. -/
def usableBackup (n : Nat) (s : State) : Option Channel :=
  (slice n s).backup.filter fun c => permitted c s && !channelBad n c s

/-- The struck channel is marked unavailable (R47). -/
def markStruck (c : Channel) (s : State) : State := onRadio (fun r => { r with nonOccupancy := r.nonOccupancy ++ [c] }) s

/-- Radar is confirmed on a slice; on a channel without the DFS flag nothing follows (R47, R48). -/
def radarDetected (n : Nat) (tune : List (Nat × Nat × Retry)) (s : State) : State :=
  let x := slice n s
  match x.channel with
  | none => s
  | some c =>
    if !isDfs c s || x.radarMove || (x.state != .cac && x.state != .ready) then s
    else
      let s := onSlice n (fun x => { x with nRadar := inc 32 x.nRadar }) s
      let b := (usableBackup n s).filter fun d => !overlap c d
      let s := raise 0x0202 (leBytes 1 n ++ leBytes 2 c.centre ++ leBytes 1 (b2n b.isSome)) s
      if x.state = .cac then
        let s := markStruck c s
        beginHop n tune (if x.tuning.isSome then s else moveTo n b s)
      else
        let s := onSlice n (fun x => { x with radarMove := true, backup := b }) s
        let s := onAir (fun a => { a with bss := Tab.mapVals (fun y => if y.slice = n then { y with csaCount := 2 } else y) a.bss }) s
        let drop : Plan → Plan := fun p => { p with txops := p.txops.filter fun t => t.slice != n }
        let s := onMls (fun m => { m with plan := drop m.plan, next := m.next.map drop }) s
        let csa (count : Nat) : MgmtFrame := coreFrame 0xFFFF 0xFFFFFFFFFFFF 10 (.csa count)
        markUse (onMac n (fun m => { m with mgmt := m.mgmt ++ (bssOn n s).map (fun _ => csa 2) ++ (bssOn n s).map fun _ => csa 1 }) s)

/-- RADAR_DETECTED (R48): the slice, and the tuner codes of a move that follows at once from CAC. In CAC a RAD_SET_CHANNEL already
accepted takes the slice elsewhere itself (DESIGN CHOICE, log 48). -/
def execRadarDetected (slice : Nat) (tune : List (Nat × Nat × Retry)) (s : State) : Host.Outcome State Fault Refusal :=
  .next (radarDetected slice tune (start s))

/-- Before the channel move time: the old channel becomes unavailable, and the slice changes to its backup channel or stops; a
RAD_SET_CHANNEL already accepted takes it elsewhere itself (R48). -/
def radarMoves (n : Nat) (tune : List (Nat × Nat × Retry)) (s : State) : State :=
  let x := slice n s
  if !x.radarMove then s
  else
    let s := match x.channel with | some c => markStruck c s | none => s
    let s := onSlice n (fun x => { x with radarMove := false }) s
    let s := onMac n (fun m => { m with mgmt := m.mgmt.filter fun f => !isCsa f }) s
    let s := if x.tuning.isSome then s else moveTo n (usableBackup n s) s
    if mayHop n s then beginHop n tune s else s

/-- RADAR_CHANNEL_MOVE (R48). -/
def execRadarChannelMove (slice : Nat) (tune : List (Nat × Nat × Retry)) (s : State) : Host.Outcome State Fault Refusal :=
  .next (radarMoves slice tune (start s))

/-- NON_OCCUPANCY_END (R47): the channel by width code and centre. -/
def execNonOccupancyEnd (width centre : Nat) (s : State) : Host.Outcome State Fault Refusal :=
  .next (onRadio (fun r => { r with nonOccupancy := r.nonOccupancy.filter fun c => !(c.width == width && c.centre == centre) }) (start s))

/-! ### TX_TMO (R43) -/

/-- PA-on time reaches TX_TMO: the PPDU is aborted and the slice TX locked (R43, R150). -/
def txTimeout (n : Nat) (s : State) : State :=
  match (slice n s).tx with
  | none => s
  | some _ =>
    let on := bitsNat ((List.range 8).map fun i => (chainsOn (slice n s)).contains i)
    let s := releaseFixed n (onMac n (fun m => { m with txop := none }) (paTimedOut n s))
    let s := onSlice n (fun x => { x with tx := none, txLock := true, nTimeout := inc 32 x.nTimeout }) s
    let s := unblank n (driveFem n s)
    let s := onRadio (fun r => { r with coexReq := false, coexPri := false }) s
    let drop : Plan → Plan := fun p => { p with txops := p.txops.filter fun t => t.slice != n }
    let s := markUse (onMls (fun m => { m with plan := drop m.plan, next := m.next.map drop }) s)
    let s := raise 0x0201 (leBytes 1 n ++ leBytes 1 on ++ leBytes 2 (slice n s).txTmo) s
    lockedFrames n (if ctsDue n s then withdrawCal n ST.txLocked s else s)

/-- TX_TMO_EXPIRY (R43). -/
def execTxTmoExpiry (slice : Nat) (s : State) : Host.Outcome State Fault Refusal := .next (txTimeout slice (start s))

/-! ### Halo training (R28, R55) -/

/-- The pair's payload for EV_RAD_STR_FALLBACK and the records of its training (R60). -/
def pairPayload (a b : Nat) : Bytes := leBytes 1 (min a b) ++ leBytes 1 (max a b)

/-- A training of a victim towards an aggressor succeeds; a pair in fall-back is judged with Halo again once both directions
are trained (R28, R55, R60). -/
def haloSuccess (v a : Nat) (s : State) : State :=
  let now := runTime s
  let s := onHalo v a (fun h =>
    { h with valid := true, last := some now, training := false, failed := false, settled := true, stale := false }) s
  let s := if (pairOf v a s).fallback && haloFresh v a s then
      raise 0x0207 (pairPayload v a) (onPair v a (fun p => { p with fallback := false }) s) else s
  settleHaloWait a (settleHaloWait v s)

/-- The tick of one direction: a retry or a training starts, or a quiet interval keeps valid coefficients (R55); a training that its full
class refuses counts as failed (R350). -/
def haloTick (v a : Nat) (s : State) : State :=
  let h := halo v a s
  if !needsHalo v a s then onHalo v a (fun h => { h with training := false, failed := false }) s
  else if h.training || h.await.isSome then s
  else if h.failed then onHalo v a (fun h => { h with training := true }) s
  else if (slice a s).airtime < 200 then (if h.valid then haloSuccess v a s else s)
  else if classFull 9 s then onHalo v a (fun h => { h with failed := true }) (refuseClass 9 s)
  else onHalo v a (fun h => { h with training := true }) s

/-- HALO_TRAINING_TICK (R28). -/
def execHaloTrainingTick (s : State) : Host.Outcome State Fault Refusal :=
  .next (let s := start s
    let s := [0, 1, 2].foldl (fun t v => (others v).foldl (fun u a => haloTick v a u) t) s
    [0, 1, 2].foldl (fun t n => onSlice n (fun x => { x with airtime := 0 }) t) s)

/-- HALO_TRAINING_DONE (R54, R55): victim, aggressor, outcome, and the 768 coefficients found. -/
def execHaloTrainingDone (victim aggressor : Nat) (ok : Bool) (coeff : List (Int × Int)) (s : State) :
    Host.Outcome State Fault Refusal :=
  .next (let s := start s
    if !(halo victim aggressor s).training || decide (2 < victim) || decide (2 < aggressor) || victim == aggressor then s
    else if ok then
      let s := if (halo victim aggressor s).failed then transientFault 0x0206 (pairPayload victim aggressor) s else s
      haloSuccess victim aggressor (onHalo victim aggressor (fun h =>
        { h with coeff := coeff.take 768 ++ List.replicate (768 - coeff.length) (0, 0) }) s)
    else if (halo victim aggressor s).failed then
      settleHaloWait aggressor (settleHaloWait victim (lastingRecord 0x0206 (pairPayload victim aggressor) false
        (onHalo victim aggressor (fun h => { h with training := false, failed := false, settled := true }) s)))
    else onHalo victim aggressor (fun h => { h with training := false, failed := true }) s)

/-- The directions of a pair without a success for 300 ms by the clock; where the clock names none, both (log 49). -/
def staleSides (a b : Nat) (s : State) : List (Nat × Nat) :=
  let old : Nat × Nat → Bool := fun e => !(halo e.1 e.2 s).last.any fun t => decide (runTime s < t + 300000000)
  let l := [(a, b), (b, a)].filter old
  if l.isEmpty then [(a, b), (b, a)] else l

/-- HALO_FALLBACK (R28): a pair that needs Halo has had no successful training for 300 ms. -/
def execHaloFallback (a b : Nat) (s : State) : Host.Outcome State Fault Refusal :=
  .next (let s := start s
    if decide (2 < a) || decide (2 < b) || a == b || !needsHalo a b s || (pairOf a b s).fallback then s
    else
      let s := (staleSides a b s).foldl (fun t e => onHalo e.1 e.2 (fun h => { h with stale := true }) t) s
      let s := onHalo a b (fun h => { h with settled := true }) (onHalo b a (fun h => { h with settled := true }) s)
      let s := onPair a b (fun p => { p with fallback := true }) s
      raise 0x0206 (pairPayload a b ++ leBytes 1 1) (settleHaloWait a (settleHaloWait b s)))

/-! ### Commands -/

/-- A slice that is OFF (R58 commands). -/
def sliceOff (n : Nat) (s : State) : Bool × Nat := (!powered (3 + n) s || (slice n s).state == .off, ST.poweredOff)

/-- The channel at an offset of RAD_SET_CHANNEL: width, centre, primary and puncture. -/
def channelArg (w c p : Nat) (punct : Nat) : Channel := ⟨w, c, p, BitVec.ofNat 16 punct⟩

/-- RAD_SET_CHANNEL up to ST_PENDING: the hop begins at CHANNEL_CHANGE_APPLY (R32, R35, R271). A calibration gives way (R36). -/
def setChannel (u : Ump) (s : State) : Reply :=
  let n := u.b8 0
  let stop := u.b8 1 == 0xFF
  let c := channelArg (u.b8 1) (u.b16 2) (u.b8 4) (u.b16 6)
  let b := channelArg (u.b8 10) (u.b16 8) (u.b8 11) (u.b16 12)
  let backup := !stop && bit (u.b8 5) 0
  let held := s.mbox.async.any fun a => a.code != 0x0203 && a.locks.contains (.slice n)
  judge ([short u 16, badSlice n, sliceOff n s, param (!stop && channelBad n c s), param (backup && channelBad n b s)]
    ++ gate 0x0201 true [] s
    ++ [(held, ST.busy), (!stop && !permitted c s, ST.regulatoryDenied), (backup && !permitted b s, ST.regulatoryDenied)]) s
    fun _ =>
      pending u 0x0201 [.slice n] (onSlice n (fun x =>
        { x with tuning := some ⟨if stop then none else some c, if backup then some b else none, false, false, false, false, false, 0⟩ }) s)

/-- RAD_SET_CHANNEL (R35). -/
def execRadSetChannel (m : Ump) (s : State) : Host.Outcome State Fault Refusal := .next (serve 0x0201 setChannel m s)

/-- The channel the status page shows (R58 commands). -/
def shownChannel (n : Nat) (s : State) : Option Channel :=
  match (slice n s).state with
  | .tuning => (slice n s).requested
  | .fault => (slice n s).requested
  | .cac => (slice n s).channel
  | .ready => (slice n s).channel
  | _ => none

/-- Age of the coefficients of a victim towards an aggressor, ms. -/
def haloAge (v a : Nat) (s : State) : Nat :=
  match (halo v a s).last with
  | some t => min 0xFFFE ((runTime s - t) / 1000000)
  | none => 0xFFFF

/-- A mask of the eight chains by a test. -/
def chainMaskOf (f : Nat → Bool) : Nat := bitsNat ((List.range 8).map f)

/-- The status page (R58 commands). "Duty limited" is read as the duty at which planning stops, 0.99 times the limit (DESIGN CHOICE,
log 72). -/
def statusPage (n : Nat) (s : State) : Bytes :=
  let x := slice n s
  let c := shownChannel n s
  leBytes 1 n ++ leBytes 1 (sliceCode x.state)
    ++ leBytes 1 (bitsNat [x.txLock, x.fem, c.any (fun d => isDfs d s), s.radio.llt.isSome, dutyNear n s])
    ++ leBytes 1 ((c.map (·.width)).getD 0xFF) ++ leBytes 2 ((c.map (·.centre)).getD 0) ++ leBytes 1 ((c.map (·.primary)).getD 0)
    ++ leBytes 1 0 ++ leBytes 2 ((c.map fun d => d.puncture.toNat).getD 0)
    ++ leBytes 1 (chainMaskOf fun i => (chainsOn x).contains i)
    ++ leBytes 1 (chainMaskOf fun i => (x.chains[i]?.map (·.band)) == some .reduced)
    ++ leBytes 1 (bitsNat ([0, 1, 2].map fun m => m != n && (pairOf n m s).now.1))
    ++ leBytes 1 (bitsNat ([0, 1, 2].map fun m => m != n && (pairOf n m s).now.2))
    ++ leBytes 2 (paUsed n s / 100000) ++ (x.chains.map fun k => leBytes 1 k.gamma).flatten
    ++ leBytes 2 x.txTmo ++ leBytes 2 x.txDefer ++ wrS 2 x.maxPower ++ wrS 2 x.temperature
    ++ leBytes 4 x.nDeferred ++ leBytes 4 x.nSynth ++ leBytes 4 x.nTimeout ++ leBytes 4 x.nClip ++ leBytes 4 x.nDuty
    ++ leBytes 4 x.nRadar
    ++ leBytes 2 (haloAge n ((others n).getD 0 0) s) ++ leBytes 2 (haloAge n ((others n).getD 1 0) s) ++ leBytes 4 0

/-- The acquisition page: the settings in force are those of the current search (R103, R104). -/
def acquisitionPage (n : Nat) (s : State) : Bytes :=
  let x := slice n s
  let k := x.counters
  leBytes 1 n ++ leBytes 1 1 ++ wrS 1 x.acqNow.detection ++ leBytes 1 x.acqNow.capture ++ leBytes 1 x.acqNow.tolerance ++ leBytes 3 0
    ++ leBytes 4 k.detections ++ leBytes 4 k.lsigParity ++ leBytes 4 k.lsigRate ++ leBytes 4 k.lsigLength ++ leBytes 4 k.sigCrc
    ++ leBytes 4 k.ehtSigCrc ++ leBytes 4 k.dsssHeader ++ leBytes 4 k.foreign ++ leBytes 4 k.captures ++ leBytes 4 k.restarts
    ++ leBytes 4 k.overlaps ++ leBytes 4 k.cut ++ leBytes 4 k.tbMissing ++ leBytes 4 k.presetMisses

/-- RAD_GET_STATUS answers the page asked for (R59, R104). -/
def getStatus (u : Ump) (s : State) : Reply :=
  let n := u.b8 0
  judge ([short u 1, badSlice n, sliceOff n s, param (decide (1 < u.b8 1))] ++ gate 0x0202 false [] s) s fun _ =>
    reply (if u.b8 1 = 1 then acquisitionPage n s else statusPage n s) s

/-- RAD_GET_STATUS (R104). -/
def execRadGetStatus (m : Ump) (s : State) : Host.Outcome State Fault Refusal := .next (serve 0x0202 getStatus m s)

/-- RAD_CALIBRATE (R50). -/
def calibrate (u : Ump) (s : State) : Reply :=
  let n := u.b8 0
  let kinds := u.b8 1
  let force := u.b8 2 == 1
  let x := slice n s
  let ready := x.state == .ready
  let total := ((kindsOf kinds).map calLength).sum
  judge ([short u 4, badSlice n, sliceOff n s, param (kinds == 0 || decide (31 < kinds) || decide (1 < u.b8 2)),
      param (ready && force && decide (2000 < total))] ++ gate 0x0203 true [.slice n] s
    ++ [(!ready && x.state != .stopped, ST.badState), (ready && force && txBlocked x, ST.txLocked)]) s fun _ =>
    let steps : List CalStep := (kindsOf kinds).map fun k => ⟨k, calSteps k, false⟩
    let rest := dropKinds kinds x.calQueue
    pending u 0x0203 [.slice n] (onSlice n (fun x =>
      { x with calJob := some ⟨kinds, 0, 0, 0, ready && force, ready && force, runTime s, runTime s⟩
               calQueue := if ready && !force then rest ++ steps else steps ++ rest }) s)

/-- RAD_CALIBRATE (R50). -/
def execRadCalibrate (m : Ump) (s : State) : Host.Outcome State Fault Refusal := .next (serve 0x0203 calibrate m s)

/-- RAD_SET_TX_LIMITS (R18, R38). A mask that leaves only disabled chains locks the slice (R45). -/
def setTxLimits (u : Ump) (s : State) : Reply :=
  let n := u.b8 0
  let p := rdS u.data 2 2
  judge ([short u 8, badSlice n, sliceOff n s,
      param (u.b8 1 == 0 || decide (p < -40) || decide (64 < p) || decide (u.b16 4 < 5) || decide (150 < u.b16 4)
        || decide (500 < u.b16 6))] ++ gate 0x0204 false [.slice n] s) s fun _ =>
    let old := slice n s
    let t := onSlice n (fun x => { x with chainMask := BitVec.ofNat 8 (u.b8 1), maxPower := p, txTmo := u.b16 4, txDefer := u.b16 6 }) s
    let t := if 4 ≤ (p - old.maxPower).natAbs then haloChange n t else t
    reply [] (cfgKeep 0x0204 0 1 u.payload (if txBlocked (slice n t) && !txBlocked old then lockedFrames n t else t))

/-- RAD_SET_TX_LIMITS (R18). -/
def execRadSetTxLimits (m : Ump) (s : State) : Host.Outcome State Fault Refusal := .next (serve 0x0204 setTxLimits m s)

/-- A STR policy by its code (R57). -/
def policyOf : Nat → StrPolicy
  | 0 => .auto
  | 1 => .forceNstr
  | _ => .noHalo

/-- RAD_SET_STR: the policy takes effect at the next commit (R18, R57). -/
def setStr (u : Ump) (s : State) : Reply :=
  let a := u.b8 0
  let b := u.b8 1
  judge ([short u 4, param (decide (2 < a) || decide (2 < b) || a == b), sliceOff a s, sliceOff b s, param (decide (2 < u.b8 2))]
    ++ gate 0x0205 false [.slice a, .slice b] s) s fun _ =>
    reply [] (cfgKeepIf (fun r => r.code == 0x0205 && rd r.payload 0 1 + rd r.payload 1 1 == a + b) 0x0205 u.payload
      (onPair a b (fun p => { p with policy := policyOf (u.b8 2) }) s))

/-- RAD_SET_STR (R57). -/
def execRadSetStr (m : Ump) (s : State) : Host.Outcome State Fault Refusal := .next (serve 0x0205 setStr m s)

/-- The ports of a mask leave the kept hold and set records of a slice (R336). -/
def cfgPorts (n ports : Nat) (s : State) : State :=
  let mine (r : CfgRecord) : Bool :=
    r.code == 0x0206 && rd r.payload 0 1 == n && (rd r.payload 2 1 == 1 || rd r.payload 2 1 == 3)
  let cut (r : CfgRecord) : CfgRecord :=
    if mine r then
      { r with payload := r.payload.take 1 ++ leBytes 1 (chainMaskOf fun i => bit (rd r.payload 1 1) i && !bit ports i)
                 ++ r.payload.drop 2 }
    else r
  cfgDrop (fun r => mine r && rd r.payload 1 1 == 0) (onMem (fun m => { m with shadow := m.shadow.map cut }) s)

/-- The ports of a mask changed by a function. -/
def onPorts (_ ports : Nat) (f : Nat → State → State) (s : State) : State :=
  (List.range 8).foldl (fun t i => if bit ports i then f i t else t) s

/-- The codes that a retune finds for the ports of a mask: two bytes each, lowest port first; the run's outcome is that of the
lowest port. -/
def retunePorts (n ports : Nat) (codes : Bytes) (hw : Retry) (s : State) : State :=
  let l := (List.range 8).filter fun i => bit ports i
  (l.mapIdx fun k i => (i, rd codes (2 * k) 1, rd codes (2 * k + 1) 1, if k = 0 then hw else Retry.ok)).foldl
    (fun t e => autoTune n e.1 e.2 (onChain n e.1 (fun c => { c with held := false }) t)) s

/-- A retune that fails lastingly changes no codes; the port that failed is held at its last ones (R17, R58). -/
def retuneFails (n ports : Nat) (s : State) : State :=
  match (List.range 8).find? fun i => bit ports i with
  | some i => autoTune n i (0, 0, .lasting) s
  | none => s

/-- RAD_TUNER_CTL (R45, R46, R103). -/
def tunerCtl (u : Ump) (s : State) : Reply :=
  let n := u.b8 0
  let ports := u.b8 1
  let act := u.b8 2
  let det := rdS u.data 3 1
  judge (([(0, 3), (1, 3), (2, 3), (3, 5), (4, 3), (5, 6), (6, 6)].map fun e => (act == e.1 && decide (u.data.length < e.2), ST.badLength))
    ++ [short u 3, badSlice n, sliceOff n s, param (decide (6 < act)),
      param (act == 3 && (decide (63 < u.b8 3) || decide (63 < u.b8 4))), param (act == 5 && decide (1 < u.b8 5)),
      param (act == 6 && (decide (det < -95) || decide (-62 < det)
        || (u.b8 4 != 0 && (decide (u.b8 4 < 3) || decide (20 < u.b8 4))) || decide (u.b8 5 < 3) || decide (12 < u.b8 5)))]
    ++ gate 0x0206 false [.slice n] s ++ [(act == 5 && (slice n s).state != .stopped, ST.badState)]) s fun _ =>
    let keepOp (t : State) : State :=
      cfgKeepIf (fun r => r.code == 0x0206 && rd r.payload 0 1 == n && rd r.payload 2 1 == act) 0x0206 u.payload t
    let keepPorts (t : State) : State := onMem (fun m => { m with shadow := m.shadow ++ [⟨0x0206, u.payload⟩] }) (cfgPorts n ports t)
    match act with
    | 0 =>
      match u.env.hw with
      | .lasting => ⟨retuneFails n ports s, ST.faultLasting, [], true⟩
      | r => replyHw r [] (cfgPorts n ports (haloChange n (retunePorts n ports u.env.plain r s)))
    | 1 => reply [] (keepPorts (onPorts n ports (fun i => onChain n i fun c => { c with held := true }) s))
    | 2 => reply [] (cfgPorts n ports (onPorts n ports (fun i => onChain n i fun c => { c with held := false }) s))
    | 3 => reply [] (keepPorts (haloChange n
        (onPorts n ports (fun i => onChain n i fun c => { c with shunt := u.b8 3, series := u.b8 4, held := true }) s)))
    | 4 => reply [] (onPorts n ports (fun i => onChain n i fun c =>
        if c.band = .disabled then { c with band := .normal, below := 0 } else c) s)
    | 5 => reply [] (keepOp (onSlice n (fun x => { x with fem := u.b8 5 == 1 }) s))
    | _ => reply [] (keepOp (onSlice n (fun x => { x with acq := ⟨det, u.b8 4, u.b8 5⟩ }) s))

/-- RAD_TUNER_CTL (R45). -/
def execRadTunerCtl (m : Ump) (s : State) : Host.Outcome State Fault Refusal := .next (serve 0x0206 tunerCtl m s)

/-! ### The regulatory package and the locked limit table (R39, R41) -/

/-- Records of a region as type, length byte and body; none where they do not fill it exactly. At most `fuel` records. -/
def splitRecords : Nat → Bytes → Option (List (Nat × Nat × Bytes))
  | _, [] => some []
  | 0, _ => none
  | _ + 1, [_] => none
  | fuel + 1, t :: l :: r =>
    if r.length < l.toNat then none
    else (splitRecords fuel (r.drop l.toNat)).map fun x => (t.toNat, l.toNat, r.take l.toNat) :: x

/-- A channel rule. -/
def ruleBody (b : Bytes) : Limit := ⟨rd b 0 1, rd b 1 1, rd b 2 2, rd b 4 2, rdS b 6 2, rdS b 8 2, rd b 10 1, 0⟩

/-- A record is malformed: its type, its length byte, or a field of a rule (R39). A width mask that names no width is out of range,
and a lowest centre above the highest is not (DESIGN CHOICE, log 72). -/
def recordBad (r : Nat × Nat × Bytes) : Bool :=
  match r.1 with
  | 1 => r.2.1 != 12 || decide (2 < rd r.2.2 0 1) || rd r.2.2 1 1 == 0 || decide (31 < rd r.2.2 1 1)
  | 2 => r.2.1 != 8
  | 3 => r.2.1 != 24
  | _ => true

/-- The bodies of a record type. -/
def bodiesOf (t : Nat) (l : List (Nat × Nat × Bytes)) : List Bytes := (l.filter fun r => r.1 == t).map fun r => r.2.2

/-- The package of a header and its records. -/
def packageOf (d : Bytes) (l : List (Nat × Nat × Bytes)) : Rdp where
  country := rd d 6 2
  serial := rd d 8 4
  rules := (bodiesOf 1 l).map ruleBody
  dfs := (bodiesOf 2 l).head?.map fun b => (rd b 0 2, rd b 2 2, rd b 4 2, rd b 6 2)
  gains := match bodiesOf 3 l with
    | b :: _ => (List.range 24).map fun i => rdS b i 1
    | [] => List.replicate 24 0

/-- A slice whose channel is no longer permitted stops. A RAD_SET_CHANNEL whose hop has not begun goes on, and one under way ends. -/
def regulationStops (n : Nat) (s : State) : State :=
  let begun := (slice n s).state == .tuning
  let waits := (slice n s).tuning.filter fun t => !t.begun
  let s := discardCal n (stopSlice n s)
  if begun then endSetChannel n ST.ok (channelDone n false false 0 0 s) false s
  else onSlice n (fun x => { x with tuning := waits }) s

/-- Regulatory data changed: slices whose channel is no longer permitted stop, and EV_RAD_REG_CHANGED names them (R60). -/
def regulationChanged (s : State) : State :=
  let gone := [0, 1, 2].filter fun n => (tuned n s).any fun c => !allowed c s
  let s := gone.foldl (fun t n => regulationStops n t) s
  raise 0x020B (leBytes 1 0xFF ++ leBytes 1 (bitsNat ([0, 1, 2].map fun n => gone.contains n))) s

/-- Two capital letters: a country code (R39). -/
def countryOk (d : Bytes) : Bool := (List.range 2).all fun i => decide (0x41 ≤ rd d (6 + i) 1 ∧ rd d (6 + i) 1 ≤ 0x5A)

/-- RAD_LOAD_REGDOMAIN in the order of R39: the signature block is 7376 bytes (R296). -/
def loadRegdomain (u : Ump) (s : State) : Reply :=
  let d := u.data
  let n := rd d 12 4
  let recs := splitRecords 8192 ((d.drop 32).take n)
  let l := recs.getD []
  let rules := (bodiesOf 1 l).map ruleBody
  judge ([short u 32, (s.sec.lifecycle == .blank, ST.notAuthorised),
      (decide (12288 < d.length) || d.length != 32 + n + 7376 || recs.isNone, ST.badLength),
      param (rd d 0 4 != 0x50445252 || !countryOk d || l.any recordBad || decide (1 < (bodiesOf 2 l).length) || decide (1 < (bodiesOf 3 l).length)
        || ((rules.any fun r => bit r.flags 0) && (bodiesOf 2 l).isEmpty))]
    ++ gate 0x0207 false [] s
    ++ [(rd d 4 2 != 1, ST.versionMismatch), (!u.env.sig, ST.signatureFail),
      (s.radio.rdp.any fun p => decide (rd d 8 4 < p.serial), ST.versionMismatch)]) s fun _ =>
    replyFelt u.env.hw 0x0000 [] s (regulationChanged (onRadio (fun r => { r with rdp := some (packageOf d l) }) s))

/-- RAD_LOAD_REGDOMAIN (R39). -/
def execRadLoadRegdomain (m : Ump) (s : State) : Host.Outcome State Fault Refusal := .next (serve 0x0207 loadRegdomain m s)

/-- An entry of the limit table. -/
def entryBody (b : Bytes) : Limit := ⟨rd b 0 1, rd b 1 1, rd b 2 2, rd b 4 2, rdS b 6 2, rdS b 8 2, rd b 10 2, rdS b 12 2⟩

/-- RAD_LOCK_LLT in the order of R41. An image with a wrong length and an entry out of range returns ST_BAD_LENGTH: an entry is
judged where the length is right (DESIGN CHOICE, log 72). -/
def lockLlt (u : Ump) (s : State) : Reply :=
  let d := u.data
  let k := rd d 3 1
  let l := (List.range k).map fun i => entryBody (field d (16 + 16 * i) 16)
  let bad : Limit → Bool := fun e =>
    decide (2 < e.band) || e.widths == 0 || decide (31 < e.widths) || e.flags == 0 || decide (1000 < e.flags)
  judge ([short u 16, (s.sec.lifecycle != .provisioned, ST.notAuthorised), param (!u.force || k == 0 || decide (64 < k)),
      (d.length != 16 + 16 * k, ST.badLength), param (l.any bad)]
    ++ gate 0x020A false [] s
    ++ [(s.radio.llt.isSome, ST.badState),
      (rd d 0 2 != 0x4C4C || rd d 2 1 != 3 || rd d 12 4 != crc32c (d.drop 16), ST.badCrc)]) s fun _ =>
    replyFelt u.env.hw 0x3000 [] s (regulationChanged (onMem (fun m => { m with lltLock := true })
      (onRadio (fun r => { r with llt := some l }) s)))

/-- RAD_LOCK_LLT (R41). -/
def execRadLockLlt (m : Ump) (s : State) : Host.Outcome State Fault Refusal := .next (serve 0x020A lockLlt m s)

/-! ### Self test, TX lock and captures -/

/-- RAD_SELF_TEST: the test starts at once (R51). -/
def radSelfTest (u : Ump) (s : State) : Reply :=
  let n := u.b8 0
  judge ([short u 2, badSlice n, sliceOff n s, param (u.b8 1 == 0 || decide (3 < u.b8 1))] ++ gate 0x0208 true [.slice n] s
    ++ [((slice n s).state != .stopped, ST.badState)]) s fun _ =>
    pend (passPoint 0x0208 (fun a => rd a.payload 0 1 == n)
      (accept u 0x0208 [.slice n] (onSlice n (fun x => { x with selfTest := true }) s)))

/-- RAD_SELF_TEST (R51). -/
def execRadSelfTest (m : Ump) (s : State) : Host.Outcome State Fault Refusal := .next (serve 0x0208 radSelfTest m s)

/-- SELF_TEST_DONE (R51): the chains that passed BIST and loopback. -/
def execSelfTestDone (slice bist loop : Nat) (s : State) : Host.Outcome State Fault Refusal :=
  .next (let s := start s
    match s.mbox.async.find? fun a => a.code == 0x0208 && rd a.payload 0 1 == slice with
    | none => s
    | some a =>
      let t := rd a.payload 1 1
      endAsync a ST.ok (leBytes 1 (if bit t 0 then bist else 0) ++ leBytes 1 (if bit t 1 then loop else 0))
        (onSlice slice (fun x => { x with selfTest := false }) s))

/-- RAD_CLEAR_TX_LOCK (R43). -/
def clearTxLock (u : Ump) (s : State) : Reply :=
  let n := u.b8 0
  judge ([short u 1, badSlice n, sliceOff n s] ++ gate 0x0209 false [.slice n] s) s fun _ =>
    reply [] (onSlice n (fun x => { x with txLock := false }) s)

/-- RAD_CLEAR_TX_LOCK (R43). -/
def execRadClearTxLock (m : Ump) (s : State) : Host.Outcome State Fault Refusal := .next (serve 0x0209 clearTxLock m s)

/-- RAD_CAPTURE_IQ up to ST_PENDING: it waits for its trigger (R59, R373). -/
def captureIq (u : Ump) (s : State) : Reply :=
  let n := u.b8 0
  let x := slice n s
  let local_ := u.b64 8 == 0
  judge ([short u 20, badSlice n, sliceOff n s,
      param (u.b8 1 == 0 || decide (1 < u.b8 2) || decide (2 < u.b8 3) || u.b32 4 == 0 || decide (262144 < u.b32 4)
        || badHost (u.b64 8) || (local_ && decide (3 < u.b8 16)))]
    ++ gate 0x020B true [] s
    ++ [(x.capture.isSome || (local_ && (s.dsp.locked.contains (u.b8 16) || capturing (u.b8 16) s)), ST.busy),
      (x.state != .ready && x.state != .cac, ST.badState)]) s fun _ =>
    pending u 0x020B [] (onSlice n (fun x => { x with capture := some none }) s)

/-- RAD_CAPTURE_IQ (R59). -/
def execRadCaptureIq (m : Ump) (s : State) : Host.Outcome State Fault Refusal := .next (serve 0x020B captureIq m s)

/-- IQ_CAPTURE_TRIGGER (R59): the trigger fires, and the command can no longer be aborted. -/
def execIqCaptureTrigger (slice : Nat) (s : State) : Host.Outcome State Fault Refusal :=
  .next (let s := start s
    if (Machine.slice slice s).capture = some none then
      passPoint 0x020B (fun a => rd a.payload 0 1 == slice)
        (onSlice slice (fun x => { x with capture := some (some (rawTime s)) }) s)
    else s)

/-- The completion payload of RAD_CAPTURE_IQ. -/
def captureDone (a : AsyncCmd) (n stamp bytes : Nat) (s : State) : Bytes :=
  let p := a.payload
  leBytes 1 n ++ leBytes 1 (rd p 1 1) ++ leBytes 1 (rd p 3 1) ++ leBytes 1 (b2n (rd p 2 1 == 1 && haloOn n s))
    ++ leBytes 4 (rd p 4 4) ++ leBytes 4 stamp ++ leBytes 4 bytes
    ++ leBytes 2 (20 * 2 ^ (((slice n s).channel.map (·.width)).getD 0)) ++ leBytes 2 0

/-- A 16-bit sample, held at its limits. -/
def clamp16 (v : Int) : Int := max (-32768) (min 32767 v)

/-- A chain's samples after the canceller: the leakage of every aggressor it cancels is taken from each sample (R54, R59). -/
def cancelChain (n chain : Nat) (b : Bytes) (refs : List (Nat × List (List (Int × Int)))) (s : State) : Bytes :=
  ((List.range (b.length / 4)).map fun t =>
    let y : Int × Int := (rdS b (4 * t) 2, rdS b (4 * t + 2) 2)
    let z := (others n).foldl (fun z a =>
      if (pairOf n a s).now.2 then haloSubtract z (halo n a s).coeff chain (((refs.find? fun r => r.1 == a).map Prod.snd).getD []) t
      else z) y
    wrS 2 (clamp16 z.1) ++ wrS 2 (clamp16 z.2)).flatten

/-- The samples at the point asked for, chain by chain: as received, or after the canceller (R59). -/
def captureData (n chains count point : Nat) (samples : Bytes) (refs : List (Nat × List (List (Int × Int)))) (s : State) : Bytes :=
  let raw := fit (4 * count * popcount 8 chains) samples
  if point = 0 || !haloOn n s then raw
  else (((List.range 8).filter fun i => bit chains i).mapIdx fun k i =>
    cancelChain n i (field raw (4 * count * k) (4 * count)) refs s).flatten

/-- The last sample is written: to the host by DMA, or to the capture buffer (R59, R249). -/
def captureEnds (n : Nat) (samples : Bytes) (refs : List (Nat × List (List (Int × Int)))) (wr : Retry) (s : State) : State :=
  match (slice n s).capture, captureOf n s with
  | some (some stamp), some a =>
    let p := a.payload
    let data := captureData n (rd p 1 1) (rd p 4 4) (rd p 2 1) samples refs s
    let s := onSlice n (fun x => { x with capture := none }) s
    let done := captureDone a n stamp data.length s
    if rd p 8 8 = 0 then
      endAsync a ST.ok done (onDsp (fun d => { d with buffers := Tab.put d.buffers (rd p 16 1) data }) s)
    else match wr with
      | .lasting => endAsync a ST.faultLasting [] (dmaFault wr 0x020B a.tag s)
      | r => endAsync { a with retried := r != .ok } ST.ok done
          (setAsync a { a with retried := r != .ok } (emit (.dma (rd p 8 8) data) (dmaFault r 0x020B a.tag s)))
  | _, _ => s

/-- IQ_CAPTURE_DONE (R59): the samples before Halo, the reference streams of the other slices, and the outcome of a DMA write. -/
def execIqCaptureDone (slice : Nat) (samples : Bytes) (refs : List (Nat × List (List (Int × Int)))) (wr : Retry) (s : State) :
    Host.Outcome State Fault Refusal := .next (captureEnds slice samples refs wr (start s))

end Sys2Proof.Machine
end

