-- ==== Sys2Proof/Machine/Acquire.lean ====
section
/-! DEFINITION. Receive acquisition: detection, SIG checks, capture restart and the preset of trigger-based PPDUs (chapter 04). -/
namespace Sys2Proof.Machine

/-- The trigger exchange of a slice is over: its trigger frame awaits nothing more. -/
def endTrigger (n : Nat) (s : State) : State :=
  if (mac n s).fixed.any fun f => f.kind == 11 then onMac n (fun m => { m with fixed := none }) s else s

/-- The counter of the check that failed first (R94). -/
def countCheck (check : Nat) (c : AcqCounters) : AcqCounters :=
  let c := { c with falseThisSecond := incSat 65535 c.falseThisSecond }
  match check with
  | 1 => { c with lsigParity := inc 32 c.lsigParity }
  | 2 => { c with lsigRate := inc 32 c.lsigRate }
  | 3 => { c with lsigLength := inc 32 c.lsigLength }
  | 4 => { c with sigCrc := inc 32 c.sigCrc }
  | 5 => { c with ehtSigCrc := inc 32 c.ehtSigCrc }
  | _ => { c with dsssHeader := inc 32 c.dsssHeader }

/-! ### The SIG checks (R94, R95) -/

/-- The band a slice is tuned to. -/
def bandNow (n : Nat) (s : State) : Nat := ((tuned n s).map fun c => bandOf c.centre).getD 0

/-- What follows L-SIG is what its length selects: with RL-SIG, by its remainder modulo 3; without, no HE or EHT field. -/
def lengthSelects (d : Detection) : Bool :=
  if d.rlSig then match d.length % 3 with
    | 0 => isEht d.format
    | 1 => d.format == 4 || d.format == 6
    | _ => d.format == 5 || d.format == 9
  else decide (d.format ≤ 3)

/-- The SIG fields carry no value that R61 or R62 rules out. -/
def valuesOk (band : Nat) (d : Detection) : Bool :=
  !receives d.format || (formatFits d.format band d.width
    && (d.format == 1 || rateFits d.format d.streams d.mcs d.gi) && mcsFits d.format band d.width d.streams d.mcs d.dcm)

/-- The true offset lies beyond the range of the coarse estimate, which is then aliased (R91). -/
def cfoAliased (d : Detection) : Bool := decide (6250 < d.cfo.natAbs)

/-- The check of an OFDM detection that fails first: 1 L-SIG parity, 2 rate, 3 length, 4 SIG CRC, 5 EHT-SIG CRC; 0 none. An aliased
offset that leaves every field good fails the last check there is (R91; which one is a DESIGN CHOICE, log 41). -/
def ofdmCheck (band : Nat) (d : Detection) : Nat :=
  if !d.parity then 1
  else if !([12, 18, 24, 36, 48, 72, 96, 108] : List Nat).contains d.rate || (d.rlSig && d.rate != 12) then 2
  else if d.length = 0 then 3
  else if !lengthSelects d || (d.format != 1 && !d.sigCrc) || !valuesOk band d then 4
  else if (d.format == 7 || d.format == 10) && !d.ehtCrc then 5
  else if cfoAliased d then (if d.format = 1 then 1 else 4)
  else 0

/-- The check of a DSSS detection: 6 where its header fails. -/
def dsssCheck (d : Detection) : Nat := if d.sigCrc && ([2, 4, 11, 22] : List Nat).contains d.rate then 0 else 6

/-- A format that R61 does not list for reception, and an HE PPDU with Doppler midambles (R93, R95). -/
def foreignFormat (d : Detection) : Bool := !receives d.format || (isHe d.format && d.doppler)

/-! ### Acquisition (R86 to R92) -/

/-- The analog gain that places a level 24 dB below ADC full scale, dB (R89). -/
def gainFor (level : Int) : Int := Config.adcFullScale - 24 - level

/-- The digital trim applied, of the one asked for (R90). -/
def trimOf (d : Detection) : Int := if isHe d.format || isEht d.format then max (-24) (min 6 d.trim) else 0

/-- The carrier frequency offset as estimated: aliased beyond its range, which repeats every 1.25 MHz (R91). -/
def cfoEstimate (cfo : Int) : Int := (cfo + 6250) % 12500 - 6250

/-- The sampling frequency offset of a carrier frequency offset in 100 Hz at a centre in MHz, in ppb (R92). -/
def sfoOf (cfo : Int) (centre : Nat) : Int := cfo * 100000 / centre

/-- The energy that a detection shows on a slice's subchannels is passed to the air MAC (R86). -/
def passEnergy (n : Nat) (d : Detection) (s : State) : State :=
  if d.energy.isEmpty then s
  else onMac n (fun m => { m with cca := d.energy.mapIdx fun i e => { (m.cca.getD i {}) with energy := e } }) s

/-- The reception of a detected PPDU with what is frozen for it: its gain, trim, offsets, RSSI and start. -/
def receptionOf (n : Nat) (d : Detection) (flags restarts : Nat) (tb span : Bool) (reference level : Int) (s : State) : Reception :=
  let x := slice n s
  let cfo := cfoEstimate d.cfo
  { id := x.rxCount, format := d.format, duration := d.duration, reference := reference, width := d.width
    rssi := d.rssi, gain := gainFor level, trim := trimOf d, cfo := cfo
    sfo := sfoOf cfo ((x.channel.map (·.centre)).getD 1), lsig := !d.early, armed := true, tb := tb, span := span
    rejected := foreignFormat d, halo := haloOn n s
    flags := flags + (if trimOf d = d.trim || !(isHe d.format || isEht d.format) then 0 else 16) + (if d.ldpc then 32 else 0)
      + (if haloOn n s then 64 else 0)
    restarts := restarts, delivered := 0, stamp := (rawTime s + 2 ^ 32 - d.since % 2 ^ 32) % 2 ^ 32, station := 0xFFFF, vectors := [] }

/-- Acquisition of a detected PPDU up to its SIG checks: a reception, a foreign format, or a false detection (R86, R94, R95).
`check` is the check that fails first; `level` the level at which the gain was frozen or preset. -/
def acquire (n : Nat) (d : Detection) (check flags restarts : Nat) (tb span : Bool) (reference level : Int) (s : State) : State :=
  let s := passEnergy n d (onCounters n (fun c => { c with detections := inc 32 c.detections }) s)
  let s := onSlice n (fun x => { x with rxCount := x.rxCount + 1, lnaBypass := d.bypass }) s
  if d.early || check = 0 then
    let foreign := !d.early && foreignFormat d
    let s := if foreign then onCounters n (fun c => { c with foreign := inc 32 c.foreign }) s else s
    let r := receptionOf n d flags restarts tb span reference level s
    driveFem n (onSlice n (fun x =>
      { x with reception := some r, rx := if foreign then .foreign else .receiving, preset := none
               rxFrozen := false, rxMapFailed := false }) s)
  else toSearch n (if tb then endTrigger n (onCounters n (countCheck check) s) else onCounters n (countCheck check) s)

/-- The received power reaches the detection threshold (R86, R88). -/
def reaches (n : Nat) (d : Detection) (s : State) : Bool := decide ((slice n s).acqNow.detection * 10 ≤ d.power)

/-- A detection of ordinary search: the gain is frozen at the level found. -/
def acquireNew (n : Nat) (d : Detection) (flags restarts : Nat) (span : Bool) (s : State) : State :=
  acquire n d (ofdmCheck (bandNow n s) d) flags restarts false span d.reference (d.power / 10) s

/-- L-STF is found: in ordinary search, or within the TB window against the preset (R86, R96, R97). -/
def lstf (n : Nat) (d : Detection) (s : State) : State :=
  let x := slice n s
  let check := ofdmCheck (bandNow n s) d
  match x.rx with
  | .search => if reaches n d s then acquireNew n d 0 0 false s else s
  | .tbWindow =>
    if !reaches n d s then s
    else match x.preset with
      | none => acquire n d check 0 0 true false d.reference (d.power / 10) s
      | some (p, reference) =>
        if (d.power - p).natAbs ≤ x.acqNow.tolerance * 10 then acquire n d check 4 0 true false reference (p / 10) s
        else acquire n d check 8 0 true false d.reference (d.power / 10)
          (onCounters n (fun c => { c with presetMisses := inc 32 c.presetMisses }) s)
  | _ => s

/-- LSTF_DETECTION (R86). -/
def execLstfDetection (slice : Nat) (d : Detection) (s : State) : Host.Outcome State Fault Refusal :=
  .next (lstf slice d (start s))

/-- A DSSS/CCK detection on a slice in 2.4 GHz (R88). -/
def dsss (n : Nat) (d : Detection) (s : State) : State :=
  if (slice n s).rx == .search && ((slice n s).channel.any fun c => bandOf c.centre == 0) && reaches n d s then
    let d := { d with format := 0, width := 0, doppler := false }
    acquire n d (dsssCheck d) 0 0 false false d.reference (d.power / 10) s
  else s

/-- DSSS_DETECTION (R88). -/
def execDsssDetection (slice : Nat) (d : Detection) (s : State) : Host.Outcome State Fault Refusal :=
  .next (dsss slice d (start s))

/-! ### Capture restart (R98 to R101) -/

/-- The basic NAV covers an L-SIG duration counted from a reception's start: the medium is busy till then (R95, R100; that it is the
basic NAV is a DESIGN CHOICE, log 41). -/
def passDuration (n : Nat) (r : Reception) (s : State) : State :=
  if !r.lsig then s
  else
    let gone := (rawTime s + 2 ^ 32 - r.stamp) % 2 ^ 32
    let until_ := runTime s + (r.duration * 1000 - gone)
    onMac n (fun m => { m with navBasic := if r.duration * 1000 ≤ gone then m.navBasic else max m.navBasic until_ }) s

/-- The response owed to a reception is not sent. -/
def dropResponse (n id : Nat) (s : State) : State :=
  onMac n (fun m => { m with response := m.response.filter fun x => x.ppdu != id }) s

/-- A solicited TB PPDU is missing (R97, R100). -/
def tbMissing (n : Nat) (s : State) : State :=
  endTrigger n (onCounters n (fun c => { c with tbMissing := inc 32 c.tbMissing }) s)

/-- A later packet overlaps the current reception, or a TB PPDU awaited from its expected start: it is taken when its power is the
capture threshold above the reference level, or ignored (R96, R98 to R100). A DSSS/CCK packet is never the new one. With capture
restart off nothing is looked for, so no overlap is counted (DESIGN CHOICE, log 41). -/
def overtake (n : Nat) (level : Int) (overload : Bool) (d : Detection) (s : State) : State :=
  let x := slice n s
  if x.acqNow.capture = 0 ∨ d.format = 0 then s
  else
    let taken (reference : Int) : Bool := overload || decide ((x.acqNow.capture : Int) ≤ level - reference)
    let ignored := onCounters n (fun c => { c with overlaps := inc 32 c.overlaps }) s
    match x.reception with
    | some r =>
      if !r.armed then s
      else if taken r.reference then
        let s := onCounters n (fun c => if r.lsig then { c with captures := inc 32 c.captures }
          else { c with restarts := inc 32 c.restarts }) s
        let s := passDuration n r (if r.tb then tbMissing n s else s)
        let s := cutReception n 1 (dropResponse n r.id s)
        acquireNew n d (if r.lsig then 1 else 2) (min 255 (r.restarts + 1)) (r.tb || r.span) s
      else ignored
    | none =>
      match x.rx, x.preset with
      | .tbWindow, some (_, reference) =>
        if taken reference then
          acquireNew n d 2 1 true (tbMissing n (onCounters n (fun c => { c with restarts := inc 32 c.restarts }) s))
        else ignored
      | _, _ => s

/-- CAPTURE_RESTART (R98): the power over the latest 0.8 µs, an ADC overload of 0.4 µs, and the new packet. -/
def execCaptureRestart (slice : Nat) (level : Int) (overload : Bool) (d : Detection) (s : State) :
    Host.Outcome State Fault Refusal := .next (overtake slice level overload d (start s))

/-! ### Trigger-based uplink (R96, R97) -/

/-- 10^(r/10) x 10^9, for r from 0 to 9. -/
def tenths (r : Nat) : Nat :=
  ([1000000000, 1258925412, 1584893192, 1995262315, 2511886432, 3162277660, 3981071706, 5011872336, 6309573445, 7943282347]
    : List Nat).getD r 0

/-- A power in dBm as milliwatts x 10^22, for powers from -130 dBm. -/
def milliwatts (t : Int) : Nat := let k := (t + 130).toNat; tenths (k % 10) * 10 ^ (k / 10)

/-- Decimal digits of a number less one, at most `fuel`. -/
def logTen : Nat → Nat → Nat
  | 0, _ => 0
  | f + 1, v => if v < 10 then 0 else 1 + logTen f (v / 10)

/-- The preset level P in 0.1 dBm, rounded down: 100 log10 of the summed power (R96). -/
def presetLevel (targets : List Int) : Int := (logTen 6000 ((targets.map milliwatts).sum ^ 100) : Int) - 2200

/-- The analog gain is preset from the target RSSIs of the trigger's users, and capture restart armed against the power before it
(R96, R98). -/
def tbPreset (n : Nat) (reference : Int) (s : State) : State :=
  if (slice n s).rx != .tbWindow then s
  else match (mac n s).fixed with
    | some f =>
      let l := f.users.filterMap fun h => (station h s).map fun x => x.target.get n
      if l.isEmpty then s else onSlice n (fun x => { x with preset := some (presetLevel l, reference) }) s
    | none => s

/-- TB_GAIN_PRESET (R96). -/
def execTbGainPreset (slice : Nat) (reference : Int) (s : State) : Host.Outcome State Fault Refusal :=
  .next (tbPreset slice reference (start s))

/-- TB_WINDOW_END (R97). -/
def execTbWindowEnd (slice : Nat) (s : State) : Host.Outcome State Fault Refusal :=
  .next (let s := start s
    if (Machine.slice slice s).rx == .tbWindow then
      toSearch slice (tbMissing slice s)
    else s)

end Sys2Proof.Machine
end

