-- ==== Sys2Proof/Machine/Modem.lean ====
section
/-! DEFINITION. The LDPC array, the turbo receiver and Cumulus combining (chapter 03). -/
namespace Sys2Proof.Machine

/-- The LDPC array changed by a function. -/
def onLda (f : LdpcArray → LdpcArray) (s : State) : State := onModem (fun m => { m with lda := f m.lda }) s

/-- A Cumulus peer. -/
def peerOf (h : Nat) (s : State) : CumulusPeer :=
  Tab.getD s.modem.peers h ⟨false, 7, 43690, 4, 4, none, false, 0, 0, 0, 0, 0, 0, 0, 0⟩

/-- A Cumulus peer changed by a function. -/
def onPeer (h : Nat) (f : CumulusPeer → CumulusPeer) (s : State) : State :=
  onModem (fun m => { m with peers := Tab.put m.peers h (f (peerOf h s)) }) s

/-! ### The array (R70 to R75) -/

/-- EV_LDA_PRESSURE, at most once per second (R74, R85). -/
def pressureEvent (s : State) : State :=
  raiseLimited 0x0480 0 (leBytes 2 s.modem.lda.peak ++ leBytes 4 s.modem.lda.droppedNow) s

/-- The RUs of a codeword's pass changed by a function. -/
def onRu (ru : Option (Nat × Nat)) (f : TurboRu → TurboRu) (s : State) : State :=
  onLda (fun l => { l with rus := l.rus.map fun r => if ru.any (·.1 == r.id) then f r else r }) s

/-- A codeword is dropped: it has failed (R74). -/
def dropCodeword (id : Nat) (ru : Option (Nat × Nat)) (s : State) : State :=
  onRu ru (fun r => { r with failed := r.failed ++ [id], again := r.again.erase id })
    (onLda (fun l => { l with dropped := inc 32 l.dropped, droppedNow := inc 32 l.droppedNow }) s)

/-- The queued codeword of class 1 or 2 with the latest deadline (R74). -/
def latestLow (l : List Codeword) : Option Codeword :=
  (l.filter fun c => c.cls != 0).foldl (fun a c => match a with
    | none => some c
    | some b => if b.deadline < c.deadline then some c else some b) none

/-- A codeword joins the queue; its RU's pass has one codeword more in the array (R72, R74, R76). -/
def pushCodeword (c : Codeword) (s : State) : State :=
  onRu c.ru (fun r => { r with outstanding := r.outstanding + 1, again := r.again.erase c.id })
    (onLda (fun l => { l with queue := l.queue ++ [c], peak := max l.peak (l.queue.length + 1) }) s)

/-- An RU is finished with: its data symbols have ended, no codeword of the pass may still come, and every codeword has decoded,
it has no second user, or its last pass is done (R76). -/
def ruOver (now : Nat) (r : TurboRu) : Bool :=
  decide (r.symbols ≤ now) && r.outstanding == 0 && r.again.isEmpty
    && (r.failed.isEmpty || decide (r.users < 2) || decide (r.latched ≤ r.pass))

/-- RUs that are finished with are forgotten. -/
def forgetRus (s : State) : State := onLda (fun l => { l with rus := l.rus.filter fun r => !ruOver (runTime s) r }) s

/-- The RU of a first pass is known from its first codeword on; it has the pass count its trigger latched (R76, R77). -/
def knowRu (c : CodewordIn) (s : State) : State :=
  match c.ru with
  | some (id, users, 1) =>
    let s := forgetRus s
    if s.modem.lda.rus.any fun r => r.id == id then s
    else onLda (fun l => { l with rus := l.rus ++ [⟨id, c.slice, users, 1, (slice c.slice s).tbPasses, [], 0, [], c.symbols, runTime s⟩] }) s
  | _ => s

/-- A codeword of a further pass enters only where it failed in the pass before (R76). -/
def codewordEnters (c : CodewordIn) (s : State) : Bool :=
  match c.ru with
  | some (id, _, pass) => pass == 1 || s.modem.lda.rus.any fun r => r.id == id && r.pass == pass && r.again.contains c.id
  | none => true

/-- Times of pass 1 and of each further pass, µs, for an RU or MRU size (R78). -/
def passTimes (tones : Nat) : Nat × Nat := if tones ≤ 996 then (8, 10) else if tones ≤ 1992 then (10, 14) else (12, 20)

/-- The response freeze, 6 µs before the response begins; 100 µs after the PPDU's end where it solicits none (R72). -/
def deadlineOf (c : CodewordIn) : Nat := if c.solicits then c.responds - 6000 else c.ends + 100000

/-- The class of a codeword (R72, R78, R83). -/
def classOf (c : CodewordIn) (s : State) : Nat :=
  if c.combine.isSome || !c.tb then 1
  else match c.ru with
    | some (id, _, pass) =>
      let begun := ((s.modem.lda.rus.find? fun r => r.id == id).map (·.begun)).getD 0
      if 2 ≤ pass ∧ deadlineOf c < begun + (passTimes c.tones).2 * 1000 then 2 else 0
    | none => 0

/-- Most transmissions of one MPDU that are combined: the smaller of both sides' (R81, R83). -/
def combines (h : Nat) (s : State) : Nat :=
  let p := peerOf h s
  match p.element with
  | some (_, _, _, _, c) => min p.combines c
  | none => p.combines

/-- The first combination of an entry to reach the array locks it (R84). -/
def lockSoft (c : CodewordIn) (s : State) : State :=
  match c.combine with
  | some (h, t) => onModem (fun m =>
      { m with
        soft := m.soft.map fun e =>
          if e.peer == h && e.tag == t && e.usable && e.locked.isNone then { e with locked := some c.slice } else e }) s
  | none => s

/-- A codeword with its class, deadline and limit takes its place in the array, or is dropped, or another for it (R74). -/
def placeCodeword (w : Codeword) (limited : Bool) (s : State) : State :=
  let l := s.modem.lda
  if 8192 ≤ l.queue.length then
    match if w.cls = 0 then latestLow l.queue else none with
    | some v => pushCodeword w (dropCodeword v.id v.ru (onRu v.ru (fun r => { r with outstanding := r.outstanding - 1 })
        (onLda (fun l => { l with queue := l.queue.erase v }) s)))
    | none => dropCodeword w.id w.ru s
  else pushCodeword w (if limited then onLda (fun l => { l with pressured := inc 32 l.pressured }) s else s)

/-- A codeword enters the array (R71, R72, R74). -/
def enterArray (s : State) (c : CodewordIn) : State :=
  let s := knowRu c s
  if !codewordEnters c s then s
  else
    let s := lockSoft c s
    let l := s.modem.lda
    let cls := classOf c s
    let limited := decide (4096 < l.queue.length) && cls != 0
    let w : Codeword := ⟨c.id, c.slice, cls, deadlineOf c, if limited then min l.pressure l.limit else l.limit, c.solicits,
      c.ru.map fun r => (r.1, r.2.2)⟩
    let s := placeCodeword w limited s
    if 4096 < s.modem.lda.queue.length then pressureEvent s else s

/-- The codeword a free engine takes: the earliest deadline of the lowest class (R72). -/
def pickCodeword (l : List Codeword) : Option Codeword :=
  l.foldl (fun a c => match a with
    | none => some c
    | some b => if c.cls < b.cls ∨ (c.cls = b.cls ∧ c.deadline < b.deadline) then some c else some b) none

/-- LDPC_ENGINE_START (R72): the codewords that enter the array, and the one a free engine takes. The array works while its
domain is on. -/
def execLdpcEngineStart (entering : List CodewordIn) (s : State) : Host.Outcome State Fault Refusal :=
  .next (let s := start s
    if !powered 6 s then s
    else
      let s := entering.foldl enterArray s
      match pickCodeword s.modem.lda.queue with
      | some c =>
        if 24 ≤ s.modem.lda.engines.length then s
        else onLda (fun l => { l with queue := l.queue.erase c, engines := l.engines ++ [c] }) s
      | none => s)

/-- An engine stops a codeword: at its first zero syndrome, or at its limit, which a non-zero syndrome always reaches (R71, R73). A
zero syndrome found exactly at the limit is not counted as an early termination (DESIGN CHOICE, log 73). -/
def codewordDone (id iterations : Nat) (ok : Bool) (s : State) : State :=
  match s.modem.lda.engines.find? fun c => c.id == id with
  | none => s
  | some c =>
    let k := if ok then min iterations c.limit else c.limit
    let late := c.freeze && decide (c.deadline < runTime s)
    let s := onLda (fun l =>
      { l with engines := l.engines.erase c
               decoded := if ok then inc 64 l.decoded else l.decoded
               failed := if ok then l.failed else inc 64 l.failed
               iterations := addWrap 64 l.iterations k
               early := if ok && decide (k < c.limit) then inc 64 l.early else l.early
               late := if late then inc 32 l.late else l.late }) s
    forgetRus (onRu c.ru (fun r =>
      { r with outstanding := r.outstanding - 1, failed := if ok then r.failed else r.failed ++ [c.id] }) s)

/-- CODEWORD_DONE (R71). -/
def execCodewordDone (id iterations : Nat) (ok : Bool) (s : State) : Host.Outcome State Fault Refusal :=
  .next (codewordDone id iterations ok (start s))

/-- An RU may run a further pass: all its codewords have finished the one before, some failed, and it has a second user and a
pass left (R76, R77). -/
def passDue (now : Nat) (r : TurboRu) : Bool :=
  decide (r.symbols ≤ now) && r.outstanding == 0 && r.again.isEmpty && !r.failed.isEmpty && decide (2 ≤ r.users)
    && decide (r.pass < r.latched)

/-- TURBO_PASS_START (R76): the failed codewords are decoded again; they enter at LDPC_ENGINE_START. -/
def execTurboPassStart (ru : Nat) (s : State) : Host.Outcome State Fault Refusal :=
  .next (let s := start s
    let now := runTime s
    onLda (fun l =>
      { l with rus := l.rus.map fun r =>
          if r.id == ru && passDue now r then { r with pass := r.pass + 1, again := r.failed, failed := [], begun := now } else r }) s)

/-- LATE_WINDOW_EXPIRY (R80): a late pass not started is not run. -/
def execLateWindowExpiry (ru : Nat) (s : State) : Host.Outcome State Fault Refusal :=
  .next (let s := start s
    if s.modem.lda.rus.any fun r => r.id == ru && passDue (runTime s) r then
      onLda (fun l => { l with rus := l.rus.filter fun r => r.id != ru, lateNotRun := inc 32 l.lateNotRun }) s
    else s)

/-- The array is emptied without decoding as the device leaves RUN (R75). Codewords already in an engine are emptied and counted as
dropped with the queued ones (DESIGN CHOICE, log 73: R73 has a started codeword finish). -/
def emptyArray (s : State) : State :=
  onLda (fun l => { l with queue := [], engines := [], rus := []
                           dropped := addWrap 32 l.dropped (l.queue.length + l.engines.length)
                           droppedNow := addWrap 32 l.droppedNow (l.queue.length + l.engines.length) }) s

/-! ### SCH_SET_TURBO -/

/-- The values last accepted and the counters. -/
def turboReply (op : Nat) (s : State) : Bytes :=
  let l := s.modem.lda
  leBytes 1 op ++ leBytes 1 l.passes ++ leBytes 1 l.limit ++ leBytes 1 l.pressure ++ leBytes 2 l.lateWindow ++ leBytes 2 0
    ++ leBytes 8 l.decoded ++ leBytes 8 l.failed ++ leBytes 8 l.iterations ++ leBytes 8 l.early
    ++ ([l.late, l.dropped, l.pressured, l.rec2, l.rec3, l.rec4, l.lateRecovered, l.lateNotRun, l.lateDup].map (leBytes 4)).flatten

/-- SCH_SET_TURBO: set or read (R71, R76, R167). -/
def schSetTurbo (u : Ump) (s : State) : Reply :=
  let op := u.b8 0
  judge ([shortOp u 0 1 8, param (decide (1 < op)),
      param (op == 1 && (u.b8 1 == 0 || decide (4 < u.b8 1) || u.b8 2 == 0 || decide (32 < u.b8 2) || u.b8 3 == 0
        || decide (u.b8 2 < u.b8 3) || decide (1000 < u.b16 4)))] ++ gate 0x0407 false [] s) s fun _ =>
    let s := if op = 1 then
        cfgKeep 0x0407 0 0 u.data (onLda (fun l =>
          { l with passes := u.b8 1, limit := u.b8 2, pressure := u.b8 3, lateWindow := u.b16 4 }) s)
      else s
    reply (turboReply op s) s

/-- SCH_SET_TURBO (R76). -/
def execSchSetTurbo (m : Ump) (s : State) : Host.Outcome State Fault Refusal := .next (serve 0x0407 schSetTurbo m s)

/-! ### Cumulus combining (R81 to R84) -/

/-- Combining is active with a peer whose element is known (R81). -/
def agrees (p : CumulusPeer) : Bool :=
  p.enabled && match p.element with
    | some (v, f, _) => v == 1 && f % 8 == 7
    | none => false

/-- Links in force: the intersection of the two masks (R81). -/
def peerLinks (p : CumulusPeer) : Nat := match p.element with | some (_, _, l, _) => p.links &&& l | none => p.links

/-- The Cumulus element as this side sends it to a peer (R81). -/
def cumulusElement (p : CumulusPeer) : Bytes :=
  ([221, 11, 0x7A, 0x4E, 0x44, 0x0C, 0x01].map (leBytes 1)).flatten ++ leBytes 1 (if p.enabled then 7 else 6) ++ leBytes 2 p.slots
    ++ leBytes 1 p.lifetime ++ leBytes 1 p.links ++ leBytes 1 p.combines

/-- The Cumulus element sent to a peer: none while the fleet's floor is 3.0 (R81, R451). -/
def elementTo (h : Nat) (s : State) : Bytes := if s.fleet.floor ≤ 0x0300 then [] else cumulusElement (peerOf h s)

/-- After a change the element is sent to the peer in a Vendor Specific Action frame (R81). -/
def sendElement (h : Nat) (s : State) : State :=
  if s.fleet.floor ≤ 0x0300 then s else coreTo h 15 (.cumulus (cumulusElement (peerOf h s))) s

/-- Combining with a peer becomes active, which a peer without the device's element does not let it, or ends (R81, R85, R451). -/
def settlePeer (h reason : Nat) (s : State) : State :=
  let p := peerOf h s
  if agrees p && !p.active && decide (0x0300 < s.fleet.floor) then
    raise 0x0380 (leBytes 2 h ++ leBytes 1 (peerLinks p) ++ leBytes 1 1) (onPeer h (fun p => { p with active := true }) s)
  else if !agrees p && p.active then cumulusDown h reason s
  else s

/-- Soft-buffer slots a peer holds. -/
def slotsOf (h : Nat) (s : State) : Nat := ((s.modem.soft.filter fun e => e.peer == h).map (·.codewords)).sum

/-- CUMULUS_SET's response. -/
def cumulusReply (h op : Nat) (s : State) : Bytes :=
  let p := peerOf h s
  leBytes 2 h ++ leBytes 1 op ++ leBytes 1 p.links ++ leBytes 2 p.slots ++ leBytes 1 p.lifetime ++ leBytes 1 p.combines
    ++ leBytes 1 (if !p.enabled then 0 else if p.active then 2 else 1) ++ leBytes 1 ((p.element.map (·.1)).getD 0)
    ++ leBytes 2 (slotsOf h s)
    ++ ([p.mapsFailed, p.stored, p.notStored, p.combined, p.correct, p.expired, p.mismatched].map (leBytes 4)).flatten

/-- CUMULUS_SET: read, enable or disable combining with one peer (R81). -/
def cumulusSet (u : Ump) (s : State) : Reply :=
  let h := u.b16 0
  let op := u.b8 2
  judge ([short u 8, param (decide (2 < op)),
      param (op == 1 && (u.b8 3 % 8 == 0 || decide (u.b16 4 < 1024) || decide (43690 < u.b16 4) || u.b8 6 == 0
        || decide (4 < u.b8 6) || decide (u.b8 7 < 2) || decide (4 < u.b8 7))),
      param (!(station h s).any fun x => x.kind == 4)] ++ gate 0x0308 false [Obj.station h] s
    ++ [(op == 1 && !(peerOf h s).enabled && decide (8 ≤ (s.modem.peers.filter fun e => e.2.enabled).length),
        ST.noResource)]) s fun _ =>
    match op with
    | 1 =>
      let t := sendElement h (onPeer h (fun p =>
        { p with enabled := true, links := u.b8 3 % 8, slots := u.b16 4, lifetime := u.b8 6, combines := u.b8 7 }) s)
      let t := settlePeer h 0 t
      reply (cumulusReply h op t) t
    | 2 =>
      if !(peerOf h s).enabled then reply (cumulusReply h op s) s
      else
        let was := (peerOf h s).active
        let t := sendElement h (onPeer h (fun p => { p with enabled := false }) s)
        let t := cumulusDown h 0 t
        let t := if was then t else raise 0x0381 (leBytes 2 h ++ leBytes 1 0) t
        reply (cumulusReply h op t) t
    | _ => reply (cumulusReply h op s) s

/-- CUMULUS_SET (R81). -/
def execCumulusSet (m : Ump) (s : State) : Host.Outcome State Fault Refusal := .next (serve 0x0308 cumulusSet m s)

/-- CUMULUS_ELEMENT_RECEIVE (R81): a peer's element. Combining that ends names a differing version, or the peer. -/
def execCumulusElementReceive (station version flags links lifetime combines : Nat) (s : State) :
    Host.Outcome State Fault Refusal :=
  .next (let s := start s
    if (Machine.station station s).any fun x => x.kind == 4 then
      settlePeer station (if version = 1 then 1 else 3)
        (onPeer station (fun p => { p with element := some (version, flags, links, lifetime, combines) }) s)
    else s)

/-- The live entry of a peer and tag. -/
def softOf (h tag : Nat) (s : State) : Option SoftEntry := s.modem.soft.find? fun e => e.peer == h && e.tag == tag

/-- A soft-buffer entry is freed. -/
def dropSoft (h tag : Nat) (s : State) : State :=
  onModem (fun m => { m with soft := m.soft.filter fun e => !(e.peer == h && e.tag == tag) }) s

/-- An entry whose lifetime has ended is freed and counted (R83, R84). -/
def expireSoft (s : State) (e : SoftEntry) : State :=
  if runTime s < e.expires then s
  else onPeer e.peer (fun p => { p with expired := inc 32 p.expired }) (dropSoft e.peer e.tag s)

/-- The lifetime of an entry, ms: the smaller of both sides' (R81). -/
def softLife (h : Nat) (s : State) : Nat :=
  let p := peerOf h s
  match p.element with
  | some (_, _, _, l, _) => min p.lifetime l
  | none => p.lifetime

/-- A soft value of 6 bits, saturating at ±31 (R83). -/
def soft (v : Int) : Int := max (-31) (min 31 v)

/-- What a Cumulus map and its PPDU say of one MPDU (R82, R83). -/
structure CumulusRx where
  /-- Tag. -/
  tag : Nat
  /-- Codewords. -/
  codewords : Nat
  /-- MCS, coding, codeword length and rate as one signature. -/
  form : Nat
  /-- Retransmission. -/
  again : Bool
  /-- Its FCS is good, after the combination where there is one. -/
  ok : Bool
  /-- Soft values as received. -/
  llr : List Int
  deriving DecidableEq, Repr

/-- The soft values of a failed MPDU are stored as a first transmission, where the buffer and the peer's limit allow; they live
for the lifetime from now (R83, R84). -/
def storeSoft (h n : Nat) (c : CumulusRx) (s : State) : State :=
  let p := peerOf h s
  let used := (s.modem.soft.map (·.codewords)).sum
  if 43690 < used + c.codewords ∨ p.slots < slotsOf h s + c.codewords then
    onPeer h (fun p => { p with notStored := addWrap 32 p.notStored c.codewords }) s
  else
    let e : SoftEntry := ⟨h, c.tag, n, c.form, c.codewords, 1, false, none, c.llr.map soft, runTime s + softLife h s * 1000000⟩
    onPeer h (fun p => { p with stored := addWrap 32 p.stored c.codewords }) (onModem (fun m => { m with soft := m.soft ++ [e] }) s)

/-- A retransmission is combined with its entry: it decodes, and the entry is freed, or the sums replace it (R83). -/
def combineWith (h : Nat) (e : SoftEntry) (c : CumulusRx) (s : State) : State :=
  let s := onPeer h (fun p => { p with combined := inc 32 p.combined, correct := if c.ok then inc 32 p.correct else p.correct }) s
  if c.ok then dropSoft h c.tag s
  else onModem (fun m => { m with soft := m.soft.map fun x => if x = e then
    { e with transmissions := e.transmissions + 1, locked := none, llr := List.zipWith (fun a b => soft (a + b)) e.llr c.llr } else x }) s

/-- What combining makes of an MPDU of a Cumulus A-MPDU whose map decoded, correct or not (R83, R84). Choices (DESIGN CHOICE, log
73): a retransmission that meets an entry not yet usable, or already holding Combines transmissions, is decoded alone and, if it
fails, neither stored nor counted; a failed first transmission under a tag with a live entry frees that entry uncounted. -/
def combine (h n : Nat) (c : CumulusRx) (s : State) : State :=
  let s := s.modem.soft.foldl expireSoft s
  let p := peerOf h s
  if !p.active then s
  else if !c.again then
    if c.ok then s else storeSoft h n c (dropSoft h c.tag s)
  else if !bit (peerLinks p) n then s
  else match softOf h c.tag s with
    | none => if c.ok then s else storeSoft h n c s
    | some e =>
      if e.form != c.form || e.codewords != c.codewords then
        onPeer h (fun p => { p with mismatched := inc 32 p.mismatched }) (dropSoft h c.tag s)
      else if !e.usable || (e.locked.any (· != n)) || decide (combines h s ≤ e.transmissions) then s
      else combineWith h e c s

/-- SOFT_ENTRY_USABLE (R83). -/
def execSoftEntryUsable (peer tag : Nat) (s : State) : Host.Outcome State Fault Refusal :=
  .next (onModem (fun m =>
    { m with soft := m.soft.map fun e => if e.peer == peer && e.tag == tag then { e with usable := true } else e }) (start s))

/-- SOFT_ENTRY_EXPIRY (R83). -/
def execSoftEntryExpiry (peer tag : Nat) (s : State) : Host.Outcome State Fault Refusal :=
  .next (let s := start s
    match softOf peer tag s with
    | some e => expireSoft s e
    | none => s)

end Sys2Proof.Machine
end

