-- ==== Sys2Proof/Machine/Receive.lean ====
section
/-! DEFINITION. What the air MAC does with received MPDUs: duplicates, holding for a context, replay and MIC checks,
reordering and release, and the response owed (chapter 05, R111 to R116, R128 to R131; chapter 06, R160, R161). -/
namespace Sys2Proof.Machine

/-! ### The RX vector (R102) -/

/-- `n` entries of a list, filled up. -/
def padded (n : Nat) (d : Int) (l : List Int) : List Int := (l ++ List.replicate (n - l.length) d).take n

/-- The RX vector of a reception for the user an MPDU came from: the fields of the PPDU, which its users share, and the user's own
(R102). -/
def vectorOf (n : Nat) (r : Reception) (cause : Nat) (m : RxMpdu) : Bytes :=
  leBytes 1 n ++ leBytes 1 r.format ++ leBytes 1 r.width ++ leBytes 1 r.flags
    ++ leBytes 1 m.phy.rate ++ leBytes 1 m.phy.streams ++ leBytes 2 r.duration ++ leBytes 4 r.stamp
    ++ ((padded 8 (-128) r.rssi).map (wrS 1)).flatten
    ++ ((padded 8 255 (m.phy.snr.map (Int.ofNat ·))).map (wrS 1)).flatten
    ++ leBytes 1 m.phy.evm ++ wrS 1 r.gain ++ wrS 2 r.cfo
    ++ leBytes 2 (if r.tb then m.station else 0xFFFF) ++ leBytes 2 (if r.tb then m.phy.ru else 0xFFFF)
    ++ leBytes 1 cause ++ leBytes 1 r.restarts ++ leBytes 10 0

/-- The reception an MPDU belongs to, with its end cause: the one in progress, or the one that ended last. -/
def receptionFor (n : Nat) (m : RxMpdu) (s : State) : Option (Reception × Nat) :=
  let x := slice n s
  if m.late then x.lastRx else (x.reception.map fun r => (r, 0)).or x.lastRx

/-- A reception changed by a function, in progress or ended. -/
def onReception (n id : Nat) (f : Reception → Reception) (s : State) : State :=
  let g : Reception → Reception := fun r => if r.id = id then f r else r
  onSlice n (fun x => { x with reception := x.reception.map g, lastRx := x.lastRx.map fun e => (g e.1, e.2) }) s

/-- The RX vector of an MPDU's PPDU and user, composed with their first MPDU and kept, and the raw time of its L-STF start
(R102). -/
def takeVector (n : Nat) (m : RxMpdu) (s : State) : Bytes × Nat × State :=
  match receptionFor n m s with
  | none => ((slice n s).rxVector, rd (slice n s).rxVector 8 4, s)
  | some (r, cause) =>
    let user := if r.tb then m.station else 0xFFFF
    let v := (Tab.look r.vectors user).getD (vectorOf n r cause m)
    (v, r.stamp, onSlice n (fun x => { x with rxVector := v })
      (onReception n r.id (fun r => { r with delivered := r.delivered + 1, vectors := Tab.put r.vectors user v }) s))

/-! ### Sequence numbers and sessions (R114, R115) -/

/-- How far a sequence number lies beyond another, modulo 4096. -/
def seqDiff (a b : Nat) : Nat := (a + 4096 - b) % 4096

/-- A sequence number lies behind a window start. -/
def behind (a start : Nat) : Bool := decide (2048 ≤ seqDiff a start)

/-- A station's BlockAck session on a TID. -/
def session (h tid : Nat) (s : State) : Option Session := (station h s).bind fun x => Tab.look x.sessions tid

/-- A BlockAck session changed by a function. -/
def onSession (h tid : Nat) (f : Session → Session) (s : State) : State :=
  onStation h (fun x => { x with sessions := Tab.modify x.sessions tid f }) s

/-- The security mode of the BSS on which a station has its link on a slice. -/
def secured (h n : Nat) (s : State) : Bool :=
  ((station h s).bind fun x => bss (x.links.get n) s).any fun b => b.security != 0

/-- The place of a replay floor: the TID, or 8 for management frames (R128). -/
def floorIndex (m : RxMpdu) : Nat := if m.kind = 2 then 8 else m.tid

/-! ### Counted failures (R128, R129, R131, R136) -/

/-- A MIC failure (0), a replay (1) or a frame without key (2) of a station is counted and reported. -/
def badFrameOf (h what : Nat) (s : State) : State :=
  let s := onStation h (fun x =>
    let c := x.secNow
    match what with
    | 0 => { x with nMic := inc 32 x.nMic, secNow := (incSat 65535 c.1, c.2.1, c.2.2) }
    | 1 => { x with nReplay := inc 32 x.nReplay, secNow := (c.1, incSat 65535 c.2.1, c.2.2) }
    | _ => { x with nNoKey := inc 32 x.nNoKey, secNow := (c.1, c.2.1, incSat 65535 c.2.2) }) s
  match station h s with
  | some x => raiseLimited 0x0304 h (leBytes 2 h ++ leBytes 2 x.secNow.1 ++ leBytes 2 x.secNow.2.1 ++ leBytes 2 x.secNow.2.2) s
  | none => s

/-! ### Release (R114, R128) -/

/-- MSDUs leave the air MAC for the forwarding engine (R23). -/
def deliverUp (h length : Nat) (l : List Frame) (s : State) : State :=
  onWire (fun w => { w with lookup := w.lookup ++ l })
    (onStation h (fun x => { x with nDelivered := inc 64 x.nDelivered, nReceived := addWrap 64 x.nReceived length }) s)

/-- A replay floor is raised. -/
def raiseFloor (h i : Nat) (pn : Option Nat) (s : State) : State :=
  match pn with
  | some p => onStation h (fun x => { x with floor := x.floor.set i p }) s
  | none => s

/-- A PN is not above its floor. -/
def replayed (h i : Nat) (pn : Option Nat) (s : State) : Bool :=
  pn.any fun p => (station h s).any fun x => decide (p ≤ x.floor.getD i 0)

/-- An MPDU is released in order: its PN must lie above the floor, which it raises (R128). -/
def releaseHeld1 (h tid : Nat) (r : HeldRx) (s : State) : State :=
  match r.msdus with
  | none => s
  | some l => if replayed h tid r.pn s then badFrameOf h 1 s else deliverUp h r.length l (raiseFloor h tid r.pn s)

/-- The reorder buffer steps over one sequence number: its MPDU is released, or the hole is given up. -/
def stepOver (h tid : Nat) (s : State) : State :=
  match session h tid s with
  | none => s
  | some y =>
    let t := onSession h tid (fun y => { y with next := (y.next + 1) % 4096, held := y.held.filter fun r => r.seq != y.next }) s
    match y.held.find? fun r => r.seq == y.next with
    | some r => releaseHeld1 h tid r t
    | none => onStation h (fun x => { x with nHoles := inc 32 x.nHoles }) t

/-- The reorder buffer steps over `k` sequence numbers. -/
def stepsOver (h tid : Nat) : Nat → State → State
  | 0, s => s
  | k + 1, s => stepsOver h tid k (stepOver h tid s)

/-- MPDUs at the head of the reorder buffer are released while there is no hole (R114). -/
def drainHeld (h tid : Nat) : Nat → State → State
  | 0, s => s
  | k + 1, s =>
    if (session h tid s).any fun y => y.held.any fun r => r.seq == y.next then drainHeld h tid k (stepOver h tid s) else s

/-- The reorder buffer follows the window: holes before its start are given up (R114). -/
def followWindow (h tid : Nat) (s : State) : State :=
  match session h tid s with
  | none => s
  | some y => drainHeld h tid 1024 (if behind y.start y.next then s else stepsOver h tid (seqDiff y.start y.next) s)

/-- A frame stops at stage 8, which counts it (R23). -/
def stopAtEight (n : Nat) (s : State) : State := onCounters n (fun c => { c with stage8 := inc 32 c.stage8 }) s

/-- A received MPDU takes its place in the reorder buffer; one whose hole has been given up is discarded and counted. -/
def reorder (n h tid : Nat) (r : HeldRx) (s : State) : State :=
  if (session h tid s).any fun y => behind r.seq y.next then followWindow h tid (stopAtEight n s)
  else followWindow h tid (onSession h tid (fun y => { y with held := y.held ++ [r] }) s)

/-! ### Fragments (R111) -/

/-- An MPDU outside a BlockAck session: a whole MSDU or A-MSDU, or a fragment, the last of which completes its MSDU. A fragment
out of order, or beyond the sixteenth, stops here. -/
def acceptAlone (n h : Nat) (m : RxMpdu) (l : List Frame) (s : State) : State :=
  let put (v : Nat × Nat) : State := onStation h (fun x => { x with reassembly := Tab.put x.reassembly m.tid v }) s
  let drop := onStation h (fun x => { x with reassembly := Tab.del x.reassembly m.tid }) s
  if m.frag = 0 then if m.more then put (m.seq, 1) else deliverUp h m.length l s
  else match (station h s).bind fun x => Tab.look x.reassembly m.tid with
    | some (q, k) =>
      if q = m.seq ∧ k = m.frag then
        if m.more then if m.frag < 15 then put (m.seq, k + 1) else stopAtEight n drop
        else deliverUp h m.length l drop
      else stopAtEight n s
    | none => stopAtEight n s

/-- REASSEMBLY_TIMEOUT (R111). -/
def execReassemblyTimeout (station tid : Nat) (s : State) : Host.Outcome State Fault Refusal :=
  .next (onStation station (fun x => { x with reassembly := Tab.del x.reassembly tid }) (start s))

/-! ### Stages 5 to 8 of R23 -/

/-- An MPDU past stage 7, good or received and discarded (R114, R129). Outside a session its PN is checked again as it is accepted,
against what others have raised the floor to meanwhile (R128). -/
def settleMpdu (n h : Nat) (m : RxMpdu) (l : Option (List Frame)) (s : State) : State :=
  let i := floorIndex m
  let pn := m.key.map fun _ => m.pn
  if (session h m.tid s).isSome && m.kind == 0 then reorder n h m.tid ⟨m.seq, pn, m.length, l⟩ s
  else match l with
    | none => s
    | some l =>
      if replayed h i pn s then badFrameOf h 1 s
      else if m.kind = 2 then raiseFloor h i pn s
      else acceptAlone n h m l (raiseFloor h i pn s)

/-- The MSDUs of an MPDU as frames for the forwarding engine. -/
def framesOf (n h : Nat) (m : RxMpdu) (vector : Bytes) (stamp : Nat) (s : State) : List Frame :=
  let b := ((station h s).map fun x => x.links.get n).getD 255
  let vlan := ((station h s).map (·.vlan)).getD 1
  m.msdus.map fun bytes => { ingress := 5, bytes := bytes, vlan := vlan, priority := m.tid, first := stamp, station := h,
                             bss := b, slice := n, vector := vector }

/-- Stages 6 and 7: the replay check and decryption, which latches the key (R130); an unprotected frame of a secured BSS has no valid key (R128, R129,
R131). -/
def decryptMpdu (n h : Nat) (m : RxMpdu) (vector : Bytes) (stamp : Nat) (s : State) : State :=
  let l := framesOf n h m vector stamp s
  if !secured h n s then settleMpdu n h { m with key := none } (some l) s
  else match m.key with
    | none => settleMpdu n h m none (badFrameOf h 2 s)
    | some k =>
      if replayed h (floorIndex m) (some m.pn) s then settleMpdu n h m none (badFrameOf h 1 s)
      else match if 1 < k then none else keyOf (2 * h + k) s with
        | none => settleMpdu n h m none (badFrameOf h 2 s)
        | some key => onAir (fun a => { a with mic := a.mic ++ [⟨h, n, m, key, l⟩] }) s

/-- The duplicate check under a session: a duplicate, or the scoreboard with the MPDU set (R115). -/
def boardCheck (seq : Nat) (y : Session) : Option Session :=
  let d := seqDiff seq y.start
  if 2048 ≤ d then none
  else if d < y.size then if y.board.contains seq then none else some { y with board := y.board ++ [seq] }
  else
    let start := (seq + 4097 - y.size) % 4096
    let inside : Nat → Bool := fun q => decide (seqDiff q start < y.size)
    some { y with start := start, board := (y.board.filter inside) ++ [seq], late := y.late.filter inside }

/-- The place of the retry cache: the TID, or 8 for non-QoS and management frames (R115). -/
def retryIndex (m : RxMpdu) : Nat := if m.kind = 0 then m.tid else 8

/-- The duplicate check (R115): whether the MPDU is a duplicate, and the state with it noted. -/
def duplicate (h : Nat) (m : RxMpdu) (s : State) : Bool × State :=
  match if m.kind = 0 then session h m.tid s else none with
  | some y =>
    match boardCheck m.seq y with
    | none => (true, s)
    | some z => (false, onSession h m.tid (fun _ => z) s)
  | none =>
    let i := retryIndex m
    let dup := m.retry && ((station h s).bind fun x => Tab.look x.retry i) == some (m.seq, m.frag)
    (dup, onStation h (fun x => { x with retry := Tab.put x.retry i (m.seq, m.frag) }) s)

/-- An MPDU recovered in a further detection pass, or only after its response freeze: it is noted, for the retransmission that
may follow (R80). -/
def countRecovered (h : Nat) (m : RxMpdu) (s : State) : State :=
  let s := onLda (fun l =>
    { l with rec2 := if m.pass = 2 then inc 32 l.rec2 else l.rec2
             rec3 := if m.pass = 3 then inc 32 l.rec3 else l.rec3
             rec4 := if m.pass = 4 then inc 32 l.rec4 else l.rec4
             lateRecovered := if m.late then inc 32 l.lateRecovered else l.lateRecovered }) s
  if !m.late then s
  else if m.kind == 0 && (session h m.tid s).isSome then onSession h m.tid (fun y => { y with late := y.late ++ [m.seq] }) s
  else onStation h (fun x => { x with lateAlone := Tab.put x.lateAlone (retryIndex m) (m.seq, m.frag) }) s

/-- A duplicate is discarded and counted; where it or its first copy was late-recovered, as a late duplicate too (R80,
R115). -/
def countDuplicate (h : Nat) (m : RxMpdu) (s : State) : State :=
  let late := m.late || (match if m.kind = 0 then session h m.tid s else none with
    | some y => y.late.contains m.seq
    | none => ((station h s).bind fun x => Tab.look x.lateAlone (retryIndex m)) == some (m.seq, m.frag))
  let s := onStation h (fun x => { x with nDup := inc 32 x.nDup }) s
  if late then onLda (fun l => { l with lateDup := inc 32 l.lateDup }) s else s

/-- A BlockAckReq moves the window start (R114). -/
def moveWindow (h tid ssn : Nat) (s : State) : State :=
  match session h tid s with
  | none => s
  | some y =>
    if behind ssn y.start then s
    else
      let inside : Nat → Bool := fun q => decide (seqDiff q ssn < y.size)
      followWindow h tid (onSession h tid (fun y =>
        { y with start := ssn, board := y.board.filter inside, late := y.late.filter inside }) s)

/-- Stages 5 to 8 of a resident station's MPDU; of a BlockAckReq that has waited for its context, its window. -/
def stages (n h : Nat) (m : RxMpdu) (vector : Bytes) (stamp : Nat) (s : State) : State :=
  let s := touch h true s
  if m.kind = 5 then moveWindow h m.tid m.seq s
  else
    let d := duplicate h m s
    if d.1 then countDuplicate h m d.2 else decryptMpdu n h m vector stamp (countRecovered h m d.2)

/-! ### The hold area (R161) -/

/-- EV_CRN_HOLD_FULL's payload. -/
def holdFullEvent (s : State) : State :=
  raiseLimited 0x0402 0 (leBytes 4 s.mls.holdFullNow ++ leBytes 2 s.mls.stats.peakHold) s

/-- Bytes the acknowledged MPDUs take in the hold area. -/
def heldBytes (s : State) : Nat := ((s.mls.hold.filter fun x => x.acked).map fun x => x.mpdu.length).sum

/-- MPDUs the hold area keeps. -/
def heldCount (s : State) : Nat := (s.mls.hold.filter fun x => x.acked).length

/-- An MPDU that is to be acknowledged is held, or discarded as hold-full. -/
def keepHeld (s : State) (x : HeldMpdu) : State :=
  if 4096 ≤ heldCount s ∨ 16777216 < heldBytes s + x.mpdu.length then
    holdFullEvent (onMls (fun m =>
      { m with hold := m.hold.erase x, holdFullNow := inc 32 m.holdFullNow
               stats := { m.stats with holdFull := inc 32 m.stats.holdFull } }) s)
  else
    let s := onMls (fun m =>
      { m with hold := m.hold.map fun y => if y = x then { x with acked := true } else y
               stats := { m.stats with held := inc 32 m.stats.held } }) s
    onCrownStats (fun c => { c with peakHold := max c.peakHold (heldCount s) }) s

/-- At the freeze of a slice's PPDU, its MPDUs without a context are held or discarded. -/
def judgeHold (n : Nat) (s : State) : State := (s.mls.hold.filter fun x => x.slice == n && !x.acked).foldl keepHeld s

/-- A context has arrived: the station's held MPDUs pass stages 5 to 8 in order of arrival (R116, R161). -/
def runHeld (h : Nat) (s : State) : State :=
  let l := s.mls.hold.filter fun x => x.mpdu.station == h
  l.foldl (fun t x => stages x.slice h x.mpdu x.vector x.stamp t)
    (onMls (fun m => { m with hold := m.hold.filter fun x => x.mpdu.station != h }) s)

/-! ### Responses (R112, R160) -/

/-- The response a slice's PPDU solicits takes a frame in: of a station, or of an unknown one, 0xFFFF (R112). An MPDU that decodes
after the freeze, or after the slice has left READY, is in none. -/
def addAck (n h : Nat) (m : RxMpdu) (s : State) : State :=
  let x := slice n s
  let k := (mac n s).response
  if m.noAck || m.late || x.state != .ready || k.any (fun r => r.frozen || r.ppdu != x.rxCount) then s
  else
    let tb := (receptionFor n m s).any fun e => e.1.tb
    let r := k.getD ⟨if tb then 2 else if m.agg then 1 else 0, [], false, x.rxCount⟩
    let he := (station h s).any (·.he)
    let mine : AckEntry → Bool := fun e => e.station == h && e.tid == m.tid
    let r :=
      if r.entries.any mine then
        { r with entries := r.entries.map fun e => if mine e then { e with passed := e.passed ++ [m.seq] } else e }
      else if r.entries.isEmpty || tb || he then
        { r with entries := r.entries ++ [⟨h, m.tid, [m.seq], 0, []⟩], kind := if r.entries.isEmpty then r.kind else 2 }
      else r
    onMac n (fun x => { x with response := some r }) s

/-- A frame that is no data solicits an Ack (R112). -/
def oweAck (n h : Nat) (s : State) : State := addAck n h { kind := 2, late := (slice n s).rxFrozen } s

/-- The bitmap size of an agreed buffer size (R112). -/
def bitmapSize (size : Nat) : Nat := if size ≤ 64 then 64 else if size ≤ 256 then 256 else if size ≤ 512 then 512 else 1024

/-- The lowest of a list of sequence numbers, seen from its first. -/
def lowestSeq : List Nat → Nat
  | [] => 0
  | q :: r => r.foldl (fun a b => if behind b a then b else a) q

/-- One entry is fixed: from the scoreboard, or from the PPDU and the partial state alone (R112, R160). It starts no later than a
duplicate that lies behind the window start, which is acknowledged again (R115). Several MPDUs of a TID without a session are
answered in a bitmap of 64 (DESIGN CHOICE, log 43). -/
def fixEntry (s : State) (e : AckEntry) : AckEntry :=
  match session e.station e.tid s with
  | none =>
    let start := lowestSeq e.passed
    { e with start := start
             bitmap := if e.passed.length ≤ 1 then [] else (List.range 64).map fun i => e.passed.contains ((start + i) % 4096) }
  | some y =>
    let full := resident e.station s
    let start := if full then lowestSeq (y.start :: e.passed.filter fun q => behind q y.start)
      else if e.passed.isEmpty then e.start else lowestSeq e.passed
    let set : Nat → Bool := fun q => (full && y.board.contains q) || e.passed.contains q
    { e with start := start, bitmap := (List.range (bitmapSize y.size)).map fun i => set ((start + i) % 4096) }

/-- The kind of a response with its entries fixed: one MPDU without a session draws an Ack, and a station whose context is not
resident, under a session, a compressed BlockAck (R112, R160). -/
def responseKind (kind : Nat) (l : List AckEntry) (s : State) : Nat :=
  match l with
  | [e] =>
    if kind = 2 then 2
    else if (session e.station e.tid s).isNone then (if e.passed.length ≤ 1 then 0 else 1)
    else if resident e.station s then kind
    else 1
  | _ => kind

/-- An entry is built from partial state: its station is known and its context not resident (R160). -/
def partialEntry (s : State) (e : AckEntry) : Bool := e.station != 0xFFFF && !resident e.station s

/-- The content of a slice's response is fixed (R72, R112, R160, R161). -/
def freeze (n : Nat) (s : State) : State :=
  let waits := s.mls.hold.filter fun x => x.slice == n && !x.acked
  let s := judgeHold n (onSlice n (fun x => { x with rxFrozen := true }) s)
  let gone := waits.filter fun x => !s.mls.hold.contains { x with acked := true }
  match (mac n s).response with
  | none => s
  | some r =>
    if r.frozen then s
    else
      let lost : AckEntry → Nat → Bool := fun e q =>
        gone.any fun x => x.mpdu.station == e.station && x.mpdu.tid == e.tid && x.mpdu.seq == q
      let kept := r.entries.filter fun e => e.passed.isEmpty || !e.passed.all (lost e)
      let cut := kept.map fun e => { e with passed := e.passed.filter fun q => !lost e q }
      let s := if cut.any (partialEntry s) then onCrownStats (fun c => { c with partialState := inc 32 c.partialState }) s else s
      let fixed := if cut.isEmpty then none else
        some { r with entries := cut.map (fixEntry s), kind := responseKind r.kind cut s, frozen := true }
      onMac n (fun m => { m with response := fixed }) s

/-- RESPONSE_FREEZE (R72). -/
def execResponseFreeze (slice : Nat) (s : State) : Host.Outcome State Fault Refusal := .next (freeze slice (start s))

/-! ### Going on the air (R42, R43, R56, R65, R68, R87) -/

/-- The longest PPDU a slice builds, packet and signal extension included, µs (R43, R68). -/
def longest (n : Nat) (s : State) : Nat := min 5484 ((slice n s).txTmo * 100 - 100)

/-- The vector of a DSSS/CCK or non-HT PPDU at a rate of its format's list, over a width and subchannels (R61). -/
def plainVector (n format rate : Nat) (cover : Nat × Nat) (nav : Nat) (s : State) : TxVector :=
  let chains := (chainsOn (slice n s)).length
  { format := format, width := cover.1, occupied := cover.2, gi := 1
    users := [⟨0xFFFF, ⟨242, cover.2, 0⟩, rate, 1, false, false, spatialMapping none 1 chains⟩]
    unassigned := [], pe := 0, nav := nav }

/-- The primary subchannel of a slice's channel: width code and mask. -/
def primaryCover (n : Nat) (s : State) : Nat × Nat := (0, 2 ^ ((tuned n s).map (·.primary)).getD 0)

/-- A PPDU starts on a slice: receptions of the slice and of its NSTR partners are cut and their detectors blanked; its power
is set, the duty monitor and the cancellers see it (R37, R42, R55, R87). -/
def goOnAir (n kind us ac : Nat) (v : TxVector) (stations : List Nat) (s : State) : State :=
  let p := ppduPower n v s
  let partners := (others n).filter fun m => nstr n m s
  let s := (n :: partners).foldl (fun t m => onSlice m (fun x => { x with rx := .blanked }) (cutReception m 2 t)) s
  let s := haloTraffic n us (paStarts n us s)
  let now := runTime s
  driveFem n (onSlice n (fun x => { x with tx := some ⟨kind, us, ac, v, now, p.1, stations⟩
                                           nClip := if p.2 then inc 32 x.nClip else x.nClip }) s)

/-- The PPDU that leaves the aerial ports, with the steps its users' data have passed (R65). -/
def emitPpdu (n : Nat) (v : TxVector) (b : AirBody) (s : State) : State :=
  emit (.ppdu n v b ((v.users.map txSteps).flatten)) s

/-- The kind of frame a response is on the air. -/
def responseFrame (kind : Nat) : Nat := ([5, 6, 7, 4] : List Nat).getD kind 5

/-- COEX_REQ and COEX_PRI of a slice tuned in 2.4 GHz (R490). -/
def coexDrive (n : Nat) (req pri : Bool) (s : State) : State :=
  if (tuned n s).any fun c => bandOf c.centre == 0 then onRadio (fun r => { r with coexReq := req, coexPri := pri }) s else s

/-- An NSTR partner of a slice receives a frame that may be for the device (R56). -/
def nstrReceives (n : Nat) (s : State) : Bool := (others n).any fun m => nstr n m s && receiving m s

/-- What a response says (R112). -/
def responseBody (r : Response) : AirBody :=
  if r.kind = 3 then .none else .ack (r.entries.map fun e => (e.station, e.tid, e.start, e.bitmap))

/-- The response is sent at SIFS, in DSSS/CCK or non-HT form on the primary subchannel (DESIGN CHOICE, log 44), and measured; one
that the duty monitor denies, or that a locked slice or one that moves for radar would send, is not (R42 to R44, R48, R56, R112). -/
def sendResponse (n us format rate : Nat) (gamma : List Nat) (tune : List (Nat × Nat × Retry)) (s : State) : State :=
  let s := freeze n s
  match (mac n s).response with
  | none => s
  | some r =>
    let s := onMac n (fun m => { m with response := none }) s
    let us := min us (longest n s)
    if !sliceUsable n s || (slice n s).radarMove || nstrReceives n s then coexDrive n false false s
    else if dutyDenies n us s then coexDrive n false false (dutyDenial n s)
    else
      let who := (r.entries.map (·.station)).eraseDups
      let v := plainVector n (if format = 0 && bandNow n s == 0 then 0 else 1) rate (primaryCover n s) 0 s
      let s := goOnAir n 4 us 3 v who s
      let s := if who.isEmpty then emit (.air n (responseFrame r.kind) 0xFFFF) s
        else who.foldl (fun t h => emit (.air n (responseFrame r.kind) h) t) s
      measureGamma n gamma tune (emitPpdu n v (responseBody r) s)

/-- SIFS_RESPONSE_TX (R112). -/
def execSifsResponseTx (slice us format rate : Nat) (gamma : List Nat) (tune : List (Nat × Nat × Retry)) (s : State) :
    Host.Outcome State Fault Refusal := .next (sendResponse slice us format rate gamma tune (start s))

/-! ### An MPDU arrives -/

/-- The station that has an address on a slice's link: the station address table (R151, R160); 0xFFFF none. -/
def stationAt (n addr : Nat) (s : State) : Nat :=
  ((s.air.stations.find? fun e => e.2.links.get n != 255 && e.2.linkAddrs.get n == addr).map Prod.fst).getD 0xFFFF

/-- What a frame tells of its station: its power management state, its last frame, signal and buffered uplink (R124, R125,
R135, R148). -/
def noteStation (n : Nat) (m : RxMpdu) (s : State) : State :=
  let now := runTime s
  let r := receptionFor n m s
  let level := (r.map fun e => e.1.rssi).getD []
  let s := onStation m.station (fun x =>
    { x with doze := x.doze.set n m.doze, lastFrame := s.mem.seconds
             rssi := if level.isEmpty then x.rssi else highest level
             rxMcs := m.phy.rate, uplink := m.buffer.getD x.uplink
             uplinkAc := if m.buffer.isSome then acOf m.tid else x.uplinkAc
             reported := if m.buffer.isSome then some now else x.reported }) s
  match r with
  | some (r, _) => onReception n r.id (fun r => if r.station = 0xFFFF then { r with station := m.station } else r) s
  | none => s

/-- An MPDU of one of the device's stations with a good FCS: stages 5 to 8, or the hold area and a demand fetch where its
context is not resident (R23, R116, R160). One that decodes after the freeze of its PPDU is late (R73, R80). -/
def takeMpdu (n : Nat) (m : RxMpdu) (s : State) : State :=
  let h := m.station
  let v := takeVector n m (noteStation n m s)
  let s := v.2.2
  let m := { m with late := m.late || (!m.noAck && (slice n s).rxFrozen) }
  let s := addAck n h m s
  if resident h s then stages n h m v.1 v.2.1 s
  else
    let held : HeldMpdu := ⟨n, m, v.1, v.2.1, false⟩
    let s := demandFetch h (onMls (fun k => { k with hold := k.hold ++ [held] }) s)
    if m.late || m.noAck || (slice n s).state != .ready then keepHeld s held else s

/-- A frame for another receiver: the RA check rejects it, and it may set a NAV (R56, R108). -/
def notOurs (n : Nat) (m : RxMpdu) (s : State) : State :=
  let s := onSlice n (fun x => { x with reception := x.reception.map fun r => { r with rejected := true } }) s
  match m.nav with
  | some (us, true) => onMac n (fun x => { x with navIntra := max x.navIntra (runTime s + us * 1000) }) s
  | some (us, false) => onMac n (fun x => { x with navBasic := max x.navBasic (runTime s + us * 1000) }) s
  | none => s

/-- An RTS is answered with a CTS while both NAVs are clear (R109). -/
def rtsReceive (n : Nat) (m : RxMpdu) (s : State) : State :=
  let x := slice n s
  if x.state == .ready && decide ((mac n s).navIntra ≤ runTime s) && decide ((mac n s).navBasic ≤ runTime s) then
    onMac n (fun k => { k with response := some ⟨3, [⟨m.station, 0, [], 0, []⟩], true, x.rxCount⟩ }) s
  else s

/-- An MPDU whose FCS has failed stops at stage 5, which counts it (R23, R92); of a Cumulus PPDU its map has failed, or its soft
values may be stored (R83, R84). -/
def badFcs (n : Nat) (m : RxMpdu) (s : State) : State :=
  let s := onCounters n (fun c => { c with fcsFailed := inc 32 c.fcsFailed }) s
  if !m.ours || m.station = 0xFFFF then s
  else if m.kind = 3 then
    onSlice n (fun x => { x with rxMapFailed := true }) (onPeer m.station (fun p => { p with mapsFailed := inc 32 p.mapsFailed }) s)
  else s

/-- Combining takes an MPDU in: one of a PPDU whose map has not failed, from the only user of its RU (R83, R84). -/
def combineMpdu (n : Nat) (m : RxMpdu) (s : State) : State :=
  match m.cumulus with
  | some (tag, codewords, form, again) =>
    if (slice n s).rxMapFailed || !m.alone || m.station = 0xFFFF then s
    else combine m.station n ⟨tag, codewords, form, again, m.fcs, m.llr⟩ s
  | none => s

/-- An MPDU as the modem hands it over (R23, R83): also one whose slice has left READY meanwhile (R75). Of a PPDU in a foreign
format nothing is demodulated (R95). A frame of an unknown transmitter draws its Ack and no more. -/
def mpduReceive (n : Nat) (m : RxMpdu) (s : State) : State :=
  let m := { m with station := stationAt n m.addr s }
  if (slice n s).rx == .foreign && !m.late then s
  else if !m.fcs then combineMpdu n m (badFcs n m s)
  else if !m.ours then notOurs n m s
  else if m.kind = 4 then rtsReceive n m s
  else if m.kind = 3 then s
  else if m.station = 0xFFFF then addAck n 0xFFFF { m with late := m.late || (slice n s).rxFrozen } s
  else takeMpdu n m (combineMpdu n m s)

/-- MPDU_RECEIVE (R23). -/
def execMpduReceive (slice : Nat) (m : RxMpdu) (s : State) : Host.Outcome State Fault Refusal :=
  .next (mpduReceive slice m (start s))

/-- The MIC verdict of the MPDU that has waited longest (R129). -/
def micVerdict (good : Bool) (s : State) : State :=
  match s.air.mic with
  | [] => s
  | w :: r =>
    let s := onAir (fun a => { a with mic := r }) s
    if good then settleMpdu w.slice w.station w.mpdu (some w.msdus) s
    else settleMpdu w.slice w.station w.mpdu none (badFrameOf w.station 0 s)

/-- MIC_VERDICT (R129). -/
def execMicVerdict (good : Bool) (s : State) : Host.Outcome State Fault Refusal := .next (micVerdict good (start s))

/-- A hole has waited 50 ms: it is given up (R114). -/
def holeTimeout (h tid : Nat) (s : State) : State :=
  match session h tid s with
  | none => s
  | some y =>
    if y.held.isEmpty then s
    else drainHeld h tid 1024 (stepsOver h tid (seqDiff (lowestSeq (y.held.map (·.seq))) y.next) s)

/-- REORDER_HOLE_TIMEOUT (R114). -/
def execReorderHoleTimeout (station tid : Nat) (s : State) : Host.Outcome State Fault Refusal :=
  .next (holeTimeout station tid (start s))

/-- The response a BlockAckReq solicits (R112): an entry without an MPDU of its own, from its start where the context is not
resident. -/
def oweBlockAck (n h tid ssn : Nat) (s : State) : State :=
  let x := slice n s
  let k := (mac n s).response
  if x.rxFrozen || k.any (fun r => r.frozen || r.ppdu != x.rxCount) then s
  else
    let tb := x.reception.any (·.tb)
    let r := k.getD ⟨if tb then 2 else 1, [], false, x.rxCount⟩
    if r.entries.any fun e => e.station == h && e.tid == tid then s
    else
      let r := { r with entries := r.entries ++ [⟨h, tid, [], ssn, []⟩], kind := if r.entries.isEmpty then r.kind else 2 }
      onMac n (fun m => { m with response := some r }) s

/-- A BlockAckReq is answered with a BlockAck and moves the window start, where the context is not resident once it has arrived
(R112, R114, R160). -/
def barReceive (n h tid ssn : Nat) (s : State) : State :=
  if (slice n s).state != .ready || !((station h s).any fun x => x.links.get n != 255) || (session h tid s).isNone then s
  else
    let s := oweBlockAck n h tid ssn (onStation h (fun x => { x with lastFrame := s.mem.seconds }) s)
    if resident h s then moveWindow h tid ssn (touch h true s)
    else
      let m : RxMpdu := { station := h, kind := 5, tid := tid, seq := ssn }
      let held : HeldMpdu := ⟨n, m, (slice n s).rxVector, rd (slice n s).rxVector 8 4, false⟩
      demandFetch h (onMls (fun k => { k with hold := k.hold ++ [held] }) s)

/-- BLOCKACKREQ_RECEIVE (R114). -/
def execBlockackreqReceive (slice station tid start : Nat) (s : State) : Host.Outcome State Fault Refusal :=
  .next (barReceive slice station tid start (Machine.start s))

/-- A PPDU ends: the receiver returns to search; a response raises the coexistence request (R95, R97, R490). -/
def rxEnd (n : Nat) (s : State) : State :=
  match (slice n s).reception with
  | none => s
  | some r =>
    let s := if r.tb then endTrigger n s else s
    let s := if (mac n s).response.isSome then coexDrive n true true s else s
    toSearch n (onSlice n (fun x => { x with lastRx := some (r, 0) }) s)

/-- PPDU_RX_END (R102). -/
def execPpduRxEnd (slice : Nat) (s : State) : Host.Outcome State Fault Refusal := .next (rxEnd slice (start s))

end Sys2Proof.Machine
end

