-- ==== Sys2Proof/Machine/Transmit.lean ====
section
/-! DEFINITION. What a slice sends: beacons, the fix point of a PPDU, its start and end, protection, acknowledgement, and the
end of a TXOP (chapter 03, R61 to R68, R77, R82; chapter 05, R106 to R113, R118, R121 to R124, R130; chapter 06, R145, R148, R157;
chapter 08, R211, R225; chapter 21, R490). -/
namespace Sys2Proof.Machine

/-! ### Which link carries an MPDU (R121) -/

/-- The link policy of a station: its own, its AP MLD's, or the default. -/
def linkPolicyOf (x : Station) (s : State) : LinkPolicy :=
  (x.policy.or (Tab.look s.air.mldPolicy x.mld)).getD ⟨0, 7, 1000, List.replicate 8 0⟩

/-- Links permitted for a TID. -/
def permittedLinks (p : LinkPolicy) (tid : Nat) : Nat := let l := p.tidLinks.getD tid 0; if l = 0 then p.links else l

/-- Device time at which a slice's TXOP for a station began, or its next planned one starts (R121). -/
def txopStart (h n : Nat) (s : State) : Option Nat :=
  match (mac n s).txop with
  | some t => if t.users.contains h then some t.since else none
  | none => ((s.mls.plan.txops.find? fun t => t.slice == n && t.users.contains h).map fun t => s.mls.startAt + t.start * 1000)

/-- The share of a TID's queue that a link may carry: all of it, its head alone, or nothing. A permitted link carries all under mode
0; under mode 1 the one whose TXOP for the station starts first; under mode 2 the lowest usable one, and another only a head that
has waited longer than the spill time (R121). -/
def linkShare (h : Nat) (x : Station) (n tid : Nat) (s : State) : Option Bool :=
  let p := linkPolicyOf x s
  let ok : Nat → Bool := fun m => bit (permittedLinks p tid) m && linkUsable x m s
  let first : Bool := match txopStart h n s with
    | none => true
    | some t => (others n).all fun m => !ok m || (txopStart h m s).all fun u => decide (t < u ∨ (t = u ∧ n < m))
  if !ok n then none
  else match p.mode with
    | 1 => if first then some true else none
    | 2 =>
      if ([0, 1, 2].find? ok) == some n then some true
      else if x.headAt.getD tid 0 + p.spill * 1000 < runTime s then some false
      else none
    | _ => some true

/-- A station dozes on every usable link (R124). -/
def dozing (x : Station) (s : State) : Bool :=
  let l := [0, 1, 2].filter fun n => linkUsable x n s
  !l.isEmpty && l.all fun n => x.doze.get n

/-- Restricted schedules whose service period is open on a slice (R146, R222). -/
def restricted (n : Nat) (s : State) : List TwtSchedule :=
  s.mls.twtNow.filter fun e => e.kind == 1 && s.mls.openSps.contains (e.bss, 1, e.id) && (bss e.bss s).any fun b => b.slice == n

/-- The slice may serve a station, or a TID of it: in a restricted service period only the schedule's TIDs of its members (R146). -/
def admits (n h : Nat) (tid : Option Nat) (s : State) : Bool :=
  let l := restricted n s
  l.isEmpty || l.any fun e => s.mls.members.contains (e.bss, 1, e.id, h) && tid.all fun t => bit e.tids t

/-- A station may be served on a slice: authorised, with its key, awake or delivered to, free of constraints of another link, and no
channel move for radar is pending (R48, R122 to R124, R131, R146, R150). -/
def servable (h n : Nat) (s : State) : Bool :=
  (station h s).any fun x => decide (3 ≤ x.state) && linkUsable x n s && linkFree h n s && !(slice n s).radarMove
    && (!dozing x s || decide (0 < x.deliver) || inService h x s)
    && admits n h none s && (!secured h n s || (keyOf x.ptk s).isSome)

/-! ### Sojourn-based drop (R225) -/

/-- Integer square root by bisection. -/
def isqrt (v : Nat) : Nat → Nat → Nat → Nat
  | 0, lo, _ => lo
  | k + 1, lo, hi => let mid := (lo + hi + 1) / 2; if mid * mid ≤ v then isqrt v k mid hi else isqrt v k lo (mid - 1)

/-- The first MPDU of a TID never yet transmitted. -/
def freshHead (h tid : Nat) (s : State) : Option Mpdu :=
  (station h s).bind fun x => x.queue.find? fun m => m.tid == tid && m.attempts == 0 && m.flight.isNone

/-- Bytes of a TID's queue. -/
def queueBytes (h tid : Nat) (s : State) : Nat :=
  (station h s).elim 0 fun x => ((x.queue.filter fun m => m.tid == tid).map (·.length)).sum

/-- The head is dropped with status LIFETIME, counted as a sojourn drop. -/
def sojournDrop (h : Nat) (m : Mpdu) (s : State) : State :=
  settleShapers (dropMpdu h 2 (onQueue (stationQueue h m.tid) (fun q => { q with nSojourn := inc 32 q.nSojourn }) s) m)

/-- The check at a fix point that takes the head of a queue. -/
def sojournCheck (h tid : Nat) (s : State) : State :=
  let id := stationQueue h tid
  let q := queue id s
  match freshHead h tid s with
  | none => s
  | some m =>
    let now := deviceTime s
    if !q.sojourn then s
    else if now - m.entered < q.target * 1000000 ∨ queueBytes h tid s ≤ 3072 then
      onQueue id (fun q => { q with above := none, dropping := false }) s
    else match q.above with
      | none => onQueue id (fun q => { q with above := some now }) s
      | some a =>
        if !q.dropping && decide (q.interval * 1000000 ≤ now - a) then
          sojournDrop h m (onQueue id (fun q => { q with dropping := true, count := 1, next := now + q.interval * 1000000 }) s)
        else if q.dropping && decide (q.next ≤ now) then
          let k := q.count + 1
          let gap := isqrt ((q.interval * 1000000) ^ 2 / k) 64 0 (q.interval * 1000000)
          sojournDrop h m (onQueue id (fun q => { q with count := k, next := now + gap }) s)
        else s

/-! ### The fix point (R121, R130, R157) -/

/-- An MPDU is taken into a PPDU: at its first fix point it is numbered and charged, and at the first under its key protected (R121,
R128, R131, R211). -/
def takeOut (h n : Nat) (s : State) (m : Mpdu) : State :=
  let first := m.seq.isNone
  let s := onStation h (fun x =>
    let seq := m.seq.getD (x.txSeq.getD m.tid 0)
    let slot := if m.slot.isSome then m.slot else if (keyOf x.ptk s).isSome then some x.ptk else none
    { x with queue := x.queue.map fun y => if y.id = m.id then { y with seq := some seq, flight := some n, slot := slot } else y
             txSeq := if first then x.txSeq.set m.tid ((seq + 1) % 4096) else x.txSeq
             txPn := if m.slot.isNone && slot.isSome then x.txPn.set m.tid (x.txPn.getD m.tid 0 + 1) else x.txPn
             deliver := x.deliver - 1 }) s
  if first then
    let b := ((station h s).map fun x => x.links.get n).getD 255
    charge (1, b) (byteCharge m.length) (charge (0, h) (byteCharge m.length) s)
  else s

/-- Combining is active with the station of a user alone on its RU, LDPC coded, on a link in force (R82, R84). -/
def cumulusOn (n : Nat) (u : FixUser) (ldpc alone : Bool) (s : State) : Bool :=
  let p := peerOf u.station s
  p.active && bit (peerLinks p) n && ldpc && alone

/-- Codewords of some bytes (R82). -/
def codewordsOf (bytes cwBits : Nat) : Nat := max 1 ((bytes * 8 + cwBits - 1) / max 1 cwBits)

/-- Bytes that codewords carry. -/
def codewordBytes (k cwBits : Nat) : Nat := (k * cwBits + 7) / 8

/-- Bytes that an MPDU takes of an A-MPDU: of a codeword-aligned one its whole codewords (R82). -/
def mpduCost (aligned : Bool) (cwBits length : Nat) : Nat :=
  if aligned then codewordBytes (codewordsOf length cwBits) cwBits else length

/-- Bytes of a Cumulus map of a number of entries: an Action No Ack frame's 33 and the FCS it ends with, and 8 for each (R82). -/
def cumulusMapBytes (k : Nat) : Nat := 37 + 8 * k

/-- The MPDUs of a list that fit: a number of them, and bytes, the first one too. -/
def fitting (cost : Nat → Nat) : Nat → Nat → List Mpdu → List Mpdu
  | 0, _, _ => []
  | _, _, [] => []
  | k + 1, room, m :: r => if cost m.length ≤ room then m :: fitting cost k (room - cost m.length) r else []

/-- The MPDUs a share takes from the head of a TID queue, retries first, within the A-MPDU's limits: the agreed buffer size, one MPDU
without a session, 11,454 octets an MPDU, and the room left (R82, R111, R121). -/
def picks (u : FixUser) (n : Nat) (aligned : Bool) (room : Nat) (s : State) : List Mpdu :=
  match station u.station s with
  | none => []
  | some x =>
    let q := x.queue.filter fun m => m.tid == u.tid
    let l := q.filter fun m => m.flight.isNone && decide (m.length ≤ 11454)
    let k := if dozing x s && !inService u.station x s then min u.count x.deliver else u.count
    let k := min (if aligned then 255 else 1024) (min k (((Tab.look x.sessions u.tid).map (·.size)).getD 1))
    let l := match linkShare u.station x n u.tid s with
      | none => []
      | some true => l
      | some false => l.filter fun m => (q.head?.map Mpdu.id) == some m.id
    if admits n u.station (some u.tid) s && !twtHeld (stationQueue u.station u.tid) s then
      fitting (mpduCost aligned u.cwBits) k room ((l.filter fun m => m.attempts != 0) ++ l.filter fun m => m.attempts == 0)
    else []

/-- An MPDU of a codeword-aligned A-MPDU is listed in its map: a retransmission within the lifetime keeps its tag where its MCS and
codewords are the same, any other takes a new one (R82). -/
def tagMpdu (u : FixUser) (a : List MapEntry × State) (m : Mpdu) : List MapEntry × State :=
  let s := a.2
  let now := runTime s
  let live := m.tag.filter fun g => g.2.1 == u.mcs && g.2.2.1 == u.cwBits && decide (now < g.2.2.2 + softLife u.station s * 1000000)
  let tag := match live with | some g => g.1 | none => (peerOf u.station s).nextTag
  let entry : MapEntry := ⟨m.tid, ((station u.station s).bind fun x => (x.queue.find? fun y => y.id == m.id).bind (·.seq)).getD 0, tag,
    codewordsOf m.length u.cwBits, live.isSome⟩
  let s := if live.isSome then s else
    onStation u.station (fun x => { x with queue := x.queue.map fun y =>
      if y.id = m.id then { y with tag := some (tag, u.mcs, u.cwBits, now) } else y })
      (onPeer u.station (fun p => { p with nextTag := inc 16 p.nextTag }) s)
  (a.1 ++ [entry], s)

/-- What has been taken for a PPDU so far: stations and MPDUs, bytes used by each station, and Cumulus maps. -/
structure Filled where
  /-- Stations and MPDUs. -/
  mpdus : List (Nat × Nat)
  /-- Bytes by station. -/
  used : Tab Nat
  /-- Maps. -/
  maps : List (Nat × List MapEntry)
  deriving DecidableEq, Repr

/-- One user's share is filled: of what the PPDU carries for it, less what its other TIDs have taken (R121, R149). -/
def fillShare (n : Nat) (bytes : FixUser → Nat) (aligned : FixUser → Bool) (a : Filled × State) (u : FixUser) : Filled × State :=
  let f := a.1
  let map := aligned u
  let room := bytes u - Tab.getD f.used u.station 0 - (if map then mpduCost true u.cwBits (cumulusMapBytes (min 255 u.count)) else 0)
  let s := if (picks u n map room a.2).any fun m => m.attempts == 0 then sojournCheck u.station u.tid a.2 else a.2
  let l := picks u n map room s
  let s := touch u.station true (l.foldl (takeOut u.station n) s)
  let r := if map then l.foldl (tagMpdu u) ([], s) else ([], s)
  (⟨f.mpdus ++ l.map fun m => (u.station, m.id),
    Tab.put f.used u.station (Tab.getD f.used u.station 0 + (l.map fun m => mpduCost map u.cwBits m.length).sum),
    if r.1.isEmpty then f.maps else f.maps ++ [(u.station, r.1)]⟩, r.2)

/-- Users whose entries are not resident are late: counted once per TXOP (R157). -/
def markLate (n : Nat) (l : List Nat) (s : State) : State :=
  let seen := ((mac n s).txop.map (·.lateUsers)).getD []
  let fresh := l.filter fun h => !seen.contains h
  let s := onMac n (fun m => { m with txop := m.txop.map fun t => { t with lateUsers := t.lateUsers ++ fresh } }) s
  onCrownStats (fun c => { c with late := addWrap 32 c.late fresh.length })
    (onMls (fun m => { m with ratio := (m.ratio.1 + fresh.length, m.ratio.2) }) s)

/-- The keys of slots as a PPDU latches them (R130). -/
def latchSlots (l : List Nat) (s : State) : Tab Bytes :=
  l.foldl (fun t h => match keyOf h s with
    | some k => Tab.put t h k
    | none => t) []

/-- The keys a PPDU for stations latches: of the slots its MPDUs are protected under, and of the stations' own (R130). -/
def latchKeys (users : List Nat) (mpdus : List (Nat × Nat)) (s : State) : Tab Bytes :=
  latchSlots ((users.filterMap fun h => (station h s).map (·.ptk)) ++ mpdus.filterMap fun e =>
    (station e.1 s).bind fun x => (x.queue.find? fun m => m.id == e.2).bind (·.slot)) s

/-- Device time at which a PPDU fixed now starts (R121). -/
def startsAt (s : State) : Nat := runTime s + 24000

/-- Device time at which a slice's PPDU ends, fixed or on the air. -/
def txEnds (n : Nat) (s : State) : Option Nat :=
  match (slice n s).tx with
  | some p => some (p.since + p.duration * 1000)
  | none => ((mac n s).fixed.filter fun f => !f.sent).map fun f => f.starts + f.duration * 1000

/-- Two ends lie within 8 µs of each other (R56, R122). -/
def aligned (a b : Nat) : Bool := decide (a ≤ b + 8000 ∧ b ≤ a + 8000)

/-- What the TXOP's limit leaves a PPDU of it, its answer included, µs (R110). -/
def txopLeft (n answer : Nat) (s : State) : Nat :=
  match (mac n s).txop with
  | some t => txopLimit t.ac - (if t.begun then (startsAt s - t.since) / 1000 else 0) - answer
  | none => 0

/-- The duration of a PPDU fixed now: within the longest one, the TXOP's limit and, where an NSTR partner sends, ending as its PPDU
does. A data PPDU, a trigger frame and a sounding sequence are cut or padded to that; any other frame has its own length, and of a
TXOP it is the first PPDU of, no limit but the longest one. None where there is no such duration (R56, R68, R110). -/
def fitDuration (n : Nat) (flex : Bool) (least want answer : Nat) (s : State) : Option Nat :=
  let first := !(mac n s).txop.any (·.begun)
  let most := if !flex && first then longest n s else min (longest n s) (txopLeft n answer s)
  let ends := ((others n).filter fun m => nstr n m s).filterMap (fun m => txEnds m s) |>.filter fun e => decide (startsAt s < e)
  let d := match flex, ends with
    | true, e :: _ => (e - startsAt s) / 1000
    | true, [] => min want most
    | false, _ => min want (longest n s)
  if decide (d ≤ most) && decide (least < d) && ends.all fun e => aligned e (startsAt s + d * 1000) then some d else none

/-- A PPDU is fixed; in 2.4 GHz it asks for the coexistence grant (R490). -/
def fixPpdu (n : Nat) (f : Fixed) (s : State) : State :=
  let low := (tuned n s).any fun c => bandOf c.centre == 0
  let pri := (mac n s).txop.any fun t => t.what == 1 || t.ac == 3
  coexDrive n true pri (onMac n (fun m => { m with fixed := some { f with granted := !low } }) s)

/-- The protection an exchange needs first: 2 an RTS, 3 an MU-RTS (R109, R123). `clear` says that the one before it has been answered
for this PPDU. -/
def protection (n : Nat) (t : Txop) (users : List Nat) (kind duration txop : Nat) (s : State) : Option Nat :=
  if users.any fun h => (station h s).any fun x => x.kind == 3 && x.emlsrOn != some n then some 3
  else if t.clear then none
  else if kind = 11 || decide (1 < users.length) then (if !t.begun && decide (500 < txop) then some 3 else none)
  else if kind = 0 && decide (500 < duration) then some 2
  else none

/-- The TXOP is given up before anything was sent: its stations are eligible again (R157). -/
def dropTxop (n : Nat) (s : State) : State := markUse (coexDrive n false false (onMac n (fun m => { m with txop := none }) s))

/-! ### Users, their RUs, and the vector (R61 to R66, R145, R154, R157) -/

/-- The whole of a PPDU's subchannels as one RU or MRU. -/
def wholeRu (occupied : Nat) : Ru :=
  ⟨(([242, 484, 726, 996, 1480, 1722, 1992, 2476, 2988, 3472, 3984] : List Nat).find? fun t => (ruPlaces t).contains occupied).getD 242,
    occupied, 0⟩

/-- A PPDU of a planned TXOP that its kind and format send to several users. -/
def isMulti (p : FixPlan) : Bool := p.kind == 11 || p.kind == 12 || p.format == 9 || p.format == 10

/-- The users asked for, in the rank order of the TXOP, that may be served; of a PPDU to a single user the first station's (R145). -/
def askedUsers (n : Nat) (t : Txop) (p : FixPlan) (s : State) : List FixUser :=
  let l := (t.users.map fun h => p.users.filter fun u => u.station == h && servable h n s).flatten
  match l with
  | [] => []
  | u :: _ => if isMulti p then l else l.filter fun v => v.station == u.station

/-- A user's own limits: its format, rate and MCS, and no more streams than the station or, of a downlink, the slice's chains take
(R45, R61, R62). -/
def userFits (n : Nat) (p : FixPlan) (width : Nat) (u : FixUser) (s : State) : Bool :=
  let f := if p.kind = 11 then 8 else p.format
  rateFits f u.streams u.mcs (if p.kind = 11 then 1 else p.gi) && mcsFits f (bandNow n s) width u.streams u.mcs u.dcm
    && ((station u.station s).any fun x => decide (u.streams ≤ x.streams) && (decide (p.format ≤ 3) || x.he))
    && (p.kind == 11 || decide (u.streams ≤ (chainsOn (slice n s)).length))

/-- A precoder is valid: computed from a report no older than the sounding interval (R27). -/
def precoderValid (s : State) (x : Station) : Bool :=
  x.precoder && x.report.all fun t => decide (runTime s ≤ t + s.mls.inForce.sounding * 1000000)

/-- A user may join others of its RU in MU-MIMO, under the policy of its direction: each has a valid precoder, its MCS is within 2 of
the lowest, and its channel correlation with the others lies below 0.3 (R145, R167). -/
def mayJoin (up : Bool) (group : List FixUser) (u : FixUser) (s : State) : Bool :=
  let precoder (v : FixUser) : Bool := (station v.station s).any (precoderValid s)
  let low := (u :: group).foldl (fun a v => min a v.mcs) u.mcs
  bit s.mls.inForce.flags (if up then 3 else 2) && (u :: group).all fun v =>
    precoder v && decide (v.mcs ≤ low + 2) && decide (v.correlation < 30)

/-- A user joins those already placed: within the limits of R64, sharing the PPDU by OFDMA or its RU by MU-MIMO where the policy
allows. A further TID of a station already placed goes with it. -/
def placeUser (n : Nat) (p : FixPlan) (width occupied : Nat) (s : State) (l : List FixUser) (u : FixUser) : List FixUser :=
  let up := p.kind == 11
  let ones := l.foldl (fun a v => if a.any fun (w : FixUser) => w.station == v.station then a else a ++ [v]) ([] : List FixUser)
  let group := ones.filter fun v => v.ru == u.ru
  let apart := ones.any fun v => v.ru != u.ru
  if ones.any fun v => v.station == u.station then l ++ [u]
  else if userFits n p width u s && ruRoom occupied (ones.map fun v => (v.ru, v.streams)) u.ru u.streams
      && (!apart || bit s.mls.inForce.flags (if up then 1 else 0)) && (group.isEmpty || mayJoin up group u s) then l ++ [u]
  else l

/-- The users of a planned PPDU over a width and subchannels: up to 16 of a sounding sequence (R147); the whole width of a PPDU to a
single user; of any other those that can be placed, in rank order. -/
def placedUsers (n : Nat) (p : FixPlan) (cover : Nat × Nat) (l : List FixUser) (s : State) : List FixUser :=
  if p.kind = 12 then l.take 16
  else if isMulti p then l.foldl (placeUser n p cover.1 cover.2 s) []
  else (l.map fun u => { u with ru := wholeRu cover.2 }).filter fun u => userFits n p cover.1 u s

/-- The number of stations that share a user's RU is one. -/
def aloneIn (l : List FixUser) (u : FixUser) : Bool := l.all fun v => v.station == u.station || v.ru != u.ru

/-- What the modem needs of a user: its code, and its precoder set or the mapping without one (R63, R66). -/
def txUser (n format : Nat) (u : FixUser) (s : State) : TxUser :=
  let x := station u.station s
  let set := (x.filter fun x => precoderValid s x && x.beamformee).map (·.precoderSet)
  ⟨u.station, u.ru, u.mcs, u.streams, sendsLdpc format u.ru.tones u.streams u.mcs (x.any fun x => bit x.flags 5), u.dcm,
    spatialMapping set u.streams (chainsOn (slice n s)).length⟩

/-- The vector of a data PPDU: one entry for each station, and the RUs that late users leave unassigned (R157). -/
def dataVector (n : Nat) (p : FixPlan) (cover : Nat × Nat) (l late : List FixUser) (s : State) : TxVector :=
  let ones := l.foldl (fun a v => if a.any fun (w : FixUser) => w.station == v.station then a else a ++ [v]) ([] : List FixUser)
  { format := p.format, width := cover.1, occupied := cover.2, gi := p.gi, users := ones.map fun u => txUser n p.format u s
    unassigned := ((late.map (·.ru)).filter fun r => !(l.any fun u => u.ru == r)).eraseDups, pe := 0, nav := p.answer }

/-- The packet extension a trigger frame asks for: 20 µs while the turbo setting is above 1 and an RU has two or more users, else the
nominal packet padding of its largest RU (R77, R79). -/
def triggerPe (l : List FixUser) (s : State) : Nat :=
  if 1 < s.modem.lda.passesNow && l.any (fun u => !aloneIn l u) then 20
  else nominalPadding (l.foldl (fun a u => max a u.ru.tones) 0)

/-- The NDP's format of a sounding sequence: VHT, HE or EHT (R67). -/
def ndpFormat (format : Nat) : Nat := if format = 3 then 3 else if isHe format then 4 else 7

/-- The vector of a sounding sequence: an NDP of as many streams as chains are on (R67). -/
def soundingVector (n : Nat) (p : FixPlan) (cover : Nat × Nat) (s : State) : TxVector :=
  let k := (chainsOn (slice n s)).length
  { format := ndpFormat p.format, width := cover.1, occupied := cover.2, gi := p.gi
    users := [⟨0xFFFF, wholeRu cover.2, 0, k, true, false, spatialMapping none k k⟩], unassigned := [], pe := 0, nav := p.answer }

/-- The width and subchannels of a PPDU of a slice's TXOP (R108). -/
def coverFor (n format ask : Nat) (s : State) : Nat × Nat :=
  match tuned n s, (mac n s).txop with
  | some c, some t => coverOf c t.cover.2 (isEht format) (min ask t.cover.1)
  | _, _ => (0, 1)

/-- A plain frame's vector over the TXOP's width, at a rate its format has (R61). -/
def plainFor (n : Nat) (p : FixPlan) (nav : Nat) (s : State) : TxVector :=
  let f := if p.format = 0 && bandNow n s == 0 then 0 else 1
  plainVector n f (min p.mcs (formatMcs f)) (coverFor n f (if f = 0 then 0 else p.width) s) nav s

/-- Starting sequence number of a TID: of its oldest MPDU numbered, or the next one (R113). -/
def startingSeq (h tid : Nat) (s : State) : Nat :=
  match station h s with
  | none => 0
  | some x => ((x.queue.find? fun m => m.tid == tid && m.seq.isSome).bind (·.seq)).getD (x.txSeq.getD tid 0)

/-- Stations and sequence numbers of a PPDU's MPDUs. -/
def mpduList (l : List (Nat × Nat)) (s : State) : List (Nat × Nat × Nat) :=
  l.filterMap fun e => (station e.1 s).bind fun x => (x.queue.find? fun m => m.id == e.2).map fun m => (e.1, m.tid, m.seq.getD 0)

/-- The longest padding that EMLSR clients of a list have declared, µs (R123). -/
def icfPadding (l : List Nat) (s : State) : Nat :=
  l.foldl (fun a h => max a ((((station h s).filter fun x => x.kind == 3).map (·.padding)).getD 0)) 0

/-- An RTS or MU-RTS is fixed: it protects the exchange that follows, padded for EMLSR clients (R109, R123). -/
def fixProtection (n kind : Nat) (p : FixPlan) (who : List Nat) (s : State) : State :=
  let us := p.protect + (if kind = 3 then icfPadding who s else 0)
  match fitDuration n false 0 us 0 s with
  | none => if (mac n s).txop.any (·.begun) then s else undoTxop n s
  | some d =>
    fixPpdu n ⟨kind, who, [], [], startsAt s, d, plainFor n p (p.duration + p.answer) s, .none, false, false, false⟩
      (onMac n (fun m => { m with txop := m.txop.map fun x => { x with awaitCts := kind - 1, clear := false, users := if x.users.isEmpty then who else x.users } }) s)

/-- A user's share of a PPDU's airtime is added to its station's in the TXOP. -/
def addShares (n : Nat) (l : List FixUser) (s : State) : State :=
  onMac n (fun m => { m with txop := m.txop.map fun x => { x with
    shares := l.foldl (fun a u => Tab.put a u.station (Tab.getD a u.station 0 + u.us)) x.shares } }) s

/-- Users of an NSTR MLD are left out where its other link has a PPDU for it that this one would not end with, or where either
solicits no immediate response (R122). -/
def mldAligned (n : Nat) (p : FixPlan) (d : Nat) (s : State) (u : FixUser) : Bool :=
  (station u.station s).all fun x => x.kind != 2 || !bit x.nstrPair n || (others n).all fun m =>
    !bit x.nstrPair m || !((mac m s).fixed.any fun f => f.users.contains u.station)
      || (!p.noAck && (mac m s).fixed.all (fun f => !f.noAck) && (txEnds m s).all fun e => aligned e (startsAt s + d * 1000))

/-- A data PPDU is fixed: a BlockAckReq goes first where a user's TID owes one (R113), else its MPDUs are taken (R121). -/
def fixData (n : Nat) (t : Txop) (p : FixPlan) (d : Nat) (cover : Nat × Nat) (l late : List FixUser) (s : State) : State :=
  let bars := l.filter fun u => (station u.station s).any fun x => x.barOwed.contains u.tid
  let who := (l.map (·.station)).eraseDups
  if !bars.isEmpty then
    let whom := (bars.map (·.station)).eraseDups
    let body : AirBody := .bar (decide (1 < whom.length)) (bars.map fun u => (u.station, u.tid, startingSeq u.station u.tid s))
    fixPpdu n ⟨13, whom, bars.map fun u => (u.station, u.tid), [], startsAt s, d, plainFor n p p.answer s, body, false, false, false⟩
      (whom.foldl (fun t h => touch h true t) s)
  else
    let bytes (u : FixUser) : Nat := bitsIn p.format cover.1 u.ru.tones u.mcs u.streams p.gi u.dcm (d - p.overhead) / 8
    let map (u : FixUser) : Bool := cumulusOn n u (txUser n p.format u s).ldpc (aloneIn (l ++ late) u) s
    let r := l.foldl (fillShare n bytes map) (⟨[], [], []⟩, s)
    if r.1.mpdus.isEmpty then (if t.begun then r.2 else dropTxop n r.2)
    else
      let chosen := who.filter fun h => r.1.mpdus.any fun e => e.1 == h
      let left := late ++ l.filter fun u => !chosen.contains u.station
      let vec := dataVector n p cover (l.filter fun u => chosen.contains u.station) left r.2
      settleShapers (fixPpdu n ⟨0, chosen, r.1.mpdus, latchKeys chosen r.1.mpdus r.2, startsAt s, d, vec,
        .data (mpduList r.1.mpdus r.2) r.1.maps, p.noAck, false, false⟩ (addShares n (l.filter fun u => chosen.contains u.station) r.2))

/-- A trigger frame is fixed: its users with their target RSSI, and AID12 2046 for a late one (R148, R157). -/
def fixTrigger (n : Nat) (p : FixPlan) (d : Nat) (l late : List FixUser) (s : State) : State :=
  let who := (l.map (·.station)).eraseDups
  let target (h : Nat) : Int := ((station h s).map fun x => x.target.get n).getD 0
  let body : AirBody := .trigger p.bsrp (who.map (fun h => (h, target h)) ++ late.map fun u => (2046, target u.station))
  let vec := { plainFor n p p.answer s with pe := triggerPe l s }
  fixPpdu n ⟨11, who, [], latchKeys who [] s, startsAt s, d, vec, body, false, false, false⟩
    (addShares n l (who.foldl (fun t h => touch h true t) s))

/-- A sounding sequence is fixed (R67, R147). -/
def fixSounding (n : Nat) (p : FixPlan) (d : Nat) (cover : Nat × Nat) (l : List FixUser) (s : State) : State :=
  let who := (l.map (·.station)).eraseDups
  let vec := soundingVector n p cover s
  fixPpdu n ⟨12, who, [], latchKeys who [] s, startsAt s, d, vec, .sounding vec.format (chainsOn (slice n s)).length who,
    false, false, false⟩ (addShares n l (who.foldl (fun t h => touch h true t) s))

/-- The format a planned PPDU goes out in: a trigger frame is a plain one. -/
def plannedFormat (p : FixPlan) : Nat := if p.kind = 11 then 1 else if p.kind = 12 then ndpFormat p.format else p.format

/-- A PPDU of a planned TXOP is fixed (R109, R121, R157); none that a modem may not build (R61, R62). -/
def fixPlanned (n : Nat) (t : Txop) (p : FixPlan) (s : State) : State :=
  let cover := coverFor n (plannedFormat p) p.width s
  let allowed := sends (plannedFormat p) && formatFits (plannedFormat p) (bandNow n s) cover.1
  let users := if allowed then placedUsers n p cover (askedUsers n t p s) s else []
  let late := users.filter fun u => !resident u.station s
  let l := users.filter fun u => resident u.station s
  let s := markLate n ((late.map (·.station)).eraseDups) s
  if l.isEmpty then (if t.begun then s else dropTxop n s)
  else match fitDuration n true p.overhead p.duration p.answer s with
    | none => if t.begun then s else undoTxop n s
    | some d =>
      let l := l.filter (mldAligned n p d s)
      let who := (l.map (·.station)).eraseDups
      if l.isEmpty then (if t.begun then s else undoTxop n s)
      else match protection n t who p.kind d p.txop s with
        | some k => fixProtection n k p who s
        | none =>
          match p.kind with
          | 11 => fixTrigger n p d l late s
          | 12 => fixSounding n p d cover l s
          | _ => fixData n t p d cover l late s

/-! ### The slice's own frames (R107, R118) -/

/-- The commands that own a management frame can no longer be stopped (R133). -/
def passMgmt (n : Nat) (f : MgmtFrame) (s : State) : State :=
  match f.owner with
  | 1 => passPoint 0x0305 (fun a => rd a.payload 0 2 == f.station) s
  | 2 => match station f.station s with
    | some x => passPoint 0x0302 (fun a => rd a.payload 0 1 == x.links.get n) s
    | none => s
  | _ => s

/-- Frames wait for a station that dozes on every usable link: its TIM bit is set (R124). -/
def timSet (x : Station) (s : State) : Bool := dozing x s && !x.queue.isEmpty

/-- What the beacon of a slice's transmitted BSSID carries (R48, R79, R118, R124, R125, R167). -/
def beaconBody (n b : Nat) (x : Bss) (s : State) : BeaconBody :=
  let set := bssOn n s
  let base : Int := (s.clock.tsfBase.get n).getD 0
  let mld := set.filter fun e => e.2.mld != 255
  { bss := b
    others := (set.map Prod.fst).filter (· != b)
    mlds := mld.map fun e => (e.1, e.2.mld)
    neighbours := (s.air.bss.filter fun e => e.2.slice != n && mld.any fun m => m.2.mld == e.2.mld).map Prod.fst
    tim := (s.air.stations.filter fun e => set.any (fun y => y.1 == e.2.links.get n) && timSet e.2 s).map Prod.fst
    dtimCount := x.dtimCount
    group := (set.filter fun e => decide (0 < e.2.groupReady)).map Prod.fst
    schedules := (s.mls.twtNow.filter fun e => set.any fun y => y.1 == e.bss).map fun e => (e.bss, e.kind, e.id)
    maxIdle := set.map fun e => (e.1, e.2.inactivity)
    csa := x.csaCount
    edcaCount := x.edcaCount
    padding := advertisedPadding
    tsf := ((deviceTime s : Int) + 24000 - base) / 1000
    offsets := (others n).filterMap fun k => (s.clock.tsfBase.get k).map fun o => (k, (base - o) / 1000) }

/-- The keys that protect a management frame to a group: the IGTKs of the slice's BSSs (R130). -/
def groupMgmtKeys (n : Nat) (s : State) : Tab Bytes := latchSlots ((bssOn n s).map fun e => e.2.groupKey + 2) s

/-- Microseconds of a RAD_CALIBRATE's kinds together (R50). -/
def calTotal (j : CalJob) : Nat := ((kindsOf j.kinds).map calLength).sum

/-- A PPDU of the slice's own TXOP is fixed, with its own length: a beacon, a management frame, a group frame or a CTS-to-self. -/
def fixOwn (n : Nat) (t : Txop) (p : FixPlan) (s : State) : State :=
  match fitDuration n false 0 p.duration 0 s with
  | none => if t.begun then s else undoTxop n s
  | some d =>
    let fixed (kind : Nat) (who : List Nat) (keys : Tab Bytes) (nav : Nat) (body : AirBody) : Fixed :=
      ⟨kind, who, [], keys, startsAt s, d, plainFor n p nav s, body, false, false, false⟩
    match t.what with
    | 1 => match (bssOn n s).find? fun e => e.2.transmitted with
      | some (b, x) =>
        let keys := if bit x.flags 4 then latchSlots [x.groupKey + 4] s else []
        fixPpdu n (fixed 1 [b] keys 0 (.beacon (beaconBody n b x s))) (onMac n (fun m => { m with beaconWaits := false }) s)
      | none => dropTxop n s
    | 2 => match (mac n s).mgmt.find? (mgmtReady n s) with
      | some f =>
        match protection n t [f.station] 10 d p.txop s with
        | some k => fixProtection n k p [f.station] s
        | none =>
          let s := onMac n (fun m => { m with mgmt := mapFirst (· == f) (fun g => { g with flight := true }) m.mgmt }) s
          let keys := if f.addr.testBit 40 then groupMgmtKeys n s else latchKeys [f.station] [] s
          fixPpdu n (fixed 10 [f.station] keys p.answer (.mgmt f.body)) (touch f.station true (passMgmt n f s))
      | none => dropTxop n s
    | 3 => match (bssOn n s).find? fun e => decide (0 < e.2.groupReady) with
      | some (b, x) => fixPpdu n (fixed 14 [b] (latchSlots [x.groupKey] s) 0 .none) s
      | none => dropTxop n s
    | _ => fixPpdu n (fixed 4 [] [] (((slice n s).calJob.map fun j => calTotal j + sifs n s).getD 0) .none) s

/-- The fix point of the next PPDU of a slice's TXOP, 24 µs before it starts: where frames leave the station queues, in the order of the
plan (R24, R121, R209). -/
def fixPoint (n : Nat) (p : FixPlan) (s : State) : State :=
  match (mac n s).txop with
  | none => s
  | some t =>
    if (mac n s).fixed.isSome || (slice n s).tx.isSome || (slice n s).state != .ready then s
    else if t.what = 0 then fixPlanned n t p s
    else fixOwn n t p s

/-- PPDU_FIX_POINT (R121). -/
def execPpduFixPoint (slice : Nat) (p : FixPlan) (s : State) : Host.Outcome State Fault Refusal :=
  .next (fixPoint slice p (start s))

/-- A PPDU is not started: its MPDUs stay queued and its TXOP contends again with the same CW (R34, R42, R490). -/
def notStarted (n : Nat) (s : State) : State := coexDrive n false false (undoTxop n (releaseFixed n s))

/-- COEX_GRANT_SAMPLE (R490). -/
def execCoexGrantSample (slice : Nat) (grant : Bool) (s : State) : Host.Outcome State Fault Refusal :=
  .next (let s := start s
    match (mac slice s).fixed with
    | none => s
    | some f =>
      if f.sent then s
      else if grant then onMac slice (fun m => { m with fixed := some { f with granted := true } }) s
      else notStarted slice s)

/-! ### On the air (R65) -/

/-- The kind of PPDU on the air of a fixed one. -/
def airKind (kind : Nat) : Nat := match kind with | 1 => 2 | 2 => 6 | 3 => 6 | 4 => 6 | 10 => 3 | 11 => 1 | 12 => 7 | 14 => 5 | _ => 0

/-- A management frame as an observer outside sees it: an authentication or association frame with its status, an EAPOL frame, a
ranging frame. -/
def showMgmt (n : Nat) (f : MgmtFrame) (s : State) : State :=
  match f.body with
  | .auth kind status => emit (.auth n kind f.addr status) s
  | .assoc status _ _ _ _ => emit (.auth n 3 f.addr status) s
  | .ftm status _ _ => emit (.auth n 6 f.addr status) s
  | .handshake message => emit (.eapol n f.station message) s
  | _ => s

/-- What leaves the aerial ports, per station or BSS addressed, and the PPDU it goes in. -/
def sendOut (n : Nat) (f : Fixed) (s : State) : State :=
  let g := if f.kind = 10 then (mac n s).mgmt.find? (·.flight) else none
  let kind := (g.map (·.frame)).getD f.kind
  let s := if f.users.isEmpty then emit (.air n kind 0xFFFF) s else f.users.foldl (fun t h => emit (.air n kind h) t) s
  let s := match g with | some g => showMgmt n g s | none => s
  emitPpdu n f.vec f.body s

/-- Bytes sent to each station, its last transmit MCS (R135). -/
def countSent (f : Fixed) (s : State) : State :=
  f.mpdus.foldl (fun t e => onStation e.1 (fun x =>
    { x with txMcs := ((f.vec.users.find? fun u => u.station == e.1).map (·.mcs)).getD x.txMcs
             nSent := addWrap 64 x.nSent (((x.queue.find? fun m => m.id == e.2).map (·.length)).getD 0) }) t) s

/-- EMLSR clients of a list are in an exchange on a slice from its initial control frame on, or are left alone for their transition
delay (R123). -/
def emlsr (n : Nat) (l : List Nat) (on : Bool) (s : State) : State :=
  l.foldl (fun t h => onStation h (fun x =>
    if x.kind != 3 then x else if on then { x with emlsrOn := some n } else { x with emlsrOn := none, emlsrHold := true }) t) s

/-- Times of departure and arrival in a ranging session, 0.1 ns (R134). -/
def noteFtm (n addr : Nat) (f : Ftm → Ftm) (s : State) : State :=
  onAir (fun a => { a with ftm := a.ftm.map fun e => if e.slice = n ∧ e.mac = addr then f e else e }) s

/-- A fixed PPDU is one that a slice moving for radar still sends: a beacon, or a channel switch announcement (R48). -/
def sentAfterRadar (f : Fixed) : Bool := f.kind == 1 || (match f.body with | .mgmt (.csa _) => true | _ => false)

/-- A fixed PPDU starts, unless its slice is locked, moves for radar, waits for its NSTR partner's reception, or the duty monitor
denies it (R42, R43, R48, R56). -/
def txStartAir (n : Nat) (gamma : List Nat) (tune : List (Nat × Nat × Retry)) (s : State) : State :=
  match (mac n s).fixed, (mac n s).txop with
  | some f, some t =>
    if f.sent || !f.granted || (slice n s).state != .ready then s
    else if txBlocked (slice n s) then lockedFrames n (notStarted n s)
    else if nstrHeld n s || ((slice n s).radarMove && !sentAfterRadar f) then notStarted n s
    else if dutyDenies n f.duration s then dutyDenial n (notStarted n s)
    else
      let now := deviceTime s
      let s := goOnAir n (airKind f.kind) f.duration t.ac f.vec f.users s
      let passes := s.modem.lda.passesNow
      let s := if f.kind = 11 then onSlice n (fun x => { x with tbPasses := passes }) s else s
      let s := if f.kind = 3 then emlsr n f.users true s else s
      let s := match f.body, (mac n s).mgmt.find? (·.flight) with
        | .mgmt (.ftm _ _ _), some g => noteFtm n g.addr (fun e => { e with departed := some (now * 10), arrived := none }) s
        | _, _ => s
      let s := onMac n (fun m => { m with
        fixed := some { f with sent := true }
        txop := some { t with begun := true, used := t.used + f.duration, clear := t.clear && (f.kind == 2 || f.kind == 3 || t.what != 0)
                              cover := if t.begun then t.cover else (f.vec.width, f.vec.occupied) } }) s
      measureGamma n gamma tune (sendOut n f (if f.kind = 0 then countSent f s else s))
  | _, _ => s

/-- PPDU_TX_START (R65). -/
def execPpduTxStart (slice : Nat) (gamma : List Nat) (tune : List (Nat × Nat × Retry)) (s : State) :
    Host.Outcome State Fault Refusal := .next (txStartAir slice gamma tune (start s))

/-- The oldest group-addressed frame of a BSS has been sent: status SENT_NO_ACK (R132). -/
def groupSent (b : Nat) (s : State) : State :=
  let s := onBss b (fun x => { x with groupReady := x.groupReady - 1 }) s
  match (queue (16384 + b) s).frames with
  | f :: r => settleShapers (endFrame (16384 + b) f 6 (onQueue (16384 + b) (fun q => { q with frames := r }) s))
  | [] => s

/-- A channel switch announcement has been sent: the count goes from 2 to 1 once each BSS has announced 2 (R48). -/
def csaSent (n : Nat) (s : State) : State :=
  let two := (mac n s).mgmt.any fun f => f.body == .csa 2
  onAir (fun a => { a with bss := Tab.mapVals (fun b =>
    if b.slice == n && b.csaCount != 0 then { b with csaCount := min b.csaCount (if two then 2 else 1) } else b) a.bss }) s

/-- A data frame sent under No Ack has met its fate (R132). -/
def sentNoAck (s : State) (e : Nat × Nat) : State :=
  match (station e.1 s).bind fun x => x.queue.find? fun m => m.id == e.2 with
  | some m => endMpdu e.1 m 6 (rawTime s) s
  | none => s

/-- What the end of a sent PPDU settles: frames that draw no answer end, a trigger frame opens the TB window. -/
def sentPpdu (n : Nat) (f : Fixed) (s : State) : State :=
  let done (t : State) : State := onMac n (fun m => { m with fixed := none }) t
  match f.kind with
  | 0 => if f.noAck then settleShapers (f.mpdus.foldl sentNoAck (done s)) else s
  | 1 => done (f.users.foldl (fun t b => onBss b (fun x => { x with beaconSent := true }) t) s)
  | 4 => done (onSlice n (fun x => { x with calJob := x.calJob.map fun j => { j with waits := false } }) s)
  | 10 =>
    match (mac n s).mgmt.find? (·.flight) with
    | some g =>
      if !g.addr.testBit 40 then s
      else
        let s := mgmtEnd n g 6 (done s)
        if isCsa g then csaSent n s else s
    | none => done s
  | 11 => onSlice n (fun x => { x with rx := .tbWindow, acqNow := x.acq }) s
  | 12 => done s
  | 14 => done (f.users.foldl (fun t b => groupSent b t) s)
  | _ => s

/-- A PPDU's transmission ends: detectors are unblanked, the coexistence lines fall (R87, R490). Where the slice has left READY
meanwhile, its answer is not awaited. -/
def txEndAir (n : Nat) (s : State) : State :=
  match (slice n s).tx with
  | none => s
  | some p =>
    let s := coexDrive n false false (onSlice n (fun x => { x with tx := none }) s)
    let s := unblank n (driveFem n s)
    if p.kind = 4 then s
    else match (mac n s).fixed with
      | some f => if !f.sent then s else if (slice n s).state != .ready then releaseFixed n s else sentPpdu n f s
      | none => s

/-- PPDU_TX_END (R490). -/
def execPpduTxEnd (slice : Nat) (s : State) : Host.Outcome State Fault Refusal := .next (txEndAir slice (start s))

/-! ### Protection (R109, R123) -/

/-- No CTS arrives: the TXOP fails before any data is sent, and CW is doubled. -/
def ctsTimeout (n : Nat) (s : State) : State :=
  match (mac n s).txop, (mac n s).fixed with
  | some t, some f =>
    if t.awaitCts = 0 || !f.sent then s
    else
      let s := emlsr n t.users false (doubleCw n t.ac s)
      markUse (onMac n (fun m => { m with txop := none, fixed := none }) s)
  | _, _ => s

/-- CTS_TIMEOUT (R109). -/
def execCtsTimeout (slice : Nat) (s : State) : Host.Outcome State Fault Refusal := .next (ctsTimeout slice (start s))

/-- A CTS answers: after an MU-RTS, only the users that answered are served. -/
def ctsReceive (n : Nat) (users : List Nat) (s : State) : State :=
  match (mac n s).txop, (mac n s).fixed with
  | some t, some f =>
    if t.awaitCts = 0 || !f.sent then s
    else
      let l := if t.awaitCts = 1 then t.users else t.users.filter users.contains
      if l.isEmpty then ctsTimeout n s
      else
        let s := emlsr n l true (emlsr n (t.users.filter fun h => !l.contains h) false s)
        markUse (onMac n (fun m => { m with fixed := none, txop := some { t with users := l, clear := true, awaitCts := 0 } }) s)
  | _, _ => s

/-- CTS_RECEIVE (R109). -/
def execCtsReceive (slice : Nat) (users : List Nat) (s : State) : Host.Outcome State Fault Refusal :=
  .next (ctsReceive slice users (start s))

/-! ### Acknowledgement (R113, R132) -/

/-- An MPDU is acknowledged. -/
def ackMpdu (h : Nat) (m : Mpdu) (s : State) : State :=
  endMpdu h m 0 (rawTime s) (onStation h (fun x => { x with nAcked := inc 64 x.nAcked }) s)

/-- The attempt of one MPDU is judged: never retried once its slot has been rewritten or erased since it was sent (R131). -/
def judgeMpdu (keys : Tab Bytes) (acked : Nat → Mpdu → Bool) (s : State) (e : Nat × Nat) : State :=
  match (station e.1 s).bind fun x => x.queue.find? fun m => m.id == e.2 with
  | none => s
  | some m =>
    if acked e.1 m then ackMpdu e.1 m s
    else if m.slot.any fun h => Tab.look keys h != keyOf h s then dropMpdu e.1 3 s m
    else attemptFailed e.1 m s

/-- The response to a PPDU, or its absence, is judged: every MPDU's attempt, and CW. -/
def judgePpdu (n : Nat) (acked : Nat → Mpdu → Bool) (heard : Nat → Bool) (s : State) : State :=
  match (mac n s).fixed with
  | none => s
  | some f =>
    if !f.sent || (f.kind != 0 && f.kind != 10 && f.kind != 13) then s
    else
      let ac := ((mac n s).txop.map (·.ac)).getD 3
      let good := f.users.any heard
      let s := onMac n (fun m => { m with fixed := none }) s
      let s := if good then resetCw n ac s else doubleCw n ac s
      match f.kind with
      | 10 => match (mac n s).mgmt.find? (·.flight) with
        | some g =>
          let now := deviceTime s
          if good then mgmtEnd n g 0 (match g.body with
            | .ftm _ _ _ => noteFtm n g.addr (fun e => { e with arrived := some (now * 10) }) s
            | _ => s)
          else mgmtFailed n g s
        | none => s
      | 13 => f.mpdus.foldl (fun t e =>
          if heard e.1 then onStation e.1 (fun x => { x with barOwed := x.barOwed.filter (· != e.2) }) t else t) s
      | _ => settleShapers (f.mpdus.foldl (judgeMpdu f.keys acked) s)

/-- ACK_RECEIVE (R113): per station and TID, the sequence numbers acknowledged. -/
def execAckReceive (slice : Nat) (acks : List (Nat × Nat × List Nat)) (s : State) : Host.Outcome State Fault Refusal :=
  .next (judgePpdu slice (fun h m => acks.any fun a => a.1 == h && a.2.1 == m.tid && m.seq.any a.2.2.contains)
    (fun h => acks.any fun a => a.1 == h) (start s))

/-- ACK_TIMEOUT (R113). -/
def execAckTimeout (slice : Nat) (s : State) : Host.Outcome State Fault Refusal :=
  .next (judgePpdu slice (fun _ _ => false) (fun _ => false) (start s))

/-- The lifetime of an MPDU, a management frame or a group frame ends: dropped with status LIFETIME; one in flight is judged
first (R113). -/
def lifetimeEnds (kind owner id : Nat) (s : State) : State :=
  match kind with
  | 0 => (dropMpdus owner (fun m => m.id == id && m.flight.isNone) 2 s).2
  | 1 =>
    match [0, 1, 2].findSome? fun n => ((mac n s).mgmt.find? fun f => f.station == owner && !f.flight).map fun f => (n, f) with
    | some (n, f) => mgmtEnd n f 2 s
    | none => s
  | _ =>
    match (queue (16384 + owner) s).frames with
    | f :: r =>
      let s := onBss owner (fun x =>
        if 0 < x.groupReady then { x with groupReady := x.groupReady - 1 } else { x with groupHeld := x.groupHeld - 1 }) s
      settleShapers (endFrame (16384 + owner) f 2 (onQueue (16384 + owner) (fun q => { q with frames := r }) s))
    | [] => s

/-- MPDU_LIFETIME_EXPIRY (R113). -/
def execMpduLifetimeExpiry (kind owner id : Nat) (s : State) : Host.Outcome State Fault Refusal :=
  .next (lifetimeEnds kind owner id (start s))

/-- The TXOP ends: the airtime used is charged per station, and EMLSR exchanges of the slice end (R110, R123, R211). -/
def txopEnd (n : Nat) (s : State) : State :=
  match (mac n s).txop with
  | none => s
  | some t =>
    if (slice n s).tx.isSome then s
    else
      let s := releaseFixed n s
      let s := if t.begun then t.shares.foldl (fun a e =>
          let b := ((station e.1 a).map fun x => x.links.get n).getD 255
          charge (1, b) (airCharge e.2) (charge (0, e.1) (airCharge e.2)
            (onStation e.1 (fun x => { x with deficit := x.deficit - e.2 }) a))) s else s
      let s := onAir (fun a => { a with stations := Tab.mapVals (fun x =>
        if x.emlsrOn = some n then { x with emlsrOn := none, emlsrHold := true } else x) a.stations }) s
      settleShapers (markUse (onMac n (fun m => { m with txop := none }) s))

/-- TXOP_END (R110). -/
def execTxopEnd (slice : Nat) (s : State) : Host.Outcome State Fault Refusal := .next (txopEnd slice (start s))

/-! ### Beacons (R107, R118, R124) -/

/-- The parameters that BSS_SET_PARAMS has left for the TBTT take effect (R18, R135). -/
def applyParams (b : Nat) (s : State) : State :=
  onBss b (fun x => match x.pendingParams with
    | none => x
    | some p =>
      let on : Nat → Bool := bit (rd p 2 2)
      let edca := field p 10 16
      { x with pendingParams := none
               flags := if on 0 then x.flags / 2 * 2 + rd p 4 1 else x.flags
               dtim := if on 1 then rd p 5 1 else x.dtim
               colour := if on 2 then rd p 6 1 else x.colour
               maxStations := if on 3 then rd p 8 2 else x.maxStations
               edca := if on 4 then edca else x.edca
               edcaCount := if on 4 && edca != x.edca then inc 4 x.edcaCount else x.edcaCount
               lifetimes := if on 5 then [rd p 26 2, rd p 28 2, rd p 30 2, rd p 32 2] else x.lifetimes
               inactivity := if on 6 then rd p 34 2 else x.inactivity }) s

/-- A TWT schedule of a BSS is gone; its event names no station (DESIGN CHOICE, log 30). -/
def dropSchedule (b kind id : Nat) (s : State) : State :=
  let keep : TwtSchedule → Bool := fun e => !(e.bss == b && e.kind == kind && e.id == id)
  raise 0x0306 (twtPayload 0xFFFF 1 id) (onMls (fun m =>
    { m with twt := m.twt.filter keep, twtSnap := m.twtSnap.filter keep, twtNow := m.twtNow.filter keep
             members := m.members.filter fun e => !(e.1 == b && e.2.1 == kind && e.2.2.1 == id)
             openSps := m.openSps.filter (· != (b, kind, id))
             persisted := m.persisted.filter fun e => !(e.1 == b && e.2.1 == kind && e.2.2.1 == id) }) s)

/-- A beacon interval passes for the schedules of a BSS: one that has persisted long enough ends (R167). -/
def persist (b : Nat) (s : State) : State :=
  (s.mls.twtNow.filter fun e => e.bss == b && e.persistence != 255).foldl (fun t e =>
    let mine : Nat × Nat × Nat × Nat → Bool := fun x => x.1 == b && x.2.1 == e.kind && x.2.2.1 == e.id
    let k := ((t.mls.persisted.find? mine).map (·.2.2.2)).getD 0 + 1
    if e.persistence ≤ k then dropSchedule b e.kind e.id t
    else onMls (fun m => { m with persisted := (m.persisted.filter fun x => !mine x) ++ [(b, e.kind, e.id, k)] }) t) s

/-- A BSS reaches its TBTT: its parameters take effect, group frames held are due at a DTIM, and the transmitted BSSID's
beacon asks for the medium: at once where it has been idle for PIFS, else on AC_VO; in TUNING its request waits (R18, R34, R107, R118,
R124). -/
def tbtt (b : Nat) (cca : List Cca) (s : State) : State :=
  if (bss b s).isNone then s
  else
    let s := persist b (applyParams b s)
    let s := onBss b (fun x =>
      if x.dtimCount = 0 then { x with dtimCount := x.dtim - 1, groupReady := x.groupReady + x.groupHeld, groupHeld := 0 }
      else { x with dtimCount := x.dtimCount - 1 }) s
    match bss b s with
    | none => s
    | some x =>
      let n := x.slice
      let st := (slice n s).state
      if !x.transmitted || (st != .ready && st != .tuning) then s
      else
        let s := onBss b (fun x => { x with beaconSent := false, skipped := if x.beaconSent then x.skipped else inc 32 x.skipped }) s
        let s := noteCca n cca s
        if st == .ready && !txBlocked (slice n s) && mediumFree n s && !nstrHeld n s then startTxop n (ownTxop 1) s
        else
          let s := onMac n (fun m => { m with beaconWaits := true }) s
          if st == .tuning then deferRequest n 3 1 s else s

/-- BEACON_TBTT (R107). -/
def execBeaconTbtt (bss : Nat) (cca : List Cca) (s : State) : Host.Outcome State Fault Refusal := .next (tbtt bss cca (start s))

end Sys2Proof.Machine
end

