-- ==== Sys2Proof/Machine/Bss.lean ====
section
/-! DEFINITION. BSSs, stations and what link cores do with management frames: group 0x03, admission, power save, TWT, EMLSR
and fine timing (chapter 05, R117 to R126, R133 to R135). -/
namespace Sys2Proof.Machine

/-! ### BSS_CREATE (R118, R127, R135, R305, R308) -/

/-- A BSSID belongs to the set of the BSSs of a slice: equal but for bits [3:0] of its last octet (R118). -/
def sameSet (a b : Nat) : Bool := a / 16 == b / 16

/-- Values out of range, or inconsistent in themselves. -/
def createBad (u : Ump) : Bool :=
  let mode := u.b8 16
  let mld := u.b8 1
  (decide (15 < mld) && mld != 255) || decide (4 < mode) || u.b8 17 == 0 || decide (32 < u.b8 17)
    || decide (u.b16 50 < 40) || decide (1000 < u.b16 50) || u.b8 52 == 0 || decide (63 < u.b8 53)
    || u.b16 54 == 0 || decide (2048 < u.b16 54) || badVlan (u.b16 56) || (decide (255 < u.b16 58) && u.b16 58 != 0xFFFF)
    || (decide (7 < u.b8 60) && u.b8 60 != 255)
    || (u.b8 60 != 255 && decide (mode < 3)) || (u.b16 58 != 0xFFFF && mode != 1 && mode != 2)

/-- A BSSID in use or outside the set, another beacon interval than the set's, a second BSS of an AP MLD on the slice, or
another MLD address than the AP MLD's. -/
def createClash (u : Ump) (s : State) : Bool :=
  let bssid := rdBe u.data 4 6
  (s.air.bss.any fun e => e.2.bssid == bssid)
    || ((bssOn (u.b8 0) s).any fun e => !sameSet e.2.bssid bssid || e.2.interval != u.b16 50)
    || (u.b8 1 != 255 && s.air.bss.any fun e => e.2.mld == u.b8 1 && (e.2.slice == u.b8 0 || e.2.mldAddr != rdBe u.data 10 6))

/-- The credential or profile the security mode needs is absent (R135, R305). -/
def credentialAbsent (u : Ump) (s : State) : Bool :=
  let c := Tab.look s.sec.credentials (u.b16 58)
  match u.b8 16 with
  | 0 => false
  | 1 => !(c.any fun c => c.kind == 1 || (c.kind == 2 && decide (32 < c.body.length)))
  | 2 => !(c.any fun c => c.kind == 2)
  | _ => (Tab.look s.sec.radius (u.b8 60)).isNone

/-- The BSS that a payload describes, under its handle. -/
def newBss (h : Nat) (u : Ump) (s : State) : Bss where
  slice := u.b8 0
  mld := u.b8 1
  flags := u.b16 2 % 32
  bssid := rdBe u.data 4 6
  mldAddr := rdBe u.data 10 6
  security := u.b8 16
  ssid := field u.data 18 (u.b8 17)
  interval := u.b16 50
  dtim := u.b8 52
  dtimCount := 0
  colour := if u.b8 53 = 0 then h % 63 + 1 else u.b8 53
  maxStations := u.b16 54
  vlan := u.b16 56
  credential := u.b16 58
  radius := u.b8 60
  edca := [7, 0xA4, 0, 0, 3, 0xA4, 0, 0, 2, 0x43, 94, 0, 2, 0x32, 47, 0]
  edcaCount := 0
  lifetimes := [1000, 500, 100, 50]
  inactivity := 300
  pendingParams := none
  transmitted := (bssOn (u.b8 0) s).isEmpty
  skipped := 0
  beaconSent := true
  groupHeld := 0
  groupReady := 0
  deleting := none
  csaCount := 0
  groupKey := if u.b8 16 = 0 then 0xFFFF else 4096 + 6 * h
  newGroupKey := none
  rekeyWaiting := []
  rekeyAt := s.mem.seconds

/-- The group keys of a new BSS are drawn and written (R308); none while the Hatbox takes part in no handshake (R294). -/
def drawGroup (h : Nat) (x : Bss) (rand : Bytes) (s : State) : State :=
  if x.security = 0 || handshakesRefused s then s
  else (drawKeys (groupKeyLength x.security) (groupSlots h 0 (bit x.flags 4)) rand).foldl (fun t e => writeSlotKey e.1 e.2 t) s

/-- BSS_CREATE under a handle of its record, where it is replayed, or else the lowest free one (R274, R336). -/
def bssCreate (record : Option Nat) (u : Ump) (s : State) : Reply :=
  let free := match record with
    | some h => if (bss h s).isNone then some h else none
    | none => Tab.lowestFree s.air.bss 0 47
  let n := u.b8 0
  judge ([short u 64, badSlice n, off (3 + n) s, param (createBad u), param (createClash u s)] ++ gate 0x0301 false [] s
    ++ [(decide (16 ≤ (bssOn n s).length) || free.isNone, ST.noResource), (credentialAbsent u s, ST.keyAbsent),
        (u.b8 16 != 0 && (s.sec.trngFailed || u.env.hw == .lasting), ST.faultLasting)]) s fun _ =>
    let h := free.getD 0
    let x := newBss h u s
    let kept := u.data.take 61 ++ [BitVec.ofNat 8 h] ++ u.data.drop 62
    let s := drawGroup h x u.env.rand (onAir (fun a => { a with bss := Tab.put a.bss h x }) (startTsf n s))
    replyHw u.env.hw [BitVec.ofNat 8 h] (cfgKeepIf (fun r => r.code == 0x0301 && rd r.payload 61 1 == h) 0x0301 kept s)

/-- BSS_CREATE (R135). -/
def execBssCreate (m : Ump) (s : State) : Host.Outcome State Fault Refusal := .next (serve 0x0301 (bssCreate none) m s)

/-! ### BSS_DELETE and BSS_SET_PARAMS -/

/-- Stations that a BSS_DELETE disconnects: those with no other link. -/
def lastLink (b n : Nat) (s : State) : List Nat :=
  (stationsOf b s).filter fun h => (station h s).any fun x => (others n).all fun m => x.links.get m == 255

/-- BSS_DELETE up to ST_PENDING. -/
def bssDelete (u : Ump) (s : State) : Reply :=
  let b := u.b8 0
  match bss b s with
  | none => judge [short u 2] s fun _ => refuse ST.badParam s
  | some x =>
    judge ([short u 2, (x.transmitted && decide (1 < (bssOn x.slice s).length), ST.badState)]
      ++ gate 0x0302 true [Obj.bss b] s) s fun _ =>
      pending u 0x0302 [Obj.bss b] (onBss b (fun x => { x with deleting := some none }) s)

/-- The Deauthentication that a BSS_DELETE sends to a station, with reason 3 (R135). -/
def deleteFrame (h : Nat) (s : State) : MgmtFrame := ⟨h, ((station h s).map (·.addr)).getD 0, 2, 8, .leave 3, 0, false⟩

/-- A BSS_DELETE that sends Deauthentications queues them; otherwise it completes at once (R16, R135). -/
def bssDeleting (u : Ump) (s : State) : State :=
  let b := u.b8 0
  match bss b s with
  | none => s
  | some x =>
    let n := x.slice
    let l := if bit (u.b8 1) 0 then lastLink b n s else []
    if l.isEmpty then finishDelete b s
    else if sliceUsable n s then
      onMac n (fun m => { m with mgmt := m.mgmt ++ l.map fun h => deleteFrame h s }) s
    else
      let worst := if txBlocked (slice n s) then 5 else 7
      finishDelete b (onBss b (fun x => { x with deleting := some (some worst) }) s)

/-- BSS_DELETE (R16, R135). -/
def execBssDelete (m : Ump) (s : State) : Host.Outcome State Fault Refusal :=
  .next (serveThen 0x0302 bssDelete (bssDeleting m) m s)

/-- Fields of BSS_SET_PARAMS: mask bit, offset, length. -/
def paramFields : List (Nat × Nat × Nat) := [(0, 4, 1), (1, 5, 1), (2, 6, 1), (3, 8, 2), (4, 10, 16), (5, 26, 8), (6, 34, 2)]

/-- Parameters that wait for the TBTT, with those of a later command over them. -/
def mergeParams (old new : Bytes) : Bytes :=
  let mask := rd old 2 2 ||| rd new 2 2 % 128
  paramFields.foldl (fun p f => if bit (rd new 2 2) f.1 then p.take f.2.1 ++ field new f.2.1 f.2.2 ++ p.drop (f.2.1 + f.2.2) else p)
    (old.take 2 ++ leBytes 2 mask ++ old.drop 4)

/-- A masked field out of range. -/
def paramsBad (u : Ump) : Bool :=
  let m := u.b16 2
  m % 128 == 0 || (bit m 0 && decide (1 < u.b8 4)) || (bit m 1 && u.b8 5 == 0)
    || (bit m 2 && (u.b8 6 == 0 || decide (63 < u.b8 6))) || (bit m 3 && (u.b16 8 == 0 || decide (2048 < u.b16 8)))
    || (bit m 4 && [0, 1, 2, 3].any fun i => decide (u.b8 (10 + 4 * i) < 2) || decide (15 < u.b8 (10 + 4 * i)))
    || (bit m 5 && [0, 1, 2, 3].any fun i => decide (u.b16 (26 + 2 * i) < 10) || decide (5000 < u.b16 (26 + 2 * i)))
    || (bit m 6 && (decide (u.b16 34 < 10) || decide (3600 < u.b16 34)))

/-- BSS_SET_PARAMS: the parameters wait for the BSS's next TBTT (R18). -/
def bssSetParams (u : Ump) (s : State) : Reply :=
  let b := u.b8 0
  judge ([short u 36, param (bss b s).isNone, param (paramsBad u)] ++ gate 0x0303 false [Obj.bss b] s) s fun _ =>
    reply [] (cfgKeep 0x0303 0 1 u.data (onBss b (fun x =>
      { x with pendingParams := some (mergeParams (x.pendingParams.getD (List.replicate 36 0)) (u.data.take 36)) }) s))

/-- BSS_SET_PARAMS (R135). -/
def execBssSetParams (m : Ump) (s : State) : Host.Outcome State Fault Refusal := .next (serve 0x0303 bssSetParams m s)

/-! ### Stations (R135) -/

/-- The record of STA_GET. -/
def stationRecord (h : Nat) (x : Station) (s : State) : Bytes :=
  let all := !(x.links.toList.all (· == 255)) && [0, 1, 2].all fun n => x.links.get n == 255 || x.doze.get n
  let flags := bitsNat [all, resident h s, s.mls.settings.pins.contains h, bit x.flags 3, bit x.flags 4, bit x.flags 5, !x.twts.isEmpty]
  leBytes 2 h ++ leBytes 1 x.state ++ leBytes 1 x.kind ++ beBytes 6 x.addr ++ leBytes 1 x.mld ++ leBytes 1 (linkMask x)
    ++ (x.links.toList.map (leBytes 1)).flatten ++ leBytes 1 flags
    ++ leBytes 1 (bitsNat ((List.range 8).map fun t => (Tab.look x.sessions t).isSome)) ++ leBytes 1 x.streams
    ++ leBytes 2 (min 65535 (s.mem.seconds - x.lastFrame)) ++ leBytes 4 (s.mem.seconds - x.since)
    ++ ([x.nAcked, x.nFailed, x.nDelivered, x.nSent, x.nReceived].map (leBytes 8)).flatten
    ++ ([x.nDup, x.nReplay, x.nMic, x.nNoKey, x.nErased, x.nHoles].map (leBytes 4)).flatten
    ++ wrS 1 x.rssi ++ leBytes 1 x.rxMcs ++ leBytes 1 x.txMcs ++ leBytes 5 0

/-- STA_GET. -/
def staGet (u : Ump) (s : State) : Reply :=
  let h := u.b16 0
  match station h s with
  | none => judge [short u 2] s fun _ => refuse ST.badParam s
  | some x => judge (short u 2 :: gate 0x0304 false [] s) s fun _ => reply (stationRecord h x s) s

/-- STA_GET (R135). -/
def execStaGet (m : Ump) (s : State) : Host.Outcome State Fault Refusal := .next (serve 0x0304 staGet m s)

/-- STA_DISCONNECT up to ST_PENDING. -/
def staDisconnect (u : Ump) (s : State) : Reply :=
  let h := u.b16 0
  judge ([short u 8, param (station h s).isNone, param (decide (2 < u.b8 4))]
    ++ gate 0x0305 true [Obj.station h] s) s fun _ =>
    pending u 0x0305 [Obj.station h] (onStation h (fun x =>
      { x with state := 4, leaving := some (u.b16 2, u.b8 4, x.state) }) s)

/-- A STA_DISCONNECT's frame waits on one usable link; without a frame or a link the station is removed at once (R132,
R135). -/
def disconnectStart (u : Ump) (s : State) : State :=
  let h := u.b16 0
  match station h s with
  | none => s
  | some x =>
    if u.b8 4 = 2 then settleDeletes (endDisconnect h 7 (removeStation h 0 (u.b16 2) s))
    else match usableLink x s with
      | some n => queueMgmt n ⟨h, x.addr, 1, 8 + u.b8 4, .leave (u.b16 2), 0, false⟩ s
      | none =>
        let locked := [0, 1, 2].any fun n => x.links.get n != 255 && txBlocked (slice n s)
        settleDeletes (endDisconnect h (if locked then 5 else 7) (removeStation h 0 (u.b16 2) s))

/-- STA_DISCONNECT (R135). -/
def execStaDisconnect (m : Ump) (s : State) : Host.Outcome State Fault Refusal :=
  .next (serveThen 0x0305 staDisconnect (disconnectStart m) m s)

/-- STA_FLUSH_QUEUE: queued MPDUs of the TIDs named, those in flight apart, are dropped with status FLUSHED. -/
def staFlush (u : Ump) (s : State) : Reply :=
  let h := u.b16 0
  judge ([short u 4, param (station h s).isNone, param (u.b8 2 == 0)] ++ gate 0x0306 false [Obj.station h] s) s fun _ =>
    let r := dropMpdus h (fun m => bit (u.b8 2) m.tid && m.flight.isNone) 4 s
    reply (leBytes 4 r.1) r.2

/-- STA_FLUSH_QUEUE (R135). -/
def execStaFlushQueue (m : Ump) (s : State) : Host.Outcome State Fault Refusal := .next (serve 0x0306 staFlush m s)

/-- Links of a policy's target: those of a station, or of the BSSs of an AP MLD. -/
def targetLinks (scope target : Nat) (s : State) : Nat :=
  if scope = 1 then ((station target s).map linkMask).getD 0
  else bitsNat ([0, 1, 2].map fun n => s.air.bss.any fun e => e.2.mld == target && e.2.slice == n)

/-- MLO_SET_LINK_POLICY: for each MPDU whose link is chosen later (R18, R121). -/
def mloSetPolicy (u : Ump) (s : State) : Reply :=
  let scope := u.b8 0
  let target := u.b16 2
  let mode := u.b8 4
  let links := u.b8 5
  let tids := (List.range 8).map fun t => u.b8 (8 + t)
  let clear := scope == 1 && mode == 255
  judge ([short u 16, param (decide (1 < scope)),
      param (if scope = 0 then decide (15 < target) else (station target s).isNone),
      param (!clear && (decide (2 < mode) || decide (7 < links) || links &&& targetLinks scope target s == 0
        || (mode == 2 && (decide (u.b16 6 < 100) || decide (10000 < u.b16 6)))
        || tids.any fun t => t ||| links != links))]
    ++ gate 0x0307 false (if scope = 1 then [Obj.station target] else []) s) s fun _ =>
    let p : LinkPolicy := ⟨mode, links, u.b16 6, tids⟩
    if scope = 1 then reply [] (onStation target (fun x => { x with policy := if clear then none else some p }) s)
    else reply [] (cfgKeep 0x0307 2 2 u.data (onAir (fun a => { a with mldPolicy := Tab.put a.mldPolicy target p }) s))

/-- MLO_SET_LINK_POLICY (R121). -/
def execMloSetLinkPolicy (m : Ump) (s : State) : Host.Outcome State Fault Refusal := .next (serve 0x0307 mloSetPolicy m s)

/-- STA_LIST: handles in ascending order from the start handle, at most 100. -/
def staList (u : Ump) (s : State) : Reply :=
  let b := u.b8 0
  judge ([short u 4, param (b != 255 && (bss b s).isNone), param (decide (2047 < u.b16 2))] ++ gate 0x0309 false [] s) s fun _ =>
    let l := (if b = 255 then Tab.keys s.air.stations else stationsOf b s).filter fun h => decide (u.b16 2 ≤ h)
    reply (leBytes 2 (l.take 100).length ++ leBytes 2 ((l.drop 100).headD 0xFFFF) ++ ((l.take 100).map (leBytes 2)).flatten) s

/-- STA_LIST (R135). -/
def execStaList (m : Ump) (s : State) : Host.Outcome State Fault Refusal := .next (serve 0x0309 staList m s)

/-! ### Admission (R119, R307, R309) -/

/-- A station by its address, or by that of one of its links. -/
def stationBy (addr : Nat) (s : State) : Option Nat :=
  (s.air.stations.find? fun e => e.2.addr == addr || [0, 1, 2].any fun n => e.2.links.get n != 255 && e.2.linkAddrs.get n == addr).map
    Prod.fst

/-- The station of a management frame, 0xFFFF for none. -/
def senderOf (f : MgmtRx) (s : State) : Nat := (stationBy f.addr s).getD 0xFFFF

/-- The links a frame asks for beside its own: none of a single-link station. -/
def askedLinks (f : MgmtRx) : List Nat := if f.client = 0 then [] else f.links

/-- The links an association is accepted on: the frame's own, and each other asked for of the same AP MLD on a READY slice. -/
def acceptLinks (b : Nat) (x : Bss) (ask : List Nat) (s : State) : Tri Nat :=
  ask.foldl (fun t c => match bss c s with
    | some y => if c != b && x.mld != 255 && y.mld == x.mld && t.get y.slice == 255 && (slice y.slice s).state == .ready then
        t.set y.slice c else t
    | none => t) ((Tri.all 255).set x.slice b)

/-- The links that an association refuses, by slice, and the status of each in the Multi-Link element: 1 (R119; the code is
PRESUMED, log 13). -/
def refusedLinks (l : Tri Nat) (ask : List Nat) (s : State) : List (Nat × Nat) :=
  (ask.filter fun c => !l.toList.contains c).map fun c => (((bss c s).map (·.slice)).getD 255, 1)

/-- The pairwise cipher of an association: 0 CCMP-128, 1 GCMP-256, as the mode fixes it or the station offers it (R127). -/
def cipherOf (mode offered : Nat) : Nat := match mode with | 1 => offered % 2 | 3 => offered % 2 | 4 => 1 | _ => 0

/-- A station's offer fits the BSS's mode: its pairwise cipher, and management frame protection where the mode requires it (R127). -/
def offerFits (f : MgmtRx) (x : Bss) : Bool :=
  x.security == 0 || (cipherOf x.security f.cipher == f.cipher % 2 && (x.security == 2 || bit f.flags 3))

/-- Management frame protection of an association under the BSS's mode (R127). -/
def pmfOf (mode flags : Nat) : Bool := mode == 1 || decide (3 ≤ mode) || (mode == 2 && bit flags 3)

/-- A station as it associates. -/
def newStation (f : MgmtRx) (x : Bss) (s : State) : Station where
  state := if f.akm = 3 then 1 else 2
  kind := f.client
  addr := f.addr
  mld := x.mld
  links := acceptLinks f.bss x (askedLinks f) s
  linkAddrs := ⟨f.linkAddrs.getD 0 f.addr, f.linkAddrs.getD 1 f.addr, f.linkAddrs.getD 2 f.addr⟩
  home := x.slice
  doze := .all false
  uapsd := f.uapsd % 16
  deliver := 0
  flags := f.flags &&& 0x30 ||| (if pmfOf x.security f.flags then 8 else 0)
  he := f.he
  streams := min 8 (max 1 f.streams)
  maxAmpdu := f.maxAmpdu
  cipher := cipherOf x.security f.cipher
  nstrPair := f.nstrPair % 8
  triggers := f.uplink
  sessions := []
  txSeq := List.replicate 8 0
  txPn := List.replicate 9 0
  floor := List.replicate 9 0
  retry := []
  lateAlone := []
  reassembly := []
  barOwed := []
  queue := []
  headAt := List.replicate 8 (runTime s)
  policy := none
  ptk := 0xFFFF
  twts := []
  emlsrOn := none
  emlsrHold := false
  transition := f.transition
  padding := min 256 f.padding
  uplink := 0
  uplinkAc := 0
  reported := none
  precoder := false
  precoderSet := 0
  reportForm := none
  report := none
  beamformee := f.beamformee
  target := ⟨f.target.getD 0 0, f.target.getD 1 0, f.target.getD 2 0⟩
  starved := 0
  deficit := 0
  fourWay := none
  pmk := []
  akm := f.akm
  vlan := x.vlan
  timeout := 0
  radiusClass := []
  leaving := none
  nAcked := 0
  nFailed := 0
  nDelivered := 0
  nSent := 0
  nReceived := 0
  nDup := 0
  nReplay := 0
  nMic := 0
  nNoKey := 0
  nErased := 0
  nHoles := 0
  secNow := (0, 0, 0)
  rssi := 0
  rxMcs := 0
  txMcs := 0
  lastFrame := s.mem.seconds
  since := s.mem.seconds

/-- The static forwarding entry of a station (R191); where bucket and overflow are full it takes the place of a learned one
(DESIGN CHOICE, log 53). -/
def installMac (h vlan addr : Nat) (s : State) : State :=
  let e : MacEntry := ⟨vlan, addr, 5, some h, false, 0, s.mem.seconds⟩
  let rest := s.wire.macs.filter fun x => !(x.vlan == vlan && x.addr == addr)
  match (macInsert e rest).or ((rest.find? fun x => x.station.isNone
      && (x.overflow || bucketOf x.vlan x.addr == bucketOf vlan addr)).bind fun x => macInsert e (rest.erase x)) with
  | some l => onWire (fun w => { w with macs := l }) s
  | none => s

/-- A station's PMKSA with an AP is cached, or comes with a staged context whose PMKID matches (R307, R449). -/
def knownPmk (f : MgmtRx) (x : Bss) (s : State) : Bool :=
  (pmksaOf f.addr (apAddress x) s).isSome || (f.staged && (stagedFor f.addr s).isSome)

/-- The key management an association may use on a BSS (R127, R305, R309). -/
def akmFits (f : MgmtRx) (x : Bss) (s : State) : Bool :=
  match x.security, f.akm with
  | 0, 0 => true
  | 1, 1 => knownPmk f x s
  | 2, 1 => knownPmk f x s
  | 2, 2 => true
  | 3, 3 => true
  | 4, 3 => true
  | m, 4 => decide (1 ≤ m) && knownPmk f x s
  | _, _ => false

/-- An Association Response waits on AC_VO: with the refused links' status, the nominal packet padding and the BSS Max Idle Period
(R79, R107, R119, R125). -/
def answerAssoc (n h addr status : Nat) (refused : List (Nat × Nat)) (maxIdle : Nat) (element : Bytes) (s : State) : State :=
  queueMgmt n (coreFrame h addr 10 (.assoc status refused advertisedPadding maxIdle element)) s

/-- The PMK an association starts from: the PSK of its BSS's credential, or that of its PMKSA (R305, R307). -/
def pmkOf (f : MgmtRx) (x : Bss) (s : State) : Bytes :=
  if f.akm = 2 then ((Tab.look s.sec.credentials x.credential).map fun c => fit 32 c.body).getD []
  else ((pmksaOf f.addr (apAddress x) s).map (·.pmk)).getD []

/-- Agreements of every station (R126). -/
def agreements (s : State) : Nat := (s.air.stations.map fun e => e.2.twts.length).sum

/-- The TWT agreements of an entry 0x06. -/
def contextTwts : Nat → Bytes → List Twt
  | 0, _ => []
  | n + 1, v => if v.length < 10 then [] else ⟨rd v 0 1 % 8, rd v 1 1, rd v 2 4, rd v 6 4, false⟩ :: contextTwts n (v.drop 10)

/-- The session settings of a context's body apply to a new association: VLAN, session timeout, RADIUS Class, TWT agreements as far as
the limits of R126 allow, Cumulus settings as far as R81 does, and the EMLSR delays (R448, R449). -/
def applyContext (h : Nat) (body : Bytes) (s : State) : State :=
  if body.isEmpty then s
  else
    let v2 := tlvValue 2 body
    let v7 := tlvValue 7 body
    let v8 := tlvValue 8 body
    let l := (contextTwts 4 (tlvValue 6 body)).take (2048 - agreements s)
    let s := onStation h (fun x => { x with
      vlan := if rd v2 0 2 = 0 || 4094 < rd v2 0 2 then x.vlan else rd v2 0 2, timeout := rd v2 6 4
      radiusClass := tlvValue 3 body, twts := l
      padding := if v8.isEmpty then x.padding else min 256 (rd v8 0 2)
      transition := if v8.isEmpty then x.transition else rd v8 2 2 }) s
    if (station h s).any (fun x => x.kind == 4) && rd v7 0 1 == 1 && decide ((s.modem.peers.filter fun e => e.2.enabled).length < 8) then
      onPeer h (fun p => { p with
        enabled := true, links := rd v7 1 1 % 8, slots := rd v7 2 2, lifetime := rd v7 4 1, combines := rd v7 5 1 }) s
    else s

/-- An association: refused with status 1 while the Hatbox takes part in no handshake or its security does not fit, with
17 for want of a handle or of room in the BSS; else the station is admitted and its handshake begins (R119, R127, R289, R307). The answer
to a Cumulus peer carries its element (R81). -/
def associate (f : MgmtRx) (s : State) : State :=
  match bss f.bss s with
  | none => s
  | some x =>
    let n := x.slice
    let refuseWith (status : Nat) (s : State) : State := answerAssoc n 0xFFFF f.addr status [] x.inactivity [] s
    if !sliceUsable n s then s
    else if x.security != 0 && handshakesRefused s then refuseWith 1 s
    else if !akmFits f x s || !offerFits f x then refuseWith 1 s
    else
      let s := match stationBy f.addr s with
        | some h => dismiss h 1 0 s
        | none => s
      match newHandle s with
      | none => refuseWith 17 s
      | some h =>
        if x.maxStations ≤ (stationsOf f.bss s).length then refuseWith 17 s
        else
          let known := knownPmk f x s
          let s := match (if f.staged then stagedFor f.addr s else none) with
            | some c => consumeContext c (apAddress x) s
            | none => s
          let y := newStation f x s
          let s := onAir (fun a => { a with stations := Tab.put a.stations h y, freed := a.freed.filter fun e => e.1 != h }) s
          let s := applyContext h (((pmksaOf f.addr (apAddress x) s).map (·.body)).getD []) s
          let vlan := ((station h s).map (·.vlan)).getD x.vlan
          let s := onSec (fun c => { c with sae := c.sae.filter fun e => e.addr != f.addr }) s
          let s := answerAssoc n h f.addr 0 (refusedLinks y.links (askedLinks f) s) x.inactivity
            (if f.client = 4 then elementTo h s else []) (installMac h vlan f.addr (demandFetch h s))
          if x.security = 0 then authorise h s
          else if f.akm = 3 && !known then eapol h 0 s
          else startFourWay h (pmkOf f x s) s

/-! ### Management frames (R111, R119, R120, R124) -/

/-- A BlockAck session is set up, and its buffer size answered: between 64 and 1024 (R111). A size asked for outside that range is
answered with the nearest in it (DESIGN CHOICE, log 74). -/
def addBa (f : MgmtRx) (h : Nat) (s : State) : State :=
  let y : Session := ⟨max 64 (min 1024 f.size), f.start % 4096, [], [], f.start % 4096, []⟩
  coreTo h 10 (.addBa (f.tid % 8) y.size) (onStation h (fun x => { x with sessions := Tab.put x.sessions (f.tid % 8) y }) s)

/-- A BlockAck session ends: what its reorder buffer holds is released in order. -/
def delBa (h tid : Nat) (s : State) : State :=
  match session h tid s with
  | none => s
  | some y =>
    let span := y.held.foldl (fun a r => max a (seqDiff r.seq y.next + 1)) 0
    onStation h (fun x => { x with sessions := Tab.del x.sessions tid, barOwed := x.barOwed.filter (· != tid) })
      (stepsOver h tid span s)

/-- A link reconfiguration: the links become those asked for, of the same AP MLD on READY slices (R120). -/
def reconfigure (f : MgmtRx) (h : Nat) (x : Station) (s : State) : State :=
  match bss f.bss s with
  | none => s
  | some b =>
    let links := f.links.foldl (fun t c => match bss c s with
      | some y =>
        if y.mld == b.mld && b.mld != 255 && ((slice y.slice s).state == .ready || x.links.get y.slice == c) then t.set y.slice c else t
      | none => t) (Tri.all 255)
    if links.toList.all (· == 255) || links == x.links then s
    else
      let home := if links.get x.home = 255 then ([0, 1, 2].find? fun n => links.get n != 255).getD x.home else x.home
      let addr (n : Nat) : Nat := if links.get n = x.links.get n then x.linkAddrs.get n else f.linkAddrs.getD n x.addr
      linksChanged h (linkMask x) (linkMask { x with links := links })
        (onStation h (fun z => { z with links := links, home := home, linkAddrs := ⟨addr 0, addr 1, addr 2⟩ }) s)

/-- A frame of a station handled by a link core. -/
def stationFrame (f : MgmtRx) (h : Nat) (s : State) : State :=
  match station h s, bss f.bss s with
  | some x, some b =>
    if x.links.get b.slice != f.bss then s
    else
      let s := onStation h (fun x => { x with lastFrame := s.mem.seconds }) s
      match f.kind with
      | 2 => dismiss h 1 f.reason s
      | 3 => dismiss h 1 f.reason s
      | 4 => addBa f h s
      | 5 => delBa h (f.tid % 8) s
      | 6 => reconfigure f h x s
      | _ => onStation h (fun x => { x with doze := x.doze.set b.slice f.doze }) s
  | _, _ => s

/-- A management frame is handled by a link core and draws its Ack; a slice that is not READY hears nothing (R112). -/
def management (f : MgmtRx) (s : State) : State :=
  match bss f.bss s with
  | none => s
  | some x =>
    if (slice x.slice s).state != .ready then s
    else
      let s := oweAck x.slice (senderOf f s) s
      match f.kind with
      | 0 =>
        if sliceUsable x.slice s then
          authFrame x.slice 5 f.addr (if x.security != 0 && handshakesRefused s then 1 else 0) s
        else s
      | 1 => associate f s
      | _ => match stationBy f.addr s with
        | some h => stationFrame f h s
        | none => s

/-- MANAGEMENT_FRAME_RECEIVE (R119). -/
def execManagementFrameReceive (f : MgmtRx) (s : State) : Host.Outcome State Fault Refusal := .next (management f (start s))

/-- No frame of a station has arrived on any link for the inactivity timeout of the BSS it associated on: it is deauthenticated with
reason code 4, cause 2 (R125). -/
def inactive (h : Nat) (s : State) : State :=
  match station h s with
  | none => s
  | some x =>
    if (bss (homeBss x) s).any fun b => decide (x.lastFrame + b.inactivity ≤ s.mem.seconds) then deauth h 2 4 s else s

/-- INACTIVITY_TIMEOUT (R125). -/
def execInactivityTimeout (station : Nat) (s : State) : Host.Outcome State Fault Refusal := .next (inactive station (start s))

/-! ### Power save (R124) -/

/-- A dozing station may be sent some buffered units. -/
def deliverUnits (n h units : Nat) (s : State) : State :=
  onStation h (fun x => if x.links.get n != 255 && x.doze.get n then { x with deliver := max x.deliver units, lastFrame := s.mem.seconds } else x) s

/-- PS_POLL_RECEIVE (R112, R124): it draws an Ack, and one buffered unit per poll. -/
def execPsPollReceive (slice station : Nat) (s : State) : Host.Outcome State Fault Refusal :=
  .next (let s := start s
    if (Machine.slice slice s).state == .ready then deliverUnits slice station 1 (oweAck slice station s) else s)

/-- UAPSD_TRIGGER (R124): on a trigger-enabled category, up to the service period's length; 0 for all. -/
def execUapsdTrigger (slice station ac units : Nat) (s : State) : Host.Outcome State Fault Refusal :=
  .next (let s := start s
    if (Machine.slice slice s).state == .ready && (Machine.station station s).any fun x => bit x.uapsd ac then
      deliverUnits slice station (if units = 0 then 255 else units) s
    else s)

/-! ### TWT (R126, R167, R222) -/

/-- The device answers a TWT request: 0 accept, 1 alternate, 2 reject. -/
def twtAnswer (h answer : Nat) (t : Twt) (s : State) : State :=
  coreTo h 10 (.twt answer t.flow t.duration t.interval t.offset) s

/-- A value brought into a range. -/
def into (lo hi v : Nat) : Nat := max lo (min hi v)

/-- The agreement nearest to one asked for within the limits of R126. -/
def nearestTwt (t : Twt) : Twt :=
  { t with duration := into 1 255 t.duration, interval := into 1000 10000000 t.interval }

/-- An agreement asked for: set up where the Milliner places it within the limits of R126; outside the ranges, and placed within them,
answered with the nearest agreement inside as an Alternate TWT; else rejected (which alternate is a DESIGN CHOICE, log 74). -/
def askTwt (h : Nat) (x : Station) (t : Twt) (places : Bool) (s : State) : State :=
  let room := x.twts.any (·.flow == t.flow) || (decide (x.twts.length < 4) && decide (agreements s < 2048))
  if !places || !room || !decide (t.flow < 8) then twtAnswer h 2 t s
  else if nearestTwt t != t then twtAnswer h 1 (nearestTwt t) s
  else raise 0x0306 (twtPayload h 0 t.flow) (twtAnswer h 0 t
    (onStation h (fun x => { x with twts := (x.twts.filter fun y => y.flow != t.flow) ++ [t] }) s))

/-- A TWT request: an agreement is asked for; a teardown ends one; a schedule is joined or left. -/
def twtRequest (h kind flow b duration interval offset : Nat) (places : Bool) (s : State) : State :=
  match station h s with
  | none => s
  | some x =>
    let asked : Twt := ⟨flow, duration, interval, offset, false⟩
    match kind with
    | 0 => askTwt h x asked places s
    | 1 =>
      if x.twts.any fun t => t.flow == flow then
        raise 0x0306 (twtPayload h 1 flow) (onStation h (fun x => { x with twts := x.twts.filter fun t => t.flow != flow }) s)
      else s
    | 2 =>
      match s.mls.twt.find? fun e => e.bss == b && e.id == flow with
      | some e =>
        if !x.links.toList.contains b || !places then twtAnswer h 2 asked s
        else
          let m := (b, e.kind, e.id, h)
          twtAnswer h 0 ⟨e.id, e.duration, e.interval, e.offset, false⟩
            (onMls (fun k => { k with members := (k.members.filter (· != m)) ++ [m] }) s)
      | none => twtAnswer h 2 asked s
    | _ => onMls (fun k => { k with members := k.members.filter fun e => !(e.1 == b && e.2.2.1 == flow && e.2.2.2 == h) }) s

/-- TWT_REQUEST_RECEIVE (R126). -/
def execTwtRequestReceive (station kind flow bss duration interval offset : Nat) (places : Bool) (s : State) :
    Host.Outcome State Fault Refusal :=
  .next (twtRequest station kind flow bss duration interval offset places (start s))

/-- A restricted service period on a BSS's slice begins: a planned TXOP there that serves none of its members has ended before it
(R146). -/
def endBefore (b : Nat) (s : State) : State :=
  match bss b s with
  | none => s
  | some x =>
    if (mac x.slice s).txop.any fun t => t.what == 0 && !(t.users.any fun h => admits x.slice h none s) then txopEnd x.slice s else s

/-- A service period of a schedule or of an agreement opens or closes. -/
def servicePeriod (sched : Option (Nat × Nat)) (owner id : Nat) (on : Bool) (s : State) : State :=
  match sched with
  | some (b, kind) =>
    let e := (b, kind, id)
    if s.mls.twtNow.any fun t => t.bss == b && t.kind == kind && t.id == id then
      let s := onMls (fun m => { m with openSps := if on then (m.openSps.filter (· != e)) ++ [e] else m.openSps.filter (· != e) }) s
      if on && kind == 1 then endBefore b s else s
    else s
  | none => onStation owner (fun x => { x with twts := x.twts.map fun t => if t.flow = id then { t with open_ := on } else t }) s

/-- TWT_SERVICE_PERIOD_START (R222). -/
def execTwtServicePeriodStart (schedule : Option (Nat × Nat)) (owner id : Nat) (s : State) :
    Host.Outcome State Fault Refusal := .next (servicePeriod schedule owner id true (start s))

/-- TWT_SERVICE_PERIOD_END (R222). -/
def execTwtServicePeriodEnd (schedule : Option (Nat × Nat)) (owner id : Nat) (s : State) :
    Host.Outcome State Fault Refusal := .next (servicePeriod schedule owner id false (start s))

/-! ### EMLSR (R123) and fine timing (R134) -/

/-- EMLSR_EXCHANGE_END (R123). -/
def execEmlsrExchangeEnd (station : Nat) (s : State) : Host.Outcome State Fault Refusal :=
  .next (onStation station (fun x =>
    if x.emlsrOn.isSome then { x with emlsrOn := none, emlsrHold := true } else x) (start s))

/-- EMLSR_TRANSITION_END (R123). -/
def execEmlsrTransitionEnd (station : Nat) (s : State) : Host.Outcome State Fault Refusal :=
  .next (onStation station (fun x => { x with emlsrHold := false }) (start s))

/-- A fine timing frame to an initiator waits, with the times of the frame before it in its session (R134). -/
def ftmAnswer (n addr status : Nat) (f : Ftm) (s : State) : State :=
  queueMgmt n (coreFrame 0xFFFF addr 10 (.ftm status f.departed f.arrived)) s

/-- A ranging session opens or goes on, is refused with status 1 for "incapable" beyond 16 on the slice, or ends (R134). -/
def ftmRequest (n addr : Nat) (opens : Bool) (s : State) : State :=
  if !sliceUsable n s then s
  else
    let mine (f : Ftm) : Bool := f.slice == n && f.mac == addr
    let l := s.air.ftm.filter fun f => !mine f
    if !opens then onAir (fun a => { a with ftm := l }) s
    else match s.air.ftm.find? mine with
      | some f => ftmAnswer n addr 0 f s
      | none =>
        let f : Ftm := ⟨addr, n, none, none⟩
        if 16 ≤ (l.filter fun f => f.slice == n).length then ftmAnswer n addr 1 f s
        else ftmAnswer n addr 0 f (onAir (fun a => { a with ftm := l ++ [f] }) s)

/-- FTM_REQUEST_RECEIVE (R134). -/
def execFtmRequestReceive (slice mac : Nat) (opens : Bool) (s : State) : Host.Outcome State Fault Refusal :=
  .next (ftmRequest slice mac opens (start s))

end Sys2Proof.Machine
end

