-- ==== Sys2Proof/Machine/Milliner.lean ====
section
/-! DEFINITION. The Milliner: service windows, the brim, plans, staging, the Crown's events and the commands of group 0x04
(chapter 06). -/
namespace Sys2Proof.Machine

/-! ### The snapshot (R139, R143) -/

/-- Downlink of a station on a slice has credit: neither its shaper nor its BSS's is at or below zero (R143, R213). -/
def airCredit (h n : Nat) (x : Station) (s : State) : Bool :=
  let ok (t : ShaperTarget) : Bool := (shaperOf t s).all fun e => decide (0 < e.2.credit)
  ok (0, h) && ok (1, x.links.get n)

/-- A station has a TWT agreement or is a member of a schedule. -/
def hasTwt (h : Nat) (x : Station) (s : State) : Bool := !x.twts.isEmpty || s.mls.members.any fun e => e.2.2.2 == h

/-- The links on which a station may be planned: usable ones of an authorised station that does not doze on all of them, but for
delivery or its service periods (R143). -/
def stationSample (h : Nat) (x : Station) (s : State) : List (Nat × Nat × Bool) :=
  if 3 ≤ x.state ∧ (!dozing x s || decide (0 < x.deliver) || hasTwt h x s) then
    ([0, 1, 2].filter fun n => linkUsable x n s).map fun n => (n, h, airCredit h n x s)
  else []

/-- Links and stations that may be planned, sampled now. -/
def sampleNow (s : State) : List (Nat × Nat × Bool) := (s.air.stations.map fun e => stationSample e.1 e.2 s).flatten

/-- Access categories of a station's queued MPDUs of the TIDs that a test picks. -/
def categories (x : Station) (pick : Nat → Bool) : Nat :=
  bitsNat ([0, 1, 2, 3].map fun ac => x.queue.any fun m => m.flight.isNone && acOf m.tid == ac && pick m.tid)

/-- What the airtime shaper of a station leaves it in a window of some µs: its credit, and the refills that fall within (R149). -/
def airAllowance (h us : Nat) (s : State) : Option Int :=
  ((shaperOf (0, h) s).filter fun e => e.2.cfg.unit == 1).map fun e =>
    e.2.credit + ((us / max 1 e.2.cfg.interval * refillAmount e.2.cfg / 1000000 : Nat) : Int)

/-- Queue depths and airtime of a station as a plan for a window of some µs samples them (R139, R222). -/
def backlogOf (h us : Nat) (x : Station) (s : State) : Backlog where
  station := h
  down := categories x fun t => !twtHeld (stationQueue h t) s
  held := categories x fun t => twtHeld (stationQueue h t) s
  up := if 0 < x.uplink then some x.uplinkAc else none
  oldest := (x.queue.map (·.entered)).foldl min (deviceTime s)
  airtime := airAllowance h us s

/-- The queue depths of every station, sampled now for a window of some µs. -/
def backlogNow (us : Nat) (s : State) : List Backlog := s.air.stations.map fun e => backlogOf e.1 us e.2 s

/-- BRIM_START (R19, R139): the snapshot of the settings, the queue depths, the stations and the slices; the busy slices and the shares
of the next plan follow. TXOPs not yet started are dropped, but for a TWT service period (R140, R142). -/
def brimStart (s : State) : State :=
  if !s.mls.running || s.mls.inBrim then s
  else
    let s := commitShared s
    let plan := sharedPlan s.mls.settings s
    let sample := sampleNow s
    let backlog := backlogNow s.mls.settings.window s
    markUse (onMls (fun m =>
      { m with inBrim := true, snapshot := m.settings, twtSnap := m.twt, next := some plan, sampled := some sample, backlog := backlog
               plan := { m.plan with txops := m.plan.txops.filter (·.twt) } }) s)

/-- BRIM_START (R139). -/
def execBrimStart (s : State) : Host.Outcome State Fault Refusal := .next (brimStart (start s))

/-! ### The ranking (R144) -/

/-- What a plan is built from: the settings, the links and stations that may be planned, their backlog, the stations with a TWT service
period that overlaps the window, the free airtime of the slices, and the TXOPs the Milliner would place. -/
structure PlanBase where
  /-- Settings. -/
  settings : SchedSettings
  /-- Links and stations. -/
  sample : List (Nat × Nat × Bool)
  /-- Backlog. -/
  backlog : List Backlog
  /-- Stations with a service period. -/
  twt : List Nat
  /-- Free airtime of the slices, µs. -/
  free : List Nat
  /-- TXOPs. -/
  txops : List PlanTxop
  /-- Device time at which the window ends. -/
  ends : Nat
  deriving DecidableEq, Repr

/-- The highest category of a mask. -/
def topCategory (m : Nat) : Option Nat := [3, 2, 1, 0].find? fun i => bit m i

/-- The categories in which a station's downlink may be planned: those sampled where it has credit on a link, and those held for a
service period that overlaps the window (R143, R222). -/
def downOf (x : PlanBase) (b : Backlog) : Nat :=
  if x.sample.any fun e => e.2.1 == b.station && e.2.2 then
    b.down ||| (if x.twt.contains b.station then b.held else 0)
  else 0

/-- The highest category in which a station has downlink backlog or uplink demand. -/
def demandOf (x : PlanBase) (b : Backlog) : Option Nat :=
  match topCategory (downOf x b), b.up with
  | some i, some j => some (max i j)
  | some i, none => some i
  | none, j => j

/-- A station that answers triggers is due a poll: no buffer status report of it has arrived within the poll interval (R148). -/
def pollDue (c : SchedSettings) (h : Nat) (s : State) : Bool :=
  (station h s).any fun x => x.triggers && x.reported.all fun t => decide (t + c.poll * 1000000 ≤ runTime s)

/-- A beamformee with downlink backlog is due a sounding: its latest report would exceed the sounding interval before the window ends
(R147). -/
def soundDue (x : PlanBase) (h : Nat) (s : State) : Bool :=
  (x.backlog.any fun b => b.station == h && downOf x b != 0)
    && (station h s).any fun y => y.beamformee && y.report.all fun t => decide (t + x.settings.sounding * 1000000 < x.ends)

/-- A station is eligible: it has a link to be planned on, and a service period, traffic, or a poll due. -/
def planEligible (x : PlanBase) (s : State) (b : Backlog) : Bool :=
  (x.sample.any fun e => e.2.1 == b.station)
    && (x.twt.contains b.station || (demandOf x b).isSome || pollDue x.settings b.station s)

/-- The rank of a station, the lowest first: service periods, pinned stations with traffic, then by category, starvation, and deficit
or sojourn (R144; that the later keys also order the first two groups is a DESIGN CHOICE, log 34). -/
def rankKey (x : PlanBase) (s : State) (b : Backlog) : List Int :=
  let d := demandOf x b
  let y := station b.station s
  let cls : Int := if x.twt.contains b.station then 0 else if x.settings.pins.contains b.station && d.isSome then 1 else 2
  let cat : Int := match d with | some i => 3 - (i : Int) | none => 4
  let starved : Int := if y.any fun y => decide (x.settings.starvation ≤ y.starved) then 0 else 1
  let tie : Int := if bit x.settings.flags 4 then -((y.map (·.deficit)).getD 0) else b.oldest
  [cls, cat, starved, tie]

/-- Lexicographic order. -/
def lexLe : List Int → List Int → Bool
  | a :: l, b :: r => decide (a < b) || (decide (a = b) && lexLe l r)
  | _, _ => true

/-- A station takes its place among ranked ones, behind its equals. -/
def insertRanked (e : List Int × Nat) : List (List Int × Nat) → List (List Int × Nat)
  | [] => [e]
  | y :: r => if lexLe y.1 e.1 then y :: insertRanked e r else e :: y :: r

/-- The eligible stations in the order of R144. -/
def ranked (x : PlanBase) (s : State) : List Nat :=
  ((x.backlog.filter (planEligible x s)).foldl (fun a b => insertRanked (rankKey x s b, b.station) a) []).map Prod.snd

/-! ### A TXOP's users (R145 to R149, R154) -/

/-- A station of a TXOP may be planned from a sample: only for its uplink or sounding where its downlink has no credit; a dozing one
only within its service period or for delivery (R143). -/
def plannable (x : PlanBase) (t : PlanTxop) (h : Nat) (s : State) : Bool :=
  (x.sample.contains (t.slice, h, true) || ((t.uplink || t.sounding) && x.sample.contains (t.slice, h, false)))
    && (x.twt.contains h || (station h s).any fun y => !dozing y s || decide (0 < y.deliver))

/-- A station has what a TXOP is for: a sounding due, a poll due, uplink reported, or downlink queued (R147, R148). -/
def hasUse (x : PlanBase) (t : PlanTxop) (h : Nat) (s : State) : Bool :=
  let b := x.backlog.find? (·.station == h)
  if t.sounding then soundDue x h s
  else if t.uplink && t.bsrp then pollDue x.settings h s
  else if t.uplink then b.any (·.up.isSome)
  else b.any fun b => downOf x b != 0

/-- The airtime estimated for a load of a TXOP, µs: its data, its share of the overhead, and an EMLSR client's padding and
transition (R146, R149). -/
def estimate (t : PlanTxop) (s : State) (l : PlanLoad) : Nat :=
  let e := match (station l.station s).filter (·.kind == 3) with | some y => y.padding + y.transition | none => 0
  (l.bytes * 8 + l.rate - 1) / max 1 l.rate + t.overhead * l.tones / max 1 t.tones + e

/-- The airtime estimated for a station's downlink in TXOPs. -/
def downAirtime (h : Nat) (s : State) (l : List PlanTxop) : Nat :=
  (l.map fun t => if t.uplink then 0 else ((t.loads.filter (·.station == h)).map (estimate t s)).sum).sum

/-- A station's downlink stays within the airtime of its shaper (R149). -/
def airtimeFits (x : PlanBase) (p : Plan) (t : PlanTxop) (h : Nat) (s : State) : Bool :=
  t.uplink || (x.backlog.filter (·.station == h)).all fun b =>
    b.airtime.all fun a => decide (((downAirtime h s (t :: p.txops) : Nat) : Int) ≤ a)

/-- The TXOPs of a station on its links are in proportion to the links' free airtime, and on permitted links (R145). -/
def linkFits (x : PlanBase) (p : Plan) (t : PlanTxop) (h : Nat) (s : State) : Bool :=
  (station h s).any fun y =>
    let allowed (n : Nat) : Bool := linkUsable y n s && (t.uplink || bit (linkPolicyOf y s).links n)
    let total := (([0, 1, 2].filter allowed).map fun n => x.free.getD n 0).sum
    let asked := (x.txops.filter fun v => v.users.contains h && allowed v.slice).length
    let here := (p.txops.filter fun v => v.users.contains h && v.slice == t.slice).length
    allowed t.slice && (decide (total = 0) || decide (here * total < asked * x.free.getD t.slice 0))

/-- Two planned TXOPs overlap in time. -/
def overlapping (t v : PlanTxop) : Bool := decide (t.start < v.start + v.us ∧ v.start < t.start + t.us)

/-- An EMLSR client is placed on one link at a time (R146). -/
def emlsrFits (p : Plan) (t : PlanTxop) (h : Nat) (s : State) : Bool :=
  (station h s).all fun y => y.kind != 3 || p.txops.all fun v => v.slice == t.slice || !v.users.contains h || !overlapping t v

/-- The most users a PPDU of a slice carries: the 26-tone RUs of the subchannels it may use (R64, R154). -/
def phyUsers (n : Nat) (s : State) : Nat :=
  match tuned n s with
  | none => 0
  | some c =>
    let free := unpunctured c
    9 * popcount 16 free + ([0, 1, 2, 3].filter fun k => (free &&& 15 * 16 ^ k) == 15 * 16 ^ k).length

/-- The users in rank order within the share of the slice, what its PPDUs carry and the policy's maximum; pinned stations take no
share (R154). -/
def withinShare (c : SchedSettings) (share phy : Nat) (users : List Nat) : List Nat :=
  let free := (users.filter fun h => !c.pins.contains h).take share
  let l := (users.filter fun h => c.pins.contains h || free.contains h).take phy
  if c.maxUsers = 0 then l else l.take c.maxUsers

/-- The users of a TXOP that a plan may hold, in rank order: those it has a use for within every limit, and stations new to the plan
only up to 512 (R144 to R149). -/
def txopUsers (x : PlanBase) (rank : List Nat) (p : Plan) (t : PlanTxop) (s : State) : List Nat :=
  let ok (h : Nat) : Bool := t.users.contains h && plannable x t h s && hasUse x t h s && linkFits x p t h s && emlsrFits p t h s
    && airtimeFits x p t h s
  let l := withinShare x.settings (p.shares.get t.slice) (phyUsers t.slice s) (rank.filter ok)
  let l := if t.sounding then l.take 16 else l
  let fresh := (l.filter fun h => !p.stations.contains h).take (512 - p.stations.length)
  l.filter fun h => p.stations.contains h || fresh.contains h

/-- Where both directions have backlog, a trigger exchange keeps to the uplink share of the planned airtime; the first one always
does (R148). -/
def uplinkFits (x : PlanBase) (p : Plan) (t : PlanTxop) : Bool :=
  let both := (x.backlog.any (·.up.isSome)) && x.backlog.any fun b => downOf x b != 0
  let used : Nat := ((p.txops.filter (·.uplink)).map (·.us)).sum
  !t.uplink || !both || decide (used = 0) || decide ((used + t.us) * 100 ≤ x.settings.uplink * (x.txops.map (·.us)).sum)

/-- A trigger exchange on a slice of an NSTR pair is placed at the same time as the other slice's, or apart from what that sends
(R146). -/
def nstrFits (x : PlanBase) (t : PlanTxop) (s : State) : Bool :=
  !t.uplink || (others t.slice).all fun m => !nstr t.slice m s
    || x.txops.all fun v => v.slice != m || !overlapping t v || (v.uplink && v.start == t.start)

/-- The category a TXOP contends with: the highest that its users have traffic in; of one with no traffic, the one given (R107). -/
def txopCategory (x : PlanBase) (t : PlanTxop) (users : List Nat) : Nat :=
  let l := (x.backlog.filter fun b => users.contains b.station).filterMap fun b => if t.uplink then b.up else topCategory (downOf x b)
  match l with
  | [] => t.ac
  | a :: r => r.foldl max a

/-- A TXOP joins a plan with the users it may hold; without one it does not. It serves service periods only where a user has one
(R142). -/
def addTxop (x : PlanBase) (rank : List Nat) (s : State) (p : Plan) (t : PlanTxop) : Plan :=
  let l := txopUsers x rank p t s
  if l.isEmpty || !bit p.busy t.slice || !uplinkFits x p t || !nstrFits x t s then p
  else
    let t2 := { t with users := l, ac := txopCategory x t l, twt := t.twt && l.any x.twt.contains
                       loads := t.loads.filter fun e => l.contains e.station }
    { p with txops := p.txops ++ [t2], stations := p.stations ++ l.filter fun h => !p.stations.contains h }

/-- User appearances of TXOPs, counted per TXOP (R164, R167). -/
def countAppearances (k : Nat) (s : State) : State :=
  onCrownStats (fun c => { c with appearances := addWrap 64 c.appearances k })
    (onMls (fun m => { m with ratio := (m.ratio.1, m.ratio.2.1 + k, m.ratio.2.2) }) s)

/-! ### The commit (R139, R144, R147, R153) -/

/-- Staging of each slice's first TXOP begins, towards the boundary (R156). -/
def stageFirst (boundary : Nat) (p : Plan) (s : State) : Plan × State :=
  [0, 1, 2].foldl (fun a n => stageNext n boundary a.1 a.2) (p, s)

/-- Eligible stations that are not planned age by a window; planned ones start afresh (R144). -/
def ageStations (eligible : List Nat) (p : Plan) (s : State) : State :=
  onAir (fun a => { a with stations := a.stations.map fun e => (e.1,
    if p.stations.contains e.1 then { e.2 with starved := 0 }
    else if eligible.contains e.1 then { e.2 with starved := min 255 (e.2.starved + 1) } else e.2) }) s

/-- A precoder of a report older than the sounding interval is valid no longer (R27, R147). -/
def agePrecoders (s : State) : State :=
  let now := runTime s
  let limit := s.mls.committed.sounding * 1000000
  onAir (fun a => { a with stations := Tab.mapVals (fun x =>
    if x.report.any fun t => decide (t + limit < now) then { x with precoder := false } else x) a.stations }) s

/-- Device time at which the running window ends. -/
def windowEnd (s : State) : Nat := s.mls.startAt + s.mls.inForce.window * 1000

/-- What the plan of the next window is built from, over links still usable (R139, R150). -/
def nextBase (sample : List (Nat × Nat × Bool)) (txops : List PlanTxop) (twt free : List Nat) (s : State) : PlanBase :=
  ⟨s.mls.snapshot, sample.filter fun e => (station e.2.1 s).any fun x => linkUsable x e.1 s, s.mls.backlog, twt, free, txops,
    windowEnd s + s.mls.snapshot.window * 1000⟩

/-- The plan of the next window is committed: TXOPs of the stations ranked, within the snapshot's limits; its counts; pins and
staging, with the staged users guarded first (R139, R144, R150, R156, R158, R163). -/
def planCommit (txops : List PlanTxop) (twt free : List Nat) (s : State) : State :=
  match s.mls.sampled, s.mls.next with
  | some sample, some base =>
    let x := nextBase sample txops twt free s
    let rank := ranked x s
    let plan := txops.foldl (addTxop x rank s) base
    let s := agePrecoders (commitCrown x.settings (onMls (fun m => { m with sampled := none, next := some plan }) s))
    let r := stageFirst (windowEnd s) plan (markUse s)
    let s := countAppearances (r.1.txops.map fun t => t.users.length).sum (ageStations rank r.1 r.2)
    let full := decide (512 < rank.length)
    let s := onMls (fun m => { m with
      next := some r.1
      fullNow := (m.fullNow.1 + 1, m.fullNow.2.1 + b2n full, max m.fullNow.2.2 rank.length)
      stats := { m.stats with planFull := if full then inc 32 m.stats.planFull else m.stats.planFull
                              peakPlanned := max m.stats.peakPlanned r.1.stations.length } }) s
    crownGo (markUse s)
  | _, _ => s

/-- PLAN_COMMIT (R139): the TXOPs the Milliner places, the stations with a TWT service period that overlaps the window, and the free
airtime of each slice's link. -/
def execPlanCommit (txops : List PlanTxop) (twt free : List Nat) (s : State) : Host.Outcome State Fault Refusal :=
  .next (planCommit txops twt free (start s))

/-! ### The boundary (R137, R139) -/

/-- A schedule still stands. -/
def standing (l : List TwtSchedule) (b kind id : Nat) : Bool := l.any fun e => e.bss == b && e.kind == kind && e.id == id

/-- The next window begins under the plan and the settings committed for it; TXOPs of the old plan that have not started are
gone (R137, R139, R140). -/
def windowBoundary (s : State) : State :=
  if !s.mls.running || !s.mls.inBrim then s
  else
    let s := startShared s
    markUse (onMls (fun m =>
      { m with index := inc 32 m.index, start := rawTime s, startAt := runTime s, inBrim := false, plan := m.next.getD (emptyPlan m.snapshot)
               next := none, sampled := none, backlog := [], inForce := m.snapshot, twtNow := m.twtSnap, evicted := ([], m.evicted.1)
               openSps := m.openSps.filter fun e => standing m.twtSnap e.1 e.2.1 e.2.2
               members := m.members.filter fun e => standing m.twtSnap e.1 e.2.1 e.2.2.1 || standing m.twt e.1 e.2.1 e.2.2.1
               persisted := m.persisted.filter fun e => standing m.twtSnap e.1 e.2.1 e.2.2.1
               stats := { m.stats with planned := m.plan.stations.length } }) s)

/-- WINDOW_BOUNDARY (R139). -/
def execWindowBoundary (s : State) : Host.Outcome State Fault Refusal := .next (windowBoundary (start s))

/-! ### Fill TXOPs and staging (R141, R156) -/

/-- What a fill TXOP is built from: the settings in force, and stations as they are now (R141). -/
def fillBase (t : PlanTxop) (s : State) : PlanBase :=
  ⟨s.mls.inForce, sampleNow s, backlogNow 0 s, (s.air.stations.filter fun e => inService e.1 e.2 s).map Prod.fst, [], [t], windowEnd s⟩

/-- A fill TXOP joins the running plan of a slice that has none left, before the brim, for stations whose queues hold traffic (R141,
R150). -/
def fillTxop (t : PlanTxop) (s : State) : State :=
  if !s.mls.running || s.mls.inBrim || (nextPlanned t.slice s.mls.plan).isSome || !inPlan t.slice s then s
  else
    let x := fillBase t s
    let p := addTxop x (ranked x s) s s.mls.plan t
    countAppearances (((nextPlanned t.slice p).map fun x => x.users.length).getD 0)
      (markUse (onMls (fun m =>
        { m with plan := p, stats := { m.stats with peakPlanned := max m.stats.peakPlanned p.stations.length } }) s))

/-- FILL_TXOP_APPEND (R141). -/
def execFillTxopAppend (t : PlanTxop) (s : State) : Host.Outcome State Fault Refusal := .next (fillTxop t (start s))

/-- Device time at which a slice is free of the planned TXOP in progress: as it is planned to end (R156). -/
def slotFree (n : Nat) (s : State) : Nat :=
  match (mac n s).txop with
  | some t => max (runTime s) (t.since + ((t.plan.map (·.us)).getD 0) * 1000)
  | none => runTime s

/-- Staging of a slice's next TXOP in the running plan begins (R156). -/
def stagingStart (n : Nat) (s : State) : State :=
  if !s.mls.running then s
  else
    let r := stageNext n (slotFree n s) s.mls.plan s
    crownGo (markUse (onMls (fun m => { m with plan := r.1 }) r.2))

/-- STAGING_START (R156). -/
def execStagingStart (slice : Nat) (s : State) : Host.Outcome State Fault Refusal := .next (stagingStart slice (start s))

/-! ### The Crown engine (R155, R161, R162) -/

/-- A fetched entry becomes resident: pinned, in a reserve slot while its linger time runs, or in the pool (R152, R162). -/
def arrive (o : CrownOp) (s : State) : State :=
  let role : CrownRole := if pinned o.station s then .pinned else if o.demand then .reserve else .pool
  onMls (fun m => { m with crown := m.crown ++ [⟨o.station, role, false, false, role == .reserve⟩] }) s

/-- A fetch or a write-back completes: the held MPDUs of a fetched entry run, and the next operations are issued (R155, R161). -/
def crownDone (h : Nat) (fetch : Bool) (time : Nat) (s : State) : State :=
  match s.mls.flight.find? fun o => o.station == h && o.fetch == fetch with
  | none => s
  | some o =>
    let s := onCrownStats (fun c => { c with peakOp := max c.peakOp time }) (onMls (fun m => { m with flight := m.flight.erase o }) s)
    let s := if fetch then runHeld h (markUse (arrive o s)) else s
    crownGo (serveWaiting 96 s)

/-- CROWN_OP_COMPLETE (R155). -/
def execCrownOpComplete (station : Nat) (fetch : Bool) (time : Nat) (s : State) : Host.Outcome State Fault Refusal :=
  .next (crownDone station fetch time (start s))

/-- HOLD_MPDU_EXPIRY (R161): the station's oldest held MPDU is discarded. -/
def execHoldMpduExpiry (station : Nat) (s : State) : Host.Outcome State Fault Refusal :=
  .next (let s := start s
    match s.mls.hold.find? fun x => x.mpdu.station == station && x.acked with
    | none => s
    | some x =>
      onMls (fun m => { m with hold := m.hold.erase x, stats := { m.stats with holdExpired := inc 32 m.stats.holdExpired } }) s)

/-- LINGER_EXPIRY (R162): the entry's reserve slot may be reused. -/
def execLingerExpiry (station : Nat) (s : State) : Host.Outcome State Fault Refusal :=
  .next (let s := onMls (fun m => { m with crown := m.crown.map fun e =>
      if e.station = station then { e with lingering := false } else e }) (start s)
    crownGo (serveWaiting 96 s))

/-- A ratio in parts of `unit`; 0 without a base. -/
def ratioOf (unit part base : Nat) : Nat := if base = 0 then 0 else part * unit / base

/-- THRASH_CHECK (R164): the ratios of the last 100 ms against their thresholds. -/
def thrashCheck (s : State) : State :=
  let r := s.mls.ratio
  let c := s.mls.inForce
  let late := decide (0 < r.2.1) && decide (c.lateThr * r.2.1 < r.1 * 1000)
  let waits := decide (0 < r.2.2.2) && decide (c.waitThr * r.2.2.2 < r.2.2.1 * 100)
  let s := onMls (fun m => { m with ratio := (0, 0, 0, 0) }) s
  if (late || waits) && !s.mbox.limited.contains (0x0401, 0) then
    raiseLimited 0x0401 0 (leBytes 1 (bitsNat [late, waits]) ++ leBytes 1 0 ++ leBytes 2 (min 65535 (ratioOf 1000 r.1 r.2.1))
      ++ leBytes 2 (min 65535 (ratioOf 100 r.2.2.1 r.2.2.2)) ++ leBytes 1 (halfOf c) ++ leBytes 1 c.pins.length ++ leBytes 1 c.reserve)
      (onCrownStats (fun k => { k with thrash := inc 32 k.thrash }) s)
  else s

/-- THRASH_CHECK (R164). -/
def execThrashCheck (s : State) : Host.Outcome State Fault Refusal := .next (thrashCheck (start s))

/-- A station's entry is lost: the event, then the station's removal with its keys, queues and held MPDUs (R165). -/
def loseEntry (h : Nat) (s : State) : State :=
  if (station h s).isNone then s
  else
    let k := (s.mls.hold.filter fun x => x.mpdu.station == h && x.acked).length
    let s := onCrownStats (fun c => { c with lost := inc 32 c.lost, holdExpired := addWrap 32 c.holdExpired k })
      (raise 0x0403 (leBytes 2 h) s)
    dismiss h 0 1 s

/-- CROWN_ENTRY_LOST (R165). -/
def execCrownEntryLost (station : Nat) (s : State) : Host.Outcome State Fault Refusal :=
  .next (loseEntry station (start s))

/-- A compressed beamforming report is accepted: Ng 4 or 16, and either codebook size (R67). -/
def reportAccepted (ng codebook : Nat) : Bool := (ng == 4 || ng == 16) && decide (codebook < 2)

/-- BEAMFORMING_REPORT_RECEIVE (R27, R67, R147, R350): the report is dated and passed to Nimbus; with class 10 full it is
refused, and the station keeps its last precoder. -/
def execBeamformingReportReceive (station : Nat) (valid : Bool) (ng codebook : Nat) (s : State) : Host.Outcome State Fault Refusal :=
  .next (let s := start s
    if (Machine.station station s).isNone || !reportAccepted ng codebook then s
    else
      let now := runTime s
      let s := onStation station (fun x => { x with report := some now, beamformee := true, reportForm := some (ng, codebook) }) s
      if classFull 10 s || !powered 7 s then refuseClass 10 s else queueItem 10 none (.precoder station valid) s)

/-! ### Commands (R167) -/

/-- SCH_SET_WINDOW: read or set (R137, R138). -/
def schSetWindow (u : Ump) (s : State) : Reply :=
  let op := u.b8 0
  let w := u.b16 2
  let b := u.b16 4
  judge ([shortOp u 0 1 8, param (decide (1 < op)),
      param (op == 1 && (decide (w < 1000) || decide (8000 < w) || w % 125 != 0
        || decide (b < 100) || decide (1000 < b) || b % 10 != 0 || decide (w < 4 * b)))] ++ gate 0x0401 false [] s) s fun _ =>
    let s := if op = 1 then
        cfgKeep 0x0401 0 0 u.data (onMls (fun m => { m with settings := { m.settings with window := w, brim := b } }) s)
      else s
    let m := s.mls
    reply (leBytes 1 op ++ leBytes 1 0 ++ leBytes 2 m.settings.window ++ leBytes 2 m.settings.brim ++ leBytes 2 0
      ++ leBytes 4 m.index ++ leBytes 4 m.start) s

/-- SCH_SET_WINDOW (R167). -/
def execSchSetWindow (m : Ump) (s : State) : Host.Outcome State Fault Refusal := .next (serve 0x0401 schSetWindow m s)

/-- A value outside a range. -/
def outside (v lo hi : Nat) : Bool := decide (v < lo) || decide (hi < v)

/-- SCH_SET_POLICY: read or set (R167). -/
def schSetPolicy (u : Ump) (s : State) : Reply :=
  let op := u.b8 0
  judge ([shortOp u 0 1 16, param (decide (1 < op)),
      param (op == 1 && (outside (u.b8 1) 0 148 || outside (u.b8 3) 0 90 || outside (u.b16 4) 10 1000 || outside (u.b16 6) 5 200
        || outside (u.b8 8) 1 16 || outside (u.b8 9) 1 16 || outside (u.b8 10) 1 16 || outside (u.b8 11) 10 30
        || outside (u.b8 12) 1 100 || outside (u.b8 13) 1 50 || outside (u.b8 14) 2 64))] ++ gate 0x0402 false [] s) s fun _ =>
    let s := if op = 1 then
        cfgKeep 0x0402 0 0 u.data (onMls (fun m => { m with settings := { m.settings with
          maxUsers := u.b8 1, flags := u.b8 2 % 32, uplink := u.b8 3, sounding := u.b16 4, poll := u.b16 6
          weights := ⟨u.b8 8, u.b8 9, u.b8 10⟩, budget := u.b8 11, lateThr := u.b8 12, waitThr := u.b8 13, starvation := u.b8 14 } }) s)
      else s
    let c := s.mls.settings
    reply (([op, c.maxUsers, c.flags, c.uplink].map (leBytes 1)).flatten ++ leBytes 2 c.sounding ++ leBytes 2 c.poll
      ++ ((c.weights.toList ++ [c.budget, c.lateThr, c.waitThr, c.starvation, 0]).map (leBytes 1)).flatten) s

/-- SCH_SET_POLICY (R167). -/
def execSchSetPolicy (m : Ump) (s : State) : Host.Outcome State Fault Refusal := .next (serve 0x0402 schSetPolicy m s)

/-- CRN_SET_RESERVE: read or set; pins and half of the plan now running (R152, R162, R492). -/
def crnSetReserve (u : Ump) (s : State) : Reply :=
  let op := u.b8 0
  judge ([shortOp u 0 1 4, param (decide (1 < op)),
      param (op == 1 && (outside (u.b8 1) 4 24 || outside (u.b16 2) 100 5000))] ++ gate 0x0403 false [] s) s fun _ =>
    let s := if op = 1 then
        cfgKeep 0x0403 0 0 u.data (onMls (fun m => { m with settings := { m.settings with reserve := u.b8 1, linger := u.b16 2 } }) s)
      else s
    let m := s.mls
    reply (leBytes 1 op ++ leBytes 1 m.settings.reserve ++ leBytes 2 m.settings.linger
      ++ leBytes 1 m.inForce.pins.length ++ leBytes 1 m.plan.half ++ leBytes 2 0) s

/-- CRN_SET_RESERVE (R167). -/
def execCrnSetReserve (m : Ump) (s : State) : Host.Outcome State Fault Refusal := .next (serve 0x0403 crnSetReserve m s)

/-- The pins with one more, in ascending order. -/
def insertPin (h : Nat) (l : List Nat) : List Nat := l.filter (· < h) ++ h :: l.filter (h < ·)

/-- CRN_PIN: pin, unpin or list (R163). -/
def crnPin (u : Ump) (s : State) : Reply :=
  let h := u.b16 0
  let op := u.b8 2
  let pins := s.mls.settings.pins
  let new := op == 0 && !pins.contains h
  let assoc := (station h s).any fun x => x.state == 2 || x.state == 3
  judge ([shortOp u 2 2 3, param (decide (op < 2) && decide (2047 < h)), param (decide (2 < op)), param (new && !assoc)]
      ++ gate 0x0404 false [] s ++ [(new && decide (32 ≤ pins.length), ST.crownFull)]) s fun _ =>
    let pins := if new then insertPin h pins else if op = 1 then pins.filter (· != h) else pins
    let s := onMls (fun m => { m with settings := { m.settings with pins := pins } }) s
    let l := if op = 2 then pins else []
    reply (leBytes 1 pins.length ++ leBytes 1 l.length ++ (l.map (leBytes 2)).flatten) s

/-- CRN_PIN (R163). -/
def execCrnPin (m : Ump) (s : State) : Host.Outcome State Fault Refusal := .next (serve 0x0404 crnPin m s)

/-- The record of CRN_GET_STATS (R167, R492). -/
def crownRecord (m : Milliner) : Bytes :=
  let c := m.stats
  ([m.inForce.pins.length, m.inForce.reserve, m.plan.half, m.plan.busy].map (leBytes 1)).flatten
    ++ (m.plan.shares.toList.map (leBytes 1)).flatten ++ leBytes 1 m.crown.length
    ++ ([c.fetches, c.demand, c.writebacks, c.appearances].map (leBytes 8)).flatten
    ++ ([c.late, c.waits, c.partialState, c.held, c.holdFull, c.holdExpired, c.refetches].map (leBytes 4)).flatten
    ++ leBytes 2 c.peakOp ++ leBytes 2 c.peakHold ++ ([c.lost, c.thrash, c.planFull].map (leBytes 4)).flatten
    ++ leBytes 2 c.planned ++ leBytes 2 c.peakPlanned

/-- CRN_GET_STATS: the peaks start afresh (R167). -/
def crnGetStats (_ : Ump) (s : State) : Reply :=
  judge (gate 0x0405 false [] s) s fun _ =>
    reply (crownRecord s.mls) (onCrownStats (fun c => { c with peakOp := 0, peakHold := 0, peakPlanned := 0 }) s)

/-- CRN_GET_STATS (R167). -/
def execCrnGetStats (m : Ump) (s : State) : Host.Outcome State Fault Refusal := .next (serve 0x0405 crnGetStats m s)

/-- Schedules of the same BSS, kind and ID as a TWT_SET. -/
def sameSchedule (b kind id : Nat) (e : TwtSchedule) : Bool := e.bss == b && e.kind == kind && e.id == id

/-- The sum of restricted duration-to-interval ratios on a slice stays within one half (R167). -/
def ratiosFit (l : List (Nat × Nat)) : Bool :=
  let den := l.foldl (fun a e => a * e.2) 1
  decide (2 * (l.map fun e => e.1 * 256 * (den / e.2)).sum ≤ den)

/-- The fields of TWT_SET Op 0 break a rule (R126, R167). -/
def twtBad (u : Ump) (s : State) : Bool :=
  let b := u.b8 0
  let kind := u.b8 2
  let on (e : TwtSchedule) : Bool := e.kind == 1 && (bss e.bss s).map (·.slice) == (bss b s).map (·.slice)
  let rest := (s.mls.twt.filter fun e => on e && !sameSchedule b kind (u.b8 3) e).map fun e => (e.duration, e.interval)
  (kind == 1) != (u.b8 5 != 0) || outside (u.b16 6) 1 255 || outside (u.b32 8) 1000 10000000 || decide (u.b32 8 ≤ u.b32 12)
    || outside (u.b8 16) 1 255 || decide (u.b32 8 ≤ u.b16 6 * 256)
    || (kind == 1 && !ratiosFit ((u.b16 6, u.b32 8) :: rest))

/-- The 20 bytes of a schedule as stored. -/
def twtBytes (e : TwtSchedule) : Bytes :=
  ([e.bss, 2, e.kind, e.id, e.flags, e.tids].map (leBytes 1)).flatten ++ leBytes 2 e.duration ++ leBytes 4 e.interval
    ++ leBytes 4 e.offset ++ leBytes 1 e.persistence ++ leBytes 3 0

/-- TWT_SET: add or modify, delete, or read a schedule (R126, R167). -/
def twtSet (u : Ump) (s : State) : Reply :=
  let b := u.b8 0
  let op := u.b8 1
  let kind := u.b8 2
  let id := u.b8 3
  let old := s.mls.twt.find? (sameSchedule b kind id)
  let count := (s.mls.twt.filter fun e => e.bss == b && e.kind == kind).length
  judge ([shortOp u 1 2 20, param (bss b s).isNone, param (decide (2 < op)), param (decide (1 < kind) || outside id 1 31),
      param (op == 0 && twtBad u s), param (op != 0 && old.isNone)] ++ gate 0x0406 false [Obj.bss b] s
      ++ [(op == 0 && old.isNone && decide ((if kind = 0 then 8 else 4) ≤ count), ST.noResource)]) s fun _ =>
    let keep (r : CfgRecord) : Bool :=
      r.code == 0x0406 && rd r.payload 0 1 == b && rd r.payload 2 1 == kind && rd r.payload 3 1 == id
    if op = 2 then
      let n := (s.mls.members.filter fun e => e.1 == b && e.2.1 == kind && e.2.2.1 == id).length
      reply ((old.map twtBytes).getD [] ++ leBytes 2 n) s
    else
      let rest := s.mls.twt.filter fun e => !sameSchedule b kind id e
      if op = 1 then
        reply [] (raise 0x0306 (twtPayload 0xFFFF 1 id) (cfgDelete keep 0x0406 u.data (onMls (fun m => { m with twt := rest }) s)))
      else
        let e : TwtSchedule := ⟨b, kind, id, u.b8 4 % 4, u.b8 5, u.b16 6, u.b32 8, u.b32 12, u.b8 16⟩
        reply [] (raise 0x0306 (twtPayload 0xFFFF 0 id) (cfgKeepIf keep 0x0406 u.data (onMls (fun m =>
          { m with twt := rest ++ [e]
                   persisted := m.persisted.filter fun x => !(x.1 == b && x.2.1 == kind && x.2.2.1 == id) }) s)))

/-- TWT_SET (R167). -/
def execTwtSet (m : Ump) (s : State) : Host.Outcome State Fault Refusal := .next (serve 0x0406 twtSet m s)

end Sys2Proof.Machine
end

