-- ==== Sys2Proof/Machine/Power.lean ====
section
/-! DEFINITION. Power transitions by command and by thermal protection, and the commands of group 0x01
(chapter 17, R399 to R405, R413, R418, R419; R159, R331, R351, R395). -/
namespace Sys2Proof.Machine

/-! ### What a slice and a subsystem lose with their power -/

/-- The channel a slice is to come back to: the one in force; where a change is under way, its target if no command asked for it,
else the channel held before, since a command that fails changes no state (R17, R401). -/
def heldChannel (n : Nat) (s : State) : Option Channel :=
  let x := slice n s
  match x.tuning with
  | none => x.channel
  | some t =>
    if !(s.mbox.async.any fun a => a.code == 0x0201 && rd a.payload 0 1 == n) then t.channel
    else if t.begun then x.last else x.channel

/-- A slice loses its power: its commands end with ST_POWERED_OFF, and it is OFF (R30, R401, R402). -/
def powerDownSlice (n : Nat) (s : State) : State :=
  let last := heldChannel n s
  let s := endSetChannel n ST.poweredOff [] false (withdrawCal n ST.poweredOff s)
  let s := match s.mbox.async.find? fun a => a.code == 0x0208 && rd a.payload 0 1 == n with
    | some a => endAsync a ST.poweredOff [] s
    | none => s
  let s := onMac n (fun m => { m with mgmt := [] }) (enterState n .off s)
  haloChange n (onSlice n (fun x =>
    { x with last := last, tuning := none, channel := none, requested := none, calQueue := [], calRunning := none
             selfTest := false }) s)

/-- The frames that commands of the link cores wait for are not sent: no link is left (R120, R132, R133). -/
def ownFramesEnd (s : State) : State :=
  [0, 1, 2].foldl (fun t n =>
    ((mac n t).mgmt.filter fun f => f.owner != 0).foldl (fun u f => mgmtEnd n f 7 u) t) s

/-- The slices lose their power. -/
def slicesOff (s : State) : State :=
  [0, 1, 2].foldl (fun t n => if (slice n t).state = .off then t else powerDownSlice n t) (ownFramesEnd s)

/-- The slices are powered: STOPPED, and on the way back to the channels they last held, as RAD_SET_CHANNEL takes them
(R30, R401). -/
def slicesOn (s : State) : State :=
  [0, 1, 2].foldl (fun t n =>
    let t := enterState n .stopped t
    match (slice n t).last with
    | none => t
    | some c => onSlice n (fun x => { x with tuning := some ⟨some c, x.backup, false, false, false, false, false, 0⟩ }) t) s

/-- A node is set again from its record in the active bank (R395). -/
def restoreNode (s : State) (r : CfgRecord) : State :=
  if r.code = 0x0C05 then
    let x := drzNodeSet { via := .pcie 0, length := r.payload.length, payload := r.payload } s
    { x.st with mem := s.mem }
  else s

/-- Drizzle's nodes come back from the configuration bank on the return to RUN (R395). -/
def restoreNodes (s : State) : State :=
  match s.mem.active with
  | none => s
  | some b => (bank b s).body.foldl restoreNode s

/-! ### PWR_SET_STATE (R400 to R402, R418) -/

/-- The state of a code. -/
def pwrState : Nat → PwrState
  | 0 => .run | 1 => .quiet | 2 => .standby | _ => .sleep

/-- PWR_SET_STATE up to ST_PENDING; a BIST's prerequisite would end with the transition (R438). -/
def pwrSetState (u : Ump) (s : State) : Reply :=
  let n := u.b8 0
  judge ([short u 4, param (decide (3 < n)), (s.power.changing, ST.busy), (pwrCode s.power.state == n, ST.badState)]
    ++ gate 0x0101 true [.power] s ++ [([0, 1, 2, 3].any fun k => locked (.bist k) s, ST.busy)]) s fun _ =>
    pending u 0x0101 [.power]
      (if n < 2 then s else onPower (fun p => { p with target := some (pwrState n) }) s)

/-- From RUN to QUIET: the LDPC array powers down with the slices it serves, and no command powers it down before them (R12, R401). -/
def toQuiet (s : State) : State :=
  let s := passPoint 0x0101 (fun _ => true) s
  let s := drzPowerDown (emptyArray (slicesOff s))
  let s := onPower (fun p => { p with state := .quiet, domains := 0x687 }) s
  let s := raise 0x0101 (statePayload 0 1 0 s) s
  match firstAsync 0x0101 s with
  | some a => endAsync a ST.ok (stateDone 0 1 0 0) s
  | none => s

/-- From QUIET back to RUN, where the LDPC array and the DSP cores are powered with the slices: CHANGING until every slice has left
TUNING (R12, R401). -/
def toRun (s : State) : State :=
  let s := passPoint 0x0101 (fun _ => true) s
  let s := onPower (fun p => { p with state := .run, domains := 0x7FF, changing := true, target := some .run }) s
  runReached (restoreNodes (slicesOn s))

/-- A transition between RUN and QUIET begins with the ST_PENDING; one to STANDBY or SLEEP waits for PWR_TRANSITION_BEGIN. -/
def pwrStart (u : Ump) (s : State) : State :=
  match u.b8 0 with
  | 0 => toRun s
  | 1 => toQuiet s
  | _ => s

/-- PWR_SET_STATE (R400). -/
def execPwrSetState (m : Ump) (s : State) : Host.Outcome State Fault Refusal :=
  .next (serveThen 0x0101 pwrSetState (pwrStart m) m s)

/-! ### The way to STANDBY and SLEEP (R402) -/

/-- A group-addressed Deauthentication of a BSS goes on the air, with reason 3 (R402). -/
def groupDeauth (b n : Nat) (s : State) : State :=
  let v := plainVector n (if bandNow n s == 0 then 0 else 1) 0 (primaryCover n s) 0 s
  emitPpdu n v (.mgmt (.leaveAll b 3)) (emit (.air n 8 0xFFFF) s)

/-- Step 2: each secured BSS sends its group-addressed Deauthentication where its slice transmits, and its stations are
removed silently; answers their number. -/
def deauthSecured (s : State) : Nat × State :=
  let b := s.air.bss.filter fun e => e.2.security != 0
  let s := b.foldl (fun t e => if sliceUsable e.2.slice t then groupDeauth e.1 e.2.slice t else t) s
  let l := (s.air.stations.filter fun e => b.any fun x => e.2.links.toList.contains x.1).map Prod.fst
  (l.length, l.foldl (fun t h => dismiss h 0 3 t) s)

/-- A work item is discarded and counted; the command or the host item it serves ends with ST_POWERED_OFF (R351, R402). -/
def discardItem (s : State) (i : WorkItem) : State :=
  let s := onClass i.cls (fun c => { c with discarded := inc 64 c.discarded }) s
  match i.work with
  | .host _ _ _ _ _ wanted key _ _ cookie index => endHost wanted cookie ST.poweredOff i.cls key index 0 false s
  | .kernel _ via tag =>
    match findOwn 0x0B02 (via, tag) s with
    | some a => endAsync a ST.poweredOff [] s
    | none => s
  | _ => s

/-- Both groups of cores lose their power: queued items are discarded, items in service are stopped, and the Nimbus cores are
reset (R351, R402). -/
def discardGroups (s : State) : State :=
  let l := s.tds.items ++ s.tds.airItems ++ s.tds.service.map (·.item)
  let s := l.foldl discardItem (onTds (fun t => { t with items := [], airItems := [], service := [] }) s)
  let s := (List.range 16).foldl (fun t c => settleClass c t) s
  onDsp (fun d => { d with cores := Dsp.reset.cores, locked := [] }) s

/-- Drizzle's queued frames, and the one in its exchange, end NOT_SENT; answers their number (R395). -/
def drzFramesEnd (s : State) : Nat × State :=
  let r := drzDrop (fun _ => true) 7 s
  match r.2.drz.exchange with
  | some f => (r.1 + 1, drzFinish f 7 r.2)
  | none => r

/-- Step 4: the Crown's dirty entries are written back, and its operations and held MPDUs are gone (R159). -/
def crownPowerDown (s : State) : State :=
  onMls (fun m =>
    { m with crown := [], queue := [], flight := [], waiting := [], hold := []
             stats := { m.stats with
               writebacks := addWrap 64 m.stats.writebacks (m.crown.filter (·.dirty)).length
               holdExpired := addWrap 32 m.stats.holdExpired m.hold.length } }) s

/-- The frames of the wired group outside its queues: awaiting lookup, flow setup or a next hop, being sent, or awaiting a
verdict. -/
def looseFrames (w : Wire) : List Frame :=
  w.lookup ++ (w.held.map (·.frames)).flatten ++ (w.nextHops.map (·.waiting)).flatten
    ++ (w.ports.map fun e => (e.2.sending.map Prod.snd).toList ++ e.2.icv.map fun x => x.1).flatten

/-- The frames of received MPDUs that wait for their order or their MIC verdict. -/
def heldFrames (a : Air) : List Frame :=
  (a.stations.map fun e => (e.2.sessions.map fun y => (y.2.held.map fun r => r.msdus.getD []).flatten).flatten).flatten
    ++ (a.mic.map (·.msdus)).flatten

/-- A frame of a queue that has lost its cells. -/
def emptyQueue (q : QueueInfo) : QueueInfo := { q with frames := [], depth := 0, above := none, dropping := false, closedAt := none }

/-- Step 4: every frame in the DRAM cell pool and the packet SRAM is discarded; answers their number (R331, R402). -/
def discardFrames (s : State) : Nat × State :=
  let a := (Tab.keys s.qme.queues).foldl (fun a q => let r := dropFrames q 4 a.2; (a.1 + r.1, r.2)) (0, s)
  let a := (Tab.keys a.2.air.stations).foldl (fun a h => let r := dropMpdus h (fun _ => true) 4 a.2; (a.1 + r.1, r.2)) a
  let d := drzFramesEnd a.2
  let s := d.2
  let l := looseFrames s.wire ++ heldFrames s.air
  let s := l.foldl (fun t f => injectFate f.inject 4 (rawTime t) t) s
  let s := onWire (fun w => { w with
    lookup := [], held := [], nextHops := w.nextHops.map fun n => { n with waiting := [] }, sramFree := 32768
    ports := Tab.mapVals (fun p => { p with sending := none, icv := [], cells := List.replicate 8 0, holdCells := 0, blocked := 0 }) w.ports }) s
  let s := onQme (fun m => { m with poolFree := m.poolSize, poolOwed := 0, queues := Tab.mapVals emptyQueue m.queues }) s
  let s := onAir (fun a => { a with
    mic := [], bss := Tab.mapVals (fun b => { b with groupHeld := 0, groupReady := 0 }) a.bss
    stations := Tab.mapVals (fun x => { x with sessions := Tab.mapVals (fun y => { y with held := [] }) x.sessions }) a.stations }) s
  (a.1 + d.1 + l.length, settleShapers s)

/-- A port has no wake function armed in STANDBY (R403). -/
def portSleeps (p : Nat) (s : State) : Bool :=
  let c := s.power.wakeCfg.sources
  let x := port p s
  !((c.getLsbD 0 && x.patterns.any fun e => e.2.enable) || (c.getLsbD 1 && x.magic) || (c.getLsbD 2 && p == 4))

/-- A port goes down with the device: nothing runs that could raise its event (R403). -/
def portDown (p : Nat) (s : State) : State :=
  match (port p s).state with
  | .up => let t := leaveUp p 0 .down s; { t with mbox := s.mbox, evr := s.evr, out := s.out }
  | .training => onPort p (fun x => { x with state := .down, retry := 0 }) s
  | _ => s

/-- PWR_STAT.DOMAINS in STANDBY: PD_ETH and PD_DRZ with the wake sources that need them (R399, R403). -/
def standbyDomains (c : WakeConfig) : BitVec 11 :=
  BitVec.ofNat 11 (1 + 512 * b2n (c.sources.getLsbD 0 || c.sources.getLsbD 1 || c.sources.getLsbD 2)
    + 256 * b2n (c.sources.getLsbD 3))

/-- Drizzle keeps its power in a state. -/
def drzStays (dst : PwrState) (s : State) : Bool := dst == .standby && s.power.wakeCfg.sources.getLsbD 3

/-- Step 7: the domains go off, the link is down, and the wake sources are armed; a level source already active starts the
wake (R402, R404). -/
def enterLow (dst : PwrState) (levels : List (Nat × Nat)) (s : State) : State :=
  let s := [0, 1, 2, 3, 4].foldl (fun t p => if dst == .sleep || portSleeps p t then portDown p t else t) s
  let s := onMbox (fun m =>
    { m with pcieQueue := [], pcieDropped := 0, sinkQueue := [], sinkDropped := 0 }) s
  let s := onPower (fun p =>
    { p with state := dst, changing := false, target := none, stage := 0, armed := true, armedCfg := p.wakeCfg
             domains := if dst = .standby then standbyDomains p.wakeCfg else 1, slpLow := dst == .sleep }) { s with pcie := dropLink s.pcie }
  levels.foldl (fun t e =>
    if e.1 = 6 then trigger 6 0 0 true t
    else if e.1 = 3 && t.power.armedCfg.gpioMask.getLsbD e.2 then trigger 3 0 e.2 true t
    else t) s

/-- Steps 1 to 7 of R402. -/
def lowerPower (dst : PwrState) (levels : List (Nat × Nat)) (s : State) : State :=
  let old := pwrCode s.power.state
  let stays := drzStays dst s
  let s := onPower (fun p => { p with changing := true }) (passPoint 0x0101 (fun _ => true) s)
  let r := deauthSecured (ownFramesEnd s)
  let s := discardGroups (emptyArray (slicesOff r.2))
  let s := if stays then s else drzPowerDown s
  let d := discardFrames (crownPowerDown s)
  let s := onSec (fun c => { c with keys := [], writes := [] }) d.2
  let s := onClock (fun c => { c with recorded := deviceTime s, ppsOut := false }) s
  let s := (s.mbox.async.filter fun a => a.code != 0x0101).foldl (fun t a => endAsync a ST.poweredOff [] t) s
  let s := match firstAsync 0x0101 s with
    | some a => endAsync a ST.ok (stateDone old (pwrCode dst) r.1 d.1) s
    | none => s
  enterLow dst levels s

/-- PWR_TRANSITION_BEGIN (R402): no command that never stops is outstanding any more. -/
def execPwrTransitionBegin (levels : List (Nat × Nat)) (s : State) : Host.Outcome State Fault Refusal :=
  .next (let s := start s
    match s.power.target with
    | some dst =>
      if (dst == .standby || dst == .sleep) && !s.power.changing && !(s.mbox.async.any fun a => neverCodes.contains a.code) then
        lowerPower dst levels s
      else s
    | none => s)

/-! ### Thermal protection (R413) -/

/-- Thresholds of the thermal levels, 0.25 degC. -/
def thermalUp : List Int := [400, 428, 460]

/-- The thermal level for a reading: each threshold is entered at it and left 5 degC below it. -/
def thermalLevel (now : Nat) (temp : Int) : Nat :=
  let up := (thermalUp.filter fun t => t ≤ temp).length
  let held := (thermalUp.filter fun t => t - 20 ≤ temp).length
  if now < up then up else min now held

/-- The power limits of level 2 begin or end: a power change of every slice (R38, R413). -/
def limitChange (s : State) : State := [0, 1, 2].foldl (fun t n => haloChange n t) s

/-- The limits of level 2 hold. -/
def limited2 (p : Power) : Bool := decide (2 ≤ p.thermal) || p.avsLimit

/-- The highest reading crosses a threshold: the level changes, up to level 2 (R413). -/
def thermalChange (sensor : Nat) (temp : Int) (s : State) : State :=
  let n := thermalLevel s.power.thermal temp
  let old := s.power
  let t := onPower (fun p => { p with temperature := temp, sensor := sensor }) s
  if n = old.thermal || n = 3 then t
  else
    let t := onPower (fun p => { p with thermal := n }) t
    let t := if limited2 old == limited2 t.power then t else limitChange t
    if powered 1 t then raise 0x0106 (thermalPayload n t) t else t

/-- THERMAL_LEVEL_CHANGE (R413). A trip is THERMAL_TRIP's. -/
def execThermalLevelChange (sensor : Nat) (temp : Int) (s : State) : Host.Outcome State Fault Refusal :=
  .next (let s := start s
    if s.power.state != .off && !s.power.tripped && !s.power.held then thermalChange sensor temp s else s)

/-- A thermal trip: every domain but PD_AON goes off at once (R413). -/
def thermalTrip (sensor : Nat) (temp : Int) (s : State) : State :=
  let s := onPower (fun p => { p with thermal := 3, temperature := temp, sensor := sensor }) s
  let s := recordNow 0x0106 (thermalPayload 3 s) s
  let t := clearCore true s
  { t with
    pcie := dropLink s.pcie
    power := { resetPower s.power with
      state := .sleep, domains := 1, tripped := true, faultOut := true, slpLow := true, wakeFrom := s.power.state
      armedCfg := s.power.wakeCfg, wakeCfg := s.power.wakeCfg } }

/-- THERMAL_TRIP (R413). -/
def execThermalTrip (sensor : Nat) (temp : Int) (s : State) : Host.Outcome State Fault Refusal :=
  .next (let s := start s
    if decide (460 ≤ temp) && !s.power.held
        && (s.power.state == .run || s.power.state == .quiet || s.power.state == .standby) then
      thermalTrip sensor temp s
    else s)

/-- THERMAL_REARM (R413): below 95 degC the wake sources are armed. -/
def execThermalRearm (temp : Int) (s : State) : Host.Outcome State Fault Refusal :=
  .next (let s := start s
    if s.power.tripped && s.power.state == .sleep && decide (temp < 380) then
      onPower (fun p => { p with armed := true, thermal := 0, temperature := temp }) s
    else s)

/-- AVS_WRITE_RETRY (R475), 1 ms after the write: acknowledged, the fault is transient; else the last target stays, EV_PWR_THERMAL names level 2
and the limits of level 2, a power change, hold until reset. -/
def execAvsWriteRetry (ack : Bool) (s : State) : Host.Outcome State Fault Refusal :=
  .next (let s := start s
    if !s.power.avsRetry || decide (runTime s < s.power.avsAt + 1000000) then s
    else if ack then
      transientFault 0x0106 (thermalPayload s.power.thermal s)
        (onPower (fun p => { p with avsNow := p.avsTarget, avsRetry := false }) s)
    else
      let t := onPower (fun p => { p with avsTarget := p.avsNow, avsRetry := false, avsLimit := true }) s
      let t := if limited2 s.power then t else limitChange t
      lastingFault 0x0106 (thermalPayload 2 s) false t)

/-! ### PWR_GET_STATE and PWR_SET_WAKE_SOURCES (R405, R418, R419) -/

/-- The sum of the AON maxima in SLEEP, µA (R405). -/
def aonMaximum (c : WakeConfig) : Nat :=
  1900 + (if c.sources.getLsbD 5 then 50 else 0) + (if c.sources.getLsbD 4 then 150 * popcount 16 c.gpioMask.toNat else 0)

/-- The record of PWR_GET_STATE. -/
def powerRecord (s : State) : Bytes :=
  let p := s.power
  let ua := aonMaximum p.wakeCfg
  leBytes 1 (pwrCode p.state)
    ++ leBytes 1 (bitsNat [p.limp, p.changing, decide (2 ≤ p.thermal), p.aonRc, decide (4000 < ua)])
    ++ leBytes 2 p.domains.toNat ++ leBytes 4 (wakeLast s) ++ leBytes 2 p.wakeCfg.sources.toNat ++ leBytes 2 ua
    ++ wrS 2 p.temperature ++ leBytes 1 p.thermal ++ leBytes 1 0 ++ leBytes 4 p.lastWakeTime ++ leBytes 4 p.wakes
    ++ leBytes 4 p.wakeTransient ++ leBytes 4 p.wakeLasting ++ leBytes 4 p.accessFaults ++ leBytes 4 s.mem.brownouts
    ++ leBytes 4 p.limpEntries

/-- PWR_GET_STATE; it is served while CHANGING is set (R400). -/
def pwrGetState (_ : Ump) (s : State) : Reply := reply (powerRecord s) s

/-- PWR_GET_STATE (R418). -/
def execPwrGetState (m : Ump) (s : State) : Host.Outcome State Fault Refusal := .next (serve 0x0102 pwrGetState m s)

/-- The configuration a payload of PWR_SET_WAKE_SOURCES gives; reserved source bits are ignored (R7). -/
def wakeArgs (u : Ump) : WakeConfig :=
  ⟨u.b8 1, BitVec.ofNat 16 (u.b16 2 % 64), BitVec.ofNat 16 (u.b16 4), BitVec.ofNat 16 (u.b16 6), u.b32 8⟩

/-- The response: the configuration in force, its AON maximum and the over-budget flag. -/
def wakeBytes (op : Nat) (c : WakeConfig) : Bytes :=
  leBytes 1 op ++ leBytes 1 c.target ++ leBytes 2 c.sources.toNat ++ leBytes 2 c.gpioMask.toNat
    ++ leBytes 2 c.gpioPolarity.toNat ++ leBytes 4 c.timer ++ leBytes 4 0 ++ leBytes 2 (aonMaximum c)
    ++ leBytes 1 (b2n (decide (4000 < aonMaximum c)))

/-- PWR_SET_WAKE_SOURCES: in effect at the next arming (R419). -/
def pwrSetWake (u : Ump) (s : State) : Reply :=
  let op := u.b8 0
  let c := wakeArgs u
  judge ([shortOp u 0 1 16, param (decide (1 < op)),
      param (op == 1 && (decide (1 < c.target) || decide (604800 < c.timer) || (c.sources.getLsbD 5 && c.timer == 0)))]
    ++ gate 0x0103 false [] s) s fun _ =>
    if op = 0 then reply (wakeBytes 0 s.power.wakeCfg) s
    else reply (wakeBytes 1 c) (cfgKeep 0x0103 0 0 u.payload (onPower (fun p => { p with wakeCfg := c }) s))

/-- PWR_SET_WAKE_SOURCES (R419). -/
def execPwrSetWakeSources (m : Ump) (s : State) : Host.Outcome State Fault Refusal :=
  .next (serve 0x0103 pwrSetWake m s)

end Sys2Proof.Machine
end

