-- ==== Sys2Proof/Machine/Startup.lean ====
section
/-! DEFINITION. UMP ready: the pool, the configuration bank, the keys and the events of a boot, and the resumption of a wake
(R206, R230, R299, R311, R331, R335, R338, R389, R395, R401, R402, R406, R410, R440, R451, R452). -/
namespace Sys2Proof.Machine

/-! ### Replay of the configuration (R336, R338) -/

/-- The handler that replays a kept record; a BSS is created under the handle in byte 61 of its record. -/
def replayHandler (r : CfgRecord) : Option (Ump → State → Reply) :=
  match r.code with
  | 0x0103 => some pwrSetWake
  | 0x0104 => some pwrSetPasr
  | 0x0201 => some setChannel
  | 0x0204 => some setTxLimits
  | 0x0205 => some setStr
  | 0x0206 => some tunerCtl
  | 0x0301 => some (bssCreate (some (rd r.payload 61 1)))
  | 0x0303 => some bssSetParams
  | 0x0307 => some mloSetPolicy
  | 0x0401 => some schSetWindow
  | 0x0402 => some schSetPolicy
  | 0x0403 => some crnSetReserve
  | 0x0406 => some twtSet
  | 0x0407 => some schSetTurbo
  | 0x0601 => some fwdSetPort
  | 0x0602 => some fwdRouteSet
  | 0x0603 => some fwdAclSet
  | 0x0604 => some fwdNatSet
  | 0x0607 => some ethSetWol
  | 0x0608 => some ethSetMacsec
  | 0x0609 => some fwdVlanSet
  | 0x0701 => some queSetShaper
  | 0x0702 => some queSetPolicer
  | 0x0703 => some queSetGcl
  | 0x0704 => some queSetSampler
  | 0x0706 => some queMap
  | 0x0803 => some timSetPtp
  | 0x0804 => some timSetJumpLimit
  | 0x0A02 => some evrSetPolicy
  | 0x0C01 => some drzSetChannel
  | 0x0C02 => some drzSetCsl
  | 0x0C03 => some drzSetMesh
  | 0x0C05 => some drzNodeSet
  | _ => none

/-- EV_CFG_BANK_INVALID's payload (R344). -/
def bankPayload (b cause code : Nat) (s : State) : Bytes :=
  leBytes 1 b ++ leBytes 1 cause ++ leBytes 2 code ++ leBytes 4 (bank b s).sequence

/-- One record is replayed: refused, it is skipped and reported. A channel's hop begins at once, since nothing is sent; no
command is outstanding for it. -/
def replayOne (b : Nat) (rand : List (Nat × Bytes)) (tune : List (Nat × List (Nat × Nat × Retry))) (s : State) (r : CfgRecord) :
    State :=
  let u : Ump := { via := .pcie 0, length := r.payload.length, payload := r.payload
                   env := { rand := (rand.lookup (rd r.payload 61 1)).getD [] } }
  match replayHandler r with
  | none => raise 0x0906 (bankPayload b 4 r.code s) s
  | some h =>
    let x := h u s
    if !ST.good x.status then raise 0x0906 (bankPayload b 4 r.code s) s
    else
      let t := onMbox (fun m => { m with async := s.mbox.async }) x.st
      if r.code = 0x0201 then
        let n := rd r.payload 0 1
        beginHop n ((tune.lookup n).getD []) (onMem (fun m => { m with shadow := m.shadow ++ [r] }) t)
      else t

/-- EV_CFG_BANK_INVALID for a bank that is neither valid nor erased (R338). -/
def judgeBank (s : State) (b : Nat) : State :=
  match bankCause (bank b s) with
  | some c => raise 0x0906 (bankPayload b c 0 s) s
  | none => s

/-- The active bank is picked and replayed in order (R338). -/
def replayBanks (rand : List (Nat × Bytes)) (tune : List (Nat × List (Nat × Nat × Retry))) (s : State) : State :=
  let s := judgeBank (judgeBank s 0) 1
  let a := pickBank s.mem.bankA s.mem.bankB
  let s := onMem (fun m => { m with active := a }) s
  match a with
  | none => s
  | some b => (bank b s).body.foldl (replayOne b rand tune) s

/-! ### What every start has in common -/

/-- An imported key returns to its slot from its vault copy, a Drizzle key's frame counter at its saved value plus 4096, which
is saved in its turn; a record whose tag fails is discarded and counted (R289, R311, R389). -/
def installKey (bad : List Nat) (s : State) (e : Nat × Bytes) : State :=
  if bad.contains e.1 then
    raise 0x0908 (leBytes 4 0x88000 ++ leBytes 1 1)
      (onSec (fun c => { c with vaultSlots := Tab.del c.vaultSlots e.1, vaultBad := inc 32 c.vaultBad }) s)
  else
    let s := writeSlotKey e.1 e.2 s
    if e.1 / 8192 != 1 then s
    else
      let n := Tab.getD s.drz.savedCounters e.1 0 + 4096
      onDrz (fun d => { d with txCounters := Tab.put d.txCounters e.1 n, savedCounters := Tab.put d.savedCounters e.1 n }) s

/-- Imported keys are re-installed (R311). -/
def installKeys (bad : List Nat) (s : State) : State := s.sec.vaultSlots.foldl (installKey bad) s

/-- Staged contexts whose lifetime ended meanwhile are discarded and counted (R449). -/
def expireContexts (s : State) : State :=
  (s.fleet.staged.filter fun c => decide (c.expires ≤ runTime s)).foldl (fun t c => expireContext c.addr t) s

/-- A wake is complete: DEV_DOORBELL bit 18, and FAULT_OUT_N is released (R243, R410, R413). -/
def wakeDone (us : Nat) (s : State) : State :=
  setDoorbell 18 (onPower (fun p =>
    { p with wake := .none, wakeStep := 0, wakeFailed := false, armed := false, lastWakeTime := us, faultOut := false
             tripped := false, coldWake := false }) s)

/-- Time in STANDBY and SLEEP joins the operating seconds (R335). -/
def addSlept (aon : Nat) (s : State) : State :=
  onMem (fun m => { m with seconds := addWrap 32 m.seconds (aonNs aon / 1000000000) }) s

/-! ### A boot reaches UMP ready (R299, R440) -/

/-- EV_SYS_BOOT's payload (R440). -/
def bootPayload (s : State) : Bytes :=
  leBytes 1 s.power.bootCause ++ leBytes 1 s.power.image ++ leBytes 1 (b2n s.power.fellBack) ++ leBytes 1 0
    ++ leBytes 4 (fwVer s) ++ leBytes 4 s.mem.cycles

/-- Firmware's events of a boot: a fall-back, a trial, a first boot in a new lifecycle state, a floor above the running version
and a brown-out (R291, R406, R451, R452). -/
def bootEvents (s : State) : State :=
  let p := s.power
  let s := if p.fellBack then raise 0x0E01 (leBytes 1 p.bootSlot ++ leBytes 1 p.fellCause ++ leBytes 1 p.bootCauseCode) s else s
  let s := if s.fwu.onTrial then raise 0x0E02 (leBytes 1 p.bootSlot ++ leBytes 1 1 ++ leBytes 2 0 ++ leBytes 4 (fwVer s)) s else s
  let s := if s.sec.bootedLifecycle = s.sec.lifecycle then s
    else raise 0x0501 (leBytes 1 (lifecycleCode s.sec.bootedLifecycle) ++ leBytes 1 (lifecycleCode s.sec.lifecycle))
      (onSec (fun c => { c with bootedLifecycle := c.lifecycle }) s)
  let s := if runningVersion s < s.fleet.floor then setFloor (runningVersion s) 1 s else s
  if s.power.brownoutLatch then
    deliver ⟨0x0104, 0, 0, leBytes 4 s.mem.brownouts, none⟩ (onPower (fun p => { p with brownoutLatch := false }) s)
  else s

/-- The configuration is replayed with every domain on, as in RUN; for the wake target QUIET the slices and Drizzle then power
down (R338, R401). -/
def replayFor (quiet : Bool) (rand : List (Nat × Bytes)) (tune : List (Nat × List (Nat × Nat × Retry))) (s : State) : State :=
  if !quiet then replayBanks rand tune s
  else
    let s := onPower (fun p => { p with domains := 0x7FF }) s
    let s := [0, 1, 2].foldl (fun t n => enterState n .stopped t) s
    let s := drzPowerDown (slicesOff (replayBanks rand tune s))
    onPower (fun p => { p with domains := 0x687 }) s

/-- A boot: the cell pool without the pages retired in it, EV_SYS_BOOT first of all events, the bank, the keys and the
boot's events; then EV_PWR_STATE (R206, R299, R329, R420, R440). -/
def bootReady (aon us poolPages : Nat) (rand : List (Nat × Bytes)) (bad : List Nat)
    (tune : List (Nat × List (Nat × Nat × Retry))) (s : State) : State :=
  let woke := s.power.wake == .resuming
  let tripped := s.power.tripped
  let n := s.mem.installed * 256 - 16 * poolPages
  let s := onQme (fun m => { m with poolSize := n, poolFree := n, poolOwed := 0 }) (onPower (fun p => { p with stage := 4 }) s)
  let s := if woke then addSlept aon s else s
  let s := if woke && !tripped then restoreTime aon s else s
  let s := raise 0x0004 (bootPayload s) s
  let s := replayFor (s.power.state == .quiet) rand tune s
  let s := bootEvents (expireContexts (installKeys bad s))
  let s := raiseReports (if woke then wakeDone us s else s)
  raise 0x0101 (statePayload (pwrCode s.power.wakeFrom) (pwrCode s.power.state) (if woke && !tripped then 1 else 2) s) s

/-! ### A wake resumes (R331, R402, R404, R410) -/

/-- The group keys of the BSSs, erased on the way down, are drawn anew (R308, R311). -/
def redrawGroups (rand : List (Nat × Bytes)) (s : State) : State :=
  s.air.bss.foldl (fun t e =>
    drawGroup e.1 e.2 ((rand.lookup e.1).getD [])
      (onBss e.1 (fun x => { x with groupKey := if x.security = 0 then 0xFFFF else 4096 + 6 * e.1, newGroupKey := none
                                    rekeyWaiting := [], rekeyAt := s.mem.seconds }) t)) s

/-- Firmware resumes from the retained set: device time is restored, the idle times of the kept stations restart, the ports
forward again, and the slices are tuned to the channels they last held (R186, R230, R402). -/
def wakeReadyRun (aon us : Nat) (rand : List (Nat × Bytes)) (bad : List Nat) (s : State) : State :=
  let quiet := s.power.armedCfg.target == 1
  let old := pwrCode s.power.state
  let lostDrz := !drzStays s.power.state s
  let s := addSlept aon (restoreTime aon s)
  let s := onPower (fun p => { p with
    state := if quiet then .quiet else .run, domains := if quiet then 0x687 else 0x7FF, stage := 4 }) s
  let s := onAir (fun a => { a with stations := Tab.mapVals (fun x => { x with lastFrame := s.mem.seconds }) a.stations }) s
  let s := settleXoff (onWire (fun w => { w with ports := Tab.mapVals (fun p => { p with notReady := false }) w.ports }) s)
  let s := installKeys bad (redrawGroups rand s)
  let s := if quiet then (if lostDrz then s else drzPowerDown s)
    else if lostDrz then restoreNodes (slicesOn s) else slicesOn s
  let s := raiseReports (wakeDone us (expireContexts s))
  raise 0x0101 (statePayload old (pwrCode s.power.state) 1 s) s

/-- UMP_READY (R299, R410): commands that wait are served from here on. -/
def execUmpReady (aon wakeUs poolPages : Nat) (rand : List (Nat × Bytes)) (badVault : List Nat)
    (tune : List (Nat × List (Nat × Nat × Retry))) (s : State) : Host.Outcome State Fault Refusal :=
  .next (let s := start s
    if s.power.stage != 3 then s
    else
      let t := if s.power.state == .standby || s.power.state == .sleep then wakeReadyRun aon wakeUs rand badVault s
        else bootReady aon wakeUs poolPages rand badVault tune s
      drain t.mbox.cmdQueue t)

end Sys2Proof.Machine
end

