-- ==== Sys2Proof/Machine/System.lean ====
section
/-! DEFINITION. System commands, aborts, diagnostics, tests, the operating second and the periods of limited events
(R105, R168, R270, R278 to R283, R285, R335, R437 to R439). -/
namespace Sys2Proof.Machine

/-! ### SYS_GET_INFO and SYS_GET_STATUS -/

/-- The record of SYS_GET_INFO (R279). -/
def infoRecord (s : State) : Bytes :=
  let trained := s.mem.channels.all fun c => c.2.trained
  leBytes 4 0x96320201 ++ leBytes 4 (fwVer s) ++ leBytes 2 (umpVer s) ++ leBytes 1 s.power.devIdx
    ++ leBytes 1 (lifecycleCode s.sec.lifecycle) ++ leBytes 1 s.power.stage ++ leBytes 1 s.power.image ++ leBytes 2 0x1FF
    ++ fit 8 s.sec.serial ++ leBytes 4 (if trained then s.mem.installed else 0)
    ++ leBytes 2 (if fwVer s = 0 then 0 else formatWritten (runningVersion s)) ++ leBytes 2 0
    ++ leBytes 4 s.sec.antiRollback ++ leBytes 4 s.mem.seconds ++ leBytes 4 s.mem.cycles ++ beBytes 6 s.sec.mgtMac ++ leBytes 2 0

/-- SYS_GET_INFO answers its record; it is served while a transition runs. -/
def sysGetInfo (_ : Ump) (s : State) : Reply := reply (infoRecord s) s

/-- SYS_GET_INFO (R279). -/
def execSysGetInfo (m : Ump) (s : State) : Host.Outcome State Fault Refusal := .next (serve 0x0001 sysGetInfo m s)

/-- Ports in UP, one bit each. -/
def portsUp (s : State) : Nat := bitsNat ([0, 1, 2, 3, 4].map fun p => (port p s).state == .up)

/-- The record of SYS_GET_STATUS (R281). -/
def statusRecord (s : State) : Bytes :=
  let m := s.mbox
  leBytes 1 (pwrCode s.power.state)
    ++ leBytes 1 (bitsNat [s.power.limp, s.clock.isSet, m.faultCode != 0, s.sec.debugScope != 0, !s.fleet.keys.isEmpty])
    ++ leBytes 2 m.async.length ++ leBytes 4 m.heartbeat ++ leBytes 8 (deviceTime s) ++ leBytes 4 s.mem.seconds
    ++ wrS 2 s.power.temperature ++ leBytes 2 m.faultCode
    ++ (s.radio.slices.toList.map fun x => leBytes 1 (sliceCode x.state)).flatten ++ leBytes 1 (portsUp s)
    ++ leBytes 2 (s.air.stations.filter fun e => decide (2 ≤ e.2.state)).length
    ++ leBytes 2 m.pcieDroppedAll ++ leBytes 2 m.sinkDroppedAll ++ leBytes 2 0 ++ leBytes 4 m.served ++ leBytes 4 m.transient
    ++ leBytes 4 m.lasting

/-- SYS_GET_STATUS answers its record; it is served while a transition runs. -/
def sysGetStatus (_ : Ump) (s : State) : Reply := reply (statusRecord s) s

/-- SYS_GET_STATUS (R281). -/
def execSysGetStatus (m : Ump) (s : State) : Host.Outcome State Fault Refusal := .next (serve 0x0003 sysGetStatus m s)

/-! ### SYS_RESET -/

/-- SYS_RESET is judged; the reset follows its response. -/
def sysReset (u : Ump) (s : State) : Reply :=
  judge ([short u 4, param (u.b16 2 != 0xC1A0 || (u.b8 0 != 1 && u.b8 0 != 2))] ++ gate 0x0002 false [] s) s fun _ => reply [] s

/-- The reset of the kind named (R280, R416). -/
def resetAfter (u : Ump) (s : State) : State := if u.b8 0 = 1 then deviceReset u.env.boot s else fullReset u.env.boot s

/-- SYS_RESET (R280). -/
def execSysReset (m : Ump) (s : State) : Host.Outcome State Fault Refusal :=
  .next (serveThen 0x0002 sysReset (resetAfter m) m s)

/-! ### SYS_SET_EVENT_SINK -/

/-- The sink in force, as SYS_SET_EVENT_SINK answers it. -/
def sinkReply (op : Nat) (s : State) : Bytes :=
  leBytes 1 op ++ leBytes 1 0 ++ beBytes 6 (s.mbox.sink.getD 0) ++ leBytes 2 s.mbox.sinkMask.toNat ++ leBytes 2 0

/-- The sink after SYS_SET_EVENT_SINK: a set keeps the queue for the new sink, a clear discards it (R282). -/
def setSink (u : Ump) (s : State) : State :=
  match u.b8 0 with
  | 1 => onMbox (fun m => { m with sink := some (rdBe u.data 2 6), sinkMask := BitVec.ofNat 16 (u.b16 8) }) s
  | 2 => onMbox (fun m => { m with sink := none, sinkMask := 0xFFFF, sinkQueue := [], sinkDropped := 0 }) s
  | _ => s

/-- SYS_SET_EVENT_SINK: read, set or clear. -/
def setEventSink (u : Ump) (s : State) : Reply :=
  let op := u.b8 0
  judge ([shortOp u 0 2 12, param (decide (2 < op)), param (op == 1 && notUnicast (field u.data 2 6))]
      ++ gate 0x0004 false [] s) s fun _ =>
    let t := setSink u s
    reply (sinkReply op t) t

/-- SYS_SET_EVENT_SINK (R282). -/
def execSysSetEventSink (m : Ump) (s : State) : Host.Outcome State Fault Refusal := .next (serve 0x0004 setEventSink m s)

/-! ### SYS_ABORT -/

/-- The same transport; over Ethernet the same source MAC address as well (R252). -/
def sameSender : Via → Via → Bool
  | .pcie _, .pcie _ => true
  | .mgt a, .mgt b => a == b
  | .uart, .uart => true
  | _, _ => false

/-- The command an abort finds: the most recently started one with the tag from the same sender (R252). -/
def abortTarget (v : Via) (tag : Nat) (s : State) : Option AsyncCmd :=
  s.mbox.async.reverse.find? fun a => a.tag == tag && sameSender a.via v

/-- Management frames that a test picks leave every slice unsent. -/
def dropOwned (pick : MgmtFrame → Bool) (s : State) : State :=
  onAir (fun a => { a with macs := a.macs.map fun m => { m with mgmt := m.mgmt.filter fun f => !pick f } }) s

/-- A queued DSP_RUN leaves its class, and the capture buffer it locked is free. -/
def dropKernel (a : AsyncCmd) (s : State) : State :=
  let own (i : WorkItem) : Bool := match i.work with | .kernel _ v t => v == a.via && t == a.tag | _ => false
  let p := a.payload
  settleClass 12 (onTds (fun d => { d with items := d.items.filter fun i => !own i })
    (onDsp (fun d => { d with locked := if bit (rd p 1 1) 0 then d.locked.erase (rd p 2 1) else d.locked }) s))

/-- A command still before its point of R270 is stopped, leaves nothing changed, and ends with ST_ABORTED (R35, R133, R278). -/
def abortNow (a : AsyncCmd) (s : State) : State :=
  let p := a.payload
  match a.code with
  | 0x0101 => endAsync a ST.aborted [] (onPower (fun x => { x with target := none }) s)
  | 0x0201 =>
    let n := rd p 0 1
    let t := onSlice n (fun x => { x with tuning := none }) s
    endSetChannel n ST.aborted (channelDone n false false 0 0 t) false t
  | 0x0203 => withdrawCal (rd p 0 1) ST.aborted s
  | 0x020B => endAsync a ST.aborted [] (onSlice (rd p 0 1) (fun x => { x with capture := none }) s)
  | 0x0302 =>
    let b := rd p 0 1
    let t := dropOwned (fun f => f.owner == 2 && (station f.station s).any fun x => x.links.toList.contains b) s
    endAsync a ST.aborted (leBytes 1 7) (onBss b (fun x => { x with deleting := none }) t)
  | 0x0305 =>
    let h := rd p 0 2
    let t := dropOwned (fun f => f.owner == 1 && f.station == h) s
    endAsync a ST.aborted (leBytes 2 h ++ leBytes 1 7)
      (onStation h (fun x => { x with state := (x.leaving.map (·.2.2)).getD x.state, leaving := none }) t)
  | 0x0B02 => endAsync a ST.aborted [] (dropKernel a s)
  | 0x0C04 =>
    let own (f : DrzFrame) : Bool := f.owner == some (a.via, a.tag)
    let t := (s.drz.queue.filter own).foldl (fun t f => drzLeave f t)
      (onDrz (fun d => { d with queue := d.queue.filter fun f => !own f }) s)
    endAsync a ST.aborted [] t
  | _ => endAsync a ST.aborted [] s

/-- The response payload of SYS_ABORT (R283). -/
def abortReply (outcome code : Nat) : Bytes := leBytes 1 outcome ++ leBytes 1 0 ++ leBytes 2 code

/-- The station whose frame an abort waits for; 0xFFFF none. -/
def abortStation (a : AsyncCmd) : Nat := if a.code = 0x0305 then rd a.payload 0 2 else 0xFFFF

/-- The abort waits for a final transmit status: its slot stays Queued and it holds no place in the queue (R133). -/
def waitAbort (u : Ump) (a : AsyncCmd) (s : State) : State :=
  onMbox (fun m => { m with
    aborts := m.aborts ++ [⟨u.via, u.tag, a.code, a.tag, abortStation a⟩]
    slots := match u.via with | .pcie n => m.slots.set n .queued | _ => m.slots }) s

/-- SYS_ABORT: stopped, past its point, or not found (R133, R278). -/
def sysAbort (u : Ump) (s : State) : Reply :=
  judge (short u 4 :: gate 0x0005 false [] s) s fun _ =>
    match abortTarget u.via (u.b16 0) s with
    | none => ⟨s, ST.nothingToAbort, abortReply 0 0, true⟩
    | some a =>
      if !a.past then reply (abortReply 0 a.code) (abortNow a s)
      else if a.code = 0x0302 ∨ a.code = 0x0305 then ⟨waitAbort u a s, ST.nothingToAbort, [], false⟩
      else ⟨s, ST.nothingToAbort, abortReply 0 a.code, true⟩

/-- SYS_ABORT (R278). -/
def execSysAbort (m : Ump) (s : State) : Host.Outcome State Fault Refusal := .next (serve 0x0005 sysAbort m s)

/-! ### DIAG_RUN (R437) -/

/-- The async command is accepted and its test starts at once: it can no longer be aborted (R270). -/
def testing (u : Ump) (code : Nat) (locks : List Obj) (s : State) : Reply :=
  pend (passPoint code (fun _ => true) (accept u code locks s))

/-- DIAG_RUN up to ST_PENDING. -/
def diagRun (u : Ump) (s : State) : Reply :=
  judge ([short u 4, param (u.b8 0 % 32 == 0)] ++ gate 0x0A04 true [] s) s fun _ => testing u 0x0A04 [] s

/-- DIAG_RUN (R437). -/
def execDiagRun (m : Ump) (s : State) : Host.Outcome State Fault Refusal := .next (serve 0x0A04 diagRun m s)

/-- A mismatch in the Felt store: its unit, polynomial, result and expected value (R344, R437). -/
def feltMismatch (s : State) (e : Nat × Nat × Nat × Nat) : State :=
  raise 0x0907 (leBytes 1 e.1 ++ leBytes 1 e.2.1 ++ leBytes 2 0 ++ leBytes 4 e.2.2.1 ++ leBytes 4 e.2.2.2) s

/-- A bank that fails its check (R338, R437). -/
def bankFails (s : State) (b : Nat) : State := raise 0x0906 (bankPayload b ((bankCause (bank b s)).getD 1) 0 s) s

/-- A resident entry that differs from its DRAM copy is an uncorrectable read: transient, or the entry is lost (R165, R437). -/
def entryDiffers (s : State) (e : Nat × Nat × Bool) : State :=
  let s := eccRetry e.2.1 0 0 e.2.2 s
  if e.2.2 then s else loseEntry e.1 s

/-- DIAG_RUN ends with its findings; those of a check that was not selected are none (R437, R439). -/
def diagDone (passed : Nat) (felt : List (Nat × Nat × Nat × Nat)) (banks : List Nat) (corrected : Nat) (crystal pps : Int)
    (entries : List (Nat × Nat × Bool)) (s : State) : State :=
  match firstAsync 0x0A04 s with
  | none => s
  | some a =>
    let run := rd a.payload 0 1 % 32
    let felt := if bit run 1 then felt else []
    let banks := if bit run 1 then banks else []
    let entries := if bit run 4 then entries else []
    let s := entries.foldl entryDiffers (banks.foldl bankFails (felt.foldl feltMismatch s))
    endAsync a ST.ok (leBytes 1 run ++ leBytes 1 (passed &&& run) ++ leBytes 2 0 ++ leBytes 4 felt.length
      ++ leBytes 4 (if bit run 2 then corrected else 0) ++ wrS 4 (if bit run 3 then crystal else 0)
      ++ wrS 4 (if bit run 3 && s.clock.ppsPresent then pps else 0) ++ leBytes 4 entries.length) s

/-- DIAG_RUN_DONE (R437). -/
def execDiagRunDone (passed : Nat) (felt : List (Nat × Nat × Nat × Nat)) (banks : List Nat) (corrected : Nat)
    (crystal pps : Int) (entries : List (Nat × Nat × Bool)) (s : State) : Host.Outcome State Fault Refusal :=
  .next (diagDone passed felt banks corrected crystal pps entries (start s))

/-! ### TST_BIST and TST_LOOPBACK (R438) -/

/-- The domain of a BIST target: PD_LDA, PD_DSP, PD_PKT, and PD_CORE for the Crown. -/
def bistDomain (k : Nat) : Nat := match k with | 0 => 6 | 1 => 7 | 2 => 2 | _ => 1

/-- The prerequisite of a BIST holds. -/
def bistReady (k : Nat) (s : State) : Bool :=
  (s.radio.slices.toList.all fun x => x.state == .stopped) && (k != 1 || (firstAsync 0x0B02 s).isNone)
    && (k != 2 || [0, 1, 2, 3, 4].all fun p => (port p s).state == .adminDown)

/-- The Crown's dirty entries are written back and its slots are free for the test (R159, R438). -/
def crownFlush (s : State) : State :=
  onMls (fun m =>
    { m with crown := [], queue := m.queue.filter (·.fetch), flight := m.flight.filter (·.fetch)
             stats := { m.stats with writebacks := addWrap 64 m.stats.writebacks (m.crown.filter (·.dirty)).length } }) s

/-- TST_BIST up to ST_PENDING: the Crown's entries are written back first. -/
def tstBist (u : Ump) (s : State) : Reply :=
  let k := u.b8 0
  let locks := [Obj.slice 0, .slice 1, .slice 2, .bist k]
  judge ([short u 1, param (decide (3 < k)), off (bistDomain k) s]
    ++ gate 0x0F01 true (if k = 2 then locks ++ [.port 0, .port 1, .port 2, .port 3, .port 4] else locks) s
    ++ [(!bistReady k s, ST.badState)]) s fun _ =>
    testing u 0x0F01 locks (if k = 3 then crownFlush s else s)

/-- TST_BIST (R438). -/
def execTstBist (m : Ump) (s : State) : Host.Outcome State Fault Refusal := .next (serve 0x0F01 tstBist m s)

/-- TST_LOOPBACK up to ST_PENDING. -/
def tstLoopback (u : Ump) (s : State) : Reply :=
  let p := u.b8 0
  let point := u.b8 1
  let n := u.b32 4
  judge ([short u 8, badPort p, off 9 s,
      param (decide (2 < point) || (point != 0 && p == 4) || decide (u.b16 2 < 64) || decide (9216 < u.b16 2) || n == 0
        || decide ((if point = 2 then 3600 else 1000000) < n))]
    ++ gate 0x0F02 true [.port p] s ++ [((port p s).state != .adminDown, ST.badState)]) s fun _ =>
    testing u 0x0F02 [.port p] s

/-- TST_LOOPBACK (R438). -/
def execTstLoopback (m : Ump) (s : State) : Host.Outcome State Fault Refusal := .next (serve 0x0F02 tstLoopback m s)

/-- The frames of one queue that lie in packet SRAM are dropped. -/
def sramDrop (s : State) (q : Nat) : State :=
  let l := (queue q s).frames.filter (·.sram)
  l.foldl (fun t f => endFrame q f 4 t) (onQueue q (fun i => { i with frames := i.frames.filter fun f => !f.sram }) s)

/-- The cells of packet SRAM are freed after its test (R438). -/
def sramFlush (s : State) : State :=
  let s := (Tab.keys s.qme.queues).foldl sramDrop s
  let keep (l : List Frame) : List Frame := l.filter fun f => !f.sram
  let s := ((looseFrames s.wire).filter (·.sram)).foldl (fun t f => injectFate f.inject 4 (rawTime t) t) s
  settleXoff (settleShapers (onWire (fun w => { w with
    lookup := keep w.lookup, held := w.held.map fun x => { x with frames := keep x.frames }
    nextHops := w.nextHops.map fun n => { n with waiting := keep n.waiting }, sramFree := 32768
    ports := Tab.mapVals (fun p => { p with
      cells := List.replicate 8 0, sending := p.sending.filter fun x => !x.2.sram
      icv := p.icv.filter fun x => !x.1.sram }) w.ports }) s))

/-- What a BIST leaves (R438): Nimbus memories zero, cells freed; the Crown refetches at the next commit. -/
def bistAfter (k : Nat) (s : State) : State :=
  match k with
  | 1 => onDsp (fun d => { d with cores := Tab.mapVals (fun c => { NimbusCore.reset with run := c.run }) d.cores }) s
  | 2 => sramFlush s
  | _ => s

/-- A test ends: its 0x00C8 record is written and its result reported (R438, R439). -/
def tstDone (loopback fail : Bool) (place addr sent received errored : Nat) (s : State) : State :=
  let code := if loopback then 0x0F02 else 0x0F01
  match firstAsync code s with
  | none => s
  | some a =>
    let s := record 0x00C8 (leBytes 2 code ++ leBytes 2 (b2n fail)) false false false [] s
    if loopback then endAsync a ST.ok (leBytes 4 sent ++ leBytes 4 received ++ leBytes 4 errored) s
    else
      let k := rd a.payload 0 1
      endAsync a ST.ok (leBytes 1 k ++ leBytes 1 (b2n fail) ++ leBytes 2 (if fail then place else 0)
        ++ leBytes 4 (if fail then addr else 0)) (bistAfter k s)

/-- TST_DONE (R438). -/
def execTstDone (loopback fail : Bool) (place addr sent received errored : Nat) (s : State) :
    Host.Outcome State Fault Refusal :=
  .next (tstDone loopback fail place addr sent received errored (start s))

/-! ### The operating second (R335) -/

/-- EV_RAD_FALSE_DETECT for a slice whose false detections passed 2000 in the second (R105). -/
def falseDetects (s : State) (n : Nat) : State :=
  let x := slice n s
  if 2000 < x.counters.falseThisSecond then
    raiseLimited 0x0280 n (leBytes 1 n ++ leBytes 2 (min 65535 x.counters.falseThisSecond) ++ wrS 1 x.acqNow.detection) s
  else s

/-- EV_SCH_PLAN_FULL where more than half the windows of the second were plan-full (R168). -/
def planFullCheck (s : State) : State :=
  let w := s.mls.fullNow
  if w.1 < 2 * w.2.1 then raiseLimited 0x0404 0 (leBytes 2 w.2.2 ++ leBytes 2 w.2.1) s else s

/-- The counts "of the second" begin anew. -/
def clearSecond (s : State) : State :=
  let s := onSec (fun c => { c with failsNow := [] }) s
  let s := onWire (fun w => { w with
    refusedNow := 0, icmpNow := 0, pools := Tab.mapVals (fun p => { p with failedNow := 0 }) w.pools
    ports := Tab.mapVals (fun p => { p with holdDropNow := 0, partner := false }) w.ports
    macs := w.macs.map fun e => { e with moves := 0 } }) s
  let s := onTds (fun t => { t with stats := Tab.mapVals (fun c => { c with refusedNow := 0 }) t.stats }) s
  let s := onQme (fun m => { m with poolDropNow := 0, lostNow := 0 }) s
  let s := onAir (fun a => { a with stations := Tab.mapVals (fun x => { x with secNow := (0, 0, 0) }) a.stations }) s
  let s := onDrz (fun d => { d with secNow := (0, 0, 0), fullNow := (0, 0) }) s
  let s := onLda (fun l => { l with droppedNow := 0, peak := l.queue.length }) s
  let s := onMls (fun m => { m with holdFullNow := 0, fullNow := (0, 0, 0) }) s
  let s := onMem (fun m => { m with correctedNow := 0 }) s
  [0, 1, 2].foldl (fun t n => onSlice n (fun x => { x with
    denialsNow := 0, counters := { x.counters with falseThisSecond := 0 } }) t) s

/-- A frequency sample per second while LOCKED; the last 64 are kept (R236). -/
def sampleFreq (s : State) : State :=
  if s.clock.servo != .locked then s
  else onClock (fun c => { c with lockedFreqs := (c.freq :: c.lockedFreqs).take 64 }) s

/-- An operating second passes in RUN and QUIET: the counter advances, the counts of the second and the classes still full are judged, the counts begin anew, and
every 24 h the corrected errors of a page do too (R105, R168, R236, R328, R335). -/
def secondTick (s : State) : State :=
  if (s.power.state != .run && s.power.state != .quiet) || !powered 1 s then s
  else
    let s := onMem (fun m => { m with seconds := inc 32 m.seconds }) s
    let s := (List.range 13).foldl (fun t c => fullEvent c t) s
    let s := clearSecond (planFullCheck ([0, 1, 2].foldl falseDetects s))
    let s := if s.mem.seconds % 86400 = 0 then onMem (fun m => { m with pageErrors := [] }) s else s
    sampleFreq s

/-- OPERATING_SECOND_TICK (R335). -/
def execOperatingSecondTick (s : State) : Host.Outcome State Fault Refusal := .next (secondTick (start s))

/-- EVENT_SUPPRESSION_PERIOD (R285): the next occurrence for the object is raised. -/
def execEventSuppressionPeriod (code obj : Nat) (s : State) : Host.Outcome State Fault Refusal :=
  .next (onMbox (fun m => { m with limited := m.limited.filter fun e => e != (code, obj) }) (start s))

end Sys2Proof.Machine
end

