-- ==== Sys2Proof/Machine/Dispatch.lean ====
section
/-! DEFINITION. One arm per command: each a direct call of its meaning, or a rejection by name. -/
namespace Sys2Proof.Machine

/-- The command's effect on everything but the queue of waiting commands. -/
def exec (i : Instr) (s : State) : Host.Outcome State Fault Refusal :=
  match i with
  | .sysGetInfo m => Sys2Proof.Machine.execSysGetInfo m s
  | .sysReset m => Sys2Proof.Machine.execSysReset m s
  | .sysGetStatus m => Sys2Proof.Machine.execSysGetStatus m s
  | .sysSetEventSink m => Sys2Proof.Machine.execSysSetEventSink m s
  | .sysAbort m => Sys2Proof.Machine.execSysAbort m s
  | .pwrSetState m => Sys2Proof.Machine.execPwrSetState m s
  | .pwrGetState m => Sys2Proof.Machine.execPwrGetState m s
  | .pwrSetWakeSources m => Sys2Proof.Machine.execPwrSetWakeSources m s
  | .pwrSetPasr m => Sys2Proof.Machine.execPwrSetPasr m s
  | .radSetChannel m => Sys2Proof.Machine.execRadSetChannel m s
  | .radGetStatus m => Sys2Proof.Machine.execRadGetStatus m s
  | .radCalibrate m => Sys2Proof.Machine.execRadCalibrate m s
  | .radSetTxLimits m => Sys2Proof.Machine.execRadSetTxLimits m s
  | .radSetStr m => Sys2Proof.Machine.execRadSetStr m s
  | .radTunerCtl m => Sys2Proof.Machine.execRadTunerCtl m s
  | .radLoadRegdomain m => Sys2Proof.Machine.execRadLoadRegdomain m s
  | .radSelfTest m => Sys2Proof.Machine.execRadSelfTest m s
  | .radClearTxLock m => Sys2Proof.Machine.execRadClearTxLock m s
  | .radLockLlt m => Sys2Proof.Machine.execRadLockLlt m s
  | .radCaptureIq m => Sys2Proof.Machine.execRadCaptureIq m s
  | .bssCreate m => Sys2Proof.Machine.execBssCreate m s
  | .bssDelete m => Sys2Proof.Machine.execBssDelete m s
  | .bssSetParams m => Sys2Proof.Machine.execBssSetParams m s
  | .staGet m => Sys2Proof.Machine.execStaGet m s
  | .staDisconnect m => Sys2Proof.Machine.execStaDisconnect m s
  | .staFlushQueue m => Sys2Proof.Machine.execStaFlushQueue m s
  | .mloSetLinkPolicy m => Sys2Proof.Machine.execMloSetLinkPolicy m s
  | .cumulusSet m => Sys2Proof.Machine.execCumulusSet m s
  | .staList m => Sys2Proof.Machine.execStaList m s
  | .schSetWindow m => Sys2Proof.Machine.execSchSetWindow m s
  | .schSetPolicy m => Sys2Proof.Machine.execSchSetPolicy m s
  | .crnSetReserve m => Sys2Proof.Machine.execCrnSetReserve m s
  | .crnPin m => Sys2Proof.Machine.execCrnPin m s
  | .crnGetStats m => Sys2Proof.Machine.execCrnGetStats m s
  | .twtSet m => Sys2Proof.Machine.execTwtSet m s
  | .schSetTurbo m => Sys2Proof.Machine.execSchSetTurbo m s
  | .secGetIdentity m => Sys2Proof.Machine.execSecGetIdentity m s
  | .secLoadSealed m => Sys2Proof.Machine.execSecLoadSealed m s
  | .secSetRadius m => Sys2Proof.Machine.execSecSetRadius m s
  | .secKeyImport m => Sys2Proof.Machine.execSecKeyImport m s
  | .secKeyErase m => Sys2Proof.Machine.execSecKeyErase m s
  | .secCipherJob m => Sys2Proof.Machine.execSecCipherJob m s
  | .secAuthChallenge m => Sys2Proof.Machine.execSecAuthChallenge m s
  | .secDebugUnlock m => Sys2Proof.Machine.execSecDebugUnlock m s
  | .fwdSetPort m => Sys2Proof.Machine.execFwdSetPort m s
  | .fwdRouteSet m => Sys2Proof.Machine.execFwdRouteSet m s
  | .fwdAclSet m => Sys2Proof.Machine.execFwdAclSet m s
  | .fwdNatSet m => Sys2Proof.Machine.execFwdNatSet m s
  | .fwdFlowQuery m => Sys2Proof.Machine.execFwdFlowQuery m s
  | .ethGetCounters m => Sys2Proof.Machine.execEthGetCounters m s
  | .ethSetWol m => Sys2Proof.Machine.execEthSetWol m s
  | .ethSetMacsec m => Sys2Proof.Machine.execEthSetMacsec m s
  | .fwdVlanSet m => Sys2Proof.Machine.execFwdVlanSet m s
  | .queSetShaper m => Sys2Proof.Machine.execQueSetShaper m s
  | .queSetPolicer m => Sys2Proof.Machine.execQueSetPolicer m s
  | .queSetGcl m => Sys2Proof.Machine.execQueSetGcl m s
  | .queSetSampler m => Sys2Proof.Machine.execQueSetSampler m s
  | .queReadSamples m => Sys2Proof.Machine.execQueReadSamples m s
  | .queMap m => Sys2Proof.Machine.execQueMap m s
  | .timGet m => Sys2Proof.Machine.execTimGet m s
  | .timAdjust m => Sys2Proof.Machine.execTimAdjust m s
  | .timSetPtp m => Sys2Proof.Machine.execTimSetPtp m s
  | .timSetJumpLimit m => Sys2Proof.Machine.execTimSetJumpLimit m s
  | .memGetInfo m => Sys2Proof.Machine.execMemGetInfo m s
  | .cfgCommit m => Sys2Proof.Machine.execCfgCommit m s
  | .cfgRead m => Sys2Proof.Machine.execCfgRead m s
  | .cvuRun m => Sys2Proof.Machine.execCvuRun m s
  | .evrGetInfo m => Sys2Proof.Machine.execEvrGetInfo m s
  | .evrSetPolicy m => Sys2Proof.Machine.execEvrSetPolicy m s
  | .evrClear m => Sys2Proof.Machine.execEvrClear m s
  | .diagRun m => Sys2Proof.Machine.execDiagRun m s
  | .evrRead m => Sys2Proof.Machine.execEvrRead m s
  | .dspLoadKernel m => Sys2Proof.Machine.execDspLoadKernel m s
  | .dspRun m => Sys2Proof.Machine.execDspRun m s
  | .tdsSetHostRing m => Sys2Proof.Machine.execTdsSetHostRing m s
  | .tdsGetStats m => Sys2Proof.Machine.execTdsGetStats m s
  | .drzSetChannel m => Sys2Proof.Machine.execDrzSetChannel m s
  | .drzSetCsl m => Sys2Proof.Machine.execDrzSetCsl m s
  | .drzSetMesh m => Sys2Proof.Machine.execDrzSetMesh m s
  | .drzSend m => Sys2Proof.Machine.execDrzSend m s
  | .drzNodeSet m => Sys2Proof.Machine.execDrzNodeSet m s
  | .fltGetInfo m => Sys2Proof.Machine.execFltGetInfo m s
  | .fltSetFloor m => Sys2Proof.Machine.execFltSetFloor m s
  | .fltContextExport m => Sys2Proof.Machine.execFltContextExport m s
  | .fltContextImport m => Sys2Proof.Machine.execFltContextImport m s
  | .fltSetKey m => Sys2Proof.Machine.execFltSetKey m s
  | .fwuBegin m => Sys2Proof.Machine.execFwuBegin m s
  | .fwuData m => Sys2Proof.Machine.execFwuData m s
  | .fwuCommit m => Sys2Proof.Machine.execFwuCommit m s
  | .fwuActivate m => Sys2Proof.Machine.execFwuActivate m s
  | .tstBist m => Sys2Proof.Machine.execTstBist m s
  | .tstLoopback m => Sys2Proof.Machine.execTstLoopback m s
  | .hostDoorbellWrite value => Sys2Proof.Machine.execHostDoorbellWrite value s
  | .devDoorbellClear value => Sys2Proof.Machine.execDevDoorbellClear value s
  | .irqMaskWrite value => Sys2Proof.Machine.execIrqMaskWrite value s
  | .evtConsWrite value => Sys2Proof.Machine.execEvtConsWrite value s
  | .resetCtlDeviceReset value boot => Sys2Proof.Machine.execResetCtlDeviceReset value boot s
  | .resetCtlFullReset value boot => Sys2Proof.Machine.execResetCtlFullReset value boot s
  | .evrCursorWrite value => Sys2Proof.Machine.execEvrCursorWrite value s
  | .evrWindowAutoAdvance => Sys2Proof.Machine.execEvrWindowAutoAdvance s
  | .ringProdWrite ring value => Sys2Proof.Machine.execRingProdWrite ring value s
  | .ringConsWrite ring value => Sys2Proof.Machine.execRingConsWrite ring value s
  | .ringEnable ring value => Sys2Proof.Machine.execRingEnable ring value s
  | .ringDisable ring value => Sys2Proof.Machine.execRingDisable ring value s
  | .ringDropsRead ring => Sys2Proof.Machine.execRingDropsRead ring s
  | .cvuInit unit value => Sys2Proof.Machine.execCvuInit unit value s
  | .cvuDataWrite unit data => Sys2Proof.Machine.execCvuDataWrite unit data s
  | .cvuFinish unit value => Sys2Proof.Machine.execCvuFinish unit value s
  | .registerWrite space offset width value boot => Sys2Proof.Machine.execRegisterWrite space offset width value boot s
  | .accessOffBlock domain addr src write => Sys2Proof.Machine.execAccessOffBlock domain addr src write s
  | .powerOnReset boot => Sys2Proof.Machine.execPowerOnReset boot s
  | .vinAonLoss => Sys2Proof.Machine.execVinAonLoss s
  | .aonBrownout boot => Sys2Proof.Machine.execAonBrownout boot s
  | .perstNAssert => Sys2Proof.Machine.execPerstNAssert s
  | .functionLevelReset boot => Sys2Proof.Machine.execFunctionLevelReset boot s
  | .test0Hold cause => Sys2Proof.Machine.execTest0Hold cause s
  | .pciD3hotEntry => Sys2Proof.Machine.execPciD3hotEntry s
  | .pciD0Return => Sys2Proof.Machine.execPciD0Return s
  | .mpxRelease => Sys2Proof.Machine.execMpxRelease s
  | .umpReady aon wakeUs poolPages rand badVault tune => Sys2Proof.Machine.execUmpReady aon wakeUs poolPages rand badVault tune s
  | .fwuTrialReset boot => Sys2Proof.Machine.execFwuTrialReset boot s
  | .lifecycleReset boot => Sys2Proof.Machine.execLifecycleReset boot s
  | .hostWakeNWake same => Sys2Proof.Machine.execHostWakeNWake same s
  | .gpioWake gpio high same => Sys2Proof.Machine.execGpioWake gpio high same s
  | .aonTimerWake aon same => Sys2Proof.Machine.execAonTimerWake aon same s
  | .wakePatternMatch port frame same => Sys2Proof.Machine.execWakePatternMatch port frame same s
  | .magicPacketMatch port frame same => Sys2Proof.Machine.execMagicPacketMatch port frame same s
  | .drizzleWakeFrame f same => Sys2Proof.Machine.execDrizzleWakeFrame f same s
  | .mgtHostWakeFrame index same => Sys2Proof.Machine.execMgtHostWakeFrame index same s
  | .pwrTransitionBegin levels => Sys2Proof.Machine.execPwrTransitionBegin levels s
  | .wakeStepReady boot => Sys2Proof.Machine.execWakeStepReady boot s
  | .wakeStepTimeout boot => Sys2Proof.Machine.execWakeStepTimeout boot s
  | .wakeRetryDelayExpiry => Sys2Proof.Machine.execWakeRetryDelayExpiry s
  | .limpFirmwareReady aon => Sys2Proof.Machine.execLimpFirmwareReady aon s
  | .thermalLevelChange sensor temp => Sys2Proof.Machine.execThermalLevelChange sensor temp s
  | .thermalTrip sensor temp => Sys2Proof.Machine.execThermalTrip sensor temp s
  | .thermalRearm temp => Sys2Proof.Machine.execThermalRearm temp s
  | .xt32Loss => Sys2Proof.Machine.execXt32Loss s
  | .xt32Started => Sys2Proof.Machine.execXt32Started s
  | .xt32StartTimeout => Sys2Proof.Machine.execXt32StartTimeout s
  | .avsPmbusStep target ack => Sys2Proof.Machine.execAvsPmbusStep target ack s
  | .avsWriteRetry ack => Sys2Proof.Machine.execAvsWriteRetry ack s
  | .heartbeatTick => Sys2Proof.Machine.execHeartbeatTick s
  | .operatingSecondTick => Sys2Proof.Machine.execOperatingSecondTick s
  | .timeNsWrap => Sys2Proof.Machine.execTimeNsWrap s
  | .ppsOutSecond => Sys2Proof.Machine.execPpsOutSecond s
  | .ppsOutWidthEnd => Sys2Proof.Machine.execPpsOutWidthEnd s
  | .ppsInCapture freq => Sys2Proof.Machine.execPpsInCapture freq s
  | .ppsInLoss => Sys2Proof.Machine.execPpsInLoss s
  | .ptpMessageReceive port event best => Sys2Proof.Machine.execPtpMessageReceive port event best s
  | .servoMeasurement offset freq => Sys2Proof.Machine.execServoMeasurement offset freq s
  | .announceTimeout => Sys2Proof.Machine.execAnnounceTimeout s
  | .slewDone => Sys2Proof.Machine.execSlewDone s
  | .ptpMessageSend port kind => Sys2Proof.Machine.execPtpMessageSend port kind s
  | .synthLock slice lockUs => Sys2Proof.Machine.execSynthLock slice lockUs s
  | .synthLockRetry slice ok lockUs => Sys2Proof.Machine.execSynthLockRetry slice ok lockUs s
  | .tuningCalibrationDone slice hw kind calUs temp => Sys2Proof.Machine.execTuningCalibrationDone slice hw kind calUs temp s
  | .channelChangeApply slice tune => Sys2Proof.Machine.execChannelChangeApply slice tune s
  | .cacElapsed slice => Sys2Proof.Machine.execCacElapsed slice s
  | .radarDetected slice tune => Sys2Proof.Machine.execRadarDetected slice tune s
  | .radarChannelMove slice tune => Sys2Proof.Machine.execRadarChannelMove slice tune s
  | .nonOccupancyEnd width centre => Sys2Proof.Machine.execNonOccupancyEnd width centre s
  | .txDeferExpiry slice ac => Sys2Proof.Machine.execTxDeferExpiry slice ac s
  | .txTmoExpiry slice => Sys2Proof.Machine.execTxTmoExpiry slice s
  | .calibrationDue slice kind temp => Sys2Proof.Machine.execCalibrationDue slice kind temp s
  | .calibrationStepStart slice => Sys2Proof.Machine.execCalibrationStepStart slice s
  | .calibrationStepDone slice ok temp => Sys2Proof.Machine.execCalibrationStepDone slice ok temp s
  | .haloTrainingTick => Sys2Proof.Machine.execHaloTrainingTick s
  | .haloTrainingDone victim aggressor ok coeff => Sys2Proof.Machine.execHaloTrainingDone victim aggressor ok coeff s
  | .haloFallback a b => Sys2Proof.Machine.execHaloFallback a b s
  | .iqCaptureTrigger slice => Sys2Proof.Machine.execIqCaptureTrigger slice s
  | .iqCaptureDone slice samples refs wr => Sys2Proof.Machine.execIqCaptureDone slice samples refs wr s
  | .selfTestDone slice bist loop => Sys2Proof.Machine.execSelfTestDone slice bist loop s
  | .lstfDetection slice d => Sys2Proof.Machine.execLstfDetection slice d s
  | .dsssDetection slice d => Sys2Proof.Machine.execDsssDetection slice d s
  | .captureRestart slice level overload d => Sys2Proof.Machine.execCaptureRestart slice level overload d s
  | .tbGainPreset slice reference => Sys2Proof.Machine.execTbGainPreset slice reference s
  | .tbWindowEnd slice => Sys2Proof.Machine.execTbWindowEnd slice s
  | .ppduRxEnd slice => Sys2Proof.Machine.execPpduRxEnd slice s
  | .mpduReceive slice m => Sys2Proof.Machine.execMpduReceive slice m s
  | .ldpcEngineStart entering => Sys2Proof.Machine.execLdpcEngineStart entering s
  | .codewordDone id iterations ok => Sys2Proof.Machine.execCodewordDone id iterations ok s
  | .turboPassStart ru => Sys2Proof.Machine.execTurboPassStart ru s
  | .lateWindowExpiry ru => Sys2Proof.Machine.execLateWindowExpiry ru s
  | .responseFreeze slice => Sys2Proof.Machine.execResponseFreeze slice s
  | .sifsResponseTx slice us format rate gamma tune => Sys2Proof.Machine.execSifsResponseTx slice us format rate gamma tune s
  | .micVerdict good => Sys2Proof.Machine.execMicVerdict good s
  | .reorderHoleTimeout station tid => Sys2Proof.Machine.execReorderHoleTimeout station tid s
  | .blockackreqReceive slice station tid start => Sys2Proof.Machine.execBlockackreqReceive slice station tid start s
  | .reassemblyTimeout station tid => Sys2Proof.Machine.execReassemblyTimeout station tid s
  | .cumulusElementReceive station version flags links lifetime combines => Sys2Proof.Machine.execCumulusElementReceive station version flags links lifetime combines s
  | .softEntryUsable peer tag => Sys2Proof.Machine.execSoftEntryUsable peer tag s
  | .softEntryExpiry peer tag => Sys2Proof.Machine.execSoftEntryExpiry peer tag s
  | .edcaBackoffEnd slice ends cca => Sys2Proof.Machine.execEdcaBackoffEnd slice ends cca s
  | .beaconTbtt bss cca => Sys2Proof.Machine.execBeaconTbtt bss cca s
  | .ppduFixPoint slice p => Sys2Proof.Machine.execPpduFixPoint slice p s
  | .ppduTxStart slice gamma tune => Sys2Proof.Machine.execPpduTxStart slice gamma tune s
  | .coexGrantSample slice grant => Sys2Proof.Machine.execCoexGrantSample slice grant s
  | .ctsReceive slice users => Sys2Proof.Machine.execCtsReceive slice users s
  | .ctsTimeout slice => Sys2Proof.Machine.execCtsTimeout slice s
  | .ackReceive slice acks => Sys2Proof.Machine.execAckReceive slice acks s
  | .ackTimeout slice => Sys2Proof.Machine.execAckTimeout slice s
  | .mpduLifetimeExpiry kind owner id => Sys2Proof.Machine.execMpduLifetimeExpiry kind owner id s
  | .txopEnd slice => Sys2Proof.Machine.execTxopEnd slice s
  | .managementFrameReceive f => Sys2Proof.Machine.execManagementFrameReceive f s
  | .psPollReceive slice station => Sys2Proof.Machine.execPsPollReceive slice station s
  | .uapsdTrigger slice station ac units => Sys2Proof.Machine.execUapsdTrigger slice station ac units s
  | .inactivityTimeout station => Sys2Proof.Machine.execInactivityTimeout station s
  | .twtRequestReceive station kind flow bss duration interval offset places => Sys2Proof.Machine.execTwtRequestReceive station kind flow bss duration interval offset places s
  | .twtServicePeriodStart schedule owner id => Sys2Proof.Machine.execTwtServicePeriodStart schedule owner id s
  | .twtServicePeriodEnd schedule owner id => Sys2Proof.Machine.execTwtServicePeriodEnd schedule owner id s
  | .emlsrExchangeEnd station => Sys2Proof.Machine.execEmlsrExchangeEnd station s
  | .emlsrTransitionEnd station => Sys2Proof.Machine.execEmlsrTransitionEnd station s
  | .ftmRequestReceive slice mac opens => Sys2Proof.Machine.execFtmRequestReceive slice mac opens s
  | .brimStart => Sys2Proof.Machine.execBrimStart s
  | .planCommit txops twt free => Sys2Proof.Machine.execPlanCommit txops twt free s
  | .windowBoundary => Sys2Proof.Machine.execWindowBoundary s
  | .fillTxopAppend t => Sys2Proof.Machine.execFillTxopAppend t s
  | .stagingStart slice => Sys2Proof.Machine.execStagingStart slice s
  | .crownOpComplete station fetch time => Sys2Proof.Machine.execCrownOpComplete station fetch time s
  | .holdMpduExpiry station => Sys2Proof.Machine.execHoldMpduExpiry station s
  | .lingerExpiry station => Sys2Proof.Machine.execLingerExpiry station s
  | .thrashCheck => Sys2Proof.Machine.execThrashCheck s
  | .crownEntryLost station => Sys2Proof.Machine.execCrownEntryLost station s
  | .beamformingReportReceive station valid ng codebook => Sys2Proof.Machine.execBeamformingReportReceive station valid ng codebook s
  | .portSignalDetect port => Sys2Proof.Machine.execPortSignalDetect port s
  | .portBringupDone port => Sys2Proof.Machine.execPortBringupDone port s
  | .portBringupFail port => Sys2Proof.Machine.execPortBringupFail port s
  | .portBringupRetry port => Sys2Proof.Machine.execPortBringupRetry port s
  | .portSignalLoss port => Sys2Proof.Machine.execPortSignalLoss port s
  | .mdioPoll link half speed => Sys2Proof.Machine.execMdioPoll link half speed s
  | .ethFrameReceive port bytes fcs => Sys2Proof.Machine.execEthFrameReceive port bytes fcs s
  | .pauseFrameReceive port quanta => Sys2Proof.Machine.execPauseFrameReceive port quanta s
  | .pfcFrameReceive port enable quanta => Sys2Proof.Machine.execPfcFrameReceive port enable quanta s
  | .pauseTimeExpiry port mask => Sys2Proof.Machine.execPauseTimeExpiry port mask s
  | .pauseRefresh port priority => Sys2Proof.Machine.execPauseRefresh port priority s
  | .holdFifoHeadTimeout port prio => Sys2Proof.Machine.execHoldFifoHeadTimeout port prio s
  | .macsecIcvVerdict port good plain => Sys2Proof.Machine.execMacsecIcvVerdict port good plain s
  | .fwePacketLookup ingress prio => Sys2Proof.Machine.execFwePacketLookup ingress prio s
  | .emacTxStart port => Sys2Proof.Machine.execEmacTxStart port s
  | .emacTxEnd port => Sys2Proof.Machine.execEmacTxEnd port s
  | .flowSetupDone core pick => Sys2Proof.Machine.execFlowSetupDone core pick s
  | .flowAgeOut index => Sys2Proof.Machine.execFlowAgeOut index s
  | .macAgeOut vlan addr => Sys2Proof.Machine.execMacAgeOut vlan addr s
  | .nextHopResolveRetry iface addr => Sys2Proof.Machine.execNextHopResolveRetry iface addr s
  | .nextHopUnreachableEnd iface addr => Sys2Proof.Machine.execNextHopUnreachableEnd iface addr s
  | .natFragmentExpiry src dst ident => Sys2Proof.Machine.execNatFragmentExpiry src dst ident s
  | .shaperRefill shaper => Sys2Proof.Machine.execShaperRefill shaper s
  | .policerRefill policer => Sys2Proof.Machine.execPolicerRefill policer s
  | .gclBaseTime port => Sys2Proof.Machine.execGclBaseTime port s
  | .gclEntryAdvance port => Sys2Proof.Machine.execGclEntryAdvance port s
  | .samplerTick queue => Sys2Proof.Machine.execSamplerTick queue s
  | .eventDelivery sink => Sys2Proof.Machine.execEventDelivery sink s
  | .umpFrameReceive mac version fleetId index message => Sys2Proof.Machine.execUmpFrameReceive mac version fleetId index message s
  | .puntEntryFill ring entry fail => Sys2Proof.Machine.execPuntEntryFill ring entry fail s
  | .injectEntryProcess ring entry frame fail => Sys2Proof.Machine.execInjectEntryProcess ring entry frame fail s
  | .injectCompletion ring => Sys2Proof.Machine.execInjectCompletion ring s
  | .ringCoalesceTimeout ring => Sys2Proof.Machine.execRingCoalesceTimeout ring s
  | .dmaRetry ok entry data => Sys2Proof.Machine.execDmaRetry ok entry data s
  | .workItemConsume entry payload fail => Sys2Proof.Machine.execWorkItemConsume entry payload fail s
  | .workItemStart core => Sys2Proof.Machine.execWorkItemStart core s
  | .workItemEnd core wr => Sys2Proof.Machine.execWorkItemEnd core wr s
  | .threadReady group id priority bound => Sys2Proof.Machine.execThreadReady group id priority bound s
  | .timeSliceExpiry group core => Sys2Proof.Machine.execTimeSliceExpiry group core s
  | .firmwareCoreHalt core cause pc => Sys2Proof.Machine.execFirmwareCoreHalt core cause pc s
  | .kernelCycleLimit core => Sys2Proof.Machine.execKernelCycleLimit core s
  | .bundleIssue core => Sys2Proof.Machine.execBundleIssue core s
  | .loopCountExpiry core => Sys2Proof.Machine.execLoopCountExpiry core s
  | .drzFrameReceive f => Sys2Proof.Machine.execDrzFrameReceive f s
  | .drzCsmaBackoffEnd level us hw => Sys2Proof.Machine.execDrzCsmaBackoffEnd level us hw s
  | .drzAckReceive csl rssi lqi us hw => Sys2Proof.Machine.execDrzAckReceive csl rssi lqi us hw s
  | .drzAckTimeout => Sys2Proof.Machine.execDrzAckTimeout s
  | .drzCslSample => Sys2Proof.Machine.execDrzCslSample s
  | .drzRendezvousStart us hw => Sys2Proof.Machine.execDrzRendezvousStart us hw s
  | .drzFloodRelay origin seq => Sys2Proof.Machine.execDrzFloodRelay origin seq s
  | .drzSeenCacheAging origin seq => Sys2Proof.Machine.execDrzSeenCacheAging origin seq s
  | .drzChannelChangeApply => Sys2Proof.Machine.execDrzChannelChangeApply s
  | .saeCommitReceive bss addr group h2e => Sys2Proof.Machine.execSaeCommitReceive bss addr group h2e s
  | .saeConfirmReceive bss addr good pmk => Sys2Proof.Machine.execSaeConfirmReceive bss addr good pmk s
  | .eapolKeyReceive station msg good key => Sys2Proof.Machine.execEapolKeyReceive station msg good key s
  | .fourwayRetryTimeout station => Sys2Proof.Machine.execFourwayRetryTimeout station s
  | .groupRekeyDue bss rand => Sys2Proof.Machine.execGroupRekeyDue bss rand s
  | .groupKeyRetryTimeout bss station => Sys2Proof.Machine.execGroupKeyRetryTimeout bss station s
  | .groupKeySwitch bss => Sys2Proof.Machine.execGroupKeySwitch bss s
  | .radiusResponseReceive station valid kind recv send cls timeout => Sys2Proof.Machine.execRadiusResponseReceive station valid kind recv send cls timeout s
  | .radiusTimeout station => Sys2Proof.Machine.execRadiusTimeout station s
  | .radiusDeadTimeEnd profile secondary => Sys2Proof.Machine.execRadiusDeadTimeEnd profile secondary s
  | .eapTimeout station => Sys2Proof.Machine.execEapTimeout station s
  | .pmksaExpiry addr ap => Sys2Proof.Machine.execPmksaExpiry addr ap s
  | .hatboxJobDone code addr opens body hw => Sys2Proof.Machine.execHatboxJobDone code addr opens body hw s
  | .keyWriteComplete handle => Sys2Proof.Machine.execKeyWriteComplete handle s
  | .challengeExpiry => Sys2Proof.Machine.execChallengeExpiry s
  | .debugDurationExpiry => Sys2Proof.Machine.execDebugDurationExpiry s
  | .trngHealthFail ok => Sys2Proof.Machine.execTrngHealthFail ok s
  | .ftAuthReceive bss addr found => Sys2Proof.Machine.execFtAuthReceive bss addr found s
  | .contextStagingExpiry addr => Sys2Proof.Machine.execContextStagingExpiry addr s
  | .dramDriftDetect chan temp => Sys2Proof.Machine.execDramDriftDetect chan temp s
  | .dramRetrainStep chan ok => Sys2Proof.Machine.execDramRetrainStep chan ok s
  | .dramRefresh chan bank => Sys2Proof.Machine.execDramRefresh chan bank s
  | .eccReadRetry addr reader obj ok => Sys2Proof.Machine.execEccReadRetry addr reader obj ok s
  | .patrolScrub corrected bad complete => Sys2Proof.Machine.execPatrolScrub corrected bad complete s
  | .mramWriteRetry addr ok => Sys2Proof.Machine.execMramWriteRetry addr ok s
  | .cfgBankWritten hw readBack => Sys2Proof.Machine.execCfgBankWritten hw readBack s
  | .evrRecordWrite => Sys2Proof.Machine.execEvrRecordWrite s
  | .evrRateWindowClose code => Sys2Proof.Machine.execEvrRateWindowClose code s
  | .evrClearDone => Sys2Proof.Machine.execEvrClearDone s
  | .diagRunDone passed felt banks corrected crystal pps entries => Sys2Proof.Machine.execDiagRunDone passed felt banks corrected crystal pps entries s
  | .tstDone loopback fail place addr sent received errored => Sys2Proof.Machine.execTstDone loopback fail place addr sent received errored s
  | .kernelLoadDone hw => Sys2Proof.Machine.execKernelLoadDone hw s
  | .fwuDataWritten hw => Sys2Proof.Machine.execFwuDataWritten hw s
  | .fwuCommitChecked cause version security => Sys2Proof.Machine.execFwuCommitChecked cause version security s
  | .eventSuppressionPeriod code obj => Sys2Proof.Machine.execEventSuppressionPeriod code obj s
  | .ppduTxEnd slice => Sys2Proof.Machine.execPpduTxEnd slice s
  | .drzFrameTxEnd us hw => Sys2Proof.Machine.execDrzFrameTxEnd us hw s
  | .uartFrameReceive message => Sys2Proof.Machine.execUartFrameReceive message s
  | .perstNRelease => Sys2Proof.Machine.execPerstNRelease s
  | .pcieLinkUp => Sys2Proof.Machine.execPcieLinkUp s
  | .evrStatRead => Sys2Proof.Machine.execEvrStatRead s

end Sys2Proof.Machine
end

