-- ==== Sys2Proof/Safety.lean ====
section
/-! DEFINITION. The terms in which claims about the block are stated: the invariant of the mailbox, a command that is served at
once, its answer, and what a command leaves alone. -/
namespace Sys2Proof.Machine

/-- The mailbox keeps its form: the slot memory is canonical (addresses rising, no zero byte listed) and there are 16 command
slots (R246, R250). -/
def MailboxInv (s : State) : Prop := Cells.wf s.mbox.mem = true ∧ s.mbox.slots.length = 16

/-- A command that is served at once: nothing waits before it, its transport carries it, over PCIe its slot is Free and
reachable, over Ethernet no stored response has its tag, and its header passes the checks of R247 (R250, R251, R263). -/
def Arrives (code : Nat) (u : Ump) (s : State) : Prop :=
  s.mbox.cmdQueue = [] ∧ carries u.via s = true ∧ headerStatus code u s = none ∧
  match u.via with
  | .pcie n => n < 16 ∧ reachable s = true ∧ s.mbox.slots.getD n .free = .free
  | .mgt mac => stored mac u.tag s = none
  | .uart => True

/-- The state a command served at once is judged in: its message is in its slot, and a retry of its DMA read is counted
(R249, R250). -/
def arrived (code : Nat) (u : Ump) (s : State) : State :=
  let t := match u.via with
    | .pcie n => writeSlot n (u.msg code) (start s)
    | _ => start s
  noteDma code u (onMbox (fun b => { b with cmdQueue := [] }) t)

/-- The status of a command that succeeds: ST_OK, or ST_OK_RETRIED where the DMA read of its data needed its retry (R277). -/
def goodStatus (u : Ump) : Nat :=
  if bit u.flags 1 && decide (u.env.dma = .retried) then ST.okRetried else ST.ok

/-- The response message of a command (R247, R252). -/
def response (code : Nat) (u : Ump) (status : Nat) (data : Bytes) (s : State) : Bytes :=
  message 2 (if status = ST.pending then 4 else 0) code u.tag status s.power.devIdx data

/-- A command has its answer: over PCIe the response stands in the response slot, the slot is Answered and its doorbell bit is
set; over Ethernet and the UART the response has left (R250, R251, R263). -/
def Answered (code : Nat) (u : Ump) (status : Nat) (data : Bytes) (t : State) : Prop :=
  let r := response code u status data t
  match u.via with
  | .pcie n =>
    Cells.readAll t.mbox.mem (0x2000 + n * 0x100) r.length = r ∧ t.mbox.slots[n]? = some .answered
      ∧ t.mbox.devDoorbell.getLsbD n = true
  | .mgt mac => Out.ump mac r ∈ t.out
  | .uart => Out.uart r ∈ t.out

/-- Only the link has changed: the mailbox, the endpoint, the recorder's queue and what has left the device. -/
def LinkOnly (s t : State) : Prop := t = { s with mbox := t.mbox, pcie := t.pcie, evr := t.evr, out := t.out }

/-- No event or record was added, and no command is outstanding that was not before: the mailbox differs by the slot, its
doorbell bit and the counts of the command served, the endpoint by a message held back; what the command itself sent stays sent. -/
def ReplyOnly (s t : State) : Prop :=
  t = { s with mbox := t.mbox, pcie := t.pcie, out := t.out } ∧ s.out <+: t.out ∧
  t.mbox = { s.mbox with mem := t.mbox.mem, slots := t.mbox.slots, devDoorbell := t.mbox.devDoorbell, cmdQueue := []
                         served := inc 32 s.mbox.served, replay := t.mbox.replay }

/-- The command is answered at once with a status and data, and leaves the state `x` but for its reply. -/
def Answers (i : Instr) (code : Nat) (u : Ump) (status : Nat) (data : Bytes) (x s : State) : Prop :=
  ∃ t, exec i s = .next t ∧ Answered code u status data t ∧ ReplyOnly x t

/-- The command succeeds: ST_OK, or ST_OK_RETRIED after a retried DMA read, with its data and its effect `x` (R248, R277). -/
def Succeeds (i : Instr) (code : Nat) (u : Ump) (data : Bytes) (x s : State) : Prop :=
  Answers i code u (goodStatus u) data x s

/-- The async command is accepted: it is answered ST_PENDING and is outstanding with its locks, beside the effect `x`
(R252, R271). -/
def Pends (i : Instr) (code : Nat) (u : Ump) (locks : List Obj) (x s : State) : Prop :=
  Answers i code u ST.pending [] (accept u code locks x) s

/-- The command fails with a status: nothing changes but its reply (R17). -/
def Fails (i : Instr) (code : Nat) (u : Ump) (status : Nat) (s : State) : Prop :=
  Answers i code u status [] (arrived code u s) s

/-- The command completes, and the state it leaves has a property. -/
def Reaches (i : Instr) (s : State) (P : State → Prop) : Prop := ∃ t, exec i s = .next t ∧ P t

/-- Nothing stands in the way of a command (R271, R400, R402): no transition under way, no locked object, room for an async
command. -/
def Clear (code : Nat) (async : Bool) (locks : List Obj) (s : State) : Prop :=
  (gate code async locks s).all (fun c => !c.1) = true

/-- An authorisation token that a command accepts: it carries the outstanding challenge, its fields fit one of the purposes, its
key hash is the root-key hash programmed (purpose 1 programs it), and its signatures verify (R292, R293). -/
def TokenHolds (u : Ump) (t : Bytes) (purposes : List Nat) (s : State) : Prop :=
  carriesChallenge t s = true ∧ tokenBad purposes t = false ∧
  (rd t 3 1 = 1 ∨ tokenHash t = s.sec.rootHash) ∧ u.env.sig = true

/-- The UMP command a row carries, with its code. -/
def umpRow : Instr → Option (Nat × Ump)
  | .sysGetInfo m => some (0x0001, m)
  | .sysReset m => some (0x0002, m)
  | .sysGetStatus m => some (0x0003, m)
  | .sysSetEventSink m => some (0x0004, m)
  | .sysAbort m => some (0x0005, m)
  | .pwrSetState m => some (0x0101, m)
  | .pwrGetState m => some (0x0102, m)
  | .pwrSetWakeSources m => some (0x0103, m)
  | .pwrSetPasr m => some (0x0104, m)
  | .radSetChannel m => some (0x0201, m)
  | .radGetStatus m => some (0x0202, m)
  | .radCalibrate m => some (0x0203, m)
  | .radSetTxLimits m => some (0x0204, m)
  | .radSetStr m => some (0x0205, m)
  | .radTunerCtl m => some (0x0206, m)
  | .radLoadRegdomain m => some (0x0207, m)
  | .radSelfTest m => some (0x0208, m)
  | .radClearTxLock m => some (0x0209, m)
  | .radLockLlt m => some (0x020A, m)
  | .radCaptureIq m => some (0x020B, m)
  | .bssCreate m => some (0x0301, m)
  | .bssDelete m => some (0x0302, m)
  | .bssSetParams m => some (0x0303, m)
  | .staGet m => some (0x0304, m)
  | .staDisconnect m => some (0x0305, m)
  | .staFlushQueue m => some (0x0306, m)
  | .mloSetLinkPolicy m => some (0x0307, m)
  | .cumulusSet m => some (0x0308, m)
  | .staList m => some (0x0309, m)
  | .schSetWindow m => some (0x0401, m)
  | .schSetPolicy m => some (0x0402, m)
  | .crnSetReserve m => some (0x0403, m)
  | .crnPin m => some (0x0404, m)
  | .crnGetStats m => some (0x0405, m)
  | .twtSet m => some (0x0406, m)
  | .schSetTurbo m => some (0x0407, m)
  | .secGetIdentity m => some (0x0501, m)
  | .secLoadSealed m => some (0x0502, m)
  | .secSetRadius m => some (0x0503, m)
  | .secKeyImport m => some (0x0504, m)
  | .secKeyErase m => some (0x0505, m)
  | .secCipherJob m => some (0x0506, m)
  | .secAuthChallenge m => some (0x0507, m)
  | .secDebugUnlock m => some (0x0508, m)
  | .fwdSetPort m => some (0x0601, m)
  | .fwdRouteSet m => some (0x0602, m)
  | .fwdAclSet m => some (0x0603, m)
  | .fwdNatSet m => some (0x0604, m)
  | .fwdFlowQuery m => some (0x0605, m)
  | .ethGetCounters m => some (0x0606, m)
  | .ethSetWol m => some (0x0607, m)
  | .ethSetMacsec m => some (0x0608, m)
  | .fwdVlanSet m => some (0x0609, m)
  | .queSetShaper m => some (0x0701, m)
  | .queSetPolicer m => some (0x0702, m)
  | .queSetGcl m => some (0x0703, m)
  | .queSetSampler m => some (0x0704, m)
  | .queReadSamples m => some (0x0705, m)
  | .queMap m => some (0x0706, m)
  | .timGet m => some (0x0801, m)
  | .timAdjust m => some (0x0802, m)
  | .timSetPtp m => some (0x0803, m)
  | .timSetJumpLimit m => some (0x0804, m)
  | .memGetInfo m => some (0x0901, m)
  | .cfgCommit m => some (0x0902, m)
  | .cfgRead m => some (0x0903, m)
  | .cvuRun m => some (0x0904, m)
  | .evrGetInfo m => some (0x0A01, m)
  | .evrSetPolicy m => some (0x0A02, m)
  | .evrClear m => some (0x0A03, m)
  | .diagRun m => some (0x0A04, m)
  | .evrRead m => some (0x0A05, m)
  | .dspLoadKernel m => some (0x0B01, m)
  | .dspRun m => some (0x0B02, m)
  | .tdsSetHostRing m => some (0x0B03, m)
  | .tdsGetStats m => some (0x0B04, m)
  | .drzSetChannel m => some (0x0C01, m)
  | .drzSetCsl m => some (0x0C02, m)
  | .drzSetMesh m => some (0x0C03, m)
  | .drzSend m => some (0x0C04, m)
  | .drzNodeSet m => some (0x0C05, m)
  | .fltGetInfo m => some (0x0D01, m)
  | .fltSetFloor m => some (0x0D02, m)
  | .fltContextExport m => some (0x0D03, m)
  | .fltContextImport m => some (0x0D04, m)
  | .fltSetKey m => some (0x0D05, m)
  | .fwuBegin m => some (0x0E01, m)
  | .fwuData m => some (0x0E02, m)
  | .fwuCommit m => some (0x0E03, m)
  | .fwuActivate m => some (0x0E04, m)
  | .tstBist m => some (0x0F01, m)
  | .tstLoopback m => some (0x0F02, m)
  | _ => none

/-- A release that meets a working device and a good image in the active slot: the oscillator runs, the self tests and the DRAM
pass, TEST0 is low, BOOT_SEL selects serial NOR, no trial is in progress, and the active slot passes the checks (R298, R299). -/
def GoodRelease (b : Boot) (sel : Nat) (s : State) : Prop :=
  b.oscillator ≠ .lasting ∧ b.selfTest = none ∧ b.badDram = none ∧ b.training = [] ∧ b.test0 = false ∧ sel = 0 ∧
  s.fwu.trial = false ∧ s.fwu.active ≤ 1 ∧ imageCause (slotOf s.fwu.active s.fwu) s.sec.antiRollback = 0

/-- What every reset leaves behind that booted the active slot: stage 0x02 with the slot's image, the DRAM trained, RUN with every
domain on, an empty queue, no station, no key and no async command, and the Felt store and OTP as they were. -/
def Booted (b : Boot) (s t : State) : Prop :=
  t.power.stage = 2 ∧ t.power.bootSlot = s.fwu.active ∧ t.power.image = s.fwu.active ∧
  t.power.version = (slotOf s.fwu.active s.fwu).version ∧ t.power.state = .run ∧ t.power.domains = 0x7FF ∧
  t.mem.installed = b.installed ∧ t.mem.channels = trainedChannels b.temperature ∧
  t.mbox.async = [] ∧ t.mbox.cmdQueue = [] ∧ t.air.stations = [] ∧ t.air.bss = [] ∧ t.sec.keys = [] ∧ t.wire.flows = [] ∧
  t.sec.secret = s.sec.secret ∧ t.sec.lifecycle = s.sec.otpLifecycle ∧ t.sec.antiRollback = s.sec.antiRollback ∧
  t.sec.vaultSlots = s.sec.vaultSlots ∧ t.fleet.epoch = s.fleet.epoch ∧ t.mem.seconds = s.mem.seconds ∧
  t.mem.bankA = s.mem.bankA ∧ t.mem.bankB = s.mem.bankB ∧ t.evr.records = s.evr.records ∧ t.pending = s.pending

/-- A slice that serves commands: it is one of the three, its domain is powered, and it is not OFF. -/
def SliceOn (n : Nat) (s : State) : Prop := n < 3 ∧ powered (3 + n) s = true ∧ (slice n s).state ≠ .off

/-- What a change on the radio side leaves alone: everything but the radio, the air MAC, the modem's buffers, the scheduler, and the
link with its records. -/
def RadioSide (s t : State) : Prop :=
  t = { s with radio := t.radio, air := t.air, modem := t.modem, mls := t.mls, mbox := t.mbox, pcie := t.pcie, evr := t.evr
               mem := t.mem, power := t.power, out := t.out }

end Sys2Proof.Machine
end

