-- ==== Sys2Proof/Certificates/Slice0/Obligations.lean ====
section
/-! DEFINITION. The statements for the provers, each a proposition; OBLIGATIONS.json lists them. -/

open Sys2Proof Sys2Proof.Machine

/-- A step takes the command at the front of the queue and runs it on the state with the queue's rest. With none
waiting the block idles for one CLK_FAB cycle, the model's choice (log entry 1); and no word spells a command, since
the table gives no row any bits. -/
def Obligations.StepServesTheFrontCommand : Prop :=
  (∀ (c : Instr) (r : List Instr) (s : State), s.pending = c :: r → step s = exec c { s with pending := r }) ∧
  (∀ s : State, s.pending = [] → step s = .next (idle s) ∧ (idle s).pending = [] ∧ (idle s).sec = s.sec ∧ (idle s).mbox = s.mbox) ∧
  (∀ (s : State) (nbits w : Nat), decodeTableWord nbits w = none ∧ s.withFetchWord nbits w = s)

/-- After the first power-on reset nothing is in progress: the boot ROM is at stage 0x00 and the device is not in limp
mode; the mailbox keeps its form with every slot Free, both event indices are 0, and no command waits, is outstanding
or has left an output; no station, BSS, key, flow, MAC address or waiting DMA operation exists; no work item is served
and no window runs; and a step idles. -/
def Obligations.ResetLeavesNothingInProgress : Prop :=
  let s := State.reset
  MailboxInv s ∧ s.mbox.slots = List.replicate 16 .free ∧ s.mbox.cmdQueue = [] ∧ s.mbox.async = [] ∧ s.mbox.evtProd = 0 ∧ s.mbox.evtCons = 0 ∧
  s.power.stage = 0 ∧ s.power.limp = false ∧ s.air.stations = [] ∧ s.air.bss = [] ∧ s.sec.keys = [] ∧ s.wire.flows = [] ∧ s.wire.macs = [] ∧
  s.dma = [] ∧ s.tds.service = [] ∧ s.mls.running = false ∧ s.out = [] ∧ s.pending = [] ∧ step s = .next (idle s)

/-- Every command of the table completes with a next state, and leaves the queue of waiting commands alone. -/
def Obligations.CommandsCompleteAndKeepTheQueue : Prop :=
  ∀ (c : Instr) (s : State), ∃ t, exec c s = .next t ∧ t.pending = s.pending

/-- OTP and the anti-rollback counter only move forward: no step changes the device's secret, serial, MGT address or
certificate; the programmed lifecycle never returns to an earlier state and takes effect only by a reset; the root-key
hash changes only as a BLANK device is provisioned; and the anti-rollback counter never decreases. -/
def Obligations.OtpOnlyMovesForward : Prop :=
  ∀ s t : State, step s = .next t →
    t.sec.secret = s.sec.secret ∧ t.sec.serial = s.sec.serial ∧ t.sec.mgtMac = s.sec.mgtMac ∧ t.sec.certificate = s.sec.certificate ∧
    lifecycleCode s.sec.otpLifecycle ≤ lifecycleCode t.sec.otpLifecycle ∧
    (t.sec.lifecycle = s.sec.lifecycle ∨ t.sec.lifecycle = t.sec.otpLifecycle) ∧
    (t.sec.rootHash = s.sec.rootHash ∨ (s.sec.otpLifecycle = .blank ∧ t.sec.otpLifecycle = .provisioned)) ∧
    s.sec.antiRollback ≤ t.sec.antiRollback

/-- The mailbox keeps its form in every step: the slot memory stays canonical and there stay 16 command slots,
whatever the host writes and whichever reset runs. -/
def Obligations.EveryStepKeepsTheMailboxForm : Prop :=
  ∀ s t : State, MailboxInv s → step s = .next t → MailboxInv t

/-- The header of every UMP command is checked before any check of its own, in the order of R247, and the first check
that fails decides the response; the command changes nothing, but for the record of a lasting DMA failure (R249). The
checks: type 0x01; a code the firmware serves at this stage; a length of at most 240, of exactly 16 with the external
flag, which is set if and only if the Ext column holds In; the CRC; the descriptor; and the external data. A command
is served where nothing waits before it, or at the head of the queue. -/
def Obligations.FailedHeaderChangesNothing : Prop :=
  ∀ (i : Instr) (code : Nat) (u : Ump) (s : State) (st : Nat), umpRow i = some (code, u) → carries u.via s = true →
    let ext := bit u.flags 1
    let verdict :=
      if u.type ≠ 1 then some ST.badCmd
      else if (servedCodes s.power.stage).contains code = false then some ST.badCmd
      else if 240 < u.length ∨ (ext = true ∧ u.length ≠ 16) ∨ ext ≠ extInCodes.contains code ∨ u.payload.length ≠ u.length then some ST.badLength
      else if u.crc ≠ (if u.length = 0 then 0 else crc32c u.payload) then some ST.badCrc
      else if ext = true ∧ (rd u.payload 8 4 = 0 ∨ 1048576 < rd u.payload 8 4 ∨ rd u.payload 0 8 % 4 ≠ 0) then some ST.badLength
      else if ext = true ∧ u.env.dma = .lasting then some ST.faultLasting
      else if ext = true ∧ (u.env.ext.length ≠ rd u.payload 8 4 ∨ crc32c u.env.ext ≠ rd u.payload 12 4) then some ST.badCrc
      else none
    let kept (x : State) : State := if st = ST.faultLasting then noteDma code u x else x
    verdict = some st →
      (MailboxInv s → s.mbox.cmdQueue = [] →
        (match u.via with
          | .pcie n => n < 16 ∧ reachable s = true ∧ s.mbox.slots.getD n .free = .free
          | .mgt mac => stored mac u.tag s = none
          | .uart => True) →
        Answers i code u st []
          (kept (onMbox (fun b => { b with cmdQueue := [] }) (match u.via with | .pcie n => writeSlot n (u.msg code) (start s) | _ => start s))) s) ∧
      (∀ r, s.mbox.cmdQueue = u.msg code :: r → (∀ n, u.via = .pcie n → n < 16) →
        exec i s = .next (drain r (post u.via code u.tag st [] (kept (onMbox (fun b => { b with cmdQueue := r }) (start s))))))

/-- The transports of a UMP command: a slot that is not Free takes nothing, a command behind others waits in order, a
command repeated over Ethernet is answered by its stored response, and one that its transport does not carry, or that
finds 64 waiting, is lost. -/
def Obligations.CommandsWaitTheirTurn : Prop :=
  ∀ (i : Instr) (code : Nat) (u : Ump) (s : State), umpRow i = some (code, u) →
    (∀ n, u.via = .pcie n → (s.mbox.slots.getD n .free ≠ .free ∨ reachable s = false ∨ 16 ≤ n) → s.mbox.cmdQueue.head? ≠ some (u.msg code) →
      exec i s = .next (start s)) ∧
    (∀ n q r, u.via = .pcie n → n < 16 → reachable s = true → s.mbox.slots.getD n .free = .free → s.mbox.cmdQueue = q :: r → q ≠ u.msg code →
      exec i s = .next (onMbox (fun b => { b with cmdQueue := b.cmdQueue ++ [u.msg code], slots := b.slots.set n .queued })
        (writeSlot n (u.msg code) (start s)))) ∧
    (∀ mac p, u.via = .mgt mac → carries u.via s = true → stored mac u.tag s = some p → s.mbox.cmdQueue.head? ≠ some (u.msg code) →
      exec i s = .next (emit (.ump mac p.message) (start s))) ∧
    (∀ mac q r, u.via = .mgt mac → carries u.via s = true → stored mac u.tag s = none → s.mbox.cmdQueue = q :: r → q ≠ u.msg code →
      exec i s = .next (if 64 ≤ mgtWaiting s then start s
        else onMbox (fun b => { b with cmdQueue := b.cmdQueue ++ [u.msg code] }) (start s))) ∧
    (carries u.via s = false → (∀ n, u.via ≠ .pcie n) → exec i s = .next (start s))

/-- The event ring of R253: an event raised with room is written into slot EVT_PROD mod 32, EVT_PROD is incremented
and doorbell bit 16 is set; the ring is full at a distance of 32, and then no slot is written; and a value of EVT_CONS
outside EVT_CONS to EVT_PROD is ignored. -/
def Obligations.EventsAreWrittenAsARing : Prop :=
  ∀ (code : Nat) (payload : Bytes) (s : State), MailboxInv s → powered 1 s = true → s.mbox.pcieQueue = [] → s.mbox.pcieDropped = 0 → s.mbox.sink = none →
    let distance := (s.mbox.evtProd + 65536 - s.mbox.evtCons) % 65536
    let t := raise code payload s
    let m := message 3 (if code = 0x0001 then 4 else 0) code 0 0 s.power.devIdx payload
    (distance ≠ 32 → Cells.readAll t.mbox.mem (0x3000 + s.mbox.evtProd % 32 * 0x80) m.length = m ∧ t.mbox.evtProd = inc 16 s.mbox.evtProd ∧
      t.mbox.devDoorbell.getLsbD 16 = true ∧ t = { s with mbox := t.mbox, pcie := t.pcie, evr := t.evr, out := t.out }) ∧
    (distance = 32 → t.mbox.mem = s.mbox.mem ∧ t.mbox.evtProd = s.mbox.evtProd) ∧
    (∀ v : Word32, reachable s = true →
      let i := v.toNat % 65536
      (distance < (i + 65536 - s.mbox.evtCons) % 65536 → exec (.evtConsWrite v) s = .next (start s)) ∧
      ((i + 65536 - s.mbox.evtCons) % 65536 ≤ distance → Reaches (.evtConsWrite v) s fun y => y.mbox.evtCons = i ∧ y.mbox.evtProd = s.mbox.evtProd))

/-- A Function Level Reset acts as RESET_CTL with KIND 1, wherever both can reach the device. -/
def Obligations.FunctionLevelResetIsADeviceReset : Prop :=
  ∀ (b : Boot) (v : Word32) (s : State), v.toNat = 0xC1A00001 → reachable s = true → powered 1 s = true → s.pcie.linkUp = true → s.pcie.perst = false →
    s.power.held = false → exec (.functionLevelReset b) s = exec (.resetCtlDeviceReset v b) s

/-- A received frame has from 64 bytes to the port's maximum, counted from the destination address to the FCS, with
its VLAN tags and without the SecTAG and ICV of a MACsec port; any other is dropped whole and counted by its length
and FCS. A frame within the limits that finds no free SRAM cell is dropped whole and counted in RX_OVF, its cells free
as before; one that finds its cells is queued with every byte. The maximum is 9216 by default and is set from 1518 to
9216. -/
def Obligations.ReceivedFramesAreWholeOrDropped : Prop :=
  (∀ (p : Nat) (b : Bytes) (s : State), p ≤ 4 → powered 9 s = true → powered 2 s = true → (port p s).state = .up → (port p s).notReady = false →
    let len := b.length + 4 - (if secyOn p s && hasSecTag b then 32 else 0)
    (len < 64 → exec (.ethFrameReceive p b true) s = .next (countPort p 8 1 (start s)) ∧
      exec (.ethFrameReceive p b false) s = .next (countPort p 9 1 (start s))) ∧
    (64 ≤ len → (port p s).cfg.maxFrame < len → exec (.ethFrameReceive p b true) s = .next (countPort p 10 1 (start s)) ∧
      exec (.ethFrameReceive p b false) s = .next (countPort p 11 1 (start s))) ∧
    (64 ≤ len → len ≤ (port p s).cfg.maxFrame → secyOn p s = false → etherType b ≠ 0x8808 → (p = 4 → etherType b ≠ 0x88B5) →
      (s.wire.sramFree < cellsOf b.length → Reaches (.ethFrameReceive p b true) s fun t => t.wire.lookup = s.wire.lookup ∧
        t.wire.sramFree = s.wire.sramFree ∧ Tab.getD (port p t).counters 12 0 = addWrap 64 (Tab.getD (port p s).counters 12 0) 1) ∧
      (Reaches (.ethFrameReceive p b true) s fun t => t.wire.lookup = s.wire.lookup ∨
        ∃ f, t.wire.lookup = s.wire.lookup ++ [f] ∧ f.bytes = b ∧ f.cells = cellsOf b.length ∧ t.wire.sramFree + f.cells = s.wire.sramFree))) ∧
  (∀ p, (port p State.reset).cfg.maxFrame = 9216) ∧
  (∀ (u : Ump) (s : State), MailboxInv s → Arrives 0x0601 u s → powered 2 s = true → powered 9 s = true → 24 ≤ u.data.length → u.b8 0 ≤ 4 → u.b8 1 = 1 →
    (u.b16 6 < 1518 ∨ 9216 < u.b16 6) → Fails (.fwdSetPort u) 0x0601 u ST.badParam s)

/-- The two forms of a record: bit 15 of the first word tells a fixed record of 16 bytes from a variable one whose
length its low nine bits give, each field stands at its offset, and each ends with its CRC, which covers the repeat
count in a fixed record alone. A repeat rewrites bytes 8 to 15 alone, and its count saturates. -/
def Obligations.RecordFormats : Prop :=
  (∀ (o : Occurrence) (lost : Bool), o.code < 2 ^ 15 → o.seconds < 2 ^ 32 → o.cycles < 2 ^ 24 → (occBody o).length ≤ 240 →
    let b := occBytes o lost
    rd b 4 4 = o.seconds ∧ rd b 8 3 = o.cycles ∧
    (o.fixed = true → b.length = 16 ∧ bit (rd b 0 2) 15 = false ∧ rd b 0 2 = o.code ∧ rd b 2 2 = rd o.payload 0 2 ∧ rd b 11 1 = 0 ∧
      rd b 12 2 = rd o.payload 2 2 ∧ rd b 14 2 = crc16 (b.take 14)) ∧
    (o.fixed = false → b.length = 16 + (occBody o).length ∧ bit (rd b 0 2) 15 = true ∧ rd b 0 2 = 0x8000 + b.length ∧ rd b 0 2 % 512 = b.length ∧
      rd b 2 2 = o.code ∧ bit (rd b 11 1) 0 = false ∧ bit (rd b 11 1) 1 = o.transient ∧ bit (rd b 11 1) 2 = o.lasting ∧ bit (rd b 11 1) 3 = lost ∧
      rd b 12 2 = 0 ∧ (b.drop 14).take (b.length - 16) = occBody o ∧ rd b (b.length - 2) 2 = crc16 (b.take 12 ++ (b.drop 14).take (b.length - 16)))) ∧
  (∀ (o : Occurrence) (r : Recorder) (x : EvrRecord), repeatOf o r = some x →
    (r.windows.any fun w => w.code == o.code && windowOver w o.seconds) = false → (isVariable x.bytes = false → x.bytes.length = 16) →
    (isVariable x.bytes = true → 16 ≤ x.bytes.length) →
    let c := bumpRepeat x.bytes
    c.length = x.bytes.length ∧ c.take 8 = x.bytes.take 8 ∧ c.drop 16 = x.bytes.drop 16 ∧ repeatCount c = repeatCount x.bytes + 1 ∧
    repeatCount x.bytes < (if isVariable x.bytes then 65535 else 255) ∧
    (isVariable x.bytes = false → rd c 14 2 = crc16 (c.take 14)) ∧
    (judgeOcc o r).repeats = inc 32 r.repeats)

/-- The read commands SYS_GET_INFO and SYS_GET_STATUS answer their records and change nothing, whatever transition is
under way. SYS_RESET posts its response first; then the device reset or the full reset it names happens.
SYS_SET_EVENT_SINK reads, sets or clears the sink and answers the sink then in force; SYS_ABORT finds nothing to
abort, finds a command past its point of abort, or takes back a requested power state. Under the hypotheses stated of
each, on the command and the state alone, SYS_GET_INFO, SYS_GET_STATUS, SYS_RESET, SYS_SET_EVENT_SINK and SYS_ABORT
complete: exec answers a next state. -/
def Obligations.SystemCommands : Prop :=
  (∀ (u : Ump) (s : State), MailboxInv s →
     (Arrives 0x0001 u s →
       ∃ t, exec (.sysGetInfo u) s = .next t ∧ Answered 0x0001 u (goodStatus u) (infoRecord (arrived 0x0001 u s)) t ∧ ReplyOnly (arrived 0x0001 u s) t) ∧
     (Arrives 0x0003 u s →
       ∃ t, exec (.sysGetStatus u) s = .next t ∧ Answered 0x0003 u (goodStatus u) (statusRecord (arrived 0x0003 u s)) t ∧ ReplyOnly (arrived 0x0003 u s) t)) ∧
  (∀ (u : Ump) (s : State), MailboxInv s → Arrives 0x0002 u s → Clear 0x0002 false [] s →
     4 ≤ u.data.length → u.b16 2 = 0xC1A0 → (u.b8 0 = 1 ∨ u.b8 0 = 2) →
     ∃ y, Answered 0x0002 u (goodStatus u) [] y ∧ ReplyOnly (arrived 0x0002 u s) y ∧
       exec (.sysReset u) s =
         .next (let t := if u.b8 0 = 1 then deviceReset u.env.boot y else fullReset u.env.boot y
                drain t.mbox.cmdQueue t)) ∧
  (∀ (u : Ump) (s : State), MailboxInv s →
     (Arrives 0x0004 u s → Clear 0x0004 false [] s → 12 ≤ u.data.length →
       let a := arrived 0x0004 u s
       (u.b8 0 = 0 → ∃ t, exec (.sysSetEventSink u) s = .next t ∧ Answered 0x0004 u (goodStatus u) (sinkReply 0 a) t ∧ ReplyOnly a t) ∧
       (u.b8 0 = 1 → notUnicast (field u.data 2 6) = false →
         let x := onMbox (fun m => { m with sink := some (rdBe u.data 2 6), sinkMask := BitVec.ofNat 16 (u.b16 8) }) a
         ∃ t, exec (.sysSetEventSink u) s = .next t ∧ Answered 0x0004 u (goodStatus u) (sinkReply 1 x) t ∧ ReplyOnly x t) ∧
       (u.b8 0 = 2 →
         let x := onMbox (fun m => { m with sink := none, sinkMask := 0xFFFF, sinkQueue := [], sinkDropped := 0 }) a
         ∃ t, exec (.sysSetEventSink u) s = .next t ∧ Answered 0x0004 u (goodStatus u) (sinkReply 2 x) t ∧ ReplyOnly x t)) ∧
     (Arrives 0x0005 u s → Clear 0x0005 false [] s → 4 ≤ u.data.length →
       let a := arrived 0x0005 u s
       (abortTarget u.via (u.b16 0) s = none →
         ∃ t, exec (.sysAbort u) s = .next t ∧ Answered 0x0005 u ST.nothingToAbort (abortReply 0 0) t ∧ ReplyOnly a t) ∧
       (∀ c, abortTarget u.via (u.b16 0) s = some c → c.past = true → c.code ≠ 0x0302 → c.code ≠ 0x0305 →
         ∃ t, exec (.sysAbort u) s = .next t ∧ Answered 0x0005 u ST.nothingToAbort (abortReply 0 c.code) t ∧ ReplyOnly a t) ∧
       (∀ c, abortTarget u.via (u.b16 0) s = some c → c.past = false → c.code = 0x0101 →
         ∃ t, exec (.sysAbort u) s = .next t ∧ Answered 0x0005 u (goodStatus u) (abortReply 0 0x0101) t ∧ ReplyOnly (endAsync c ST.aborted [] (onPower (fun p => { p with target := none }) a)) t)))

/-- The commands of the power group: PWR_GET_STATE answers its record; PWR_SET_WAKE_SOURCES and PWR_SET_PASR read, or
set and keep their settings; PWR_SET_STATE to STANDBY or SLEEP is accepted with its target, and from RUN to QUIET or
back the transition begins behind its ST_PENDING. PWR_TRANSITION_BEGIN takes the device to STANDBY or SLEEP: the
transition is over, the wake sources are armed, the keys of the air interface are erased, the host link is down, and
only the domains of the wake sources stay powered. Under the hypotheses stated of each, PWR_GET_STATE,
PWR_SET_WAKE_SOURCES, PWR_SET_PASR, PWR_SET_STATE and PWR_TRANSITION_BEGIN complete: exec answers a next state. -/
def Obligations.PowerCommandsAndTransitions : Prop :=
  (∀ (u : Ump) (s : State), MailboxInv s →
     (Arrives 0x0102 u s →
       ∃ t, exec (.pwrGetState u) s = .next t ∧ Answered 0x0102 u (goodStatus u) (powerRecord (arrived 0x0102 u s)) t ∧ ReplyOnly (arrived 0x0102 u s) t) ∧
     (Arrives 0x0103 u s → Clear 0x0103 false [] s → 16 ≤ u.data.length →
       let a := arrived 0x0103 u s
       let c : WakeConfig := ⟨u.b8 1, BitVec.ofNat 16 (u.b16 2 % 64), BitVec.ofNat 16 (u.b16 4), BitVec.ofNat 16 (u.b16 6), u.b32 8⟩
       (u.b8 0 = 0 → ∃ t, exec (.pwrSetWakeSources u) s = .next t ∧ Answered 0x0103 u (goodStatus u) (wakeBytes 0 s.power.wakeCfg) t ∧ ReplyOnly a t) ∧
       (u.b8 0 = 1 → c.target ≤ 1 → c.timer ≤ 604800 → (c.sources.getLsbD 5 = true → c.timer ≠ 0) →
         ∃ t, exec (.pwrSetWakeSources u) s = .next t ∧ Answered 0x0103 u (goodStatus u) (wakeBytes 1 c) t ∧ ReplyOnly (cfgKeep 0x0103 0 0 u.payload (onPower (fun p => { p with wakeCfg := c }) a)) t)) ∧
     (Arrives 0x0104 u s → Clear 0x0104 false [] s → 8 ≤ u.data.length →
       let a := arrived 0x0104 u s
       (u.b8 0 = 0 → ∃ t, exec (.pwrSetPasr u) s = .next t ∧ Answered 0x0104 u (goodStatus u) (pasrInfo 0 a) t ∧ ReplyOnly a t) ∧
       (u.b8 0 = 1 → (u.b16 2 ≠ 0 → bit (u.b8 4) 7 = true) →
         let x := cfgKeep 0x0104 0 0 u.payload
           (onMem (fun m => { m with bankMask := BitVec.ofNat 16 (u.b16 2), segMask := BitVec.ofNat 8 (u.b8 4) }) a)
         ∃ t, exec (.pwrSetPasr u) s = .next t ∧ Answered 0x0104 u (goodStatus u) (pasrInfo 1 x) t ∧ ReplyOnly x t)) ∧
     (Arrives 0x0101 u s → Clear 0x0101 true [.power] s → 4 ≤ u.data.length → s.power.changing = false →
       (∀ k, k < 4 → locked (.bist k) s = false) → u.b8 0 ≠ pwrCode s.power.state →
       let a := arrived 0x0101 u s
       (∀ dst, (u.b8 0 = 2 ∧ dst = .standby) ∨ (u.b8 0 = 3 ∧ dst = .sleep) →
         ∃ t, exec (.pwrSetState u) s = .next t ∧ Answered 0x0101 u ST.pending [] t ∧ ReplyOnly (accept u 0x0101 [.power] (onPower (fun p => { p with target := some dst }) a)) t) ∧
       (u.b8 0 = 1 → ∃ y, Answered 0x0101 u ST.pending [] y ∧ ReplyOnly (accept u 0x0101 [.power] a) y ∧
         exec (.pwrSetState u) s = .next (drain (toQuiet y).mbox.cmdQueue (toQuiet y)) ∧
         (toQuiet y).power.state = .quiet ∧ (toQuiet y).power.domains = 0x687) ∧
       (u.b8 0 = 0 → ∃ y, Answered 0x0101 u ST.pending [] y ∧ ReplyOnly (accept u 0x0101 [.power] a) y ∧
         exec (.pwrSetState u) s = .next (drain (toRun y).mbox.cmdQueue (toRun y))))) ∧
  (∀ (s : State) (dst : PwrState), s.power.target = some dst → (dst = .standby ∨ dst = .sleep) → s.power.changing = false →
     (∀ a ∈ s.mbox.async, neverCodes.contains a.code = false) →
     ∃ t, exec (.pwrTransitionBegin []) s = .next t ∧ t.power.state = dst ∧ t.power.target = none ∧ t.power.changing = false ∧ t.power.stage = 0 ∧
       t.power.armed = true ∧ t.power.domains = (if dst = .standby then standbyDomains t.power.wakeCfg else 1) ∧
       t.power.slpLow = decide (dst = .sleep) ∧ t.pcie.linkUp = false ∧ t.mbox.pcieQueue = [] ∧ t.mbox.sinkQueue = [])

/-- The thermal rows: a level between the trip and normal is entered with its event, a trip puts every domain but
PD_AON off and asserts FAULT_OUT_N, and below 95 degC the wake sources of a tripped device are armed. The AON clock
and adaptive voltage scaling: the oscillator rows choose PD_AON's clock; a write of VOUT_COMMAND moves the core
voltage by its first whole value or, 100 us later at the earliest, one step, and its retry after 1 ms settles it; the
heartbeat counts while firmware runs. Under the hypotheses stated of each, THERMAL_LEVEL_CHANGE, THERMAL_TRIP,
THERMAL_REARM, XT32_LOSS, XT32_STARTED, XT32_START_TIMEOUT, AVS_PMBUS_STEP, AVS_WRITE_RETRY and HEARTBEAT_TICK
complete: exec answers the next state given. -/
def Obligations.ThermalClockAndVoltageRows : Prop :=
  ((∀ (sensor : Nat) (temp : Int) (s : State), s.power.state ≠ .off → s.power.tripped = false → s.power.held = false →
     (s.power.thermal = 0 → temp < 400 →
       exec (.thermalLevelChange sensor temp) s = .next (onPower (fun p => { p with temperature := temp, sensor := sensor }) (start s))) ∧
     (s.power.thermal = 0 → 400 ≤ temp → temp < 428 → powered 1 s = true →
       let t := onPower (fun p => { p with temperature := temp, sensor := sensor, thermal := 1 }) (start s)
       exec (.thermalLevelChange sensor temp) s = .next (raise 0x0106 (leBytes 1 1 ++ leBytes 1 sensor ++ wrS 2 temp) t)) ∧
     (s.power.thermal = 1 → temp < 380 → powered 1 s = true →
       let t := onPower (fun p => { p with temperature := temp, sensor := sensor, thermal := 0 }) (start s)
       exec (.thermalLevelChange sensor temp) s = .next (raise 0x0106 (leBytes 1 0 ++ leBytes 1 sensor ++ wrS 2 temp) t))) ∧
   (∀ (sensor : Nat) (temp : Int) (s : State), 460 ≤ temp → s.power.held = false →
     (s.power.state = .run ∨ s.power.state = .quiet ∨ s.power.state = .standby) →
     ∃ t, exec (.thermalTrip sensor temp) s = .next t ∧ t.power.state = .sleep ∧ t.power.domains = 1 ∧ t.power.tripped = true ∧ t.power.faultOut = true ∧ t.power.slpLow = true ∧
       t.power.armed = false ∧ t.power.thermal = 3 ∧ t.power.temperature = temp ∧ t.power.sensor = sensor ∧
       t.pcie.linkUp = false ∧ t.air.stations = [] ∧ t.sec.keys = [] ∧ t.sec.vaultSlots = s.sec.vaultSlots ∧
       t.mem.bankA = s.mem.bankA ∧ t.pending = s.pending) ∧
   (∀ (temp : Int) (s : State), s.power.tripped = true → s.power.state = .sleep → temp < 380 →
     exec (.thermalRearm temp) s =
       .next (onPower (fun p => { p with armed := true, thermal := 0, temperature := temp }) (start s)))) ∧
  ((∀ s : State, powered 0 s = true → s.power.xt32Starting = false →
     exec .xt32Loss s = .next (onPower (fun p => { p with aonRc := true }) (start s))) ∧
   (∀ s : State, s.power.state ≠ .off → s.power.xt32Starting = true →
     exec .xt32Started s = .next (onPower (fun p => { p with aonRc := false, xt32Starting := false }) (start s)) ∧
     exec .xt32StartTimeout s = .next (onPower (fun p => { p with aonRc := true, xt32Starting := false }) (start s))) ∧
   (∀ (target : Nat) (s : State), powered 1 s = true → s.power.avsRetry = false → 130 ≤ target → target ≤ 170 →
     (s.power.avsNow = 0 ∨ ((target = s.power.avsNow + 1 ∨ target + 1 = s.power.avsNow) ∧ s.power.avsAt + 100000 ≤ runTime s)) →
     exec (.avsPmbusStep target true) s =
       .next (onPower (fun p => { p with avsTarget := target, avsNow := target, avsRetry := false, avsAt := runTime s }) (start s)) ∧
     exec (.avsPmbusStep target false) s =
       .next (onPower (fun p => { p with avsTarget := target, avsRetry := true, avsAt := runTime s }) (start s))) ∧
   (∀ s : State, s.power.avsRetry = true → s.power.avsAt + 1000000 ≤ runTime s →
     exec (.avsWriteRetry true) s = .next (transientFault 0x0106 (thermalPayload s.power.thermal s)
       (onPower (fun p => { p with avsNow := p.avsTarget, avsRetry := false }) (start s))) ∧
     (2 ≤ s.power.thermal → exec (.avsWriteRetry false) s = .next (lastingFault 0x0106 (thermalPayload 2 s) false
       (onPower (fun p => { p with avsTarget := p.avsNow, avsRetry := false, avsLimit := true }) (start s))))) ∧
   (∀ s : State, powered 1 s = true → (s.power.stage = 3 ∨ s.power.stage = 4 ∨ s.power.stage = 5) → s.power.mpxHalted ≠ 3 →
     exec .heartbeatTick s = .next (onMbox (fun m => { m with heartbeat := inc 32 m.heartbeat }) (start s))))

/-- Every reset row boots the active slot where the device and the image are good: a power-on, a brown-out in low
power, the two kinds of RESET_CTL, a function-level reset, and the resets due after FWU_ACTIVATE and a lifecycle
token. Under the hypotheses stated of each, POWER_ON_RESET, AON_BROWNOUT, RESET_CTL_DEVICE_RESET,
RESET_CTL_FULL_RESET, FUNCTION_LEVEL_RESET, FWU_TRIAL_RESET and LIFECYCLE_RESET complete: exec answers a next state.
-/
def Obligations.ResetsBootTheActiveSlot : Prop :=
  ∀ (b : Boot) (s : State),
    (GoodRelease b (b.bootSel % 4) s →
      (∃ t, exec (.powerOnReset b) s = .next t ∧ Booted b s t ∧ t.mem.cycles = inc 24 s.mem.cycles ∧ t.power.brownoutLatch = false) ∧
      (s.power.state = .sleep → s.power.held = false →
        ∃ t, exec (.aonBrownout b) s = .next t ∧ t.power.stage = 2 ∧ t.mem.cycles = inc 24 s.mem.cycles ∧
          t.mem.brownouts = inc 32 s.mem.brownouts ∧ t.power.brownoutLatch = true ∧ t.pending = s.pending) ∧
      (s.power.mpxHalt = none →
        (∀ v : Word32, reachable s = true → v.toNat = 0xC1A00002 → ∃ t, exec (.resetCtlFullReset v b) s = .next t ∧ Booted b s t) ∧
        (s.power.pendingReset = 1 → s.power.resetAt ≤ runTime s → ∃ t, exec (.fwuTrialReset b) s = .next t ∧ Booted b s t) ∧
        (s.power.pendingReset = 2 → s.power.resetAt ≤ runTime s → ∃ t, exec (.lifecycleReset b) s = .next t ∧ Booted b s t))) ∧
    (GoodRelease b s.power.bootSel s → s.power.mpxHalt = none →
      (∀ v : Word32, reachable s = true → v.toNat = 0xC1A00001 →
        ∃ t, exec (.resetCtlDeviceReset v b) s = .next t ∧ Booted b s t ∧ t.power.bootSel = s.power.bootSel ∧ t.power.devIdx = s.power.devIdx) ∧
      (powered 1 s = true → s.pcie.linkUp = true → s.pcie.perst = false → s.power.held = false →
        ∃ t, exec (.functionLevelReset b) s = .next t ∧ Booted b s t))

/-- The remaining rows of power and reset: the loss of VIN_AON leaves only the Felt store and the OTP, TEST0 high
holds the device, the last section's digest releases MPX, and limp firmware reaches stage 0x05. A trigger of an armed
source in STANDBY or SLEEP starts the wake: its source, port and index stand in WAKE_LAST, the wake is counted, SLP_N
rises, and the sequence waits for step 1 from SLEEP or step 4 from STANDBY. The wake sequence: a step's ready signal
begins the next step, with a transient failure counted where the step needed its retry; the last one has firmware
resume at stage 0x03 where the retained set is there; a first timeout schedules the retry; the retry delay ends; a
second timeout is lasting, and at step 1 keeps the device asleep with FAULT_OUT_N asserted. Under the hypotheses
stated of each, VIN_AON_LOSS, TEST0_HOLD, MPX_RELEASE, LIMP_FIRMWARE_READY, HOST_WAKE_N_WAKE, GPIO_WAKE,
AON_TIMER_WAKE, DRIZZLE_WAKE_FRAME, MAGIC_PACKET_MATCH, MGT_HOST_WAKE_FRAME, WAKE_PATTERN_MATCH, WAKE_STEP_READY,
WAKE_STEP_TIMEOUT and WAKE_RETRY_DELAY_EXPIRY complete: exec answers a next state. -/
def Obligations.SupplyBootAndWakeRows : Prop :=
  ((∀ s : State, ∃ t, exec .vinAonLoss s = .next t ∧ t.power = { Power.reset with state := .off } ∧ t.pcie.linkUp = false ∧ t.air = Air.reset ∧ t.wire = Wire.reset ∧
     t.mbox = Mbox.reset ∧ t.rings = [] ∧ t.sec.keys = [] ∧ t.sec.pmksa = [] ∧ t.sec.secret = s.sec.secret ∧
     t.mem.bankA = s.mem.bankA ∧ t.evr.records = s.evr.records ∧ t.fwu.active = s.fwu.active ∧ t.pending = s.pending) ∧
   (∀ (cause : Nat) (s : State), cause < 3 → ∃ t, exec (.test0Hold cause) s = .next t ∧ t.power.held = true ∧ t.power.domains = 1 ∧ t.power.stage = 0 ∧ reachable t = false ∧ t.pending = s.pending) ∧
   (∀ s : State, s.power.stage = 2 → exec .mpxRelease s = .next (onPower (fun p => { p with stage := 3 }) (start s))) ∧
   (∀ (aon : Nat) (s : State), s.power.limp = true → s.power.stage = 0 → ∃ t, exec (.limpFirmwareReady aon) s = .next t ∧ t.power.stage = 5 ∧ t.power.reports = [] ∧ t.clock.servo = .free ∧ t.air = s.air ∧ t.sec = s.sec ∧ t.mem = s.mem)) ∧
  (∀ (s : State) (same : Bool), s.power.armed = true → s.power.wake = .none →
     let woken := fun (src port index : Nat) => onPower (fun p =>
       { p with wakeSource := src, wakePort := port, wakeIndex := index, wakes := inc 32 p.wakes, wake := .waiting
                wakeStep := if p.state = .sleep then 1 else 4, wakeFailed := false, wakeFrom := p.state, slpLow := false }) (start s)
     ((s.power.state = .standby ∨ s.power.state = .sleep) →
       exec (.hostWakeNWake same) s = .next (woken 6 0 0) ∧
       (∀ gpio, s.power.armedCfg.sources.getLsbD 4 = true → s.power.armedCfg.gpioMask.getLsbD gpio = true →
         exec (.gpioWake gpio (s.power.armedCfg.gpioPolarity.getLsbD gpio) same) s = .next (woken 3 0 gpio)) ∧
       (∀ aon, s.power.armedCfg.sources.getLsbD 5 = true → s.power.armedCfg.timer * 32768 ≤ aon → exec (.aonTimerWake aon same) s = .next (woken 5 0 0))) ∧
     (s.power.state = .standby →
       (∀ f, powered 8 s = true → drzDest f s = 0 → s.power.armedCfg.sources.getLsbD 3 = true →
         exec (.drizzleWakeFrame f same) s = .next (woken 4 0 0)) ∧
       (∀ index, powered 9 s = true → (index = s.power.devIdx ∨ index = 0xFFFF) → s.power.armedCfg.sources.getLsbD 2 = true →
         exec (.mgtHostWakeFrame index same) s = .next (matchXoff (woken 7 0 0))) ∧
       (∀ port frame p, powered 9 s = true → Tab.look s.wire.ports port = some p → p.state = .up → p.magic = true →
         occursIn (magicBytes p.magicMac) frame = true → s.power.armedCfg.sources.getLsbD 1 = true →
         exec (.magicPacketMatch port frame same) s = .next (matchXoff (woken 2 port 0))) ∧
       (∀ port frame p k w, powered 9 s = true → Tab.look s.wire.ports port = some p → p.state = .up →
         p.patterns = [(k, w)] → patternMatches w frame = true → s.power.armedCfg.sources.getLsbD 0 = true →
         exec (.wakePatternMatch port frame same) s = .next (matchXoff (woken 1 port k))))) ∧
  (∀ (b : Boot) (s : State),
     (s.power.wake = .waiting →
       (s.power.wakeFailed = false → s.power.wakeStep < 5 →
         exec (.wakeStepReady b) s =
           .next (onPower (fun p => { p with wakeStep := s.power.wakeStep + 1, wakeFailed := false }) (start s))) ∧
       (s.power.wakeFailed = true → s.power.wakeStep < 5 →
         exec (.wakeStepReady b) s = .next (onPower (fun p => { p with wakeStep := s.power.wakeStep + 1, wakeFailed := false })
           (wakeFail s.power.wakeStep 0 0 (start s)))) ∧
       (s.power.wakeFailed = false → s.power.wakeStep = 5 → s.power.tripped = false → s.power.coldWake = false →
         retainedCovered s = true →
         ∃ t, exec (.wakeStepReady b) s = .next t ∧ t.power.wake = .resuming ∧ t.power.stage = 3 ∧ t.power.pcieWakeLow = true ∧ t.power.armed = false ∧
           t.power.domains = (if s.power.armedCfg.target = 1 then 0x687 else 0x7FF) ∧ t.air = s.air ∧ t.mem = s.mem ∧ t.wire = s.wire) ∧
       (s.power.wakeFailed = false →
         exec (.wakeStepTimeout b) s = .next (onPower (fun p => { p with wakeFailed := true, wake := .delay }) (start s))) ∧
       (s.power.wakeFailed = true → s.power.wakeStep = 1 →
         exec (.wakeStepTimeout b) s = .next (onPower (fun p =>
           { p with wake := .none, wakeStep := 0, wakeFailed := false, faultOut := true, slpLow := true })
           (wakeFail 1 1 1 (start s))))) ∧
     (s.power.wake = .delay →
       exec .wakeRetryDelayExpiry s = .next (onPower (fun p => { p with wake := .waiting }) (start s))))

/-- Doorbells, masks and the event ring of BAR0: a doorbell of a Free slot queues its message and one of any other
slot is ignored; clearing a doorbell bit frees its slot; unmasking a set bit sends vector 0; the host's event index
moves forward only as far as the device's. The ring registers: the producer index the host owns, the consumer index of
the completion ring, the enable and disable bits, the read-to-clear drop count, and the coalescing timer. Under the
hypotheses stated of each, HOST_DOORBELL_WRITE, DEV_DOORBELL_CLEAR, IRQ_MASK_WRITE, EVT_CONS_WRITE, RING_PROD_WRITE,
RING_CONS_WRITE, RING_ENABLE, RING_DISABLE, RING_DROPS_READ and RING_COALESCE_TIMEOUT complete: exec answers the next
state given. -/
def Obligations.MailboxAndRingRegisterWrites : Prop :=
  (∀ (v : Word32) (s : State), reachable s = true →
     (let n := v.toNat % 16
      let m := parseMsg (.pcie n) (Cells.readAll s.mbox.mem (0x1000 + n * 0x100) 256)
      (s.mbox.slots.getD n .free ≠ .free → exec (.hostDoorbellWrite v) s = .next (start s)) ∧
      (s.mbox.slots.getD n .free = .free → s.mbox.cmdQueue = [] → m.type = 1 → (servedCodes s.power.stage).contains m.code = true →
       exec (.hostDoorbellWrite v) s =
         .next (onMbox (fun b => { b with cmdQueue := [m], slots := b.slots.set n .queued }) (start s)))) ∧
     (exec (.devDoorbellClear v) s = .next (onMbox (fun b =>
       { b with devDoorbell := b.devDoorbell &&& ~~~v
                slots := b.slots.mapIdx fun n x => if (b.devDoorbell &&& v).getLsbD n then .free else x }) (start s))) ∧
     (let w := v &&& 0x0007FFFF
      let t := onMbox (fun b => { b with irqMask := w }) (start s)
      (s.mbox.devDoorbell &&& s.mbox.irqMask &&& ~~~w = 0 → exec (.irqMaskWrite v) s = .next t) ∧
      (s.mbox.devDoorbell &&& s.mbox.irqMask &&& ~~~w ≠ 0 → exec (.irqMaskWrite v) s = .next (msix 0 t))) ∧
     (let i := v.toNat % 65536
      ((s.mbox.evtProd + 65536 - s.mbox.evtCons) % 65536 < (i + 65536 - s.mbox.evtCons) % 65536 →
       exec (.evtConsWrite v) s = .next (start s)) ∧
      ((i + 65536 - s.mbox.evtCons) % 65536 ≤ (s.mbox.evtProd + 65536 - s.mbox.evtCons) % 65536 → s.mbox.pcieDropped = 0 →
       exec (.evtConsWrite v) s = .next (onMbox (fun b => { b with evtCons := i }) (start s))))) ∧
  (∀ (r : Nat) (v : Word32) (s : State),
     (reachable s = true →
       (r ≤ 32 → ((ring r s).enable = false ∨ ahead v.toNat (ring r s).cons ≤ ringSize (ring r s)) →
         exec (.ringProdWrite r v) s = .next (onRing r (fun q => { q with prod := v.toNat }) (start s))) ∧
       (r ≤ 32 → (ring r s).enable = true → ringSize (ring r s) < ahead v.toNat (ring r s).cons →
         exec (.ringProdWrite r v) s = .next (ringStop r 1 v.toNat (onRing r (fun q => { q with prod := v.toNat }) (start s)))) ∧
       (((ring 33 s).enable = false ∨ ahead (ring 33 s).prod v.toNat ≤ ringSize (ring 33 s)) → s.tds.hold = [] →
         exec (.ringConsWrite 33 v) s = .next (onRing 33 (fun q => { q with cons := v.toNat }) (start s))) ∧
       (r ≤ 33 → s.power.limp = false → (ring r s).enable = false → (ring r s).base % 64 = 0 → 6 ≤ (ring r s).log2 →
         (ring r s).log2 ≤ 16 → ahead (ring r s).prod (ring r s).cons ≤ ringSize (ring r s) → s.tds.hold = [] →
         exec (.ringEnable r v) s = .next (onRing r (fun q =>
           { q with enable := true, idle := false, count := v.toNat / 256 % 256, time := v.toNat / 65536 }) (start s))) ∧
       (r ≤ 33 → s.power.limp = false → (ring r s).enable = false →
         ((ring r s).base % 64 ≠ 0 ∨ (ring r s).log2 < 6 ∨ 16 < (ring r s).log2) →
         exec (.ringEnable r v) s = .next (ringStop r 3 0 (onRing r (fun q =>
           { q with count := v.toNat / 256 % 256, time := v.toNat / 65536 }) (start s)))) ∧
       (r ≤ 33 → exec (.ringDisable r v) s = .next (onRing r (fun q =>
         { q with count := v.toNat / 256 % 256, time := v.toNat / 65536, enable := false, idle := q.idle || !q.inProgress }) (start s))) ∧
       (r ≤ 33 → exec (.ringDropsRead r) s = .next (onRing r (fun q => { q with drops := 0 })
         (emit (.read (BitVec.ofNat 32 (ringStat (ring r s)))) (start s))))) ∧
     ((ring r s).unsignalled ≠ 0 → (ring r s).time ≠ 0 →
       exec (.ringCoalesceTimeout r) s =
         .next (msix (r + 1 - b2n (decide (32 < r))) (onRing r (fun q => { q with unsignalled := 0 }) (start s)))))

/-- The register write of any address acts by its register's access code: a stored register takes the value, a
register with a row of its own acts as that row, RESET_CTL resets by its key and kind, a write-one-to-clear bit is
cleared, a CMD_SLOT that is not Queued takes the bytes, and an offset without a register, a read-only register or a
ring's base under ENABLE keeps everything. The check-value units: a write of CVUn_CTL with INIT seeds the running
value, a write of CVUn_DATA feeds it the bytes, and one with FINISH compares RESULT with EXPECT and reports a mismatch
of the device's own units. Under the hypotheses stated of each, REGISTER_WRITE, CVU_INIT, CVU_DATA_WRITE and
CVU_FINISH complete: exec answers the next state given. -/
def Obligations.RegisterAccessAndCheckValueUnits : Prop :=
  (∀ (v : Word32) (b : Boot) (s : State), reachable s = true →
     exec (.registerWrite .bar0 0x1C 4 v b) s = .next (onMbox (fun b => { b with scratch := v }) (start s)) ∧
     exec (.registerWrite .bar0 0x18 4 v b) s = exec (.irqMaskWrite v) s ∧
     exec (.registerWrite .bar0 0x10 4 v b) s = exec (.hostDoorbellWrite v) s ∧
     exec (.registerWrite .bar0 0x14 4 v b) s = exec (.devDoorbellClear v) s ∧
     exec (.registerWrite .bar0 0x34 4 v b) s = exec (.evtConsWrite v) s ∧
     exec (.registerWrite .bar0 0x40 4 v b) s = exec (.evrCursorWrite v) s ∧
     exec (.registerWrite .bar0 0x44 4 v b) s =
       .next (onEvr (fun r => { r with page := v.toNat % 4, next := v.getLsbD 2 }) (start s)) ∧
     (resetKind v = 1 → exec (.registerWrite .bar0 0x28 4 v b) s = exec (.resetCtlDeviceReset v b) s) ∧
     (resetKind v = 2 → exec (.registerWrite .bar0 0x28 4 v b) s = exec (.resetCtlFullReset v b) s) ∧
     (resetKind v = 0 → exec (.registerWrite .bar0 0x28 4 v b) s = .next (start s)) ∧
     (v.getLsbD 31 = true → exec (.registerWrite .bar0 0x2C 4 v b) s = .next (onMbox (fun b => { b with accValid := false }) (start s))) ∧
     (∀ o ∈ ([0x00, 0x04, 0x08, 0x0C, 0x20, 0x24, 0x30, 0x38, 0x3C, 0x48, 0x4C, 0x80, 0xBC] : List Nat),
       exec (.registerWrite .bar0 o 4 v b) s = .next (start s)) ∧
     (∀ o w, 0x1000 ≤ o → o + w ≤ 0x2000 → s.mbox.slots.getD ((o - 0x1000) / 0x100) .free ≠ .queued →
       exec (.registerWrite .bar0 o w v b) s =
         .next (onMbox (fun b => { b with mem := Cells.writeAll b.mem o (leBytes w v.toNat) }) (start s))) ∧
     (∀ r, r < 34 →
       (exec (.registerWrite .bar2 (r * 0x100 + 0x10) 4 v b) s = exec (.ringProdWrite r v) s) ∧
       (exec (.registerWrite .bar2 (r * 0x100 + 0x14) 4 v b) s = exec (.ringConsWrite r v) s) ∧
       (v.getLsbD 0 = true → exec (.registerWrite .bar2 (r * 0x100 + 0x0C) 4 v b) s = exec (.ringEnable r v) s) ∧
       (v.getLsbD 0 = false → exec (.registerWrite .bar2 (r * 0x100 + 0x0C) 4 v b) s = exec (.ringDisable r v) s) ∧
       ((ring r s).enable = false → exec (.registerWrite .bar2 (r * 0x100 + 0x08) 4 v b) s =
         .next (onRing r (fun q => { q with log2 := v.toNat % 32 }) (start s))) ∧
       ((ring r s).enable = true → exec (.registerWrite .bar2 (r * 0x100 + 0x08) 4 v b) s = .next (start s)))) ∧
  (∀ (n : Nat) (v : Word32) (s : State), powered 1 s = true →
     (v.getLsbD 3 = false → exec (.cvuInit n v) s =
       .next (onCvu n (fun c => { c with state := cvInit c.poly })
         (onCvu n (fun c => { c with poly := v.toNat % 4, irqEn := bit v.toNat 4 }) (start s)))) ∧
     (∀ d : Bytes, (d.length = 1 ∨ d.length = 2 ∨ d.length = 4) →
       exec (.cvuDataWrite n d) s = .next (onCvu n (fun c => { c with state := cvFeed c.poly c.state d }) (start s))) ∧
     (v.getLsbD 2 = false →
       let t := onCvu n (fun c => { c with poly := v.toNat % 4, irqEn := bit v.toNat 4 }) (start s)
       (cvuResult (cvu n t) = (cvu n t).expect ∨ n = 0 ∨ n = 3 → exec (.cvuFinish n v) s = .next (onCvu n cvuCompare t)) ∧
       (cvuResult (cvu n t) ≠ (cvu n t).expect → (n = 1 ∨ n = 2) →
         exec (.cvuFinish n v) s = .next (raise 0x0907 (cvuPayload n (cvu n t)) (onCvu n cvuCompare t)))))

/-- The commands of the memory group: MEM_GET_INFO answers its record; CFG_COMMIT is accepted with the shadow in the
bank that is not active, or with both banks invalidated; CFG_READ answers both headers or writes a valid bank to the
host; CVU_RUN feeds unit 3 and answers its result. -/
def Obligations.MemoryCommandsAnswer : Prop :=
  ∀ (u : Ump) (s : State), MailboxInv s →
    (Arrives 0x0901 u s → Clear 0x0901 false [] s →
      Succeeds (.memGetInfo u) 0x0901 u (memInfo (arrived 0x0901 u s)) (arrived 0x0901 u s) s) ∧
    (Arrives 0x0902 u s → Clear 0x0902 true [.bank 0, .bank 1] s → 4 ≤ u.data.length →
      let a := arrived 0x0902 u s
      (u.b8 0 = 0 → (bankBody s.mem.shadow).length ≤ 262112 →
        Pends (.cfgCommit u) 0x0902 u [.bank 0, .bank 1]
          (setBank (commitBank s) ⟨0, 0, commitSeq s, 0, fwVer s, s.mem.shadow⟩ a) s) ∧
      (u.b8 0 = 1 → u.force = true →
        Pends (.cfgCommit u) 0x0902 u [.bank 0, .bank 1]
          a s)) ∧
    (Arrives 0x0903 u s → Clear 0x0903 false [] s →
      let a := arrived 0x0903 u s
      (u.b8 0 = 0 → 2 ≤ u.data.length →
        Succeeds (.cfgRead u) 0x0903 u (bankHeader s.mem.bankA ++ bankHeader s.mem.bankB ++ leBytes 1 (s.mem.active.getD 0xFF)) a s) ∧
      (u.b8 0 = 1 → 16 ≤ u.data.length → u.b8 1 ≤ 1 → u.b64 8 % 4 = 0 → u.b64 8 ≠ 0 → bankValid (bank (u.b8 1) s) = true →
        u.env.wr = .ok →
        let b := bankBytes (bank (u.b8 1) s)
        Succeeds (.cfgRead u) 0x0903 u (leBytes 4 b.length) (emit (.dma (u.b64 8) b) a) s)) ∧
    (Arrives 0x0904 u s → Clear 0x0904 false [] s → 16 ≤ u.data.length → u.b8 0 ≤ 3 → bit (u.b8 1) 1 = false →
      let c : Cvu := { cvu 3 s with
        poly := u.b8 0, expect := BitVec.ofNat 32 (u.b32 8)
        state := cvFeed (u.b8 0) (if bit (u.b8 1) 0 then cvInit (u.b8 0) else BitVec.ofNat 32 (u.b32 4)) (u.data.drop 16) }
      Succeeds (.cvuRun u) 0x0904 u
        (leBytes 4 (cvuState c).toNat ++ leBytes 4 (cvuResult c).toNat ++ leBytes 4 0xFF ++ leBytes 4 (u.data.drop 16).length)
        (onCvu 3 (fun _ => c) (arrived 0x0904 u s)) s)

/-- DRAM training and refresh: drift is detected at its limit, a step ends, the last one ends the retraining and
reports it, a failed step is retried and a second failure is lasting, and a bank is refreshed once its interval has
passed. The end of a bank write: the bank written becomes active with its magic and its CRC, the command ends with the
bank, its sequence, length and CRC, and EV_CFG_COMMITTED follows; a failed read-back ends the command ST_FAULT_LASTING
and leaves every bank; Mode 1 leaves both banks erased and none active. -/
def Obligations.DramAndBankRows : Prop :=
  (∀ (c : Nat) (s : State),
     (∀ temp : Int, powered 10 s = true → (channel c s).trained = true → (channel c s).steps = 0 → (channel c s).lasting = false →
       80 ≤ (temp - (channel c s).trainedAt).natAbs →
       exec (.dramDriftDetect c temp) s =
         .next (onChannel c (fun x => { x with temperature := temp, steps := 400, failed := false }) (start s))) ∧
     (1 < (channel c s).steps → (channel c s).failed = false →
       exec (.dramRetrainStep c true) s =
         .next (onChannel c (fun x => { x with steps := x.steps - 1, failed := false }) (start s))) ∧
     ((channel c s).steps = 1 → (channel c s).failed = false →
       exec (.dramRetrainStep c true) s =
         .next (raise 0x0904 (retrainPayload (2 ^ c) 0 0 (channel c s).temperature) (onMem (fun m => { m with drifts := inc 32 m.drifts })
           (onChannel c (fun x => { x with trainedAt := x.temperature, lasting := false })
             (onChannel c (fun x => { x with steps := x.steps - 1, failed := false }) (start s)))))) ∧
     ((channel c s).steps ≠ 0 → (channel c s).failed = false →
       exec (.dramRetrainStep c false) s = .next (onChannel c (fun x => { x with failed := true }) (start s))) ∧
     ((channel c s).steps ≠ 0 → (channel c s).failed = true →
       exec (.dramRetrainStep c false) s =
         .next (lastingFault 0x0904 (retrainPayload (2 ^ c) 0 1 (channel c s).temperature) true
           (onChannel c (fun x => { x with steps := 0, failed := false, lasting := true }) (start s)))) ∧
     (∀ b : Nat, powered 10 s = true → (channel c s).trained = true →
       (channel c s).refreshAt.getD b 0 + refreshInterval (channel c s).temperature ≤ runTime s →
       exec (.dramRefresh c b) s = .next (onChannel c (fun x => { x with refreshAt := x.refreshAt.set b (runTime s) }) (start s)))) ∧
  (∀ (a : AsyncCmd) (s : State), firstAsync 0x0902 s = some a →
     let a' : AsyncCmd := { a with retried := false }
     let s1 := setAsync a a' (start s)
     (rd a.payload 0 1 = 0 →
       let n := commitBank s
       let b0 : CfgBank := { bank n s with magic := 0x4746435A, format := 1 }
       let b : CfgBank := { b0 with crc := bankCrc b0 }
       let len := (bankBody b.body).length
       exec (.cfgBankWritten .ok true) s = .next (raise 0x0905 (leBytes 4 n ++ leBytes 4 b.sequence ++ leBytes 4 len)
         (endAsync a' ST.ok (leBytes 4 n ++ leBytes 4 b.sequence ++ leBytes 4 len ++ leBytes 4 b.crc)
           (onMem (fun m => { m with active := some n }) (setBank n b s1)))) ∧
       exec (.cfgBankWritten .ok false) s = .next (endAsync a' ST.faultLasting [] s1)) ∧
     (rd a.payload 0 1 = 1 →
       (∀ readBack, exec (.cfgBankWritten .ok readBack) s = .next (endAsync a' ST.ok (leBytes 4 0xFF ++ leBytes 12 0)
         (onMem (fun m => { m with bankA := zeroGranule m.bankA, bankB := zeroGranule m.bankB, active := none }) s1)))))

/-- Errors of the memories: an uncorrectable read that its retry reads right is transient, and one that fails is
lasting, retires its page and reaches its reader; the scrub counts what it corrects and its passes; a granule's
rewrite is transient or lasting, and one of the locked limit table refused and counted. A page is retired once, with
its cause; pages of the cell pool take their 16 cells with them, those that frames hold as the frames leave, and at
256 pages the list is full and the page is only reported. -/
def Obligations.MemoryErrorsAndRetirement : Prop :=
  (∀ s : State,
     (powered 10 s = true → ∀ addr reader obj : Nat,
       exec (.eccReadRetry addr reader obj true) s =
         .next (transientFault 0x0902 (leBytes 8 addr ++ leBytes 1 reader)
           (onMem (fun m => { m with uncTransient := inc 32 m.uncTransient }) (start s))) ∧
       exec (.eccReadRetry addr reader obj false) s =
         .next (eccReader reader obj (retirePage (addr / 4096) 0 (reader == 1)
           (lastingFault 0x0902 (leBytes 8 addr ++ leBytes 1 reader) true
             (onMem (fun m => { m with uncLasting := inc 32 m.uncLasting }) (start s)))))) ∧
     (powered 10 s = true →
       exec (.patrolScrub [] [] true) s = .next (onMem (fun m => { m with scrubs := inc 32 m.scrubs }) (start s)) ∧
       (∀ addr pool, Tab.getD s.mem.pageErrors (addr / 4096) 0 < 7 →
         exec (.patrolScrub [(addr, pool)] [] false) s = .next (eccCorrected addr (start s)))) ∧
     (∀ addr : Nat, feltRefuses addr s = false →
       exec (.mramWriteRetry addr true) s = .next (transientFault 0x0908 (leBytes 4 addr ++ leBytes 1 0)
         (onMem (fun m => { m with mramTransient := inc 32 m.mramTransient }) (start s))) ∧
       exec (.mramWriteRetry addr false) s = .next (lastingFault 0x0908 (leBytes 4 addr ++ leBytes 1 0) true
         (onMem (fun m => { m with mramLasting := inc 32 m.mramLasting }) (start s)))) ∧
     (∀ addr ok, s.mem.lltRefuse = true → 0x3000 ≤ addr → addr ≤ 0x3FFF →
       exec (.mramWriteRetry addr ok) s = .next (onMem (fun m => { m with lltRefused := inc 32 m.lltRefused }) (start s)))) ∧
  (∀ (page cause : Nat) (pool : Bool) (s : State),
     let t := retirePage page cause pool s
     ((s.mem.retired.any fun r => r.1 == page) = true → t = s) ∧
     ((s.mem.retired.any fun r => r.1 == page) = false → s.mem.retired.length < 256 →
       t.mem = { s.mem with retired := s.mem.retired ++ [(page, cause)] } ∧
       t.qme.poolSize = (if pool then s.qme.poolSize - 16 else s.qme.poolSize) ∧
       t.qme.poolFree = (if pool then s.qme.poolFree - 16 else s.qme.poolFree) ∧
       t.qme.poolOwed = (if pool then s.qme.poolOwed + (16 - s.qme.poolFree) else s.qme.poolOwed)) ∧
     (256 ≤ s.mem.retired.length → t.mem = s.mem ∧ t.qme = s.qme))

/-- The commands of the recorder: EVR_GET_INFO and EVR_READ answer records, EVR_SET_POLICY reads or sets and keeps the
policy, and EVR_CLEAR with a token that holds consumes the challenge and is accepted, the recorder clearing. -/
def Obligations.RecorderCommandsAnswer : Prop :=
  ∀ (u : Ump) (s : State), MailboxInv s →
    (Arrives 0x0A01 u s → Succeeds (.evrGetInfo u) 0x0A01 u (evrInfo (arrived 0x0A01 u s)) (arrived 0x0A01 u s) s) ∧
    (Arrives 0x0A05 u s → Clear 0x0A05 false [] s → 20 ≤ u.data.length → u.b16 4 ≠ 0 → u.b64 8 = 0 →
      let a := arrived 0x0A05 u s
      let got := takeFitting 228 (u.b16 4) (readFrom (u.b32 0) a.evr)
      let next := match got.getLast? with
        | some x => inc 32 x.ordinal
        | none => if (readFrom (u.b32 0) s.evr).isEmpty && !beyond (u.b32 0) s.evr then s.evr.count else u.b32 0
      Succeeds (.evrRead u) 0x0A05 u
        (leBytes 4 got.length ++ leBytes 4 next ++ leBytes 4 ((got.map readEntry).flatten).length ++ (got.map readEntry).flatten) a s) ∧
    (Arrives 0x0A02 u s → Clear 0x0A02 false [.recorder] s → 8 ≤ u.data.length →
      let a := arrived 0x0A02 u s
      (u.b8 0 = 0 → Succeeds (.evrSetPolicy u) 0x0A02 u
        (leBytes 1 0 ++ leBytes 1 a.evr.repeatWindow ++ leBytes 1 a.evr.limit ++ leBytes 1 0 ++ leBytes 2 a.evr.period ++ leBytes 2 0) a s) ∧
      (u.b8 0 = 1 → 1 ≤ u.b8 1 → u.b8 1 ≤ 60 → 4 ≤ u.b8 2 → u.b8 2 ≤ 64 → 10 ≤ u.b16 4 → u.b16 4 ≤ 600 →
        Succeeds (.evrSetPolicy u) 0x0A02 u
          (leBytes 1 1 ++ leBytes 1 (u.b8 1) ++ leBytes 1 (u.b8 2) ++ leBytes 1 0 ++ leBytes 2 (u.b16 4) ++ leBytes 2 0)
          (cfgKeep 0x0A02 0 0 u.payload
            (onEvr (fun r => { r with repeatWindow := u.b8 1, limit := u.b8 2, period := u.b16 4 }) a)) s)) ∧
    (Arrives 0x0A03 u s → Clear 0x0A03 true [.recorder] s → 240 ≤ u.data.length → s.sec.lifecycle ≠ .blank →
      TokenHolds u (field u.data 4 236) [5] s →
      Pends (.evrClear u) 0x0A03 u [.recorder]
        (onEvr (fun r => { r with clearing := true }) (onSec (fun c => { c with challenge := none }) (arrived 0x0A03 u s))) s)

/-- The recorder's registers and its writer: the cursor latches a record, a read of EVR_STAT answers it, the read of a
record's last word moves on where NEXT is set, the writer judges the oldest waiting occurrence, and a window whose
period is over closes, with nothing written where nothing was suppressed in it. An occurrence that the writer does not
count as a repeat, and whose code has no window full of records, becomes a record with the next ordinal: the count
advances, the record joins those kept, and the bytes of a fixed record are 16 and carry its code. EVR_CLEAR_DONE
erases the circulating area: permanent records stay, EV_LOG_CLEARED is the first record of segment 0, ordinals
continue, the clear is counted and the command ends; nothing outside the recorder and the link changes. -/
def Obligations.RecorderWritesAndClears : Prop :=
  (∀ s : State,
     (reachable s = true → ∀ v : Word32,
       exec (.evrCursorWrite v) s = .next (onEvr (fun r => latch { r with cursor := v.toNat }) (start s))) ∧
     (reachable s = true → s.evr.stat.getLsbD 13 = false →
       exec .evrStatRead s = .next (emit (.read (s.evr.stat.setWidth 32)) (start s))) ∧
     (reachable s = true →
       let len := s.evr.stat.toNat % 512
       len ≠ 0 → s.evr.page = (len - 1) / 64 →
       let t := emit (.read (BitVec.ofNat 32 (rd s.evr.window ((len - 1) / 4 * 4) 4))) (start s)
       (s.evr.next = false → exec .evrWindowAutoAdvance s = .next t) ∧
       (s.evr.next = true → exec .evrWindowAutoAdvance s =
         .next (onEvr (fun r => latch { r with cursor := inc 32 r.cursor, page := 0 }) t))) ∧
     (powered 1 s = true →
       (s.evr.queue = [] → exec .evrRecordWrite s = .next (start s)) ∧
       (s.evr.clearing = true → exec .evrRecordWrite s = .next (start s)) ∧
       (∀ o q, s.evr.queue = o :: q → s.evr.clearing = false →
         exec .evrRecordWrite s = .next (onEvr (fun r => judgeOcc o { r with queue := q }) (start s)))) ∧
     (∀ code, (∀ w ∈ s.evr.windows, w.code = code → s.mem.seconds < w.opened + w.period) →
       exec (.evrRateWindowClose code) s = .next (start s)) ∧
     (∀ w ∈ s.evr.windows, s.evr.windows.find? (fun v => v.code == w.code) = some w → w.suppressed = 0 →
       w.opened + w.period ≤ s.mem.seconds → exec (.evrRateWindowClose w.code) s =
         .next (onEvr (fun r => { r with windows := r.windows.filter fun v => v.code != w.code }) (start s)))) ∧
  (∀ (o : Occurrence) (r : Recorder), repeatOf o r = none → r.windows.find? (fun w => w.code == o.code) = none →
     r.permClosed = false → r.permNext + (occBytes o r.lostFlag).length ≤ 65536 →
     let t := judgeOcc o r
     t.count = inc 32 r.count ∧ t.newest = some r.count ∧ t.permNext = up8 (r.permNext + (occBytes o r.lostFlag).length) ∧
     t.records = r.records ++ [⟨r.count, true, 0, r.permNext, occBytes o r.lostFlag, o.seconds⟩] ∧
     t.repeats = r.repeats ∧ t.suppressed = r.suppressed ∧
     (o.fixed = true → (occBytes o r.lostFlag).length = 16 ∧ rd (occBytes o r.lostFlag) 0 2 = o.code % 2 ^ 15)) ∧
  (∀ (a : AsyncCmd) (s : State), firstAsync 0x0A03 s = some a →
     Reaches .evrClearDone s fun t =>
       (t.evr.records.filter fun x => x.permanent) = (s.evr.records.filter fun x => x.permanent) ∧
       ((t.evr.records.filter fun x => !x.permanent).map fun x => (x.ordinal, x.segment, x.offset)) = [(s.evr.count, 0, 16)] ∧
       t.evr.count = inc 32 s.evr.count ∧ t.evr.segFirst = [(0, s.evr.count)] ∧ t.evr.clears = inc 32 s.evr.clears ∧ t.evr.clearing = false ∧
       LinkOnly s t)

/-- The diagnostic commands are accepted at once, past their point of abort: DIAG_RUN with any test selected;
TST_LOOPBACK of a port that is ADMIN_DOWN; TST_BIST of the LDPC array with every slice STOPPED, its slices locked.
Tests and diagnostics end with their results: an EV_CMD_DONE with the tests that passed, or with the counts of a
loopback, whose record 0x00C8 is written; nothing but the link changes. The operating second advances its counter, and
the end of a suppression period lets the next occurrence of its object be raised. -/
def Obligations.DiagnosticsRunAndEnd : Prop :=
  (∀ (u : Ump) (s : State), MailboxInv s →
     (Arrives 0x0A04 u s → Clear 0x0A04 true [] s → 4 ≤ u.data.length → u.b8 0 % 32 ≠ 0 →
       ∃ t, exec (.diagRun u) s = .next t ∧ Answered 0x0A04 u ST.pending [] t ∧
         ReplyOnly (passPoint 0x0A04 (fun _ => true) (accept u 0x0A04 [] (arrived 0x0A04 u s))) t) ∧
     (Arrives 0x0F02 u s → Clear 0x0F02 true [.port (u.b8 0)] s → 8 ≤ u.data.length → u.b8 0 ≤ 4 → powered 9 s = true →
       u.b8 1 ≤ 2 → (u.b8 1 ≠ 0 → u.b8 0 ≠ 4) → 64 ≤ u.b16 2 → u.b16 2 ≤ 9216 → u.b32 4 ≠ 0 →
       u.b32 4 ≤ (if u.b8 1 = 2 then 3600 else 1000000) → (port (u.b8 0) s).state = .adminDown →
       ∃ t, exec (.tstLoopback u) s = .next t ∧ Answered 0x0F02 u ST.pending [] t ∧
         ReplyOnly (passPoint 0x0F02 (fun _ => true) (accept u 0x0F02 [.port (u.b8 0)] (arrived 0x0F02 u s))) t) ∧
     (Arrives 0x0F01 u s → 1 ≤ u.data.length → u.b8 0 = 0 → powered 6 s = true →
       Clear 0x0F01 true [.slice 0, .slice 1, .slice 2, .bist 0] s → (∀ n, n < 3 → (slice n s).state = .stopped) →
       ∃ t, exec (.tstBist u) s = .next t ∧ Answered 0x0F01 u ST.pending [] t ∧
         ReplyOnly (passPoint 0x0F01 (fun _ => true)
           (accept u 0x0F01 [.slice 0, .slice 1, .slice 2, .bist 0] (arrived 0x0F01 u s))) t)) ∧
  ((∀ (a : AsyncCmd) (passed : Nat) (s : State), firstAsync 0x0A04 s = some a → rd a.payload 0 1 = 1 →
     exec (.diagRunDone passed [] [] 0 0 0 []) s =
       .next (endAsync a ST.ok (leBytes 1 1 ++ leBytes 1 (passed &&& 1) ++ leBytes 2 0 ++ leBytes 4 0 ++ leBytes 4 0
         ++ wrS 4 0 ++ wrS 4 0 ++ leBytes 4 0) (start s))) ∧
   (∀ (a : AsyncCmd) (fail : Bool) (place addr sent received errored : Nat) (s : State), firstAsync 0x0F02 s = some a →
     exec (.tstDone true fail place addr sent received errored) s =
       .next (endAsync a ST.ok (leBytes 4 sent ++ leBytes 4 received ++ leBytes 4 errored)
         (record 0x00C8 (leBytes 2 0x0F02 ++ leBytes 2 (b2n fail)) false false false [] (start s)))) ∧
   (∀ s : State, (s.power.state = .run ∨ s.power.state = .quiet) → powered 1 s = true →
     Reaches .operatingSecondTick s fun t =>
       t.mem.seconds = inc 32 s.mem.seconds ∧ t.mem.correctedNow = 0 ∧ t.qme.poolDropNow = 0 ∧ t.drz.secNow = (0, 0, 0) ∧
       t.mls.fullNow = (0, 0, 0) ∧ t.mem.bankA = s.mem.bankA ∧ t.power = s.power ∧ t.air.bss = s.air.bss) ∧
   (∀ (code obj : Nat) (s : State), exec (.eventSuppressionPeriod code obj) s =
     .next (onMbox (fun m => { m with limited := m.limited.filter fun e => e != (code, obj) }) (start s))))

/-- The commands of the time group: TIM_GET answers the state of the clock; TIM_ADJUST sets the frequency, starts a
slew, steps the time where the jump is within its limit and refuses it where it is not; TIM_SET_PTP and
TIM_SET_JUMP_LIMIT read, or set and keep. -/
def Obligations.TimeCommandsAnswer : Prop :=
  ∀ (u : Ump) (s : State), MailboxInv s →
    (Arrives 0x0801 u s → Clear 0x0801 false [] s →
      ∃ d, Succeeds (.timGet u) 0x0801 u d (arrived 0x0801 u s) s ∧ rd d 0 8 = deviceTime s % 2 ^ 64 ∧ rd d 8 1 = s.clock.cfg.source % 256) ∧
    (Arrives 0x0802 u s → Clear 0x0802 false [] s → s.clock.cfg.source = 0 →
      let a := arrived 0x0802 u s
      (u.b8 0 = 1 → 8 ≤ u.data.length → (rdS u.data 4 4).natAbs ≤ 100000 →
        let x := onClock (fun c => { c with freq := rdS u.data 4 4 }) a
        Succeeds (.timAdjust u) 0x0802 u (leBytes 8 (deviceTime x) ++ wrS 8 0) x s) ∧
      (u.b8 0 = 2 → 20 ≤ u.data.length → (rdS u.data 8 8).natAbs ≤ 1000000000 → 1000 ≤ u.b32 16 → u.b32 16 ≤ 100000 →
        let x := onClock (fun c => { c with slew := rdS u.data 8 8, slewFrac := 0, slewRate := u.b32 16 }) a
        Succeeds (.timAdjust u) 0x0802 u (leBytes 8 (deviceTime x) ++ wrS 8 0) x s) ∧
      (u.b8 0 = 3 → 16 ≤ u.data.length → s.clock.isSet = true → s.clock.allowance = none → u.force = false →
        ((rdS u.data 8 8).natAbs ≤ s.clock.jumpLimit →
          let x := stepTime (rdS u.data 8 8) 0 a
          Succeeds (.timAdjust u) 0x0802 u (leBytes 8 (deviceTime x) ++ wrS 8 (rdS u.data 8 8)) x s) ∧
        (s.clock.jumpLimit < (rdS u.data 8 8).natAbs →
          Answers (.timAdjust u) 0x0802 u ST.timeJumpRefused [] (refuseJump (rdS u.data 8 8) 0 a) s))) ∧
    (Arrives 0x0803 u s → Clear 0x0803 false [] s → 28 ≤ u.data.length →
      let a := arrived 0x0803 u s
      (u.b8 0 = 0 → Succeeds (.timSetPtp u) 0x0803 u (ptpBytes 0 s.clock.cfg) a s) ∧
      (u.b8 0 = 1 → ptpArgsBad u (ptpArgs u) = false → s.clock.cfg.source = u.b8 1 → s.clock.cfg.profile = u.b8 2 →
        Succeeds (.timSetPtp u) 0x0803 u (ptpBytes 1 (ptpArgs u))
          (cfgKeep 0x0803 0 0 u.payload (onClock (fun c => { c with cfg := ptpArgs u }) a)) s) ∧
      (u.b8 0 = 1 → ptpArgsBad u (ptpArgs u) = false → s.clock.cfg.source ≠ u.b8 1 →
        Succeeds (.timSetPtp u) 0x0803 u (ptpBytes 1 (ptpArgs u))
          (cfgKeep 0x0803 0 0 u.payload (onClock newSource (onClock (fun c => { c with cfg := ptpArgs u }) a))) s)) ∧
    (Arrives 0x0804 u s → Clear 0x0804 false [] s → 8 ≤ u.data.length →
      let a := arrived 0x0804 u s
      (u.b8 0 = 0 → Succeeds (.timSetJumpLimit u) 0x0804 u (leBytes 1 0 ++ leBytes 3 0 ++ leBytes 4 s.clock.jumpLimit) a s) ∧
      (u.b8 0 = 1 → 1000 ≤ u.b32 4 → u.b32 4 ≤ 1000000000 →
        Succeeds (.timSetJumpLimit u) 0x0804 u (leBytes 1 1 ++ leBytes 3 0 ++ leBytes 4 (u.b32 4))
          (cfgKeep 0x0804 0 0 u.payload (onClock (fun c => { c with jumpLimit := u.b32 4 }) a)) s))

/-- The rows of the time unit: a wrap is counted; a slew ends with its remainder added; PPS_OUT rises and falls;
PPS_IN is captured, less the cable delay; the loss of PPS_IN, and of the announce messages, begins HOLDOVER with its
event. PTP and the servo: a received event message is stamped and a new grandmaster waits for its first measurement; a
Sync or an Announce leaves a boundary or grandmaster port with the clock class in force, a two-step port's Sync with
its Follow_Up behind it; an exchange whose stamps no step parts steers the frequency, and LOCKED is reached with the
eighth good offset. -/
def Obligations.TimeUnitAndServoRows : Prop :=
  (∀ s : State,
     (powered 1 s = true → s.clock.wrapPending = true →
       exec .timeNsWrap s = .next (onClock (fun c => { c with upper := inc 32 c.upper, wrapPending := false }) (start s))) ∧
     (s.clock.slew ≠ 0 →
       exec .slewDone s = .next (onClock (fun c => { c with slew := 0, slewFrac := 0 }) (moveTime s.clock.slew (start s)))) ∧
     (powered 1 s = true → s.clock.cfg.ppsWidth ≠ 0 →
       exec .ppsOutSecond s = .next (onClock (fun c => { c with ppsOut := true }) (emit (.pps true) (start s)))) ∧
     (s.clock.ppsOut = true →
       exec .ppsOutWidthEnd s = .next (onClock (fun c => { c with ppsOut := false }) (emit (.pps false) (start s)))) ∧
     (timeRuns s = true →
       (s.clock.cfg.source ≠ 2 → ∀ freq : Int, exec (.ppsInCapture freq) s =
         .next (onClock (fun c => { c with ppsIn := ofSigned 64 ((deviceTime s : Int) - s.clock.cfg.cable), ppsPresent := true
                                           ppsSecond := none }) (start s))) ∧
       (s.clock.cfg.source ≠ 2 → exec .ppsInLoss s = .next (onClock (fun c => { c with ppsPresent := false }) (start s))) ∧
       (s.clock.cfg.source = 2 → s.clock.servo ≠ .holdover → exec .ppsInLoss s =
         .next (raise 0x0803 (leBytes 1 1 ++ leBytes 1 2) (onClock (fun c =>
           { c with ppsPresent := false, servo := .holdover, good := 0, freq := meanFreq c.lockedFreqs c.freq }) (start s)))) ∧
       (s.clock.cfg.source = 1 → s.clock.servo ≠ .holdover → exec .announceTimeout s =
         .next (raise 0x0803 (leBytes 1 1 ++ leBytes 1 0) (onClock (fun c =>
           { c with servo := .holdover, good := 0, freq := meanFreq c.lockedFreqs c.freq }) (start s)))))) ∧
  (∀ (s : State), timeRuns s = true → s.clock.cfg.source = 1 →
     (∀ port event, bit s.clock.cfg.ports port = true →
       let t := if event then onClock (fun c => { c with exchange := some (c.exchange.getD (deviceTime s, c.steps)) }) (start s) else start s
       exec (.ptpMessageReceive port event none) s = .next t ∧
       (∀ id, id ≠ s.clock.grandmaster → exec (.ptpMessageReceive port event (some id)) s =
         .next (onClock (fun c => { c with gmPending := some id }) t))) ∧
     (∀ p kind, bit s.clock.cfg.ports p = true → (port p s).state = .up → s.clock.cfg.role ≠ 0 → (kind = 0 ∨ kind = 1) →
       let sent := emit (.ptp p kind (announcedClass s.clock) (deviceTime s)) (start s)
       exec (.ptpMessageSend p kind) s = .next (if kind = 0 ∧ (p < 4 → bit s.clock.cfg.oneStep p = false)
         then emit (.ptp p 4 (announcedClass s.clock) (deviceTime s)) sent else sent)) ∧
     (∀ (off freq : Int) (stamp : Nat), s.clock.exchange = some (stamp, s.clock.steps) → off.natAbs < 100 → s.clock.servo ≠ .holdover →
       s.clock.gmPending = none → s.clock.good = 7 →
       exec (.servoMeasurement off freq) s = .next (onClock (fun c =>
         { c with exchange := none, offset := off, measured := true, freq := clampPpb freq, good := 8, servo := .locked
                  wasLocked := true }) (start s))) ∧
     (∀ (off freq : Int) (stamp : Nat), s.clock.exchange = some (stamp, s.clock.steps + 1) →
       exec (.servoMeasurement off freq) s = .next (onClock (fun c => { c with exchange := none }) (start s))))

/-- A step counts, keeps the jump it made, ends a slew, sets the time, and moves the TSFs with it; device time is
moved by the jump, but not the running time that intervals are measured in. A cycle of the time unit without a slew:
the count advances by the increment of the frequency in force, twice that in limp mode, in 32.32 fixed point, and a
wrap of TIME_NS waits to be counted. -/
def Obligations.TheClockStepsAndCounts : Prop :=
  (∀ (jump : Int) (cause : Nat) (s : State),
     let t := stepTime jump cause s
     t.clock.steps = inc 32 s.clock.steps ∧ t.clock.stepped = s.clock.stepped + jump ∧
     (0 ≤ (deviceTime s : Int) + jump → (deviceTime s : Int) + jump < 2 ^ 64 → runTime t = runTime s) ∧ t.clock.lastStep = jump ∧ t.clock.slew = 0 ∧ t.clock.isSet = true ∧
     t.clock.allowance = none ∧ t.clock.refused = false ∧
     t.clock.tsfBase = s.clock.tsfBase.map (fun b => b.map (· + jump)) ∧ t.clock.freq = s.clock.freq ∧
     deviceTime t = ofSigned 64 ((deviceTime s : Int) + jump) ∧ t.air = s.air ∧ t.sec = s.sec ∧ t.mem = s.mem) ∧
  (∀ (limp : Bool) (c : Clock), c.slew = 0 → c.frac < 2 ^ 32 → (-100000 ≤ c.freq ∧ c.freq ≤ 100000) →
     let t := clockTick limp c
     ((t.ns * 2 ^ 32 + t.frac : Nat) = (c.ns * 2 ^ 32 + c.frac + (if limp then 2 else 1) * incOf c.freq) % 2 ^ 64) ∧
     (t.wrapPending = true ↔ c.wrapPending = true ∨ 2 ^ 64 ≤ c.ns * 2 ^ 32 + c.frac + (if limp then 2 else 1) * incOf c.freq) ∧
     t.freq = c.freq ∧ t.upper = c.upper ∧ incOf 0 = 0x10AAAAAAB)

/-- RAD_SET_CHANNEL and RAD_CALIBRATE are accepted: a stop, or a channel that is good and permitted, becomes the
slice's change of channel, which has not begun; the kinds of a calibration join the queue, behind it on a READY slice
and before it on a STOPPED one. -/
def Obligations.ChannelAndCalibrationAreAccepted : Prop :=
  ∀ (u : Ump) (s : State), MailboxInv s → SliceOn (u.b8 0) s →
    (Arrives 0x0201 u s → Clear 0x0201 true [] s → 16 ≤ u.data.length →
      (∀ a ∈ s.mbox.async, a.code = 0x0203 ∨ Obj.slice (u.b8 0) ∉ a.locks) →
      let a := arrived 0x0201 u s
      let change (c b : Option Channel) := onSlice (u.b8 0) (fun x => { x with tuning := some ⟨c, b, false, false, false, false, false, 0⟩ }) a
      let c := channelArg (u.b8 1) (u.b16 2) (u.b8 4) (u.b16 6)
      let b := channelArg (u.b8 10) (u.b16 8) (u.b8 11) (u.b16 12)
      (u.b8 1 = 0xFF → Pends (.radSetChannel u) 0x0201 u [.slice (u.b8 0)] (change none none) s) ∧
      (u.b8 1 ≠ 0xFF → channelBad (u.b8 0) c s = false → permitted c s = true →
        (bit (u.b8 5) 0 = false → Pends (.radSetChannel u) 0x0201 u [.slice (u.b8 0)] (change (some c) none) s) ∧
        (bit (u.b8 5) 0 = true → channelBad (u.b8 0) b s = false → permitted b s = true →
          Pends (.radSetChannel u) 0x0201 u [.slice (u.b8 0)] (change (some c) (some b)) s)) ∧
      (u.b8 1 ≠ 0xFF → channelBad (u.b8 0) c s = false → bit (u.b8 5) 0 = false → permitted c s = false →
        Fails (.radSetChannel u) 0x0201 u ST.regulatoryDenied s)) ∧
    (Arrives 0x0203 u s → Clear 0x0203 true [.slice (u.b8 0)] s → 4 ≤ u.data.length → u.b8 1 ≠ 0 → u.b8 1 ≤ 31 → u.b8 2 ≤ 1 →
      let a := arrived 0x0203 u s
      let steps : List CalStep := (kindsOf (u.b8 1)).map fun k => ⟨k, calSteps k, false⟩
      let job : CalJob := ⟨u.b8 1, 0, 0, 0, false, false, runTime a, runTime a⟩
      ((slice (u.b8 0) s).state = .ready → u.b8 2 = 0 → Pends (.radCalibrate u) 0x0203 u [.slice (u.b8 0)]
        (onSlice (u.b8 0) (fun x => { x with calJob := some job, calQueue := dropKinds (u.b8 1) (slice (u.b8 0) s).calQueue ++ steps }) a) s) ∧
      ((slice (u.b8 0) s).state = .stopped → Pends (.radCalibrate u) 0x0203 u [.slice (u.b8 0)]
        (onSlice (u.b8 0) (fun x => { x with calJob := some job, calQueue := steps ++ dropKinds (u.b8 1) (slice (u.b8 0) s).calQueue }) a) s))

/-- The other commands of a slice: RAD_GET_STATUS answers its page; RAD_SET_TX_LIMITS sets and keeps the limits;
RAD_SELF_TEST starts at once; RAD_CLEAR_TX_LOCK clears the lock; RAD_CAPTURE_IQ waits for its trigger; RAD_TUNER_CTL
holds ports, sets FEM mode or sets acquisition; RAD_SET_STR sets a pair's policy for the next commit. Regulation: a
package that verifies and is not older, and the first limit table of a provisioned device, are stored with
EV_RAD_REG_CHANGED; while no slice is tuned none stops. -/
def Obligations.RadioCommandsAnswer : Prop :=
  (∀ (u : Ump) (s : State), MailboxInv s → SliceOn (u.b8 0) s →
     (Arrives 0x0202 u s → Clear 0x0202 false [] s → 2 ≤ u.data.length →
       (u.b8 1 = 0 → Succeeds (.radGetStatus u) 0x0202 u (statusPage (u.b8 0) (arrived 0x0202 u s)) (arrived 0x0202 u s) s) ∧
       (u.b8 1 = 1 → Succeeds (.radGetStatus u) 0x0202 u (acquisitionPage (u.b8 0) (arrived 0x0202 u s)) (arrived 0x0202 u s) s)) ∧
     (Arrives 0x0204 u s → Clear 0x0204 false [.slice (u.b8 0)] s → 8 ≤ u.data.length → u.b8 1 ≠ 0 →
       -40 ≤ rdS u.data 2 2 → rdS u.data 2 2 ≤ 64 → 5 ≤ u.b16 4 → u.b16 4 ≤ 150 → u.b16 6 ≤ 500 →
       (rdS u.data 2 2 - (slice (u.b8 0) s).maxPower).natAbs < 4 →
       txBlocked { slice (u.b8 0) s with chainMask := BitVec.ofNat 8 (u.b8 1) } = txBlocked (slice (u.b8 0) s) →
       Succeeds (.radSetTxLimits u) 0x0204 u [] (cfgKeep 0x0204 0 1 u.payload (onSlice (u.b8 0) (fun x =>
         { x with chainMask := BitVec.ofNat 8 (u.b8 1), maxPower := rdS u.data 2 2, txTmo := u.b16 4, txDefer := u.b16 6 })
         (arrived 0x0204 u s))) s) ∧
     (Arrives 0x0208 u s → Clear 0x0208 true [.slice (u.b8 0)] s → 2 ≤ u.data.length → 1 ≤ u.b8 1 → u.b8 1 ≤ 3 →
       (slice (u.b8 0) s).state = .stopped →
       Answers (.radSelfTest u) 0x0208 u ST.pending [] (passPoint 0x0208 (fun a => rd a.payload 0 1 == u.b8 0)
         (accept u 0x0208 [.slice (u.b8 0)] (onSlice (u.b8 0) (fun x => { x with selfTest := true }) (arrived 0x0208 u s)))) s) ∧
     (Arrives 0x0209 u s → Clear 0x0209 false [.slice (u.b8 0)] s → 1 ≤ u.data.length →
       Succeeds (.radClearTxLock u) 0x0209 u [] (onSlice (u.b8 0) (fun x => { x with txLock := false }) (arrived 0x0209 u s)) s) ∧
     (Arrives 0x020B u s → Clear 0x020B true [] s → 20 ≤ u.data.length → u.b8 1 ≠ 0 → u.b8 2 ≤ 1 → u.b8 3 ≤ 2 → 1 ≤ u.b32 4 →
       u.b32 4 ≤ 262144 → u.b64 8 % 4 = 0 → u.b64 8 ≠ 0 → (slice (u.b8 0) s).capture = none →
       ((slice (u.b8 0) s).state = .ready ∨ (slice (u.b8 0) s).state = .cac) →
       Pends (.radCaptureIq u) 0x020B u [] (onSlice (u.b8 0) (fun x => { x with capture := some none }) (arrived 0x020B u s)) s) ∧
     (Arrives 0x0206 u s → Clear 0x0206 false [.slice (u.b8 0)] s →
       let a := arrived 0x0206 u s
       let keep := cfgKeepIf (fun r => r.code == 0x0206 && rd r.payload 0 1 == u.b8 0 && rd r.payload 2 1 == u.b8 2) 0x0206 u.payload
       (u.b8 2 = 1 → 3 ≤ u.data.length → ∃ x, Succeeds (.radTunerCtl u) 0x0206 u [] x s ∧
         x = { a with radio := x.radio, mem := { a.mem with shadow := x.mem.shadow } } ∧
         ∀ i, i < 8 → (slice (u.b8 0) x).chains[i]? =
           if bit (u.b8 1) i then (slice (u.b8 0) s).chains[i]?.map (fun c => { c with held := true }) else (slice (u.b8 0) s).chains[i]?) ∧
       (u.b8 2 = 5 → 6 ≤ u.data.length → u.b8 5 ≤ 1 → (slice (u.b8 0) s).state = .stopped →
         Succeeds (.radTunerCtl u) 0x0206 u [] (keep (onSlice (u.b8 0) (fun x => { x with fem := u.b8 5 == 1 }) a)) s) ∧
       (u.b8 2 = 6 → 6 ≤ u.data.length → -95 ≤ rdS u.data 3 1 → rdS u.data 3 1 ≤ -62 →
         (u.b8 4 = 0 ∨ (3 ≤ u.b8 4 ∧ u.b8 4 ≤ 20)) → 3 ≤ u.b8 5 → u.b8 5 ≤ 12 →
         Succeeds (.radTunerCtl u) 0x0206 u []
           (keep (onSlice (u.b8 0) (fun x => { x with acq := ⟨rdS u.data 3 1, u.b8 4, u.b8 5⟩ }) a)) s)) ∧
     (Arrives 0x0205 u s → Clear 0x0205 false [.slice (u.b8 0), .slice (u.b8 1)] s → 4 ≤ u.data.length → SliceOn (u.b8 1) s →
       u.b8 0 ≠ u.b8 1 → u.b8 2 ≤ 2 →
       Succeeds (.radSetStr u) 0x0205 u []
         (cfgKeepIf (fun r => r.code == 0x0205 && rd r.payload 0 1 + rd r.payload 1 1 == u.b8 0 + u.b8 1) 0x0205 u.payload
           (onPair (u.b8 0) (u.b8 1) (fun p => { p with policy := policyOf (u.b8 2) }) (arrived 0x0205 u s))) s)) ∧
  (∀ (u : Ump) (s : State), MailboxInv s → u.env.hw = .ok → (∀ n, n < 3 → tuned n s = none) →
     let d := u.data
     (Arrives 0x0207 u s → Clear 0x0207 false [] s → ∀ l, 32 ≤ d.length → s.sec.lifecycle ≠ .blank → d.length ≤ 12288 →
       d.length = 32 + rd d 12 4 + 7376 → splitRecords 8192 ((d.drop 32).take (rd d 12 4)) = some l → rd d 0 4 = 0x50445252 →
       l.any recordBad = false → ((bodiesOf 1 l).any (fun b => bit (ruleBody b).flags 0) = true → bodiesOf 2 l ≠ []) →
       (bodiesOf 2 l).length ≤ 1 → (bodiesOf 3 l).length ≤ 1 →
       rd d 4 2 = 1 → countryOk d = true → u.env.sig = true → (∀ p, s.radio.rdp = some p → p.serial ≤ rd d 8 4) →
       Succeeds (.radLoadRegdomain u) 0x0207 u []
         (raise 0x020B (leBytes 1 0xFF ++ leBytes 1 0) (onRadio (fun r => { r with rdp := some (packageOf d l) }) (arrived 0x0207 u s))) s) ∧
     (Arrives 0x020A u s → Clear 0x020A false [] s → 16 ≤ d.length → s.sec.lifecycle = .provisioned → u.force = true →
       1 ≤ rd d 3 1 → rd d 3 1 ≤ 64 → d.length = 16 + 16 * rd d 3 1 →
       let l := (List.range (rd d 3 1)).map fun i => entryBody (field d (16 + 16 * i) 16)
       (∀ e ∈ l, e.band ≤ 2 ∧ 1 ≤ e.widths ∧ e.widths ≤ 31 ∧ 1 ≤ e.flags ∧ e.flags ≤ 1000) →
       (s.radio.llt = none → rd d 0 2 = 0x4C4C → rd d 2 1 = 3 → rd d 12 4 = crc32c (d.drop 16) →
         Succeeds (.radLockLlt u) 0x020A u []
           (raise 0x020B (leBytes 1 0xFF ++ leBytes 1 0) (onMem (fun m => { m with lltLock := true }) (onRadio (fun r => { r with llt := some l }) (arrived 0x020A u s)))) s) ∧
       (s.radio.llt ≠ none → Fails (.radLockLlt u) 0x020A u ST.badState s)))

/-- A change of channel: its hop begins once the slice's TXOP has ended; the lock, behind a retry where it needs one,
and after a change of band the fast calibrations, end it on the new channel, in CAC on a DFS channel and READY on
another; a lasting failure leaves the slice in FAULT; a slice that is to stop stops; an elapsed CAC makes it READY. -/
def Obligations.ChannelChangeRows : Prop :=
  ∀ (n : Nat) (s : State), n < 3 →
    (∀ tune t c, mayHop n s = true → (slice n s).tuning = some t → t.channel = some c → permitted c s = true →
      Reaches (.channelChangeApply n tune) s fun x => (slice n x).state = .tuning ∧ (slice n x).channel = none ∧
        (slice n x).requested = some c ∧ (slice n x).backup = t.backup ∧
        ((slice n x).tuning.map fun k => (k.channel, k.begun, k.locked)) = some (some c, true, t.locked) ∧
        ((mac n s).fixed = none → RadioSide s x)) ∧
    (∀ tune t, mayHop n s = true → (slice n s).tuning = some t → t.channel = none →
      Reaches (.channelChangeApply n tune) s fun x => (slice n x).state = .stopped ∧ (slice n x).channel = none ∧
        (slice n x).requested = none ∧ (slice n x).tuning = none ∧ ((mac n s).fixed = none → RadioSide s x)) ∧
    (∀ t lockUs, awaitsLock n s = true → (slice n s).tuning = some t → t.band = true →
      exec (.synthLock n lockUs) s = .next (onSlice n (fun x =>
        { x with tuning := some { t with locked := true, lockUs := lockUs, lockFailed := false } }) (start s)) ∧
      exec (.synthLockRetry n true lockUs) s = .next (onSlice n (fun x =>
        { x with tuning := some { t with locked := true, lockUs := lockUs, lockFailed := true } })
        (transientFault 0x020A (faultPayload n 0 0) (start s)))) ∧
    (∀ t c lockUs, awaitsLock n s = true → (slice n s).tuning = some t → t.band = false → t.channel = some c → (slice n s).deferred = [] →
      Reaches (.synthLock n lockUs) s fun x => (slice n x).state = (if isDfs c s then .cac else .ready) ∧
        (slice n x).channel = some c ∧ (slice n x).tuning = none ∧ (txBlocked (slice n s) = false → RadioSide s x)) ∧
    (∀ lockUs, awaitsLock n s = true →
      Reaches (.synthLockRetry n false lockUs) s fun x => (slice n x).state = .fault ∧ (slice n x).channel = none ∧
        (slice n x).tuning = none ∧ (slice n x).deferred = [] ∧ x.mbox.faultCode = 0x020A ∧ RadioSide s x) ∧
    (∀ t c hw kind calUs temp, (slice n s).state = .tuning → (slice n s).tuning = some t → t.locked = true → t.band = true →
      t.channel = some c → (slice n s).deferred = [] → hw ≠ .lasting →
      Reaches (.tuningCalibrationDone n hw kind calUs temp) s fun x => (slice n x).state = (if isDfs c s then .cac else .ready) ∧
        (slice n x).channel = some c ∧ (slice n x).tuning = none ∧ (slice n x).temperature = temp ∧
        (txBlocked (slice n s) = false → RadioSide s x)) ∧
    ((slice n s).state = .cac → (slice n s).deferred = [] →
      Reaches (.cacElapsed n) s fun x => (slice n x).state = .ready ∧ (slice n x).channel = (slice n s).channel ∧
        (txBlocked (slice n s) = false → RadioSide s x))

/-- Radar, time limits of transmission, and the medium: confirmed radar on a READY slice counts and blocks it until
its move, which marks the channel; a non-occupancy period ends; a transmit request waits at most its limit for the
synthesiser; TX_TMO aborts the PPDU and locks the slice; and a backoff that ends begins the beacon's TXOP, or waits
for the synthesiser. -/
def Obligations.RadarAndMediumRows : Prop :=
  ∀ (n : Nat) (s : State), n < 3 →
    (∀ tune c, (slice n s).channel = some c → isDfs c s = true → (slice n s).state = .ready → (slice n s).radarMove = false →
      Reaches (.radarDetected n tune) s fun x => (slice n x).radarMove = true ∧ (slice n x).nRadar = inc 32 (slice n s).nRadar ∧
        (slice n x).channel = some c ∧ (slice n x).state = .ready ∧ x.mls.plan.txops = s.mls.plan.txops.filter (fun t => t.slice != n) ∧
        RadioSide s x) ∧
    (∀ tune c, (slice n s).channel = some c → isDfs c s = false → exec (.radarDetected n tune) s = .next (start s)) ∧
    (∀ tune c, (slice n s).radarMove = true → (slice n s).channel = some c → (mac n s).txop ≠ none →
      Reaches (.radarChannelMove n tune) s fun x => x.radio.nonOccupancy = s.radio.nonOccupancy ++ [c] ∧
        (slice n x).radarMove = false ∧ (slice n x).tuning ≠ none ∧ (mac n x).txop = (mac n s).txop ∧ RadioSide s x) ∧
    (∀ width centre, exec (.nonOccupancyEnd width centre) s = .next (onRadio (fun r =>
      { r with nonOccupancy := r.nonOccupancy.filter fun c => !(c.width == width && c.centre == centre) }) (start s))) ∧
    (∀ ac e, (slice n s).deferred.find? (fun e => e.1 == ac) = some e →
      exec (.txDeferExpiry n ac) s =
        .next (onSlice n (fun x => { x with deferred := x.deferred.erase e, nSynth := inc 32 x.nSynth }) (start s))) ∧
    ((slice n s).tx ≠ none → (mac n s).mgmt = [] →
      Reaches (.txTmoExpiry n) s fun x => (slice n x).tx = none ∧ (slice n x).txLock = true ∧
        (slice n x).nTimeout = inc 32 (slice n s).nTimeout ∧ (mac n x).txop = none ∧ x.radio.coexReq = false ∧
        ((mac n s).fixed = none → (∀ e ∈ s.air.stations, e.2.links.get n = 255) → RadioSide s x)) ∧
    (∀ cca, (slice n s).state = .tuning → (mac n s).beaconWaits = true → (3, 1) ∉ (slice n s).deferred →
      exec (.edcaBackoffEnd n [3] cca) s =
        .next (onSlice n (fun x => { x with deferred := x.deferred ++ [(3, 1)] }) (noteCca n cca (start s)))) ∧
    (∀ cca c, (slice n s).state = .ready → (slice n s).channel = some c → (mac n s).beaconWaits = true → txBlocked (slice n s) = false →
      nstrHeld n s = false → mediumFree n (noteCca n cca s) = true →
      exec (.edcaBackoffEnd n [3] cca) s = .next (markUse (onMac n (fun m =>
        { m with cca := cca, txop := some { ownTxop 1 with
            since := runTime s, cover := (c.width, idleMask c cca &&& unpunctured c) } }) (start s))))

/-- Calibration, Halo training, captures and the self test: a due kind is queued once; a queued step starts on a
STOPPED slice; a step that ends leaves its kind's rest, or its kind done at its temperature, and a first failure is
retried; each direction of Halo is retried once, a fall-back is entered with its event; a capture fires and ends with
its samples in the buffer; the self test answers the chains that passed. -/
def Obligations.CalibrationAndCaptureRows : Prop :=
  ∀ (n : Nat) (s : State), n < 3 →
    (∀ kind temp, kind ≤ 4 → (slice n s).state = .ready →
      ((slice n s).calQueue ++ (slice n s).calRunning.toList).all (fun c => c.kind != kind) = true →
      exec (.calibrationDue n kind temp) s = .next (onSlice n (fun x =>
        { x with temperature := temp, calQueue := x.calQueue ++ [⟨kind, calSteps kind, false⟩] }) (start s))) ∧
    (∀ c r, (slice n s).state = .stopped → (slice n s).calQueue = c :: r → (slice n s).calRunning = none → (slice n s).calJob = none →
      (classFull 9 s = false → exec (.calibrationStepStart n) s =
        .next (onSlice n (fun x => { x with calQueue := r, calRunning := some c }) (start s))) ∧
      (classFull 9 s = true → exec (.calibrationStepStart n) s = .next (refuseClass 9 (start s)))) ∧
    (∀ c temp, (slice n s).calRunning = some c → (slice n s).state = .ready →
      (c.failed = false → 1 < c.left → exec (.calibrationStepDone n true temp) s = .next (onSlice n (fun x =>
        { x with calRunning := none, temperature := temp, calQueue := ⟨c.kind, c.left - 1, false⟩ :: x.calQueue
                 calJob := x.calJob.map fun j => if bit j.kinds c.kind then { j with lastEnd := runTime s } else j }) (start s))) ∧
      (c.failed = false → c.left ≤ 1 → (slice n s).calJob = none → exec (.calibrationStepDone n true temp) s =
        .next (onRadio (fun r => { r with lastCalibration := Tab.put r.lastCalibration (5 * n + c.kind) [temp] }) (onSlice n (fun x =>
          { x with calRunning := none, temperature := temp, calFailed := x.calFailed &&& (31 - 2 ^ c.kind) }) (start s)))) ∧
      (c.failed = false → (slice n s).calJob = none → exec (.calibrationStepDone n false temp) s = .next (onSlice n (fun x =>
        { x with calRunning := none, temperature := temp, calQueue := { c with failed := true } :: x.calQueue }) (start s)))) ∧
    (Reaches .haloTrainingTick s fun x => (slice n x).airtime = 0 ∧ (slice n x).state = (slice n s).state ∧ x.air = s.air ∧
      (classFull 9 s = false → RadioSide s x)) ∧
    (∀ a, a < 3 → a ≠ n →
      ((halo n a s).training = true → ∀ coeff, Reaches (.haloTrainingDone n a true coeff) s fun x =>
        halo n a x = { halo n a s with valid := true, last := some (runTime s), training := false, failed := false, settled := true,
                                       stale := false, coeff := coeff.take 768 ++ List.replicate (768 - coeff.length) (0, 0) } ∧
        (pairOf n a x).fallback = ((pairOf n a s).fallback && !haloTrained a n s) ∧ RadioSide s x) ∧
      ((halo n a s).training = true → (halo n a s).failed = false → ∀ coeff,
        exec (.haloTrainingDone n a false coeff) s = .next (onHalo n a (fun h => { h with training := false, failed := true }) (start s))) ∧
      ((halo n a s).training = true → (halo n a s).failed = true → ∀ coeff, Reaches (.haloTrainingDone n a false coeff) s fun x =>
        halo n a x = { halo n a s with training := false, failed := false, settled := true } ∧ pairOf n a x = pairOf n a s ∧ RadioSide s x) ∧
      (needsHalo n a s = true → (pairOf n a s).fallback = false → ∃ y,
        exec (.haloFallback n a) s = .next (raise 0x0206 (pairPayload n a ++ leBytes 1 1) y) ∧
        pairOf n a y = { pairOf n a s with fallback := true } ∧ (halo n a y).settled = true ∧ (halo a n y).settled = true ∧
        (∀ e ∈ staleSides n a s, (halo e.1 e.2 y).stale = true) ∧ RadioSide s y)) ∧
    ((slice n s).capture = some none → exec (.iqCaptureTrigger n) s = .next (passPoint 0x020B (fun a => rd a.payload 0 1 == n)
      (onSlice n (fun x => { x with capture := some (some (rawTime s)) }) (start s)))) ∧
    (∀ a stamp samples refs wr, (slice n s).capture = some (some stamp) → captureOf n s = some a → rd a.payload 8 8 = 0 →
      let d := captureData n (rd a.payload 1 1) (rd a.payload 4 4) (rd a.payload 2 1) samples refs (start s)
      let x := onSlice n (fun x => { x with capture := none }) (start s)
      exec (.iqCaptureDone n samples refs wr) s = .next (endAsync a ST.ok (captureDone a n stamp d.length x)
        (onDsp (fun k => { k with buffers := Tab.put k.buffers (rd a.payload 16 1) d }) x))) ∧
    (∀ a bist loop, (s.mbox.async.find? fun a => a.code == 0x0208 && rd a.payload 0 1 == n) = some a → rd a.payload 1 1 = 3 →
      exec (.selfTestDone n bist loop) s = .next (endAsync a ST.ok (leBytes 1 bist ++ leBytes 1 loop)
        (onSlice n (fun x => { x with selfTest := false }) (start s))))

/-- The commands of BSSs and stations: BSS_CREATE makes the BSS under the lowest free handle; BSS_SET_PARAMS waits for
the TBTT; STA_GET and STA_LIST read; STA_FLUSH_QUEUE drops what waits and answers its number; MLO_SET_LINK_POLICY sets
or clears a policy; and CUMULUS_SET enables combining, which the peer's element makes active. BSS_DELETE and
STA_DISCONNECT are accepted and begin: their frames wait on a link that can carry them; without frames the BSS, or the
station, is removed at once, behind its ST_PENDING. -/
def Obligations.StationCommandsAnswer : Prop :=
  (∀ (u : Ump) (s : State), MailboxInv s →
     (Arrives 0x0301 u s → Clear 0x0301 false [] s → ∀ h, 64 ≤ u.data.length → u.b8 0 < 3 → powered (3 + u.b8 0) s = true →
       createBad u = false → createClash u s = false → (bssOn (u.b8 0) s).length < 16 → Tab.lowestFree s.air.bss 0 47 = some h →
       credentialAbsent u s = false → s.sec.trngFailed = false → u.env.hw = .ok →
       let a := arrived 0x0301 u s
       let x := newBss h u a
       Succeeds (.bssCreate u) 0x0301 u [BitVec.ofNat 8 h]
         (cfgKeepIf (fun r => r.code == 0x0301 && rd r.payload 61 1 == h) 0x0301 (u.data.take 61 ++ [BitVec.ofNat 8 h] ++ u.data.drop 62)
           (drawGroup h x u.env.rand (onAir (fun k => { k with bss := Tab.put k.bss h x }) (startTsf (u.b8 0) a)))) s) ∧
     (Arrives 0x0303 u s → Clear 0x0303 false [.bss (u.b8 0)] s → 36 ≤ u.data.length → (bss (u.b8 0) s).isSome = true → paramsBad u = false →
       Succeeds (.bssSetParams u) 0x0303 u [] (cfgKeep 0x0303 0 1 u.data (onBss (u.b8 0) (fun x =>
         { x with pendingParams := some (mergeParams (x.pendingParams.getD (List.replicate 36 0)) (u.data.take 36)) })
         (arrived 0x0303 u s))) s) ∧
     (Arrives 0x0304 u s → Clear 0x0304 false [] s → ∀ x, 2 ≤ u.data.length → station (u.b16 0) s = some x →
       Succeeds (.staGet u) 0x0304 u (stationRecord (u.b16 0) x (arrived 0x0304 u s)) (arrived 0x0304 u s) s) ∧
     (Arrives 0x0306 u s → Clear 0x0306 false [.station (u.b16 0)] s → ∀ x, 4 ≤ u.data.length → station (u.b16 0) s = some x → u.b8 2 ≠ 0 →
       let pick (m : Mpdu) : Bool := bit (u.b8 2) m.tid && m.flight.isNone
       Succeeds (.staFlushQueue u) 0x0306 u (leBytes 4 (x.queue.filter pick).length) (dropMpdus (u.b16 0) pick 4 (arrived 0x0306 u s)).2 s) ∧
     (Arrives 0x0309 u s → Clear 0x0309 false [] s → 4 ≤ u.data.length → u.b16 2 ≤ 2047 → u.b8 0 = 255 →
       let l := (Tab.keys s.air.stations).filter fun h => decide (u.b16 2 ≤ h)
       Succeeds (.staList u) 0x0309 u
         (leBytes 2 (l.take 100).length ++ leBytes 2 ((l.drop 100).headD 0xFFFF) ++ ((l.take 100).map (leBytes 2)).flatten)
         (arrived 0x0309 u s) s) ∧
     (Arrives 0x0307 u s → 16 ≤ u.data.length →
       let p : LinkPolicy := ⟨u.b8 4, u.b8 5, u.b16 6, (List.range 8).map fun t => u.b8 (8 + t)⟩
       let good := u.b8 4 ≤ 2 ∧ u.b8 5 ≤ 7 ∧ u.b8 5 &&& targetLinks (u.b8 0) (u.b16 2) s ≠ 0 ∧
         (u.b8 4 = 2 → 100 ≤ u.b16 6 ∧ u.b16 6 ≤ 10000) ∧ ∀ t, t < 8 → u.b8 (8 + t) ||| u.b8 5 = u.b8 5
       (Clear 0x0307 false [.station (u.b16 2)] s → u.b8 0 = 1 → (station (u.b16 2) s).isSome = true →
         (u.b8 4 = 255 → Succeeds (.mloSetLinkPolicy u) 0x0307 u []
           (onStation (u.b16 2) (fun x => { x with policy := none }) (arrived 0x0307 u s)) s) ∧
         (good → Succeeds (.mloSetLinkPolicy u) 0x0307 u []
           (onStation (u.b16 2) (fun x => { x with policy := some p }) (arrived 0x0307 u s)) s)) ∧
       (Clear 0x0307 false [] s → u.b8 0 = 0 → u.b16 2 ≤ 15 → good →
         Succeeds (.mloSetLinkPolicy u) 0x0307 u [] (cfgKeep 0x0307 2 2 u.data
           (onAir (fun a => { a with mldPolicy := Tab.put a.mldPolicy (u.b16 2) p }) (arrived 0x0307 u s))) s)) ∧
     (Arrives 0x0308 u s → Clear 0x0308 false [.station (u.b16 0)] s → 8 ≤ u.data.length →
       ((station (u.b16 0) s).any fun x => x.kind == 4) = true →
       (u.b8 2 = 0 → Succeeds (.cumulusSet u) 0x0308 u (cumulusReply (u.b16 0) 0 (arrived 0x0308 u s)) (arrived 0x0308 u s) s) ∧
       (u.b8 2 = 1 → u.b8 3 % 8 ≠ 0 → 1024 ≤ u.b16 4 → u.b16 4 ≤ 43690 → 1 ≤ u.b8 6 → u.b8 6 ≤ 4 → 2 ≤ u.b8 7 → u.b8 7 ≤ 4 →
         ((peerOf (u.b16 0) s).enabled = true ∨ (s.modem.peers.filter fun e => e.2.enabled).length < 8) →
         (peerOf (u.b16 0) s).active = false → (peerOf (u.b16 0) s).element = none →
         let x := sendElement (u.b16 0) (onPeer (u.b16 0) (fun p =>
           { p with enabled := true, links := u.b8 3 % 8, slots := u.b16 4, lifetime := u.b8 6, combines := u.b8 7 }) (arrived 0x0308 u s))
         Succeeds (.cumulusSet u) 0x0308 u (cumulusReply (u.b16 0) 1 x) x s) ∧
       (u.b8 2 = 2 → (peerOf (u.b16 0) s).enabled = false →
         Succeeds (.cumulusSet u) 0x0308 u (cumulusReply (u.b16 0) 2 (arrived 0x0308 u s)) (arrived 0x0308 u s) s))) ∧
  (∀ (u : Ump) (s : State), MailboxInv s →
     (Arrives 0x0302 u s → Clear 0x0302 true [.bss (u.b8 0)] s → ∀ x, 2 ≤ u.data.length → bss (u.b8 0) s = some x →
       (x.transmitted = true → (bssOn x.slice s).length ≤ 1) →
       let l := lastLink (u.b8 0) x.slice s
       ∃ y, Answered 0x0302 u ST.pending [] y ∧
         ReplyOnly (accept u 0x0302 [.bss (u.b8 0)] (onBss (u.b8 0) (fun b => { b with deleting := some none }) (arrived 0x0302 u s))) y ∧
         (bit (u.b8 1) 0 = true → l ≠ [] → sliceUsable x.slice s = true →
           exec (.bssDelete u) s = .next (onMac x.slice (fun m => { m with mgmt := m.mgmt ++ l.map fun h => ⟨h, ((station h y).map (·.addr)).getD 0, 2, 8, .leave 3, 0, false⟩ }) y)) ∧
         (bit (u.b8 1) 0 = false →
           exec (.bssDelete u) s = .next (drain (finishDelete (u.b8 0) y).mbox.cmdQueue (finishDelete (u.b8 0) y)))) ∧
     (Arrives 0x0305 u s → Clear 0x0305 true [.station (u.b16 0)] s → ∀ x, 8 ≤ u.data.length → station (u.b16 0) s = some x → u.b8 4 ≤ 2 →
       ∃ y, Answered 0x0305 u ST.pending [] y ∧
         ReplyOnly (accept u 0x0305 [.station (u.b16 0)] (onStation (u.b16 0) (fun z =>
           { z with state := 4, leaving := some (u.b16 2, u.b8 4, z.state) }) (arrived 0x0305 u s))) y ∧
         (∀ n, u.b8 4 ≠ 2 → usableLink x s = some n →
           exec (.staDisconnect u) s = .next (onMac n (fun m => { m with mgmt := m.mgmt ++ [⟨u.b16 0, x.addr, 1, 8 + u.b8 4, .leave (u.b16 2), 0, false⟩] }) y)) ∧
         (u.b8 4 = 2 →
           let t := settleDeletes (endDisconnect (u.b16 0) 7 (removeStation (u.b16 0) 0 (u.b16 2) y))
           exec (.staDisconnect u) s = .next (drain t.mbox.cmdQueue t))))

/-- The commands of the scheduler and the turbo receiver read, or set and keep, their settings, which the next commit
takes; CRN_PIN pins, unpins or lists; CRN_GET_STATS answers its record and starts the peaks afresh; TWT_SET adds,
deletes or reads a schedule. -/
def Obligations.SchedulerCommandsAnswer : Prop :=
  ∀ (u : Ump) (s : State), MailboxInv s →
    (Arrives 0x0401 u s → Clear 0x0401 false [] s → 8 ≤ u.data.length →
      let record (op : Nat) (m : Milliner) : Bytes := leBytes 1 op ++ leBytes 1 0 ++ leBytes 2 m.settings.window ++ leBytes 2 m.settings.brim
        ++ leBytes 2 0 ++ leBytes 4 m.index ++ leBytes 4 m.start
      (u.b8 0 = 0 → Succeeds (.schSetWindow u) 0x0401 u (record 0 s.mls) (arrived 0x0401 u s) s) ∧
      (u.b8 0 = 1 → 1000 ≤ u.b16 2 → u.b16 2 ≤ 8000 → u.b16 2 % 125 = 0 → 100 ≤ u.b16 4 → u.b16 4 ≤ 1000 → u.b16 4 % 10 = 0 →
        4 * u.b16 4 ≤ u.b16 2 →
        let x := cfgKeep 0x0401 0 0 u.data (onMls (fun m => { m with settings := { m.settings with window := u.b16 2, brim := u.b16 4 } })
          (arrived 0x0401 u s))
        Succeeds (.schSetWindow u) 0x0401 u (record 1 x.mls) x s)) ∧
    (Arrives 0x0402 u s → Clear 0x0402 false [] s → 16 ≤ u.data.length → u.b8 0 = 1 → u.b8 1 ≤ 148 → u.b8 3 ≤ 90 → 10 ≤ u.b16 4 →
      u.b16 4 ≤ 1000 → 5 ≤ u.b16 6 → u.b16 6 ≤ 200 → (∀ i, 8 ≤ i → i ≤ 10 → 1 ≤ u.b8 i ∧ u.b8 i ≤ 16) → 10 ≤ u.b8 11 → u.b8 11 ≤ 30 →
      1 ≤ u.b8 12 → u.b8 12 ≤ 100 → 1 ≤ u.b8 13 → u.b8 13 ≤ 50 → 2 ≤ u.b8 14 → u.b8 14 ≤ 64 →
      ∃ d, Succeeds (.schSetPolicy u) 0x0402 u d (cfgKeep 0x0402 0 0 u.data (onMls (fun m => { m with settings := { m.settings with
        maxUsers := u.b8 1, flags := u.b8 2 % 32, uplink := u.b8 3, sounding := u.b16 4, poll := u.b16 6
        weights := ⟨u.b8 8, u.b8 9, u.b8 10⟩, budget := u.b8 11, lateThr := u.b8 12, waitThr := u.b8 13, starvation := u.b8 14 } })
        (arrived 0x0402 u s))) s ∧ d.length = 16 ∧ rd d 1 1 = u.b8 1 ∧ rd d 4 2 = u.b16 4) ∧
    (Arrives 0x0403 u s → Clear 0x0403 false [] s → 4 ≤ u.data.length → u.b8 0 = 1 → 4 ≤ u.b8 1 → u.b8 1 ≤ 24 → 100 ≤ u.b16 2 →
      u.b16 2 ≤ 5000 →
      Succeeds (.crnSetReserve u) 0x0403 u (leBytes 1 1 ++ leBytes 1 (u.b8 1) ++ leBytes 2 (u.b16 2)
          ++ leBytes 1 s.mls.inForce.pins.length ++ leBytes 1 s.mls.plan.half ++ leBytes 2 0)
        (cfgKeep 0x0403 0 0 u.data (onMls (fun m => { m with settings := { m.settings with reserve := u.b8 1, linger := u.b16 2 } })
          (arrived 0x0403 u s))) s) ∧
    (Arrives 0x0404 u s → Clear 0x0404 false [] s → 3 ≤ u.data.length →
      let a := arrived 0x0404 u s
      let pins := s.mls.settings.pins
      let set (l : List Nat) := onMls (fun m => { m with settings := { m.settings with pins := l } }) a
      (u.b8 2 = 0 → u.b16 0 ≤ 2047 → u.b16 0 ∉ pins → ((station (u.b16 0) s).any fun x => x.state == 2 || x.state == 3) = true →
        (pins.length < 32 → Succeeds (.crnPin u) 0x0404 u (leBytes 1 (insertPin (u.b16 0) pins).length ++ leBytes 1 0)
          (set (insertPin (u.b16 0) pins)) s) ∧
        (32 ≤ pins.length → Fails (.crnPin u) 0x0404 u ST.crownFull s)) ∧
      (u.b8 2 = 1 → u.b16 0 ≤ 2047 → Succeeds (.crnPin u) 0x0404 u (leBytes 1 (pins.filter (· != u.b16 0)).length ++ leBytes 1 0)
        (set (pins.filter (· != u.b16 0))) s) ∧
      (u.b8 2 = 2 → Succeeds (.crnPin u) 0x0404 u (leBytes 1 pins.length ++ leBytes 1 pins.length ++ (pins.map (leBytes 2)).flatten) a s)) ∧
    (Arrives 0x0405 u s → Clear 0x0405 false [] s →
      Succeeds (.crnGetStats u) 0x0405 u (crownRecord s.mls)
        (onCrownStats (fun c => { c with peakOp := 0, peakHold := 0, peakPlanned := 0 }) (arrived 0x0405 u s)) s) ∧
    (Arrives 0x0406 u s → Clear 0x0406 false [.bss (u.b8 0)] s → 20 ≤ u.data.length → (bss (u.b8 0) s).isSome = true → u.b8 2 ≤ 1 →
      1 ≤ u.b8 3 → u.b8 3 ≤ 31 →
      let a := arrived 0x0406 u s
      let old := s.mls.twt.find? (sameSchedule (u.b8 0) (u.b8 2) (u.b8 3))
      let rest := s.mls.twt.filter fun e => !sameSchedule (u.b8 0) (u.b8 2) (u.b8 3) e
      let mine (r : CfgRecord) : Bool := r.code == 0x0406 && rd r.payload 0 1 == u.b8 0 && rd r.payload 2 1 == u.b8 2 && rd r.payload 3 1 == u.b8 3
      (u.b8 1 = 0 → (old ≠ none ∨ (s.mls.twt.filter fun e => e.bss == u.b8 0 && e.kind == u.b8 2).length < if u.b8 2 = 0 then 8 else 4) →
        twtBad u s = false →
        Succeeds (.twtSet u) 0x0406 u [] (raise 0x0306 (twtPayload 0xFFFF 0 (u.b8 3)) (cfgKeepIf mine 0x0406 u.data (onMls (fun m =>
          { m with twt := rest ++ [⟨u.b8 0, u.b8 2, u.b8 3, u.b8 4 % 4, u.b8 5, u.b16 6, u.b32 8, u.b32 12, u.b8 16⟩]
                   persisted := m.persisted.filter fun x => !(x.1 == u.b8 0 && x.2.1 == u.b8 2 && x.2.2.1 == u.b8 3) }) a))) s) ∧
      (u.b8 1 = 1 → old ≠ none → Succeeds (.twtSet u) 0x0406 u []
        (raise 0x0306 (twtPayload 0xFFFF 1 (u.b8 3)) (cfgDelete mine 0x0406 u.data (onMls (fun m => { m with twt := rest }) a))) s) ∧
      (∀ e, u.b8 1 = 2 → old = some e → Succeeds (.twtSet u) 0x0406 u (twtBytes e ++ leBytes 2
        (s.mls.members.filter fun e => e.1 == u.b8 0 && e.2.1 == u.b8 2 && e.2.2.1 == u.b8 3).length) a s)) ∧
    (Arrives 0x0407 u s → Clear 0x0407 false [] s → 8 ≤ u.data.length → u.b8 0 = 1 → 1 ≤ u.b8 1 → u.b8 1 ≤ 4 → 1 ≤ u.b8 2 → u.b8 2 ≤ 32 →
      1 ≤ u.b8 3 → u.b8 3 ≤ u.b8 2 → u.b16 4 ≤ 1000 →
      let x := cfgKeep 0x0407 0 0 u.data (onLda (fun l =>
        { l with passes := u.b8 1, limit := u.b8 2, pressure := u.b8 3, lateWindow := u.b16 4 }) (arrived 0x0407 u s))
      Succeeds (.schSetTurbo u) 0x0407 u (turboReply 1 x) x s)

/-- The commands of the Hatbox: the identity is answered; a sealed blob that is well formed, has room and is not older
is accepted as a credential, a RADIUS profile or a key; a key-slot erase forgets the vault copy and starts the erase
of a held slot; a cipher job writes its output to the host. -/
def Obligations.HatboxCommandsAnswer : Prop :=
  ∀ (u : Ump) (s : State), MailboxInv s →
    let good (kinds : List Nat) (b : Bytes) : Prop :=
      rd b 0 4 = 0x314C4553 ∧ rd b 5 1 ∈ kinds ∧ 1 ≤ rd b 12 2 ∧ rd b 12 2 ≤ 256 ∧ b.length = 96 + rd b 12 2 ∧
        bodyRange (rd b 5 1) (rd b 12 2) = true ∧ rd b 4 1 = 1 ∧ Tab.getD s.sec.serials (blobKey b) 0 ≤ blobSerial b ∧
        (Tab.look s.sec.serials (blobKey b) = none → s.sec.serials.length < 1024)
    (Arrives 0x0501 u s → Clear 0x0501 false [] s →
      (u.b8 0 = 0 → 1 ≤ u.data.length → Succeeds (.secGetIdentity u) 0x0501 u
        (fit 97 s.sec.sealing.1 ++ fit 8 s.sec.sealing.2 ++ fit 96 u.env.plain) (arrived 0x0501 u s) s) ∧
      (u.b8 0 = 1 → 36 ≤ u.data.length → s.sec.trngFailed = false → ∃ d, Succeeds (.secGetIdentity u) 0x0501 u d (arrived 0x0501 u s) s ∧
        field d 0 8 = fit 8 s.sec.serial ∧ rd d 12 1 = lifecycleCode s.sec.lifecycle ∧ field d 68 32 = fit 32 (field u.data 4 32)) ∧
      (u.b8 0 = 2 → 4 ≤ u.data.length → s.sec.lifecycle ≠ .rma →
        let part := (s.sec.certificate.drop (u.b16 2)).take 224
        Succeeds (.secGetIdentity u) 0x0501 u (leBytes 2 s.sec.certificate.length ++ leBytes 2 (u.b16 2) ++ leBytes 2 part.length
          ++ leBytes 2 0 ++ part) (arrived 0x0501 u s) s)) ∧
    (Arrives 0x0502 u s → u.b8 0 = 0 → good [1, 2] (u.data.drop 4) → s.sec.restricted = false →
      let locks := Obj.label (blobKey (u.data.drop 4)) :: ((credentialOf (blobKey (u.data.drop 4)) s).map Obj.credential).toList
      Clear 0x0502 true locks s → (credentialOf (blobKey (u.data.drop 4)) s = none → s.sec.credentials.length < 256) →
      Pends (.secLoadSealed u) 0x0502 u locks (arrived 0x0502 u s) s) ∧
    (Arrives 0x0502 u s → 4 ≤ u.data.length → (Tab.look s.sec.credentials (u.b16 2)).isSome = true →
      (u.b8 0 = 1 → credentialUses (u.b16 2) s = 0 → Clear 0x0502 true [.credential (u.b16 2)] s →
        Pends (.secLoadSealed u) 0x0502 u [.credential (u.b16 2)] (arrived 0x0502 u s) s) ∧
      (u.b8 0 = 2 → Clear 0x0502 true [] s → Pends (.secLoadSealed u) 0x0502 u [] (arrived 0x0502 u s) s)) ∧
    (Arrives 0x0503 u s → u.b8 0 = 0 → u.b8 1 ≤ 7 → 168 ≤ u.data.length → good [3] (u.data.drop 56) → s.sec.restricted = false →
      radiusArgsBad u.data s = false → Clear 0x0503 true [.radius (u.b8 1)] s →
      Pends (.secSetRadius u) 0x0503 u [.radius (u.b8 1)] (arrived 0x0503 u s) s) ∧
    (Arrives 0x0503 u s → u.b8 1 ≤ 7 → 48 ≤ u.data.length → (Tab.look s.sec.radius (u.b8 1)).isSome = true →
      (u.b8 0 = 1 → (s.air.bss.any fun e => e.2.radius == u.b8 1) = false → Clear 0x0503 true [.radius (u.b8 1)] s →
        Pends (.secSetRadius u) 0x0503 u [.radius (u.b8 1)] (arrived 0x0503 u s) s) ∧
      (u.b8 0 = 2 → Clear 0x0503 true [] s → Pends (.secSetRadius u) 0x0503 u [] (arrived 0x0503 u s) s)) ∧
    (Arrives 0x0504 u s → good [4] (u.data.drop 4) → s.sec.restricted = false →
      (importSlot (u.b16 0) = true → u.b8 2 = 0xFF → rd (u.data.drop 4) 12 2 = (if u.b16 0 / 8192 = 1 then 16 else 32) →
        (keyHeld (u.b16 0) s = true → bit (u.b8 3) 0 = true) → Clear 0x0504 true [.key (u.b16 0)] s →
        Pends (.secKeyImport u) 0x0504 u [.key (u.b16 0)] (arrived 0x0504 u s) s) ∧
      (u.b16 0 = 0xFFFF → u.b8 2 ≤ 63 → ((Tab.look s.sec.vaultKeys (u.b8 2)).isSome = true → bit (u.b8 3) 0 = true) →
        Clear 0x0504 true [.key (65536 + u.b8 2)] s →
        Pends (.secKeyImport u) 0x0504 u [.key (65536 + u.b8 2)] (arrived 0x0504 u s) s)) ∧
    (Arrives 0x0505 u s → 4 ≤ u.data.length →
      (u.b16 0 = 0xFFFF → u.b8 2 ≤ 63 → Clear 0x0505 false [.key (65536 + u.b8 2)] s →
        Succeeds (.secKeyErase u) 0x0505 u [BitVec.ofNat 8 (b2n (Tab.look s.sec.vaultKeys (u.b8 2)).isSome)]
          (onSec (fun c => { c with vaultKeys := Tab.del c.vaultKeys (u.b8 2) }) (arrived 0x0505 u s)) s) ∧
      (keyHandleOk (u.b16 0) = true → u.b16 0 / 8192 ≠ 0 → u.b8 2 = 0xFF → Clear 0x0505 false [.key (u.b16 0)] s →
        let t := onSec (fun c => { c with vaultSlots := Tab.del c.vaultSlots (u.b16 0) }) (arrived 0x0505 u s)
        (keyHeld (u.b16 0) s = true → Succeeds (.secKeyErase u) 0x0505 u [1] (startWrite (u.b16 0) none t) s) ∧
        (keyHeld (u.b16 0) s = false → Succeeds (.secKeyErase u) 0x0505 u [0] t s))) ∧
    (Arrives 0x0506 u s → Clear 0x0506 false [] s → u.env.wr = .ok →
      let d := u.data
      let n := rd d 8 4
      ∀ key, Tab.look s.sec.vaultKeys (rd d 2 1) = some key → rd d 2 1 ≤ 63 → s.sec.restricted = false → rd d 0 1 ≤ 1 → rd d 1 1 = 2 →
        rd d 16 8 ≠ 0 → rd d 16 8 % 4 = 0 → rd d 3 1 = 16 → rd d 4 1 = 0 → rd d 6 2 = 0 → 1 ≤ n → n ≤ 65536 → d.length = 40 + n →
        Succeeds (.secCipherJob u) 0x0506 u (leBytes 4 n ++ leBytes 4 (engineTime key n)) (emit (.dma (rd d 16 8) (fit n u.env.plain))
          (arrived 0x0506 u s)) s)

/-- Tokens: a challenge is drawn and kept; an accepted lifecycle token takes force in the OTP, consumes the challenge
and calls for a reset; one that fails its signature consumes the challenge too, and one that does not carry it, or
carries it 300 s after it was drawn, is refused; debug opens within the token's scope, is closed by a relock, and is
read. -/
def Obligations.TokensAndDebug : Prop :=
  ∀ (u : Ump) (s : State), MailboxInv s → u.env.hw = .ok →
    let t := field u.data 4 236
    (Arrives 0x0507 u s → Clear 0x0507 false [] s →
      (u.b8 0 = 0 → 1 ≤ u.data.length → s.sec.trngFailed = false →
        Succeeds (.secAuthChallenge u) 0x0507 u (fit 32 u.env.rand ++ leBytes 2 300)
          (onSec (fun c => { c with challenge := some (fit 32 u.env.rand, runTime s + 300000000000) }) (arrived 0x0507 u s)) s) ∧
      (u.b8 0 = 1 → 240 ≤ u.data.length → 1 ≤ rd t 3 1 → rd t 3 1 ≤ 3 → purposeFits (rd t 3 1) s.sec.lifecycle = true →
        purposeFits (rd t 3 1) s.sec.otpLifecycle = true →
        (TokenHolds u t [1, 2, 3] s → Succeeds (.secAuthChallenge u) 0x0507 u [BitVec.ofNat 8 (rd t 3 1)]
          (programLifecycle (rd t 3 1) t (consumeChallenge (arrived 0x0507 u s))) s) ∧
        (carriesChallenge t s = false → Fails (.secAuthChallenge u) 0x0507 u ST.notAuthorised s) ∧
        (carriesChallenge t s = true → tokenBad [1, 2, 3] t = false → u.env.sig = false →
          Answers (.secAuthChallenge u) 0x0507 u ST.signatureFail [] (consumeChallenge (arrived 0x0507 u s)) s))) ∧
    (Arrives 0x0508 u s → Clear 0x0508 false [] s → (s.sec.lifecycle = .provisioned ∨ s.sec.lifecycle = .deployed) →
      (u.b8 0 = 0 → 240 ≤ u.data.length → TokenHolds u t [4] s → bit (rd t 4 2) 0 = false → s.sec.debugScope = 0 →
        let x := onSec (fun c => { c with debugScope := rd t 4 2, debugMinutes := rd t 6 2, debugSince := runTime s })
          (consumeChallenge (arrived 0x0508 u s))
        let y := raise 0x0502 (debugPayload 1 (rd t 4 2) 0 (rd t 6 2)) x
        Succeeds (.secDebugUnlock u) 0x0508 u (debugInfo y) y s) ∧
      (u.b8 0 = 1 → 1 ≤ u.data.length → s.sec.debugScope ≠ 0 →
        let y := raise 0x0502 (debugPayload 0 s.sec.debugScope 0 s.sec.debugMinutes)
          (onSec (fun c => { c with debugScope := 0 }) (arrived 0x0508 u s))
        Succeeds (.secDebugUnlock u) 0x0508 u (debugInfo y) y s) ∧
      (u.b8 0 = 2 → 1 ≤ u.data.length →
        Succeeds (.secDebugUnlock u) 0x0508 u (debugInfo (arrived 0x0508 u s)) (arrived 0x0508 u s) s))

/-- Handshakes: an SAE Commit of a good group waits for the Hatbox, which sends the device's own; a good Confirm
caches the PMKSA and a bad one is counted; the 4-way handshake sends message 3 for a good message 2 and repeats an
unanswered message; an EAP frame becomes a RADIUS request; a valid challenge is relayed, a valid accept starts the
4-way handshake with its PMK, an invalid response changes nothing, an unanswered request is resent; a fast transition
uses its staged context while that lives. Keys of the air: a rekey without stations draws the alternate keys; a
station that does not answer is asked again; the switch erases the old slots; and a write that the Hatbox reports done
is in force. -/
def Obligations.HandshakeAndKeyRows : Prop :=
  (∀ (s : State) (b : Nat) (x : Bss), bss b s = some x → sliceUsable x.slice s = true → s.sec.restricted = false → s.sec.trngFailed = false →
     (∀ addr group h2e, hasPassword x s = true → (sixGhz x.slice s = true → h2e = true) → (group = 19 ∨ group = 20) → saeAwaiting s ≤ 16 →
       exec (.saeCommitReceive b addr group h2e) s = .next (onSec (fun c =>
         { c with sae := (c.sae.filter fun e => !(e.addr == addr && e.bss == b)) ++ [⟨addr, b, 0⟩]
                  elements := if h2e && !c.elements.contains (x.credential, x.ssid) then c.elements ++ [(x.credential, x.ssid)]
                    else c.elements }) (start s))) ∧
     (∀ addr pmk, (s.sec.sae.any fun e => e.addr == addr && e.bss == b && e.step == 1) = true →
       exec (.saeConfirmReceive b addr true pmk) s = .next (authFrame x.slice 1 addr 0 (cachePmksa addr (apAddress x) (fit 32 pmk) pmksaLife [] (onSec (fun c =>
         { c with sae := c.sae.map fun e => if e.addr = addr ∧ e.bss = b then { e with step := 2 } else e }) (start s)))) ∧
       exec (.saeConfirmReceive b addr false pmk) s = .next (handshakeFail b 1 addr
         (onSec (fun c => { c with sae := c.sae.filter fun e => !(e.addr == addr && e.bss == b) }) (start s)))) ∧
     (∀ addr e body hw, s.sec.sae.find? (fun e => e.addr == addr && e.step == 0) = some e → e.bss = b →
       exec (.hatboxJobDone 0 addr true body hw) s = .next (authFrame x.slice 0 addr 0 (onSec (fun c =>
         { c with sae := c.sae.map fun y => if y = e then { y with step := 1 } else y }) (start s)))) ∧
     (∀ addr c, stagedFor addr s = some c →
       exec (.ftAuthReceive b addr true) s = .next (authFrame x.slice 4 addr 0 (consumeContext c (apAddress x) (start s)))) ∧
     (∀ addr found, stagedFor addr s = none → exec (.ftAuthReceive b addr found) s =
       .next (authFrame x.slice 4 addr 53 (onFleet (fun f => { f with expired := inc 32 f.expired }) (start s)))) ∧
     (∀ h y, station h s = some y → y.state ≠ 4 →
       (∀ key, y.fourWay = some (1, 1) → exec (.eapolKeyReceive h 2 true key) s =
         .next (eapol h 3 (onStation h (fun x => { x with fourWay := some (3, 1) }) (start s)))) ∧
       (∀ key, y.fourWay = some (1, 1) → exec (.eapolKeyReceive h 2 false key) s =
         .next (handshakeFail (homeBss y) 2 y.addr (start s))) ∧
       (∀ key, y.fourWay = some (3, 1) → y.state = 3 → exec (.eapolKeyReceive h 4 true key) s =
         .next (startWrite (nextPtk h y) (some (fit (pairwiseLength y) key)) (onStation h (fun x =>
           { x with fourWay := none, ptk := if x.ptk = 0xFFFF then nextPtk h y else x.ptk }) (start s)))) ∧
       (∀ m n, y.fourWay = some (m, n) → n < 3 → exec (.fourwayRetryTimeout h) s =
         .next (eapol h m (onStation h (fun x => { x with fourWay := some (m, n + 1) }) (start s)))) ∧
       (∀ p key, homeBss y = b → y.state = 1 → Tab.look s.sec.radius x.radius = some p → p.dead.1 = false →
         exec (.eapolKeyReceive h 0 true key) s = .next (emit (.radius x.radius false 0 h) (onSec (fun c =>
           { c with requests := (c.requests.filter fun r => r.station != h) ++ [⟨h, x.radius, false, 0⟩] }) (start s)))) ∧
       (∀ recv send cls timeout, (s.sec.requests.any fun r => r.station == h) = true →
         let u := onSec (fun c => { c with requests := c.requests.filter fun r => r.station != h }) (start s)
         exec (.radiusResponseReceive h true 0 recv send cls timeout) s = .next (eapol h 0 u) ∧
         (homeBss y = b → exec (.radiusResponseReceive h true 1 recv send cls timeout) s =
           .next (startFourWay h (radiusPmk x.security recv send)
             (cachePmksa y.addr (apAddress x) (radiusPmk x.security recv send) pmksaLife []
               (onStation h (fun x => { x with timeout := timeout, radiusClass := cls.take 128 }) u)))) ∧
         ∀ kind, exec (.radiusResponseReceive h false kind recv send cls timeout) s = .next (start s)) ∧
       (∀ r p, s.sec.requests.find? (fun r => r.station == h) = some r → Tab.look s.sec.radius r.profile = some p →
         r.resends < rd p.bytes 3 1 → exec (.radiusTimeout h) s = .next (emit (.radius r.profile r.secondary 0 h) (onSec (fun c =>
           { c with requests := c.requests.map fun q => if q = r then { q with resends := q.resends + 1 } else q }) (start s)))) ∧
       (y.state = 1 → exec (.eapTimeout h) s = .next (deauth h 4 23 (handshakeFail (homeBss y) 5 y.addr (start s)))))) ∧
  (∀ s : State,
     (∀ b x rand, bss b s = some x → x.security ≠ 0 → s.sec.restricted = false → s.sec.trngFailed = false → stationsOf b s = [] →
       x.rekeyAt + 86400 ≤ s.mem.seconds →
       let j := 1 - (x.groupKey - 4096) % 6 % 2
       Reaches (.groupRekeyDue b rand) s fun t =>
         (bss b t).map (fun y => (y.newGroupKey, y.rekeyWaiting, y.groupKey)) = some (some (4096 + 6 * b + j), [], x.groupKey) ∧
         (∀ h ∈ groupSlots b j (bit x.flags 4), ∃ k, t.sec.writes.find? (fun w => w.handle == h) = some ⟨h, some k⟩ ∧
           k.length = groupKeyLength x.security) ∧
         t.sec.keys = s.sec.keys ∧ t = { start s with sec := { s.sec with writes := t.sec.writes }, air := { s.air with bss := t.air.bss } }) ∧
     (∀ b x h n, bss b s = some x → x.rekeyWaiting.find? (fun e => e.1 == h) = some (h, n) → n < 3 →
       exec (.groupKeyRetryTimeout b h) s = .next (eapol h 5 (onBss b (fun x =>
         { x with rekeyWaiting := x.rekeyWaiting.map fun e => if e.1 = h then (h, n + 1) else e }) (start s)))) ∧
     (∀ b x g, bss b s = some x → x.newGroupKey = some g → x.rekeyWaiting = [] → keyHeld g s = true →
       exec (.groupKeySwitch b) s = .next (eraseHeld (groupSlots b ((x.groupKey - 4096) % 6 % 2) (bit x.flags 4))
         (onBss b (fun x => { x with groupKey := g, newGroupKey := none }) (start s)))) ∧
     (∀ h k, s.sec.writes.find? (fun w => w.handle == h) = some ⟨h, some k⟩ → 4096 ≤ h →
       exec (.keyWriteComplete h) s = .next (onSec (fun c =>
         { c with keys := Tab.put c.keys h k, writes := c.writes.filter fun w => w.handle != h }) (start s))) ∧
     (∀ h, s.sec.writes.find? (fun w => w.handle == h) = some ⟨h, none⟩ → 8192 * 2 ≤ h →
       exec (.keyWriteComplete h) s = .next (onSec (fun c =>
         { c with keys := Tab.del c.keys h, writes := c.writes.filter fun w => w.handle != h }) (start s))) ∧
     (∀ addr ap, exec (.pmksaExpiry addr ap) s =
       .next (onSec (fun c => { c with pmksa := c.pmksa.filter fun p =>
         !(p.addr == addr && p.ap == ap && decide (p.expires ≤ runTime s)) }) (start s))) ∧
     (∀ profile secondary p, Tab.look s.sec.radius profile = some p → exec (.radiusDeadTimeEnd profile secondary) s =
       .next (let q : RadiusProfile := { p with dead := if secondary then (p.dead.1, false) else (false, p.dead.2) }
              onSec (fun c => { c with radius := Tab.put c.radius profile q }) (start s))) ∧
     (∀ c, s.sec.challenge = some c →
       (c.2 ≤ runTime s → exec .challengeExpiry s = .next (onSec (fun c => { c with challenge := none }) (start s))) ∧
       (runTime s < c.2 → exec .challengeExpiry s = .next (start s))) ∧
     (runTime s < debugEnds s → exec .debugDurationExpiry s = .next (start s)) ∧
     (debugEnds s ≤ runTime s → s.sec.debugScope ≠ 0 → (s.sec.lifecycle = .provisioned ∨ s.sec.lifecycle = .deployed) →
       exec .debugDurationExpiry s = .next (raise 0x0502 (debugPayload 0 s.sec.debugScope 1 s.sec.debugMinutes) (onSec (fun c => { c with debugScope := 0 }) (start s)))) ∧
     (∀ ok, s.sec.trngFailed = false →
       (s.sec.trngRetry = false → exec (.trngHealthFail ok) s = .next (onSec (fun c => { c with trngRetry := true }) (start s))) ∧
       (s.sec.trngRetry = true → exec (.trngHealthFail true) s = .next (transientFault 0x00C7 (leBytes 4 0)
           (onSec (fun c => { c with trngRetry := false, trngFailed := false }) (start s))) ∧
         exec (.trngHealthFail false) s = .next (lastingRecord 0x00C7 (leBytes 4 0) true
           (onSec (fun c => { c with trngRetry := false, trngFailed := true }) (start s))))) ∧
     (∀ addr, (s.fleet.staged.any fun c => c.addr == addr && decide (c.expires ≤ runTime s)) = true → exec (.contextStagingExpiry addr) s = .next (onFleet (fun f =>
       { f with staged := f.staged.filter fun c => c.addr != addr, expired := inc 32 f.expired }) (start s))) ∧
     (∀ a body, firstAsync 0x0504 s = some a → rd a.payload 0 2 / 8192 = 1 → keyHandleOk (rd a.payload 0 2) = true →
       exec (.hatboxJobDone 0x0504 0 false body .ok) s = .next (endAsync a ST.authFail [] (start s)) ∧
       (field (a.payload.drop 4) 16 8 = fit 8 s.sec.sealing.2 →
         let key := fit (rd a.payload 16 2) body
         exec (.hatboxJobDone 0x0504 0 true body .ok) s = .next (endAsync a ST.ok (a.payload.take 3) (onSec (fun c =>
           { c with vaultSlots := Tab.put c.vaultSlots (rd a.payload 0 2) key }) (writeSlotKey (rd a.payload 0 2) key
             (newCounters (rd a.payload 0 2) (keepSerial (a.payload.drop 4) (start s)))))))))

/-- The commands of the fleet: FLT_GET_INFO answers its record; FLT_SET_FLOOR reads or sets the floor, with its event;
FLT_SET_KEY, FLT_CONTEXT_EXPORT and FLT_CONTEXT_IMPORT are accepted where the fleet key they need is held, and a
context of another fleet is refused with its event. -/
def Obligations.FleetCommandsAnswer : Prop :=
  ∀ (u : Ump) (s : State), MailboxInv s →
    (Arrives 0x0D01 u s → Clear 0x0D01 false [] s →
      Succeeds (.fltGetInfo u) 0x0D01 u (fleetInfo s) (arrived 0x0D01 u s) s) ∧
    (Arrives 0x0D02 u s → Clear 0x0D02 false [] s → 4 ≤ u.data.length → u.env.hw = .ok →
      (u.b8 0 = 0 → Succeeds (.fltSetFloor u) 0x0D02 u (floorInfo 0 s) (arrived 0x0D02 u s) s) ∧
      (u.b8 0 = 1 → 0x0300 ≤ u.b16 2 → u.b16 2 ≤ runningVersion s → u.b16 2 ≠ s.fleet.floor →
        Succeeds (.fltSetFloor u) 0x0D02 u (leBytes 1 1 ++ leBytes 1 0 ++ leBytes 2 (u.b16 2) ++ leBytes 1 (formatWritten (u.b16 2)))
          (raise 0x0D02 (leBytes 2 s.fleet.floor ++ leBytes 2 (u.b16 2) ++ leBytes 1 0)
            (onFleet (fun f => { f with floor := u.b16 2 }) (arrived 0x0D02 u s))) s)) ∧
    (Arrives 0x0D05 u s → Clear 0x0D05 true [.fleetKey] s → s.sec.restricted = false →
      (u.b8 0 = 1 → 4 ≤ u.data.length → u.b16 2 ≠ 0 → (fleetHeld s = true → u.b16 2 = s.fleet.id) →
        Pends (.fltSetKey u) 0x0D05 u [.fleetKey] (arrived 0x0D05 u s) s) ∧
      (u.b8 0 = 2 → 1 ≤ u.data.length → Pends (.fltSetKey u) 0x0D05 u [.fleetKey] (arrived 0x0D05 u s) s)) ∧
    (Arrives 0x0D03 u s → s.sec.restricted = false →
      let n := (contextBody (u.b16 2) (formatWritten s.fleet.floor) s).length
      let v := { u with env := { u.env with ext := leBytes 2 s.fleet.epoch ++ leBytes 2 n } }
      (u.b8 0 = 2 → 16 ≤ u.data.length → (station (u.b16 2) s).isSome = true → Clear 0x0D03 true [.station (u.b16 2)] s →
        Answers (.fltContextExport u) 0x0D03 u ST.pending [] (accept v 0x0D03 [.station (u.b16 2)] (arrived 0x0D03 u s)) s) ∧
      (u.b8 0 = 0 → 24 ≤ u.data.length → (station (u.b16 2) s).any (fun x => x.state == 3) = true → Clear 0x0D03 true [] s →
        fleetHeld s = true → u.b64 16 ≠ 0 → u.b64 16 % 4 = 0 → 64 + n ≤ u.b32 12 →
        Answers (.fltContextExport u) 0x0D03 u ST.pending [] (accept v 0x0D03 [] (arrived 0x0D03 u s)) s)) ∧
    (Arrives 0x0D04 u s → Clear 0x0D04 true [] s → s.sec.restricted = false → u.b8 0 = 0 → 8 ≤ u.data.length →
      (u.b16 2 = 0 ∨ (10 ≤ u.b16 2 ∧ u.b16 2 ≤ 3600)) → contextBad (u.data.drop 8) = false →
      64 + rd (u.data.drop 8) 10 2 ≤ (u.data.drop 8).length →
      (rd (u.data.drop 8) 6 2 = s.fleet.id → (Tab.look s.fleet.keys (rd (u.data.drop 8) 8 2)).isSome = true → rd (u.data.drop 8) 5 1 ≤ 3 →
        contextOlder (u.data.drop 8) s = false → Pends (.fltContextImport u) 0x0D04 u [] (arrived 0x0D04 u s) s) ∧
      (rd (u.data.drop 8) 6 2 ≠ s.fleet.id → Answers (.fltContextImport u) 0x0D04 u ST.badParam []
        (raise 0x0D01 (fit 6 (field (u.data.drop 8) 24 6) ++ leBytes 1 1 ++ leBytes 1 (rd (u.data.drop 8) 5 1))
          (onFleet (fun f => { f with refused := inc 32 f.refused }) (arrived 0x0D04 u s))) s))

/-- Firmware update: an update of the inactive slot is opened, its data accepted at the offset reached and counted as
written; a commit whose checks pass makes the image complete and one that fails is reported; activating it makes the
slot active on trial and a reset due; a trial is confirmed with the security floor raised. -/
def Obligations.FirmwareUpdateRows : Prop :=
  ∀ (u : Ump) (s : State), MailboxInv s →
    (Arrives 0x0E01 u s → Clear 0x0E01 false [.image (updateSlot s)] s → 4 ≤ u.data.length → 1 ≤ u.b32 0 → u.b32 0 ≤ 33554432 →
      s.fwu.onTrial = false → s.fwu.session = false → u.env.hw = .ok →
      Succeeds (.fwuBegin u) 0x0E01 u [BitVec.ofNat 8 (updateSlot s)] (onImage (updateSlot s) (fun _ => .empty) (onFwu (fun w =>
        { w with session := true, slot := updateSlot s, length := u.b32 0, written := 0, committed := false }) (arrived 0x0E01 u s))) s) ∧
    (Arrives 0x0E02 u s → Clear 0x0E02 true [.image s.fwu.slot] s → 9 ≤ u.data.length → u.data.length ≤ 1048576 → u.b32 0 = s.fwu.written →
      s.fwu.session = true → s.fwu.written + (u.data.length - 8) ≤ s.fwu.length →
      Pends (.fwuData u) 0x0E02 u [.image s.fwu.slot] (arrived 0x0E02 u s) s) ∧
    (Arrives 0x0E03 u s → Clear 0x0E03 true [.image s.fwu.slot] s → s.fwu.session = true → s.fwu.committed = false →
      s.fwu.written = s.fwu.length → Pends (.fwuCommit u) 0x0E03 u [.image s.fwu.slot] (arrived 0x0E03 u s) s) ∧
    (∀ a, firstAsync 0x0E02 s = some a →
      let n := s.fwu.written + (a.ext.length - 8)
      exec (.fwuDataWritten .ok) s = .next (endAsync a ST.ok (leBytes 4 n)
        (onImage s.fwu.slot (fun i => { i with written := n }) (onFwu (fun w => { w with written := n }) (start s))))) ∧
    (∀ a cause version security, firstAsync 0x0E03 s = some a →
      let i : ImageSlot := ⟨cause, version, security, s.fwu.written⟩
      (imageCause i s.sec.antiRollback = 0 → exec (.fwuCommitChecked cause version security) s =
        .next (endAsync a ST.ok (leBytes 4 version ++ leBytes 4 security) (onImage s.fwu.slot (fun _ => i)
          (onFwu (fun w => { w with committed := true, session := false }) (start s))))) ∧
      (imageCause i s.sec.antiRollback ≠ 0 → exec (.fwuCommitChecked cause version security) s =
        .next (endAsync a (imageStatus (imageCause i s.sec.antiRollback)) []
          (raise 0x0505 (rejectedPayload s.fwu.slot (imageCause i s.sec.antiRollback) security s.sec.antiRollback) (start s))))) ∧
    (Arrives 0x0E04 u s → Clear 0x0E04 true [.image s.fwu.slot] s → 1 ≤ u.data.length → s.power.stage ≠ 7 → u.env.hw = .ok →
      findAsync 0x0E04 u.tag s = none →
      (u.b8 0 = 0 → s.fwu.committed = true → s.fwu.onTrial = false →
        Reaches (.fwuActivate u) s fun t => t.fwu = { s.fwu with active := s.fwu.slot, trial := true, tried := false, committed := false } ∧
          t.power = { s.power with pendingReset := 1, resetAt := runTime s + 100000000 } ∧ t.sec = s.sec ∧ t.air = s.air ∧ t.mem.mramLasting = s.mem.mramLasting) ∧
      (u.b8 0 = 1 → s.fwu.onTrial = true →
        Reaches (.fwuActivate u) s fun t => t.fwu = { s.fwu with trial := false, tried := false, onTrial := false } ∧ t.power = s.power ∧
          t.sec = { s.sec with antiRollback := max s.sec.antiRollback (slotOf s.fwu.active s.fwu).security } ∧ t.air = s.air))

/-- The tables of the forwarding engine are set, deleted, read and kept by their commands: VLANs, routes, ACL rules,
NAT pools, forwards and timeouts; flows are found, listed and removed. -/
def Obligations.ForwardingTablesAreSet : Prop :=
  ∀ (u : Ump) (s : State), MailboxInv s → powered 2 s = true → powered 9 s = true →
    (Arrives 0x0609 u s → Clear 0x0609 false [] s → 36 ≤ u.data.length → badVlan (u.b16 0) = false →
      let a := arrived 0x0609 u s
      let v := u.b16 0
      let x := vlanArgs u
      let mine (r : CfgRecord) : Bool := r.code == 0x0609 && rd r.payload 0 2 == v
      (u.b8 2 = 0 → x.members ≤ 31 → x.untagged ≤ 31 → x.v4.2 ≤ 31 → x.v6.2 ≤ 127 → 1280 ≤ x.mtu → x.mtu ≤ 9198 →
        (bit x.flags 4 = true → notUnicast (field u.data 6 6) = false ∧ otherRouters v s < 256) →
        Succeeds (.fwdVlanSet u) 0x0609 u []
          (cfgKeepIf mine 0x0609 u.payload (onWire (fun w => { w with vlans := Tab.put w.vlans v x }) a)) s) ∧
      (∀ y, vlan v s = some y →
        (u.b8 2 = 1 → (s.air.bss.any fun e => e.2.vlan == v) = false →
          Succeeds (.fwdVlanSet u) 0x0609 u [] (cfgDelete mine 0x0609 u.payload (onWire (fun w =>
            { w with vlans := Tab.del w.vlans v, groups := w.groups.filter fun g => g.vlan != v
                     nextHops := w.nextHops.filter fun h => h.iface != v }) (flushVlan v a))) s) ∧
        (u.b8 2 = 2 → Succeeds (.fwdVlanSet u) 0x0609 u (vlanBytes v 2 y) a s) ∧
        (u.b8 2 = 3 → Succeeds (.fwdVlanSet u) 0x0609 u [] (onWire (fun w =>
          { w with macs := w.macs.filter fun e => e.station.isSome || e.vlan != v }) a) s))) ∧
    (Arrives 0x0602 u s → Clear 0x0602 false [] s → 40 ≤ u.data.length → (u.b8 1 = 4 ∨ u.b8 1 = 6) → u.b8 2 ≤ addrBits (u.b8 1) →
      addrBad u.data 4 (u.b8 1) = false →
      let a := arrived 0x0602 u s
      let r := routeArgs u
      let rest := s.wire.routes.filter fun x => !sameRoute x r
      (u.b8 0 = 0 → r.kind ≤ 3 → (r.kind < 2 → (routerVlan r.iface s).isSome = true) → (r.kind = 1 → addrBad u.data 24 r.family = false) →
        (rest.filter fun x => x.family == r.family).length < (if r.family = 4 then 65536 else 32768) →
        Succeeds (.fwdRouteSet u) 0x0602 u []
          (cfgKeepIf (routeRecord r) 0x0602 u.payload (onWire (fun w => { w with routes := rest ++ [r] }) a)) s) ∧
      (∀ old, s.wire.routes.find? (fun x => sameRoute x r) = some old →
        (u.b8 0 = 1 → Succeeds (.fwdRouteSet u) 0x0602 u []
          (cfgDelete (routeRecord r) 0x0602 u.payload (onWire (fun w => { w with routes := rest }) a)) s) ∧
        (u.b8 0 = 2 → Succeeds (.fwdRouteSet u) 0x0602 u (routeBytes 2 old) a s))) ∧
    (Arrives 0x0603 u s → Clear 0x0603 false [] s → 68 ≤ u.data.length → u.b16 0 ≤ 4095 →
      let a := arrived 0x0603 u s
      let mine (r : CfgRecord) : Bool := r.code == 0x0603 && rd r.payload 0 2 == u.b16 0
      (u.b8 2 = 0 → aclBad u.data = false → Succeeds (.fwdAclSet u) 0x0603 u []
        (cfgKeepIf mine 0x0603 u.payload (onWire (fun w => { w with acl := Tab.put w.acl (u.b16 0) ⟨fit 68 u.data, 0, 0⟩ }) a)) s) ∧
      (∀ r, Tab.look s.wire.acl (u.b16 0) = some r →
        (u.b8 2 = 1 → Succeeds (.fwdAclSet u) 0x0603 u []
          (cfgDelete mine 0x0603 u.payload (onWire (fun w => { w with acl := Tab.del w.acl (u.b16 0) }) a)) s) ∧
        (u.b8 2 = 2 → Succeeds (.fwdAclSet u) 0x0603 u (r.bytes ++ leBytes 8 r.hits ++ leBytes 8 r.octets) a s))) ∧
    (Arrives 0x0604 u s → Clear 0x0604 false [] s →
      let a := arrived 0x0604 u s
      let n := u.b16 2
      (u.b8 0 = 0 → 14 ≤ u.data.length → (routerVlan n s).any (fun x => bit x.flags 7) = true → 1 ≤ u.b8 8 → u.b8 8 ≤ 16 → 1 ≤ u.b16 10 →
        u.b16 10 ≤ u.b16 12 → Succeeds (.fwdNatSet u) 0x0604 u [] (cfgKeepIf (natRecord 0 n) 0x0604 u.payload
          (onWire (fun w => { w with pools := Tab.put w.pools n (poolArgs u) }) a)) s) ∧
      (u.b8 0 = 1 → 14 ≤ u.data.length → n ≤ 1023 → (u.b8 4 = 6 ∨ u.b8 4 = 17) →
        Succeeds (.fwdNatSet u) 0x0604 u [] (cfgKeepIf (natRecord 1 n) 0x0604 u.payload
          (onWire (fun w => { w with forwards := Tab.put w.forwards n ⟨u.b8 4, u.b16 6, rdBe u.data 8 4, u.b16 12⟩ }) a)) s) ∧
      (u.b8 0 = 2 → 4 ≤ u.data.length → n ≤ 1023 → (Tab.look s.wire.forwards n).isSome = true →
        Succeeds (.fwdNatSet u) 0x0604 u [] (cfgDelete (natRecord 1 n) 0x0604 u.payload
          (onWire (fun w => { w with forwards := Tab.del w.forwards n }) a)) s) ∧
      (u.b8 0 = 3 → 36 ≤ u.data.length →
        (((timeoutArgs u).zip timeoutRanges).all fun e => decide (e.2.1 ≤ e.1) && decide (e.1 ≤ e.2.2)) = true →
        10 ≤ u.b32 32 → u.b32 32 ≤ 3600 → Succeeds (.fwdNatSet u) 0x0604 u [] (cfgKeepIf (natRecord 3 n) 0x0604 u.payload
          (onWire (fun w => { w with timeouts := timeoutArgs u, macAging := u.b32 32 }) a)) s) ∧
      (u.b8 0 = 4 → 4 ≤ u.data.length → ∀ b, natBytes (u.b8 1) n s = some b → Succeeds (.fwdNatSet u) 0x0604 u b a s)) ∧
    (Arrives 0x0605 u s → Clear 0x0605 false [] s → 44 ≤ u.data.length → (u.b8 1 = 4 ∨ u.b8 1 = 6) →
      let a := arrived 0x0605 u s
      let t : Tuple := ⟨u.b8 1, u.b8 2, addrAt u.data 8 (u.b8 1), addrAt u.data 24 (u.b8 1), u.b16 40, u.b16 42⟩
      let hit := s.wire.flows.find? fun e => flowForward t e.2 || flowReverse t e.2
      (∀ n f, hit = some (n, f) →
        (u.b8 0 = 0 → Succeeds (.fwdFlowQuery u) 0x0605 u
          (leBytes 1 1 ++ leBytes 3 0 ++ leBytes 4 0xFFFFFFFF ++ flowBytes n f a) a s) ∧
        (u.b8 0 = 2 → Succeeds (.fwdFlowQuery u) 0x0605 u (leBytes 1 0 ++ leBytes 3 0 ++ leBytes 4 0xFFFFFFFF) (removeFlow n a) s)) ∧
      (u.b8 0 = 1 →
        let l := s.wire.flows.filter fun e => decide (u.b32 4 ≤ e.1)
        Succeeds (.fwdFlowQuery u) 0x0605 u (leBytes 1 (l.take 3).length ++ leBytes 3 0
          ++ leBytes 4 (((l.drop 3).head?.map Prod.fst).getD 0xFFFFFFFF) ++ ((l.take 3).map fun e => flowBytes e.1 e.2 a).flatten) a s))

/-- The commands of the ports: settings are read, or applied and kept; a snapshot latches the counters and clears
them; wake patterns are set, deleted and read; MACsec channels are set up with a key that is held, made active,
deleted and read. -/
def Obligations.PortCommandsAnswer : Prop :=
  ∀ (u : Ump) (s : State), MailboxInv s → powered 2 s = true → powered 9 s = true →
    (Arrives 0x0601 u s → 24 ≤ u.data.length → u.b8 0 ≤ 4 →
      let p := u.b8 0
      (u.b8 1 = 0 → Clear 0x0601 false [] s →
        Succeeds (.fwdSetPort u) 0x0601 u (portReply p 0 (arrived 0x0601 u s)).data (arrived 0x0601 u s) s) ∧
      (u.b8 1 = 1 → portArgsBad p (portArgs u) = false → (portArgs u).admin = true → (port p s).state = .up →
        (portArgs u).mode = (port p s).cfg.mode → (portArgs u).fec = (port p s).cfg.fec → (portArgs u).flow = (port p s).cfg.flow →
        Clear 0x0601 false [.port p, .bist 2] s →
        let x := cfgKeep 0x0601 0 2 u.payload (settleXoff (onPort p (fun x => { x with cfg := portArgs u }) (arrived 0x0601 u s)))
        Succeeds (.fwdSetPort u) 0x0601 u (portReply p 1 x).data x s) ∧
      (u.b8 1 = 1 → portArgsBad p (portArgs u) = false → (portArgs u).admin = false → (port p s).state = .down →
        (portArgs u).flow = (port p s).cfg.flow → Clear 0x0601 false [.port p] s →
        let x := cfgKeep 0x0601 0 2 u.payload (settleXoff (onPort p (fun x =>
          { x with cfg := portArgs u, state := .adminDown, retry := 0 }) (arrived 0x0601 u s)))
        Succeeds (.fwdSetPort u) 0x0601 u (portReply p 1 x).data x s)) ∧
    (Arrives 0x0606 u s → Clear 0x0606 false [] s → 4 ≤ u.data.length → u.b8 0 ≤ 4 → u.b8 2 ≤ 1 →
      let record (n : Nat × Nat × Tab Nat) : Bytes := leBytes 1 (u.b8 0) ++ leBytes 1 (u.b8 2) ++ leBytes 2 n.1 ++ leBytes 4 n.2.1
        ++ ((List.range 24).map fun i => leBytes 8 (Tab.getD n.2.2 (24 * u.b8 2 + i) 0)).flatten
      (u.b8 1 = 0 → ∃ n, (port (u.b8 0) (takeSnapshot (u.b8 0) u.env.line (arrived 0x0606 u s))).snapshot = some n ∧
        (port (u.b8 0) (takeSnapshot (u.b8 0) u.env.line (arrived 0x0606 u s))).counters = [] ∧
        Succeeds (.ethGetCounters u) 0x0606 u (record n) (takeSnapshot (u.b8 0) u.env.line (arrived 0x0606 u s)) s) ∧
      (∀ n, u.b8 1 = 1 → (port (u.b8 0) s).snapshot = some n →
        Succeeds (.ethGetCounters u) 0x0606 u (record n) (arrived 0x0606 u s) s)) ∧
    (Arrives 0x0607 u s → Clear 0x0607 false [] s → 28 ≤ u.data.length → u.b8 0 ≤ 4 → u.b8 2 ≤ 15 → u.b8 3 ≤ 1 →
      let a := arrived 0x0607 u s
      (u.b8 1 = 0 → rdBe u.data 4 16 ≠ 0 → Succeeds (.ethSetWol u) 0x0607 u [] (cfgKeepIf (wolRecord (u.b8 0) 0 (u.b8 2)) 0x0607 u.payload
        (onPort (u.b8 0) (fun x => { x with patterns := Tab.put x.patterns (u.b8 2) ⟨bit (u.b8 3) 0, field u.data 4 16, u.b16 20⟩ }) a)) s) ∧
      (u.b8 1 = 1 → Succeeds (.ethSetWol u) 0x0607 u [] (cfgDrop (wolRecord (u.b8 0) 0 (u.b8 2))
        (onPort (u.b8 0) (fun x => { x with patterns := Tab.del x.patterns (u.b8 2) }) a)) s) ∧
      (u.b8 1 = 2 → Succeeds (.ethSetWol u) 0x0607 u [] (cfgKeepIf (wolRecord (u.b8 0) 2 (u.b8 2)) 0x0607 u.payload
        (onPort (u.b8 0) (fun x => { x with magic := bit (u.b8 3) 0, magicMac := rdBe u.data 22 6 }) a)) s) ∧
      (∀ w, u.b8 1 = 3 → Tab.look (port (u.b8 0) s).patterns (u.b8 2) = some w → Succeeds (.ethSetWol u) 0x0607 u
        (leBytes 1 (u.b8 0) ++ leBytes 1 3 ++ leBytes 1 (u.b8 2) ++ leBytes 1 (b2n w.enable) ++ w.mask ++ leBytes 2 w.check
          ++ beBytes 6 (port (u.b8 0) s).magicMac ++ leBytes 1 (b2n (port (u.b8 0) s).magic) ++ leBytes 3 0) a s)) ∧
    (Arrives 0x0608 u s → 48 ≤ u.data.length → u.b8 0 ≤ 3 → u.b8 2 ≤ 3 → u.b8 3 ≤ 3 →
      let a := arrived 0x0608 u s
      let y := (port (u.b8 0) s).secy
      let sa : Sa := ⟨u.b16 12, u.b32 14, field u.data 18 12, u.b64 32, false⟩
      (Clear 0x0608 false [.port (u.b8 0)] s →
        (u.b8 1 = 0 → u.b32 40 ≤ 2 ^ 30 → Succeeds (.ethSetMacsec u) 0x0608 u [] (cfgKeepIf (macsecRecord (u.b8 0) 0 0 0) 0x0608 u.payload
          (onSecy (u.b8 0) (fun y => { y with flags := u.b8 44 % 16, sci := rd u.data 4 8, window := u.b32 40 }) a)) s) ∧
        (u.b8 1 = 1 → saOf y false (u.b8 3) (u.b8 2) = none → y.tx.length < 2 →
          (sakHeld (u.b16 12) s = true → Succeeds (.ethSetMacsec u) 0x0608 u []
            (cfgKeepIf (macsecRecord (u.b8 0) 1 (u.b8 2) (u.b8 3)) 0x0608 u.payload
              (onSecy (u.b8 0) (fun y => { y with tx := Tab.put y.tx (u.b8 2) sa }) a)) s) ∧
          (sakHeld (u.b16 12) s = false → Fails (.ethSetMacsec u) 0x0608 u ST.keyAbsent s)) ∧
        (u.b8 1 = 2 → saOf y true (u.b8 3) (u.b8 2) = none → (y.rx.filter fun e => e.1 / 4 == u.b8 3).length < 2 →
          sakHeld (u.b16 12) s = true → Succeeds (.ethSetMacsec u) 0x0608 u []
            (cfgKeepIf (macsecRecord (u.b8 0) 2 (u.b8 2) (u.b8 3)) 0x0608 u.payload (onSecy (u.b8 0) (fun y =>
              { y with rx := Tab.put y.rx (u.b8 3 * 4 + u.b8 2) sa, rxSci := Tab.put y.rxSci (u.b8 3) (rd u.data 4 8) }) a)) s) ∧
        (u.b8 1 = 3 → saOf y false (u.b8 3) (u.b8 2) ≠ none → Succeeds (.ethSetMacsec u) 0x0608 u []
          (cfgKeepIf (macsecRecord (u.b8 0) 3 (u.b8 2) (u.b8 3)) 0x0608 u.payload
            (onSecy (u.b8 0) (fun y => { y with active := some (u.b8 2) }) a)) s) ∧
        (u.b8 1 = 4 → saOf y true (u.b8 3) (u.b8 2) ≠ none → Succeeds (.ethSetMacsec u) 0x0608 u []
          (cfgDrop (macsecRecord (u.b8 0) 2 (u.b8 2) (u.b8 3))
            (onSecy (u.b8 0) (fun y => { y with rx := Tab.del y.rx (u.b8 3 * 4 + u.b8 2) }) a)) s)) ∧
      (Clear 0x0608 false [] s → u.b8 1 = 5 → saOf y true (u.b8 3) (u.b8 2) = none →
        Succeeds (.ethSetMacsec u) 0x0608 u (macsecBytes u y y.sci (saOf y false (u.b8 3) (u.b8 2))) a s))

/-- The commands of the queueing engine: a shaper and a policer are read, set (at once where new, at the next refill
where in use), deleted, and attached to and detached from their objects; a gate list is set or withdrawn while its
base time is not near; the sampler's ring and ranges are set; samples are read out in order; the maps and a queue's
limits are set and kept. -/
def Obligations.QueueCommandsAnswer : Prop :=
  ∀ (u : Ump) (s : State), MailboxInv s →
    (Arrives 0x0701 u s → Clear 0x0701 false [] s → 20 ≤ u.data.length → u.b16 0 ≤ 4095 →
      let a := arrived 0x0701 u s
      let n := u.b16 0
      let look := Tab.look s.qme.shapers n
      let cur := (look.map attachedTo).getD []
      let t : ShaperTarget := (u.b8 16, u.b16 18)
      let done (x : State) : Prop := Succeeds (.queSetShaper u) 0x0701 u (shaperReply u x).data x s
      (u.b8 2 = 0 → done a) ∧
      (u.b8 2 = 1 → shaperArgsBad (shaperArgs u) = false → (look = none →
          done (cfgKeepIf (shaperRecord n 1) 0x0701 u.payload
            (onQme (fun m => { m with shapers := Tab.put m.shapers n ⟨shaperArgs u, none, 0, 0, 0, false, [], []⟩ }) a))) ∧
        (look.isSome = true → cur = [] → done (cfgKeepIf (shaperRecord n 1) 0x0701 u.payload
            (onShaper n (fun x => { x with due := some (shaperArgs u) }) a)))) ∧
      (u.b8 2 = 2 → cur = [] → done (cfgDrop (shaperRecord n 1) (onQme (fun m => { m with shapers := Tab.del m.shapers n }) a))) ∧
      (∀ x, look = some x → targetExists t s = true → u.b8 15 = (shaperCfg x).level → targetLevel t.1 = (shaperCfg x).level →
        ((shaperCfg x).unit = 1 → t.1 ≤ 1) →
        (u.b8 2 = 3 → (s.qme.shapers.any fun e => (attachedTo e.2).contains t) = false →
          let y := onShaper n (fun x => { x with dueAttach := x.dueAttach ++ [(true, t)] }) a
          done (if t.1 = 0 then y else cfgKeepIf (attachRecord t) 0x0701 u.payload y)) ∧
        (u.b8 2 = 4 → cur.contains t = true →
          done (cfgDrop (attachRecord t) (onShaper n (fun x => { x with dueAttach := x.dueAttach ++ [(false, t)] }) a))))) ∧
    (Arrives 0x0702 u s → Clear 0x0702 false [] s → 32 ≤ u.data.length → u.b16 0 ≤ 4095 →
      let a := arrived 0x0702 u s
      let n := u.b16 0
      let look := Tab.look s.qme.policers n
      let c := policerArgs u
      let src : Nat × Nat := (u.b8 22, u.b16 24)
      let done (x : State) : Prop := Succeeds (.queSetPolicer u) 0x0702 u (policerReply u x).data x s
      (u.b8 2 = 0 → done a) ∧
      (u.b8 2 = 1 → policerArgsBad c = false →
        (look = none → done (cfgKeepIf (policerRecord n 1) 0x0702 u.payload (onQme (fun m =>
          { m with policers := Tab.put m.policers n ⟨c, none, c.cbs, c.pbs, (0, 0), [], 0, 0, 0, 0⟩ }) a))) ∧
        (look.isSome = true → done (cfgKeepIf (policerRecord n 1) 0x0702 u.payload
          (onPolicer n (fun p => { p with due := some c }) a)))) ∧
      (u.b8 2 = 2 → (look.any fun p => !p.sources.isEmpty) = false → aclPolices n s = false →
        done (cfgDrop (policerRecord n 1) (onQme (fun m => { m with policers := Tab.del m.policers n }) a))) ∧
      (look.isSome = true → src.1 = 2 → src.2 ≤ 4 →
        (u.b8 2 = 3 → sourcePolicer src s = none → done (cfgKeepIf (sourceRecord src) 0x0702 u.payload
          (onPolicer n (fun p => { p with sources := p.sources ++ [src] }) a))) ∧
        (u.b8 2 = 4 → sourcePolicer src s = some n → done (cfgDrop (sourceRecord src)
          (onPolicer n (fun p => { p with sources := p.sources.filter (· != src) }) a))))) ∧
    (Arrives 0x0703 u s → Clear 0x0703 false [] s → 32 ≤ u.data.length → u.b8 0 ≤ 3 →
      let a := arrived 0x0703 u s
      let p := u.b8 0
      let l := gclArgs u.data
      (u.b8 1 = 0 → 1 ≤ u.b16 2 → u.b16 2 ≤ 256 → 32 + 8 * u.b16 2 ≤ u.data.length → 1000 ≤ l.cycle → l.cycle ≤ 1000000000 →
        l.cycle % 8 = 0 → (l.entries.any fun e => e.2 == 0 || e.2 % 8 != 0) = false → deviceTime s + 100000 ≤ l.base → gclNear p s = false →
        Succeeds (.queSetGcl u) 0x0703 u [] (cfgKeep 0x0703 0 1 u.data (onGates p (fun x => { x with pending := some l }) a)) s) ∧
      (u.b8 1 = 1 → (gates p s).pending.isSome = true → gclNear p s = false → Succeeds (.queSetGcl u) 0x0703 u []
        (cfgDrop (fun r => r.code == 0x0703 && rd r.payload 0 1 == p) (onGates p (fun x => { x with pending := none }) a)) s) ∧
      (∀ g, u.b8 1 = 2 → (gates p s).oper = some g → u.b64 20 ≠ 0 → u.b64 20 % 4 = 0 → u.env.wr = .ok →
        Succeeds (.queSetGcl u) 0x0703 u [] (emit (.dma (u.b64 20) (gclBytes p 2 (u.b64 20) g)) a) s)) ∧
    (Arrives 0x0704 u s → Clear 0x0704 false [] s → 12 ≤ u.data.length →
      let a := arrived 0x0704 u s
      let op := u.b8 0
      let lo := u.b16 2
      let hi := u.b16 4
      let l := cutRange lo hi s.qme.sampled ++ [(lo, hi, u.b16 6)]
      let done (x : State) : Prop := Succeeds (.queSetSampler u) 0x0704 u (samplerReply op x).data x s
      (op = 0 → done a) ∧
      (op = 1 → u.b32 8 = 2 ^ (u.b32 8).log2 → 4096 ≤ u.b32 8 → u.b32 8 ≤ 1048576 → s.qme.sampled = [] →
        done (cfgKeepIf (fun r => r.code == 0x0704 && rd r.payload 0 1 == 1) 0x0704 u.payload (onQme (fun m =>
          { m with ringSize := u.b32 8, samples := [], writeIdx := 0, readIdx := 0, lostFlag := false }) a))) ∧
      (op = 2 → lo ≤ hi → hi < 16384 → 1 ≤ u.b16 6 → u.b16 6 ≤ 1000 → (sampleRate l).1 ≤ 4000000 * (sampleRate l).2 →
        done (onQme (fun m => { m with sampled := l, lastRange := (lo, hi, u.b16 6) }) a)) ∧
      (op = 3 → lo ≤ hi → hi ≤ 16488 →
        done (cfgDrop (fun r => r.code == 0x0704 && rd r.payload 0 1 == 2 && decide (lo ≤ rd r.payload 2 2) && decide (rd r.payload 4 2 ≤ hi))
          (onQme (fun m => { m with sampled := cutRange lo hi m.sampled, lastRange := (lo, hi, u.b16 6) }) a)))) ∧
    (Arrives 0x0705 u s → Clear 0x0705 false [] s → 16 ≤ u.data.length → 1 ≤ u.b32 0 → u.b32 0 ≤ 65536 → u.b64 8 = 0 →
      let k := min s.qme.samples.length (min (u.b32 0) 14)
      let x := onQme (fun m => { m with samples := m.samples.drop k, readIdx := addWrap 32 m.readIdx k }) (arrived 0x0705 u s)
      Succeeds (.queReadSamples u) 0x0705 u (leBytes 4 k ++ leBytes 4 x.qme.readIdx ++ (s.qme.samples.take k).flatten) x s) ∧
    (Arrives 0x0706 u s → Clear 0x0706 false [] s →
      let a := arrived 0x0706 u s
      let bytes (o n : Nat) : List Nat := (List.range n).map fun i => u.b8 (o + i)
      let done (x : State) : Prop := Succeeds (.queMap u) 0x0706 u (mapBytes (u.b8 0) (u.b8 0 % 128) u x) x s
      (u.b8 0 = 128 ∨ u.b8 0 = 129 → 1 ≤ u.data.length → done a) ∧
      (u.b8 0 = 0 → 66 ≤ u.data.length → ((bytes 2 64).any fun x => decide (7 < x)) = false →
        done (cfgKeep 0x0706 0 1 u.payload (onQme (fun m => { m with dscpMap := bytes 2 64 }) a))) ∧
      (u.b8 0 = 1 → 10 ≤ u.data.length → ((bytes 2 8).any fun x => decide (7 < x)) = false →
        done (cfgKeep 0x0706 0 1 u.payload (onQme (fun m => { m with pcpMap := bytes 2 8 }) a))) ∧
      (u.b8 0 = 2 → 10 ≤ u.data.length → u.b8 1 ≤ 3 → ((bytes 2 8).any fun x => decide (7 < x)) = false →
        done (cfgKeep 0x0706 0 2 u.payload (onQme (fun m => { m with prioMap := Tab.put m.prioMap (u.b8 1) (bytes 2 8) }) a))) ∧
      (u.b8 0 = 3 → 18 ≤ u.data.length → u.b16 2 < 16384 → 16 ≤ u.b32 4 → u.b32 4 ≤ s.qme.poolSize → u.b32 8 ≤ u.b32 4 →
        1 ≤ u.b16 14 → u.b16 14 ≤ 50 → 10 ≤ u.b16 16 → u.b16 16 ≤ 1000 → u.b16 14 < u.b16 16 →
        done (onQueue (u.b16 2) (fun i => { i with limit := u.b32 4, marked := u.b32 8, sojourn := bit (u.b8 12) 0, target := u.b16 14
                                                   interval := u.b16 16 }) a)) ∧
      (u.b8 0 = 4 → 4 ≤ u.data.length → u.b16 2 < 16489 → done a) ∧
      (u.b8 0 = 5 → 11 ≤ u.data.length → u.b8 1 ≤ 3 → ((bytes 3 8).any fun x => x == 0 || decide (64 < x)) = false →
        done (cfgKeep 0x0706 0 2 u.payload (onQme (fun m =>
          { m with strict := Tab.put m.strict (u.b8 1) (u.b8 2), weights := Tab.put m.weights (u.b8 1) (bytes 3 8) }) a))))

/-- The rows of the queueing engine: a refill applies what was accepted since the last one and adds the rate by the
interval, capped at the burst; the base time makes the pending list operational; the next entry of a list sets the
gates; and a sample is written, or lost and counted where the ring is full. -/
def Obligations.QueueRows : Prop :=
  ∀ (s : State) (n q : Nat),
    (∀ x, Tab.look s.qme.shapers n = some x → exec (.shaperRefill n) s = .next (settleShapers
      (onQme (fun m => { m with shapers := Tab.put m.shapers n (shaperFill (shaperDue x)) }) (start s)))) ∧
    (Tab.look s.qme.shapers n = none → exec (.shaperRefill n) s = .next (start s)) ∧
    (∀ x, let y := shaperFill x
      y.credit ≤ x.cfg.burst ∧ y.cfg = x.cfg ∧ y.attached = x.attached ∧
      (x.credit < x.cfg.burst → 0 ≤ x.credit → y.credit < x.cfg.burst →
        y.credit * 1000000 + y.remainder = x.credit * 1000000 + (x.remainder + refillAmount x.cfg : Nat))) ∧
    exec (.policerRefill n) s = .next (onPolicer n policerFill (start s)) ∧
    (∀ p, (policerFill p).tc ≤ (policerCfg p).cbs ∧ (policerFill p).tp ≤ (policerCfg p).pbs ∧ (policerFill p).cfg = policerCfg p ∧
      (policerFill p).due = none) ∧
    (∀ g, (gates n s).pending = some g → (port n s).sending = none →
      let i := gclAt g (max (deviceTime s) g.base)
      exec (.gclBaseTime n) s = .next (raise 0x0701 (leBytes 1 n ++ leBytes 1 0 ++ leBytes 2 g.entries.length ++ leBytes 8 g.base)
        (settlePort n (onGates n (fun x => { x with oper := some g, pending := none, entry := i, open_ := entryGates g i })
          (settlePort n (start s)))))) ∧
    (∀ g, (gates n s).oper = some g →
      let i := (gates n s).entry
      let j := if i + 1 < g.entries.length ∧ entriesEnd g i < g.cycle then i + 1 else 0
      exec (.gclEntryAdvance n) s = .next (settlePort n (onGates n (fun x => { x with entry := j, open_ := entryGates g j })
        (settlePort n (start s))))) ∧
    (q < 16489 → sampleInterval q s ≠ 0 →
      (s.qme.samples.length < s.qme.ringSize → exec (.samplerTick q) s = .next (onQme (fun m =>
        { m with samples := m.samples ++ [sampleBytes q s], writeIdx := inc 32 m.writeIdx, lostFlag := false }) (start s))) ∧
      (s.qme.ringSize ≤ s.qme.samples.length → exec (.samplerTick q) s = .next (raiseLimited 0x0702 0 (leBytes 4 (inc 32 s.qme.lostNow))
        (onQme (fun m => { m with lost := inc 32 m.lost, lostNow := inc 32 m.lostNow, lostFlag := true }) (start s)))))

/-- The link rows: a queued event is delivered to the event ring or the sink; a UMP frame that the fleet header does
not give to this device is dropped and counted, one answered before is answered again, and any other waits; PERST_N
resets the endpoint alone; D3hot holds messages back and D0 sends them; an access to a block that is off is recorded;
and UMP ready of an unconfigured device serves. -/
def Obligations.LinkRows : Prop :=
  (∀ (s : State) (e : Event) (l : List Event), s.mbox.pcieDropped = 0 → s.mbox.pcieQueue = e :: l → evtFull s.mbox = false →
    exec (.eventDelivery false) s = .next (writeEvent e (onMbox (fun m => { m with pcieQueue := l }) (start s)))) ∧
  (∀ (s : State) (mac : Nat) (e : Event) (l : List Event), s.mbox.sink = some mac → s.mbox.sinkQueue = e :: l → s.mbox.sinkDropped = 0 →
    mgtUp s = true → exec (.eventDelivery true) s =
      .next (emit (.ump mac (eventMessage s e)) (onMbox (fun m => { m with sinkQueue := l }) (start s)))) ∧
  (∀ (s : State) (mac v fleet index : Nat) (b : Bytes), carries (.mgt mac) s = true →
    let m := parseMsg (.mgt mac) b
    (fleetAccepts v fleet index s = false → exec (.umpFrameReceive mac v fleet index b) s =
      .next { start s with fleet := { s.fleet with dropped := inc 32 s.fleet.dropped } }) ∧
    (fleetAccepts v fleet index s = true → index ≠ 0xFFFF →
      (∀ r, stored mac m.tag s = some r → exec (.umpFrameReceive mac v fleet index b) s = .next (emit (.ump mac r.message) (start s))) ∧
      (stored mac m.tag s = none → mgtWaiting s < 64 → s.mbox.cmdQueue = [] → unservable m s = false →
        exec (.umpFrameReceive mac v fleet index b) s = .next (onMbox (fun x => { x with cmdQueue := [m] }) (start s))))) ∧
  (∀ (s : State) (b : Bytes), carries .uart s = true → s.mbox.cmdQueue = [] →
    (unservable (parseMsg .uart b) s = false →
      exec (.uartFrameReceive b) s = .next (onMbox (fun x => { x with cmdQueue := [parseMsg .uart b] }) (start s))) ∧
    (unservable (parseMsg .uart b) s = true → Reaches (.uartFrameReceive b) s fun t =>
      t.out = [.uart (message 2 0 (parseMsg .uart b).code (parseMsg .uart b).tag ST.badCmd s.power.devIdx [])] ∧
      t = { s with mbox := t.mbox, out := t.out })) ∧
  (∀ s : State,
    exec .perstNAssert s = .next { start s with pcie := { Pcie.reset with perst := true } } ∧
    exec .perstNRelease s = .next { start s with pcie := { s.pcie with perst := false } } ∧
    (powered 1 s = true → s.pcie.perst = false → exec .pcieLinkUp s =
      .next (onPower (fun p => { p with pcieWakeLow := false }) { start s with pcie := { s.pcie with linkUp := true } })) ∧
    (powered 1 s = true → s.pcie.linkUp = true →
      exec .pciD3hotEntry s = .next { start s with pcie := { s.pcie with d3 := true } } ∧
      (s.pcie.d3 = true → s.pcie.perst = false → s.pcie.msi = false → exec .pciD0Return s =
        .next { s with pcie := { s.pcie with d3 := false, held := [] }, out := s.pcie.held.map .msix })) ∧
    (∀ domain addr src, powered domain s = false → powered 1 s = true → (src = 0 → reachable s = true) →
      s.mbox.limited.contains (0x0103, 0) = true → exec (.accessOffBlock domain addr src true) s =
        .next (onPower (fun p => { p with accessFaults := inc 32 p.accessFaults }) (onMbox (fun m =>
          { m with accAddr := addr % 2 ^ 28, accSrc := src % 4, accWrite := true, accValid := true, accCount := inc 32 m.accCount })
          (start s)))) ∧
    (∀ aon us pages, s.power.stage = 3 → s.power.state = .run → s.power.wake = .none → pickBank s.mem.bankA s.mem.bankB = none →
      bankCause s.mem.bankA = none → bankCause s.mem.bankB = none → s.sec.vaultSlots = [] → s.fleet.staged = [] →
      s.power.fellBack = false → s.fwu.onTrial = false → s.sec.bootedLifecycle = s.sec.lifecycle → s.fleet.floor ≤ s.power.version / 2 ^ 16 →
      s.power.brownoutLatch = false → s.power.reports = [] → s.mbox.cmdQueue = [] →
      Reaches (.umpReady aon us pages [] [] []) s fun t =>
        let n := s.mem.installed * 256 - 16 * pages
        LinkOnly (onMem (fun m => { m with active := none })
          (onQme (fun q => { q with poolSize := n, poolFree := n, poolOwed := 0 }) (onPower (fun p => { p with stage := 4 }) s))) t ∧
        t.mbox.cmdQueue = []))

/-- The rows of the rings: a punted frame fills a posted buffer or, too long for it, is dropped and counted; an inject
entry for the lookup, a port, a station or a BSS is taken, a malformed one answered 18; a completion is written back;
a coalescing time out interrupts; and a ring's DMA that ended in an error waits, then goes on or stops its ring. -/
def Obligations.RingRows : Prop :=
  ∀ (s : State) (r : Nat),
    (r < 16 → ringRuns r s = true → (ring r s).prod ≠ (ring r s).cons → dmaWaits r s = false →
      ∀ f l, (queue (16464 + r) s).frames = f :: l → ∀ e,
        (rd e 8 2 < (f.vector ++ puntFrame f).length → exec (.puntEntryFill r e 0) s =
          .next (dropPunt r (onRing r (fun q => { q with drops := inc 16 q.drops }) (start s)))) ∧
        ((f.vector ++ puntFrame f).length ≤ rd e 8 2 → exec (.puntEntryFill r e 0) s =
          .next (ringSignal r (dropPunt r (onRing r (fun q => { q with cons := inc 32 q.cons })
            { s with out := [.dma (rd e 0 8) (f.vector ++ puntFrame f), .dma (entryAddr r (ring r s).cons s) (puntEntry e f)] })))) ∧
        exec (.puntEntryFill r e 1) s = .next (awaitDma r true (ring r s).cons (start s))) ∧
    (16 ≤ r → r ≤ 31 → ringRuns r s = true → (ring r s).prod ≠ (ring r s).next → dmaWaits r s = false → ∀ e b,
      let o := onRing r (fun q =>
        { q with open_ := q.open_ ++ [(q.next, e)], next := inc 32 q.next, inProgress := true, idle := false }) (start s)
      let f : Frame := { ingress := 6, bytes := if bit (rd e 10 1) 1 then insertChecksums b else b, priority := rd e 14 1, first := rawTime s,
                         csum := bit (rd e 10 1) 1 }
      let f' : Frame := { f with inject := some (r, (ring r s).next) }
      (14 ≤ rd e 8 2 → rd e 8 2 ≤ 9216 → rd e 14 1 ≤ 7 →
        (rd e 11 1 = 0 → exec (.injectEntryProcess r e b 0) s =
          .next (injectDone r (ring r s).next 0 (onWire (fun w => { w with lookup := w.lookup ++ [f] }) o))) ∧
        (rd e 11 1 = 1 → rd e 12 2 ≤ 4 → exec (.injectEntryProcess r e b 0) s = .next (toPort (rd e 12 2) f' o)) ∧
        (rd e 11 1 = 2 → (station (rd e 12 2) s).isSome = true →
          exec (.injectEntryProcess r e b 0) s = .next (toStation (rd e 12 2) f' o)) ∧
        (rd e 11 1 = 3 → (bss (rd e 12 2) s).isSome = true → exec (.injectEntryProcess r e b 0) s = .next (toGroup (rd e 12 2) f' o))) ∧
      (rd e 8 2 < 14 ∨ 9216 < rd e 8 2 ∨ 7 < rd e 14 1 ∨ 3 < rd e 11 1 →
        exec (.injectEntryProcess r e b 0) s = .next (injectDone r (ring r s).next 18 o)) ∧
      exec (.injectEntryProcess r e b 1) s = .next (awaitDma r true (ring r s).next (start s))) ∧
    (∀ i status stamp l e, (ring r s).done = (i, status, stamp) :: l → (ring r s).error = false → reachable s = true →
      ((ring r s).open_.find? fun x => x.1 == i) = some (i, e) → exec (.injectCompletion r) s =
        .next (ringSignal r (onRing r (fun q => injectCons
          { q with done := l, open_ := q.open_.filter fun x => x.1 != i, drops := if status = 0 then q.drops else inc 16 q.drops })
          { s with out := [.dma (entryAddr r i s) (injectEntry e status stamp)] }))) ∧
    ((ring r s).unsignalled ≠ 0 → (ring r s).time ≠ 0 → exec (.ringCoalesceTimeout r) s =
      .next (msix (ringVector r) (onRing r (fun q => { q with unsignalled := 0 }) (start s)))) ∧
    ((ring r s).unsignalled = 0 → exec (.ringCoalesceTimeout r) s = .next (start s)) ∧
    (∀ d l e b, s.dma = d :: l → (ring d.ring s).enable = true →
      (d.ring < 16 → exec (.dmaRetry true e b) s = .next (puntFill d.ring e (onRing d.ring (fun q => { q with inProgress := false })
        (transientFault 0x00C5 (leBytes 2 d.ring) { start s with dma := l })))) ∧
      (16 ≤ d.ring → d.ring < 32 → d.entry = true → exec (.dmaRetry false e b) s = .next (ringStop d.ring 2 d.index
        (lastingRecord 0x00C5 (leBytes 2 d.ring) false { start s with dma := l })))) ∧
    (s.dma = [] → ∀ ok e b, exec (.dmaRetry ok e b) s = .next (start s))

/-- The commands of the task dispatcher and of the Nimbus cores: the host work ring's settings are read or set while
ring 32 is off; the statistics are read and their peaks cleared; a kernel is loaded, deleted or read; and DSP_RUN
queues its kernel. -/
def Obligations.TaskCommandsAnswer : Prop :=
  ∀ (u : Ump) (s : State), MailboxInv s →
    (Arrives 0x0B03 u s → Clear 0x0B03 false [] s → 8 ≤ u.data.length →
      let now (op : Nat) (x : State) : Bytes := leBytes 1 op ++ leBytes 1 x.tds.flags ++ leBytes 2 x.tds.limit ++ leBytes 1 x.tds.cls ++ leBytes 3 0
      (u.b8 0 = 0 → Succeeds (.tdsSetHostRing u) 0x0B03 u (now 0 s) (arrived 0x0B03 u s) s) ∧
      (u.b8 0 = 1 → 64 ≤ u.b16 2 → u.b16 2 ≤ 16384 → (u.b8 4 = 5 ∨ u.b8 4 = 6) → (ring 32 s).enable = false →
        let x := onTds (fun t => { t with flags := u.b8 1 % 4, limit := u.b16 2, cls := u.b8 4 }) (arrived 0x0B03 u s)
        Succeeds (.tdsSetHostRing u) 0x0B03 u (now 1 x) x s)) ∧
    (Arrives 0x0B04 u s → Clear 0x0B04 false [] s → 4 ≤ u.data.length →
      let a := arrived 0x0B04 u s
      let x := if bit (u.b8 2) 0 then clearPeaks (u.b8 0) (u.b8 1) a else a
      (u.b8 0 = 0 → u.b8 1 ≤ 12 → Succeeds (.tdsGetStats u) 0x0B04 u (classPage (u.b8 1) a) x s) ∧
      (u.b8 0 = 1 → Succeeds (.tdsGetStats u) 0x0B04 u ([0, 1, 2, 3].map fun g => groupRecord g a).flatten x s) ∧
      (u.b8 0 = 2 → Succeeds (.tdsGetStats u) 0x0B04 u (ringPage a) x s)) ∧
    (Arrives 0x0B01 u s → 8 ≤ u.data.length → u.b8 1 ≤ 3 →
      (u.b8 0 = 2 → Clear 0x0B01 true [] s → Pends (.dspLoadKernel u) 0x0B01 u [] (arrived 0x0B01 u s) s) ∧
      (Clear 0x0B01 true [.kernel (u.b8 1)] s → kernelBusy (u.b8 1) s = false →
        (u.b8 0 = 1 → Pends (.dspLoadKernel u) 0x0B01 u [.kernel (u.b8 1)] (arrived 0x0B01 u s) s) ∧
        (let b := u.data.drop 8
         u.b8 0 = 0 → s.sec.lifecycle ≠ .blank → imageBad b = false → b.length = 32 + rd b 12 4 + rd b 16 4 + 7376 →
         kernelNewer (u.b8 1) b s = false →
          (u.env.sig = true → Pends (.dspLoadKernel u) 0x0B01 u [.kernel (u.b8 1)] (arrived 0x0B01 u s) s) ∧
          (u.env.sig = false → Fails (.dspLoadKernel u) 0x0B01 u ST.signatureFail s)))) ∧
    (Arrives 0x0B02 u s → Clear 0x0B02 true [] s → 40 + u.b16 36 ≤ u.data.length → u.b8 0 ≤ 3 → powered 7 s = true → runBad u = false →
      locked (.kernel (u.b8 0)) s = false → locked (.bist 1) s = false → (bit (u.b8 1) 0 = true → capturing (u.b8 2) s = false) →
      classFull 12 s = false → (Tab.look s.dsp.kernels (u.b8 0)).isSome = true →
      Answers (.dspRun u) 0x0B02 u ST.pending [] (queueItem 12 none (.kernel (u.b8 0) u.via u.tag) (onDsp (fun d =>
        { d with locked := if bit (u.b8 1) 0 then d.locked ++ [u.b8 2] else d.locked }) (accept u 0x0B02 [] (arrived 0x0B02 u s)))) s)

/-- The rows of the task dispatcher: a host item is consumed into its class or answered ST_BAD_PARAM, and consumption
stops at the limit; a free core takes the item chosen; an item ends and releases its core; a thread takes an idle core
of its group, pre-empts the lowest priority or waits; a slice's end gives the core to the first equal; and a halted
core is recorded and named. -/
def Obligations.TaskRows : Prop :=
  ∀ s : State,
    (∀ e b, mayConsume s = true →
      (s.tds.limit ≤ s.tds.inFlight → exec (.workItemConsume e b false) s = .next (stopConsuming true (start s))) ∧
      (s.tds.inFlight < s.tds.limit → exec (.workItemConsume e b true) s = .next (awaitDma 32 true (ring 32 s).cons (start s))) ∧
      (let cls := if rd e 2 1 = 0 then s.tds.cls else rd e 2 1
       let taken := onTds (fun t => { t with consumed := inc 64 t.consumed, inFlight := t.inFlight + 1 })
         (onRing 32 (fun q => { q with cons := inc 32 q.cons }) (stopConsuming false (start s)))
       s.tds.inFlight < s.tds.limit →
        (rd e 0 2 = 1 → (cls = 5 ∨ cls = 6) → classFull cls s = false → exec (.workItemConsume e b false) s =
          .next (queueItem cls (if bit (rd e 3 1) 0 then none else some (rd e 4 4 % 2 ^ 18))
            (.host (rd e 8 2) (rd e 10 2) (rd e 12 4) b (bit (rd e 3 1) 2) (bit (rd e 3 1) 1) (rd e 4 4) (rd e 24 8) (rd e 32 4)
              (rd e 40 8) (ring 32 s).cons) taken)) ∧
        (rd e 0 2 = 1 → (cls = 5 ∨ cls = 6) → classFull cls s = true →
          exec (.workItemConsume e b false) s = .next (stopConsuming true (start s))) ∧
        (rd e 0 2 ≠ 1 → exec (.workItemConsume e b false) s = .next (complete
          (completionEntry (rd e 40 8) ST.badParam cls (rd e 4 4) (ring 32 s).cons 0 false s)
          (onTds (fun t => { t with bad := inc 32 t.bad }) taken))))) ∧
    (∀ core, core < 20 → served core s = none → powered (if core < 16 then 2 else 7) s = true → s.tds.halted.contains (core + 8) = false →
      (chooseItem (coreGroup core) s = none → exec (.workItemStart core) s = .next (start s)) ∧
      (∀ i, chooseItem (coreGroup core) s = some i → (∀ a b c, i.work ≠ .kernel a b c) → exec (.workItemStart core) s =
        .next (settleClass i.cls (onClass i.cls (fun c => { c with peakWait := max c.peakWait ((runTime s - i.queuedAt) / 1000) })
          (onTds (fun t => { t with items := t.items.erase i, service := t.service ++ [⟨core, i, runTime s⟩] }) (start s)))))) ∧
    (∀ core x wr, served core s = some x → s.tds.halted.contains (core + 8) = false →
      (x.item.work = .firmware → exec (.workItemEnd core wr) s = .next (releaseCore core (start s))) ∧
      (∀ h, x.item.work = .precoder h true → exec (.workItemEnd core wr) s =
        .next (onStation h (fun x => { x with precoder := true, precoderSet := x.precoderSet + 1 }) (releaseCore core (start s)))) ∧
      (∀ h, x.item.work = .precoder h false → exec (.workItemEnd core wr) s = .next (releaseCore core (start s))) ∧
      (∀ f why, x.item.work = .frame f why → exec (.workItemEnd core wr) s = .next (serveFrame f why (releaseCore core (start s))))) ∧
    (∀ g id priority bound, g ≤ 3 → priority ≤ 63 → (g = 0 ∨ (s.power.limp = false ∧ bound ≠ none)) → threadCount (threadGroup g s) < 1024 →
      let x := threadGroup g s
      let t : Thread := ⟨id, g, priority, bound, runTime s⟩
      (x.ready.any fun t => t.id == id) = false → (x.run0.any fun t => t.id == id) = false → (x.run1.any fun t => t.id == id) = false →
      (∀ c, coreFor t g s = some c → exec (.threadReady g id priority bound) s = .next (runThread g c t false (start s))) ∧
      (coreFor t g s = none → exec (.threadReady g id priority bound) s =
        .next (onGroup g (fun x => { x with ready := x.ready ++ [t] }) (start s)))) ∧
    (∀ g c o t, runningOn (threadGroup g s) c = some o →
      ((threadGroup g s).ready.find? fun t => t.priority == o.priority && mayRun t g c s) = some t →
      exec (.timeSliceExpiry g c) s = .next (runThread g c t true (start s))) ∧
    (∀ core cause pc, 2 ≤ core → core ≤ 27 → s.tds.halted.contains core = false →
      let p := leBytes 1 core ++ leBytes 1 cause ++ leBytes 2 0 ++ leBytes 4 pc
      exec (.firmwareCoreHalt core cause pc) s =
        .next (setFault 0x0005 p (raise 0x0005 p (onTds (fun t => { t with halted := t.halted ++ [core] }) (start s)))))

/-- A Nimbus core's bundle: a vector operation of slot A writes its lanes, rounded and narrowed, and sets OV where one
exceeded 16 bits; a multiply-accumulate writes its accumulator; HALT ends the kernel; an address outside data memory,
and a reserved operation, end it with their faults. A kernel's end writes its output only at HALT, frees and clears
its core, and completes its command. -/
def Obligations.NimbusRows : Prop :=
  ∀ (s : State) (n : Nat), n ≤ 3 →
    let c := nimbus n s
    let c' := { c with cycles := c.cycles + 1 }
    (issues n s = true → c.loops = [] → c.pc ≤ 65528 →
      (∀ (sat : Bool) (op a b : Nat), 1 ≤ op → op ≤ 3 → a < 32 → b < 32 → leNat (Cells.readAll c.imem (c.pc + 4) 4) = 0 →
        leNat (Cells.readAll c.imem c.pc 4) = b2n sat * 2 ^ 29 + op * 2 ^ 24 + a * 2 ^ 19 + b * 2 ^ 14 →
        let x := vReg c a
        let y := vReg c b
        let l : List Int := (List.range 32).map fun i =>
          if op = 1 then vLane x i + vLane y i else if op = 2 then vLane x i - vLane y i else roundEven (vLane x i * vLane y i) 15
        exec (.bundleIssue n) s = .next (setNimbus n { c' with pc := c.pc + 8, v := c.v.set a (ofLanes (l.map (narrow sat 16)))
                                                               ov := c.ov || l.any (exceeds 16) } (start s))) ∧
      (∀ (sat z : Bool) (op a b k : Nat), op ≤ 1 → a < 32 → b < 32 → k < 8 → leNat (Cells.readAll c.imem (c.pc + 4) 4) = 0 →
        leNat (Cells.readAll c.imem c.pc 4) = 2 ^ 30 + b2n sat * 2 ^ 29 + op * 2 ^ 24 + a * 2 ^ 19 + b * 2 ^ 14 + k * 2 ^ 6 + b2n z →
        let old (i : Nat) : Int := if z then 0 else accLane (c.acc.getD k []) i
        let l : List Int := (List.range 32).map fun i =>
          if op = 1 ∧ z = false then old i - vLane (vReg c a) i * vLane (vReg c b) i else old i + vLane (vReg c a) i * vLane (vReg c b) i
        exec (.bundleIssue n) s = .next (setNimbus n { c' with pc := c.pc + 8, ov := c.ov || l.any (exceeds 40)
                                                               acc := c.acc.set k (l.map fun x => BitVec.ofInt 40 (narrow sat 40 x)) } (start s))) ∧
      (leNat (Cells.readAll c.imem c.pc 4) = 0 → leNat (Cells.readAll c.imem (c.pc + 4) 4) = 0xF0000000 →
        exec (.bundleIssue n) s = .next (endKernel n 0 0 (setNimbus n { c' with pc := c.pc + 8 } (start s)))) ∧
      (leNat (Cells.readAll c.imem c.pc 4) = 0 → leNat (Cells.readAll c.imem (c.pc + 4) 4) = 2 ^ 28 →
        dataBad (pReg c 0).toNat 4 64 = true →
        exec (.bundleIssue n) s = .next (endKernel n 2 (pReg c 0).toNat (setNimbus n c' (start s)))) ∧
      (leNat (Cells.readAll c.imem c.pc 4) = 2 ^ 28 → exec (.bundleIssue n) s = .next (endKernel n 4 c.pc (setNimbus n c' (start s))))) ∧
    (∀ k a end_ addr, c.run = some k → findOwn 0x0B02 (k.via, k.tag) s = some a →
      let wrote := if end_ = 0 then k.outLen else 0
      let x := releaseCore (16 + n) (setNimbus n .reset
        { s with out := s.out ++ (if wrote = 0 then [] else [.dma k.host (Cells.readAll c.dmem k.outAddr wrote)]) })
      let data := leBytes 1 end_ ++ leBytes 1 n ++ leBytes 1 (b2n c.ov) ++ leBytes 1 0 ++ leBytes 4 c.cycles
        ++ leBytes 4 (if end_ = 0 then 0 else addr) ++ leBytes 4 wrote
      endKernel n end_ addr s = endAsync a ST.ok data (if end_ = 0 then x else
        raise 0x0B01 (kernelFaultPayload k.slot n end_ k.id addr c.cycles) x)) ∧
    (∀ k, c.run = some k → k.limit ≤ c.cycles → exec (.kernelCycleLimit n) s = .next (endKernel n 1 c.pc (start s))) ∧
    (c.run = none → exec (.kernelCycleLimit n) s = .next (start s)) ∧
    exec (.loopCountExpiry n) s = .next (setNimbus n { c with loops := c.loops.filter fun l => l.left != 0 } (start s)) ∧
    (∀ a, firstAsync 0x0B01 s = some a → rd a.ext 1 1 ≤ 3 →
      let slot := rd a.ext 1 1
      let b := a.ext.drop 8
      let k : Kernel := ⟨rd b 6 2, rd b 8 4, field b 32 (rd b 12 4), field b (32 + rd b 12 4) (rd b 16 4), rd b 20 4, rd b 24 4⟩
      (rd a.ext 0 1 = 0 → let x := onDsp (fun d => { d with kernels := Tab.put d.kernels slot k }) (start s)
        exec (.kernelLoadDone .ok) s = .next (endAsync a ST.ok (kernelPayload slot x) x)) ∧
      (rd a.ext 0 1 = 1 → let x := onDsp (fun d => { d with kernels := Tab.del d.kernels slot }) (start s)
        exec (.kernelLoadDone .ok) s = .next (endAsync a ST.ok (kernelPayload slot x) x)) ∧
      (rd a.ext 0 1 = 2 → exec (.kernelLoadDone .ok) s = .next (endAsync a ST.ok (kernelPayload slot s) (start s))))

/-- The commands of the low-rate radio: its channel, sampling and mesh records are read or set and kept; a node is
set, deleted where no frame waits for it, and read; and a frame is queued, its key checked. -/
def Obligations.DrizzleCommandsAnswer : Prop :=
  ∀ (u : Ump) (s : State), MailboxInv s → powered 8 s = true →
    (Arrives 0x0C01 u s → Clear 0x0C01 false [] s → 24 ≤ u.data.length →
      let c := drzChannelArgs u
      (u.b8 0 = 0 → Succeeds (.drzSetChannel u) 0x0C01 u (drzChannelBytes 0 s.drz.channel) (arrived 0x0C01 u s) s) ∧
      (u.b8 0 = 1 → drzChannelBad c = false → Succeeds (.drzSetChannel u) 0x0C01 u (drzChannelBytes 1 c) (keepOne 0x0C01 u (onDrz (fun d =>
        { d with channel := c
                 channelNow := { c with band := d.channelNow.band, rate := d.channelNow.rate, channel := d.channelNow.channel } })
        (arrived 0x0C01 u s))) s)) ∧
    (Arrives 0x0C02 u s → Clear 0x0C02 false [] s → 12 ≤ u.data.length →
      let show_ (op : Nat) (c : DrzCsl) : Bytes := leBytes 1 op ++ leBytes 1 c.attempts ++ leBytes 2 c.period ++ leBytes 2 c.guardBase
        ++ leBytes 2 c.standby ++ leBytes 1 c.retries ++ leBytes 3 0
      let c : DrzCsl := ⟨u.b8 1, u.b16 2, u.b16 4, u.b16 6, u.b8 8⟩
      (u.b8 0 = 0 → Succeeds (.drzSetCsl u) 0x0C02 u (show_ 0 s.drz.csl) (arrived 0x0C02 u s) s) ∧
      (u.b8 0 = 1 → u.b8 1 ≤ 7 → (u.b16 2 = 0 ∨ (10 ≤ u.b16 2 ∧ u.b16 2 ≤ 1000)) → 50 ≤ u.b16 4 → u.b16 4 ≤ 2000 → 10 ≤ u.b16 6 →
        u.b16 6 ≤ 1000 → u.b8 8 ≤ 7 → Succeeds (.drzSetCsl u) 0x0C02 u (show_ 1 c)
          (keepOne 0x0C02 u (onDrz (fun d => { d with csl := c }) (arrived 0x0C02 u s))) s)) ∧
    (Arrives 0x0C03 u s → Clear 0x0C03 false [] s → 8 ≤ u.data.length →
      let x := keepOne 0x0C03 u (onDrz (fun d => { d with mesh := ⟨u.b8 1, u.b8 2, u.b8 3, u.b8 4, u.b8 5⟩ }) (arrived 0x0C03 u s))
      (u.b8 0 = 0 → Succeeds (.drzSetMesh u) 0x0C03 u (drzMeshBytes 0 s) (arrived 0x0C03 u s) s) ∧
      (u.b8 0 = 1 → 1 ≤ u.b8 2 → u.b8 2 ≤ 15 → u.b8 3 ≤ 10 → u.b8 4 ≤ 7 → u.b8 5 ≤ 15 →
        Succeeds (.drzSetMesh u) 0x0C03 u (drzMeshBytes 1 x) x s)) ∧
    (Arrives 0x0C05 u s → Clear 0x0C05 false [] s → 20 ≤ u.data.length → u.b16 2 ≤ 4095 →
      let mine (r : CfgRecord) : Bool := r.code == 0x0C05 && field r.payload 2 2 == field u.payload 2 2
      let fresh : DrzNode := ⟨0, 0, 0xFFFE, 0xFFFF, 0, none, false, 0, 0, 0, [], 0, 0, 0, 0⟩
      let set (n : DrzNode) : DrzNode :=
        { n with flags := u.b8 1, ext := rdBe u.data 4 8, short := u.b16 12, key := u.b16 14, period := u.b16 16 }
      (u.b8 0 = 0 → u.b16 12 ≠ 0xFFFF → (u.b16 14 = 0xFFFF ∨ (keyHandleOk (u.b16 14) = true ∧ u.b16 14 / 8192 = 1)) →
        (u.b16 16 = 0 ∨ (10 ≤ u.b16 16 ∧ u.b16 16 ≤ 1000)) → ((drzNode (u.b16 2) s).isSome = true ∨ s.drz.nodes.length < 4096) →
        Succeeds (.drzNodeSet u) 0x0C05 u [] (cfgKeepIf mine 0x0C05 u.payload (onDrz (fun d =>
          { d with nodes := Tab.put d.nodes (u.b16 2) (set ((drzNode (u.b16 2) s).getD fresh)) }) (arrived 0x0C05 u s))) s) ∧
      (∀ n, drzNode (u.b16 2) s = some n →
        (u.b8 0 = 1 → drzQueuedFor (u.b16 2) s = false → Succeeds (.drzNodeSet u) 0x0C05 u [] (cfgDelete mine 0x0C05 u.payload
          (onDrz (fun d => { d with nodes := Tab.del d.nodes (u.b16 2) }) (arrived 0x0C05 u s))) s) ∧
        (u.b8 0 = 2 → Succeeds (.drzNodeSet u) 0x0C05 u (drzNodeRead (u.b16 2) n (arrived 0x0C05 u s)) (arrived 0x0C05 u s) s))) ∧
    (Arrives 0x0C04 u s → Clear 0x0C04 true [] s → 1 ≤ u.b16 10 → u.b16 10 ≤ 200 → 12 + u.b16 10 ≤ u.data.length →
      u.b8 0 = 1 → u.b8 1 ≤ 7 → u.b16 6 = 0xFFFF → bit s.drz.channel.flags 0 = true → s.drz.csl.period = 0 → u.b8 5 = 0xFF →
      u.b16 10 + 11 ≤ (if s.drz.channelNow.band = 0 then 127 else 2047) →
      let body := field u.data 12 (u.b16 10)
      let q := 16480 + u.b8 1
      let f : DrzFrame := ⟨1, u.b8 1, 0xFFFF, 0, 0xFFFF, u.b8 9, body, some (u.via, u.tag), 0, 0, 0, 0, 3, 0, 0, 0, (0, 0)⟩
      (u.b8 4 = 0 → enterTest q (cellsOf body.length) false true s = 0 → Pends (.drzSend u) 0x0C04 u []
        (enterCells q (cellsOf body.length) true (onDrz (fun d => { d with queue := d.queue ++ [f] }) (arrived 0x0C04 u s))) s) ∧
      (u.b8 4 = 5 → Fails (.drzSend u) 0x0C04 u ST.badParam s))

/-- The exchange of the low-rate radio: a busy channel backs off, at the fifth the frame ends 2; an idle one sends; a
rendezvous sends the frame held for it; a broadcast ends SENT_NO_ACK at its end; an Ack ends it ACKED and a missing
one retries it up to the limit; a new channel is taken up; and the receiver takes its samples. Reception and flooding:
an unsecured broadcast of an unknown node goes to the host; a secured frame is refused and counted without its key,
with a counter not above the last, or with a bad MIC, and otherwise its counter is kept; a flood frame seen before is
counted, a new one is delivered and its copy waits its jitter with its TTL one lower, which then joins its queue; an
entry 30 s old leaves the cache; and a frame of another PAN ends once it is heard, which is the model's reading (log
entry 52). -/
def Obligations.DrizzleExchangeAndReceptionRows : Prop :=
  (∀ (s : State) (us : Nat) (hw : Retry),
     (∀ f level, s.drz.exchange = none → drzPick s = some f → drzOn s = true →
       (f.phase = 0 → s.drz.channelNow.cca ≤ level →
         (f.nb < 4 → exec (.drzCsmaBackoffEnd level us hw) s = .next (onDrz (fun d =>
           { d with queue := d.queue.replace f { f with nb := f.nb + 1, be := min 5 (f.be + 1) } }) (start s))) ∧
         (4 ≤ f.nb → exec (.drzCsmaBackoffEnd level us hw) s = .next (drzFinish f 2 (start s)))) ∧
       (f.phase = 0 → level < s.drz.channelNow.cca → f.kind ≠ 0 → f.level = 0 → f.nb = 0 → f.be = 3 → f.wake = 0 → f.meet = (0, 0) →
         (drzDuty us s = false → f.owner = none →
           exec (.drzCsmaBackoffEnd level us hw) s = .next (drzPa us (onDrz (fun d => { d with exchange := some { f with phase := 2 } })
             (leaveCells (drzQueueId f.queue) (cellsOf f.payload.length)
               (onDrz (fun d => { d with follow := 0, queue := (d.queue.replace f f).erase f }) (start s)))))) ∧
         (drzDuty us s = true → exec (.drzCsmaBackoffEnd level us hw) s =
           .next (drzFinish f 5 (onDrz (fun d => { d with follow := 0, queue := d.queue.replace f f }) (start s))))) ∧
       (f.phase = 1 → f.level = 0 → f.wake = 1 → f.owner = none →
         let span := drzSpan f s
         let pa := us + (span + 999) / 1000
         (runTime s + f.meet.2 < f.meet.1 → exec (.drzRendezvousStart us hw) s = .next (start s)) ∧
         (f.meet.1 ≤ runTime s + f.meet.2 → drzDuty pa s = false → exec (.drzRendezvousStart us hw) s =
           .next (emit (.drz (drzSent 1 f false span s)) (drzPa pa (onDrz (fun d => { d with exchange := some { f with phase := 2 } })
             (leaveCells (drzQueueId f.queue) (cellsOf f.payload.length)
               (onDrz (fun d => { d with follow := 0, queue := d.queue.erase f }) (start s))))))))) ∧
     (∀ f, s.drz.exchange = some f →
       (f.phase = 2 →
         let g := { f with stamp := rawTime s, attempts := f.attempts + 1, phase := 3 }
         (f.kind = 0 → bit f.flags 0 = true → exec (.drzFrameTxEnd us hw) s = .next (onDrz (fun d => { d with exchange := some g })
           { s with out := [.drz (drzSent 0 f (drzNext f s).isSome 0 s)] })) ∧
         (f.kind ≠ 0 → exec (.drzFrameTxEnd us hw) s = .next (drzFinish g 6 (onDrz (fun d => { d with exchange := some g })
           { s with out := [.drz (drzSent 0 f false 0 s)] })))) ∧
       (f.phase = 3 → f.wake = 0 →
         (∀ csl rssi lqi, exec (.drzAckReceive csl rssi lqi us hw) s = .next (drzFinish f 0 (drzHeard f.node csl rssi lqi (start s)))) ∧
         (f.attempts ≤ s.drz.csl.retries → exec .drzAckTimeout s =
           .next (onDrz (fun d => { d with exchange := some { f with phase := 0, nb := 0, be := 3 } }) (start s))) ∧
         (s.drz.csl.retries < f.attempts → exec .drzAckTimeout s = .next (drzFinish f 1 (start s)))) ∧
       (f.phase = 3 → f.wake = 1 → exec .drzAckTimeout s = .next (onDrz (fun d => { d with exchange := some { f with phase := 0, nb := 0, be := 3 } })
         (onNode f.node (fun n => { n with tref := none }) (start s)))) ∧
       (∀ a o status, f.owner = some o → findOwn 0x0C04 o s = some a → f.kind ≠ 0 →
         drzFinish f status s = endAsync a ST.ok (leBytes 1 status ++ leBytes 1 f.attempts ++ leBytes 1 (bitsNat [f.wake == 2 || f.fullTried != 0])
           ++ leBytes 1 0 ++ leBytes 4 f.stamp ++ leBytes 4 f.counter)
           (freeCells false (cellsOf f.payload.length) (onDrz (fun d => { d with exchange := none }) s)))) ∧
     (powered 8 s = true → s.drz.exchange = none →
       exec .drzChannelChangeApply s = .next (onDrz (fun d => { d with
         channelNow := d.channel
         queue := d.queue.map fun f => if f.phase == 1 then { f with phase := 0, nb := 0, be := 3 } else f }) (start s)) ∧
       (s.drz.csl.period ≠ 0 → exec .drzCslSample s =
         .next (onDrz (fun d => { d with samples := d.samples + 1, sampled := runTime s }) (start s)))) ∧
     (∀ f, powered 8 s = true → s.drz.exchange = some f → f.phase = 2 → f.wake = 0 →
       exec .drzChannelChangeApply s = .next (start s) ∧
       (s.drz.csl.period ≠ 0 → exec .drzCslSample s = .next (onDrz (fun d => { d with sampled := runTime s }) (start s)))) ∧
     (powered 8 s = false → exec .drzCslSample s = .next (start s) ∧ exec .drzChannelChangeApply s = .next (start s))) ∧
  (∀ (s : State) (f : DrzRx), drzOn s = true → s.drz.exchange = none →
     let ours := f.pan = s.drz.channel.pan ∨ f.pan = 0xFFFF
     (¬ ours → exec (.drzFrameReceive f) s = .next (match drzFrom f s with
       | some i => drzHeard i f.csl f.rssi f.lqi (start s)
       | none => start s)) ∧
     (ours → f.kind = 0 → f.level = 0 → f.destExt = none → f.dest = 0xFFFF → drzFrom f s = none →
       (isFlood f.payload = false → exec (.drzFrameReceive f) s = .next (drzDeliver f none false (start s))) ∧
       (isFlood f.payload = true →
         let e := (rd f.payload 2 2, rd f.payload 4 2)
         (drzSeen e s = true → exec (.drzFrameReceive f) s = .next (drzDuplicate e (start s))) ∧
         (let l := s.drz.seen.filter fun x => x.1 != e && !drzAged x s
          drzSeen e s = false → l.length < 512 →
           let x := drzDeliver f none false (onDrz (fun d => { d with seen := l ++ [(e, runTime s)] }) (start s))
           (rd f.payload 1 1 / 16 = 0 → exec (.drzFrameReceive f) s = .next (onDrz (fun d => { d with nTtl := inc 32 d.nTtl }) x)) ∧
           (1 ≤ rd f.payload 1 1 / 16 → bit (rd f.payload 1 1) 0 = false → bit s.drz.mesh.flags 0 = true → e.1 ≠ s.drz.channel.short →
             let copy : DrzFrame := ⟨1, if bit (rd f.payload 1 1) 1 then 7 else 3, 0xFFFF, 0, 0xFFFF, 0,
               f.payload.take 1 ++ leBytes 1 (rd f.payload 1 1 - 16) ++ f.payload.drop 2, none, 0, 0, 0, 0, 3, 0, 0, 0, (0, 0)⟩
             Reaches (.drzFrameReceive f) s fun t => t = { x with drz := t.drz } ∧
               t.drz = { x.drz with relays := s.drz.relays ++ [⟨e.1, e.2, 0, copy, drzJitterEnd (bit (rd f.payload 1 1) 1) e s⟩] })))) ∧
     (∀ i n, ours → f.kind = 0 → f.level ≠ 0 → drzFrom f s = some i → drzNode i s = some n → f.keyIndex = none →
       let h := drzHeard i f.csl f.rssi f.lqi (start s)
       (keyOf n.key s = none → exec (.drzFrameReceive f) s = .next (drzRefuse 1 (some i) h)) ∧
       ((keyOf n.key s).isSome = true → n.key ≠ 0xFFFF →
         (∀ c, Tab.look n.counters n.key = some c → f.counter ≤ c → exec (.drzFrameReceive f) s = .next (drzRefuse 2 (some i) h)) ∧
         (Tab.look n.counters n.key = none →
           (f.mic = false → exec (.drzFrameReceive f) s = .next (drzRefuse 3 (some i) h)) ∧
           (f.mic = true → exec (.drzFrameReceive f) s = .next (drzAccept f (some i) (onNode i (fun n =>
             { n with counters := Tab.put n.counters n.key f.counter, counter := f.counter }) h)))))) ∧
     (∀ r origin seq, (s.drz.relays.find? fun r => r.origin == origin && r.seq == seq && decide (r.due ≤ runTime s)) = some r →
       let q := drzQueueId r.frame.queue
       let n := cellsOf r.frame.payload.length
       (enterTest q n false true s = 0 → exec (.drzFloodRelay origin seq) s =
         .next (onDrz (fun d => { d with queue := d.queue ++ [r.frame], nRelayed := inc 32 d.nRelayed })
           (enterCells q n true (onDrz (fun d => { d with relays := d.relays.erase r }) (start s))))) ∧
       (enterTest q n false true s = 1 → exec (.drzFloodRelay origin seq) s =
         .next (onQueue q (fun i => { i with nTail := inc 32 i.nTail }) (onDrz (fun d => { d with relays := d.relays.erase r }) (start s))))) ∧
     (∀ origin seq, exec (.drzSeenCacheAging origin seq) s =
       .next (onDrz (fun d => { d with seen := d.seen.filter fun e => !(e.1 == (origin, seq) && decide (e.2 + 30000000000 ≤ runTime s)) }) (start s))))

/-- Acquisition: a detection at the threshold is a reception with its gain, offset and start frozen where its SIG
checks pass, of a foreign format where it names one, and a counted false detection, back to search, where a check
fails; its energy reaches the CCA; in the TB window it is held against the preset; a later packet is taken over at the
capture threshold above the reference, its L-SIG duration passed on and its response dropped, or ignored and counted;
the gain is preset to the summed target power; and the window's end or the PPDU's returns the receiver to search. -/
def Obligations.AcquisitionRows : Prop :=
  ∀ (s : State) (n : Nat) (d : Detection), n < 3 →
    let reached := (slice n s).acqNow.detection * 10 ≤ d.power
    let good := d.early = true ∨ ofdmCheck (bandNow n s) d = 0
    let heard (t : State) : Prop :=
      RadioSide s t ∧ (d.energy ≠ [] → (mac n t).cca.map (·.energy) = d.energy) ∧
      (slice n t).counters.detections = inc 32 (slice n s).counters.detections
    let took (t : State) (restarts : Nat) (tb : Bool) (reference level : Int) : Prop := ∃ r, (slice n t).reception = some r ∧ heard t ∧
      r.format = d.format ∧ r.restarts = restarts ∧ r.tb = tb ∧ r.reference = reference ∧ r.gain = Config.adcFullScale - 24 - level ∧
      r.cfo = cfoEstimate d.cfo ∧ r.stamp = (rawTime s + 2 ^ 32 - d.since % 2 ^ 32) % 2 ^ 32 ∧ r.halo = haloOn n s ∧
      r.lsig = !d.early ∧ (slice n t).rx = (if d.early = false ∧ foreignFormat d = true then .foreign else .receiving)
    ((slice n s).rx = .search →
      (¬ reached → exec (.lstfDetection n d) s = .next (start s) ∧ exec (.dsssDetection n d) s = .next (start s)) ∧
      (reached →
        (good → Reaches (.lstfDetection n d) s fun t => took t 0 false d.reference (d.power / 10) ∧
          (slice n t).counters.foreign = (if d.early = false ∧ foreignFormat d = true then inc 32 (slice n s).counters.foreign
            else (slice n s).counters.foreign)) ∧
        (¬ good → Reaches (.lstfDetection n d) s fun t => heard t ∧ (slice n t).reception = none ∧
          (slice n t).counters = countCheck (ofdmCheck (bandNow n s) d)
            { (slice n s).counters with detections := inc 32 (slice n s).counters.detections }) ∧
        (((slice n s).channel.any fun c => bandOf c.centre == 0) = true →
          (d.early = false → dsssCheck d = 0 → Reaches (.dsssDetection n d) s fun t => heard t ∧ (slice n t).rx = .receiving ∧
            (slice n t).reception.map (·.format) = some 0) ∧
          (d.early = false → dsssCheck d ≠ 0 → Reaches (.dsssDetection n d) s fun t => heard t ∧ (slice n t).reception = none ∧
            (slice n t).counters.dsssHeader = inc 32 (slice n s).counters.dsssHeader)))) ∧
    ((slice n s).rx = .receiving → exec (.lstfDetection n d) s = .next (start s)) ∧
    ((slice n s).rx = .tbWindow →
      (∀ p ref, reached → (slice n s).preset = some (p, ref) → good → (d.power - p).natAbs ≤ (slice n s).acqNow.tolerance * 10 →
        Reaches (.lstfDetection n d) s fun t => took t 0 true ref (p / 10)) ∧
      (∀ p ref, reached → (slice n s).preset = some (p, ref) → good → (slice n s).acqNow.tolerance * 10 < (d.power - p).natAbs →
        Reaches (.lstfDetection n d) s fun t => took t 0 true d.reference (d.power / 10) ∧
          (slice n t).counters.presetMisses = inc 32 (slice n s).counters.presetMisses) ∧
      (∀ f h y ref, (mac n s).fixed = some f → f.users = [h] → station h s = some y → exec (.tbGainPreset n ref) s =
        .next (onSlice n (fun y' => { y' with preset := some (presetLevel [y.target.get n], ref) }) (start s))) ∧
      ((mac n s).fixed = none → exec (.tbWindowEnd n) s =
        .next (toSearch n (onCounters n (fun c => { c with tbMissing := inc 32 c.tbMissing }) (start s))))) ∧
    (presetLevel [-60] = -600 ∧ presetLevel [-60, -60] = -570) ∧
    (∀ level overload, ((slice n s).acqNow.capture = 0 ∨ d.format = 0) → exec (.captureRestart n level overload d) s = .next (start s)) ∧
    (∀ q level overload, (slice n s).reception = some q → q.armed = true → (slice n s).acqNow.capture ≠ 0 → d.format ≠ 0 →
      (overload = false → level - q.reference < (slice n s).acqNow.capture → exec (.captureRestart n level overload d) s =
        .next (onCounters n (fun c => { c with overlaps := inc 32 c.overlaps }) (start s))) ∧
      ((overload = true ∨ ((slice n s).acqNow.capture : Int) ≤ level - q.reference) → q.tb = false → good →
        Reaches (.captureRestart n level overload d) s fun t =>
          took t (min 255 (q.restarts + 1)) false d.reference (d.power / 10) ∧
          (q.lsig = true → (slice n t).counters.captures = inc 32 (slice n s).counters.captures) ∧
          (q.lsig = false → (slice n t).counters.restarts = inc 32 (slice n s).counters.restarts) ∧
          (q.lsig = true → q.duration * 1000 ≤ (rawTime s + 2 ^ 32 - q.stamp) % 2 ^ 32 ∨
            runTime s + (q.duration * 1000 - (rawTime s + 2 ^ 32 - q.stamp) % 2 ^ 32) ≤ (mac n t).navBasic) ∧
          (mac n t).response = (mac n s).response.filter fun r => r.ppdu != q.id)) ∧
    (∀ q, (slice n s).reception = some q → q.tb = false → (mac n s).response = none →
      exec (.ppduRxEnd n) s = .next (toSearch n (onSlice n (fun x => { x with lastRx := some (q, 0) }) (start s)))) ∧
    (∀ y : State, (slice n (toSearch n y)).reception = none)

/-- Received MPDUs: one for another receiver sets a NAV, one whose FCS failed is counted; a data MPDU of a resident
station on an open BSS is delivered to the forwarding engine and owed an Ack, and a repeated one is counted and
dropped; the MIC verdict settles the MPDU waiting longest; a response is fixed at the freeze and sent at SIFS; a
BlockAckReq is answered and moves the window, once the context has come; a hole that timed out is stepped over; an
incomplete MSDU is dropped. -/
def Obligations.ReceptionRows : Prop :=
  ∀ (s : State) (n : Nat), n < 3 →
    (∀ m, (slice n s).rx ≠ .foreign → m.ours = false → m.fcs = true →
      let t := onSlice n (fun x => { x with reception := x.reception.map fun r => { r with rejected := true } }) (start s)
      (m.nav = none → exec (.mpduReceive n m) s = .next t) ∧
      (∀ us, m.nav = some (us, true) → exec (.mpduReceive n m) s =
        .next (onMac n (fun x => { x with navIntra := max x.navIntra (runTime s + us * 1000) }) t)) ∧
      (∀ us, m.nav = some (us, false) → exec (.mpduReceive n m) s =
        .next (onMac n (fun x => { x with navBasic := max x.navBasic (runTime s + us * 1000) }) t))) ∧
    (∀ m, (slice n s).rx = .foreign → m.late = false → exec (.mpduReceive n m) s = .next (start s)) ∧
    (∀ m, (slice n s).rx ≠ .foreign → m.fcs = false → m.kind ≠ 3 → m.cumulus = none → exec (.mpduReceive n m) s =
      .next (onCounters n (fun c => { c with fcsFailed := inc 32 c.fcsFailed }) (start s))) ∧
    (∀ m h x r b y, (slice n s).state = .ready → (slice n s).rx = .receiving → (slice n s).rxFrozen = false → m.ours = true →
      m.fcs = true → m.kind = 0 → m.cumulus = none → m.agg = false → m.noAck = false → m.late = false → stationAt n m.addr s = h →
      h ≠ 0xFFFF → station h s = some x → x.links.get n = b → bss b s = some y → y.security = 0 → resident h s = true →
      (slice n s).reception = some r → r.tb = false → (mac n s).response = none → Tab.look x.sessions m.tid = none →
      let frame (bytes : Bytes) : Frame := { ingress := 5, bytes := bytes, vlan := x.vlan, priority := m.tid, first := r.stamp, station := h
                                             bss := b, slice := n, vector := (Tab.look r.vectors 0xFFFF).getD (vectorOf n r 0 m) }
      let kept (t : State) : Prop :=
        t = { s with radio := t.radio, modem := t.modem, air := t.air, mls := t.mls, wire := t.wire, out := t.out } ∧
        (mac n t).response = some ⟨0, [⟨h, m.tid, [m.seq], 0, []⟩], false, (slice n s).rxCount⟩
      (m.retry = false → m.frag = 0 → m.more = false → Reaches (.mpduReceive n m) s fun t =>
        kept t ∧ t.wire = { s.wire with lookup := s.wire.lookup ++ m.msdus.map frame }) ∧
      (m.retry = true → Tab.look x.retry m.tid = some (m.seq, m.frag) → Reaches (.mpduReceive n m) s fun t =>
        kept t ∧ t.wire = s.wire ∧ ((station h t).map (·.nDup)) = some (inc 32 x.nDup))) ∧
    (∀ w l good, s.air.mic = w :: l → exec (.micVerdict good) s = .next (
      let t := onAir (fun a => { a with mic := l }) (start s)
      if good then settleMpdu w.slice w.station w.mpdu (some w.msdus) t
      else settleMpdu w.slice w.station w.mpdu none (badFrameOf w.station 0 t))) ∧
    (s.air.mic = [] → ∀ good, exec (.micVerdict good) s = .next (start s)) ∧
    (s.mls.hold = [] →
      let z := onSlice n (fun x => { x with rxFrozen := true }) (start s)
      ((mac n s).response = none → exec (.responseFreeze n) s = .next z) ∧
      (∀ e r, (mac n s).response = some r → r.entries = [e] → resident e.station s = true →
        (r.frozen = false →
          let fixed : Response := { r with entries := [fixEntry s e], kind := responseKind r.kind [e] s, frozen := true }
          exec (.responseFreeze n) s = .next (onMac n (fun m => { m with response := some fixed }) z)) ∧
        (r.frozen = true →
          let x := onMac n (fun m => { m with response := none }) z
          (sliceUsable n x = true → (slice n s).radarMove = false → nstrReceives n x = false → ∀ us format rate gamma tune,
            let us' := min us (longest n x)
            let v := plainVector n (if format = 0 && bandNow n x == 0 then 0 else 1) rate (primaryCover n x) 0 x
            dutyDenies n us' x = false → exec (.sifsResponseTx n us format rate gamma tune) s =
              .next (measureGamma n gamma tune (emitPpdu n v (responseBody r)
                (emit (.air n (responseFrame r.kind) e.station) (goOnAir n 4 us' 3 v [e.station] x)))))))) ∧
    (∀ h tid x y, station h s = some x → Tab.look x.sessions tid = some y →
      (∀ r l, y.held = [r] → r.seq = (y.next + 1) % 4096 → r.seq < 4096 → y.next < 4096 → r.pn = none → r.msdus = some l →
        Reaches (.reorderHoleTimeout h tid) s fun t =>
          t.wire = { s.wire with lookup := s.wire.lookup ++ l } ∧
          session h tid t = some { y with next := (r.seq + 1) % 4096, held := [] } ∧
          ((station h t).map (·.nHoles)) = some (inc 32 x.nHoles)) ∧
      (y.held = [] → exec (.reorderHoleTimeout h tid) s = .next (start s)) ∧
      (∀ ssn, (slice n s).state = .ready → (slice n s).rxFrozen = false → x.links.get n ≠ 255 → (mac n s).response = none →
        (slice n s).reception.any (·.tb) = false →
        let owed := some (⟨1, [⟨h, tid, [], ssn, []⟩], false, (slice n s).rxCount⟩ : Response)
        (resident h s = true → y.held = [] → y.next = ssn → ssn < 4096 → behind ssn y.start = false →
          Reaches (.blockackreqReceive n h tid ssn) s fun t => (mac n t).response = owed ∧
            session h tid t = some { y with start := ssn, board := y.board.filter fun q => decide (seqDiff q ssn < y.size)
                                            late := y.late.filter fun q => decide (seqDiff q ssn < y.size) }) ∧
        (resident h s = false → Reaches (.blockackreqReceive n h tid ssn) s fun t => (mac n t).response = owed ∧ session h tid t = some y ∧
          t.mls.hold.map (fun w => (w.slice, w.mpdu.kind, w.mpdu.station, w.mpdu.tid, w.mpdu.seq)) =
            s.mls.hold.map (fun w => (w.slice, w.mpdu.kind, w.mpdu.station, w.mpdu.tid, w.mpdu.seq)) ++ [(n, 5, h, tid, ssn)]))) ∧
    (∀ h tid, exec (.reassemblyTimeout h tid) s = .next (onStation h (fun x => { x with reassembly := Tab.del x.reassembly tid }) (start s)))

/-- The LDPC array and combining: a codeword that enters an empty queue goes to a free engine with its class, deadline
and limit; a decoded one leaves its engine and is counted, a failed one at its limit, each late where its response had
frozen; a further pass starts on the failed codewords of an RU with two users, and a late pass not started is dropped;
a peer's agreeing element activates combining and its absence ends it; a soft entry becomes usable, and expires. -/
def Obligations.ModemRows : Prop :=
  ∀ s : State,
    (∀ c : CodewordIn, powered 6 s = true → s.modem.lda.queue = [] → s.modem.lda.engines.length < 24 → c.ru = none → c.combine = none →
      exec (.ldpcEngineStart [c]) s = .next (onLda (fun l => { l with
        peak := max l.peak 1
        engines := l.engines ++ [⟨c.id, c.slice, if c.tb then 0 else 1, if c.solicits then c.responds - 6000 else c.ends + 100000,
          l.limit, c.solicits, none⟩] }) (start s))) ∧
    (powered 6 s = false → ∀ l, exec (.ldpcEngineStart l) s = .next (start s)) ∧
    (∀ c k, s.modem.lda.engines = [c] → c.ru = none → s.modem.lda.rus = [] →
      let late (l : LdpcArray) : Nat := if c.freeze && decide (c.deadline < runTime s) then inc 32 l.late else l.late
      (k < c.limit → exec (.codewordDone c.id k true) s = .next (onLda (fun l => { l with
        engines := [], decoded := inc 64 l.decoded, iterations := addWrap 64 l.iterations k, early := inc 64 l.early, late := late l })
        (start s))) ∧
      (c.limit ≤ k → exec (.codewordDone c.id k true) s = .next (onLda (fun l => { l with
        engines := [], decoded := inc 64 l.decoded, iterations := addWrap 64 l.iterations c.limit, late := late l }) (start s))) ∧
      exec (.codewordDone c.id k false) s = .next (onLda (fun l => { l with
        engines := [], failed := inc 64 l.failed, iterations := addWrap 64 l.iterations c.limit, late := late l }) (start s))) ∧
    (∀ r : TurboRu, s.modem.lda.rus = [r] →
      (r.symbols ≤ runTime s → r.outstanding = 0 → r.again = [] → r.failed ≠ [] → 2 ≤ r.users → r.pass < r.latched →
        exec (.turboPassStart r.id) s = .next (onLda (fun l =>
          { l with rus := [{ r with pass := r.pass + 1, again := r.failed, failed := [], begun := runTime s }] }) (start s)) ∧
        exec (.lateWindowExpiry r.id) s = .next (onLda (fun l => { l with rus := [], lateNotRun := inc 32 l.lateNotRun }) (start s))) ∧
      (r.latched ≤ r.pass → exec (.turboPassStart r.id) s = .next (onLda (fun l => { l with rus := [r] }) (start s)) ∧
        exec (.lateWindowExpiry r.id) s = .next (start s))) ∧
    (∀ h x v f links life c, station h s = some x → x.kind = 4 →
      let t := onPeer h (fun p => { p with element := some (v, f, links, life, c) }) (start s)
      ((peerOf h s).enabled = true → (peerOf h s).active = false → v = 1 → f % 8 = 7 →
        0x0300 < s.fleet.floor → exec (.cumulusElementReceive h v f links life c) s =
        .next (raise 0x0380 (leBytes 2 h ++ leBytes 1 ((peerOf h s).links &&& links) ++ leBytes 1 1)
          (onPeer h (fun p => { p with active := true }) t))) ∧
      ((peerOf h s).active = true → v ≠ 1 → exec (.cumulusElementReceive h v f links life c) s = .next (cumulusDown h 3 t)) ∧
      ((peerOf h s).enabled = false → (peerOf h s).active = false → exec (.cumulusElementReceive h v f links life c) s = .next t)) ∧
    (∀ h tag, exec (.softEntryUsable h tag) s = .next (onModem (fun m =>
        { m with soft := m.soft.map fun e => if e.peer == h && e.tag == tag then { e with usable := true } else e }) (start s)) ∧
      (∀ e, softOf h tag s = some e →
        (e.expires ≤ runTime s → exec (.softEntryExpiry h tag) s = .next (onPeer h (fun p => { p with expired := inc 32 p.expired })
          (onModem (fun m => { m with soft := m.soft.filter fun e => !(e.peer == h && e.tag == tag) }) (start s)))) ∧
        (runTime s < e.expires → exec (.softEntryExpiry h tag) s = .next (start s))) ∧
      (softOf h tag s = none → exec (.softEntryExpiry h tag) s = .next (start s)))

/-- Transmission: at its TBTT a BSS counts its DTIM and asks for its beacon, at once, on AC_VO or once tuned; a fix
point takes the head of a resident station's queue, numbered and under its key; a coexistence refusal, a lock, a held
NSTR partner, a move for radar or the duty limit sends nothing; a start puts the PPDU on the air and its end clears
it; a CTS opens the exchange and its absence fails the TXOP; an acknowledged MPDU ends, an unacknowledged one is
retried unless its key changed; a lifetime drops; and the end of a TXOP releases it. -/
def Obligations.TransmitRows : Prop :=
  ∀ (s : State) (n : Nat), n < 3 →
    (∀ b x cca, bss b s = some x → x.slice = n → x.pendingParams = none → s.mls.twtNow = [] → x.transmitted = true →
      let blocked := txBlocked (slice n s) = true ∨ nstrHeld n s = true ∨ mediumFree n (noteCca n cca s) = false
      let counted (t : State) : Prop := bss b t = some { x with
        dtimCount := if x.dtimCount = 0 then x.dtim - 1 else x.dtimCount - 1
        groupReady := if x.dtimCount = 0 then x.groupReady + x.groupHeld else x.groupReady
        groupHeld := if x.dtimCount = 0 then 0 else x.groupHeld
        beaconSent := false, skipped := if x.beaconSent then x.skipped else inc 32 x.skipped }
      ((slice n s).state = .ready → blocked → Reaches (.beaconTbtt b cca) s fun t =>
        t = { s with air := t.air, out := t.out } ∧ (mac n t).beaconWaits = true ∧ (mac n t).txop = (mac n s).txop ∧ counted t) ∧
      ((slice n s).state = .ready → ¬ blocked → Reaches (.beaconTbtt b cca) s fun t =>
        t = { s with air := t.air, mls := t.mls, out := t.out } ∧ ((mac n t).txop.map fun o => (o.what, o.ac)) = some (1, 3) ∧ counted t) ∧
      ((slice n s).state = .tuning → Reaches (.beaconTbtt b cca) s fun t =>
        t = { s with air := t.air, radio := t.radio, out := t.out } ∧ (mac n t).beaconWaits = true ∧ (3, 1) ∈ (slice n t).deferred ∧
        counted t)) ∧
    (∀ t p u h x m d, (mac n s).txop = some t → (mac n s).fixed = none → (slice n s).tx = none → (slice n s).state = .ready → t.what = 0 →
      t.users = [h] → p.kind = 0 → isMulti p = false → p.users = [u] → u.station = h → u.tid = m.tid → u.count = 1 →
      let cover := coverFor n p.format p.width s
      let v : FixUser := { u with ru := wholeRu cover.2 }
      sends p.format = true → formatFits p.format (bandNow n s) cover.1 = true → userFits n p cover.1 v s = true →
      fitDuration n true p.overhead p.duration p.answer s = some d → mldAligned n p d s v = true →
      protection n t [h] 0 d p.txop s = none →
      station h s = some x → x.queue = [m] → m.flight = none → m.seq = none → m.slot = none → m.attempts = 0 → x.barOwed = [] →
      Tab.look x.sessions m.tid = none → m.length ≤ 11454 →
      m.length ≤ bitsIn p.format cover.1 v.ru.tones u.mcs u.streams p.gi u.dcm (d - p.overhead) / 8 → (peerOf h s).active = false →
      servable h n s = true → resident h s = true → linkShare h x n m.tid s = some true → admits n h (some m.tid) s = true →
      twtHeld (stationQueue h m.tid) s = false → dozing x s = false → (queue (stationQueue h m.tid) s).sojourn = false →
      Reaches (.ppduFixPoint n p) s fun y =>
        ((mac n y).fixed.map fun f => (f.kind, f.users, f.mpdus, f.sent)) = some (0, [h], [(h, m.id)], false) ∧
        ((mac n y).fixed.map fun f => (f.duration, f.starts, f.vec.format, f.vec.width)) = some (d, runTime s + 24000, p.format, cover.1) ∧
        (station h y).map (·.queue) = some [{ m with
          seq := some (x.txSeq.getD m.tid 0), flight := some n, slot := if (keyOf x.ptk s).isSome then some x.ptk else none }] ∧
        y.wire = s.wire ∧ y.sec = s.sec) ∧
    (∀ f t, (mac n s).fixed = some f → (mac n s).txop = some t → f.sent = false →
      exec (.coexGrantSample n true) s = .next (onMac n (fun m => { m with fixed := some { f with granted := true } }) (start s)) ∧
      exec (.coexGrantSample n false) s = .next (coexDrive n false false (undoTxop n (releaseFixed n (start s)))) ∧
      (f.granted = true → (slice n s).state = .ready → ∀ gamma tune,
        (txBlocked (slice n s) = true → exec (.ppduTxStart n gamma tune) s = .next (lockedFrames n (notStarted n (start s)))) ∧
        (txBlocked (slice n s) = false → nstrHeld n s = true → exec (.ppduTxStart n gamma tune) s = .next (notStarted n (start s))) ∧
        (txBlocked (slice n s) = false → (slice n s).radarMove = true → sentAfterRadar f = false →
          exec (.ppduTxStart n gamma tune) s = .next (notStarted n (start s))) ∧
        (txBlocked (slice n s) = false → nstrHeld n s = false → (slice n s).radarMove = false →
          (dutyDenies n f.duration s = true → exec (.ppduTxStart n gamma tune) s = .next (dutyDenial n (notStarted n (start s)))) ∧
          (∀ a b c, dutyDenies n f.duration s = false → f.kind = 12 → f.users = [] → f.body = .sounding a b c →
            exec (.ppduTxStart n gamma tune) s = .next (measureGamma n gamma tune (emitPpdu n f.vec f.body (emit (.air n 12 0xFFFF)
              (onMac n (fun m => { m with
                fixed := some { f with sent := true }
                txop := some { t with begun := true, used := t.used + f.duration, clear := t.clear && t.what != 0
                                      cover := if t.begun then t.cover else (f.vec.width, f.vec.occupied) } })
                (goOnAir n 7 f.duration t.ac f.vec [] (start s)))))))))) ∧
    (∀ p f, (slice n s).tx = some p → p.kind ≠ 4 → (slice n s).state = .ready → (mac n s).fixed = some f → f.sent = true →
      (f.kind = 12 → Reaches (.ppduTxEnd n) s fun t => (slice n t).tx = none ∧ (mac n t).fixed = none ∧
        t = { s with radio := t.radio, air := t.air, out := t.out } ∧ t.air.stations = s.air.stations ∧ t.air.bss = s.air.bss) ∧
      (f.kind = 11 → Reaches (.ppduTxEnd n) s fun t => (slice n t).tx = none ∧ (slice n t).rx = .tbWindow ∧ t.air = s.air)) ∧
    (∀ t f, (mac n s).txop = some t → (mac n s).fixed = some f → f.sent = true → t.awaitCts ≠ 0 →
      exec (.ctsTimeout n) s = .next (markUse (onMac n (fun m => { m with txop := none, fixed := none })
        (emlsr n t.users false (doubleCw n t.ac (start s))))) ∧
      (t.awaitCts = 1 → t.users ≠ [] → ∀ l, exec (.ctsReceive n l) s = .next (markUse (onMac n (fun m =>
        { m with fixed := none, txop := some { t with clear := true, awaitCts := 0 } }) (emlsr n t.users true (start s)))))) ∧
    (∀ t f h m x, (mac n s).txop = some t → (mac n s).fixed = some f → f.sent = true → f.users = [h] → f.kind = 0 → f.mpdus = [(h, m.id)] →
      station h s = some x → x.queue.find? (fun y => y.id == m.id) = some m →
      let judged := fun cw : State → State => cw (onMac n (fun k => { k with fixed := none }) (start s))
      (∀ q, m.seq = some q → exec (.ackReceive n [(h, m.tid, [q])]) s = .next (settleShapers (ackMpdu h m (judged (resetCw n t.ac))))) ∧
      ((m.slot.all fun k => Tab.look f.keys k == keyOf k s) = true → exec (.ackTimeout n) s = .next (settleShapers (attemptFailed h m (judged (doubleCw n t.ac))))) ∧
      ((m.slot.all fun k => Tab.look f.keys k == keyOf k s) = false → exec (.ackTimeout n) s = .next (settleShapers (dropMpdu h 3 (judged (doubleCw n t.ac)) m)))) ∧
    (∀ h id, exec (.mpduLifetimeExpiry 0 h id) s = .next (dropMpdus h (fun m => m.id == id && m.flight.isNone) 2 (start s)).2) ∧
    (∀ b id f l, (queue (16384 + b) s).frames = f :: l → exec (.mpduLifetimeExpiry 2 b id) s =
      .next (settleShapers (endFrame (16384 + b) f 2 (onQueue (16384 + b) (fun q => { q with frames := l }) (onBss b (fun x =>
        if 0 < x.groupReady then { x with groupReady := x.groupReady - 1 } else { x with groupHeld := x.groupHeld - 1 }) (start s)))))) ∧
    (let ended (x : Station) : Station := if x.emlsrOn = some n then { x with emlsrOn := none, emlsrHold := true } else x
     ∀ t, (mac n s).txop = some t → (slice n s).tx = none → t.shares = [] → exec (.txopEnd n) s =
      .next (settleShapers (markUse (onMac n (fun m => { m with txop := none })
        (onAir (fun a => { a with stations := Tab.mapVals ended a.stations }) (releaseFixed n (start s))))))) ∧
    ((mac n s).txop = none → exec (.txopEnd n) s = .next (start s))

/-- What link cores do: a management frame first owes its Ack; a station associates to an open BSS under a new handle
and is authorised, or is refused; its disassociation, its BlockAck set-up and its power management take effect; a poll
or a trigger releases buffered units; a station silent for its BSS's inactivity timeout is deauthenticated; what the
cores send waits among the management frames. TWT agreements and service periods, EMLSR exchanges and ranging sessions
begin and end. -/
def Obligations.LinkCoreRows : Prop :=
  ∀ (s : State) (n : Nat),
    (∀ f x, bss f.bss s = some x → (slice x.slice s).state = .ready →
      let owed := oweAck x.slice (senderOf f s) (start s)
      (f.kind = 0 → sliceUsable x.slice s = true →
        exec (.managementFrameReceive f) s =
          .next (authFrame x.slice 5 f.addr (if x.security != 0 && handshakesRefused s then 1 else 0) owed)) ∧
      (f.kind = 1 → sliceUsable x.slice s = true →
        ((x.security != 0 && handshakesRefused s) = true ∨ akmFits f x s = false ∨ offerFits f x = false) →
        exec (.managementFrameReceive f) s = .next (answerAssoc x.slice 0xFFFF f.addr 1 [] x.inactivity [] owed)) ∧
      (f.kind = 1 → sliceUsable x.slice s = true → x.security = 0 → f.akm = 0 → stationBy f.addr s = none →
        ((newHandle s = none ∨ x.maxStations ≤ (stationsOf f.bss s).length) →
          exec (.managementFrameReceive f) s = .next (answerAssoc x.slice 0xFFFF f.addr 17 [] x.inactivity [] owed)) ∧
        (∀ h, newHandle s = some h → station h s = none → (stationsOf f.bss s).length < x.maxStations → f.staged = false →
          let links := acceptLinks f.bss x (askedLinks f) s
          Reaches (.managementFrameReceive f) s fun t =>
            (station h t).map (fun y => (y.addr, y.state, y.kind, y.links)) = some (f.addr, 3, f.client, links) ∧
            t.sec.keys = s.sec.keys ∧ t.air.bss = s.air.bss ∧
            ∃ e, (f.client ≠ 4 ∨ s.fleet.floor ≤ 0x0300 → e = []) ∧
              coreFrame h f.addr 10 (.assoc 0 (refusedLinks links (askedLinks f) s) advertisedPadding x.inactivity e) ∈
                (mac x.slice t).mgmt)) ∧
      (∀ h y, stationBy f.addr s = some h → station h s = some y → y.links.get x.slice = f.bss →
        let a := onStation h (fun z => { z with lastFrame := s.mem.seconds }) owed
        ((f.kind = 2 ∨ f.kind = 3) → exec (.managementFrameReceive f) s = .next (dismiss h 1 f.reason a)) ∧
        let set : Session := ⟨max 64 (min 1024 f.size), f.start % 4096, [], [], f.start % 4096, []⟩
        (f.kind = 4 → exec (.managementFrameReceive f) s = .next (coreTo h 10 (.addBa (f.tid % 8) (max 64 (min 1024 f.size)))
          (onStation h (fun z => { z with sessions := Tab.put z.sessions (f.tid % 8) set }) a))) ∧
        (f.kind = 7 → exec (.managementFrameReceive f) s =
          .next (onStation h (fun z => { z with doze := z.doze.set x.slice f.doze }) a)))) ∧
    (∀ h, (slice n s).state = .ready →
      let units (k : Nat) (z : State) : State := onStation h (fun x =>
        if x.links.get n != 255 && x.doze.get n then { x with deliver := max x.deliver k, lastFrame := s.mem.seconds } else x) z
      exec (.psPollReceive n h) s = .next (units 1 (oweAck n h (start s))) ∧
      (∀ x ac k, station h s = some x → bit x.uapsd ac = true →
        exec (.uapsdTrigger n h ac k) s = .next (units (if k = 0 then 255 else k) (start s))) ∧
      (∀ x ac k, station h s = some x → bit x.uapsd ac = false → exec (.uapsdTrigger n h ac k) s = .next (start s))) ∧
    (∀ h x b, station h s = some x → bss (homeBss x) s = some b →
      (x.lastFrame + b.inactivity ≤ s.mem.seconds → exec (.inactivityTimeout h) s = .next (deauth h 2 4 (start s))) ∧
      (s.mem.seconds < x.lastFrame + b.inactivity → exec (.inactivityTimeout h) s = .next (start s))) ∧
    (∀ h, station h s = none → exec (.inactivityTimeout h) s = .next (start s)) ∧
    (∀ h x flow b duration interval offset, station h s = some x →
      let t : Twt := ⟨flow, duration, interval, offset, false⟩
      let room := (x.twts.any fun y => y.flow == flow) = true ∨ (x.twts.length < 4 ∧ agreements s < 2048)
      let ranges := 1 ≤ duration ∧ duration ≤ 255 ∧ 1000 ≤ interval ∧ interval ≤ 10000000
      (room → flow < 8 → ranges →
        exec (.twtRequestReceive h 0 flow b duration interval offset true) s = .next (
          raise 0x0306 (leBytes 2 h ++ leBytes 1 0 ++ leBytes 1 flow) (coreTo h 10 (.twt 0 flow duration interval offset)
            (onStation h (fun y => { y with twts := (y.twts.filter fun t => t.flow != flow) ++ [t] }) (start s))))) ∧
      (room → flow < 8 → ¬ ranges →
        exec (.twtRequestReceive h 0 flow b duration interval offset true) s = .next (coreTo h 10
          (.twt 1 flow (max 1 (min 255 duration)) (max 1000 (min 10000000 interval)) offset) (start s))) ∧
      (∀ places, (¬ room ∨ 8 ≤ flow ∨ places = false) →
        exec (.twtRequestReceive h 0 flow b duration interval offset places) s =
          .next (coreTo h 10 (.twt 2 flow duration interval offset) (start s))) ∧
      ((x.twts.any fun t => t.flow == flow) = true → ∀ p, exec (.twtRequestReceive h 1 flow b duration interval offset p) s = .next (
        raise 0x0306 (leBytes 2 h ++ leBytes 1 1 ++ leBytes 1 flow)
          (onStation h (fun y => { y with twts := y.twts.filter fun t => t.flow != flow }) (start s))))) ∧
    (∀ b kind id owner, (s.mls.twtNow.any fun t => t.bss == b && t.kind == kind && t.id == id) = true →
      let opened := onMls (fun m => { m with openSps := m.openSps.filter (· != (b, kind, id)) ++ [(b, kind, id)] }) (start s)
      exec (.twtServicePeriodStart (some (b, kind)) owner id) s = .next (if kind = 1 then endBefore b opened else opened) ∧
      exec (.twtServicePeriodEnd (some (b, kind)) owner id) s =
        .next (onMls (fun m => { m with openSps := m.openSps.filter (· != (b, kind, id)) }) (start s))) ∧
    (∀ h id (on : Bool), exec (if on then .twtServicePeriodStart none h id else .twtServicePeriodEnd none h id) s =
      .next (onStation h (fun x => { x with twts := x.twts.map fun t => if t.flow = id then { t with open_ := on } else t }) (start s))) ∧
    (∀ h, exec (.emlsrExchangeEnd h) s = .next (onStation h (fun x =>
        if x.emlsrOn.isSome then { x with emlsrOn := none, emlsrHold := true } else x) (start s)) ∧
      exec (.emlsrTransitionEnd h) s = .next (onStation h (fun x => { x with emlsrHold := false }) (start s))) ∧
    (∀ addr, sliceUsable n s = true →
      let mine (f : Ftm) : Bool := f.slice == n && f.mac == addr
      let l := s.air.ftm.filter fun f => !mine f
      let answer (status : Nat) (f : Ftm) : State → State :=
        queueMgmt n (coreFrame 0xFFFF addr 10 (.ftm status f.departed f.arrived))
      let full := 16 ≤ (l.filter fun f => f.slice == n).length
      exec (.ftmRequestReceive n addr false) s = .next (onAir (fun a => { a with ftm := l }) (start s)) ∧
      (∀ f, s.air.ftm.find? mine = some f → exec (.ftmRequestReceive n addr true) s = .next (answer 0 f (start s))) ∧
      (s.air.ftm.find? mine = none → ¬ full → exec (.ftmRequestReceive n addr true) s =
        .next (answer 0 ⟨addr, n, none, none⟩ (onAir (fun a => { a with ftm := l ++ [⟨addr, n, none, none⟩] }) (start s)))) ∧
      (s.air.ftm.find? mine = none → full →
        exec (.ftmRequestReceive n addr true) s = .next (answer 1 ⟨addr, n, none, none⟩ (start s))))

/-- The scheduler's window: the brim takes the snapshot of the settings and samples the stations; the commit places
TXOPs only of sampled, still usable users within their slice's share; the boundary puts the committed plan and
settings in force; a fill TXOP joins a slice without one before the brim; and staging runs on the plan. -/
def Obligations.WindowRows : Prop :=
  ∀ s : State,
    (s.mls.running = true → s.mls.inBrim = false →
      let x := commitShared (start s)
      exec .brimStart s = .next (markUse (onMls (fun m =>
        { m with inBrim := true, snapshot := m.settings, twtSnap := m.twt, next := some (sharedPlan x.mls.settings x)
                 sampled := some (sampleNow x), backlog := backlogNow x.mls.settings.window x
                 plan := { m.plan with txops := m.plan.txops.filter (·.twt) } }) x))) ∧
    ((s.mls.running = false ∨ s.mls.inBrim = true) → exec .brimStart s = .next (start s)) ∧
    (∀ sample base twt free, s.mls.sampled = some sample → s.mls.next = some base →
      (∀ txops, Reaches (.planCommit txops twt free) s fun t =>
        t = { s with air := t.air, mls := t.mls, out := t.out } ∧ t.mls.sampled = none ∧ t.mls.plan = s.mls.plan ∧
        t.mls.committed = s.mls.snapshot ∧ t.mls.snapshot = s.mls.snapshot ∧ t.mls.inForce = s.mls.inForce) ∧
      (base.txops = [] → Reaches (.planCommit [] twt free) s fun t => (t.mls.next.map (·.txops)) = some [])) ∧
    (s.mls.sampled = none → ∀ l e k, exec (.planCommit l e k) s = .next (start s)) ∧
    (∀ x rank p t, let q := addTxop x rank s p t
      q = p ∨ ∃ v, q.txops = p.txops ++ [v] ∧ v.slice = t.slice ∧ v.start = t.start ∧ v.users ≠ [] ∧ bit p.busy t.slice = true ∧
        ∀ h ∈ v.users, h ∈ t.users ∧ h ∈ rank ∧ linkFits x p t h s = true ∧ emlsrFits p t h s = true ∧ airtimeFits x p t h s = true ∧
          (x.sample.contains (t.slice, h, true) = true ∨
            (t.uplink || t.sounding) = true ∧ x.sample.contains (t.slice, h, false) = true)) ∧
    (s.mls.running = true → s.mls.inBrim = true → Reaches .windowBoundary s fun t =>
      t.mls.inBrim = false ∧ t.mls.index = inc 32 s.mls.index ∧ t.mls.start = s.clock.ns ∧ t.mls.startAt = runTime s ∧ t.mls.inForce = s.mls.snapshot ∧
      t.mls.twtNow = s.mls.twtSnap ∧ t.mls.next = none ∧ t.mls.stats.planned = s.mls.plan.stations.length ∧
      (∀ p, s.mls.next = some p → t.mls.plan = p) ∧ t.air = s.air ∧ t.wire = s.wire ∧ t.sec = s.sec) ∧
    (s.mls.running = false → exec .windowBoundary s = .next (start s)) ∧
    (∀ t : PlanTxop, s.mls.running = true → s.mls.inBrim = false → nextPlanned t.slice s.mls.plan = none → inPlan t.slice s = true →
      let x := fillBase t (start s)
      let p := addTxop x (ranked x (start s)) (start s) s.mls.plan t
      Reaches (.fillTxopAppend t) s fun y => y.mls.plan = p ∧ y = { s with mls := y.mls, out := y.out }) ∧
    (∀ t : PlanTxop, s.mls.inBrim = true → exec (.fillTxopAppend t) s = .next (start s)) ∧
    (∀ n, s.mls.running = true → Reaches (.stagingStart n) s fun y =>
      y = { s with mls := y.mls, out := y.out } ∧ y.mls.plan.txops.length ≤ s.mls.plan.txops.length ∧ y.mls.plan.stations = s.mls.plan.stations ∧
      (nextPlanned n s.mls.plan = none → y.mls.plan = s.mls.plan)) ∧
    (∀ n, s.mls.running = false → exec (.stagingStart n) s = .next (start s))

/-- The Crown's rows: a completed fetch makes its station resident; a held MPDU past its time is discarded; an entry
that lingered may be reused; ratios above their thresholds raise EV_CRN_THRASH; a lost entry removes its station; and
a beamforming report is dated and passed to Nimbus. -/
def Obligations.CrownRows : Prop :=
  ∀ (s : State) (h : Nat),
    (∀ o k, s.mls.flight = [o] → o.station = h → o.fetch = true → s.mls.queue = [] → s.mls.waiting = [] → s.mls.hold = [] →
      poolUsed s < poolSlots s.mls.committed →
      Reaches (.crownOpComplete h true k) s fun t => resident h t = true ∧ t.mls.flight = [] ∧ t.mls.stats.peakOp = max s.mls.stats.peakOp k ∧
        t = { s with mls := t.mls, out := t.out }) ∧
    (∀ k, s.mls.flight = [] → exec (.crownOpComplete h true k) s = .next (start s) ∧ exec (.crownOpComplete h false k) s = .next (start s)) ∧
    (∀ x, (s.mls.hold.find? fun x => x.mpdu.station == h && x.acked) = some x → exec (.holdMpduExpiry h) s = .next (onMls (fun m =>
      { m with hold := m.hold.erase x, stats := { m.stats with holdExpired := inc 32 m.stats.holdExpired } }) (start s))) ∧
    (s.mls.waiting = [] → s.mls.queue = [] → poolUsed s ≤ poolSlots s.mls.committed → exec (.lingerExpiry h) s = .next (onMls (fun m =>
      { m with crown := m.crown.map fun e => if e.station = h then { e with lingering := false } else e }) (start s))) ∧
    (s.mls.ratio.2.1 = 0 → s.mls.ratio.2.2.2 = 0 → exec .thrashCheck s = .next (onMls (fun m => { m with ratio := (0, 0, 0, 0) }) (start s))) ∧
    (∀ late planned, s.mls.ratio = (late, planned, 0, 0) → 0 < planned → s.mls.inForce.lateThr * planned < late * 1000 →
      s.mbox.limited.contains (0x0401, 0) = false → exec .thrashCheck s = .next (raiseLimited 0x0401 0
        (leBytes 1 1 ++ leBytes 1 0 ++ leBytes 2 (min 65535 (late * 1000 / planned)) ++ leBytes 2 0 ++ leBytes 1 (halfOf s.mls.inForce)
          ++ leBytes 1 s.mls.inForce.pins.length ++ leBytes 1 s.mls.inForce.reserve)
        (onCrownStats (fun k => { k with thrash := inc 32 k.thrash }) (onMls (fun m => { m with ratio := (0, 0, 0, 0) }) (start s))))) ∧
    ((station h s).isSome = true → s.mls.hold = [] → exec (.crownEntryLost h) s = .next (dismiss h 0 1
      (onCrownStats (fun c => { c with lost := inc 32 c.lost, holdExpired := addWrap 32 c.holdExpired 0 }) (raise 0x0403 (leBytes 2 h) (start s))))) ∧
    (station h s = none → exec (.crownEntryLost h) s = .next (start s)) ∧
    (∀ valid ng codebook, (station h s).isSome = true → reportAccepted ng codebook = true →
      let x := onStation h (fun x => { x with report := some (runTime s), beamformee := true, reportForm := some (ng, codebook) }) (start s)
      (classFull 10 s = false → powered 7 s = true →
        exec (.beamformingReportReceive h valid ng codebook) s = .next (queueItem 10 none (.precoder h valid) x)) ∧
      (classFull 10 s = true → exec (.beamformingReportReceive h valid ng codebook) s = .next (refuseClass 10 x))) ∧
    (∀ valid ng codebook, ((station h s).isNone || !reportAccepted ng codebook) = true →
      exec (.beamformingReportReceive h valid ng codebook) s = .next (start s))

/-- The rows of the ports: a signal starts bring-up, which succeeds, waits for its one retry or puts the port in
FAULT; loss of signal leaves DOWN; the polled MGT link is UP only at full duplex and its changes are reported once;
received pause and PFC stop and start the queues they name; and pause is repeated above XON. -/
def Obligations.PortRows : Prop :=
  ∀ (s : State) (p : Nat), p ≤ 4 →
    (powered 9 s = true →
      ((port p s).state = .down →
        exec (.portSignalDetect p) s = .next (onPort p (fun x => { x with state := .training, retry := 0 }) (start s)) ∧
        exec (.portSignalLoss p) s = .next (start s)) ∧
      ((port p s).state ≠ .down → exec (.portSignalDetect p) s = .next (start s)) ∧
      ((port p s).state = .training →
        exec (.portSignalLoss p) s = .next (onPort p (fun x => { x with state := .down, retry := 0 }) (start s)) ∧
        ((port p s).retry = 0 → p ≠ 4 → exec (.portBringupDone p) s = .next (enterUp p (modeSpeed (port p s).cfg.mode) (start s))) ∧
        ((port p s).retry = 0 → p ≠ 4 → exec (.portBringupFail p) s = .next (onPort p (fun x => { x with retry := 1 }) (start s))) ∧
        ((port p s).retry = 1 → exec (.portBringupRetry p) s = .next (onPort p (fun x => { x with retry := 2 }) (start s))) ∧
        ((port p s).retry = 2 → p ≠ 4 → exec (.portBringupFail p) s = .next (lastingFault 0x0602 (leBytes 1 p ++ leBytes 1 (port p s).cfg.mode) true
          (onPort p (fun x => { x with state := .fault, retry := 0 }) (start s)))) ∧
        ((port p s).retry = 2 → p ≠ 4 → exec (.portBringupDone p) s = .next (enterUp p (modeSpeed (port p s).cfg.mode)
          (transientFault 0x0602 (leBytes 1 p ++ leBytes 1 (port p s).cfg.mode) (start s))))) ∧
      ((port p s).state ≠ .training → exec (.portBringupDone p) s = .next (start s) ∧ exec (.portBringupFail p) s = .next (start s) ∧
        exec (.portBringupRetry p) s = .next (start s)) ∧
      ((port p s).state = .up → exec (.portSignalLoss p) s = .next (leaveUp p 0 .down (start s))) ∧
      (∀ n, (∀ q, (port q s).cfg.flow = 0) → let fec := if p = 4 then 0 else (port p s).cfg.fec
        enterUp p n s = raise 0x0601 (leBytes 1 p ++ leBytes 1 1 ++ leBytes 1 n ++ leBytes 1 fec ++ leBytes 1 0) (onPort p (fun y =>
          { y with state := .up, retry := 0, speed := n, fecActive := fec, changes := inc 32 y.changes }) s))) ∧
    (powered 9 s = true → ∀ half speed,
      let up := (port 4 s).state = .up
      let n := if speed < 4 then speed else 3
      let seen (h : Bool) : State := onPort 4 (fun y => { y with half := h }) (start s)
      ((port 4 s).state = .down ∨ (port 4 s).state = .training →
        exec (.mdioPoll true false speed) s = .next (enterUp 4 n (seen false)) ∧
        exec (.mdioPoll false half speed) s = .next (seen false) ∧
        ((port 4 s).half = true → exec (.mdioPoll true true speed) s = .next (onPort 4 (fun y => { y with state := .down }) (seen true))) ∧
        ((port 4 s).half = false → exec (.mdioPoll true true speed) s =
          .next (raise 0x0601 (leBytes 1 4 ++ leBytes 1 0 ++ leBytes 1 0 ++ leBytes 1 0 ++ leBytes 1 2)
            (onPort 4 (fun y => { y with state := .down }) (seen true))))) ∧
      (up → exec (.mdioPoll true false speed) s =
        .next (if (port 4 s).speed = n then seen false else enterUp 4 n (leaveUp 4 0 .down (seen false)))) ∧
      (up → exec (.mdioPoll true true speed) s = .next (leaveUp 4 2 .down (seen true))) ∧
      (up → exec (.mdioPoll false half speed) s = .next (leaveUp 4 0 .down (seen false))) ∧
      ((port 4 s).state = .adminDown ∨ (port 4 s).state = .fault → ∀ link, exec (.mdioPoll link half speed) s = .next (start s))) ∧
    (portUp p s = true →
      (∀ quanta, Reaches (.pauseFrameReceive p quanta) s fun t => t = { s with wire := t.wire, out := [] } ∧ (port p t).partner = true ∧
        (port p t).pfcStopped = (port p s).pfcStopped ∧
        (port p t).paused = (if (port p s).cfg.flow = 1 then quanta != 0 else (port p s).paused) ∧
        Tab.getD (port p t).counters 5 0 = addWrap 64 (Tab.getD (port p s).counters 5 0) 1 ∧ ∀ q, q ≠ p → port q t = port q s) ∧
      (∀ enable quanta, Reaches (.pfcFrameReceive p enable quanta) s fun t => t = { s with wire := t.wire, out := [] } ∧
        (port p t).partner = true ∧ (port p t).paused = (port p s).paused ∧ (∀ q, q ≠ p → port q t = port q s) ∧
        ((port p s).cfg.flow = 2 → ∀ k, k < 8 → bit (port p t).pfcStopped k =
          (if bit enable k && bit (port p s).cfg.pfcMask k then quanta.getD k 0 != 0 else bit (port p s).pfcStopped k)) ∧
        ((port p s).cfg.flow ≠ 2 → (port p t).pfcStopped = (port p s).pfcStopped))) ∧
    (portUp p s = false → ∀ q l, exec (.pauseFrameReceive p q) s = .next (start s) ∧ exec (.pfcFrameReceive p q l) s = .next (start s)) ∧
    (∀ mask, Reaches (.pauseTimeExpiry p mask) s fun t => t = { s with wire := t.wire, out := [] } ∧ (∀ q, q ≠ p → port q t = port q s) ∧
      ((port p s).cfg.flow = 1 → (port p t).paused = false ∧ (port p t).pfcStopped = (port p s).pfcStopped) ∧
      ((port p s).cfg.flow ≠ 1 → (port p t).paused = (port p s).paused ∧
        ∀ k, k < 8 → bit (port p t).pfcStopped k = (bit (port p s).pfcStopped k && !bit mask k))) ∧
    (∀ k, bit (port p s).xoffSent k = true → (pausePriorities (port p s)).contains k = true →
      (port p s).cfg.xon < pauseCount (port p s) k → portUp p s = true → (port p s).sending = none →
      exec (.pauseRefresh p k) s = .next (countPort p (if (port p s).cfg.flow = 2 then 30 else 29) 1 (emit (.pause p (2 ^ k) 0xFFFF) (start s)))) ∧
    (∀ k, bit (port p s).xoffSent k = false → exec (.pauseRefresh p k) s = .next (start s))

/-- The rows of frames on the wire: a frame is received only on an UP port, counted by its fault or admitted whole
into packet SRAM; a MACsec verdict frees or releases it; its lookup drops it outside its VLAN or sends it on; a head
that waited too long is dropped; and a port's frame is sent, and counted with its cells freed as it ends. -/
def Obligations.FrameRows : Prop :=
  ∀ (s : State) (p : Nat), p ≤ 4 →
    (∀ b fcs, (port p s).state ≠ .up → exec (.ethFrameReceive p b fcs) s = .next (start s)) ∧
    (powered 9 s = true → powered 2 s = true → (port p s).state = .up → (port p s).notReady = false → secyOn p s = false → ∀ b,
      let len := b.length + 4
      (len < 64 → exec (.ethFrameReceive p b true) s = .next (countPort p 8 1 (start s)) ∧
        exec (.ethFrameReceive p b false) s = .next (countPort p 9 1 (start s))) ∧
      (64 ≤ len → (port p s).cfg.maxFrame < len → exec (.ethFrameReceive p b true) s = .next (countPort p 10 1 (start s)) ∧
        exec (.ethFrameReceive p b false) s = .next (countPort p 11 1 (start s))) ∧
      (64 ≤ len → len ≤ (port p s).cfg.maxFrame → b.length ≤ 252 → exec (.ethFrameReceive p b false) s = .next (countPort p 7 1 (start s))) ∧
      (64 ≤ len → len ≤ (port p s).cfg.maxFrame → etherType b ≠ 0x8808 → etherType b ≠ 0x88B5 →
        let x := countPort p (castCounter 2 b) 1 (countPort p 1 1 (countPort p 0 len (start s)))
        let k := ingressPriority p b x
        (takeCells p k (cellsOf b.length) x = none → exec (.ethFrameReceive p b true) s = .next (countPort p 12 1 x)) ∧
        (∀ t, takeCells p k (cellsOf b.length) x = some t → exec (.ethFrameReceive p b true) s =
          .next (onWire (fun w => { w with lookup := w.lookup ++ [{ ingress := p, bytes := b, priority := k, rxPrio := k, first := rawTime s,
                                                                    sram := true, cells := cellsOf b.length, good := true }] }) t)))) ∧
    ((port p s).icv = [] → ∀ g b, exec (.macsecIcvVerdict p g b) s = .next (start s)) ∧
    (∀ f sc an pn r a b, (port p s).icv = (f, sc, an, pn) :: r → saOf (port p s).secy true sc an = some a →
      let x := onPort p (fun y => { y with icv := r }) (start s)
      (exec (.macsecIcvVerdict p false b) s = .next (countPort p 16 1 (freeFrame f x))) ∧
      (bit (port p s).secy.flags 2 = true → pn < a.pn → exec (.macsecIcvVerdict p true b) s = .next (countPort p 17 1 (freeFrame f x))) ∧
      (bit (port p s).secy.flags 2 = false ∨ a.pn ≤ pn →
        let y := onSecy p (fun y => { y with rx := Tab.modify y.rx (sc * 4 + an) fun a => { a with pn := max a.pn (pn + 1 - y.window) } }) x
        let k := ingressPriority p b y
        exec (.macsecIcvVerdict p true b) s = .next (settleXoff (onWire (fun w => { w with lookup := w.lookup ++ [{ f with bytes := b, priority := k, rxPrio := k }] })
          (onPort p (fun z => { z with cells := (z.cells.modify f.rxPrio (· - f.cells)).modify k (· + f.cells) }) y))))) ∧
    (∀ i k, lookupHead i k s = none → exec (.fwePacketLookup i k) s = .next (start s) ∧ exec (.holdFifoHeadTimeout i k) s = .next (start s)) ∧
    (∀ k f, lookupHead p k s = some f → f.ingress = p →
      let x := popLookup f (start s)
      (bit (port p s).blocked k = true → exec (.holdFifoHeadTimeout p k) s = .next (freeFrame f
        (onPort p (fun y => { y with holdDropNow := inc 32 y.holdDropNow }) (countPort p 13 1 x)))) ∧
      (bit (port p s).blocked k = false → exec (.holdFifoHeadTimeout p k) s = .next (start s)) ∧
      (f.good = true → vlan (assignVlan f s) s = none → f.sram = true → ∃ g, g.sram = true ∧ g.cells = f.cells ∧ g.ingress = p ∧ g.rxPrio = f.rxPrio ∧
        exec (.fwePacketLookup p k) s = .next (freeFrame g (countPort p 23 1 x))) ∧
      (∀ v e, f.good = true → vlan (assignVlan f s) s = some v → bit v.members p = true → sourcePolicer (2, p) s = none → s.wire.acl = [] →
        bit s.clock.cfg.ports p = false → bit v.flags 0 = false → groupBound (untag f.bytes) = false → ipOf (untag f.bytes) = none →
        etherType (untag f.bytes) ≠ 0x0806 → macEntry (assignVlan f s) (dstMac (untag f.bytes)) s = some e → e.station = none → e.port ≠ p →
        exec (.fwePacketLookup p k) s = .next (toPort e.port { f with vlan := assignVlan f s, tci := tagOf f.bytes, bytes := untag f.bytes }
          (countPort p 40 1 x)))) ∧
    (portUp p s = false → exec (.emacTxStart p) s = .next (start s)) ∧
    ((port p s).paused = true → exec (.emacTxStart p) s = .next (start s)) ∧
    (powered 9 s = true → portUp 4 s = true → (port 4 s).sending = none → (port 4 s).paused = false →
      ∀ f r, (queue 16488 s).frames = f :: r → f.bytes.length + 4 ≤ (port 4 s).cfg.maxFrame → Reaches (.emacTxStart 4) s fun t =>
        (∃ g, (port 4 t).sending = some (0, g) ∧ g.bytes = f.bytes ∧ g.cells = f.cells) ∧ (queue 16488 t).frames = r ∧
        Out.eth 4 f.bytes none false ∈ t.out ∧ t.mbox = s.mbox ∧ t.air = s.air) ∧
    (powered 9 s = true → portUp p s = true → p ≠ 4 → (port p s).sending = none → (port p s).paused = false →
      (∀ k, k < 8 → (queue (wiredQueue p k) s).frames = []) → exec (.emacTxStart p) s = .next (start s)) ∧
    ((port p s).sending = none → exec (.emacTxEnd p) s = .next (start s)) ∧
    (∀ k f, (port p s).sending = some (k, f) → f.csum = false →
      exec (.emacTxEnd p) s = .next (flushPause p (injectFate f.inject 0 f.stamp (freeFrame f (countPort p (castCounter 26 f.bytes) 1
        (countPort p 25 1 (countPort p 24 (f.bytes.length + 4) (onPort p (fun x => { x with sending := none }) (start s)))))))))

/-- The rows of the forwarding tables: a flow's setup releases its held packets or drops and counts them; idle flows,
learned addresses, unreachable marks and fragment entries end; and an unanswered resolution is sent again, or after
the third marks its next hop unreachable and drops its packets with an ICMP error each. -/
def Obligations.ForwardingTableRows : Prop :=
  ∀ (s : State),
    (∀ core pick, served core s = none → exec (.flowSetupDone core pick) s = .next (start s)) ∧
    (∀ core pick x t h, served core s = some x → x.item.work = .flow t → s.wire.held.find? (fun h => h.key == t) = some h →
      let y := onWire (fun w => { w with held := w.held.filter fun z => z.key != t }) (start s)
      (∀ fl, flowOf t s = some fl → exec (.flowSetupDone core pick) s = .next (h.frames.foldl (fun u f => releaseHeld f u) y)) ∧
      (∀ f i, flowOf t s = none → h.frames.head? = some f → ipOf f.bytes = some i →
        (∀ u, setupFlow f.vlan t i pick y = .done u → exec (.flowSetupDone core pick) s = .next (h.frames.foldl (fun u f => releaseHeld f u) u)) ∧
        (setupFlow f.vlan t i pick y = .full → exec (.flowSetupDone core pick) s = .next (flowFull (h.frames.foldl
          (fun u f => countPort f.ingress 46 1 (unholdFrame f u).2) y))) ∧
        (∀ e, setupFlow f.vlan t i pick y = .noPort e → exec (.flowSetupDone core pick) s = .next (noPorts e (h.frames.foldl
          (fun u f => countPort f.ingress 46 1 (unholdFrame f u).2) y))))) ∧
    (∀ n, Tab.look s.wire.flows n = none → exec (.flowAgeOut n) s = .next (start s)) ∧
    (∀ n f, Tab.look s.wire.flows n = some f →
      (s.mem.seconds < f.last + flowTimeout f s → exec (.flowAgeOut n) s = .next (start s)) ∧
      (f.last + flowTimeout f s ≤ s.mem.seconds → Reaches (.flowAgeOut n) s fun t =>
        t = { s with wire := { s.wire with flows := t.wire.flows, fragments := t.wire.fragments }, out := [] } ∧
        (Tab.wf s.wire.flows = true → Tab.look t.wire.flows n = none) ∧ (∀ m, m ≠ n → Tab.look t.wire.flows m = Tab.look s.wire.flows m) ∧
        ∀ e, e ∈ t.wire.fragments ↔ e ∈ s.wire.fragments ∧ e.2.2.2 ≠ n)) ∧
    (∀ v a, Reaches (.macAgeOut v a) s fun t => t = { s with wire := { s.wire with macs := t.wire.macs }, out := [] } ∧
      ∀ e, e ∈ t.wire.macs ↔ e ∈ s.wire.macs ∧
        (e.station.isSome = true ∨ e.vlan ≠ v ∨ e.addr ≠ a ∨ s.mem.seconds < e.seen + s.wire.macAging)) ∧
    (∀ i a h, nextHop i a s = some h → h.mac = none → h.unreachable = false →
      (h.tries < 3 → exec (.nextHopResolveRetry i a) s = .next (emit (.stack 0 (leBytes 2 i ++ beBytes 16 a))
        (onHop i a (fun x => { x with tries := x.tries + 1 }) (start s)))) ∧
      (3 ≤ h.tries → exec (.nextHopResolveRetry i a) s = .next (h.waiting.foldl (fun t f => icmpError 5 f.bytes (countPort f.ingress 43 1 (freeFrame f t)))
        (onHop i a (fun x => { x with unreachable := true, waiting := [] }) (start s))))) ∧
    (∀ i a, nextHop i a s = none → exec (.nextHopResolveRetry i a) s = .next (start s)) ∧
    (∀ i a, Reaches (.nextHopUnreachableEnd i a) s fun t => t = { s with wire := { s.wire with nextHops := t.wire.nextHops }, out := [] } ∧
      ∀ h, h ∈ t.wire.nextHops ↔ h ∈ s.wire.nextHops ∧ ¬(h.iface = i ∧ h.addr = a ∧ h.unreachable = true)) ∧
    (∀ a b n, Reaches (.natFragmentExpiry a b n) s fun t => t = { s with wire := { s.wire with fragments := t.wire.fragments }, out := [] } ∧
      ∀ e, e ∈ t.wire.fragments ↔ e ∈ s.wire.fragments ∧ ¬(e.1 = a ∧ e.2.1 = b ∧ e.2.2.1 = n))
end

