-- ==== Sys2Proof/Laws/Cells.lean ====
section
/-! SUPPORT. Laws of sparse memories: the canonical form is kept, a read after a write, and byte strings. -/
namespace Sys2Proof

/-- Every listed address of a memory is above `a`. -/
def Cells.above (a : Nat) (m : List Host.Cell) : Prop := ∀ e ∈ m, a < e.1

theorem Cells.wf_cons {a : Nat} {b : Byte} {m : List Host.Cell} :
    Cells.wf ((a, b) :: m) = true ↔ b ≠ 0 ∧ Cells.above a m ∧ Cells.wf m = true := by
  induction m generalizing a b with
  | nil => simp [Cells.wf, Cells.above]
  | cons e m ih =>
    obtain ⟨c, d⟩ := e
    have h := ih (a := c) (b := d)
    rw [Cells.wf, Bool.and_eq_true, Bool.and_eq_true, h]
    simp only [decide_eq_true_eq, Cells.above, List.mem_cons, forall_eq_or_imp]
    constructor
    · rintro ⟨⟨h1, h2⟩, h3, h4, h5⟩
      exact ⟨h1, ⟨h2, fun e he => Nat.lt_trans h2 (h4 e he)⟩, h3, h4, h5⟩
    · rintro ⟨h1, ⟨h2, _⟩, h3, h4, h5⟩
      exact ⟨⟨h1, h2⟩, h3, h4, h5⟩

theorem Cells.read_above {a : Nat} {m : List Host.Cell} (h : Cells.above a m) : Cells.read m a = 0 := by
  cases m with
  | nil => rfl
  | cons e m =>
    have := h e (by simp)
    simp only [Cells.read]
    rw [if_neg (by omega), if_pos this]

theorem Cells.write_above {a c : Nat} {v : Byte} {m : List Host.Cell} (h : Cells.above a m) (hc : a < c) :
    Cells.above a (Cells.write m c v) := by
  induction m with
  | nil => simp only [Cells.write]; split <;> simp [Cells.above, hc]
  | cons e m ih =>
    have h0 := h e (by simp)
    have h1 : Cells.above a m := fun x hx => h x (by simp [hx])
    simp only [Cells.write]
    split
    · split
      · exact h1
      · intro x hx; rcases List.mem_cons.mp hx with rfl | hx
        · exact hc
        · exact h1 x hx
    · split
      · split
        · exact h
        · intro x hx; rcases List.mem_cons.mp hx with rfl | hx
          · exact hc
          · exact h x hx
      · intro x hx; rcases List.mem_cons.mp hx with rfl | hx
        · exact h0
        · exact ih h1 x hx

/-- A write keeps the canonical form. -/
theorem Cells.write_wf {m : List Host.Cell} (h : Cells.wf m = true) (a : Nat) (v : Byte) :
    Cells.wf (Cells.write m a v) = true := by
  induction m with
  | nil => simp only [Cells.write]; split <;> simp_all [Cells.wf]
  | cons e m ih =>
    obtain ⟨k, b⟩ := e
    obtain ⟨h1, h2, h3⟩ := Cells.wf_cons.mp h
    simp only [Cells.write]
    split
    · subst_vars
      split
      · exact h3
      · exact Cells.wf_cons.mpr ⟨‹_›, h2, h3⟩
    · split
      · split
        · exact h
        · refine Cells.wf_cons.mpr ⟨‹_›, ?_, h⟩
          intro x hx; rcases List.mem_cons.mp hx with rfl | hx
          · assumption
          · have := h2 x hx; omega
      · exact Cells.wf_cons.mpr ⟨h1, Cells.write_above h2 (by omega), ih h3⟩

/-- A read after a write. -/
theorem Cells.read_write {m : List Host.Cell} (h : Cells.wf m = true) (a c : Nat) (v : Byte) :
    Cells.read (Cells.write m a v) c = if c = a then v else Cells.read m c := by
  induction m with
  | nil =>
    simp only [Cells.write]
    by_cases hv : v = 0
    · rw [if_pos hv]
      by_cases hc : c = a
      · rw [if_pos hc, hv]; rfl
      · rw [if_neg hc]
    · rw [if_neg hv]
      by_cases hc : c = a
      · rw [if_pos hc, Cells.read.eq_2, if_pos hc.symm]
      · rw [if_neg hc, Cells.read.eq_2, if_neg (fun e : a = c => hc e.symm)]
        simp [Cells.read]
  | cons e m ih =>
    obtain ⟨k, b⟩ := e
    obtain ⟨h1, h2, h3⟩ := Cells.wf_cons.mp h
    have ih := ih h3
    simp only [Cells.write]
    by_cases hk : k = a
    · subst hk
      rw [if_pos rfl]
      by_cases hv : v = 0
      · rw [if_pos hv]
        by_cases hc : c = k
        · subst hc; rw [if_pos rfl, Cells.read_above h2, hv]
        · rw [if_neg hc]
          rw [Cells.read.eq_2, if_neg (fun e => hc e.symm)]
          by_cases hlt : c < k
          · rw [if_pos hlt, Cells.read_above (fun x hx => by have := h2 x hx; omega)]
          · rw [if_neg hlt]
      · rw [if_neg hv]
        simp only [Cells.read]
        by_cases hc : c = k
        · subst hc; simp
        · have hn : ¬k = c := fun e => hc e.symm
          rw [if_neg hn, if_neg hc, if_neg hn]
    · rw [if_neg hk]
      by_cases hlt : a < k
      · rw [if_pos hlt]
        by_cases hv : v = 0
        · rw [if_pos hv]
          by_cases hc : c = a
          · subst hc; rw [if_pos rfl, hv]; simp only [Cells.read]; rw [if_neg hk, if_pos hlt]
          · rw [if_neg hc]
        · rw [if_neg hv]
          by_cases hc : c = a
          · subst hc; simp [Cells.read]
          · rw [if_neg hc]
            rw [Cells.read, if_neg (by omega)]
            by_cases hca : c < a
            · rw [if_pos hca, Cells.read, if_neg (by omega), if_pos (by omega)]
            · rw [if_neg hca]
      · rw [if_neg hlt]
        simp only [Cells.read]
        by_cases hc : c = a
        · subst hc; rw [if_neg hk, if_neg hlt, if_pos rfl, ih, if_pos rfl]
        · rw [if_neg hc, ih, if_neg hc]

/-- A byte string written keeps the canonical form. -/
theorem Cells.writeAll_wf {m : List Host.Cell} (h : Cells.wf m = true) (a : Nat) (b : Bytes) :
    Cells.wf (Cells.writeAll m a b) = true := by
  induction b generalizing m a with
  | nil => exact h
  | cons x b ih => exact ih (Cells.write_wf h a x) (a + 1)

/-- A byte after a byte string was written: the string's own byte inside it, the old one outside. -/
theorem Cells.read_writeAll {m : List Host.Cell} (h : Cells.wf m = true) (a c : Nat) (b : Bytes) :
    Cells.read (Cells.writeAll m a b) c = if a ≤ c ∧ c < a + b.length then b.getD (c - a) 0 else Cells.read m c := by
  induction b generalizing m a with
  | nil => rw [if_neg (by simp)]; rfl
  | cons x b ih =>
    rw [Cells.writeAll, ih (Cells.write_wf h a x), Cells.read_write h]
    by_cases hc : c = a
    · subst hc; rw [if_neg (by omega), if_pos rfl, if_pos (by simp)]; simp
    · rw [if_neg hc]
      by_cases hi : a + 1 ≤ c ∧ c < a + 1 + b.length
      · rw [if_pos hi, if_pos (by simp; omega)]
        obtain ⟨k, rfl⟩ : ∃ k, c = a + 1 + k := ⟨c - (a + 1), by omega⟩
        rw [show a + 1 + k - a = k + 1 by omega, show a + 1 + k - (a + 1) = k by omega]; rfl
      · rw [if_neg hi, if_neg (by simp; omega)]

/-- A byte string reads back as it was written. -/
theorem Cells.readAll_writeAll {m : List Host.Cell} (h : Cells.wf m = true) (a : Nat) (b : Bytes) :
    Cells.readAll (Cells.writeAll m a b) a b.length = b := by
  apply List.ext_getElem
  · simp [Cells.readAll]
  · intro i h1 h2
    simp only [Cells.readAll, List.getElem_map, List.getElem_range]
    rw [Cells.read_writeAll h, if_pos (by omega)]
    simp [List.getD_eq_getElem?_getD, h2]

/-- A byte string written elsewhere leaves a byte string. -/
theorem Cells.readAll_writeAll_apart {m : List Host.Cell} (h : Cells.wf m = true) {a c n : Nat} {b : Bytes}
    (ho : c + n ≤ a ∨ a + b.length ≤ c) : Cells.readAll (Cells.writeAll m a b) c n = Cells.readAll m c n := by
  simp only [Cells.readAll]
  apply List.map_congr_left
  intro i hi
  rw [List.mem_range] at hi
  rw [Cells.read_writeAll h, if_neg (by omega)]

end Sys2Proof
end

