-- ==== Sys2Proof/Laws/State.lean ====
section
/-! SUPPORT. One lemma per field per update of the state: what the named updates change and what they leave. -/
namespace Sys2Proof.Machine

@[simp] theorem onMbox_mbox (f : Mbox → Mbox) (s : State) : (onMbox f s).mbox = f s.mbox := rfl
@[simp] theorem onMbox_pcie (f : Mbox → Mbox) (s : State) : (onMbox f s).pcie = s.pcie := rfl
@[simp] theorem onMbox_rings (f : Mbox → Mbox) (s : State) : (onMbox f s).rings = s.rings := rfl
@[simp] theorem onMbox_dma (f : Mbox → Mbox) (s : State) : (onMbox f s).dma = s.dma := rfl
@[simp] theorem onMbox_power (f : Mbox → Mbox) (s : State) : (onMbox f s).power = s.power := rfl
@[simp] theorem onMbox_evr (f : Mbox → Mbox) (s : State) : (onMbox f s).evr = s.evr := rfl
@[simp] theorem onMbox_radio (f : Mbox → Mbox) (s : State) : (onMbox f s).radio = s.radio := rfl
@[simp] theorem onMbox_modem (f : Mbox → Mbox) (s : State) : (onMbox f s).modem = s.modem := rfl
@[simp] theorem onMbox_air (f : Mbox → Mbox) (s : State) : (onMbox f s).air = s.air := rfl
@[simp] theorem onMbox_mls (f : Mbox → Mbox) (s : State) : (onMbox f s).mls = s.mls := rfl
@[simp] theorem onMbox_wire (f : Mbox → Mbox) (s : State) : (onMbox f s).wire = s.wire := rfl
@[simp] theorem onMbox_qme (f : Mbox → Mbox) (s : State) : (onMbox f s).qme = s.qme := rfl
@[simp] theorem onMbox_clock (f : Mbox → Mbox) (s : State) : (onMbox f s).clock = s.clock := rfl
@[simp] theorem onMbox_sec (f : Mbox → Mbox) (s : State) : (onMbox f s).sec = s.sec := rfl
@[simp] theorem onMbox_fleet (f : Mbox → Mbox) (s : State) : (onMbox f s).fleet = s.fleet := rfl
@[simp] theorem onMbox_fwu (f : Mbox → Mbox) (s : State) : (onMbox f s).fwu = s.fwu := rfl
@[simp] theorem onMbox_mem (f : Mbox → Mbox) (s : State) : (onMbox f s).mem = s.mem := rfl
@[simp] theorem onMbox_tds (f : Mbox → Mbox) (s : State) : (onMbox f s).tds = s.tds := rfl
@[simp] theorem onMbox_dsp (f : Mbox → Mbox) (s : State) : (onMbox f s).dsp = s.dsp := rfl
@[simp] theorem onMbox_drz (f : Mbox → Mbox) (s : State) : (onMbox f s).drz = s.drz := rfl
@[simp] theorem onMbox_out (f : Mbox → Mbox) (s : State) : (onMbox f s).out = s.out := rfl
@[simp] theorem onMbox_pending (f : Mbox → Mbox) (s : State) : (onMbox f s).pending = s.pending := rfl

@[simp] theorem onPower_mbox (f : Power → Power) (s : State) : (onPower f s).mbox = s.mbox := rfl
@[simp] theorem onPower_pcie (f : Power → Power) (s : State) : (onPower f s).pcie = s.pcie := rfl
@[simp] theorem onPower_rings (f : Power → Power) (s : State) : (onPower f s).rings = s.rings := rfl
@[simp] theorem onPower_dma (f : Power → Power) (s : State) : (onPower f s).dma = s.dma := rfl
@[simp] theorem onPower_power (f : Power → Power) (s : State) : (onPower f s).power = f s.power := rfl
@[simp] theorem onPower_evr (f : Power → Power) (s : State) : (onPower f s).evr = s.evr := rfl
@[simp] theorem onPower_radio (f : Power → Power) (s : State) : (onPower f s).radio = s.radio := rfl
@[simp] theorem onPower_modem (f : Power → Power) (s : State) : (onPower f s).modem = s.modem := rfl
@[simp] theorem onPower_air (f : Power → Power) (s : State) : (onPower f s).air = s.air := rfl
@[simp] theorem onPower_mls (f : Power → Power) (s : State) : (onPower f s).mls = s.mls := rfl
@[simp] theorem onPower_wire (f : Power → Power) (s : State) : (onPower f s).wire = s.wire := rfl
@[simp] theorem onPower_qme (f : Power → Power) (s : State) : (onPower f s).qme = s.qme := rfl
@[simp] theorem onPower_clock (f : Power → Power) (s : State) : (onPower f s).clock = s.clock := rfl
@[simp] theorem onPower_sec (f : Power → Power) (s : State) : (onPower f s).sec = s.sec := rfl
@[simp] theorem onPower_fleet (f : Power → Power) (s : State) : (onPower f s).fleet = s.fleet := rfl
@[simp] theorem onPower_fwu (f : Power → Power) (s : State) : (onPower f s).fwu = s.fwu := rfl
@[simp] theorem onPower_mem (f : Power → Power) (s : State) : (onPower f s).mem = s.mem := rfl
@[simp] theorem onPower_tds (f : Power → Power) (s : State) : (onPower f s).tds = s.tds := rfl
@[simp] theorem onPower_dsp (f : Power → Power) (s : State) : (onPower f s).dsp = s.dsp := rfl
@[simp] theorem onPower_drz (f : Power → Power) (s : State) : (onPower f s).drz = s.drz := rfl
@[simp] theorem onPower_out (f : Power → Power) (s : State) : (onPower f s).out = s.out := rfl
@[simp] theorem onPower_pending (f : Power → Power) (s : State) : (onPower f s).pending = s.pending := rfl

@[simp] theorem onEvr_mbox (f : Recorder → Recorder) (s : State) : (onEvr f s).mbox = s.mbox := rfl
@[simp] theorem onEvr_pcie (f : Recorder → Recorder) (s : State) : (onEvr f s).pcie = s.pcie := rfl
@[simp] theorem onEvr_rings (f : Recorder → Recorder) (s : State) : (onEvr f s).rings = s.rings := rfl
@[simp] theorem onEvr_dma (f : Recorder → Recorder) (s : State) : (onEvr f s).dma = s.dma := rfl
@[simp] theorem onEvr_power (f : Recorder → Recorder) (s : State) : (onEvr f s).power = s.power := rfl
@[simp] theorem onEvr_evr (f : Recorder → Recorder) (s : State) : (onEvr f s).evr = f s.evr := rfl
@[simp] theorem onEvr_radio (f : Recorder → Recorder) (s : State) : (onEvr f s).radio = s.radio := rfl
@[simp] theorem onEvr_modem (f : Recorder → Recorder) (s : State) : (onEvr f s).modem = s.modem := rfl
@[simp] theorem onEvr_air (f : Recorder → Recorder) (s : State) : (onEvr f s).air = s.air := rfl
@[simp] theorem onEvr_mls (f : Recorder → Recorder) (s : State) : (onEvr f s).mls = s.mls := rfl
@[simp] theorem onEvr_wire (f : Recorder → Recorder) (s : State) : (onEvr f s).wire = s.wire := rfl
@[simp] theorem onEvr_qme (f : Recorder → Recorder) (s : State) : (onEvr f s).qme = s.qme := rfl
@[simp] theorem onEvr_clock (f : Recorder → Recorder) (s : State) : (onEvr f s).clock = s.clock := rfl
@[simp] theorem onEvr_sec (f : Recorder → Recorder) (s : State) : (onEvr f s).sec = s.sec := rfl
@[simp] theorem onEvr_fleet (f : Recorder → Recorder) (s : State) : (onEvr f s).fleet = s.fleet := rfl
@[simp] theorem onEvr_fwu (f : Recorder → Recorder) (s : State) : (onEvr f s).fwu = s.fwu := rfl
@[simp] theorem onEvr_mem (f : Recorder → Recorder) (s : State) : (onEvr f s).mem = s.mem := rfl
@[simp] theorem onEvr_tds (f : Recorder → Recorder) (s : State) : (onEvr f s).tds = s.tds := rfl
@[simp] theorem onEvr_dsp (f : Recorder → Recorder) (s : State) : (onEvr f s).dsp = s.dsp := rfl
@[simp] theorem onEvr_drz (f : Recorder → Recorder) (s : State) : (onEvr f s).drz = s.drz := rfl
@[simp] theorem onEvr_out (f : Recorder → Recorder) (s : State) : (onEvr f s).out = s.out := rfl
@[simp] theorem onEvr_pending (f : Recorder → Recorder) (s : State) : (onEvr f s).pending = s.pending := rfl

@[simp] theorem onClock_mbox (f : Clock → Clock) (s : State) : (onClock f s).mbox = s.mbox := rfl
@[simp] theorem onClock_pcie (f : Clock → Clock) (s : State) : (onClock f s).pcie = s.pcie := rfl
@[simp] theorem onClock_rings (f : Clock → Clock) (s : State) : (onClock f s).rings = s.rings := rfl
@[simp] theorem onClock_dma (f : Clock → Clock) (s : State) : (onClock f s).dma = s.dma := rfl
@[simp] theorem onClock_power (f : Clock → Clock) (s : State) : (onClock f s).power = s.power := rfl
@[simp] theorem onClock_evr (f : Clock → Clock) (s : State) : (onClock f s).evr = s.evr := rfl
@[simp] theorem onClock_radio (f : Clock → Clock) (s : State) : (onClock f s).radio = s.radio := rfl
@[simp] theorem onClock_modem (f : Clock → Clock) (s : State) : (onClock f s).modem = s.modem := rfl
@[simp] theorem onClock_air (f : Clock → Clock) (s : State) : (onClock f s).air = s.air := rfl
@[simp] theorem onClock_mls (f : Clock → Clock) (s : State) : (onClock f s).mls = s.mls := rfl
@[simp] theorem onClock_wire (f : Clock → Clock) (s : State) : (onClock f s).wire = s.wire := rfl
@[simp] theorem onClock_qme (f : Clock → Clock) (s : State) : (onClock f s).qme = s.qme := rfl
@[simp] theorem onClock_clock (f : Clock → Clock) (s : State) : (onClock f s).clock = f s.clock := rfl
@[simp] theorem onClock_sec (f : Clock → Clock) (s : State) : (onClock f s).sec = s.sec := rfl
@[simp] theorem onClock_fleet (f : Clock → Clock) (s : State) : (onClock f s).fleet = s.fleet := rfl
@[simp] theorem onClock_fwu (f : Clock → Clock) (s : State) : (onClock f s).fwu = s.fwu := rfl
@[simp] theorem onClock_mem (f : Clock → Clock) (s : State) : (onClock f s).mem = s.mem := rfl
@[simp] theorem onClock_tds (f : Clock → Clock) (s : State) : (onClock f s).tds = s.tds := rfl
@[simp] theorem onClock_dsp (f : Clock → Clock) (s : State) : (onClock f s).dsp = s.dsp := rfl
@[simp] theorem onClock_drz (f : Clock → Clock) (s : State) : (onClock f s).drz = s.drz := rfl
@[simp] theorem onClock_out (f : Clock → Clock) (s : State) : (onClock f s).out = s.out := rfl
@[simp] theorem onClock_pending (f : Clock → Clock) (s : State) : (onClock f s).pending = s.pending := rfl

@[simp] theorem onMem_mbox (f : Mem → Mem) (s : State) : (onMem f s).mbox = s.mbox := rfl
@[simp] theorem onMem_pcie (f : Mem → Mem) (s : State) : (onMem f s).pcie = s.pcie := rfl
@[simp] theorem onMem_rings (f : Mem → Mem) (s : State) : (onMem f s).rings = s.rings := rfl
@[simp] theorem onMem_dma (f : Mem → Mem) (s : State) : (onMem f s).dma = s.dma := rfl
@[simp] theorem onMem_power (f : Mem → Mem) (s : State) : (onMem f s).power = s.power := rfl
@[simp] theorem onMem_evr (f : Mem → Mem) (s : State) : (onMem f s).evr = s.evr := rfl
@[simp] theorem onMem_radio (f : Mem → Mem) (s : State) : (onMem f s).radio = s.radio := rfl
@[simp] theorem onMem_modem (f : Mem → Mem) (s : State) : (onMem f s).modem = s.modem := rfl
@[simp] theorem onMem_air (f : Mem → Mem) (s : State) : (onMem f s).air = s.air := rfl
@[simp] theorem onMem_mls (f : Mem → Mem) (s : State) : (onMem f s).mls = s.mls := rfl
@[simp] theorem onMem_wire (f : Mem → Mem) (s : State) : (onMem f s).wire = s.wire := rfl
@[simp] theorem onMem_qme (f : Mem → Mem) (s : State) : (onMem f s).qme = s.qme := rfl
@[simp] theorem onMem_clock (f : Mem → Mem) (s : State) : (onMem f s).clock = s.clock := rfl
@[simp] theorem onMem_sec (f : Mem → Mem) (s : State) : (onMem f s).sec = s.sec := rfl
@[simp] theorem onMem_fleet (f : Mem → Mem) (s : State) : (onMem f s).fleet = s.fleet := rfl
@[simp] theorem onMem_fwu (f : Mem → Mem) (s : State) : (onMem f s).fwu = s.fwu := rfl
@[simp] theorem onMem_mem (f : Mem → Mem) (s : State) : (onMem f s).mem = f s.mem := rfl
@[simp] theorem onMem_tds (f : Mem → Mem) (s : State) : (onMem f s).tds = s.tds := rfl
@[simp] theorem onMem_dsp (f : Mem → Mem) (s : State) : (onMem f s).dsp = s.dsp := rfl
@[simp] theorem onMem_drz (f : Mem → Mem) (s : State) : (onMem f s).drz = s.drz := rfl
@[simp] theorem onMem_out (f : Mem → Mem) (s : State) : (onMem f s).out = s.out := rfl
@[simp] theorem onMem_pending (f : Mem → Mem) (s : State) : (onMem f s).pending = s.pending := rfl

@[simp] theorem onSec_mbox (f : Sec → Sec) (s : State) : (onSec f s).mbox = s.mbox := rfl
@[simp] theorem onSec_pcie (f : Sec → Sec) (s : State) : (onSec f s).pcie = s.pcie := rfl
@[simp] theorem onSec_rings (f : Sec → Sec) (s : State) : (onSec f s).rings = s.rings := rfl
@[simp] theorem onSec_dma (f : Sec → Sec) (s : State) : (onSec f s).dma = s.dma := rfl
@[simp] theorem onSec_power (f : Sec → Sec) (s : State) : (onSec f s).power = s.power := rfl
@[simp] theorem onSec_evr (f : Sec → Sec) (s : State) : (onSec f s).evr = s.evr := rfl
@[simp] theorem onSec_radio (f : Sec → Sec) (s : State) : (onSec f s).radio = s.radio := rfl
@[simp] theorem onSec_modem (f : Sec → Sec) (s : State) : (onSec f s).modem = s.modem := rfl
@[simp] theorem onSec_air (f : Sec → Sec) (s : State) : (onSec f s).air = s.air := rfl
@[simp] theorem onSec_mls (f : Sec → Sec) (s : State) : (onSec f s).mls = s.mls := rfl
@[simp] theorem onSec_wire (f : Sec → Sec) (s : State) : (onSec f s).wire = s.wire := rfl
@[simp] theorem onSec_qme (f : Sec → Sec) (s : State) : (onSec f s).qme = s.qme := rfl
@[simp] theorem onSec_clock (f : Sec → Sec) (s : State) : (onSec f s).clock = s.clock := rfl
@[simp] theorem onSec_sec (f : Sec → Sec) (s : State) : (onSec f s).sec = f s.sec := rfl
@[simp] theorem onSec_fleet (f : Sec → Sec) (s : State) : (onSec f s).fleet = s.fleet := rfl
@[simp] theorem onSec_fwu (f : Sec → Sec) (s : State) : (onSec f s).fwu = s.fwu := rfl
@[simp] theorem onSec_mem (f : Sec → Sec) (s : State) : (onSec f s).mem = s.mem := rfl
@[simp] theorem onSec_tds (f : Sec → Sec) (s : State) : (onSec f s).tds = s.tds := rfl
@[simp] theorem onSec_dsp (f : Sec → Sec) (s : State) : (onSec f s).dsp = s.dsp := rfl
@[simp] theorem onSec_drz (f : Sec → Sec) (s : State) : (onSec f s).drz = s.drz := rfl
@[simp] theorem onSec_out (f : Sec → Sec) (s : State) : (onSec f s).out = s.out := rfl
@[simp] theorem onSec_pending (f : Sec → Sec) (s : State) : (onSec f s).pending = s.pending := rfl

@[simp] theorem onWire_mbox (f : Wire → Wire) (s : State) : (onWire f s).mbox = s.mbox := rfl
@[simp] theorem onWire_pcie (f : Wire → Wire) (s : State) : (onWire f s).pcie = s.pcie := rfl
@[simp] theorem onWire_rings (f : Wire → Wire) (s : State) : (onWire f s).rings = s.rings := rfl
@[simp] theorem onWire_dma (f : Wire → Wire) (s : State) : (onWire f s).dma = s.dma := rfl
@[simp] theorem onWire_power (f : Wire → Wire) (s : State) : (onWire f s).power = s.power := rfl
@[simp] theorem onWire_evr (f : Wire → Wire) (s : State) : (onWire f s).evr = s.evr := rfl
@[simp] theorem onWire_radio (f : Wire → Wire) (s : State) : (onWire f s).radio = s.radio := rfl
@[simp] theorem onWire_modem (f : Wire → Wire) (s : State) : (onWire f s).modem = s.modem := rfl
@[simp] theorem onWire_air (f : Wire → Wire) (s : State) : (onWire f s).air = s.air := rfl
@[simp] theorem onWire_mls (f : Wire → Wire) (s : State) : (onWire f s).mls = s.mls := rfl
@[simp] theorem onWire_wire (f : Wire → Wire) (s : State) : (onWire f s).wire = f s.wire := rfl
@[simp] theorem onWire_qme (f : Wire → Wire) (s : State) : (onWire f s).qme = s.qme := rfl
@[simp] theorem onWire_clock (f : Wire → Wire) (s : State) : (onWire f s).clock = s.clock := rfl
@[simp] theorem onWire_sec (f : Wire → Wire) (s : State) : (onWire f s).sec = s.sec := rfl
@[simp] theorem onWire_fleet (f : Wire → Wire) (s : State) : (onWire f s).fleet = s.fleet := rfl
@[simp] theorem onWire_fwu (f : Wire → Wire) (s : State) : (onWire f s).fwu = s.fwu := rfl
@[simp] theorem onWire_mem (f : Wire → Wire) (s : State) : (onWire f s).mem = s.mem := rfl
@[simp] theorem onWire_tds (f : Wire → Wire) (s : State) : (onWire f s).tds = s.tds := rfl
@[simp] theorem onWire_dsp (f : Wire → Wire) (s : State) : (onWire f s).dsp = s.dsp := rfl
@[simp] theorem onWire_drz (f : Wire → Wire) (s : State) : (onWire f s).drz = s.drz := rfl
@[simp] theorem onWire_out (f : Wire → Wire) (s : State) : (onWire f s).out = s.out := rfl
@[simp] theorem onWire_pending (f : Wire → Wire) (s : State) : (onWire f s).pending = s.pending := rfl

@[simp] theorem onQme_mbox (f : Qme → Qme) (s : State) : (onQme f s).mbox = s.mbox := rfl
@[simp] theorem onQme_pcie (f : Qme → Qme) (s : State) : (onQme f s).pcie = s.pcie := rfl
@[simp] theorem onQme_rings (f : Qme → Qme) (s : State) : (onQme f s).rings = s.rings := rfl
@[simp] theorem onQme_dma (f : Qme → Qme) (s : State) : (onQme f s).dma = s.dma := rfl
@[simp] theorem onQme_power (f : Qme → Qme) (s : State) : (onQme f s).power = s.power := rfl
@[simp] theorem onQme_evr (f : Qme → Qme) (s : State) : (onQme f s).evr = s.evr := rfl
@[simp] theorem onQme_radio (f : Qme → Qme) (s : State) : (onQme f s).radio = s.radio := rfl
@[simp] theorem onQme_modem (f : Qme → Qme) (s : State) : (onQme f s).modem = s.modem := rfl
@[simp] theorem onQme_air (f : Qme → Qme) (s : State) : (onQme f s).air = s.air := rfl
@[simp] theorem onQme_mls (f : Qme → Qme) (s : State) : (onQme f s).mls = s.mls := rfl
@[simp] theorem onQme_wire (f : Qme → Qme) (s : State) : (onQme f s).wire = s.wire := rfl
@[simp] theorem onQme_qme (f : Qme → Qme) (s : State) : (onQme f s).qme = f s.qme := rfl
@[simp] theorem onQme_clock (f : Qme → Qme) (s : State) : (onQme f s).clock = s.clock := rfl
@[simp] theorem onQme_sec (f : Qme → Qme) (s : State) : (onQme f s).sec = s.sec := rfl
@[simp] theorem onQme_fleet (f : Qme → Qme) (s : State) : (onQme f s).fleet = s.fleet := rfl
@[simp] theorem onQme_fwu (f : Qme → Qme) (s : State) : (onQme f s).fwu = s.fwu := rfl
@[simp] theorem onQme_mem (f : Qme → Qme) (s : State) : (onQme f s).mem = s.mem := rfl
@[simp] theorem onQme_tds (f : Qme → Qme) (s : State) : (onQme f s).tds = s.tds := rfl
@[simp] theorem onQme_dsp (f : Qme → Qme) (s : State) : (onQme f s).dsp = s.dsp := rfl
@[simp] theorem onQme_drz (f : Qme → Qme) (s : State) : (onQme f s).drz = s.drz := rfl
@[simp] theorem onQme_out (f : Qme → Qme) (s : State) : (onQme f s).out = s.out := rfl
@[simp] theorem onQme_pending (f : Qme → Qme) (s : State) : (onQme f s).pending = s.pending := rfl

@[simp] theorem onAir_mbox (f : Air → Air) (s : State) : (onAir f s).mbox = s.mbox := rfl
@[simp] theorem onAir_pcie (f : Air → Air) (s : State) : (onAir f s).pcie = s.pcie := rfl
@[simp] theorem onAir_rings (f : Air → Air) (s : State) : (onAir f s).rings = s.rings := rfl
@[simp] theorem onAir_dma (f : Air → Air) (s : State) : (onAir f s).dma = s.dma := rfl
@[simp] theorem onAir_power (f : Air → Air) (s : State) : (onAir f s).power = s.power := rfl
@[simp] theorem onAir_evr (f : Air → Air) (s : State) : (onAir f s).evr = s.evr := rfl
@[simp] theorem onAir_radio (f : Air → Air) (s : State) : (onAir f s).radio = s.radio := rfl
@[simp] theorem onAir_modem (f : Air → Air) (s : State) : (onAir f s).modem = s.modem := rfl
@[simp] theorem onAir_air (f : Air → Air) (s : State) : (onAir f s).air = f s.air := rfl
@[simp] theorem onAir_mls (f : Air → Air) (s : State) : (onAir f s).mls = s.mls := rfl
@[simp] theorem onAir_wire (f : Air → Air) (s : State) : (onAir f s).wire = s.wire := rfl
@[simp] theorem onAir_qme (f : Air → Air) (s : State) : (onAir f s).qme = s.qme := rfl
@[simp] theorem onAir_clock (f : Air → Air) (s : State) : (onAir f s).clock = s.clock := rfl
@[simp] theorem onAir_sec (f : Air → Air) (s : State) : (onAir f s).sec = s.sec := rfl
@[simp] theorem onAir_fleet (f : Air → Air) (s : State) : (onAir f s).fleet = s.fleet := rfl
@[simp] theorem onAir_fwu (f : Air → Air) (s : State) : (onAir f s).fwu = s.fwu := rfl
@[simp] theorem onAir_mem (f : Air → Air) (s : State) : (onAir f s).mem = s.mem := rfl
@[simp] theorem onAir_tds (f : Air → Air) (s : State) : (onAir f s).tds = s.tds := rfl
@[simp] theorem onAir_dsp (f : Air → Air) (s : State) : (onAir f s).dsp = s.dsp := rfl
@[simp] theorem onAir_drz (f : Air → Air) (s : State) : (onAir f s).drz = s.drz := rfl
@[simp] theorem onAir_out (f : Air → Air) (s : State) : (onAir f s).out = s.out := rfl
@[simp] theorem onAir_pending (f : Air → Air) (s : State) : (onAir f s).pending = s.pending := rfl

@[simp] theorem onMls_mbox (f : Milliner → Milliner) (s : State) : (onMls f s).mbox = s.mbox := rfl
@[simp] theorem onMls_pcie (f : Milliner → Milliner) (s : State) : (onMls f s).pcie = s.pcie := rfl
@[simp] theorem onMls_rings (f : Milliner → Milliner) (s : State) : (onMls f s).rings = s.rings := rfl
@[simp] theorem onMls_dma (f : Milliner → Milliner) (s : State) : (onMls f s).dma = s.dma := rfl
@[simp] theorem onMls_power (f : Milliner → Milliner) (s : State) : (onMls f s).power = s.power := rfl
@[simp] theorem onMls_evr (f : Milliner → Milliner) (s : State) : (onMls f s).evr = s.evr := rfl
@[simp] theorem onMls_radio (f : Milliner → Milliner) (s : State) : (onMls f s).radio = s.radio := rfl
@[simp] theorem onMls_modem (f : Milliner → Milliner) (s : State) : (onMls f s).modem = s.modem := rfl
@[simp] theorem onMls_air (f : Milliner → Milliner) (s : State) : (onMls f s).air = s.air := rfl
@[simp] theorem onMls_mls (f : Milliner → Milliner) (s : State) : (onMls f s).mls = f s.mls := rfl
@[simp] theorem onMls_wire (f : Milliner → Milliner) (s : State) : (onMls f s).wire = s.wire := rfl
@[simp] theorem onMls_qme (f : Milliner → Milliner) (s : State) : (onMls f s).qme = s.qme := rfl
@[simp] theorem onMls_clock (f : Milliner → Milliner) (s : State) : (onMls f s).clock = s.clock := rfl
@[simp] theorem onMls_sec (f : Milliner → Milliner) (s : State) : (onMls f s).sec = s.sec := rfl
@[simp] theorem onMls_fleet (f : Milliner → Milliner) (s : State) : (onMls f s).fleet = s.fleet := rfl
@[simp] theorem onMls_fwu (f : Milliner → Milliner) (s : State) : (onMls f s).fwu = s.fwu := rfl
@[simp] theorem onMls_mem (f : Milliner → Milliner) (s : State) : (onMls f s).mem = s.mem := rfl
@[simp] theorem onMls_tds (f : Milliner → Milliner) (s : State) : (onMls f s).tds = s.tds := rfl
@[simp] theorem onMls_dsp (f : Milliner → Milliner) (s : State) : (onMls f s).dsp = s.dsp := rfl
@[simp] theorem onMls_drz (f : Milliner → Milliner) (s : State) : (onMls f s).drz = s.drz := rfl
@[simp] theorem onMls_out (f : Milliner → Milliner) (s : State) : (onMls f s).out = s.out := rfl
@[simp] theorem onMls_pending (f : Milliner → Milliner) (s : State) : (onMls f s).pending = s.pending := rfl

@[simp] theorem onDrz_mbox (f : Drz → Drz) (s : State) : (onDrz f s).mbox = s.mbox := rfl
@[simp] theorem onDrz_pcie (f : Drz → Drz) (s : State) : (onDrz f s).pcie = s.pcie := rfl
@[simp] theorem onDrz_rings (f : Drz → Drz) (s : State) : (onDrz f s).rings = s.rings := rfl
@[simp] theorem onDrz_dma (f : Drz → Drz) (s : State) : (onDrz f s).dma = s.dma := rfl
@[simp] theorem onDrz_power (f : Drz → Drz) (s : State) : (onDrz f s).power = s.power := rfl
@[simp] theorem onDrz_evr (f : Drz → Drz) (s : State) : (onDrz f s).evr = s.evr := rfl
@[simp] theorem onDrz_radio (f : Drz → Drz) (s : State) : (onDrz f s).radio = s.radio := rfl
@[simp] theorem onDrz_modem (f : Drz → Drz) (s : State) : (onDrz f s).modem = s.modem := rfl
@[simp] theorem onDrz_air (f : Drz → Drz) (s : State) : (onDrz f s).air = s.air := rfl
@[simp] theorem onDrz_mls (f : Drz → Drz) (s : State) : (onDrz f s).mls = s.mls := rfl
@[simp] theorem onDrz_wire (f : Drz → Drz) (s : State) : (onDrz f s).wire = s.wire := rfl
@[simp] theorem onDrz_qme (f : Drz → Drz) (s : State) : (onDrz f s).qme = s.qme := rfl
@[simp] theorem onDrz_clock (f : Drz → Drz) (s : State) : (onDrz f s).clock = s.clock := rfl
@[simp] theorem onDrz_sec (f : Drz → Drz) (s : State) : (onDrz f s).sec = s.sec := rfl
@[simp] theorem onDrz_fleet (f : Drz → Drz) (s : State) : (onDrz f s).fleet = s.fleet := rfl
@[simp] theorem onDrz_fwu (f : Drz → Drz) (s : State) : (onDrz f s).fwu = s.fwu := rfl
@[simp] theorem onDrz_mem (f : Drz → Drz) (s : State) : (onDrz f s).mem = s.mem := rfl
@[simp] theorem onDrz_tds (f : Drz → Drz) (s : State) : (onDrz f s).tds = s.tds := rfl
@[simp] theorem onDrz_dsp (f : Drz → Drz) (s : State) : (onDrz f s).dsp = s.dsp := rfl
@[simp] theorem onDrz_drz (f : Drz → Drz) (s : State) : (onDrz f s).drz = f s.drz := rfl
@[simp] theorem onDrz_out (f : Drz → Drz) (s : State) : (onDrz f s).out = s.out := rfl
@[simp] theorem onDrz_pending (f : Drz → Drz) (s : State) : (onDrz f s).pending = s.pending := rfl

@[simp] theorem onModem_mbox (f : Modem → Modem) (s : State) : (onModem f s).mbox = s.mbox := rfl
@[simp] theorem onModem_pcie (f : Modem → Modem) (s : State) : (onModem f s).pcie = s.pcie := rfl
@[simp] theorem onModem_rings (f : Modem → Modem) (s : State) : (onModem f s).rings = s.rings := rfl
@[simp] theorem onModem_dma (f : Modem → Modem) (s : State) : (onModem f s).dma = s.dma := rfl
@[simp] theorem onModem_power (f : Modem → Modem) (s : State) : (onModem f s).power = s.power := rfl
@[simp] theorem onModem_evr (f : Modem → Modem) (s : State) : (onModem f s).evr = s.evr := rfl
@[simp] theorem onModem_radio (f : Modem → Modem) (s : State) : (onModem f s).radio = s.radio := rfl
@[simp] theorem onModem_modem (f : Modem → Modem) (s : State) : (onModem f s).modem = f s.modem := rfl
@[simp] theorem onModem_air (f : Modem → Modem) (s : State) : (onModem f s).air = s.air := rfl
@[simp] theorem onModem_mls (f : Modem → Modem) (s : State) : (onModem f s).mls = s.mls := rfl
@[simp] theorem onModem_wire (f : Modem → Modem) (s : State) : (onModem f s).wire = s.wire := rfl
@[simp] theorem onModem_qme (f : Modem → Modem) (s : State) : (onModem f s).qme = s.qme := rfl
@[simp] theorem onModem_clock (f : Modem → Modem) (s : State) : (onModem f s).clock = s.clock := rfl
@[simp] theorem onModem_sec (f : Modem → Modem) (s : State) : (onModem f s).sec = s.sec := rfl
@[simp] theorem onModem_fleet (f : Modem → Modem) (s : State) : (onModem f s).fleet = s.fleet := rfl
@[simp] theorem onModem_fwu (f : Modem → Modem) (s : State) : (onModem f s).fwu = s.fwu := rfl
@[simp] theorem onModem_mem (f : Modem → Modem) (s : State) : (onModem f s).mem = s.mem := rfl
@[simp] theorem onModem_tds (f : Modem → Modem) (s : State) : (onModem f s).tds = s.tds := rfl
@[simp] theorem onModem_dsp (f : Modem → Modem) (s : State) : (onModem f s).dsp = s.dsp := rfl
@[simp] theorem onModem_drz (f : Modem → Modem) (s : State) : (onModem f s).drz = s.drz := rfl
@[simp] theorem onModem_out (f : Modem → Modem) (s : State) : (onModem f s).out = s.out := rfl
@[simp] theorem onModem_pending (f : Modem → Modem) (s : State) : (onModem f s).pending = s.pending := rfl

@[simp] theorem onTds_mbox (f : Tds → Tds) (s : State) : (onTds f s).mbox = s.mbox := rfl
@[simp] theorem onTds_pcie (f : Tds → Tds) (s : State) : (onTds f s).pcie = s.pcie := rfl
@[simp] theorem onTds_rings (f : Tds → Tds) (s : State) : (onTds f s).rings = s.rings := rfl
@[simp] theorem onTds_dma (f : Tds → Tds) (s : State) : (onTds f s).dma = s.dma := rfl
@[simp] theorem onTds_power (f : Tds → Tds) (s : State) : (onTds f s).power = s.power := rfl
@[simp] theorem onTds_evr (f : Tds → Tds) (s : State) : (onTds f s).evr = s.evr := rfl
@[simp] theorem onTds_radio (f : Tds → Tds) (s : State) : (onTds f s).radio = s.radio := rfl
@[simp] theorem onTds_modem (f : Tds → Tds) (s : State) : (onTds f s).modem = s.modem := rfl
@[simp] theorem onTds_air (f : Tds → Tds) (s : State) : (onTds f s).air = s.air := rfl
@[simp] theorem onTds_mls (f : Tds → Tds) (s : State) : (onTds f s).mls = s.mls := rfl
@[simp] theorem onTds_wire (f : Tds → Tds) (s : State) : (onTds f s).wire = s.wire := rfl
@[simp] theorem onTds_qme (f : Tds → Tds) (s : State) : (onTds f s).qme = s.qme := rfl
@[simp] theorem onTds_clock (f : Tds → Tds) (s : State) : (onTds f s).clock = s.clock := rfl
@[simp] theorem onTds_sec (f : Tds → Tds) (s : State) : (onTds f s).sec = s.sec := rfl
@[simp] theorem onTds_fleet (f : Tds → Tds) (s : State) : (onTds f s).fleet = s.fleet := rfl
@[simp] theorem onTds_fwu (f : Tds → Tds) (s : State) : (onTds f s).fwu = s.fwu := rfl
@[simp] theorem onTds_mem (f : Tds → Tds) (s : State) : (onTds f s).mem = s.mem := rfl
@[simp] theorem onTds_tds (f : Tds → Tds) (s : State) : (onTds f s).tds = f s.tds := rfl
@[simp] theorem onTds_dsp (f : Tds → Tds) (s : State) : (onTds f s).dsp = s.dsp := rfl
@[simp] theorem onTds_drz (f : Tds → Tds) (s : State) : (onTds f s).drz = s.drz := rfl
@[simp] theorem onTds_out (f : Tds → Tds) (s : State) : (onTds f s).out = s.out := rfl
@[simp] theorem onTds_pending (f : Tds → Tds) (s : State) : (onTds f s).pending = s.pending := rfl

@[simp] theorem onDsp_mbox (f : Dsp → Dsp) (s : State) : (onDsp f s).mbox = s.mbox := rfl
@[simp] theorem onDsp_pcie (f : Dsp → Dsp) (s : State) : (onDsp f s).pcie = s.pcie := rfl
@[simp] theorem onDsp_rings (f : Dsp → Dsp) (s : State) : (onDsp f s).rings = s.rings := rfl
@[simp] theorem onDsp_dma (f : Dsp → Dsp) (s : State) : (onDsp f s).dma = s.dma := rfl
@[simp] theorem onDsp_power (f : Dsp → Dsp) (s : State) : (onDsp f s).power = s.power := rfl
@[simp] theorem onDsp_evr (f : Dsp → Dsp) (s : State) : (onDsp f s).evr = s.evr := rfl
@[simp] theorem onDsp_radio (f : Dsp → Dsp) (s : State) : (onDsp f s).radio = s.radio := rfl
@[simp] theorem onDsp_modem (f : Dsp → Dsp) (s : State) : (onDsp f s).modem = s.modem := rfl
@[simp] theorem onDsp_air (f : Dsp → Dsp) (s : State) : (onDsp f s).air = s.air := rfl
@[simp] theorem onDsp_mls (f : Dsp → Dsp) (s : State) : (onDsp f s).mls = s.mls := rfl
@[simp] theorem onDsp_wire (f : Dsp → Dsp) (s : State) : (onDsp f s).wire = s.wire := rfl
@[simp] theorem onDsp_qme (f : Dsp → Dsp) (s : State) : (onDsp f s).qme = s.qme := rfl
@[simp] theorem onDsp_clock (f : Dsp → Dsp) (s : State) : (onDsp f s).clock = s.clock := rfl
@[simp] theorem onDsp_sec (f : Dsp → Dsp) (s : State) : (onDsp f s).sec = s.sec := rfl
@[simp] theorem onDsp_fleet (f : Dsp → Dsp) (s : State) : (onDsp f s).fleet = s.fleet := rfl
@[simp] theorem onDsp_fwu (f : Dsp → Dsp) (s : State) : (onDsp f s).fwu = s.fwu := rfl
@[simp] theorem onDsp_mem (f : Dsp → Dsp) (s : State) : (onDsp f s).mem = s.mem := rfl
@[simp] theorem onDsp_tds (f : Dsp → Dsp) (s : State) : (onDsp f s).tds = s.tds := rfl
@[simp] theorem onDsp_dsp (f : Dsp → Dsp) (s : State) : (onDsp f s).dsp = f s.dsp := rfl
@[simp] theorem onDsp_drz (f : Dsp → Dsp) (s : State) : (onDsp f s).drz = s.drz := rfl
@[simp] theorem onDsp_out (f : Dsp → Dsp) (s : State) : (onDsp f s).out = s.out := rfl
@[simp] theorem onDsp_pending (f : Dsp → Dsp) (s : State) : (onDsp f s).pending = s.pending := rfl

@[simp] theorem onFleet_mbox (f : Fleet → Fleet) (s : State) : (onFleet f s).mbox = s.mbox := rfl
@[simp] theorem onFleet_pcie (f : Fleet → Fleet) (s : State) : (onFleet f s).pcie = s.pcie := rfl
@[simp] theorem onFleet_rings (f : Fleet → Fleet) (s : State) : (onFleet f s).rings = s.rings := rfl
@[simp] theorem onFleet_dma (f : Fleet → Fleet) (s : State) : (onFleet f s).dma = s.dma := rfl
@[simp] theorem onFleet_power (f : Fleet → Fleet) (s : State) : (onFleet f s).power = s.power := rfl
@[simp] theorem onFleet_evr (f : Fleet → Fleet) (s : State) : (onFleet f s).evr = s.evr := rfl
@[simp] theorem onFleet_radio (f : Fleet → Fleet) (s : State) : (onFleet f s).radio = s.radio := rfl
@[simp] theorem onFleet_modem (f : Fleet → Fleet) (s : State) : (onFleet f s).modem = s.modem := rfl
@[simp] theorem onFleet_air (f : Fleet → Fleet) (s : State) : (onFleet f s).air = s.air := rfl
@[simp] theorem onFleet_mls (f : Fleet → Fleet) (s : State) : (onFleet f s).mls = s.mls := rfl
@[simp] theorem onFleet_wire (f : Fleet → Fleet) (s : State) : (onFleet f s).wire = s.wire := rfl
@[simp] theorem onFleet_qme (f : Fleet → Fleet) (s : State) : (onFleet f s).qme = s.qme := rfl
@[simp] theorem onFleet_clock (f : Fleet → Fleet) (s : State) : (onFleet f s).clock = s.clock := rfl
@[simp] theorem onFleet_sec (f : Fleet → Fleet) (s : State) : (onFleet f s).sec = s.sec := rfl
@[simp] theorem onFleet_fleet (f : Fleet → Fleet) (s : State) : (onFleet f s).fleet = f s.fleet := rfl
@[simp] theorem onFleet_fwu (f : Fleet → Fleet) (s : State) : (onFleet f s).fwu = s.fwu := rfl
@[simp] theorem onFleet_mem (f : Fleet → Fleet) (s : State) : (onFleet f s).mem = s.mem := rfl
@[simp] theorem onFleet_tds (f : Fleet → Fleet) (s : State) : (onFleet f s).tds = s.tds := rfl
@[simp] theorem onFleet_dsp (f : Fleet → Fleet) (s : State) : (onFleet f s).dsp = s.dsp := rfl
@[simp] theorem onFleet_drz (f : Fleet → Fleet) (s : State) : (onFleet f s).drz = s.drz := rfl
@[simp] theorem onFleet_out (f : Fleet → Fleet) (s : State) : (onFleet f s).out = s.out := rfl
@[simp] theorem onFleet_pending (f : Fleet → Fleet) (s : State) : (onFleet f s).pending = s.pending := rfl

@[simp] theorem onFwu_mbox (f : Fwu → Fwu) (s : State) : (onFwu f s).mbox = s.mbox := rfl
@[simp] theorem onFwu_pcie (f : Fwu → Fwu) (s : State) : (onFwu f s).pcie = s.pcie := rfl
@[simp] theorem onFwu_rings (f : Fwu → Fwu) (s : State) : (onFwu f s).rings = s.rings := rfl
@[simp] theorem onFwu_dma (f : Fwu → Fwu) (s : State) : (onFwu f s).dma = s.dma := rfl
@[simp] theorem onFwu_power (f : Fwu → Fwu) (s : State) : (onFwu f s).power = s.power := rfl
@[simp] theorem onFwu_evr (f : Fwu → Fwu) (s : State) : (onFwu f s).evr = s.evr := rfl
@[simp] theorem onFwu_radio (f : Fwu → Fwu) (s : State) : (onFwu f s).radio = s.radio := rfl
@[simp] theorem onFwu_modem (f : Fwu → Fwu) (s : State) : (onFwu f s).modem = s.modem := rfl
@[simp] theorem onFwu_air (f : Fwu → Fwu) (s : State) : (onFwu f s).air = s.air := rfl
@[simp] theorem onFwu_mls (f : Fwu → Fwu) (s : State) : (onFwu f s).mls = s.mls := rfl
@[simp] theorem onFwu_wire (f : Fwu → Fwu) (s : State) : (onFwu f s).wire = s.wire := rfl
@[simp] theorem onFwu_qme (f : Fwu → Fwu) (s : State) : (onFwu f s).qme = s.qme := rfl
@[simp] theorem onFwu_clock (f : Fwu → Fwu) (s : State) : (onFwu f s).clock = s.clock := rfl
@[simp] theorem onFwu_sec (f : Fwu → Fwu) (s : State) : (onFwu f s).sec = s.sec := rfl
@[simp] theorem onFwu_fleet (f : Fwu → Fwu) (s : State) : (onFwu f s).fleet = s.fleet := rfl
@[simp] theorem onFwu_fwu (f : Fwu → Fwu) (s : State) : (onFwu f s).fwu = f s.fwu := rfl
@[simp] theorem onFwu_mem (f : Fwu → Fwu) (s : State) : (onFwu f s).mem = s.mem := rfl
@[simp] theorem onFwu_tds (f : Fwu → Fwu) (s : State) : (onFwu f s).tds = s.tds := rfl
@[simp] theorem onFwu_dsp (f : Fwu → Fwu) (s : State) : (onFwu f s).dsp = s.dsp := rfl
@[simp] theorem onFwu_drz (f : Fwu → Fwu) (s : State) : (onFwu f s).drz = s.drz := rfl
@[simp] theorem onFwu_out (f : Fwu → Fwu) (s : State) : (onFwu f s).out = s.out := rfl
@[simp] theorem onFwu_pending (f : Fwu → Fwu) (s : State) : (onFwu f s).pending = s.pending := rfl

@[simp] theorem onRadio_mbox (f : Radio → Radio) (s : State) : (onRadio f s).mbox = s.mbox := rfl
@[simp] theorem onRadio_pcie (f : Radio → Radio) (s : State) : (onRadio f s).pcie = s.pcie := rfl
@[simp] theorem onRadio_rings (f : Radio → Radio) (s : State) : (onRadio f s).rings = s.rings := rfl
@[simp] theorem onRadio_dma (f : Radio → Radio) (s : State) : (onRadio f s).dma = s.dma := rfl
@[simp] theorem onRadio_power (f : Radio → Radio) (s : State) : (onRadio f s).power = s.power := rfl
@[simp] theorem onRadio_evr (f : Radio → Radio) (s : State) : (onRadio f s).evr = s.evr := rfl
@[simp] theorem onRadio_radio (f : Radio → Radio) (s : State) : (onRadio f s).radio = f s.radio := rfl
@[simp] theorem onRadio_modem (f : Radio → Radio) (s : State) : (onRadio f s).modem = s.modem := rfl
@[simp] theorem onRadio_air (f : Radio → Radio) (s : State) : (onRadio f s).air = s.air := rfl
@[simp] theorem onRadio_mls (f : Radio → Radio) (s : State) : (onRadio f s).mls = s.mls := rfl
@[simp] theorem onRadio_wire (f : Radio → Radio) (s : State) : (onRadio f s).wire = s.wire := rfl
@[simp] theorem onRadio_qme (f : Radio → Radio) (s : State) : (onRadio f s).qme = s.qme := rfl
@[simp] theorem onRadio_clock (f : Radio → Radio) (s : State) : (onRadio f s).clock = s.clock := rfl
@[simp] theorem onRadio_sec (f : Radio → Radio) (s : State) : (onRadio f s).sec = s.sec := rfl
@[simp] theorem onRadio_fleet (f : Radio → Radio) (s : State) : (onRadio f s).fleet = s.fleet := rfl
@[simp] theorem onRadio_fwu (f : Radio → Radio) (s : State) : (onRadio f s).fwu = s.fwu := rfl
@[simp] theorem onRadio_mem (f : Radio → Radio) (s : State) : (onRadio f s).mem = s.mem := rfl
@[simp] theorem onRadio_tds (f : Radio → Radio) (s : State) : (onRadio f s).tds = s.tds := rfl
@[simp] theorem onRadio_dsp (f : Radio → Radio) (s : State) : (onRadio f s).dsp = s.dsp := rfl
@[simp] theorem onRadio_drz (f : Radio → Radio) (s : State) : (onRadio f s).drz = s.drz := rfl
@[simp] theorem onRadio_out (f : Radio → Radio) (s : State) : (onRadio f s).out = s.out := rfl
@[simp] theorem onRadio_pending (f : Radio → Radio) (s : State) : (onRadio f s).pending = s.pending := rfl

@[simp] theorem onQueue_mbox (n : Nat) (f : QueueInfo → QueueInfo) (s : State) : (onQueue n f s).mbox = s.mbox := rfl
@[simp] theorem onQueue_pcie (n : Nat) (f : QueueInfo → QueueInfo) (s : State) : (onQueue n f s).pcie = s.pcie := rfl
@[simp] theorem onQueue_rings (n : Nat) (f : QueueInfo → QueueInfo) (s : State) : (onQueue n f s).rings = s.rings := rfl
@[simp] theorem onQueue_dma (n : Nat) (f : QueueInfo → QueueInfo) (s : State) : (onQueue n f s).dma = s.dma := rfl
@[simp] theorem onQueue_power (n : Nat) (f : QueueInfo → QueueInfo) (s : State) : (onQueue n f s).power = s.power := rfl
@[simp] theorem onQueue_evr (n : Nat) (f : QueueInfo → QueueInfo) (s : State) : (onQueue n f s).evr = s.evr := rfl
@[simp] theorem onQueue_radio (n : Nat) (f : QueueInfo → QueueInfo) (s : State) : (onQueue n f s).radio = s.radio := rfl
@[simp] theorem onQueue_modem (n : Nat) (f : QueueInfo → QueueInfo) (s : State) : (onQueue n f s).modem = s.modem := rfl
@[simp] theorem onQueue_air (n : Nat) (f : QueueInfo → QueueInfo) (s : State) : (onQueue n f s).air = s.air := rfl
@[simp] theorem onQueue_mls (n : Nat) (f : QueueInfo → QueueInfo) (s : State) : (onQueue n f s).mls = s.mls := rfl
@[simp] theorem onQueue_wire (n : Nat) (f : QueueInfo → QueueInfo) (s : State) : (onQueue n f s).wire = s.wire := rfl
@[simp] theorem onQueue_clock (n : Nat) (f : QueueInfo → QueueInfo) (s : State) : (onQueue n f s).clock = s.clock := rfl
@[simp] theorem onQueue_sec (n : Nat) (f : QueueInfo → QueueInfo) (s : State) : (onQueue n f s).sec = s.sec := rfl
@[simp] theorem onQueue_fleet (n : Nat) (f : QueueInfo → QueueInfo) (s : State) : (onQueue n f s).fleet = s.fleet := rfl
@[simp] theorem onQueue_fwu (n : Nat) (f : QueueInfo → QueueInfo) (s : State) : (onQueue n f s).fwu = s.fwu := rfl
@[simp] theorem onQueue_mem (n : Nat) (f : QueueInfo → QueueInfo) (s : State) : (onQueue n f s).mem = s.mem := rfl
@[simp] theorem onQueue_tds (n : Nat) (f : QueueInfo → QueueInfo) (s : State) : (onQueue n f s).tds = s.tds := rfl
@[simp] theorem onQueue_dsp (n : Nat) (f : QueueInfo → QueueInfo) (s : State) : (onQueue n f s).dsp = s.dsp := rfl
@[simp] theorem onQueue_drz (n : Nat) (f : QueueInfo → QueueInfo) (s : State) : (onQueue n f s).drz = s.drz := rfl
@[simp] theorem onQueue_out (n : Nat) (f : QueueInfo → QueueInfo) (s : State) : (onQueue n f s).out = s.out := rfl
@[simp] theorem onQueue_pending (n : Nat) (f : QueueInfo → QueueInfo) (s : State) : (onQueue n f s).pending = s.pending := rfl

@[simp] theorem onPort_mbox (n : Nat) (f : Port → Port) (s : State) : (onPort n f s).mbox = s.mbox := rfl
@[simp] theorem onPort_pcie (n : Nat) (f : Port → Port) (s : State) : (onPort n f s).pcie = s.pcie := rfl
@[simp] theorem onPort_rings (n : Nat) (f : Port → Port) (s : State) : (onPort n f s).rings = s.rings := rfl
@[simp] theorem onPort_dma (n : Nat) (f : Port → Port) (s : State) : (onPort n f s).dma = s.dma := rfl
@[simp] theorem onPort_power (n : Nat) (f : Port → Port) (s : State) : (onPort n f s).power = s.power := rfl
@[simp] theorem onPort_evr (n : Nat) (f : Port → Port) (s : State) : (onPort n f s).evr = s.evr := rfl
@[simp] theorem onPort_radio (n : Nat) (f : Port → Port) (s : State) : (onPort n f s).radio = s.radio := rfl
@[simp] theorem onPort_modem (n : Nat) (f : Port → Port) (s : State) : (onPort n f s).modem = s.modem := rfl
@[simp] theorem onPort_air (n : Nat) (f : Port → Port) (s : State) : (onPort n f s).air = s.air := rfl
@[simp] theorem onPort_mls (n : Nat) (f : Port → Port) (s : State) : (onPort n f s).mls = s.mls := rfl
@[simp] theorem onPort_qme (n : Nat) (f : Port → Port) (s : State) : (onPort n f s).qme = s.qme := rfl
@[simp] theorem onPort_clock (n : Nat) (f : Port → Port) (s : State) : (onPort n f s).clock = s.clock := rfl
@[simp] theorem onPort_sec (n : Nat) (f : Port → Port) (s : State) : (onPort n f s).sec = s.sec := rfl
@[simp] theorem onPort_fleet (n : Nat) (f : Port → Port) (s : State) : (onPort n f s).fleet = s.fleet := rfl
@[simp] theorem onPort_fwu (n : Nat) (f : Port → Port) (s : State) : (onPort n f s).fwu = s.fwu := rfl
@[simp] theorem onPort_mem (n : Nat) (f : Port → Port) (s : State) : (onPort n f s).mem = s.mem := rfl
@[simp] theorem onPort_tds (n : Nat) (f : Port → Port) (s : State) : (onPort n f s).tds = s.tds := rfl
@[simp] theorem onPort_dsp (n : Nat) (f : Port → Port) (s : State) : (onPort n f s).dsp = s.dsp := rfl
@[simp] theorem onPort_drz (n : Nat) (f : Port → Port) (s : State) : (onPort n f s).drz = s.drz := rfl
@[simp] theorem onPort_out (n : Nat) (f : Port → Port) (s : State) : (onPort n f s).out = s.out := rfl
@[simp] theorem onPort_pending (n : Nat) (f : Port → Port) (s : State) : (onPort n f s).pending = s.pending := rfl

@[simp] theorem onGates_mbox (n : Nat) (f : Gates → Gates) (s : State) : (onGates n f s).mbox = s.mbox := rfl
@[simp] theorem onGates_pcie (n : Nat) (f : Gates → Gates) (s : State) : (onGates n f s).pcie = s.pcie := rfl
@[simp] theorem onGates_rings (n : Nat) (f : Gates → Gates) (s : State) : (onGates n f s).rings = s.rings := rfl
@[simp] theorem onGates_dma (n : Nat) (f : Gates → Gates) (s : State) : (onGates n f s).dma = s.dma := rfl
@[simp] theorem onGates_power (n : Nat) (f : Gates → Gates) (s : State) : (onGates n f s).power = s.power := rfl
@[simp] theorem onGates_evr (n : Nat) (f : Gates → Gates) (s : State) : (onGates n f s).evr = s.evr := rfl
@[simp] theorem onGates_radio (n : Nat) (f : Gates → Gates) (s : State) : (onGates n f s).radio = s.radio := rfl
@[simp] theorem onGates_modem (n : Nat) (f : Gates → Gates) (s : State) : (onGates n f s).modem = s.modem := rfl
@[simp] theorem onGates_air (n : Nat) (f : Gates → Gates) (s : State) : (onGates n f s).air = s.air := rfl
@[simp] theorem onGates_mls (n : Nat) (f : Gates → Gates) (s : State) : (onGates n f s).mls = s.mls := rfl
@[simp] theorem onGates_wire (n : Nat) (f : Gates → Gates) (s : State) : (onGates n f s).wire = s.wire := rfl
@[simp] theorem onGates_clock (n : Nat) (f : Gates → Gates) (s : State) : (onGates n f s).clock = s.clock := rfl
@[simp] theorem onGates_sec (n : Nat) (f : Gates → Gates) (s : State) : (onGates n f s).sec = s.sec := rfl
@[simp] theorem onGates_fleet (n : Nat) (f : Gates → Gates) (s : State) : (onGates n f s).fleet = s.fleet := rfl
@[simp] theorem onGates_fwu (n : Nat) (f : Gates → Gates) (s : State) : (onGates n f s).fwu = s.fwu := rfl
@[simp] theorem onGates_mem (n : Nat) (f : Gates → Gates) (s : State) : (onGates n f s).mem = s.mem := rfl
@[simp] theorem onGates_tds (n : Nat) (f : Gates → Gates) (s : State) : (onGates n f s).tds = s.tds := rfl
@[simp] theorem onGates_dsp (n : Nat) (f : Gates → Gates) (s : State) : (onGates n f s).dsp = s.dsp := rfl
@[simp] theorem onGates_drz (n : Nat) (f : Gates → Gates) (s : State) : (onGates n f s).drz = s.drz := rfl
@[simp] theorem onGates_out (n : Nat) (f : Gates → Gates) (s : State) : (onGates n f s).out = s.out := rfl
@[simp] theorem onGates_pending (n : Nat) (f : Gates → Gates) (s : State) : (onGates n f s).pending = s.pending := rfl

@[simp] theorem onRing_mbox (n : Nat) (f : Ring → Ring) (s : State) : (onRing n f s).mbox = s.mbox := rfl
@[simp] theorem onRing_pcie (n : Nat) (f : Ring → Ring) (s : State) : (onRing n f s).pcie = s.pcie := rfl
@[simp] theorem onRing_dma (n : Nat) (f : Ring → Ring) (s : State) : (onRing n f s).dma = s.dma := rfl
@[simp] theorem onRing_power (n : Nat) (f : Ring → Ring) (s : State) : (onRing n f s).power = s.power := rfl
@[simp] theorem onRing_evr (n : Nat) (f : Ring → Ring) (s : State) : (onRing n f s).evr = s.evr := rfl
@[simp] theorem onRing_radio (n : Nat) (f : Ring → Ring) (s : State) : (onRing n f s).radio = s.radio := rfl
@[simp] theorem onRing_modem (n : Nat) (f : Ring → Ring) (s : State) : (onRing n f s).modem = s.modem := rfl
@[simp] theorem onRing_air (n : Nat) (f : Ring → Ring) (s : State) : (onRing n f s).air = s.air := rfl
@[simp] theorem onRing_mls (n : Nat) (f : Ring → Ring) (s : State) : (onRing n f s).mls = s.mls := rfl
@[simp] theorem onRing_wire (n : Nat) (f : Ring → Ring) (s : State) : (onRing n f s).wire = s.wire := rfl
@[simp] theorem onRing_qme (n : Nat) (f : Ring → Ring) (s : State) : (onRing n f s).qme = s.qme := rfl
@[simp] theorem onRing_clock (n : Nat) (f : Ring → Ring) (s : State) : (onRing n f s).clock = s.clock := rfl
@[simp] theorem onRing_sec (n : Nat) (f : Ring → Ring) (s : State) : (onRing n f s).sec = s.sec := rfl
@[simp] theorem onRing_fleet (n : Nat) (f : Ring → Ring) (s : State) : (onRing n f s).fleet = s.fleet := rfl
@[simp] theorem onRing_fwu (n : Nat) (f : Ring → Ring) (s : State) : (onRing n f s).fwu = s.fwu := rfl
@[simp] theorem onRing_mem (n : Nat) (f : Ring → Ring) (s : State) : (onRing n f s).mem = s.mem := rfl
@[simp] theorem onRing_tds (n : Nat) (f : Ring → Ring) (s : State) : (onRing n f s).tds = s.tds := rfl
@[simp] theorem onRing_dsp (n : Nat) (f : Ring → Ring) (s : State) : (onRing n f s).dsp = s.dsp := rfl
@[simp] theorem onRing_drz (n : Nat) (f : Ring → Ring) (s : State) : (onRing n f s).drz = s.drz := rfl
@[simp] theorem onRing_out (n : Nat) (f : Ring → Ring) (s : State) : (onRing n f s).out = s.out := rfl
@[simp] theorem onRing_pending (n : Nat) (f : Ring → Ring) (s : State) : (onRing n f s).pending = s.pending := rfl

@[simp] theorem onStation_mbox (n : Nat) (f : Station → Station) (s : State) : (onStation n f s).mbox = s.mbox := rfl
@[simp] theorem onStation_pcie (n : Nat) (f : Station → Station) (s : State) : (onStation n f s).pcie = s.pcie := rfl
@[simp] theorem onStation_rings (n : Nat) (f : Station → Station) (s : State) : (onStation n f s).rings = s.rings := rfl
@[simp] theorem onStation_dma (n : Nat) (f : Station → Station) (s : State) : (onStation n f s).dma = s.dma := rfl
@[simp] theorem onStation_power (n : Nat) (f : Station → Station) (s : State) : (onStation n f s).power = s.power := rfl
@[simp] theorem onStation_evr (n : Nat) (f : Station → Station) (s : State) : (onStation n f s).evr = s.evr := rfl
@[simp] theorem onStation_radio (n : Nat) (f : Station → Station) (s : State) : (onStation n f s).radio = s.radio := rfl
@[simp] theorem onStation_modem (n : Nat) (f : Station → Station) (s : State) : (onStation n f s).modem = s.modem := rfl
@[simp] theorem onStation_mls (n : Nat) (f : Station → Station) (s : State) : (onStation n f s).mls = s.mls := rfl
@[simp] theorem onStation_wire (n : Nat) (f : Station → Station) (s : State) : (onStation n f s).wire = s.wire := rfl
@[simp] theorem onStation_qme (n : Nat) (f : Station → Station) (s : State) : (onStation n f s).qme = s.qme := rfl
@[simp] theorem onStation_clock (n : Nat) (f : Station → Station) (s : State) : (onStation n f s).clock = s.clock := rfl
@[simp] theorem onStation_sec (n : Nat) (f : Station → Station) (s : State) : (onStation n f s).sec = s.sec := rfl
@[simp] theorem onStation_fleet (n : Nat) (f : Station → Station) (s : State) : (onStation n f s).fleet = s.fleet := rfl
@[simp] theorem onStation_fwu (n : Nat) (f : Station → Station) (s : State) : (onStation n f s).fwu = s.fwu := rfl
@[simp] theorem onStation_mem (n : Nat) (f : Station → Station) (s : State) : (onStation n f s).mem = s.mem := rfl
@[simp] theorem onStation_tds (n : Nat) (f : Station → Station) (s : State) : (onStation n f s).tds = s.tds := rfl
@[simp] theorem onStation_dsp (n : Nat) (f : Station → Station) (s : State) : (onStation n f s).dsp = s.dsp := rfl
@[simp] theorem onStation_drz (n : Nat) (f : Station → Station) (s : State) : (onStation n f s).drz = s.drz := rfl
@[simp] theorem onStation_out (n : Nat) (f : Station → Station) (s : State) : (onStation n f s).out = s.out := rfl
@[simp] theorem onStation_pending (n : Nat) (f : Station → Station) (s : State) : (onStation n f s).pending = s.pending := rfl

@[simp] theorem onBss_mbox (n : Nat) (f : Bss → Bss) (s : State) : (onBss n f s).mbox = s.mbox := rfl
@[simp] theorem onBss_pcie (n : Nat) (f : Bss → Bss) (s : State) : (onBss n f s).pcie = s.pcie := rfl
@[simp] theorem onBss_rings (n : Nat) (f : Bss → Bss) (s : State) : (onBss n f s).rings = s.rings := rfl
@[simp] theorem onBss_dma (n : Nat) (f : Bss → Bss) (s : State) : (onBss n f s).dma = s.dma := rfl
@[simp] theorem onBss_power (n : Nat) (f : Bss → Bss) (s : State) : (onBss n f s).power = s.power := rfl
@[simp] theorem onBss_evr (n : Nat) (f : Bss → Bss) (s : State) : (onBss n f s).evr = s.evr := rfl
@[simp] theorem onBss_radio (n : Nat) (f : Bss → Bss) (s : State) : (onBss n f s).radio = s.radio := rfl
@[simp] theorem onBss_modem (n : Nat) (f : Bss → Bss) (s : State) : (onBss n f s).modem = s.modem := rfl
@[simp] theorem onBss_mls (n : Nat) (f : Bss → Bss) (s : State) : (onBss n f s).mls = s.mls := rfl
@[simp] theorem onBss_wire (n : Nat) (f : Bss → Bss) (s : State) : (onBss n f s).wire = s.wire := rfl
@[simp] theorem onBss_qme (n : Nat) (f : Bss → Bss) (s : State) : (onBss n f s).qme = s.qme := rfl
@[simp] theorem onBss_clock (n : Nat) (f : Bss → Bss) (s : State) : (onBss n f s).clock = s.clock := rfl
@[simp] theorem onBss_sec (n : Nat) (f : Bss → Bss) (s : State) : (onBss n f s).sec = s.sec := rfl
@[simp] theorem onBss_fleet (n : Nat) (f : Bss → Bss) (s : State) : (onBss n f s).fleet = s.fleet := rfl
@[simp] theorem onBss_fwu (n : Nat) (f : Bss → Bss) (s : State) : (onBss n f s).fwu = s.fwu := rfl
@[simp] theorem onBss_mem (n : Nat) (f : Bss → Bss) (s : State) : (onBss n f s).mem = s.mem := rfl
@[simp] theorem onBss_tds (n : Nat) (f : Bss → Bss) (s : State) : (onBss n f s).tds = s.tds := rfl
@[simp] theorem onBss_dsp (n : Nat) (f : Bss → Bss) (s : State) : (onBss n f s).dsp = s.dsp := rfl
@[simp] theorem onBss_drz (n : Nat) (f : Bss → Bss) (s : State) : (onBss n f s).drz = s.drz := rfl
@[simp] theorem onBss_out (n : Nat) (f : Bss → Bss) (s : State) : (onBss n f s).out = s.out := rfl
@[simp] theorem onBss_pending (n : Nat) (f : Bss → Bss) (s : State) : (onBss n f s).pending = s.pending := rfl

@[simp] theorem onSlice_mbox (n : Nat) (f : Slice → Slice) (s : State) : (onSlice n f s).mbox = s.mbox := rfl
@[simp] theorem onSlice_pcie (n : Nat) (f : Slice → Slice) (s : State) : (onSlice n f s).pcie = s.pcie := rfl
@[simp] theorem onSlice_rings (n : Nat) (f : Slice → Slice) (s : State) : (onSlice n f s).rings = s.rings := rfl
@[simp] theorem onSlice_dma (n : Nat) (f : Slice → Slice) (s : State) : (onSlice n f s).dma = s.dma := rfl
@[simp] theorem onSlice_power (n : Nat) (f : Slice → Slice) (s : State) : (onSlice n f s).power = s.power := rfl
@[simp] theorem onSlice_evr (n : Nat) (f : Slice → Slice) (s : State) : (onSlice n f s).evr = s.evr := rfl
@[simp] theorem onSlice_modem (n : Nat) (f : Slice → Slice) (s : State) : (onSlice n f s).modem = s.modem := rfl
@[simp] theorem onSlice_air (n : Nat) (f : Slice → Slice) (s : State) : (onSlice n f s).air = s.air := rfl
@[simp] theorem onSlice_mls (n : Nat) (f : Slice → Slice) (s : State) : (onSlice n f s).mls = s.mls := rfl
@[simp] theorem onSlice_wire (n : Nat) (f : Slice → Slice) (s : State) : (onSlice n f s).wire = s.wire := rfl
@[simp] theorem onSlice_qme (n : Nat) (f : Slice → Slice) (s : State) : (onSlice n f s).qme = s.qme := rfl
@[simp] theorem onSlice_clock (n : Nat) (f : Slice → Slice) (s : State) : (onSlice n f s).clock = s.clock := rfl
@[simp] theorem onSlice_sec (n : Nat) (f : Slice → Slice) (s : State) : (onSlice n f s).sec = s.sec := rfl
@[simp] theorem onSlice_fleet (n : Nat) (f : Slice → Slice) (s : State) : (onSlice n f s).fleet = s.fleet := rfl
@[simp] theorem onSlice_fwu (n : Nat) (f : Slice → Slice) (s : State) : (onSlice n f s).fwu = s.fwu := rfl
@[simp] theorem onSlice_mem (n : Nat) (f : Slice → Slice) (s : State) : (onSlice n f s).mem = s.mem := rfl
@[simp] theorem onSlice_tds (n : Nat) (f : Slice → Slice) (s : State) : (onSlice n f s).tds = s.tds := rfl
@[simp] theorem onSlice_dsp (n : Nat) (f : Slice → Slice) (s : State) : (onSlice n f s).dsp = s.dsp := rfl
@[simp] theorem onSlice_drz (n : Nat) (f : Slice → Slice) (s : State) : (onSlice n f s).drz = s.drz := rfl
@[simp] theorem onSlice_out (n : Nat) (f : Slice → Slice) (s : State) : (onSlice n f s).out = s.out := rfl
@[simp] theorem onSlice_pending (n : Nat) (f : Slice → Slice) (s : State) : (onSlice n f s).pending = s.pending := rfl

@[simp] theorem onMac_mbox (n : Nat) (f : SliceMac → SliceMac) (s : State) : (onMac n f s).mbox = s.mbox := rfl
@[simp] theorem onMac_pcie (n : Nat) (f : SliceMac → SliceMac) (s : State) : (onMac n f s).pcie = s.pcie := rfl
@[simp] theorem onMac_rings (n : Nat) (f : SliceMac → SliceMac) (s : State) : (onMac n f s).rings = s.rings := rfl
@[simp] theorem onMac_dma (n : Nat) (f : SliceMac → SliceMac) (s : State) : (onMac n f s).dma = s.dma := rfl
@[simp] theorem onMac_power (n : Nat) (f : SliceMac → SliceMac) (s : State) : (onMac n f s).power = s.power := rfl
@[simp] theorem onMac_evr (n : Nat) (f : SliceMac → SliceMac) (s : State) : (onMac n f s).evr = s.evr := rfl
@[simp] theorem onMac_radio (n : Nat) (f : SliceMac → SliceMac) (s : State) : (onMac n f s).radio = s.radio := rfl
@[simp] theorem onMac_modem (n : Nat) (f : SliceMac → SliceMac) (s : State) : (onMac n f s).modem = s.modem := rfl
@[simp] theorem onMac_mls (n : Nat) (f : SliceMac → SliceMac) (s : State) : (onMac n f s).mls = s.mls := rfl
@[simp] theorem onMac_wire (n : Nat) (f : SliceMac → SliceMac) (s : State) : (onMac n f s).wire = s.wire := rfl
@[simp] theorem onMac_qme (n : Nat) (f : SliceMac → SliceMac) (s : State) : (onMac n f s).qme = s.qme := rfl
@[simp] theorem onMac_clock (n : Nat) (f : SliceMac → SliceMac) (s : State) : (onMac n f s).clock = s.clock := rfl
@[simp] theorem onMac_sec (n : Nat) (f : SliceMac → SliceMac) (s : State) : (onMac n f s).sec = s.sec := rfl
@[simp] theorem onMac_fleet (n : Nat) (f : SliceMac → SliceMac) (s : State) : (onMac n f s).fleet = s.fleet := rfl
@[simp] theorem onMac_fwu (n : Nat) (f : SliceMac → SliceMac) (s : State) : (onMac n f s).fwu = s.fwu := rfl
@[simp] theorem onMac_mem (n : Nat) (f : SliceMac → SliceMac) (s : State) : (onMac n f s).mem = s.mem := rfl
@[simp] theorem onMac_tds (n : Nat) (f : SliceMac → SliceMac) (s : State) : (onMac n f s).tds = s.tds := rfl
@[simp] theorem onMac_dsp (n : Nat) (f : SliceMac → SliceMac) (s : State) : (onMac n f s).dsp = s.dsp := rfl
@[simp] theorem onMac_drz (n : Nat) (f : SliceMac → SliceMac) (s : State) : (onMac n f s).drz = s.drz := rfl
@[simp] theorem onMac_out (n : Nat) (f : SliceMac → SliceMac) (s : State) : (onMac n f s).out = s.out := rfl
@[simp] theorem onMac_pending (n : Nat) (f : SliceMac → SliceMac) (s : State) : (onMac n f s).pending = s.pending := rfl

@[simp] theorem onClass_mbox (n : Nat) (f : ClassStats → ClassStats) (s : State) : (onClass n f s).mbox = s.mbox := rfl
@[simp] theorem onClass_pcie (n : Nat) (f : ClassStats → ClassStats) (s : State) : (onClass n f s).pcie = s.pcie := rfl
@[simp] theorem onClass_rings (n : Nat) (f : ClassStats → ClassStats) (s : State) : (onClass n f s).rings = s.rings := rfl
@[simp] theorem onClass_dma (n : Nat) (f : ClassStats → ClassStats) (s : State) : (onClass n f s).dma = s.dma := rfl
@[simp] theorem onClass_power (n : Nat) (f : ClassStats → ClassStats) (s : State) : (onClass n f s).power = s.power := rfl
@[simp] theorem onClass_evr (n : Nat) (f : ClassStats → ClassStats) (s : State) : (onClass n f s).evr = s.evr := rfl
@[simp] theorem onClass_radio (n : Nat) (f : ClassStats → ClassStats) (s : State) : (onClass n f s).radio = s.radio := rfl
@[simp] theorem onClass_modem (n : Nat) (f : ClassStats → ClassStats) (s : State) : (onClass n f s).modem = s.modem := rfl
@[simp] theorem onClass_air (n : Nat) (f : ClassStats → ClassStats) (s : State) : (onClass n f s).air = s.air := rfl
@[simp] theorem onClass_mls (n : Nat) (f : ClassStats → ClassStats) (s : State) : (onClass n f s).mls = s.mls := rfl
@[simp] theorem onClass_wire (n : Nat) (f : ClassStats → ClassStats) (s : State) : (onClass n f s).wire = s.wire := rfl
@[simp] theorem onClass_qme (n : Nat) (f : ClassStats → ClassStats) (s : State) : (onClass n f s).qme = s.qme := rfl
@[simp] theorem onClass_clock (n : Nat) (f : ClassStats → ClassStats) (s : State) : (onClass n f s).clock = s.clock := rfl
@[simp] theorem onClass_sec (n : Nat) (f : ClassStats → ClassStats) (s : State) : (onClass n f s).sec = s.sec := rfl
@[simp] theorem onClass_fleet (n : Nat) (f : ClassStats → ClassStats) (s : State) : (onClass n f s).fleet = s.fleet := rfl
@[simp] theorem onClass_fwu (n : Nat) (f : ClassStats → ClassStats) (s : State) : (onClass n f s).fwu = s.fwu := rfl
@[simp] theorem onClass_mem (n : Nat) (f : ClassStats → ClassStats) (s : State) : (onClass n f s).mem = s.mem := rfl
@[simp] theorem onClass_dsp (n : Nat) (f : ClassStats → ClassStats) (s : State) : (onClass n f s).dsp = s.dsp := rfl
@[simp] theorem onClass_drz (n : Nat) (f : ClassStats → ClassStats) (s : State) : (onClass n f s).drz = s.drz := rfl
@[simp] theorem onClass_out (n : Nat) (f : ClassStats → ClassStats) (s : State) : (onClass n f s).out = s.out := rfl
@[simp] theorem onClass_pending (n : Nat) (f : ClassStats → ClassStats) (s : State) : (onClass n f s).pending = s.pending := rfl

@[simp] theorem onCvu_mbox (n : Nat) (f : Cvu → Cvu) (s : State) : (onCvu n f s).mbox = s.mbox := rfl
@[simp] theorem onCvu_pcie (n : Nat) (f : Cvu → Cvu) (s : State) : (onCvu n f s).pcie = s.pcie := rfl
@[simp] theorem onCvu_rings (n : Nat) (f : Cvu → Cvu) (s : State) : (onCvu n f s).rings = s.rings := rfl
@[simp] theorem onCvu_dma (n : Nat) (f : Cvu → Cvu) (s : State) : (onCvu n f s).dma = s.dma := rfl
@[simp] theorem onCvu_power (n : Nat) (f : Cvu → Cvu) (s : State) : (onCvu n f s).power = s.power := rfl
@[simp] theorem onCvu_evr (n : Nat) (f : Cvu → Cvu) (s : State) : (onCvu n f s).evr = s.evr := rfl
@[simp] theorem onCvu_radio (n : Nat) (f : Cvu → Cvu) (s : State) : (onCvu n f s).radio = s.radio := rfl
@[simp] theorem onCvu_modem (n : Nat) (f : Cvu → Cvu) (s : State) : (onCvu n f s).modem = s.modem := rfl
@[simp] theorem onCvu_air (n : Nat) (f : Cvu → Cvu) (s : State) : (onCvu n f s).air = s.air := rfl
@[simp] theorem onCvu_mls (n : Nat) (f : Cvu → Cvu) (s : State) : (onCvu n f s).mls = s.mls := rfl
@[simp] theorem onCvu_wire (n : Nat) (f : Cvu → Cvu) (s : State) : (onCvu n f s).wire = s.wire := rfl
@[simp] theorem onCvu_qme (n : Nat) (f : Cvu → Cvu) (s : State) : (onCvu n f s).qme = s.qme := rfl
@[simp] theorem onCvu_clock (n : Nat) (f : Cvu → Cvu) (s : State) : (onCvu n f s).clock = s.clock := rfl
@[simp] theorem onCvu_sec (n : Nat) (f : Cvu → Cvu) (s : State) : (onCvu n f s).sec = s.sec := rfl
@[simp] theorem onCvu_fleet (n : Nat) (f : Cvu → Cvu) (s : State) : (onCvu n f s).fleet = s.fleet := rfl
@[simp] theorem onCvu_fwu (n : Nat) (f : Cvu → Cvu) (s : State) : (onCvu n f s).fwu = s.fwu := rfl
@[simp] theorem onCvu_tds (n : Nat) (f : Cvu → Cvu) (s : State) : (onCvu n f s).tds = s.tds := rfl
@[simp] theorem onCvu_dsp (n : Nat) (f : Cvu → Cvu) (s : State) : (onCvu n f s).dsp = s.dsp := rfl
@[simp] theorem onCvu_drz (n : Nat) (f : Cvu → Cvu) (s : State) : (onCvu n f s).drz = s.drz := rfl
@[simp] theorem onCvu_out (n : Nat) (f : Cvu → Cvu) (s : State) : (onCvu n f s).out = s.out := rfl
@[simp] theorem onCvu_pending (n : Nat) (f : Cvu → Cvu) (s : State) : (onCvu n f s).pending = s.pending := rfl

@[simp] theorem onLda_mbox (f : LdpcArray → LdpcArray) (s : State) : (onLda f s).mbox = s.mbox := rfl
@[simp] theorem onLda_pcie (f : LdpcArray → LdpcArray) (s : State) : (onLda f s).pcie = s.pcie := rfl
@[simp] theorem onLda_rings (f : LdpcArray → LdpcArray) (s : State) : (onLda f s).rings = s.rings := rfl
@[simp] theorem onLda_dma (f : LdpcArray → LdpcArray) (s : State) : (onLda f s).dma = s.dma := rfl
@[simp] theorem onLda_power (f : LdpcArray → LdpcArray) (s : State) : (onLda f s).power = s.power := rfl
@[simp] theorem onLda_evr (f : LdpcArray → LdpcArray) (s : State) : (onLda f s).evr = s.evr := rfl
@[simp] theorem onLda_radio (f : LdpcArray → LdpcArray) (s : State) : (onLda f s).radio = s.radio := rfl
@[simp] theorem onLda_air (f : LdpcArray → LdpcArray) (s : State) : (onLda f s).air = s.air := rfl
@[simp] theorem onLda_mls (f : LdpcArray → LdpcArray) (s : State) : (onLda f s).mls = s.mls := rfl
@[simp] theorem onLda_wire (f : LdpcArray → LdpcArray) (s : State) : (onLda f s).wire = s.wire := rfl
@[simp] theorem onLda_qme (f : LdpcArray → LdpcArray) (s : State) : (onLda f s).qme = s.qme := rfl
@[simp] theorem onLda_clock (f : LdpcArray → LdpcArray) (s : State) : (onLda f s).clock = s.clock := rfl
@[simp] theorem onLda_sec (f : LdpcArray → LdpcArray) (s : State) : (onLda f s).sec = s.sec := rfl
@[simp] theorem onLda_fleet (f : LdpcArray → LdpcArray) (s : State) : (onLda f s).fleet = s.fleet := rfl
@[simp] theorem onLda_fwu (f : LdpcArray → LdpcArray) (s : State) : (onLda f s).fwu = s.fwu := rfl
@[simp] theorem onLda_mem (f : LdpcArray → LdpcArray) (s : State) : (onLda f s).mem = s.mem := rfl
@[simp] theorem onLda_tds (f : LdpcArray → LdpcArray) (s : State) : (onLda f s).tds = s.tds := rfl
@[simp] theorem onLda_dsp (f : LdpcArray → LdpcArray) (s : State) : (onLda f s).dsp = s.dsp := rfl
@[simp] theorem onLda_drz (f : LdpcArray → LdpcArray) (s : State) : (onLda f s).drz = s.drz := rfl
@[simp] theorem onLda_out (f : LdpcArray → LdpcArray) (s : State) : (onLda f s).out = s.out := rfl
@[simp] theorem onLda_pending (f : LdpcArray → LdpcArray) (s : State) : (onLda f s).pending = s.pending := rfl

@[simp] theorem onCrownStats_mbox (f : CrownStats → CrownStats) (s : State) : (onCrownStats f s).mbox = s.mbox := rfl
@[simp] theorem onCrownStats_pcie (f : CrownStats → CrownStats) (s : State) : (onCrownStats f s).pcie = s.pcie := rfl
@[simp] theorem onCrownStats_rings (f : CrownStats → CrownStats) (s : State) : (onCrownStats f s).rings = s.rings := rfl
@[simp] theorem onCrownStats_dma (f : CrownStats → CrownStats) (s : State) : (onCrownStats f s).dma = s.dma := rfl
@[simp] theorem onCrownStats_power (f : CrownStats → CrownStats) (s : State) : (onCrownStats f s).power = s.power := rfl
@[simp] theorem onCrownStats_evr (f : CrownStats → CrownStats) (s : State) : (onCrownStats f s).evr = s.evr := rfl
@[simp] theorem onCrownStats_radio (f : CrownStats → CrownStats) (s : State) : (onCrownStats f s).radio = s.radio := rfl
@[simp] theorem onCrownStats_modem (f : CrownStats → CrownStats) (s : State) : (onCrownStats f s).modem = s.modem := rfl
@[simp] theorem onCrownStats_air (f : CrownStats → CrownStats) (s : State) : (onCrownStats f s).air = s.air := rfl
@[simp] theorem onCrownStats_wire (f : CrownStats → CrownStats) (s : State) : (onCrownStats f s).wire = s.wire := rfl
@[simp] theorem onCrownStats_qme (f : CrownStats → CrownStats) (s : State) : (onCrownStats f s).qme = s.qme := rfl
@[simp] theorem onCrownStats_clock (f : CrownStats → CrownStats) (s : State) : (onCrownStats f s).clock = s.clock := rfl
@[simp] theorem onCrownStats_sec (f : CrownStats → CrownStats) (s : State) : (onCrownStats f s).sec = s.sec := rfl
@[simp] theorem onCrownStats_fleet (f : CrownStats → CrownStats) (s : State) : (onCrownStats f s).fleet = s.fleet := rfl
@[simp] theorem onCrownStats_fwu (f : CrownStats → CrownStats) (s : State) : (onCrownStats f s).fwu = s.fwu := rfl
@[simp] theorem onCrownStats_mem (f : CrownStats → CrownStats) (s : State) : (onCrownStats f s).mem = s.mem := rfl
@[simp] theorem onCrownStats_tds (f : CrownStats → CrownStats) (s : State) : (onCrownStats f s).tds = s.tds := rfl
@[simp] theorem onCrownStats_dsp (f : CrownStats → CrownStats) (s : State) : (onCrownStats f s).dsp = s.dsp := rfl
@[simp] theorem onCrownStats_drz (f : CrownStats → CrownStats) (s : State) : (onCrownStats f s).drz = s.drz := rfl
@[simp] theorem onCrownStats_out (f : CrownStats → CrownStats) (s : State) : (onCrownStats f s).out = s.out := rfl
@[simp] theorem onCrownStats_pending (f : CrownStats → CrownStats) (s : State) : (onCrownStats f s).pending = s.pending := rfl

@[simp] theorem emit_mbox (o : Out) (s : State) : (emit o s).mbox = s.mbox := rfl
@[simp] theorem emit_pcie (o : Out) (s : State) : (emit o s).pcie = s.pcie := rfl
@[simp] theorem emit_rings (o : Out) (s : State) : (emit o s).rings = s.rings := rfl
@[simp] theorem emit_dma (o : Out) (s : State) : (emit o s).dma = s.dma := rfl
@[simp] theorem emit_power (o : Out) (s : State) : (emit o s).power = s.power := rfl
@[simp] theorem emit_evr (o : Out) (s : State) : (emit o s).evr = s.evr := rfl
@[simp] theorem emit_radio (o : Out) (s : State) : (emit o s).radio = s.radio := rfl
@[simp] theorem emit_modem (o : Out) (s : State) : (emit o s).modem = s.modem := rfl
@[simp] theorem emit_air (o : Out) (s : State) : (emit o s).air = s.air := rfl
@[simp] theorem emit_mls (o : Out) (s : State) : (emit o s).mls = s.mls := rfl
@[simp] theorem emit_wire (o : Out) (s : State) : (emit o s).wire = s.wire := rfl
@[simp] theorem emit_qme (o : Out) (s : State) : (emit o s).qme = s.qme := rfl
@[simp] theorem emit_clock (o : Out) (s : State) : (emit o s).clock = s.clock := rfl
@[simp] theorem emit_sec (o : Out) (s : State) : (emit o s).sec = s.sec := rfl
@[simp] theorem emit_fleet (o : Out) (s : State) : (emit o s).fleet = s.fleet := rfl
@[simp] theorem emit_fwu (o : Out) (s : State) : (emit o s).fwu = s.fwu := rfl
@[simp] theorem emit_mem (o : Out) (s : State) : (emit o s).mem = s.mem := rfl
@[simp] theorem emit_tds (o : Out) (s : State) : (emit o s).tds = s.tds := rfl
@[simp] theorem emit_dsp (o : Out) (s : State) : (emit o s).dsp = s.dsp := rfl
@[simp] theorem emit_drz (o : Out) (s : State) : (emit o s).drz = s.drz := rfl
@[simp] theorem emit_out (o : Out) (s : State) : (emit o s).out = s.out ++ [o] := rfl
@[simp] theorem emit_pending (o : Out) (s : State) : (emit o s).pending = s.pending := rfl

@[simp] theorem start_mbox (s : State) : (start s).mbox = s.mbox := rfl
@[simp] theorem start_pcie (s : State) : (start s).pcie = s.pcie := rfl
@[simp] theorem start_rings (s : State) : (start s).rings = s.rings := rfl
@[simp] theorem start_dma (s : State) : (start s).dma = s.dma := rfl
@[simp] theorem start_power (s : State) : (start s).power = s.power := rfl
@[simp] theorem start_evr (s : State) : (start s).evr = s.evr := rfl
@[simp] theorem start_radio (s : State) : (start s).radio = s.radio := rfl
@[simp] theorem start_modem (s : State) : (start s).modem = s.modem := rfl
@[simp] theorem start_air (s : State) : (start s).air = s.air := rfl
@[simp] theorem start_mls (s : State) : (start s).mls = s.mls := rfl
@[simp] theorem start_wire (s : State) : (start s).wire = s.wire := rfl
@[simp] theorem start_qme (s : State) : (start s).qme = s.qme := rfl
@[simp] theorem start_clock (s : State) : (start s).clock = s.clock := rfl
@[simp] theorem start_sec (s : State) : (start s).sec = s.sec := rfl
@[simp] theorem start_fleet (s : State) : (start s).fleet = s.fleet := rfl
@[simp] theorem start_fwu (s : State) : (start s).fwu = s.fwu := rfl
@[simp] theorem start_mem (s : State) : (start s).mem = s.mem := rfl
@[simp] theorem start_tds (s : State) : (start s).tds = s.tds := rfl
@[simp] theorem start_dsp (s : State) : (start s).dsp = s.dsp := rfl
@[simp] theorem start_drz (s : State) : (start s).drz = s.drz := rfl
@[simp] theorem start_out (s : State) : (start s).out = [] := rfl
@[simp] theorem start_pending (s : State) : (start s).pending = s.pending := rfl

end Sys2Proof.Machine
end

