-- ==== Sys2Proof/Laws/Link.lean ====
section
/-! SUPPORT. What the shared operations on the link can do: an interrupt, a doorbell, an event, a record, the end of an async
command and a response change the mailbox, the endpoint, the recorder and the outputs, and nothing else. -/
namespace Sys2Proof.Machine

theorem LinkOnly.refl (s : State) : LinkOnly s s := rfl

theorem LinkOnly.trans {a b c : State} (h : LinkOnly a b) (k : LinkOnly b c) : LinkOnly a c := by
  unfold LinkOnly at *; rw [k, h]

theorem LinkOnly.onMbox (f : Mbox → Mbox) (s : State) : LinkOnly s (Machine.onMbox f s) := rfl

theorem LinkOnly.onEvr (f : Recorder → Recorder) (s : State) : LinkOnly s (Machine.onEvr f s) := rfl

theorem LinkOnly.emit (o : Out) (s : State) : LinkOnly s (Machine.emit o s) := rfl

theorem LinkOnly.start (s : State) : LinkOnly s (Machine.start s) := rfl

theorem LinkOnly.foldl {α : Type} (g : State → α → State) (h : ∀ t x, LinkOnly t (g t x)) (l : List α) (s : State) :
    LinkOnly s (l.foldl g s) := by
  induction l generalizing s with
  | nil => rfl
  | cons x l ih => exact (h s x).trans (ih _)

theorem msix_link (v : Nat) (s : State) : LinkOnly s (msix v s) := by
  unfold msix; split
  · rfl
  · split
    · exact .emit _ _
    · rfl

theorem setDoorbell_link (b : Nat) (s : State) : LinkOnly s (setDoorbell b s) := by
  unfold setDoorbell; dsimp only; split
  · exact (LinkOnly.onMbox _ _).trans (msix_link _ _)
  · exact .onMbox _ _

theorem setFault_link (c : Nat) (p : Bytes) (s : State) : LinkOnly s (setFault c p s) :=
  (LinkOnly.onMbox _ _).trans (setDoorbell_link _ _)

theorem enqueueOcc_link (o : Occurrence) (s : State) : LinkOnly s (enqueueOcc o s) := by
  unfold enqueueOcc; split <;> exact .onEvr _ _

theorem record_link (c : Nat) (p : Bytes) (a b e : Bool) (x : List (Nat × Bytes)) (s : State) :
    LinkOnly s (record c p a b e x s) := enqueueOcc_link _ _

theorem writeEvent_link (e : Event) (s : State) : LinkOnly s (writeEvent e s) :=
  (LinkOnly.onMbox _ _).trans (setDoorbell_link _ _)

theorem reportLostPcie_link (s : State) : LinkOnly s (reportLostPcie s) := by
  unfold reportLostPcie; split
  · rfl
  · exact ((LinkOnly.onMbox _ _).trans (writeEvent_link _ _)).trans (record_link _ _ _ _ _ _ _)

theorem flushPcie_link (l : List Event) (s : State) : LinkOnly s (flushPcie l s) := by
  induction l generalizing s with
  | nil => exact .onMbox _ _
  | cons e r ih =>
    unfold flushPcie; split
    · exact .onMbox _ _
    · exact (writeEvent_link _ _).trans (ih _)

theorem toPcie_link (e : Event) (s : State) : LinkOnly s (toPcie e s) := by
  have h := (reportLostPcie_link s).trans (flushPcie_link (reportLostPcie s).mbox.pcieQueue (reportLostPcie s))
  unfold toPcie; split
  · rfl
  · dsimp only; split
    · exact h.trans (writeEvent_link _ _)
    · split <;> exact h.trans (.onMbox _ _)

theorem flushSink_link (mac : Nat) (s : State) : LinkOnly s (flushSink mac s) := by
  unfold flushSink; split
  · rfl
  · refine LinkOnly.trans (LinkOnly.trans ?_ (LinkOnly.foldl _ (fun _ _ => .emit _ _) _ _)) (.onMbox _ _)
    split
    · rfl
    · exact ((LinkOnly.onMbox _ _).trans (.emit _ _)).trans (record_link _ _ _ _ _ _ _)

theorem toSink_link (e : Event) (s : State) : LinkOnly s (toSink e s) := by
  unfold toSink; split
  · rfl
  · split
    · rfl
    · split
      · exact (flushSink_link _ _).trans (.emit _ _)
      · split <;> exact .onMbox _ _

theorem deliver_link (e : Event) (s : State) : LinkOnly s (deliver e s) := (toPcie_link _ _).trans (toSink_link _ _)

theorem raiseWith_link (c : Nat) (p : Bytes) (a b : Bool) (x : List (Nat × Bytes)) (s : State) :
    LinkOnly s (raiseWith c p a b x s) := (deliver_link _ _).trans (record_link _ _ _ _ _ _ _)

theorem raise_link (c : Nat) (p : Bytes) (s : State) : LinkOnly s (raise c p s) := raiseWith_link _ _ _ _ _ _

theorem raiseLimited_link (c o : Nat) (p : Bytes) (s : State) : LinkOnly s (raiseLimited c o p s) := by
  unfold raiseLimited; split
  · rfl
  · exact (LinkOnly.onMbox _ _).trans (raise_link _ _ _)

theorem transientFault_link (c : Nat) (p : Bytes) (s : State) : LinkOnly s (transientFault c p s) :=
  (LinkOnly.onMbox _ _).trans (record_link _ _ _ _ _ _ _)

theorem lastingRecord_link (c : Nat) (p : Bytes) (f : Bool) (s : State) : LinkOnly s (lastingRecord c p f s) := by
  have h : LinkOnly s (record c p false true false [] (onMbox (fun m => { m with lasting := inc 32 m.lasting }) s)) :=
    (LinkOnly.onMbox _ _).trans (record_link _ _ _ _ _ _ _)
  unfold lastingRecord; dsimp only; split
  · exact h.trans (setFault_link _ _ _)
  · exact h

theorem lastingFault_link (c : Nat) (p : Bytes) (f : Bool) (s : State) : LinkOnly s (lastingFault c p f s) := by
  have h : LinkOnly s (raiseWith c p false true [] (onMbox (fun m => { m with lasting := inc 32 m.lasting }) s)) :=
    (LinkOnly.onMbox _ _).trans (raiseWith_link _ _ _ _ _ _)
  unfold lastingFault; dsimp only; split
  · exact h.trans (setFault_link _ _ _)
  · exact h

theorem retryRecord_link (r : Retry) (c : Nat) (p : Bytes) (f : Bool) (s : State) : LinkOnly s (retryRecord r c p f s) := by
  cases r
  · rfl
  · exact transientFault_link _ _ _
  · exact lastingRecord_link _ _ _ _

theorem endAsync_link (a : AsyncCmd) (st : Nat) (p : Bytes) (s : State) : LinkOnly s (endAsync a st p s) :=
  ((LinkOnly.onMbox _ _).trans (deliver_link _ _)).trans (record_link _ _ _ _ _ _ _)

theorem endAllAsync_link (c : List Nat) (st : Nat) (s : State) : LinkOnly s (endAllAsync c st s) :=
  LinkOnly.foldl _ (fun _ _ => endAsync_link _ _ _ _) _ _

theorem setAsync_link (a b : AsyncCmd) (s : State) : LinkOnly s (setAsync a b s) := rfl
theorem dropAsync_link (a : AsyncCmd) (s : State) : LinkOnly s (dropAsync a s) := rfl
theorem passPoint_link (c : Nat) (f : AsyncCmd → Bool) (s : State) : LinkOnly s (passPoint c f s) := rfl
theorem accept_link (u : Ump) (c : Nat) (l : List Obj) (s : State) : LinkOnly s (accept u c l s) := rfl
theorem joinQueue_link (m : Msg) (s : State) : LinkOnly s (joinQueue m s) := by unfold joinQueue; split <;> rfl
theorem writeSlot_link (n : Nat) (m : Msg) (s : State) : LinkOnly s (writeSlot n m s) := rfl

theorem post_link (v : Via) (c t st : Nat) (d : Bytes) (s : State) : LinkOnly s (post v c t st d s) := by
  unfold post; cases v
  · exact ((LinkOnly.onMbox _ _).trans (LinkOnly.onMbox _ _)).trans (setDoorbell_link _ _)
  · exact ((LinkOnly.onMbox _ _).trans (LinkOnly.onMbox _ _)).trans (LinkOnly.emit _ _)
  · exact (LinkOnly.onMbox _ _).trans (LinkOnly.emit _ _)

theorem drain_link (l : List Msg) (s : State) : LinkOnly s (drain l s) := by
  induction l generalizing s with
  | nil => exact .onMbox _ _
  | cons h r ih =>
    unfold drain; split
    · exact (post_link _ _ _ _ _ _).trans (ih _)
    · exact .onMbox _ _

theorem commandFault_link (r : Retry) (n k c : Nat) (p : Bytes) (f : Bool) (s : State) :
    LinkOnly s (commandFault r n k c p f s) := by
  cases r
  · rfl
  · exact (LinkOnly.onMbox _ _).trans (record_link _ _ _ _ _ _ _)
  · have h : LinkOnly s (record c p false true false [cmdEntry n k ST.faultLasting]
        (onMbox (fun m => { m with lasting := inc 32 m.lasting }) s)) :=
      (LinkOnly.onMbox _ _).trans (record_link _ _ _ _ _ _ _)
    unfold commandFault; dsimp only; split
    · exact h.trans (setFault_link _ _ _)
    · exact h

theorem noteDma_link (c : Nat) (u : Ump) (s : State) : LinkOnly s (noteDma c u s) := by
  unfold noteDma; split
  · exact commandFault_link _ _ _ _ _ _ _
  · rfl

theorem arrived_link (c : Nat) (u : Ump) (s : State) : LinkOnly s (arrived c u s) := by
  unfold arrived; dsimp only
  refine LinkOnly.trans (LinkOnly.trans ?_ (LinkOnly.onMbox _ _)) (noteDma_link _ _ _)
  split
  · exact (LinkOnly.start _).trans (writeSlot_link _ _ _)
  · exact .start _

end Sys2Proof.Machine
end

