-- ==== Sys2Proof/Laws/Rows.lean ====
section
/-! SUPPORT. Every row that carries a UMP command serves it with its code: one lemma for each row, and one for all. -/
namespace Sys2Proof.Machine

/-- The row is a UMP command with a code, served by some handler. -/
def ServedRow (i : Instr) (code : Nat) (u : Ump) : Prop :=
  ∃ (h : Ump → State → Reply) (after : State → State), ∀ s, exec i s = .next (serveThen code h after u s)

theorem sysGetInfo_served (m : Ump) : ServedRow (.sysGetInfo m) 0x0001 m := ⟨_, _, fun _ => rfl⟩
theorem sysReset_served (m : Ump) : ServedRow (.sysReset m) 0x0002 m := ⟨_, _, fun _ => rfl⟩
theorem sysGetStatus_served (m : Ump) : ServedRow (.sysGetStatus m) 0x0003 m := ⟨_, _, fun _ => rfl⟩
theorem sysSetEventSink_served (m : Ump) : ServedRow (.sysSetEventSink m) 0x0004 m := ⟨_, _, fun _ => rfl⟩
theorem sysAbort_served (m : Ump) : ServedRow (.sysAbort m) 0x0005 m := ⟨_, _, fun _ => rfl⟩
theorem pwrSetState_served (m : Ump) : ServedRow (.pwrSetState m) 0x0101 m := ⟨_, _, fun _ => rfl⟩
theorem pwrGetState_served (m : Ump) : ServedRow (.pwrGetState m) 0x0102 m := ⟨_, _, fun _ => rfl⟩
theorem pwrSetWakeSources_served (m : Ump) : ServedRow (.pwrSetWakeSources m) 0x0103 m := ⟨_, _, fun _ => rfl⟩
theorem pwrSetPasr_served (m : Ump) : ServedRow (.pwrSetPasr m) 0x0104 m := ⟨_, _, fun _ => rfl⟩
theorem radSetChannel_served (m : Ump) : ServedRow (.radSetChannel m) 0x0201 m := ⟨_, _, fun _ => rfl⟩
theorem radGetStatus_served (m : Ump) : ServedRow (.radGetStatus m) 0x0202 m := ⟨_, _, fun _ => rfl⟩
theorem radCalibrate_served (m : Ump) : ServedRow (.radCalibrate m) 0x0203 m := ⟨_, _, fun _ => rfl⟩
theorem radSetTxLimits_served (m : Ump) : ServedRow (.radSetTxLimits m) 0x0204 m := ⟨_, _, fun _ => rfl⟩
theorem radSetStr_served (m : Ump) : ServedRow (.radSetStr m) 0x0205 m := ⟨_, _, fun _ => rfl⟩
theorem radTunerCtl_served (m : Ump) : ServedRow (.radTunerCtl m) 0x0206 m := ⟨_, _, fun _ => rfl⟩
theorem radLoadRegdomain_served (m : Ump) : ServedRow (.radLoadRegdomain m) 0x0207 m := ⟨_, _, fun _ => rfl⟩
theorem radSelfTest_served (m : Ump) : ServedRow (.radSelfTest m) 0x0208 m := ⟨_, _, fun _ => rfl⟩
theorem radClearTxLock_served (m : Ump) : ServedRow (.radClearTxLock m) 0x0209 m := ⟨_, _, fun _ => rfl⟩
theorem radLockLlt_served (m : Ump) : ServedRow (.radLockLlt m) 0x020A m := ⟨_, _, fun _ => rfl⟩
theorem radCaptureIq_served (m : Ump) : ServedRow (.radCaptureIq m) 0x020B m := ⟨_, _, fun _ => rfl⟩
theorem bssCreate_served (m : Ump) : ServedRow (.bssCreate m) 0x0301 m := ⟨_, _, fun _ => rfl⟩
theorem bssDelete_served (m : Ump) : ServedRow (.bssDelete m) 0x0302 m := ⟨_, _, fun _ => rfl⟩
theorem bssSetParams_served (m : Ump) : ServedRow (.bssSetParams m) 0x0303 m := ⟨_, _, fun _ => rfl⟩
theorem staGet_served (m : Ump) : ServedRow (.staGet m) 0x0304 m := ⟨_, _, fun _ => rfl⟩
theorem staDisconnect_served (m : Ump) : ServedRow (.staDisconnect m) 0x0305 m := ⟨_, _, fun _ => rfl⟩
theorem staFlushQueue_served (m : Ump) : ServedRow (.staFlushQueue m) 0x0306 m := ⟨_, _, fun _ => rfl⟩
theorem mloSetLinkPolicy_served (m : Ump) : ServedRow (.mloSetLinkPolicy m) 0x0307 m := ⟨_, _, fun _ => rfl⟩
theorem cumulusSet_served (m : Ump) : ServedRow (.cumulusSet m) 0x0308 m := ⟨_, _, fun _ => rfl⟩
theorem staList_served (m : Ump) : ServedRow (.staList m) 0x0309 m := ⟨_, _, fun _ => rfl⟩
theorem schSetWindow_served (m : Ump) : ServedRow (.schSetWindow m) 0x0401 m := ⟨_, _, fun _ => rfl⟩
theorem schSetPolicy_served (m : Ump) : ServedRow (.schSetPolicy m) 0x0402 m := ⟨_, _, fun _ => rfl⟩
theorem crnSetReserve_served (m : Ump) : ServedRow (.crnSetReserve m) 0x0403 m := ⟨_, _, fun _ => rfl⟩
theorem crnPin_served (m : Ump) : ServedRow (.crnPin m) 0x0404 m := ⟨_, _, fun _ => rfl⟩
theorem crnGetStats_served (m : Ump) : ServedRow (.crnGetStats m) 0x0405 m := ⟨_, _, fun _ => rfl⟩
theorem twtSet_served (m : Ump) : ServedRow (.twtSet m) 0x0406 m := ⟨_, _, fun _ => rfl⟩
theorem schSetTurbo_served (m : Ump) : ServedRow (.schSetTurbo m) 0x0407 m := ⟨_, _, fun _ => rfl⟩
theorem secGetIdentity_served (m : Ump) : ServedRow (.secGetIdentity m) 0x0501 m := ⟨_, _, fun _ => rfl⟩
theorem secLoadSealed_served (m : Ump) : ServedRow (.secLoadSealed m) 0x0502 m := ⟨_, _, fun _ => rfl⟩
theorem secSetRadius_served (m : Ump) : ServedRow (.secSetRadius m) 0x0503 m := ⟨_, _, fun _ => rfl⟩
theorem secKeyImport_served (m : Ump) : ServedRow (.secKeyImport m) 0x0504 m := ⟨_, _, fun _ => rfl⟩
theorem secKeyErase_served (m : Ump) : ServedRow (.secKeyErase m) 0x0505 m := ⟨_, _, fun _ => rfl⟩
theorem secCipherJob_served (m : Ump) : ServedRow (.secCipherJob m) 0x0506 m := ⟨_, _, fun _ => rfl⟩
theorem secAuthChallenge_served (m : Ump) : ServedRow (.secAuthChallenge m) 0x0507 m := ⟨_, _, fun _ => rfl⟩
theorem secDebugUnlock_served (m : Ump) : ServedRow (.secDebugUnlock m) 0x0508 m := ⟨_, _, fun _ => rfl⟩
theorem fwdSetPort_served (m : Ump) : ServedRow (.fwdSetPort m) 0x0601 m := ⟨_, _, fun _ => rfl⟩
theorem fwdRouteSet_served (m : Ump) : ServedRow (.fwdRouteSet m) 0x0602 m := ⟨_, _, fun _ => rfl⟩
theorem fwdAclSet_served (m : Ump) : ServedRow (.fwdAclSet m) 0x0603 m := ⟨_, _, fun _ => rfl⟩
theorem fwdNatSet_served (m : Ump) : ServedRow (.fwdNatSet m) 0x0604 m := ⟨_, _, fun _ => rfl⟩
theorem fwdFlowQuery_served (m : Ump) : ServedRow (.fwdFlowQuery m) 0x0605 m := ⟨_, _, fun _ => rfl⟩
theorem ethGetCounters_served (m : Ump) : ServedRow (.ethGetCounters m) 0x0606 m := ⟨_, _, fun _ => rfl⟩
theorem ethSetWol_served (m : Ump) : ServedRow (.ethSetWol m) 0x0607 m := ⟨_, _, fun _ => rfl⟩
theorem ethSetMacsec_served (m : Ump) : ServedRow (.ethSetMacsec m) 0x0608 m := ⟨_, _, fun _ => rfl⟩
theorem fwdVlanSet_served (m : Ump) : ServedRow (.fwdVlanSet m) 0x0609 m := ⟨_, _, fun _ => rfl⟩
theorem queSetShaper_served (m : Ump) : ServedRow (.queSetShaper m) 0x0701 m := ⟨_, _, fun _ => rfl⟩
theorem queSetPolicer_served (m : Ump) : ServedRow (.queSetPolicer m) 0x0702 m := ⟨_, _, fun _ => rfl⟩
theorem queSetGcl_served (m : Ump) : ServedRow (.queSetGcl m) 0x0703 m := ⟨_, _, fun _ => rfl⟩
theorem queSetSampler_served (m : Ump) : ServedRow (.queSetSampler m) 0x0704 m := ⟨_, _, fun _ => rfl⟩
theorem queReadSamples_served (m : Ump) : ServedRow (.queReadSamples m) 0x0705 m := ⟨_, _, fun _ => rfl⟩
theorem queMap_served (m : Ump) : ServedRow (.queMap m) 0x0706 m := ⟨_, _, fun _ => rfl⟩
theorem timGet_served (m : Ump) : ServedRow (.timGet m) 0x0801 m := ⟨_, _, fun _ => rfl⟩
theorem timAdjust_served (m : Ump) : ServedRow (.timAdjust m) 0x0802 m := ⟨_, _, fun _ => rfl⟩
theorem timSetPtp_served (m : Ump) : ServedRow (.timSetPtp m) 0x0803 m := ⟨_, _, fun _ => rfl⟩
theorem timSetJumpLimit_served (m : Ump) : ServedRow (.timSetJumpLimit m) 0x0804 m := ⟨_, _, fun _ => rfl⟩
theorem memGetInfo_served (m : Ump) : ServedRow (.memGetInfo m) 0x0901 m := ⟨_, _, fun _ => rfl⟩
theorem cfgCommit_served (m : Ump) : ServedRow (.cfgCommit m) 0x0902 m := ⟨_, _, fun _ => rfl⟩
theorem cfgRead_served (m : Ump) : ServedRow (.cfgRead m) 0x0903 m := ⟨_, _, fun _ => rfl⟩
theorem cvuRun_served (m : Ump) : ServedRow (.cvuRun m) 0x0904 m := ⟨_, _, fun _ => rfl⟩
theorem evrGetInfo_served (m : Ump) : ServedRow (.evrGetInfo m) 0x0A01 m := ⟨_, _, fun _ => rfl⟩
theorem evrSetPolicy_served (m : Ump) : ServedRow (.evrSetPolicy m) 0x0A02 m := ⟨_, _, fun _ => rfl⟩
theorem evrClear_served (m : Ump) : ServedRow (.evrClear m) 0x0A03 m := ⟨_, _, fun _ => rfl⟩
theorem diagRun_served (m : Ump) : ServedRow (.diagRun m) 0x0A04 m := ⟨_, _, fun _ => rfl⟩
theorem evrRead_served (m : Ump) : ServedRow (.evrRead m) 0x0A05 m := ⟨_, _, fun _ => rfl⟩
theorem dspLoadKernel_served (m : Ump) : ServedRow (.dspLoadKernel m) 0x0B01 m := ⟨_, _, fun _ => rfl⟩
theorem dspRun_served (m : Ump) : ServedRow (.dspRun m) 0x0B02 m := ⟨_, _, fun _ => rfl⟩
theorem tdsSetHostRing_served (m : Ump) : ServedRow (.tdsSetHostRing m) 0x0B03 m := ⟨_, _, fun _ => rfl⟩
theorem tdsGetStats_served (m : Ump) : ServedRow (.tdsGetStats m) 0x0B04 m := ⟨_, _, fun _ => rfl⟩
theorem drzSetChannel_served (m : Ump) : ServedRow (.drzSetChannel m) 0x0C01 m := ⟨_, _, fun _ => rfl⟩
theorem drzSetCsl_served (m : Ump) : ServedRow (.drzSetCsl m) 0x0C02 m := ⟨_, _, fun _ => rfl⟩
theorem drzSetMesh_served (m : Ump) : ServedRow (.drzSetMesh m) 0x0C03 m := ⟨_, _, fun _ => rfl⟩
theorem drzSend_served (m : Ump) : ServedRow (.drzSend m) 0x0C04 m := ⟨_, _, fun _ => rfl⟩
theorem drzNodeSet_served (m : Ump) : ServedRow (.drzNodeSet m) 0x0C05 m := ⟨_, _, fun _ => rfl⟩
theorem fltGetInfo_served (m : Ump) : ServedRow (.fltGetInfo m) 0x0D01 m := ⟨_, _, fun _ => rfl⟩
theorem fltSetFloor_served (m : Ump) : ServedRow (.fltSetFloor m) 0x0D02 m := ⟨_, _, fun _ => rfl⟩
theorem fltContextExport_served (m : Ump) : ServedRow (.fltContextExport m) 0x0D03 m := ⟨_, _, fun _ => rfl⟩
theorem fltContextImport_served (m : Ump) : ServedRow (.fltContextImport m) 0x0D04 m := ⟨_, _, fun _ => rfl⟩
theorem fltSetKey_served (m : Ump) : ServedRow (.fltSetKey m) 0x0D05 m := ⟨_, _, fun _ => rfl⟩
theorem fwuBegin_served (m : Ump) : ServedRow (.fwuBegin m) 0x0E01 m := ⟨_, _, fun _ => rfl⟩
theorem fwuData_served (m : Ump) : ServedRow (.fwuData m) 0x0E02 m := ⟨_, _, fun _ => rfl⟩
theorem fwuCommit_served (m : Ump) : ServedRow (.fwuCommit m) 0x0E03 m := ⟨_, _, fun _ => rfl⟩
theorem fwuActivate_served (m : Ump) : ServedRow (.fwuActivate m) 0x0E04 m := ⟨_, _, fun _ => rfl⟩
theorem tstBist_served (m : Ump) : ServedRow (.tstBist m) 0x0F01 m := ⟨_, _, fun _ => rfl⟩
theorem tstLoopback_served (m : Ump) : ServedRow (.tstLoopback m) 0x0F02 m := ⟨_, _, fun _ => rfl⟩

/-- Every UMP row is served with its code. -/
theorem umpRow_served (i : Instr) (code : Nat) (u : Ump) (h : umpRow i = some (code, u)) : ServedRow i code u := by
  cases i with
  | sysGetInfo m => cases h; exact sysGetInfo_served _
  | sysReset m => cases h; exact sysReset_served _
  | sysGetStatus m => cases h; exact sysGetStatus_served _
  | sysSetEventSink m => cases h; exact sysSetEventSink_served _
  | sysAbort m => cases h; exact sysAbort_served _
  | pwrSetState m => cases h; exact pwrSetState_served _
  | pwrGetState m => cases h; exact pwrGetState_served _
  | pwrSetWakeSources m => cases h; exact pwrSetWakeSources_served _
  | pwrSetPasr m => cases h; exact pwrSetPasr_served _
  | radSetChannel m => cases h; exact radSetChannel_served _
  | radGetStatus m => cases h; exact radGetStatus_served _
  | radCalibrate m => cases h; exact radCalibrate_served _
  | radSetTxLimits m => cases h; exact radSetTxLimits_served _
  | radSetStr m => cases h; exact radSetStr_served _
  | radTunerCtl m => cases h; exact radTunerCtl_served _
  | radLoadRegdomain m => cases h; exact radLoadRegdomain_served _
  | radSelfTest m => cases h; exact radSelfTest_served _
  | radClearTxLock m => cases h; exact radClearTxLock_served _
  | radLockLlt m => cases h; exact radLockLlt_served _
  | radCaptureIq m => cases h; exact radCaptureIq_served _
  | bssCreate m => cases h; exact bssCreate_served _
  | bssDelete m => cases h; exact bssDelete_served _
  | bssSetParams m => cases h; exact bssSetParams_served _
  | staGet m => cases h; exact staGet_served _
  | staDisconnect m => cases h; exact staDisconnect_served _
  | staFlushQueue m => cases h; exact staFlushQueue_served _
  | mloSetLinkPolicy m => cases h; exact mloSetLinkPolicy_served _
  | cumulusSet m => cases h; exact cumulusSet_served _
  | staList m => cases h; exact staList_served _
  | schSetWindow m => cases h; exact schSetWindow_served _
  | schSetPolicy m => cases h; exact schSetPolicy_served _
  | crnSetReserve m => cases h; exact crnSetReserve_served _
  | crnPin m => cases h; exact crnPin_served _
  | crnGetStats m => cases h; exact crnGetStats_served _
  | twtSet m => cases h; exact twtSet_served _
  | schSetTurbo m => cases h; exact schSetTurbo_served _
  | secGetIdentity m => cases h; exact secGetIdentity_served _
  | secLoadSealed m => cases h; exact secLoadSealed_served _
  | secSetRadius m => cases h; exact secSetRadius_served _
  | secKeyImport m => cases h; exact secKeyImport_served _
  | secKeyErase m => cases h; exact secKeyErase_served _
  | secCipherJob m => cases h; exact secCipherJob_served _
  | secAuthChallenge m => cases h; exact secAuthChallenge_served _
  | secDebugUnlock m => cases h; exact secDebugUnlock_served _
  | fwdSetPort m => cases h; exact fwdSetPort_served _
  | fwdRouteSet m => cases h; exact fwdRouteSet_served _
  | fwdAclSet m => cases h; exact fwdAclSet_served _
  | fwdNatSet m => cases h; exact fwdNatSet_served _
  | fwdFlowQuery m => cases h; exact fwdFlowQuery_served _
  | ethGetCounters m => cases h; exact ethGetCounters_served _
  | ethSetWol m => cases h; exact ethSetWol_served _
  | ethSetMacsec m => cases h; exact ethSetMacsec_served _
  | fwdVlanSet m => cases h; exact fwdVlanSet_served _
  | queSetShaper m => cases h; exact queSetShaper_served _
  | queSetPolicer m => cases h; exact queSetPolicer_served _
  | queSetGcl m => cases h; exact queSetGcl_served _
  | queSetSampler m => cases h; exact queSetSampler_served _
  | queReadSamples m => cases h; exact queReadSamples_served _
  | queMap m => cases h; exact queMap_served _
  | timGet m => cases h; exact timGet_served _
  | timAdjust m => cases h; exact timAdjust_served _
  | timSetPtp m => cases h; exact timSetPtp_served _
  | timSetJumpLimit m => cases h; exact timSetJumpLimit_served _
  | memGetInfo m => cases h; exact memGetInfo_served _
  | cfgCommit m => cases h; exact cfgCommit_served _
  | cfgRead m => cases h; exact cfgRead_served _
  | cvuRun m => cases h; exact cvuRun_served _
  | evrGetInfo m => cases h; exact evrGetInfo_served _
  | evrSetPolicy m => cases h; exact evrSetPolicy_served _
  | evrClear m => cases h; exact evrClear_served _
  | diagRun m => cases h; exact diagRun_served _
  | evrRead m => cases h; exact evrRead_served _
  | dspLoadKernel m => cases h; exact dspLoadKernel_served _
  | dspRun m => cases h; exact dspRun_served _
  | tdsSetHostRing m => cases h; exact tdsSetHostRing_served _
  | tdsGetStats m => cases h; exact tdsGetStats_served _
  | drzSetChannel m => cases h; exact drzSetChannel_served _
  | drzSetCsl m => cases h; exact drzSetCsl_served _
  | drzSetMesh m => cases h; exact drzSetMesh_served _
  | drzSend m => cases h; exact drzSend_served _
  | drzNodeSet m => cases h; exact drzNodeSet_served _
  | fltGetInfo m => cases h; exact fltGetInfo_served _
  | fltSetFloor m => cases h; exact fltSetFloor_served _
  | fltContextExport m => cases h; exact fltContextExport_served _
  | fltContextImport m => cases h; exact fltContextImport_served _
  | fltSetKey m => cases h; exact fltSetKey_served _
  | fwuBegin m => cases h; exact fwuBegin_served _
  | fwuData m => cases h; exact fwuData_served _
  | fwuCommit m => cases h; exact fwuCommit_served _
  | fwuActivate m => cases h; exact fwuActivate_served _
  | tstBist m => cases h; exact tstBist_served _
  | tstLoopback m => cases h; exact tstLoopback_served _
  | _ => cases h

end Sys2Proof.Machine
end

