-- ==== Sys2Proof/Laws/Serve.lean ====
section
/-! SUPPORT. A command served at once has its answer: what serving it comes to, once for every command. -/
namespace Sys2Proof.Machine

/-! ### The mailbox keeps its form -/

theorem MailboxInv.of_mbox {s t : State} (h : MailboxInv s) (e : t.mbox = s.mbox) : MailboxInv t := by
  unfold MailboxInv; rw [e]; exact h

theorem MailboxInv.of_parts {s t : State} (h : MailboxInv s) (e : t.mbox.mem = s.mbox.mem)
    (f : t.mbox.slots.length = s.mbox.slots.length) : MailboxInv t := ⟨by rw [e]; exact h.1, by rw [f]; exact h.2⟩

@[simp] theorem msix_mbox (v : Nat) (s : State) : (msix v s).mbox = s.mbox := by
  unfold msix; split
  · rfl
  · split <;> rfl

@[simp] theorem setDoorbell_mbox (b : Nat) (s : State) :
    (setDoorbell b s).mbox = { s.mbox with devDoorbell := s.mbox.devDoorbell ||| BitVec.ofNat 32 (2 ^ b) } := by
  unfold setDoorbell; dsimp only; split
  · rw [msix_mbox]; rfl
  · rfl

@[simp] theorem record_mbox (c : Nat) (p : Bytes) (a b e : Bool) (x : List (Nat × Bytes)) (s : State) :
    (record c p a b e x s).mbox = s.mbox := by unfold record enqueueOcc; split <;> rfl

/-- What an operation on the link leaves alone in the mailbox: the slots, the command queue, the outstanding commands, the waiting
aborts, the sink and its mask, the masks and counts that no event changes. -/
def MboxKept (s t : State) : Prop :=
  t.mbox.slots = s.mbox.slots ∧ t.mbox.cmdQueue = s.mbox.cmdQueue ∧ t.mbox.async = s.mbox.async ∧
  t.mbox.aborts = s.mbox.aborts ∧ t.mbox.sink = s.mbox.sink ∧ t.mbox.sinkMask = s.mbox.sinkMask ∧
  t.mbox.irqMask = s.mbox.irqMask ∧ t.mbox.served = s.mbox.served ∧ t.mbox.replay = s.mbox.replay ∧
  t.mbox.evtCons = s.mbox.evtCons ∧ t.mbox.heartbeat = s.mbox.heartbeat ∧ t.mbox.scratch = s.mbox.scratch ∧
  (Cells.wf s.mbox.mem = true → Cells.wf t.mbox.mem = true)

theorem MboxKept.refl (s : State) : MboxKept s s := by simp [MboxKept]

theorem MboxKept.trans {a b c : State} (h : MboxKept a b) (k : MboxKept b c) : MboxKept a c := by
  unfold MboxKept at *; simp_all

theorem MboxKept.of_eq {s t : State} (h : t.mbox = s.mbox) : MboxKept s t := by simp [MboxKept, h]

theorem MboxKept.inv {s t : State} (h : MboxKept s t) (i : MailboxInv s) : MailboxInv t :=
  ⟨h.2.2.2.2.2.2.2.2.2.2.2.2 i.1, by rw [h.1]; exact i.2⟩

theorem MboxKept.foldl {α : Type} (g : State → α → State) (h : ∀ t x, MboxKept t (g t x)) (l : List α) (s : State) :
    MboxKept s (l.foldl g s) := by
  induction l generalizing s with
  | nil => exact .refl _
  | cons x l ih => exact (h s x).trans (ih _)

theorem MboxKept.onMbox {f : Mbox → Mbox} (h : ∀ m, (f m).slots = m.slots ∧ (f m).cmdQueue = m.cmdQueue ∧ (f m).async = m.async ∧
    (f m).aborts = m.aborts ∧ (f m).sink = m.sink ∧ (f m).sinkMask = m.sinkMask ∧ (f m).irqMask = m.irqMask ∧
    (f m).served = m.served ∧ (f m).replay = m.replay ∧ (f m).evtCons = m.evtCons ∧ (f m).heartbeat = m.heartbeat ∧
    (f m).scratch = m.scratch ∧ (f m).mem = m.mem) (s : State) : MboxKept s (Machine.onMbox f s) := by
  have := h s.mbox
  simp_all [MboxKept]

theorem setDoorbell_kept (b : Nat) (s : State) : MboxKept s (setDoorbell b s) := by simp [MboxKept]

theorem record_kept (c : Nat) (p : Bytes) (a b e : Bool) (x : List (Nat × Bytes)) (s : State) :
    MboxKept s (record c p a b e x s) := .of_eq (record_mbox ..)

theorem writeEvent_kept (e : Event) (s : State) : MboxKept s (writeEvent e s) := by
  refine MboxKept.trans ?_ (setDoorbell_kept _ _)
  simp only [MboxKept, onMbox]
  simp only [true_and]
  exact fun h => Cells.writeAll_wf h _ _

theorem reportLostPcie_kept (s : State) : MboxKept s (reportLostPcie s) := by
  unfold reportLostPcie; split
  · exact .refl _
  · refine MboxKept.trans (MboxKept.trans ?_ (writeEvent_kept _ _)) (record_kept ..)
    simp [MboxKept, onMbox]

theorem flushPcie_kept (l : List Event) (s : State) : MboxKept s (flushPcie l s) := by
  induction l generalizing s with
  | nil => simp [flushPcie, MboxKept, onMbox]
  | cons e r ih =>
    unfold flushPcie; split
    · simp [MboxKept, onMbox]
    · exact (writeEvent_kept _ _).trans (ih _)

theorem toPcie_kept (e : Event) (s : State) : MboxKept s (toPcie e s) := by
  have h := (reportLostPcie_kept s).trans (flushPcie_kept (reportLostPcie s).mbox.pcieQueue (reportLostPcie s))
  unfold toPcie; split
  · exact .refl _
  · dsimp only; split
    · exact h.trans (writeEvent_kept _ _)
    · split <;> refine h.trans ?_ <;> simp [MboxKept, onMbox]

theorem emit_kept (o : Out) (s : State) : MboxKept s (emit o s) := .of_eq rfl

theorem flushSink_kept (mac : Nat) (s : State) : MboxKept s (flushSink mac s) := by
  unfold flushSink; split
  · exact .refl _
  · refine MboxKept.trans (MboxKept.trans ?_ (MboxKept.foldl _ (fun _ _ => emit_kept _ _) _ _))
      (MboxKept.onMbox (f := fun m => { m with sinkQueue := [] }) (by simp) _)
    split
    · exact .refl _
    · refine MboxKept.trans ?_ (record_kept ..)
      simp [MboxKept, Machine.onMbox]

theorem toSink_kept (e : Event) (s : State) : MboxKept s (toSink e s) := by
  unfold toSink; split
  · exact .refl _
  · split
    · exact .refl _
    · split
      · exact (flushSink_kept _ _).trans (emit_kept _ _)
      · split <;> simp [MboxKept, onMbox]

theorem deliver_kept (e : Event) (s : State) : MboxKept s (deliver e s) := (toPcie_kept _ _).trans (toSink_kept _ _)

theorem raiseWith_kept (c : Nat) (p : Bytes) (a b : Bool) (x : List (Nat × Bytes)) (s : State) :
    MboxKept s (raiseWith c p a b x s) := (deliver_kept _ _).trans (record_kept ..)

theorem raise_kept (c : Nat) (p : Bytes) (s : State) : MboxKept s (raise c p s) := raiseWith_kept _ _ _ _ _ _

theorem raiseLimited_kept (c o : Nat) (p : Bytes) (s : State) : MboxKept s (raiseLimited c o p s) := by
  unfold raiseLimited; split
  · exact .refl _
  · refine MboxKept.trans ?_ (raise_kept _ _ _); simp [MboxKept, onMbox]

theorem transientFault_kept (c : Nat) (p : Bytes) (s : State) : MboxKept s (transientFault c p s) := by
  refine MboxKept.trans ?_ (record_kept ..); simp [MboxKept, onMbox]

theorem setFault_kept (c : Nat) (p : Bytes) (s : State) : MboxKept s (setFault c p s) := by
  refine MboxKept.trans ?_ (setDoorbell_kept _ _); simp [MboxKept, onMbox]

theorem lastingRecord_kept (c : Nat) (p : Bytes) (f : Bool) (s : State) : MboxKept s (lastingRecord c p f s) := by
  have h : MboxKept s (record c p false true false [] (onMbox (fun m => { m with lasting := inc 32 m.lasting }) s)) := by
    refine MboxKept.trans ?_ (record_kept ..); simp [MboxKept, onMbox]
  unfold lastingRecord; dsimp only; split
  · exact h.trans (setFault_kept _ _ _)
  · exact h

theorem lastingFault_kept (c : Nat) (p : Bytes) (f : Bool) (s : State) : MboxKept s (lastingFault c p f s) := by
  have h : MboxKept s (raiseWith c p false true [] (onMbox (fun m => { m with lasting := inc 32 m.lasting }) s)) := by
    refine MboxKept.trans ?_ (raiseWith_kept ..); simp [MboxKept, onMbox]
  unfold lastingFault; dsimp only; split
  · exact h.trans (setFault_kept _ _ _)
  · exact h

theorem retryRecord_kept (r : Retry) (c : Nat) (p : Bytes) (f : Bool) (s : State) : MboxKept s (retryRecord r c p f s) := by
  cases r
  · exact .refl _
  · exact transientFault_kept _ _ _
  · exact lastingRecord_kept _ _ _ _

theorem commandFault_kept (r : Retry) (n k c : Nat) (p : Bytes) (f : Bool) (s : State) :
    MboxKept s (commandFault r n k c p f s) := by
  cases r
  · exact .refl _
  · refine MboxKept.trans ?_ (record_kept ..); simp [MboxKept, onMbox]
  · have h : MboxKept s (record c p false true false [cmdEntry n k ST.faultLasting]
        (onMbox (fun m => { m with lasting := inc 32 m.lasting }) s)) := by
      refine MboxKept.trans ?_ (record_kept ..); simp [MboxKept, onMbox]
    unfold commandFault; dsimp only; split
    · exact h.trans (setFault_kept _ _ _)
    · exact h

theorem noteDma_kept (c : Nat) (u : Ump) (s : State) : MboxKept s (noteDma c u s) := by
  unfold noteDma; split
  · exact commandFault_kept _ _ _ _ _ _ _
  · exact .refl _

/-- The end of an async command takes it from the outstanding ones and keeps the form of the mailbox. -/
theorem endAsync_async (a : AsyncCmd) (st : Nat) (p : Bytes) (s : State) :
    (endAsync a st p s).mbox.async = s.mbox.async.erase a ∧ (MailboxInv s → MailboxInv (endAsync a st p s)) := by
  unfold endAsync
  refine ⟨?_, fun h => ?_⟩
  · rw [record_mbox, (deliver_kept _ _).2.2.1]; rfl
  · exact ((deliver_kept _ _).trans (record_kept ..)).inv (MailboxInv.of_parts h rfl rfl)

/-! ### Responses -/

/-- What the end of an async command leaves of the mailbox's form and its queue. -/
theorem endAsync_inv (a : AsyncCmd) (st : Nat) (p : Bytes) {s : State} (h : MailboxInv s) :
    MailboxInv (endAsync a st p s) ∧ (endAsync a st p s).mbox.cmdQueue = s.mbox.cmdQueue := by
  have d : MailboxInv (dropAsync a s) := ⟨h.1, h.2⟩
  unfold endAsync
  refine ⟨(record_kept ..).inv ((deliver_kept _ _).inv d), ?_⟩
  rw [(record_kept ..).2.1, (deliver_kept _ _).2.1]; rfl

/-- A posted response stands where its transport puts it. -/
theorem post_answered (code : Nat) (u : Ump) (st : Nat) (data : Bytes) {s : State} (h : MailboxInv s)
    (hn : ∀ n, u.via = .pcie n → n < 16) :
    Answered code u st data (post u.via code u.tag st data s) := by
  have hd : (post u.via code u.tag st data s).power = s.power := by
    have := post_link u.via code u.tag st data s
    rw [this]
  unfold Answered response
  rw [hd]
  cases hv : u.via with
  | pcie n =>
    have hlt := hn n hv
    dsimp only
    simp only [post, setDoorbell_mbox, onMbox_mbox]
    refine ⟨Cells.readAll_writeAll h.1 _ _, ?_, ?_⟩
    · rw [List.getElem?_set_self (by rw [h.2]; exact hlt)]
    · have : ∀ (w : Word32), (w ||| BitVec.ofNat 32 (2 ^ n)).getLsbD n = true := by
        intro w
        rw [BitVec.getLsbD_or, BitVec.getLsbD_ofNat, Nat.testBit_two_pow_self, Bool.and_true,
          decide_eq_true (show n < 32 by omega), Bool.or_true]
      exact this _
  | mgt mac => simp [post]
  | uart => simp [post]

/-- Beside the mailbox, the endpoint and the outputs nothing has changed. -/
def OutOnly (s t : State) : Prop := t = { s with mbox := t.mbox, pcie := t.pcie, out := t.out }

theorem OutOnly.trans {a b c : State} (h : OutOnly a b) (k : OutOnly b c) : OutOnly a c := by
  unfold OutOnly at *; rw [k, h]

theorem setDoorbell_outOnly (b : Nat) (s : State) : OutOnly s (setDoorbell b s) := by
  unfold setDoorbell; dsimp only
  split
  · refine OutOnly.trans (b := onMbox (fun m => { m with devDoorbell := s.mbox.devDoorbell ||| BitVec.ofNat 32 (2 ^ b) }) s) rfl ?_
    unfold msix; split
    · rfl
    · split <;> rfl
  · rfl

theorem setDoorbell_out (b : Nat) (s : State) : s.out <+: (setDoorbell b s).out := by
  unfold setDoorbell; dsimp only
  split
  · unfold msix; split
    · exact List.prefix_rfl
    · split
      · exact List.prefix_append _ _
      · exact List.prefix_rfl
  · exact List.prefix_rfl

/-- What a response changes in the mailbox. -/
theorem post_replyOnly (v : Via) (code tag st : Nat) (data : Bytes) (s : State) (hq : s.mbox.cmdQueue = []) :
    ReplyOnly s (post v code tag st data s) := by
  refine ⟨?_, ?_, ?_⟩
  rotate_left
  · cases v with
    | pcie n => exact setDoorbell_out n (onMbox _ (onMbox _ s))
    | mgt mac => exact List.prefix_append _ _
    | uart => exact List.prefix_append _ _
  rotate_left
  · cases v with
    | pcie n => exact OutOnly.trans (b := onMbox _ (onMbox _ s)) rfl (setDoorbell_outOnly _ _)
    | mgt mac => rfl
    | uart => rfl
  · cases v
    · simp [post, hq]
    · simp [post, onMbox, emit, hq]
    · simp [post, onMbox, emit, hq]

/-- The form of the mailbox after a response. -/
theorem post_inv (v : Via) (code tag st : Nat) (data : Bytes) {s : State} (h : MailboxInv s) :
    MailboxInv (post v code tag st data s) := by
  cases v
  · refine ⟨?_, ?_⟩
    · simp only [post, setDoorbell_mbox, onMbox_mbox]; exact Cells.writeAll_wf h.1 _ _
    · simp only [post, setDoorbell_mbox, onMbox_mbox, List.length_set]; exact h.2
  · exact h
  · exact h

theorem writeSlot_inv {n : Nat} {m : Msg} {s : State} (h : MailboxInv s) : MailboxInv (writeSlot n m s) := by
  constructor
  · simp only [writeSlot, onMbox_mbox]; exact Cells.writeAll_wf h.1 _ _
  · simp only [writeSlot, onMbox_mbox]; exact h.2

/-- A message put in its slot, where it came over PCIe. -/
theorem arrived_eq (code : Nat) (u : Ump) (s : State) : arrived code u s =
    noteDma code u (onMbox (fun b => { b with cmdQueue := [] })
      (match u.via with | .pcie n => writeSlot n (u.msg code) (start s) | _ => start s)) := rfl

/-- The state a command is judged in keeps the form of the mailbox, its queue is empty, and no command has ended. -/
theorem arrived_facts {code : Nat} {u : Ump} {s : State} (h : MailboxInv s) :
    MailboxInv (arrived code u s) ∧ (arrived code u s).mbox.cmdQueue = [] ∧
    (arrived code u s).mbox.async = s.mbox.async := by
  rw [arrived_eq]
  generalize ht : (match u.via with | .pcie n => writeSlot n (u.msg code) (start s) | _ => start s) = t
  have hi : MailboxInv t ∧ t.mbox.async = s.mbox.async := by
    rw [← ht]; split
    · exact ⟨writeSlot_inv h, rfl⟩
    · exact ⟨h, rfl⟩
  have k := noteDma_kept code u (onMbox (fun b => { b with cmdQueue := [] }) t)
  exact ⟨k.inv hi.1, k.2.1, k.2.2.1.trans hi.2⟩

theorem drain_nil {s : State} (h : s.mbox.cmdQueue = []) : drain [] s = s := by
  obtain ⟨m⟩ := s
  obtain ⟨⟩ := m
  simp only at h
  subst h; rfl

theorem headerStatus_power {code : Nat} {u : Ump} {s t : State} (h : t.power = s.power) :
    headerStatus code u t = headerStatus code u s := by unfold headerStatus headerChecks; rw [h]

theorem carries_link {v : Via} {s t : State} (hp : t.power = s.power) (hw : t.wire = s.wire) : carries v t = carries v s := by
  unfold carries mgtUp powered; rw [hp, hw]

/-- The status a manager's answer is posted with: a good one tells of a retried DMA read (R277). -/
def postedStatus (u : Ump) (st : Nat) : Nat := if st = ST.ok then goodStatus u else st

/-- A command served at once is answered with what its manager replies, before what follows a good response. -/
theorem serveThen_reply {code : Nat} {h : Ump → State → Reply} {after : State → State} {u : Ump} {s x : State} {st : Nat}
    {data : Bytes} (ha : Arrives code u s) (hr : h u (arrived code u s) = ⟨x, st, data, true⟩) (hx : MailboxInv x)
    (hq : x.mbox.cmdQueue = []) :
    ∃ y, serveThen code h after u s = (let t := if ST.good (postedStatus u st) then after y else y
                                       drain t.mbox.cmdQueue t) ∧
      Answered code u (postedStatus u st) data y ∧ ReplyOnly x y := by
  obtain ⟨hc, hcar, hhead, hvia⟩ := ha
  have hn : ∀ n, u.via = .pcie n → n < 16 := by
    intro n hv; rw [hv] at hvia; exact hvia.1
  have hst : (if st = ST.ok && bit u.flags 1 && decide (u.env.dma = .retried) then ST.okRetried else st)
      = postedStatus u st := by
    unfold postedStatus goodStatus; by_cases e : st = ST.ok <;> simp [e]
  have fin : ∀ t, headerStatus code u t = none →
      noteDma code u (onMbox (fun b => { b with cmdQueue := [] }) t) = arrived code u s →
      serveThen code h after u s = (let t := answer code h after u (onMbox (fun b => { b with cmdQueue := [] }) t)
                                    drain t.mbox.cmdQueue t) →
      ∃ y, serveThen code h after u s = (let t := if ST.good (postedStatus u st) then after y else y
                                         drain t.mbox.cmdQueue t) ∧
        Answered code u (postedStatus u st) data y ∧ ReplyOnly x y := by
    intro t ht hn' hs
    have e1 : headerStatus code u (onMbox (fun b => { b with cmdQueue := [] }) t) = none :=
      (headerStatus_power (s := t) rfl).trans ht
    have e2 : answer code h after u (onMbox (fun b => { b with cmdQueue := [] }) t)
        = if ST.good (postedStatus u st) then after (post u.via code u.tag (postedStatus u st) data x)
          else post u.via code u.tag (postedStatus u st) data x := by
      unfold answer; rw [e1]; dsimp only; rw [hn', hr]; dsimp only
      rw [hst]; simp
    refine ⟨post u.via code u.tag (postedStatus u st) data x, ?_, post_answered code u _ data hx hn, post_replyOnly _ _ _ _ _ _ hq⟩
    rw [hs, e2]
  have q0 : (start s).mbox.cmdQueue = [] := hc
  cases hv : u.via with
  | pcie n =>
    rw [hv] at hvia hcar
    dsimp only at hvia
    have l0 : ¬ 16 ≤ n := Nat.not_le.mpr hvia.1
    have c1 : carries (.pcie n) (start s) = true := (carries_link (s := s) rfl rfl).trans hcar
    have r1 : reachable (start s) = true := hvia.2.1
    have f1 : (start s).mbox.slots.getD n .free = .free := hvia.2.2
    have g0 : ¬ ((!reachable (start s) || (start s).mbox.slots.getD n .free != .free) = true) := by rw [r1, f1]; decide
    refine fin (writeSlot n (u.msg code) (start s)) ((headerStatus_power (s := s) rfl).trans hhead)
      (by unfold arrived; rw [hv]) ?_
    unfold serveThen
    rw [hv]
    dsimp only
    rw [q0]
    dsimp only
    rw [if_neg l0, if_neg g0, if_pos c1]
  | mgt mac =>
    rw [hv] at hvia hcar
    dsimp only at hvia
    have c1 : carries (.mgt mac) (start s) = true := (carries_link (s := s) rfl rfl).trans hcar
    have s1 : stored mac u.tag (start s) = none := hvia
    refine fin (start s) ((headerStatus_power (s := s) rfl).trans hhead) (by unfold arrived; rw [hv]) ?_
    unfold serveThen
    rw [hv]
    dsimp only
    rw [q0]
    dsimp only
    rw [c1, s1]; rfl
  | uart =>
    rw [hv] at hvia hcar
    have c1 : carries .uart (start s) = true := (carries_link (s := s) rfl rfl).trans hcar
    refine fin (start s) ((headerStatus_power (s := s) rfl).trans hhead) (by unfold arrived; rw [hv]) ?_
    unfold serveThen
    rw [hv]
    dsimp only
    rw [q0]
    dsimp only
    rw [c1]; rfl

/-- A command that nothing follows. -/
theorem serve_reply {code : Nat} {h : Ump → State → Reply} {u : Ump} {s x : State} {st : Nat} {data : Bytes}
    (ha : Arrives code u s) (hr : h u (arrived code u s) = ⟨x, st, data, true⟩) (hx : MailboxInv x)
    (hq : x.mbox.cmdQueue = []) :
    ∃ t, serve code h u s = t ∧ Answered code u (postedStatus u st) data t ∧ ReplyOnly x t := by
  obtain ⟨y, hs, hy, ro⟩ := serveThen_reply (after := id) ha hr hx hq
  refine ⟨y, ?_, hy, ro⟩
  have e : y.mbox.cmdQueue = [] := by rw [ro.2.2]
  unfold serve
  rw [hs]; simp only [id, ite_self]; rw [e]; exact drain_nil e

/-- A command whose meaning serves it through its manager answers what the manager replies. -/
theorem answers_of_serve {i : Instr} {code : Nat} {h : Ump → State → Reply} {u : Ump} {s x : State} {st : Nat} {data : Bytes}
    (he : exec i s = .next (serve code h u s)) (ha : Arrives code u s)
    (hr : h u (arrived code u s) = ⟨x, st, data, true⟩) (hx : MailboxInv x) (hq : x.mbox.cmdQueue = []) :
    Answers i code u (postedStatus u st) data x s := by
  obtain ⟨t, hs, hy, ro⟩ := serve_reply ha hr hx hq
  exact ⟨t, he.trans (congrArg _ hs), hy, ro⟩

/-- The checks of a judgement all pass. -/
theorem judge_pass {checks : List (Bool × Nat)} {s : State} {k : Unit → Reply} (h : checks.all (fun c => !c.1) = true) :
    judge checks s k = k () := by
  unfold judge
  have : checks.find? (fun c => c.1) = none := by
    rw [List.find?_eq_none]
    intro c hc
    have := List.all_eq_true.mp h c hc
    simpa using this
  rw [this]

/-- What a command served at once leaves of the mailbox before it is judged: its message, and no waiting command. -/
theorem arrived_mbox {code : Nat} {u : Ump} {s : State} (ha : Arrives code u s) :
    ∃ m n, (arrived code u s).mbox = { s.mbox with mem := m, cmdQueue := [], transient := n } := by
  have hd : bit u.flags 1 = true → u.env.dma ≠ .lasting := by
    intro hb hl
    have h := ha.2.2.1
    unfold headerStatus at h
    rw [Option.map_eq_none_iff, List.find?_eq_none] at h
    have := h (bit u.flags 1 && decide (u.env.dma = .lasting), ST.faultLasting) (by simp [headerChecks])
    simp [hb, hl] at this
  have n1 : ∀ t : State, ∃ n, (noteDma code u t).mbox = { t.mbox with transient := n } := by
    intro t
    unfold noteDma
    split
    · rename_i hb
      cases hdm : u.env.dma with
      | ok => exact ⟨_, rfl⟩
      | retried => exact ⟨inc 32 t.mbox.transient, by simp only [dmaFault, commandFault, record_mbox, onMbox_mbox]⟩
      | lasting => exact absurd hdm (hd hb)
    · exact ⟨_, rfl⟩
  rw [arrived_eq]
  obtain ⟨n, hn⟩ := n1 (onMbox (fun b => { b with cmdQueue := [] })
    (match u.via with | .pcie n => writeSlot n (u.msg code) (start s) | _ => start s))
  rw [hn]
  split
  · exact ⟨_, _, rfl⟩
  · exact ⟨_, _, rfl⟩

/-- The gate of a command is judged alike before and after its message has arrived. -/
theorem gate_arrived {code c : Nat} {u : Ump} {s : State} {a : Bool} {l : List Obj} (ha : Arrives code u s) :
    gate c a l (arrived code u s) = gate c a l s := by
  obtain ⟨m, n, hm⟩ := arrived_mbox ha
  have hp : (arrived code u s).power = s.power := by rw [arrived_link]
  unfold gate locked asyncCount
  rw [hm, hp]

@[simp] theorem arrived_rings (c : Nat) (u : Ump) (s : State) : (arrived c u s).rings = s.rings := by rw [arrived_link]
@[simp] theorem arrived_dma (c : Nat) (u : Ump) (s : State) : (arrived c u s).dma = s.dma := by rw [arrived_link]
@[simp] theorem arrived_power (c : Nat) (u : Ump) (s : State) : (arrived c u s).power = s.power := by rw [arrived_link]
@[simp] theorem arrived_radio (c : Nat) (u : Ump) (s : State) : (arrived c u s).radio = s.radio := by rw [arrived_link]
@[simp] theorem arrived_modem (c : Nat) (u : Ump) (s : State) : (arrived c u s).modem = s.modem := by rw [arrived_link]
@[simp] theorem arrived_air (c : Nat) (u : Ump) (s : State) : (arrived c u s).air = s.air := by rw [arrived_link]
@[simp] theorem arrived_mls (c : Nat) (u : Ump) (s : State) : (arrived c u s).mls = s.mls := by rw [arrived_link]
@[simp] theorem arrived_wire (c : Nat) (u : Ump) (s : State) : (arrived c u s).wire = s.wire := by rw [arrived_link]
@[simp] theorem arrived_qme (c : Nat) (u : Ump) (s : State) : (arrived c u s).qme = s.qme := by rw [arrived_link]
@[simp] theorem arrived_clock (c : Nat) (u : Ump) (s : State) : (arrived c u s).clock = s.clock := by rw [arrived_link]
@[simp] theorem arrived_sec (c : Nat) (u : Ump) (s : State) : (arrived c u s).sec = s.sec := by rw [arrived_link]
@[simp] theorem arrived_fleet (c : Nat) (u : Ump) (s : State) : (arrived c u s).fleet = s.fleet := by rw [arrived_link]
@[simp] theorem arrived_fwu (c : Nat) (u : Ump) (s : State) : (arrived c u s).fwu = s.fwu := by rw [arrived_link]
@[simp] theorem arrived_mem (c : Nat) (u : Ump) (s : State) : (arrived c u s).mem = s.mem := by rw [arrived_link]
@[simp] theorem arrived_tds (c : Nat) (u : Ump) (s : State) : (arrived c u s).tds = s.tds := by rw [arrived_link]
@[simp] theorem arrived_dsp (c : Nat) (u : Ump) (s : State) : (arrived c u s).dsp = s.dsp := by rw [arrived_link]
@[simp] theorem arrived_drz (c : Nat) (u : Ump) (s : State) : (arrived c u s).drz = s.drz := by rw [arrived_link]
@[simp] theorem arrived_pending (c : Nat) (u : Ump) (s : State) : (arrived c u s).pending = s.pending := by rw [arrived_link]

theorem MailboxInv.arrived {code : Nat} {u : Ump} {s : State} (h : MailboxInv s) : MailboxInv (Machine.arrived code u s) :=
  (arrived_facts h).1

@[simp] theorem arrived_cmdQueue (code : Nat) (u : Ump) (s : State) : (arrived code u s).mbox.cmdQueue = [] := by
  rw [arrived_eq, (noteDma_kept _ _ _).2.1]; rfl

/-- An accepted command keeps the form of the mailbox. -/
theorem MailboxInv.accept {u : Ump} {c : Nat} {l : List Obj} {s : State} (h : MailboxInv s) :
    MailboxInv (Machine.accept u c l s) := ⟨h.1, h.2⟩

end Sys2Proof.Machine
end

