-- ==== Sys2Proof/Laws/Tab.lean ====
section
/-! SUPPORT. What the sparse tables do: an entry set is read back, other entries are left alone, a second set replaces the first,
and every operation keeps the keys rising; then the same of the accessors of the state that rest on them. -/
namespace Sys2Proof.Machine

@[simp] theorem Tab.look_put {α : Type} (t : Tab α) (i : Nat) (x : α) : Tab.look (Tab.put t i x) i = some x := by
  induction t with
  | nil => simp [Tab.put, Tab.look]
  | cons e r ih =>
    obtain ⟨k, y⟩ := e
    unfold Tab.put
    split
    · simp [Tab.look]
    · split
      · simp [Tab.look]
      · rename_i h1 h2; simp [Tab.look, h1, h2, ih]

theorem Tab.look_put_ne {α : Type} (t : Tab α) {i j : Nat} (x : α) (h : j ≠ i) : Tab.look (Tab.put t i x) j = Tab.look t j := by
  induction t with
  | nil => simp [Tab.put, Tab.look, Ne.symm h]
  | cons e r ih =>
    obtain ⟨k, y⟩ := e
    unfold Tab.put
    split
    · rename_i h1; subst h1; simp [Tab.look]; split <;> rename_i h2
      · exact absurd h2.symm h
      · rfl
    · split
      · rename_i h1 h2
        simp only [Tab.look, Ne.symm h, if_false]
        by_cases h3 : j < i
        · rw [if_pos h3, if_neg (by omega), if_pos (by omega)]
        · rw [if_neg h3]
      · simp [Tab.look, ih]

@[simp] theorem Tab.put_put {α : Type} (t : Tab α) (i : Nat) (x y : α) : Tab.put (Tab.put t i x) i y = Tab.put t i y := by
  induction t with
  | nil => simp [Tab.put]
  | cons e r ih =>
    obtain ⟨k, z⟩ := e
    by_cases h1 : k = i
    · simp [Tab.put, h1]
    · by_cases h2 : i < k
      · simp [Tab.put, h1, h2]
      · simp [Tab.put, h1, h2, ih]

@[simp] theorem Tab.getD_put {α : Type} (t : Tab α) (i : Nat) (x d : α) : Tab.getD (Tab.put t i x) i d = x := by
  simp [Tab.getD]

theorem Tab.getD_put_ne {α : Type} (t : Tab α) {i j : Nat} (x d : α) (h : j ≠ i) :
    Tab.getD (Tab.put t i x) j d = Tab.getD t j d := by simp [Tab.getD, Tab.look_put_ne t x h]

theorem Tab.modify_of_look {α : Type} {t : Tab α} {i : Nat} {x : α} (f : α → α) (h : Tab.look t i = some x) :
    Tab.modify t i f = Tab.put t i (f x) := by simp [Tab.modify, h]

theorem Tab.look_modify {α : Type} (t : Tab α) (i : Nat) (f : α → α) :
    Tab.look (Tab.modify t i f) i = (Tab.look t i).map f := by
  unfold Tab.modify
  cases h : Tab.look t i <;> simp [h]

theorem Tab.look_modify_ne {α : Type} (t : Tab α) {i j : Nat} (f : α → α) (h : j ≠ i) :
    Tab.look (Tab.modify t i f) j = Tab.look t j := by
  unfold Tab.modify
  cases h1 : Tab.look t i with
  | none => rfl
  | some x => exact Tab.look_put_ne t _ h

theorem Tab.wf_cons {α : Type} {a : Nat} {x : α} {t : Tab α} :
    Tab.wf ((a, x) :: t) = true ↔ (∀ e, t.head? = some e → a < e.1) ∧ Tab.wf t = true := by
  cases t with
  | nil => simp [Tab.wf]
  | cons e r => obtain ⟨b, y⟩ := e; simp [Tab.wf]

theorem Tab.put_head {α : Type} (t : Tab α) (i : Nat) (x : α) (a : Nat) (h : ∀ e, t.head? = some e → a < e.1) (hi : a < i) :
    ∀ e, (Tab.put t i x).head? = some e → a < e.1 := by
  cases t with
  | nil => intro e he; simp [Tab.put] at he; subst he; exact hi
  | cons c r =>
    obtain ⟨k, y⟩ := c
    intro e he
    unfold Tab.put at he
    split at he
    · simp at he; subst he; exact hi
    · split at he
      · simp at he; subst he; exact hi
      · simp at he; subst he; exact h (k, y) rfl

/-- A set keeps the keys rising. -/
theorem Tab.put_wf {α : Type} {t : Tab α} (h : Tab.wf t = true) (i : Nat) (x : α) : Tab.wf (Tab.put t i x) = true := by
  induction t with
  | nil => rfl
  | cons e r ih =>
    obtain ⟨k, y⟩ := e
    have hw := Tab.wf_cons.mp h
    unfold Tab.put
    split
    · rename_i h1; subst h1; exact Tab.wf_cons.mpr hw
    · split
      · exact Tab.wf_cons.mpr ⟨by intro e he; simp at he; subst he; assumption, h⟩
      · exact Tab.wf_cons.mpr ⟨Tab.put_head r i x k hw.1 (by omega), ih hw.2⟩

theorem Tab.modify_wf {α : Type} {t : Tab α} (h : Tab.wf t = true) (i : Nat) (f : α → α) :
    Tab.wf (Tab.modify t i f) = true := by
  unfold Tab.modify; split
  · exact Tab.put_wf h _ _
  · exact h

@[simp] theorem ring_onRing (n : Nat) (f : Ring → Ring) (s : State) : ring n (onRing n f s) = f (ring n s) := by
  simp [ring, onRing]
theorem ring_onRing_ne {n m : Nat} (f : Ring → Ring) (s : State) (h : m ≠ n) : ring m (onRing n f s) = ring m s := by
  simp [ring, onRing, Tab.getD_put_ne _ _ _ h]
theorem onRing_onRing (n : Nat) (f g : Ring → Ring) (s : State) : onRing n g (onRing n f s) = onRing n (fun x => g (f x)) s := by
  simp [onRing, ring, onRing]

@[simp] theorem port_onPort (n : Nat) (f : Port → Port) (s : State) : port n (onPort n f s) = f (port n s) := by
  simp [port, onPort]
theorem port_onPort_ne {n m : Nat} (f : Port → Port) (s : State) (h : m ≠ n) : port m (onPort n f s) = port m s := by
  simp [port, onPort, Tab.getD_put_ne _ _ _ h]
theorem onPort_onPort (n : Nat) (f g : Port → Port) (s : State) : onPort n g (onPort n f s) = onPort n (fun x => g (f x)) s := by
  simp [onPort, port, onPort]

@[simp] theorem queue_onQueue (n : Nat) (f : QueueInfo → QueueInfo) (s : State) : queue n (onQueue n f s) = f (queue n s) := by
  simp [queue, onQueue]
theorem queue_onQueue_ne {n m : Nat} (f : QueueInfo → QueueInfo) (s : State) (h : m ≠ n) : queue m (onQueue n f s) = queue m s := by
  simp [queue, onQueue, Tab.getD_put_ne _ _ _ h]
theorem onQueue_onQueue (n : Nat) (f g : QueueInfo → QueueInfo) (s : State) : onQueue n g (onQueue n f s) = onQueue n (fun x => g (f x)) s := by
  simp [onQueue, queue, onQme]

@[simp] theorem gates_onGates (n : Nat) (f : Gates → Gates) (s : State) : gates n (onGates n f s) = f (gates n s) := by
  simp [gates, onGates]
theorem gates_onGates_ne {n m : Nat} (f : Gates → Gates) (s : State) (h : m ≠ n) : gates m (onGates n f s) = gates m s := by
  simp [gates, onGates, Tab.getD_put_ne _ _ _ h]
theorem onGates_onGates (n : Nat) (f g : Gates → Gates) (s : State) : onGates n g (onGates n f s) = onGates n (fun x => g (f x)) s := by
  simp [onGates, gates, onQme]

@[simp] theorem classStats_onClass (n : Nat) (f : ClassStats → ClassStats) (s : State) : classStats n (onClass n f s) = f (classStats n s) := by
  simp [classStats, onClass]
theorem classStats_onClass_ne {n m : Nat} (f : ClassStats → ClassStats) (s : State) (h : m ≠ n) : classStats m (onClass n f s) = classStats m s := by
  simp [classStats, onClass, Tab.getD_put_ne _ _ _ h]
theorem onClass_onClass (n : Nat) (f g : ClassStats → ClassStats) (s : State) : onClass n g (onClass n f s) = onClass n (fun x => g (f x)) s := by
  simp [onClass, classStats, onTds]

@[simp] theorem station_onStation (n : Nat) (f : Station → Station) (s : State) : station n (onStation n f s) = (station n s).map f := by
  simp [station, onStation, Tab.look_modify]
theorem station_onStation_ne {n m : Nat} (f : Station → Station) (s : State) (h : m ≠ n) : station m (onStation n f s) = station m s := by
  simp [station, onStation, Tab.look_modify_ne _ _ h]

@[simp] theorem bss_onBss (n : Nat) (f : Bss → Bss) (s : State) : bss n (onBss n f s) = (bss n s).map f := by
  simp [bss, onBss, Tab.look_modify]
theorem bss_onBss_ne {n m : Nat} (f : Bss → Bss) (s : State) (h : m ≠ n) : bss m (onBss n f s) = bss m s := by
  simp [bss, onBss, Tab.look_modify_ne _ _ h]

theorem slice_onSlice {n : Nat} (f : Slice → Slice) (s : State) (h : n < 3) : slice n (onSlice n f s) = f (slice n s) := by
  rcases (show n = 0 ∨ n = 1 ∨ n = 2 by omega) with rfl | rfl | rfl <;> rfl
theorem slice_onSlice_ne {n m : Nat} (f : Slice → Slice) (s : State) (hn : n < 3) (hm : m < 3) (h : m ≠ n) : slice m (onSlice n f s) = slice m s := by
  rcases (show n = 0 ∨ n = 1 ∨ n = 2 by omega) with rfl | rfl | rfl <;>
    rcases (show m = 0 ∨ m = 1 ∨ m = 2 by omega) with rfl | rfl | rfl <;> first | rfl | exact absurd rfl h

theorem mac_onMac {n : Nat} (f : SliceMac → SliceMac) (s : State) (h : n < 3) : mac n (onMac n f s) = f (mac n s) := by
  rcases (show n = 0 ∨ n = 1 ∨ n = 2 by omega) with rfl | rfl | rfl <;> rfl
theorem mac_onMac_ne {n m : Nat} (f : SliceMac → SliceMac) (s : State) (hn : n < 3) (hm : m < 3) (h : m ≠ n) : mac m (onMac n f s) = mac m s := by
  rcases (show n = 0 ∨ n = 1 ∨ n = 2 by omega) with rfl | rfl | rfl <;>
    rcases (show m = 0 ∨ m = 1 ∨ m = 2 by omega) with rfl | rfl | rfl <;> first | rfl | exact absurd rfl h

@[simp] theorem powered_start (d : Nat) (s : State) : powered d (start s) = powered d s := rfl
@[simp] theorem reachable_start (s : State) : reachable (start s) = reachable s := rfl
@[simp] theorem deviceTime_start (s : State) : deviceTime (start s) = deviceTime s := rfl
@[simp] theorem station_start (h : Nat) (s : State) : station h (start s) = station h s := rfl
@[simp] theorem slice_start (h : Nat) (s : State) : slice h (start s) = slice h s := rfl
@[simp] theorem mac_start (h : Nat) (s : State) : mac h (start s) = mac h s := rfl
@[simp] theorem port_start (h : Nat) (s : State) : port h (start s) = port h s := rfl
@[simp] theorem queue_start (h : Nat) (s : State) : queue h (start s) = queue h s := rfl
@[simp] theorem ring_start (h : Nat) (s : State) : ring h (start s) = ring h s := rfl
@[simp] theorem bss_start (h : Nat) (s : State) : bss h (start s) = bss h s := rfl
@[simp] theorem locked_start (o : Obj) (s : State) : locked o (start s) = locked o s := rfl
@[simp] theorem firstAsync_start (h : Nat) (s : State) : firstAsync h (start s) = firstAsync h s := rfl
@[simp] theorem findAsync_start (h c : Nat) (s : State) : findAsync h c (start s) = findAsync h c s := rfl
@[simp] theorem mgtUp_start (s : State) : mgtUp (start s) = mgtUp s := rfl

@[simp] theorem powered_onMbox (d : Nat) (f : Mbox → Mbox) (s : State) : powered d (onMbox f s) = powered d s := rfl

end Sys2Proof.Machine
end

