-- ==== Sys2Proof/WellFormed.lean ====
section
/-! DEFINITION. What makes a command well formed: every operand fits the field, the port, the slot or the table it names
(R247, R272, R274). The meanings are total and do not assume it. -/
namespace Sys2Proof

/-- A transport names a slot or a MAC address. -/
def Via.wf : Via → Bool
  | .pcie slot => decide (slot < 16)
  | .mgt mac => decide (mac < 2 ^ 48)
  | .uart => true

/-- What a reset meets fits its straps. -/
def Boot.wf (b : Boot) : Bool := decide (b.bootSel < 4) && decide (b.devIdx < 64)

/-- A register space names a check-value unit that exists. -/
def RegSpace.wf : RegSpace → Bool
  | .bar0 => true
  | .bar2 => true
  | .cvu unit => decide (unit < 4)

/-- The header fields of a UMP message fit their widths (R247). -/
def Ump.wf (u : Ump) : Bool :=
  u.via.wf && decide (u.type < 256) && decide (u.flags < 256) && decide (u.tag < 65536) && decide (u.length < 65536)
    && decide (u.crc < 2 ^ 32) && u.env.boot.wf

/-- A command is well formed. -/
def Instr.wf : Instr → Bool
  | .sysGetInfo m => m.wf
  | .sysReset m => m.wf
  | .sysGetStatus m => m.wf
  | .sysSetEventSink m => m.wf
  | .sysAbort m => m.wf
  | .pwrSetState m => m.wf
  | .pwrGetState m => m.wf
  | .pwrSetWakeSources m => m.wf
  | .pwrSetPasr m => m.wf
  | .radSetChannel m => m.wf
  | .radGetStatus m => m.wf
  | .radCalibrate m => m.wf
  | .radSetTxLimits m => m.wf
  | .radSetStr m => m.wf
  | .radTunerCtl m => m.wf
  | .radLoadRegdomain m => m.wf
  | .radSelfTest m => m.wf
  | .radClearTxLock m => m.wf
  | .radLockLlt m => m.wf
  | .radCaptureIq m => m.wf
  | .bssCreate m => m.wf
  | .bssDelete m => m.wf
  | .bssSetParams m => m.wf
  | .staGet m => m.wf
  | .staDisconnect m => m.wf
  | .staFlushQueue m => m.wf
  | .mloSetLinkPolicy m => m.wf
  | .cumulusSet m => m.wf
  | .staList m => m.wf
  | .schSetWindow m => m.wf
  | .schSetPolicy m => m.wf
  | .crnSetReserve m => m.wf
  | .crnPin m => m.wf
  | .crnGetStats m => m.wf
  | .twtSet m => m.wf
  | .schSetTurbo m => m.wf
  | .secGetIdentity m => m.wf
  | .secLoadSealed m => m.wf
  | .secSetRadius m => m.wf
  | .secKeyImport m => m.wf
  | .secKeyErase m => m.wf
  | .secCipherJob m => m.wf
  | .secAuthChallenge m => m.wf
  | .secDebugUnlock m => m.wf
  | .fwdSetPort m => m.wf
  | .fwdRouteSet m => m.wf
  | .fwdAclSet m => m.wf
  | .fwdNatSet m => m.wf
  | .fwdFlowQuery m => m.wf
  | .ethGetCounters m => m.wf
  | .ethSetWol m => m.wf
  | .ethSetMacsec m => m.wf
  | .fwdVlanSet m => m.wf
  | .queSetShaper m => m.wf
  | .queSetPolicer m => m.wf
  | .queSetGcl m => m.wf
  | .queSetSampler m => m.wf
  | .queReadSamples m => m.wf
  | .queMap m => m.wf
  | .timGet m => m.wf
  | .timAdjust m => m.wf
  | .timSetPtp m => m.wf
  | .timSetJumpLimit m => m.wf
  | .memGetInfo m => m.wf
  | .cfgCommit m => m.wf
  | .cfgRead m => m.wf
  | .cvuRun m => m.wf
  | .evrGetInfo m => m.wf
  | .evrSetPolicy m => m.wf
  | .evrClear m => m.wf
  | .diagRun m => m.wf
  | .evrRead m => m.wf
  | .dspLoadKernel m => m.wf
  | .dspRun m => m.wf
  | .tdsSetHostRing m => m.wf
  | .tdsGetStats m => m.wf
  | .drzSetChannel m => m.wf
  | .drzSetCsl m => m.wf
  | .drzSetMesh m => m.wf
  | .drzSend m => m.wf
  | .drzNodeSet m => m.wf
  | .fltGetInfo m => m.wf
  | .fltSetFloor m => m.wf
  | .fltContextExport m => m.wf
  | .fltContextImport m => m.wf
  | .fltSetKey m => m.wf
  | .fwuBegin m => m.wf
  | .fwuData m => m.wf
  | .fwuCommit m => m.wf
  | .fwuActivate m => m.wf
  | .tstBist m => m.wf
  | .tstLoopback m => m.wf
  | .hostDoorbellWrite _ => true
  | .devDoorbellClear _ => true
  | .irqMaskWrite _ => true
  | .evtConsWrite _ => true
  | .resetCtlDeviceReset _ boot => boot.wf
  | .resetCtlFullReset _ boot => boot.wf
  | .evrCursorWrite _ => true
  | .evrWindowAutoAdvance => true
  | .ringProdWrite ring _ => decide (ring < 33)
  | .ringConsWrite ring _ => decide (ring < 34)
  | .ringEnable ring _ => decide (ring < 34)
  | .ringDisable ring _ => decide (ring < 34)
  | .ringDropsRead ring => decide (ring < 34)
  | .cvuInit unit _ => decide (unit < 4)
  | .cvuDataWrite unit data => decide (unit < 4) && (data.length == 1 || data.length == 2 || data.length == 4)
  | .cvuFinish unit _ => decide (unit < 4)
  | .registerWrite space offset width _ boot => space.wf && decide (offset < 2 ^ 32) && (width == 1 || width == 2 || width == 4) && boot.wf
  | .accessOffBlock domain addr src _ => decide (domain < 11) && decide (addr < 2 ^ 28) && decide (src < 4)
  | .powerOnReset boot => boot.wf
  | .vinAonLoss => true
  | .aonBrownout boot => boot.wf
  | .perstNAssert => true
  | .functionLevelReset boot => boot.wf
  | .test0Hold cause => decide (cause < 4)
  | .pciD3hotEntry => true
  | .pciD0Return => true
  | .mpxRelease => true
  | .umpReady _ _ _ _ _ _ => true
  | .fwuTrialReset boot => boot.wf
  | .lifecycleReset boot => boot.wf
  | .hostWakeNWake _ => true
  | .gpioWake gpio _ _ => decide (gpio < 16)
  | .aonTimerWake _ _ => true
  | .wakePatternMatch port _ _ => decide (port < 5)
  | .magicPacketMatch port _ _ => decide (port < 5)
  | .drizzleWakeFrame _ _ => true
  | .mgtHostWakeFrame _ _ => true
  | .pwrTransitionBegin _ => true
  | .wakeStepReady boot => boot.wf
  | .wakeStepTimeout boot => boot.wf
  | .wakeRetryDelayExpiry => true
  | .limpFirmwareReady _ => true
  | .thermalLevelChange sensor _ => decide (sensor < 256)
  | .thermalTrip sensor _ => decide (sensor < 256)
  | .thermalRearm _ => true
  | .xt32Loss => true
  | .xt32Started => true
  | .xt32StartTimeout => true
  | .avsPmbusStep _ _ => true
  | .avsWriteRetry _ => true
  | .heartbeatTick => true
  | .operatingSecondTick => true
  | .timeNsWrap => true
  | .ppsOutSecond => true
  | .ppsOutWidthEnd => true
  | .ppsInCapture _ => true
  | .ppsInLoss => true
  | .ptpMessageReceive port _ _ => decide (port < 5)
  | .servoMeasurement _ _ => true
  | .announceTimeout => true
  | .slewDone => true
  | .ptpMessageSend port _ => decide (port < 5)
  | .synthLock slice lockUs => decide (slice < 3) && decide (lockUs < 65536)
  | .synthLockRetry slice _ lockUs => decide (slice < 3) && decide (lockUs < 65536)
  | .tuningCalibrationDone slice _ _ calUs _ => decide (slice < 3) && decide (calUs < 65536)
  | .channelChangeApply slice _ => decide (slice < 3)
  | .cacElapsed slice => decide (slice < 3)
  | .radarDetected slice _ => decide (slice < 3)
  | .radarChannelMove slice _ => decide (slice < 3)
  | .nonOccupancyEnd _ _ => true
  | .txDeferExpiry slice ac => decide (slice < 3) && decide (ac < 4)
  | .txTmoExpiry slice => decide (slice < 3)
  | .calibrationDue slice _ _ => decide (slice < 3)
  | .calibrationStepStart slice => decide (slice < 3)
  | .calibrationStepDone slice _ _ => decide (slice < 3)
  | .haloTrainingTick => true
  | .haloTrainingDone victim aggressor _ _ => decide (victim < 3) && decide (aggressor < 3)
  | .haloFallback a b => decide (a < 3) && decide (b < 3)
  | .iqCaptureTrigger slice => decide (slice < 3)
  | .iqCaptureDone slice _ _ _ => decide (slice < 3)
  | .selfTestDone slice _ _ => decide (slice < 3)
  | .lstfDetection slice _ => decide (slice < 3)
  | .dsssDetection slice _ => decide (slice < 3)
  | .captureRestart slice _ _ _ => decide (slice < 3)
  | .tbGainPreset slice _ => decide (slice < 3)
  | .tbWindowEnd slice => decide (slice < 3)
  | .ppduRxEnd slice => decide (slice < 3)
  | .mpduReceive slice _ => decide (slice < 3)
  | .ldpcEngineStart _ => true
  | .codewordDone _ _ _ => true
  | .turboPassStart _ => true
  | .lateWindowExpiry _ => true
  | .responseFreeze slice => decide (slice < 3)
  | .sifsResponseTx slice us format rate _ _ => decide (slice < 3) && decide (us < 65536) && decide (format < 2) && decide (rate < 8)
  | .micVerdict _ => true
  | .reorderHoleTimeout station tid => decide (station < 2048) && decide (tid < 8)
  | .blockackreqReceive slice station tid _ => decide (slice < 3) && decide (station < 2048) && decide (tid < 8)
  | .reassemblyTimeout station tid => decide (station < 2048) && decide (tid < 8)
  | .cumulusElementReceive station _ _ _ _ _ => decide (station < 2048)
  | .softEntryUsable peer _ => decide (peer < 2048)
  | .softEntryExpiry peer _ => decide (peer < 2048)
  | .edcaBackoffEnd slice _ _ => decide (slice < 3)
  | .beaconTbtt bss _ => decide (bss < 48)
  | .ppduFixPoint slice _ => decide (slice < 3)
  | .ppduTxStart slice _ _ => decide (slice < 3)
  | .coexGrantSample slice _ => decide (slice < 3)
  | .ctsReceive slice _ => decide (slice < 3)
  | .ctsTimeout slice => decide (slice < 3)
  | .ackReceive slice _ => decide (slice < 3)
  | .ackTimeout slice => decide (slice < 3)
  | .mpduLifetimeExpiry _ _ _ => true
  | .txopEnd slice => decide (slice < 3)
  | .managementFrameReceive _ => true
  | .psPollReceive slice station => decide (slice < 3) && decide (station < 2048)
  | .uapsdTrigger slice station ac _ => decide (slice < 3) && decide (station < 2048) && decide (ac < 4)
  | .inactivityTimeout station => decide (station < 2048)
  | .twtRequestReceive station _ _ bss _ _ _ _ => decide (station < 2048) && decide (bss < 48)
  | .twtServicePeriodStart _ _ _ => true
  | .twtServicePeriodEnd _ _ _ => true
  | .emlsrExchangeEnd station => decide (station < 2048)
  | .emlsrTransitionEnd station => decide (station < 2048)
  | .ftmRequestReceive slice mac _ => decide (slice < 3) && decide (mac < 2 ^ 48)
  | .brimStart => true
  | .planCommit _ _ _ => true
  | .windowBoundary => true
  | .fillTxopAppend _ => true
  | .stagingStart slice => decide (slice < 3)
  | .crownOpComplete station _ _ => decide (station < 2048)
  | .holdMpduExpiry station => decide (station < 2048)
  | .lingerExpiry station => decide (station < 2048)
  | .thrashCheck => true
  | .crownEntryLost station => decide (station < 2048)
  | .beamformingReportReceive station _ _ _ => decide (station < 2048)
  | .portSignalDetect port => decide (port < 5)
  | .portBringupDone port => decide (port < 5)
  | .portBringupFail port => decide (port < 5)
  | .portBringupRetry port => decide (port < 5)
  | .portSignalLoss port => decide (port < 5)
  | .mdioPoll _ _ speed => decide (speed < 256)
  | .ethFrameReceive port _ _ => decide (port < 5)
  | .pauseFrameReceive port quanta => decide (port < 5) && decide (quanta < 65536)
  | .pfcFrameReceive port enable quanta => decide (port < 5) && decide (enable < 256) && (quanta.length == 8)
  | .pauseTimeExpiry port mask => decide (port < 5) && decide (mask < 256)
  | .pauseRefresh port priority => decide (port < 5) && decide (priority < 8)
  | .holdFifoHeadTimeout port prio => decide (port < 5) && decide (prio < 8)
  | .macsecIcvVerdict port _ _ => decide (port < 5)
  | .fwePacketLookup _ prio => decide (prio < 8)
  | .emacTxStart port => decide (port < 5)
  | .emacTxEnd port => decide (port < 5)
  | .flowSetupDone core _ => decide (core < 16)
  | .flowAgeOut index => decide (index < 262144)
  | .macAgeOut vlan addr => decide (vlan < 4095) && decide (addr < 2 ^ 48)
  | .nextHopResolveRetry iface addr => decide (iface < 4095) && decide (addr < 2 ^ 128)
  | .nextHopUnreachableEnd iface addr => decide (iface < 4095) && decide (addr < 2 ^ 128)
  | .natFragmentExpiry _ _ _ => true
  | .shaperRefill shaper => decide (shaper < 4096)
  | .policerRefill policer => decide (policer < 4096)
  | .gclBaseTime port => decide (port < 5)
  | .gclEntryAdvance port => decide (port < 5)
  | .samplerTick _ => true
  | .eventDelivery _ => true
  | .umpFrameReceive mac _ _ index _ => decide (mac < 2 ^ 48) && decide (index < 65536)
  | .puntEntryFill ring _ _ => decide (ring < 16)
  | .injectEntryProcess ring _ _ _ => decide (ring < 34)
  | .injectCompletion ring => decide (ring < 34)
  | .ringCoalesceTimeout ring => decide (ring < 34)
  | .dmaRetry _ _ _ => true
  | .workItemConsume _ _ _ => true
  | .workItemStart core => decide (core < 20)
  | .workItemEnd core _ => decide (core < 20)
  | .threadReady group _ priority _ => decide (group < 4) && decide (priority < 64)
  | .timeSliceExpiry group core => decide (group < 4) && decide (core < 2)
  | .firmwareCoreHalt core cause pc => decide (core < 28) && decide (cause < 3) && decide (pc < 2 ^ 32)
  | .kernelCycleLimit core => decide (core < 4)
  | .bundleIssue core => decide (core < 4)
  | .loopCountExpiry core => decide (core < 4)
  | .drzFrameReceive _ => true
  | .drzCsmaBackoffEnd _ us _ => decide (us < 65536)
  | .drzAckReceive _ _ _ us _ => decide (us < 65536)
  | .drzAckTimeout => true
  | .drzCslSample => true
  | .drzRendezvousStart us _ => decide (us < 65536)
  | .drzFloodRelay origin seq => decide (origin < 65536) && decide (seq < 65536)
  | .drzSeenCacheAging origin seq => decide (origin < 65536) && decide (seq < 65536)
  | .drzChannelChangeApply => true
  | .saeCommitReceive bss addr _ _ => decide (bss < 48) && decide (addr < 2 ^ 48)
  | .saeConfirmReceive bss addr _ _ => decide (bss < 48) && decide (addr < 2 ^ 48)
  | .eapolKeyReceive station _ _ _ => decide (station < 2048)
  | .fourwayRetryTimeout station => decide (station < 2048)
  | .groupRekeyDue bss _ => decide (bss < 48)
  | .groupKeyRetryTimeout bss station => decide (bss < 48) && decide (station < 2048)
  | .groupKeySwitch bss => decide (bss < 48)
  | .radiusResponseReceive station _ _ _ _ _ _ => decide (station < 2048)
  | .radiusTimeout station => decide (station < 2048)
  | .radiusDeadTimeEnd profile _ => decide (profile < 8)
  | .eapTimeout station => decide (station < 2048)
  | .pmksaExpiry addr ap => decide (addr < 2 ^ 48) && decide (ap < 2 ^ 48)
  | .hatboxJobDone code _ _ _ _ => decide (code < 65536)
  | .keyWriteComplete handle => decide (handle < 65536)
  | .challengeExpiry => true
  | .debugDurationExpiry => true
  | .trngHealthFail _ => true
  | .ftAuthReceive bss addr _ => decide (bss < 48) && decide (addr < 2 ^ 48)
  | .contextStagingExpiry addr => decide (addr < 2 ^ 48)
  | .dramDriftDetect chan _ => decide (chan < 4)
  | .dramRetrainStep chan _ => decide (chan < 4)
  | .dramRefresh chan bank => decide (chan < 4) && decide (bank < 16)
  | .eccReadRetry _ reader _ _ => decide (reader < 6)
  | .patrolScrub _ _ _ => true
  | .mramWriteRetry _ _ => true
  | .cfgBankWritten _ _ => true
  | .evrRecordWrite => true
  | .evrRateWindowClose code => decide (code < 65536)
  | .evrClearDone => true
  | .diagRunDone _ _ _ _ _ _ _ => true
  | .tstDone _ _ _ _ _ _ _ => true
  | .kernelLoadDone _ => true
  | .fwuDataWritten _ => true
  | .fwuCommitChecked _ _ _ => true
  | .eventSuppressionPeriod code _ => decide (code < 65536)
  | .ppduTxEnd slice => decide (slice < 3)
  | .drzFrameTxEnd us _ => decide (us < 65536)
  | .uartFrameReceive _ => true
  | .perstNRelease => true
  | .pcieLinkUp => true
  | .evrStatRead => true

end Sys2Proof
end

