-- ==== Sys2Proof/Tests/Slice0.lean ====
section
/-! SUPPORT. Tests: concrete states and operands that meet the hypotheses of every obligation, clause by clause; ill-formed terms
that WellFormed refuses; and worked examples of the spec. -/
namespace Sys2Proof.Tests
open Sys2Proof.Machine
set_option linter.unusedSimpArgs false
set_option Elab.async false

/-- Arrives as a check. -/
def arrivesB (code : Nat) (u : Ump) (s : State) : Bool :=
  s.mbox.cmdQueue.isEmpty && carries u.via s && (headerStatus code u s == none) &&
  match u.via with
  | .pcie n => decide (n < 16) && reachable s && decide (s.mbox.slots.getD n .free = .free)
  | .mgt mac => stored mac u.tag s == none
  | .uart => true

theorem arrives_iff (code : Nat) (u : Ump) (s : State) : Arrives code u s ↔ arrivesB code u s = true := by
  unfold Arrives arrivesB
  cases h : u.via <;> simp [and_assoc, List.isEmpty_iff]

theorem mailboxInv_iff (s : State) : MailboxInv s ↔ (Cells.wf s.mbox.mem && s.mbox.slots.length == 16) = true := by
  simp [MailboxInv]

theorem clear_iff (code : Nat) (async : Bool) (locks : List Obj) (s : State) :
    Clear code async locks s ↔ (gate code async locks s).all (fun c => !c.1) = true := Iff.rfl

/-- A command over PCIe slot 0 with its payload in the message. -/
def cmd (payload : Bytes) : Ump :=
  { via := .pcie 0, length := payload.length, crc := if payload.length = 0 then 0 else crc32c payload, payload := payload }

/-- A command over PCIe slot 0 whose data stand in host memory at address 0. -/
def cmdX (data : Bytes) : Ump :=
  { cmd (leBytes 8 0 ++ leBytes 4 data.length ++ leBytes 4 (crc32c data)) with flags := 2, env := { ext := data } }

/-- The device in RUN after its firmware has started, the PCIe link up. -/
def ready : State :=
  { State.reset with
      power := { Power.reset with domains := 0x7FF, stage := 4, xt32Starting := false, image := 0 }
      pcie := { Pcie.reset with linkUp := true } }

/-- A bounded claim over numbers as one over a list, which is decided by evaluation. -/
theorem forall_lt_iff (n : Nat) (P : Nat → Prop) : (∀ k, k < n → P k) ↔ ∀ k ∈ List.range n, P k := by simp

/-- Arrives as a check that leaves out the CRCs. -/
def arrivesC (code : Nat) (u : Ump) (s : State) : Bool :=
  s.mbox.cmdQueue.isEmpty && carries u.via s && u.type == 1 && (servedCodes s.power.stage).contains code &&
  !(decide (240 < u.length) || bit u.flags 1 != extInCodes.contains code || (bit u.flags 1 && u.length != 16)
    || u.payload.length != u.length) &&
  !(bit u.flags 1 && (descLen u.payload == 0 || decide (1048576 < descLen u.payload) || descAddr u.payload % 4 != 0)) &&
  !(bit u.flags 1 && decide (u.env.dma = .lasting)) && !(bit u.flags 1 && u.env.ext.length != descLen u.payload) &&
  match u.via with
  | .pcie n => decide (n < 16) && reachable s && decide (s.mbox.slots.getD n .free = .free)
  | .mgt mac => stored mac u.tag s == none
  | .uart => true

theorem leNat_leBytes (n v : Nat) : leNat (leBytes n v) = v % 256 ^ n := by
  induction n generalizing v with
  | zero => simp [leBytes, leNat, Nat.mod_one]
  | succ n ih =>
    simp only [leBytes, leNat, ih, BitVec.toNat_ofNat]
    rw [show 256 ^ (n + 1) = 256 * 256 ^ n from Nat.pow_succ', Nat.mod_mul (a := 256)]

theorem crc32c_lt (b : Bytes) : crc32c b < 256 ^ 4 := (cvFeed 1 (cvInit 1) b ^^^ cvXor 1).isLt

theorem length_leBytes (n v : Nat) : (leBytes n v).length = n := by
  induction n generalizing v with
  | zero => rfl
  | succ n ih => simp [leBytes, ih]

theorem descCrc_cmdX (d : Bytes) : descCrc (cmdX d).payload = crc32c d := by
  have h : ((leBytes 8 0 ++ leBytes 4 d.length ++ leBytes 4 (crc32c d)).drop 12).take 4 = leBytes 4 (crc32c d) := by
    rw [List.drop_left' (by simp [length_leBytes])]
    exact List.take_of_length_le (by simp [length_leBytes])
  show leNat (((leBytes 8 0 ++ leBytes 4 d.length ++ leBytes 4 (crc32c d)).drop 12).take 4) = _
  rw [h, leNat_leBytes, Nat.mod_eq_of_lt (crc32c_lt d)]

theorem arrives_of_crc (code : Nat) (u : Ump) (s : State) (h : u.crc = if u.length = 0 then 0 else crc32c u.payload)
    (hx : bit u.flags 1 = true → crc32c u.env.ext = descCrc u.payload) :
    Arrives code u s ↔ arrivesC code u s = true := by
  rw [arrives_iff]
  have hx' : (bit u.flags 1 && (u.env.ext.length != descLen u.payload || crc32c u.env.ext != descCrc u.payload)) =
      (bit u.flags 1 && u.env.ext.length != descLen u.payload) := by
    cases hb : bit u.flags 1
    · rfl
    · simp [hx hb]
  have hh : (headerStatus code u s == none) = (u.type == 1 && (servedCodes s.power.stage).contains code &&
      !(decide (240 < u.length) || bit u.flags 1 != extInCodes.contains code || (bit u.flags 1 && u.length != 16)
        || u.payload.length != u.length) &&
      !(bit u.flags 1 && (descLen u.payload == 0 || decide (1048576 < descLen u.payload) || descAddr u.payload % 4 != 0)) &&
      !(bit u.flags 1 && decide (u.env.dma = .lasting)) && !(bit u.flags 1 && u.env.ext.length != descLen u.payload)) := by
    simp only [headerStatus, headerChecks, hx', h, bne_self_eq_false, List.find?]
    generalize (servedCodes s.power.stage).contains code = a
    generalize (decide (240 < u.length) || bit u.flags 1 != extInCodes.contains code ||
      (bit u.flags 1 && u.length != 16) || u.payload.length != u.length) = b
    generalize (bit u.flags 1 && (descLen u.payload == 0 || decide (1048576 < descLen u.payload)
      || descAddr u.payload % 4 != 0)) = c
    generalize (bit u.flags 1 && decide (u.env.dma = .lasting)) = d
    generalize (bit u.flags 1 && u.env.ext.length != descLen u.payload) = e
    simp only [bne]
    generalize (u.type == 1) = f
    cases a <;> cases b <;> cases c <;> cases d <;> cases e <;> cases f <;> rfl
  unfold arrivesB arrivesC
  rw [hh]
  simp only [Bool.and_assoc]

theorem arrives_cmd (code : Nat) (p : Bytes) (s : State) :
    Arrives code (cmd p) s ↔ arrivesC code (cmd p) s = true :=
  arrives_of_crc code (cmd p) s rfl (fun h => absurd h (by show ¬ bit 0 1 = true; decide))

theorem length_cmdX (d : Bytes) : (cmdX d).length = 16 := by
  show (leBytes 8 0 ++ leBytes 4 d.length ++ leBytes 4 (crc32c d)).length = 16
  simp [length_leBytes]

theorem arrives_cmdX (code : Nat) (d : Bytes) (s : State) :
    Arrives code (cmdX d) s ↔ arrivesC code (cmdX d) s = true :=
  arrives_of_crc code (cmdX d) s rfl (fun _ => (descCrc_cmdX d).symm)

theorem forall_between_iff (a b : Nat) (P : Nat → Prop) :
    (∀ k, a ≤ k → k ≤ b → P k) ↔ ∀ k ∈ List.range (b + 1), a ≤ k → P k := by
  simp only [List.mem_range, Nat.lt_succ_iff]
  exact ⟨fun h k hb ha => h k ha hb, fun h k ha hb => h k hb ha⟩
/-- An async command with tag 7 that came over PCIe slot 1. -/
def pending (code : Nat) (locks : List Obj) (past : Bool) : AsyncCmd := ⟨.pcie 1, 7, code, locks, past, false, [], []⟩

/-- A state with one more async command outstanding. -/
def outstanding (code : Nat) (locks : List Obj) (past : Bool) (s : State) : State :=
  onMbox (fun m => { m with async := m.async ++ [pending code locks past] }) s

/-- `ready` with the power manager changed. -/
def readyP (f : Power → Power) : State := onPower f ready

/-- `ready` with an image that passes the checks of R299 in both slots. -/
def imaged : State := { ready with fwu := { ready.fwu with slotA := ⟨0, 1, 0, 0⟩, slotB := ⟨0, 2, 0, 0⟩ } }

/-- `ready` with a port changed. -/
def readyPort (p : Nat) (f : Port → Port) (s : State) : State :=
  { s with wire := { s.wire with ports := Tab.put s.wire.ports p (f (port p s)) } }

/-- `ready` with port 0 UP. -/
def port0Up : State := readyPort 0 (fun p => { p with state := .up }) ready

/-- A message whose length field names a byte its payload does not have. -/
def short : Ump := { cmd [1, 2, 3, 4] with length := 5 }

/-- The same command again with another tag. -/
def other : Ump := { cmd [] with tag := 1 }

/-- A command that comes over MGT. -/
def overMgt : Ump := { cmd [] with via := .mgt 0x020000000001, tag := 9 }

/-- `ready` with MGT UP. -/
def mgtUpState : State := readyPort 4 (fun p => { p with state := .up }) ready

/-- The state after one step that serves a heartbeat. -/
def heart : State := onMbox (fun m => { m with heartbeat := 1 }) ready

/-- The bytes of a fixed record, once seen. -/
def fixedBytes : Bytes := occBytes ⟨0x0101, [1, 2, 3, 4], true, false, false, true, 5, 6, 7, []⟩ false

/-- A recorder whose newest record is the one of `fixedBytes`. -/
def seenOnce : Recorder := { Recorder.reset with count := 4, newest := some 3, records := [⟨3, true, 0, 16, fixedBytes, 0⟩] }

/-- The same occurrence a second later. -/
def again : Occurrence := ⟨0x0101, [1, 2, 3, 4], true, false, false, true, 6, 0, 8, []⟩

/-- `ready` with a valid configuration bank A. -/
def banked : State := onMem (fun m => { m with bankA := { (⟨0x4746435A, 1, 1, 0, 0, []⟩ : CfgBank) with crc := bankCrc ⟨0x4746435A, 1, 1, 0, 0, []⟩ } }) ready

/-- Channel 1 of the 2.4 GHz band, 20 MHz wide. -/
def ch1 : Channel := ⟨0, 2412, 0, 0⟩

/-- Channel 52 of the 5 GHz band, 20 MHz wide. -/
def ch52 : Channel := ⟨0, 5260, 0, 0⟩

/-- `ready` with a package that permits 20 MHz channels in 2.4 GHz, and in 5 GHz with the DFS flag. -/
def regulated : State :=
  { ready with radio := { ready.radio with rdp := some (⟨0, 5, [⟨0, 1, 2400, 2483, 80, 40, 0, 0⟩, ⟨1, 1, 5150, 5350, 92, 40, 1, 0⟩],
      some (60, 60, 1000, 1800), []⟩ : Rdp) } }

/-- Slice 0 in a state on a channel. -/
def sliceIn (st : SliceState) (c : Channel) (s : State) : State :=
  onSlice 0 (fun x => { x with state := st, channel := some c, requested := some c, rx := .search }) s

/-- Slice 0 READY on channel 1. -/
def radioReady : State := sliceIn .ready ch1 regulated

/-- Slice 0 STOPPED. -/
def radioStopped : State := onSlice 0 (fun x => { x with state := .stopped }) regulated

/-- Slice 0 in TUNING. -/
def tuningTo (t : Tuning) : State := onSlice 0 (fun x => { x with state := .tuning, tuning := some t }) regulated

/-- BSS 0: open, on slice 0. -/
def bss0 : Bss :=
  newBss 0 (cmd (List.replicate 1 0 ++ [255, 0, 0, 2, 0, 0, 0, 0, 1] ++ List.replicate 6 0 ++ [0, 1, 97] ++ List.replicate 31 0
    ++ leBytes 2 100 ++ [1, 0] ++ leBytes 2 16 ++ leBytes 2 1 ++ [0xFF, 0xFF, 255, 0, 0, 0])) ready

/-- Station 0: associated on slice 0. -/
def station0 : Station := { newStation { bss := 0, addr := 0x020000000002 } bss0 ready with state := 3 }

/-- Slice 0 READY, BSS 0 and station 0 on it. -/
def serving : State :=
  { radioReady with air := { radioReady.air with bss := [(0, bss0)], stations := [(0, station0)] } }

/-- Station 0 changed. -/
def withStation (f : Station → Station) : State := onStation 0 f serving

/-- The milliner changed. -/
def withMls (f : Milliner → Milliner) (s : State) : State := { s with mls := f s.mls }

/-- A sealed blob of a kind, with a body of zeros. -/
def blob (kind n : Nat) : Bytes :=
  leBytes 4 0x314C4553 ++ [1, BitVec.ofNat 8 kind] ++ leBytes 2 1 ++ leBytes 4 1 ++ leBytes 2 n ++ List.replicate (82 + n) 0

/-- An authorisation token of a purpose with a scope and minutes, over the challenge of zeros. -/
def token (purpose scope minutes : Nat) : Bytes :=
  leBytes 2 0x5A54 ++ [1, BitVec.ofNat 8 purpose] ++ leBytes 2 scope ++ leBytes 2 minutes ++ List.replicate 228 0

/-- A device in a lifecycle whose root-key hash is a token's and whose challenge is outstanding. -/
def trusting (l : Lifecycle) (t : Bytes) : State :=
  onSec (fun c => { c with lifecycle := l, otpLifecycle := l, restricted := false, challenge := some (List.replicate 32 0, 600000000000),
                           rootHash := tokenHash t, debugScope := 0 }) ready

/-- A provisioned device. -/
def provisioned : State := trusting .provisioned []

/-- A record in the recorder's store. -/
def record0 : EvrRecord := ⟨3, true, 0, 16, fixedBytes, 0⟩

/-- Time set and running. -/
def timeSet : State := onClock (fun c => { c with isSet := true }) ready

/-- A region package with one channel rule: header of 32 bytes, records, signatures. -/
def regionPackage : Bytes :=
  leBytes 4 0x50445252 ++ leBytes 2 1 ++ [0x41, 0x54] ++ leBytes 4 9 ++ leBytes 4 14 ++ List.replicate 16 0
    ++ [1, 12, 0, 1] ++ leBytes 2 2400 ++ leBytes 2 2483 ++ leBytes 2 80 ++ leBytes 2 40 ++ [0, 0] ++ List.replicate 7376 0

/-- A limit table of one entry. -/
def limitTable : Bytes :=
  let e : Bytes := [2, 31] ++ leBytes 2 5955 ++ leBytes 2 7115 ++ leBytes 2 80 ++ leBytes 2 40 ++ leBytes 2 1000 ++ leBytes 4 0
  leBytes 2 0x4C4C ++ [3, 1] ++ List.replicate 8 0 ++ leBytes 4 (crc32c e) ++ e

/-- A broadcast TWT schedule. -/
def sched : TwtSchedule := ⟨0, 1, 31, 0, 1, 255, 10000000, 0, 255⟩

/-- A cipher job under key 63 on one byte. -/
def cipherJob : Bytes :=
  [0, 2, 63, 16, 0, 0, 0, 0] ++ leBytes 4 1 ++ leBytes 4 0 ++ leBytes 8 4096 ++ List.replicate 17 0

/-- The same command where the signature does not verify. -/
def badSig (u : Ump) : Ump := { u with env := { u.env with sig := false } }

theorem arrives_badSigX (code : Nat) (d : Bytes) (s : State) :
    Arrives code (badSig (cmdX d)) s ↔ arrivesC code (badSig (cmdX d)) s = true :=
  arrives_of_crc code (badSig (cmdX d)) s rfl (fun _ => (descCrc_cmdX d).symm)

theorem length_token (p q m : Nat) : (token p q m).length = 236 := by
  unfold token
  simp only [List.length_append, length_leBytes, List.length_replicate, List.length_cons, List.length_nil]

theorem tokenField_hash (a b c d : Byte) (p q m : Nat) (l : Lifecycle) :
    tokenHash (field (cmd ([a, b, c, d] ++ token p q m)).data 4 236) = (trusting l (token p q m)).sec.rootHash := by
  have h : field (cmd ([a, b, c, d] ++ token p q m)).data 4 236 = token p q m := by
    have hd : (cmd ([a, b, c, d] ++ token p q m)).data = [a, b, c, d] ++ token p q m := by
      unfold Ump.data
      exact if_neg (show ¬ bit 0 1 = true by decide)
    unfold field
    rw [hd]
    rw [List.drop_left' (show [a, b, c, d].length = 4 from rfl)]
    exact List.take_of_length_le (Nat.le_of_eq (length_token _ _ _))
  rw [h]
  rfl

theorem arrives_badSig (code : Nat) (p : Bytes) (s : State) :
    Arrives code (badSig (cmd p)) s ↔ arrivesC code (badSig (cmd p)) s = true :=
  arrives_of_crc code (badSig (cmd p)) s rfl (fun h => absurd h (by show ¬ bit 0 1 = true; decide))

/-- Slices 0 and 1 READY in one band, with valid coefficients both ways. -/
def fallingBack : State :=
  onHalo 1 0 (fun h => { h with valid := true }) (onHalo 0 1 (fun h => { h with valid := true })
    (onSlice 1 (fun x => { x with state := .ready, channel := some ⟨0, 5500, 0, 0⟩ }) (sliceIn .ready ⟨0, 5200, 0, 0⟩ regulated)))

/-- BSS 0 with a password credential. -/
def secured : State :=
  onSec (fun c => { c with restricted := false, lifecycle := .provisioned, otpLifecycle := .provisioned
                           credentials := [(0, ⟨1, 1, 1, [112]⟩)], radius := [(0, ⟨[0, 0, 0, 5], [], (false, false)⟩)] })
    (onBss 0 (fun b => { b with security := 1, credential := 0, radius := 0 }) serving)

/-- `secured` with the security group changed. -/
def securedS (f : Sec → Sec) : State := onSec f secured

/-- `secured` with station 0 changed. -/
def securedStation (f : Station → Station) : State := onStation 0 f secured

/-- A staged context of the station of address 5. -/
def staged5 : StagedContext := ⟨5, 0, 0, 1, 100, []⟩

/-- `provisioned` in a fleet with epoch 3, station 0 on it. -/
def inFleet : State :=
  { secured with fleet := { secured.fleet with id := 7, epoch := 3, keys := [(3, [1])] } }

/-- A sealed station context of fleet 7 with a body of one byte. -/
def context : Bytes :=
  leBytes 4 0x58435A46 ++ [6, 3] ++ leBytes 2 7 ++ leBytes 2 3 ++ leBytes 2 1 ++ List.replicate 53 0

/-- `imaged` with the update state changed. -/
def updating (f : Fwu → Fwu) : State := onFwu f imaged

/-- VLAN 1: a router interface with NAT, all ports members. -/
def vlan1 : Vlan := ⟨0x90, 31, 31, 0x020000000001, (0x0A000001, 24), (0, 0), 1500⟩

/-- `ready` with VLAN 1. -/
def routed : State := { ready with wire := { ready.wire with vlans := [(1, vlan1)] } }

/-- `routed` with the forwarding group changed. -/
def routedW (f : Wire → Wire) : State := onWire f routed

/-- A default route. -/
def route0 : Route := ⟨4, 0, 0, 1, 1, 0x0A000002⟩

/-- A flow from 10.0.0.2 port 1000 to 10.0.0.3 port 80. -/
def flow0 : Flow := ⟨1, 4, 6, 0, 0x0A000002, 0x0A000003, 1000, 80, 0, 0, 0, 0, 0, 0⟩

/-- The queue engine changed. -/
def readyQ (f : Qme → Qme) : State := onQme f serving

/-- A packet shaper, idle. -/
def shaper0 : Shaper := ⟨⟨0, 64, 64, 1, 0, 1⟩, none, 64, 0, 64, false, [], []⟩

/-- A policer, idle. -/
def policer0 : Policer := ⟨⟨0, 64, 64, 1518, 1518, 0, 2⟩, none, 0, 0, (0, 0), [], 0, 0, 0, 0⟩

/-- A gate list of two entries. -/
def gcl0 : Gcl := ⟨200000, 1000, [(255, 500), (1, 400)]⟩

/-- An event. -/
def event0 : Event := ⟨0x0101, 0, 0, [1], none⟩

/-- A ring running with one entry. -/
def ringOn (r : Nat) : State := onRing r (fun q => { q with enable := true, prod := 1, idle := false }) serving

/-- A punted frame waits on host queue 0. -/
def puntWaits : State :=
  onQueue 16464 (fun q => { q with frames := [{ ingress := 0, bytes := List.replicate 60 1 }] }) (ringOn 0)

/-- A ring entry with a length, a mode, an object and a priority. -/
def ringEntry (len mode obj prio : Nat) : Bytes :=
  leBytes 8 0x1000 ++ leBytes 2 len ++ leBytes 1 0 ++ leBytes 1 mode ++ leBytes 2 obj ++ leBytes 1 prio ++ leBytes 1 0

/-- A kernel image of one instruction. -/
def kernelImage : Bytes :=
  leBytes 4 0x4B4E4C5A ++ leBytes 2 1 ++ leBytes 2 9 ++ leBytes 4 1 ++ leBytes 4 8 ++ leBytes 4 0 ++ leBytes 4 0 ++ leBytes 4 0
    ++ List.replicate (4 + 8 + 7376) 0

/-- A work item. -/
def item0 (w : Work) : WorkItem := ⟨5, none, 0, 0, false, w⟩

/-- The dispatcher changed. -/
def readyT (f : Tds → Tds) : State := onTds f ready

/-- A thread at a priority. -/
def thread0 (id prio : Nat) : Thread := ⟨id, 1, prio, none, 0⟩

/-- A kernel run. -/
def run0 : KernelRun := ⟨0, 9, .pcie 1, 7, 64, 64, 0x1000, 100⟩

/-- Nimbus core 3 running, with bytes in its instruction memory. -/
def nimbusAt (code : Bytes) (f : NimbusCore → NimbusCore) : State :=
  setNimbus 3 (f { NimbusCore.reset with imem := Cells.writeAll [] 0 code, run := some run0 }) ready

/-- The low-rate radio on, a data frame for node 0 waiting. -/
def drzBase (f : Drz → Drz) : State :=
  onDrz (fun d => f { d with channel := { d.channel with flags := 1 }, channelNow := { d.channelNow with flags := 1 } }) ready

/-- A frame of the low-rate radio: a group frame at its first attempt. -/
def drzFrame : DrzFrame := ⟨1, 1, 0xFFFF, 0, 0xFFFF, 0, [1], none, 0, 0, 0, 0, 3, 0, 0, 0, (0, 0)⟩

/-- A node of the low-rate radio with extended address 5 under key 8192. -/
def node0 : DrzNode := ⟨0, 5, 0xFFFE, 8192, 0, none, false, 0, 0, 0, [], 0, 0, 0, 0⟩

/-- Station 0 in the Crown. -/
def inCrown : State := withMls (fun m => { m with crown := [⟨0, .pool, false, false, false⟩] }) serving

/-- A reception on slice 0. -/
def rx0 : Reception :=
  ⟨0, 4, 100, -60, 0, [-60, -60, -60, -60], 0, 0, 0, 0, true, true, false, false, false, false, 0, 0, 0, 5, 0, []⟩

/-- A station with one MPDU queued. -/
def mpdu0 : Mpdu := ⟨1, 0, 100, none, 0, none, 0, false, none, none, none⟩

/-- A TXOP of a planned PPDU to station 0. -/
def txop0 : Txop := ⟨1, 0, [0], 0, true, false, false, false, 0, [], [], false, 0, (0, 1), none⟩

/-- A non-HT vector at 20 MHz. -/
def vec0 : TxVector := ⟨1, 0, 1, 0, [], [], 0, 0⟩

/-- A PPDU fixed and sent. -/
def fixed0 (kind : Nat) : Fixed := ⟨kind, [0], [], [], 0, 100, vec0, .none, false, true, true⟩

/-- A LDPC codeword in an engine. -/
def codeword0 : Codeword := ⟨1, 0, 1, 0, 12, false, none⟩

/-- A frame received on port 0 with good FCS. -/
def wireFrame : Frame := { ingress := 0, bytes := [2, 0, 0, 0, 0, 9, 2, 0, 0, 0, 0, 8, 0x88, 0xB6] ++ List.replicate 46 0 }

/-- A TCP segment from 10.0.0.2 port 1000 to 10.0.1.3 port 80. -/
def segment : Bytes :=
  [2, 0, 0, 0, 0, 1, 2, 0, 0, 0, 0, 8, 8, 0, 0x45, 0, 0, 40, 0, 0, 0, 0, 64, 6, 0, 0, 10, 0, 0, 2, 10, 0, 1, 3]
    ++ [3, 232, 0, 80, 0, 0, 0, 0, 0, 0, 0, 0, 0x50, 2, 0, 0, 0, 0, 0, 0]

/-- Its tuple. -/
def tuple0 : Tuple := ⟨4, 6, 0x0A000002, 0x0A000103, 1000, 80⟩

/-- A core serves the set-up of its flow, whose frame is held. -/
def settingUp (f : Wire → Wire) : State :=
  onWire f (onWire (fun w => { w with held := [⟨tuple0, [{ ingress := 0, bytes := segment, vlan := 1 }]⟩]
                                      vlans := [(1, { vlan1 with flags := 0x10 }), (2, { vlan1 with v4 := (0x0A000101, 24) })] })
    (onTds (fun t => { t with service := [⟨0, item0 (.flow tuple0), 0⟩] }) ready))

/-- The air MACs changed. -/
def onAirGroup (f : Air → Air) (s : State) : State := { s with air := f s.air }

/-- A locked table of 1 permille duty over the 2.4 GHz band. -/
def limited : State :=
  { inCrown with radio := { inCrown.radio with llt := some [⟨0, 31, 2400, 2483, 80, 40, 1, 0⟩] } }

/-- The flow of `tuple0`. -/
def flow1 : Flow := { flow0 with dst := 0x0A000103 }

/-- The IP header of `segment`. -/
def segmentIp : Ip := (ipOf segment).get (by decide)

/-- An interface that translates and has no pool. -/
def natted : State :=
  settingUp (fun w => { w with vlans := [(1, { vlan1 with flags := 0x50 }), (2, { vlan1 with flags := 0x90, v4 := (0x0A000101, 24) })]
                               routes := [⟨4, 24, 0x0A000100, 0, 2, 0⟩], pools := [] })


theorem flowsFull_setup (n : Nat) (h : 262144 ≤ n) (s : State) (hs : s.wire.flows.length = n)
    (h1 : fromOutside 1 segmentIp s = false) (h2 : ifaceFlag 1 6 s = false) :
    setupFlow 1 tuple0 segmentIp 0 s = .full := by
  have hi : ∀ f, installFlow f s = none := fun f => by
    unfold installFlow
    rw [if_pos (by rw [hs]; exact h)]
  simp [setupFlow, hi, h1, h2]

/-- A flow table of `n` entries of one flow. -/
def flowsN (n : Nat) : State := settingUp (fun w => { w with flows := List.replicate n (0, flow0) })

/-- A flow table that is full. -/
@[irreducible] def fullFlows : State := flowsN 262144

theorem flowOf_flowsN (n : Nat) : flowOf tuple0 (flowsN n) = none := by
  have h1 : flowForward tuple0 flow0 = false := by decide
  have h2 : flowReverse tuple0 flow0 = false := by decide
  have h : (flowsN n).wire.flows = List.replicate n (0, flow0) := rfl
  cases n <;> simp [flowOf, h, List.find?_replicate, h1, h2]

theorem flowOf_fullFlows : flowOf tuple0 fullFlows = none := by
  rw [fullFlows]
  exact flowOf_flowsN 262144

theorem setup_flowsN (n : Nat) (h : 262144 ≤ n) :
    setupFlow 1 tuple0 segmentIp 0 (onWire (fun w => { w with held := w.held.filter fun z => z.key != tuple0 }) (start (flowsN n)))
      = .full :=
  flowsFull_setup n h _ List.length_replicate rfl rfl

theorem setup_fullFlows :
    setupFlow 1 tuple0 segmentIp 0 (onWire (fun w => { w with held := w.held.filter fun z => z.key != tuple0 }) (start fullFlows))
      = .full := by
  rw [fullFlows]
  exact setup_flowsN 262144 (Nat.le_refl _)

theorem noFlow (f : Port → Port) (h : (f (port 4 ready)).cfg.flow = 0) : ∀ q, (port q (readyPort 4 f ready)).cfg.flow = 0 := by
  intro q
  by_cases hq : q = 4
  · subst hq
    simp only [port, readyPort, Tab.getD_put]
    exact h
  · simp only [port, readyPort, Tab.getD_put_ne _ _ _ hq]
    have hp : ready.wire.ports =
        [(0, .reset false), (1, .reset false), (2, .reset false), (3, .reset false), (4, .reset true)] := rfl
    have hb : (q == 4) = false := by simpa using hq
    rw [hp, hb]
    simp only [Tab.getD, Tab.look]
    repeat' split
    all_goals rfl

theorem fit_len (n : Nat) (b : Bytes) : (fit n b).length = n := by simp [fit]; omega

theorem tlvEntry_len (k : Nat) (v : Bytes) : (tlvEntry k v).length = 2 + v.length := by
  simp [tlvEntry, leBytes]; omega

theorem contextKeys_len (x : Station) (b : Bss) : (contextKeys x b).length = 35 + 2 * x.pmk.length := by
  simp [contextKeys, fit_len, leBytes]; omega

theorem contextSession_len (x : Station) (b : Bss) (s : State) : (contextSession x b s).length = 10 + b.ssid.length := by
  simp [contextSession, leBytes]; omega

theorem contextBody_inFleet (f : Nat) : (contextBody 0 f inFleet).length ≤ 500 := by
  have h : station 0 inFleet = some station0 := by rfl
  have hb : bss (homeBss station0) inFleet = some ((bss 0 inFleet).getD bss0) := by rfl
  have hs : ((bss 0 inFleet).getD bss0).ssid.length ≤ 32 := by decide +kernel
  have ht : Tab.look inFleet.modem.peers 0 = none := by rfl
  have hk : station0.pmk = [] := by rfl
  have hr : station0.radiusClass = [] := by rfl
  have hc : (contextCaps station0).length = 8 := by rfl
  have hl : (contextLinks station0).length ≤ 100 := by decide +kernel
  have hw : contextTwt station0 = [] := by rfl
  unfold contextBody
  simp only [h, hb, ht, hw, hr, List.length_append, tlvEntry_len, contextKeys_len, contextSession_len, hk, hc,
    apply_ite List.length, List.append_nil]
  split <;> split <;> simp [leBytes] <;> omega
/-- Terms that break one check each are refused. -/
theorem test_wf_refuses_1 : (([.sysGetInfo { cmd [] with type := 256 }, .sysReset { cmd [] with type := 256 }, .sysGetStatus { cmd [] with type := 256 },
    .sysSetEventSink { cmd [] with type := 256 }, .sysAbort { cmd [] with type := 256 }, .pwrSetState { cmd [] with type := 256 },
    .pwrGetState { cmd [] with type := 256 }, .pwrSetWakeSources { cmd [] with type := 256 },
    .pwrSetPasr { cmd [] with type := 256 }, .radSetChannel { cmd [] with type := 256 }, .radGetStatus { cmd [] with type := 256 },
    .radCalibrate { cmd [] with type := 256 }, .radSetTxLimits { cmd [] with type := 256 }, .radSetStr { cmd [] with type := 256 },
    .radTunerCtl { cmd [] with type := 256 }, .radLoadRegdomain { cmd [] with type := 256 },
    .radSelfTest { cmd [] with type := 256 }, .radClearTxLock { cmd [] with type := 256 }, .radLockLlt { cmd [] with type := 256 },
    .radCaptureIq { cmd [] with type := 256 }, .bssCreate { cmd [] with type := 256 }, .bssDelete { cmd [] with type := 256 },
    .bssSetParams { cmd [] with type := 256 }, .staGet { cmd [] with type := 256 }, .staDisconnect { cmd [] with type := 256 },
    .staFlushQueue { cmd [] with type := 256 }, .mloSetLinkPolicy { cmd [] with type := 256 },
    .cumulusSet { cmd [] with type := 256 }, .staList { cmd [] with type := 256 }, .schSetWindow { cmd [] with type := 256 },
    .schSetPolicy { cmd [] with type := 256 }, .crnSetReserve { cmd [] with type := 256 }, .crnPin { cmd [] with type := 256 },
    .crnGetStats { cmd [] with type := 256 }, .twtSet { cmd [] with type := 256 }, .schSetTurbo { cmd [] with type := 256 },
    .secGetIdentity { cmd [] with type := 256 }, .secLoadSealed { cmd [] with type := 256 },
    .secSetRadius { cmd [] with type := 256 }, .secKeyImport { cmd [] with type := 256 }, .secKeyErase { cmd [] with type := 256 },
    .secCipherJob { cmd [] with type := 256 }, .secAuthChallenge { cmd [] with type := 256 },
    .secDebugUnlock { cmd [] with type := 256 }, .fwdSetPort { cmd [] with type := 256 }, .fwdRouteSet { cmd [] with type := 256 },
    .fwdAclSet { cmd [] with type := 256 }, .fwdNatSet { cmd [] with type := 256 }] : List Instr).any Instr.wf) = false := by decide +kernel

/-- Terms that break one check each are refused. -/
theorem test_wf_refuses_2 : (([.fwdFlowQuery { cmd [] with type := 256 }, .ethGetCounters { cmd [] with type := 256 }, .ethSetWol { cmd [] with type := 256 },
    .ethSetMacsec { cmd [] with type := 256 }, .fwdVlanSet { cmd [] with type := 256 }, .queSetShaper { cmd [] with type := 256 },
    .queSetPolicer { cmd [] with type := 256 }, .queSetGcl { cmd [] with type := 256 }, .queSetSampler { cmd [] with type := 256 },
    .queReadSamples { cmd [] with type := 256 }, .queMap { cmd [] with type := 256 }, .timGet { cmd [] with type := 256 },
    .timAdjust { cmd [] with type := 256 }, .timSetPtp { cmd [] with type := 256 }, .timSetJumpLimit { cmd [] with type := 256 },
    .memGetInfo { cmd [] with type := 256 }, .cfgCommit { cmd [] with type := 256 }, .cfgRead { cmd [] with type := 256 },
    .cvuRun { cmd [] with type := 256 }, .evrGetInfo { cmd [] with type := 256 }, .evrSetPolicy { cmd [] with type := 256 },
    .evrClear { cmd [] with type := 256 }, .diagRun { cmd [] with type := 256 }, .evrRead { cmd [] with type := 256 },
    .dspLoadKernel { cmd [] with type := 256 }, .dspRun { cmd [] with type := 256 }, .tdsSetHostRing { cmd [] with type := 256 },
    .tdsGetStats { cmd [] with type := 256 }, .drzSetChannel { cmd [] with type := 256 }, .drzSetCsl { cmd [] with type := 256 },
    .drzSetMesh { cmd [] with type := 256 }, .drzSend { cmd [] with type := 256 }, .drzNodeSet { cmd [] with type := 256 },
    .fltGetInfo { cmd [] with type := 256 }, .fltSetFloor { cmd [] with type := 256 }, .fltContextExport { cmd [] with type := 256 },
    .fltContextImport { cmd [] with type := 256 }, .fltSetKey { cmd [] with type := 256 }, .fwuBegin { cmd [] with type := 256 },
    .fwuData { cmd [] with type := 256 }, .fwuCommit { cmd [] with type := 256 }, .fwuActivate { cmd [] with type := 256 },
    .tstBist { cmd [] with type := 256 }, .tstLoopback { cmd [] with type := 256 }, .resetCtlDeviceReset 0 { bootSel := 4 },
    .resetCtlFullReset 0 { bootSel := 4 }, .ringProdWrite 33 0, .ringConsWrite 34 0] : List Instr).any Instr.wf) = false := by decide +kernel

/-- Terms that break one check each are refused. -/
theorem test_wf_refuses_3 : (([.ringEnable 34 0, .ringDisable 34 0, .ringDropsRead 34, .cvuInit 4 0, .cvuDataWrite 4 [0], .cvuDataWrite 0 [0, 0, 0],
    .cvuFinish 4 0, .registerWrite .bar0 (2 ^ 32) 4 0 { }, .registerWrite .bar0 0 3 0 { },
    .registerWrite .bar0 0 4 0 { bootSel := 4 }, .registerWrite (.cvu 4) 0 4 0 { }, .accessOffBlock 11 0 0 false,
    .accessOffBlock 0 (2 ^ 28) 0 false, .accessOffBlock 0 0 4 false, .powerOnReset { bootSel := 4 }, .aonBrownout { bootSel := 4 },
    .functionLevelReset { bootSel := 4 }, .test0Hold 4, .fwuTrialReset { bootSel := 4 }, .lifecycleReset { bootSel := 4 },
    .gpioWake 16 false false, .wakePatternMatch 5 [] false, .magicPacketMatch 5 [] false, .wakeStepReady { bootSel := 4 },
    .wakeStepTimeout { bootSel := 4 }, .thermalLevelChange 256 0, .thermalTrip 256 0, .ptpMessageReceive 5 false none,
    .ptpMessageSend 5 0, .synthLock 3 0, .synthLock 0 65536, .synthLockRetry 3 false 0, .synthLockRetry 0 false 65536,
    .tuningCalibrationDone 3 .ok 0 0 0, .tuningCalibrationDone 0 .ok 0 65536 0, .channelChangeApply 3 [], .cacElapsed 3,
    .radarDetected 3 [], .radarChannelMove 3 [], .txDeferExpiry 3 0, .txDeferExpiry 0 4, .txTmoExpiry 3, .calibrationDue 3 0 0,
    .calibrationStepStart 3, .calibrationStepDone 3 false 0, .haloTrainingDone 3 0 false [], .haloTrainingDone 0 3 false [],
    .haloFallback 3 0] : List Instr).any Instr.wf) = false := by decide +kernel

/-- Terms that break one check each are refused. -/
theorem test_wf_refuses_4 : (([.haloFallback 0 3, .iqCaptureTrigger 3, .iqCaptureDone 3 [] [] .ok, .selfTestDone 3 0 0, .lstfDetection 3 { },
    .dsssDetection 3 { }, .captureRestart 3 0 false { }, .tbGainPreset 3 0, .tbWindowEnd 3, .ppduRxEnd 3, .mpduReceive 3 { },
    .responseFreeze 3, .sifsResponseTx 3 0 0 0 [] [], .sifsResponseTx 0 65536 0 0 [] [], .sifsResponseTx 0 0 2 0 [] [],
    .sifsResponseTx 0 0 0 8 [] [], .reorderHoleTimeout 2048 0, .reorderHoleTimeout 0 8, .blockackreqReceive 3 0 0 0,
    .blockackreqReceive 0 2048 0 0, .blockackreqReceive 0 0 8 0, .reassemblyTimeout 2048 0, .reassemblyTimeout 0 8,
    .cumulusElementReceive 2048 0 0 0 0 0, .softEntryUsable 2048 0, .softEntryExpiry 2048 0, .edcaBackoffEnd 3 [] [],
    .beaconTbtt 48 [], .ppduFixPoint 3 { }, .ppduTxStart 3 [] [], .coexGrantSample 3 false, .ctsReceive 3 [], .ctsTimeout 3,
    .ackReceive 3 [], .ackTimeout 3, .txopEnd 3, .psPollReceive 3 0, .psPollReceive 0 2048, .uapsdTrigger 3 0 0 0,
    .uapsdTrigger 0 2048 0 0, .uapsdTrigger 0 0 4 0, .inactivityTimeout 2048, .twtRequestReceive 2048 0 0 0 0 0 0 false,
    .twtRequestReceive 0 0 0 48 0 0 0 false, .emlsrExchangeEnd 2048, .emlsrTransitionEnd 2048, .ftmRequestReceive 3 0 false,
    .ftmRequestReceive 0 (2 ^ 48) false] : List Instr).any Instr.wf) = false := by decide +kernel

/-- Terms that break one check each are refused. -/
theorem test_wf_refuses_5 : (([.stagingStart 3, .crownOpComplete 2048 false 0, .holdMpduExpiry 2048, .lingerExpiry 2048, .crownEntryLost 2048,
    .beamformingReportReceive 2048 false 0 0, .portSignalDetect 5, .portBringupDone 5, .portBringupFail 5, .portBringupRetry 5,
    .portSignalLoss 5, .mdioPoll false false 256, .ethFrameReceive 5 [] false, .pauseFrameReceive 5 0, .pauseFrameReceive 0 65536,
    .pfcFrameReceive 5 0 [0, 0, 0, 0, 0, 0, 0, 0], .pfcFrameReceive 0 256 [0, 0, 0, 0, 0, 0, 0, 0], .pfcFrameReceive 0 0 [],
    .pauseTimeExpiry 5 0, .pauseTimeExpiry 0 256, .pauseRefresh 5 0, .pauseRefresh 0 8, .holdFifoHeadTimeout 5 0,
    .holdFifoHeadTimeout 0 8, .macsecIcvVerdict 5 false [], .fwePacketLookup 0 8, .emacTxStart 5, .emacTxEnd 5, .flowSetupDone 16 0,
    .flowAgeOut 262144, .macAgeOut 4095 0, .macAgeOut 0 (2 ^ 48), .nextHopResolveRetry 4095 0, .nextHopResolveRetry 0 (2 ^ 128),
    .nextHopUnreachableEnd 4095 0, .nextHopUnreachableEnd 0 (2 ^ 128), .shaperRefill 4096, .policerRefill 4096, .gclBaseTime 5,
    .gclEntryAdvance 5, .umpFrameReceive (2 ^ 48) 0 0 0 [], .umpFrameReceive 0 0 0 65536 [], .puntEntryFill 16 [] 0,
    .injectEntryProcess 34 [] [] 0, .injectCompletion 34, .ringCoalesceTimeout 34, .workItemStart 20, .workItemEnd 20 .ok] : List Instr).any Instr.wf) = false := by decide +kernel

/-- Terms that break one check each are refused. -/
theorem test_wf_refuses_6 : (([.threadReady 4 0 0 none, .threadReady 0 0 64 none, .timeSliceExpiry 4 0, .timeSliceExpiry 0 2, .firmwareCoreHalt 28 0 0,
    .firmwareCoreHalt 0 3 0, .firmwareCoreHalt 0 0 (2 ^ 32), .kernelCycleLimit 4, .bundleIssue 4, .loopCountExpiry 4,
    .drzCsmaBackoffEnd 0 65536 .ok, .drzAckReceive none 0 0 65536 .ok, .drzRendezvousStart 65536 .ok, .drzFloodRelay 65536 0,
    .drzFloodRelay 0 65536, .drzSeenCacheAging 65536 0, .drzSeenCacheAging 0 65536, .saeCommitReceive 48 0 0 false,
    .saeCommitReceive 0 (2 ^ 48) 0 false, .saeConfirmReceive 48 0 false [], .saeConfirmReceive 0 (2 ^ 48) false [],
    .eapolKeyReceive 2048 0 false [], .fourwayRetryTimeout 2048, .groupRekeyDue 48 [], .groupKeyRetryTimeout 48 0,
    .groupKeyRetryTimeout 0 2048, .groupKeySwitch 48, .radiusResponseReceive 2048 false 0 [] [] [] 0, .radiusTimeout 2048,
    .radiusDeadTimeEnd 8 false, .eapTimeout 2048, .pmksaExpiry (2 ^ 48) 0, .pmksaExpiry 0 (2 ^ 48),
    .hatboxJobDone 65536 0 false [] .ok, .keyWriteComplete 65536, .ftAuthReceive 48 0 false, .ftAuthReceive 0 (2 ^ 48) false,
    .contextStagingExpiry (2 ^ 48), .dramDriftDetect 4 0, .dramRetrainStep 4 false, .dramRefresh 4 0, .dramRefresh 0 16,
    .eccReadRetry 0 6 0 false, .evrRateWindowClose 65536, .eventSuppressionPeriod 65536 0, .ppduTxEnd 3, .drzFrameTxEnd 65536 .ok] : List Instr).any Instr.wf) = false := by decide +kernel

/-! ### Worked examples of the spec -/

/-- "123456789". -/
def nine : Bytes := [0x31, 0x32, 0x33, 0x34, 0x35, 0x36, 0x37, 0x38, 0x39]

/-- The check values of R340's table. -/
theorem test_check_values :
    (List.range 4).map (fun p => checkValue p nine) = [0xCBF43926, 0xE3069283, 0x29B1, 0xF4] := by decide +kernel

/-- Resuming a CRC-8 (13, worked example of CVU_RUN). -/
theorem test_check_value_resumed :
    cvFeed 3 (cvInit 3) (nine.take 4) = 0xC2 ∧ cvFeed 3 0xC2 (nine.drop 4) = 0xF4 := by decide +kernel

/-- DRAM address 0x0123_4560 on 4 GiB (13, worked example of R324). -/
theorem test_dram_decode :
    dramChannel 0x01234560 = 0 ∧ dramLocal 0x01234560 = 0x48D560 ∧ dramDataRows 4096 = 30720 ∧
    dramDecode 0 30720 0x48D560 = (145, 10, 0x560) ∧ dramDecode 1 30720 0x48D560 = (145, 5, 0x560) ∧
    dramDecode 2 30720 0x48D560 = (2330, 0, 0x560) := by decide +kernel

/-- The check rows of the same address (13, worked example of R325). -/
theorem test_dram_check : dramCheck 30720 145 0x560 = (30729, 214) ∧ dramCheck 30720 2330 0x560 = (30865, 1366) := by decide +kernel

/-- Convergent rounding (15, the example of R365). -/
theorem test_round_even :
    roundEven 0x180 8 = 2 ∧ roundEven 0x280 8 = 2 ∧ roundEven 0x380 8 = 4 ∧ roundEven (-0x180) 8 = -2 := by decide +kernel

/-- Four users at -60 dBm and eight at -65 dBm (04, the example of R96). -/
theorem test_preset_level : presetLevel (List.replicate 4 (-60) ++ List.replicate 8 (-65)) = -519 := by decide +kernel

/-- The shaper of the refill trace (08, worked example of R214), with a credit. -/
def traced (credit : Int) : Shaper := ⟨⟨0, 1000000, 3000, 10, 20, 1⟩, none, credit, 0, 0, true, [], []⟩

/-- Steps 1 and 3 to 7 of the refill trace. -/
theorem test_shaper_trace :
    ([3000, 0, -270, -540, -810, -1080].map fun c => (shaperFill (traced c)).credit) = [3000, 1250, 980, 710, 440, 170] := by
  decide +kernel

/-- A bank of a sequence number, with or without its magic. -/
def seqBank (magic sequence : Nat) : CfgBank :=
  { (⟨magic, 1, sequence, 0, 0, []⟩ : CfgBank) with crc := bankCrc ⟨magic, 1, sequence, 0, 0, []⟩ }

/-- A commit across the sequence wrap, and one whose magic was not written (13, worked example of R338). -/
theorem test_bank_wrap :
    pickBank (seqBank 0x4746435A 0xFFFFFFFF) (seqBank 0x4746435A 0) = some 1 ∧
    pickBank (seqBank 0 1) (seqBank 0x4746435A 0) = some 1 := by decide +kernel

/-- States and operands that meet the hypotheses of `Obligations.StepServesTheFrontCommand`, clause by clause. -/
theorem meets_StepServesTheFrontCommand :
  (let c : Instr := .heartbeatTick; let r : List Instr := [.perstNAssert];
  let s : State := { ready with pending := [.heartbeatTick, .perstNAssert] }; s.pending = c :: r) ∧
  (let s : State := ready; s.pending = []) := by
  try simp only [arrives_cmd, arrives_cmdX, arrives_badSig, arrives_badSigX]
  try simp only [arrives_iff, mailboxInv_iff, clear_iff, SliceOn, GoodRelease, forall_lt_iff, forall_between_iff]
  and_intros <;> decide +kernel

/-- States and operands that meet the hypotheses of `Obligations.OtpOnlyMovesForward`, clause by clause. -/
theorem meets_OtpOnlyMovesForward :
  (let s : State := { ready with pending := [.heartbeatTick] }; let t : State := heart; step s = .next t) := by
  try simp only [arrives_cmd, arrives_cmdX, arrives_badSig, arrives_badSigX]
  try simp only [arrives_iff, mailboxInv_iff, clear_iff, SliceOn, GoodRelease, forall_lt_iff, forall_between_iff]
  and_intros <;> (first | decide +kernel | rfl)

/-- States and operands that meet the hypotheses of `Obligations.EveryStepKeepsTheMailboxForm`, clause by clause. -/
theorem meets_EveryStepKeepsTheMailboxForm :
  (let s : State := { ready with pending := [.heartbeatTick] }; let t : State := heart; MailboxInv s ∧ step s = .next t) := by
  try simp only [arrives_cmd, arrives_cmdX, arrives_badSig, arrives_badSigX]
  try simp only [arrives_iff, mailboxInv_iff, clear_iff, SliceOn, GoodRelease, forall_lt_iff, forall_between_iff]
  and_intros <;> (first | decide +kernel | rfl)

/-- States and operands that meet the hypotheses of `Obligations.FailedHeaderChangesNothing`, clause by clause. -/
theorem meets_FailedHeaderChangesNothing :
  (let i : Instr := .sysGetInfo short; let code : Nat := 0x0001; let u : Ump := short; let s : State := ready; let st : Nat := ST.badLength;
  umpRow i = some (code, u) ∧ carries u.via s = true ∧
    let ext := bit u.flags 1;
      let verdict := if u.type ≠ 1 then some ST.badCmd else if (servedCodes s.power.stage).contains code = false then some ST.badCmd else if
      240 < u.length ∨ (ext = true ∧
      u.length ≠ 16) ∨ ext ≠ extInCodes.contains code ∨ u.payload.length ≠ u.length then some ST.badLength else if u.crc ≠ (if u.length = 0
      then 0 else crc32c u.payload) then some ST.badCrc else if ext = true ∧
      (rd u.payload 8 4 = 0 ∨ 1048576 < rd u.payload 8 4 ∨ rd u.payload 0 8 % 4 ≠ 0) then some ST.badLength else if ext = true ∧
      u.env.dma = .lasting then some ST.faultLasting else if ext = true ∧
      (u.env.ext.length ≠ rd u.payload 8 4 ∨ crc32c u.env.ext ≠ rd u.payload 12 4) then some ST.badCrc else none; verdict = some st ∧
      MailboxInv s ∧ s.mbox.cmdQueue = [] ∧
      (match u.via with | .pcie n => n < 16 ∧ reachable s = true ∧ s.mbox.slots.getD n .free = .free | .mgt mac => stored mac u.tag s = none | .uart => True)) ∧
  (let i : Instr := .sysGetInfo short; let code : Nat := 0x0001; let u : Ump := short;
  let s : State := onMbox (fun b => { b with cmdQueue := [short.msg 0x0001], slots := .queued :: List.replicate 15 .free }) ready;
  let st : Nat := ST.badLength; umpRow i = some (code, u) ∧ carries u.via s = true ∧
    let ext := bit u.flags 1;
      let verdict := if u.type ≠ 1 then some ST.badCmd else if (servedCodes s.power.stage).contains code = false then some ST.badCmd else if
      240 < u.length ∨ (ext = true ∧
      u.length ≠ 16) ∨ ext ≠ extInCodes.contains code ∨ u.payload.length ≠ u.length then some ST.badLength else if u.crc ≠ (if u.length = 0
      then 0 else crc32c u.payload) then some ST.badCrc else if ext = true ∧
      (rd u.payload 8 4 = 0 ∨ 1048576 < rd u.payload 8 4 ∨ rd u.payload 0 8 % 4 ≠ 0) then some ST.badLength else if ext = true ∧
      u.env.dma = .lasting then some ST.faultLasting else if ext = true ∧
      (u.env.ext.length ≠ rd u.payload 8 4 ∨ crc32c u.env.ext ≠ rd u.payload 12 4) then some ST.badCrc else none; verdict = some st ∧
    let r := []; s.mbox.cmdQueue = u.msg code :: r ∧ (∀ n, u.via = .pcie n → n < 16)) := by
  try simp only [arrives_cmd, arrives_cmdX, arrives_badSig, arrives_badSigX]
  try simp only [arrives_iff, mailboxInv_iff, clear_iff, SliceOn, GoodRelease, forall_lt_iff, forall_between_iff]
  and_intros <;> (first | decide +kernel | (intro n h; cases h; decide))

/-- States and operands that meet the hypotheses of `Obligations.CommandsWaitTheirTurn`, clause by clause. -/
theorem meets_CommandsWaitTheirTurn :
  (let i : Instr := .sysGetInfo other; let code : Nat := 0x0001; let u : Ump := other;
  let s : State := onMbox (fun b => { b with slots := .queued :: List.replicate 15 .free }) ready; umpRow i = some (code, u) ∧
    let n := 0; u.via = .pcie n ∧ (s.mbox.slots.getD n .free ≠ .free ∨ reachable s = false ∨ 16 ≤ n) ∧
      s.mbox.cmdQueue.head? ≠ some (u.msg code)) ∧
  (let i : Instr := .sysGetInfo other; let code : Nat := 0x0001; let u : Ump := other;
  let s : State := onMbox (fun b => { b with cmdQueue := [short.msg 0x0001] }) ready; umpRow i = some (code, u) ∧
    let n := 0; let q := short.msg 0x0001; let r := []; u.via = .pcie n ∧ n < 16 ∧ reachable s = true ∧ s.mbox.slots.getD n .free = .free ∧
      s.mbox.cmdQueue = q :: r ∧ q ≠ u.msg code) ∧
  (let i : Instr := .sysGetInfo overMgt; let code : Nat := 0x0001; let u : Ump := overMgt;
  let s : State := onMbox (fun b => { b with replay := [⟨0x020000000001, 9, [1, 2, 3]⟩] }) (mgtUpState); umpRow i = some (code, u) ∧
    let mac := 0x020000000001; let p := ⟨0x020000000001, 9, [1, 2, 3]⟩; u.via = .mgt mac ∧ carries u.via s = true ∧
      stored mac u.tag s = some p ∧ s.mbox.cmdQueue.head? ≠ some (u.msg code)) ∧
  (let i : Instr := .sysGetInfo overMgt; let code : Nat := 0x0001; let u : Ump := overMgt;
  let s : State := onMbox (fun b => { b with cmdQueue := [short.msg 0x0001] }) mgtUpState; umpRow i = some (code, u) ∧
    let mac := 0x020000000001; let q := short.msg 0x0001; let r := []; u.via = .mgt mac ∧ carries u.via s = true ∧
      stored mac u.tag s = none ∧ s.mbox.cmdQueue = q :: r ∧ q ≠ u.msg code) ∧
  (let i : Instr := .sysGetInfo overMgt; let code : Nat := 0x0001; let u : Ump := overMgt; let s : State := ready; umpRow i = some (code, u) ∧
  carries u.via s = false ∧ (∀ n, u.via ≠ .pcie n)) := by
  try simp only [arrives_cmd, arrives_cmdX, arrives_badSig, arrives_badSigX]
  try simp only [arrives_iff, mailboxInv_iff, clear_iff, SliceOn, GoodRelease, forall_lt_iff, forall_between_iff]
  and_intros <;> (first | decide +kernel | (intro n h; cases h; done))

/-- States and operands that meet the hypotheses of `Obligations.EventsAreWrittenAsARing`, clause by clause. -/
theorem meets_EventsAreWrittenAsARing :
  (let s : State := onMbox (fun b => { b with evtProd := 31 }) ready; MailboxInv s ∧ powered 1 s = true ∧ s.mbox.pcieQueue = [] ∧
  s.mbox.pcieDropped = 0 ∧ s.mbox.sink = none ∧
    let distance := (s.mbox.evtProd + 65536 - s.mbox.evtCons) % 65536; distance ≠ 32) ∧
  (let s : State := onMbox (fun b => { b with evtProd := 31, evtCons := 65535 }) ready; MailboxInv s ∧ powered 1 s = true ∧
  s.mbox.pcieQueue = [] ∧ s.mbox.pcieDropped = 0 ∧ s.mbox.sink = none ∧
    let distance := (s.mbox.evtProd + 65536 - s.mbox.evtCons) % 65536; distance = 32) ∧
  (let s : State := ready; MailboxInv s ∧ powered 1 s = true ∧ s.mbox.pcieQueue = [] ∧ s.mbox.pcieDropped = 0 ∧ s.mbox.sink = none ∧
    let distance := (s.mbox.evtProd + 65536 - s.mbox.evtCons) % 65536; let v : Word32 := 33; reachable s = true ∧
    let i := v.toNat % 65536; distance < (i + 65536 - s.mbox.evtCons) % 65536) ∧
  (let s : State := ready; MailboxInv s ∧ powered 1 s = true ∧ s.mbox.pcieQueue = [] ∧ s.mbox.pcieDropped = 0 ∧ s.mbox.sink = none ∧
    let distance := (s.mbox.evtProd + 65536 - s.mbox.evtCons) % 65536; let v : Word32 := 0; reachable s = true ∧
    let i := v.toNat % 65536; (i + 65536 - s.mbox.evtCons) % 65536 ≤ distance) := by
  try simp only [arrives_cmd, arrives_cmdX, arrives_badSig, arrives_badSigX]
  try simp only [arrives_iff, mailboxInv_iff, clear_iff, SliceOn, GoodRelease, forall_lt_iff, forall_between_iff]
  and_intros <;> decide +kernel

/-- States and operands that meet the hypotheses of `Obligations.FunctionLevelResetIsADeviceReset`, clause by clause. -/
theorem meets_FunctionLevelResetIsADeviceReset :
  (let v : Word32 := 0xC1A00001; let s : State := ready; v.toNat = 0xC1A00001 ∧ reachable s = true ∧ powered 1 s = true ∧
  s.pcie.linkUp = true ∧ s.pcie.perst = false ∧ s.power.held = false) := by
  try simp only [arrives_cmd, arrives_cmdX, arrives_badSig, arrives_badSigX]
  try simp only [arrives_iff, mailboxInv_iff, clear_iff, SliceOn, GoodRelease, forall_lt_iff, forall_between_iff]
  and_intros <;> decide +kernel

/-- States and operands that meet the hypotheses of `Obligations.ReceivedFramesAreWholeOrDropped`, clause by clause. -/
theorem meets_ReceivedFramesAreWholeOrDropped :
  (let p : Nat := 0; let b : Bytes := List.replicate 59 0; let s : State := port0Up; p ≤ 4 ∧ powered 9 s = true ∧ powered 2 s = true ∧
  (port p s).state = .up ∧ (port p s).notReady = false ∧
    let len := b.length + 4 - (if secyOn p s && hasSecTag b then 32 else 0); len < 64) ∧
  (let p : Nat := 0; let b : Bytes := List.replicate 253 1;
  let s : State := readyPort 0 (fun p => { p with cfg := { p.cfg with maxFrame := 256 } }) port0Up; p ≤ 4 ∧ powered 9 s = true ∧
  powered 2 s = true ∧ (port p s).state = .up ∧ (port p s).notReady = false ∧
    let len := b.length + 4 - (if secyOn p s && hasSecTag b then 32 else 0); 64 ≤ len ∧ (port p s).cfg.maxFrame < len) ∧
  (let p : Nat := 0; let b : Bytes := List.replicate 60 1; let s : State := { port0Up with wire := { port0Up.wire with sramFree := 0 } };
  p ≤ 4 ∧ powered 9 s = true ∧ powered 2 s = true ∧ (port p s).state = .up ∧ (port p s).notReady = false ∧
    let len := b.length + 4 - (if secyOn p s && hasSecTag b then 32 else 0); 64 ≤ len ∧ len ≤ (port p s).cfg.maxFrame ∧ secyOn p s = false ∧
      etherType b ≠ 0x8808 ∧ (p = 4 → etherType b ≠ 0x88B5) ∧ s.wire.sramFree < cellsOf b.length) ∧
  (let p : Nat := 0; let b : Bytes := List.replicate 1514 1; let s : State := port0Up; p ≤ 4 ∧ powered 9 s = true ∧ powered 2 s = true ∧
  (port p s).state = .up ∧ (port p s).notReady = false ∧
    let len := b.length + 4 - (if secyOn p s && hasSecTag b then 32 else 0); 64 ≤ len ∧ len ≤ (port p s).cfg.maxFrame ∧ secyOn p s = false ∧
      etherType b ≠ 0x8808 ∧ (p = 4 → etherType b ≠ 0x88B5)) ∧
  (let u : Ump := (cmd [0, 1, 0, 0, 0, 0, 237, 5, 0, 0, 0, 0, 0, 0, 0, 0, 0, 0, 0, 0, 0, 0, 0, 0]); let s : State := ready; MailboxInv s ∧
  Arrives 0x0601 u s ∧ powered 2 s = true ∧ powered 9 s = true ∧ 24 ≤ u.data.length ∧ u.b8 0 ≤ 4 ∧ u.b8 1 = 1 ∧
  (u.b16 6 < 1518 ∨ 9216 < u.b16 6)) := by
  try simp only [arrives_cmd, arrives_cmdX, arrives_badSig, arrives_badSigX]
  try simp only [arrives_iff, mailboxInv_iff, clear_iff, SliceOn, GoodRelease, forall_lt_iff, forall_between_iff]
  and_intros <;> decide +kernel

/-- States and operands that meet the hypotheses of `Obligations.RecordFormats`, clause by clause. -/
theorem meets_RecordFormats :
  (let o : Occurrence := ⟨0x0101, [1, 2, 3, 4], true, false, false, true, 2 ^ 32 - 1, 2 ^ 24 - 1, 5, []⟩; o.code < 2 ^ 15 ∧
  o.seconds < 2 ^ 32 ∧ o.cycles < 2 ^ 24 ∧ (occBody o).length ≤ 240) ∧
  (let o : Occurrence := ⟨0x0101, [1, 2, 3, 4], true, false, false, true, 2 ^ 32 - 1, 2 ^ 24 - 1, 5, []⟩; o.code < 2 ^ 15 ∧
  o.seconds < 2 ^ 32 ∧ o.cycles < 2 ^ 24 ∧ (occBody o).length ≤ 240 ∧ o.fixed = true) ∧
  (let o : Occurrence := ⟨0x0101, [1, 2, 3, 4], false, false, false, true, 2 ^ 32 - 1, 2 ^ 24 - 1, 5, []⟩; o.code < 2 ^ 15 ∧
  o.seconds < 2 ^ 32 ∧ o.cycles < 2 ^ 24 ∧ (occBody o).length ≤ 240 ∧ o.fixed = false) ∧
  (let o : Occurrence := again; let r : Recorder := seenOnce; let x : EvrRecord := ⟨3, true, 0, 16, fixedBytes, 0⟩; repeatOf o r = some x ∧
  (r.windows.any fun w => w.code == o.code && windowOver w o.seconds) = false ∧ (isVariable x.bytes = false → x.bytes.length = 16) ∧
  (isVariable x.bytes = true → 16 ≤ x.bytes.length)) ∧
  (let o : Occurrence := again; let r : Recorder := seenOnce; let x : EvrRecord := ⟨3, true, 0, 16, fixedBytes, 0⟩; repeatOf o r = some x ∧
  (r.windows.any fun w => w.code == o.code && windowOver w o.seconds) = false ∧ (isVariable x.bytes = false → x.bytes.length = 16) ∧
  (isVariable x.bytes = true → 16 ≤ x.bytes.length) ∧ isVariable x.bytes = false) := by
  try simp only [arrives_cmd, arrives_cmdX, arrives_badSig, arrives_badSigX]
  try simp only [arrives_iff, mailboxInv_iff, clear_iff, SliceOn, GoodRelease, forall_lt_iff, forall_between_iff]
  and_intros <;> decide +kernel

/-- States and operands that meet the hypotheses of `Obligations.SystemCommands`, clause by clause. -/
theorem meets_SystemCommands :
  (let u : Ump := (cmd []); let s : State := ready; MailboxInv s ∧ Arrives 0x0001 u s) ∧
  (let u : Ump := (cmd []); let s : State := ready; MailboxInv s ∧ Arrives 0x0003 u s) ∧
  (let u : Ump := (cmd [1, 0, 160, 193]); let s : State := ready; MailboxInv s ∧ Arrives 0x0002 u s ∧ Clear 0x0002 false [] s ∧
  4 ≤ u.data.length ∧ u.b16 2 = 0xC1A0 ∧ (u.b8 0 = 1 ∨ u.b8 0 = 2)) ∧
  (let u : Ump := (cmd [0, 0, 0, 0, 0, 0, 0, 0, 0, 0, 0, 0]); let s : State := ready; MailboxInv s ∧ Arrives 0x0004 u s ∧
  Clear 0x0004 false [] s ∧ 12 ≤ u.data.length ∧ u.b8 0 = 0) ∧
  (let u : Ump := (cmd [1, 0, 2, 0, 0, 0, 0, 1, 0, 0, 0, 0]); let s : State := ready; MailboxInv s ∧ Arrives 0x0004 u s ∧
  Clear 0x0004 false [] s ∧ 12 ≤ u.data.length ∧ u.b8 0 = 1 ∧ notUnicast (field u.data 2 6) = false) ∧
  (let u : Ump := (cmd [2, 0, 0, 0, 0, 0, 0, 0, 0, 0, 0, 0]); let s : State := ready; MailboxInv s ∧ Arrives 0x0004 u s ∧
  Clear 0x0004 false [] s ∧ 12 ≤ u.data.length ∧ u.b8 0 = 2) ∧
  (let u : Ump := (cmd [0, 0, 0, 0]); let s : State := ready; MailboxInv s ∧ Arrives 0x0005 u s ∧ Clear 0x0005 false [] s ∧ 4 ≤ u.data.length ∧
  abortTarget u.via (u.b16 0) s = none) ∧
  (let u : Ump := (cmd [7, 0, 0, 0]); let s : State := (outstanding 0x0902 [.bank 0, .bank 1] true ready); MailboxInv s ∧ Arrives 0x0005 u s ∧
  Clear 0x0005 false [] s ∧ 4 ≤ u.data.length ∧
    let c := (pending 0x0902 [.bank 0, .bank 1] true); abortTarget u.via (u.b16 0) s = some c ∧ c.past = true ∧ c.code ≠ 0x0302 ∧
      c.code ≠ 0x0305) ∧
  (let u : Ump := (cmd [7, 0, 0, 0]); let s : State := (outstanding 0x0101 [.power] false ready); MailboxInv s ∧ Arrives 0x0005 u s ∧
  Clear 0x0005 false [] s ∧ 4 ≤ u.data.length ∧
    let c := (pending 0x0101 [.power] false); abortTarget u.via (u.b16 0) s = some c ∧ c.past = false ∧ c.code = 0x0101) := by
  try simp only [arrives_cmd, arrives_cmdX, arrives_badSig, arrives_badSigX]
  try simp only [arrives_iff, mailboxInv_iff, clear_iff, SliceOn, GoodRelease, forall_lt_iff, forall_between_iff]
  and_intros <;> decide +kernel

/-- States and operands that meet the hypotheses of `Obligations.PowerCommandsAndTransitions`, clause by clause. -/
theorem meets_PowerCommandsAndTransitions :
  (let u : Ump := (cmd []); let s : State := ready; MailboxInv s ∧ Arrives 0x0102 u s) ∧
  (let u : Ump := (cmd [0, 0, 0, 0, 0, 0, 0, 0, 0, 0, 0, 0, 0, 0, 0, 0]); let s : State := ready; MailboxInv s ∧ Arrives 0x0103 u s ∧
  Clear 0x0103 false [] s ∧ 16 ≤ u.data.length ∧ u.b8 0 = 0) ∧
  (let u : Ump := (cmd [1, 1, 63, 0, 255, 255, 0, 0, 128, 58, 9, 0, 0, 0, 0, 0]); let s : State := ready; MailboxInv s ∧ Arrives 0x0103 u s ∧
  Clear 0x0103 false [] s ∧ 16 ≤ u.data.length ∧
    let c : WakeConfig := ⟨u.b8 1, BitVec.ofNat 16 (u.b16 2 % 64), BitVec.ofNat 16 (u.b16 4), BitVec.ofNat 16 (u.b16 6), u.b32 8⟩;
      u.b8 0 = 1 ∧ c.target ≤ 1 ∧ c.timer ≤ 604800 ∧ (c.sources.getLsbD 5 = true → c.timer ≠ 0)) ∧
  (let u : Ump := (cmd [0, 0, 0, 0, 0, 0, 0, 0]); let s : State := ready; MailboxInv s ∧ Arrives 0x0104 u s ∧ Clear 0x0104 false [] s ∧
  8 ≤ u.data.length ∧ u.b8 0 = 0) ∧
  (let u : Ump := (cmd [1, 0, 1, 0, 128, 0, 0, 0]); let s : State := ready; MailboxInv s ∧ Arrives 0x0104 u s ∧ Clear 0x0104 false [] s ∧
  8 ≤ u.data.length ∧ u.b8 0 = 1 ∧ (u.b16 2 ≠ 0 → bit (u.b8 4) 7 = true)) ∧
  (let u : Ump := (cmd [3, 0, 0, 0]); let s : State := ready; MailboxInv s ∧ Arrives 0x0101 u s ∧ Clear 0x0101 true [.power] s ∧
  4 ≤ u.data.length ∧ s.power.changing = false ∧ (∀ k, k < 4 → locked (.bist k) s = false) ∧ u.b8 0 ≠ pwrCode s.power.state ∧
    let dst : PwrState := PwrState.sleep; ((u.b8 0 = 2 ∧ dst = .standby) ∨ (u.b8 0 = 3 ∧ dst = .sleep))) ∧
  (let u : Ump := (cmd [1, 0, 0, 0]); let s : State := ready; MailboxInv s ∧ Arrives 0x0101 u s ∧ Clear 0x0101 true [.power] s ∧
  4 ≤ u.data.length ∧ s.power.changing = false ∧ (∀ k, k < 4 → locked (.bist k) s = false) ∧ u.b8 0 ≠ pwrCode s.power.state ∧ u.b8 0 = 1) ∧
  (let u : Ump := (cmd [0, 0, 0, 0]); let s : State := (readyP (fun p => { p with state := .quiet })); MailboxInv s ∧ Arrives 0x0101 u s ∧
  Clear 0x0101 true [.power] s ∧ 4 ≤ u.data.length ∧ s.power.changing = false ∧ (∀ k, k < 4 → locked (.bist k) s = false) ∧
  u.b8 0 ≠ pwrCode s.power.state ∧ u.b8 0 = 0) ∧
  (let s : State := (readyP (fun p => { p with target := some .standby })); let dst : PwrState := .standby; s.power.target = some dst ∧
  (dst = .standby ∨ dst = .sleep) ∧ s.power.changing = false ∧ (∀ a ∈ s.mbox.async, neverCodes.contains a.code = false)) := by
  try simp only [arrives_cmd, arrives_cmdX, arrives_badSig, arrives_badSigX]
  try simp only [arrives_iff, mailboxInv_iff, clear_iff, SliceOn, GoodRelease, forall_lt_iff, forall_between_iff]
  and_intros <;> decide +kernel

/-- States and operands that meet the hypotheses of `Obligations.ThermalClockAndVoltageRows`, clause by clause. -/
theorem meets_ThermalClockAndVoltageRows :
  (let temp : Int := 399; let s : State := ready; s.power.state ≠ .off ∧ s.power.tripped = false ∧ s.power.held = false ∧ s.power.thermal = 0 ∧
  temp < 400) ∧
  (let temp : Int := 400; let s : State := ready; s.power.state ≠ .off ∧ s.power.tripped = false ∧ s.power.held = false ∧ s.power.thermal = 0 ∧
  400 ≤ temp ∧ temp < 428 ∧ powered 1 s = true) ∧
  (let temp : Int := 379; let s : State := (readyP (fun p => { p with thermal := 1 })); s.power.state ≠ .off ∧ s.power.tripped = false ∧
  s.power.held = false ∧ s.power.thermal = 1 ∧ temp < 380 ∧ powered 1 s = true) ∧
  (let temp : Int := 460; let s : State := ready; 460 ≤ temp ∧ s.power.held = false ∧
  (s.power.state = .run ∨ s.power.state = .quiet ∨ s.power.state = .standby)) ∧
  (let temp : Int := 379; let s : State := (readyP (fun p => { p with tripped := true, state := .sleep })); s.power.tripped = true ∧
  s.power.state = .sleep ∧ temp < 380) ∧
  (let s : State := ready; powered 0 s = true ∧ s.power.xt32Starting = false) ∧
  (let s : State := (readyP (fun p => { p with xt32Starting := true })); s.power.state ≠ .off ∧ s.power.xt32Starting = true) ∧
  (let target : Nat := 130; let s : State := ready; powered 1 s = true ∧ s.power.avsRetry = false ∧ 130 ≤ target ∧ target ≤ 170 ∧
  (s.power.avsNow = 0 ∨ ((target = s.power.avsNow + 1 ∨ target + 1 = s.power.avsNow) ∧ s.power.avsAt + 100000 ≤ runTime s))) ∧
  (let s : State := (onClock (fun c => { c with ns := 1000000 }) (readyP (fun p => { p with avsRetry := true }))); s.power.avsRetry = true ∧
  s.power.avsAt + 1000000 ≤ runTime s) ∧
  (let s : State := (onClock (fun c => { c with ns := 1000000 }) (readyP (fun p => { p with avsRetry := true, thermal := 2 })));
  s.power.avsRetry = true ∧ s.power.avsAt + 1000000 ≤ runTime s ∧ 2 ≤ s.power.thermal) ∧
  (let s : State := ready; powered 1 s = true ∧ (s.power.stage = 3 ∨ s.power.stage = 4 ∨ s.power.stage = 5) ∧ s.power.mpxHalted ≠ 3) := by
  try simp only [arrives_cmd, arrives_cmdX, arrives_badSig, arrives_badSigX]
  try simp only [arrives_iff, mailboxInv_iff, clear_iff, SliceOn, GoodRelease, forall_lt_iff, forall_between_iff]
  and_intros <;> decide +kernel

/-- States and operands that meet the hypotheses of `Obligations.ResetsBootTheActiveSlot`, clause by clause. -/
theorem meets_ResetsBootTheActiveSlot :
  (let b : Boot := ({ } : Boot); let s : State := imaged; GoodRelease b (b.bootSel % 4) s) ∧
  (let b : Boot := ({ } : Boot); let s : State := (onPower (fun p => { p with state := .sleep }) imaged); GoodRelease b (b.bootSel % 4) s ∧
  s.power.state = .sleep ∧ s.power.held = false) ∧
  (let b : Boot := ({ } : Boot); let s : State := imaged; GoodRelease b (b.bootSel % 4) s ∧ s.power.mpxHalt = none ∧
    let v : Word32 := 0xC1A00002; reachable s = true ∧ v.toNat = 0xC1A00002) ∧
  (let b : Boot := ({ } : Boot); let s : State := (onPower (fun p => { p with pendingReset := 1 }) imaged); GoodRelease b (b.bootSel % 4) s ∧
  s.power.mpxHalt = none ∧ s.power.pendingReset = 1 ∧ s.power.resetAt ≤ runTime s) ∧
  (let b : Boot := ({ } : Boot); let s : State := (onPower (fun p => { p with pendingReset := 2 }) imaged); GoodRelease b (b.bootSel % 4) s ∧
  s.power.mpxHalt = none ∧ s.power.pendingReset = 2 ∧ s.power.resetAt ≤ runTime s) ∧
  (let b : Boot := ({ } : Boot); let s : State := imaged; GoodRelease b s.power.bootSel s ∧ s.power.mpxHalt = none ∧
    let v : Word32 := 0xC1A00001; reachable s = true ∧ v.toNat = 0xC1A00001) ∧
  (let b : Boot := ({ } : Boot); let s : State := imaged; GoodRelease b s.power.bootSel s ∧ s.power.mpxHalt = none ∧ powered 1 s = true ∧
  s.pcie.linkUp = true ∧ s.pcie.perst = false ∧ s.power.held = false) := by
  try simp only [arrives_cmd, arrives_cmdX, arrives_badSig, arrives_badSigX]
  try simp only [arrives_iff, mailboxInv_iff, clear_iff, SliceOn, GoodRelease, forall_lt_iff, forall_between_iff]
  and_intros <;> decide +kernel

/-- States and operands that meet the hypotheses of `Obligations.SupplyBootAndWakeRows`, clause by clause. -/
theorem meets_SupplyBootAndWakeRows :
  (let cause : Nat := 2; cause < 3) ∧
  (let s : State := (readyP (fun p => { p with stage := 2 })); s.power.stage = 2) ∧
  (let s : State := (readyP (fun p => { p with limp := true, stage := 0 })); s.power.limp = true ∧ s.power.stage = 0) ∧
  (let s : State := (readyP (fun p => { p with armed := true, state := .standby, armedCfg := ⟨0, 0x3F, 0xFFFF, 0, 60⟩ }));
  s.power.armed = true ∧ s.power.wake = .none ∧ (s.power.state = .standby ∨ s.power.state = .sleep)) ∧
  (let s : State := (readyP (fun p => { p with armed := true, state := .standby, armedCfg := ⟨0, 0x3F, 0xFFFF, 0, 60⟩ }));
  s.power.armed = true ∧ s.power.wake = .none ∧ (s.power.state = .standby ∨ s.power.state = .sleep) ∧
    let gpio := 15; s.power.armedCfg.sources.getLsbD 4 = true ∧ s.power.armedCfg.gpioMask.getLsbD gpio = true) ∧
  (let s : State := (readyP (fun p => { p with armed := true, state := .standby, armedCfg := ⟨0, 0x3F, 0xFFFF, 0, 60⟩ }));
  s.power.armed = true ∧ s.power.wake = .none ∧ (s.power.state = .standby ∨ s.power.state = .sleep) ∧
    let aon := 1966080; s.power.armedCfg.sources.getLsbD 5 = true ∧ s.power.armedCfg.timer * 32768 ≤ aon) ∧
  (let s : State := (readyP (fun p => { p with armed := true, state := .standby, armedCfg := ⟨0, 0x3F, 0xFFFF, 0, 60⟩ }));
  s.power.armed = true ∧ s.power.wake = .none ∧ s.power.state = .standby ∧
    let f : DrzRx := { dest := 0, short := 1 }; powered 8 s = true ∧ drzDest f s = 0 ∧ s.power.armedCfg.sources.getLsbD 3 = true) ∧
  (let s : State := (readyP (fun p => { p with armed := true, state := .standby, armedCfg := ⟨0, 0x3F, 0xFFFF, 0, 60⟩ }));
  s.power.armed = true ∧ s.power.wake = .none ∧ s.power.state = .standby ∧
    let index := 0xFFFF; powered 9 s = true ∧ (index = s.power.devIdx ∨ index = 0xFFFF) ∧ s.power.armedCfg.sources.getLsbD 2 = true) ∧
  (let s : State := readyPort 0 (fun p => { p with state := .up, magic := true, magicMac := 0x0200000000AA }) (readyP (fun p =>
  { p with armed := true, state := .standby, armedCfg := ⟨0, 0x3F, 0xFFFF, 0, 60⟩ })); s.power.armed = true ∧ s.power.wake = .none ∧
  s.power.state = .standby ∧
    let port := 0; let frame := magicBytes 0x0200000000AA;
      let p := { Port.reset false with state := .up, magic := true, magicMac := 0x0200000000AA }; powered 9 s = true ∧
      Tab.look s.wire.ports port = some p ∧ p.state = .up ∧ p.magic = true ∧ occursIn (magicBytes p.magicMac) frame = true ∧
      s.power.armedCfg.sources.getLsbD 1 = true) ∧
  (let s : State := readyPort 0 (fun p => { p with state := .up, patterns := [(0, ⟨true, 1 :: List.replicate 15 0, crc16 [7]⟩)] }) (readyP
  (fun p => { p with armed := true, state := .standby, armedCfg := ⟨0, 0x3F, 0xFFFF, 0, 60⟩ })); s.power.armed = true ∧
  s.power.wake = .none ∧ s.power.state = .standby ∧
    let port := 0; let frame := [7];
      let p := { Port.reset false with state := .up, patterns := [(0, ⟨true, 1 :: List.replicate 15 0, crc16 [7]⟩)] }; let k := 0;
      let w := ⟨true, 1 :: List.replicate 15 0, crc16 [7]⟩; powered 9 s = true ∧ Tab.look s.wire.ports port = some p ∧ p.state = .up ∧
      p.patterns = [(k, w)] ∧ patternMatches w frame = true ∧ s.power.armedCfg.sources.getLsbD 0 = true) ∧
  (let s : State := (readyP (fun p => { p with wake := .waiting, wakeStep := 4 })); s.power.wake = .waiting ∧ s.power.wakeFailed = false ∧
  s.power.wakeStep < 5) ∧
  (let s : State := (readyP (fun p => { p with wake := .waiting, wakeStep := 4, wakeFailed := true })); s.power.wake = .waiting ∧
  s.power.wakeFailed = true ∧ s.power.wakeStep < 5) ∧
  (let s : State := (readyP (fun p => { p with wake := .waiting, wakeStep := 5, wakeFrom := .standby })); s.power.wake = .waiting ∧
  s.power.wakeFailed = false ∧ s.power.wakeStep = 5 ∧ s.power.tripped = false ∧ s.power.coldWake = false ∧ retainedCovered s = true) ∧
  (let s : State := (readyP (fun p => { p with wake := .waiting, wakeStep := 5, wakeFrom := .standby })); s.power.wake = .waiting ∧
  s.power.wakeFailed = false) ∧
  (let s : State := (readyP (fun p => { p with wake := .waiting, wakeStep := 1, wakeFailed := true })); s.power.wake = .waiting ∧
  s.power.wakeFailed = true ∧ s.power.wakeStep = 1) ∧
  (let s : State := (readyP (fun p => { p with wake := .delay })); s.power.wake = .delay) := by
  try simp only [arrives_cmd, arrives_cmdX, arrives_badSig, arrives_badSigX]
  try simp only [arrives_iff, mailboxInv_iff, clear_iff, SliceOn, GoodRelease, forall_lt_iff, forall_between_iff]
  and_intros <;> decide +kernel

/-- States and operands that meet the hypotheses of `Obligations.MailboxAndRingRegisterWrites`, clause by clause. -/
theorem meets_MailboxAndRingRegisterWrites :
  (let v : Word32 := 0; let s : State := onMbox (fun b => { b with slots := .queued :: List.replicate 15 .free }) ready; reachable s = true ∧
    let n := v.toNat % 16; s.mbox.slots.getD n .free ≠ .free) ∧
  (let v : Word32 := 0; let s : State := onMbox (fun b => { b with mem := Cells.writeAll [] 0x1000 (message 1 0 0x0001 5 0 0 []) }) ready;
  reachable s = true ∧
    let n := v.toNat % 16; let m := parseMsg (.pcie n) (Cells.readAll s.mbox.mem (0x1000 + n * 0x100) 256);
      s.mbox.slots.getD n .free = .free ∧ s.mbox.cmdQueue = [] ∧ m.type = 1 ∧ (servedCodes s.power.stage).contains m.code = true) ∧
  (let s : State := ready; reachable s = true) ∧
  (let v : Word32 := 0x7FFFF; let s : State := ready; reachable s = true ∧
    let w := v &&& 0x0007FFFF; s.mbox.devDoorbell &&& s.mbox.irqMask &&& ~~~w = 0) ∧
  (let v : Word32 := 0; let s : State := onMbox (fun b => { b with devDoorbell := 2 }) ready; reachable s = true ∧
    let w := v &&& 0x0007FFFF; s.mbox.devDoorbell &&& s.mbox.irqMask &&& ~~~w ≠ 0) ∧
  (let v : Word32 := 1; let s : State := ready; reachable s = true ∧
    let i := v.toNat % 65536; (s.mbox.evtProd + 65536 - s.mbox.evtCons) % 65536 < (i + 65536 - s.mbox.evtCons) % 65536) ∧
  (let v : Word32 := 0; let s : State := ready; reachable s = true ∧
    let i := v.toNat % 65536; (i + 65536 - s.mbox.evtCons) % 65536 ≤ (s.mbox.evtProd + 65536 - s.mbox.evtCons) % 65536 ∧
      s.mbox.pcieDropped = 0) ∧
  (let r : Nat := 32; let v : Word32 := 0; let s : State := ready; reachable s = true ∧ r ≤ 32 ∧
  ((ring r s).enable = false ∨ ahead v.toNat (ring r s).cons ≤ ringSize (ring r s))) ∧
  (let r : Nat := 0; let v : Word32 := 65; let s : State := onRing 0 (fun q => { q with enable := true }) ready; reachable s = true ∧ r ≤ 32 ∧
  (ring r s).enable = true ∧ ringSize (ring r s) < ahead v.toNat (ring r s).cons) ∧
  (let v : Word32 := 0; let s : State := ready; reachable s = true ∧
  ((ring 33 s).enable = false ∨ ahead (ring 33 s).prod v.toNat ≤ ringSize (ring 33 s)) ∧ s.tds.hold = []) ∧
  (let r : Nat := 33; let s : State := ready; reachable s = true ∧ r ≤ 33 ∧ s.power.limp = false ∧ (ring r s).enable = false ∧
  (ring r s).base % 64 = 0 ∧ 6 ≤ (ring r s).log2 ∧ (ring r s).log2 ≤ 16 ∧ ahead (ring r s).prod (ring r s).cons ≤ ringSize (ring r s) ∧
  s.tds.hold = []) ∧
  (let r : Nat := 33; let s : State := onRing 33 (fun q => { q with base := 1 }) ready; reachable s = true ∧ r ≤ 33 ∧ s.power.limp = false ∧
  (ring r s).enable = false ∧ ((ring r s).base % 64 ≠ 0 ∨ (ring r s).log2 < 6 ∨ 16 < (ring r s).log2)) ∧
  (let r : Nat := 0; let s : State := ready; reachable s = true ∧ r ≤ 33) ∧
  (let r : Nat := 0; let s : State := onRing 0 (fun q => { q with unsignalled := 1, time := 5 }) ready; (ring r s).unsignalled ≠ 0 ∧
  (ring r s).time ≠ 0) := by
  try simp only [arrives_cmd, arrives_cmdX, arrives_badSig, arrives_badSigX]
  try simp only [arrives_iff, mailboxInv_iff, clear_iff, SliceOn, GoodRelease, forall_lt_iff, forall_between_iff]
  and_intros <;> decide +kernel

/-- States and operands that meet the hypotheses of `Obligations.RegisterAccessAndCheckValueUnits`, clause by clause. -/
theorem meets_RegisterAccessAndCheckValueUnits :
  (let s : State := ready; reachable s = true) ∧
  (let v : Word32 := 0xC1A00001; let s : State := ready; reachable s = true ∧ resetKind v = 1) ∧
  (let v : Word32 := 0xC1A00002; let s : State := ready; reachable s = true ∧ resetKind v = 2) ∧
  (let v : Word32 := 0; let s : State := ready; reachable s = true ∧ resetKind v = 0) ∧
  (let v : Word32 := 0x80000000; let s : State := ready; reachable s = true ∧ v.getLsbD 31 = true) ∧
  (let s : State := ready; reachable s = true ∧
    let o := 0xBC; o ∈ ([0x00, 0x04, 0x08, 0x0C, 0x20, 0x24, 0x30, 0x38, 0x3C, 0x48, 0x4C, 0x80, 0xBC] : List Nat)) ∧
  (let s : State := ready; reachable s = true ∧
    let o := 0x1FFC; let w := 4; 0x1000 ≤ o ∧ o + w ≤ 0x2000 ∧ s.mbox.slots.getD ((o - 0x1000) / 0x100) .free ≠ .queued) ∧
  (let s : State := ready; reachable s = true ∧
    let r := 33; r < 34) ∧
  (let v : Word32 := 1; let s : State := ready; reachable s = true ∧
    let r := 33; r < 34 ∧ v.getLsbD 0 = true) ∧
  (let v : Word32 := 0; let s : State := ready; reachable s = true ∧
    let r := 33; r < 34 ∧ v.getLsbD 0 = false) ∧
  (let s : State := ready; reachable s = true ∧
    let r := 33; r < 34 ∧ (ring r s).enable = false) ∧
  (let s : State := onRing 33 (fun q => { q with enable := true }) ready; reachable s = true ∧
    let r := 33; r < 34 ∧ (ring r s).enable = true) ∧
  (let v : Word32 := 0; let s : State := ready; powered 1 s = true ∧ v.getLsbD 3 = false) ∧
  (let s : State := ready; powered 1 s = true ∧
    let d : Bytes := [1, 2]; (d.length = 1 ∨ d.length = 2 ∨ d.length = 4)) ∧
  (let n : Nat := 0; let v : Word32 := 0; let s : State := ready; powered 1 s = true ∧ v.getLsbD 2 = false ∧
    let t := onCvu n (fun c => { c with poly := v.toNat % 4, irqEn := bit v.toNat 4 }) (start s);
      (cvuResult (cvu n t) = (cvu n t).expect ∨ n = 0 ∨ n = 3)) ∧
  (let n : Nat := 1; let v : Word32 := 0; let s : State := onCvu 1 (fun c => { c with expect := 1 }) ready; powered 1 s = true ∧
  v.getLsbD 2 = false ∧
    let t := onCvu n (fun c => { c with poly := v.toNat % 4, irqEn := bit v.toNat 4 }) (start s); cvuResult (cvu n t) ≠ (cvu n t).expect ∧
      (n = 1 ∨ n = 2)) := by
  try simp only [arrives_cmd, arrives_cmdX, arrives_badSig, arrives_badSigX]
  try simp only [arrives_iff, mailboxInv_iff, clear_iff, SliceOn, GoodRelease, forall_lt_iff, forall_between_iff]
  and_intros <;> decide +kernel

/-- States and operands that meet the hypotheses of `Obligations.MemoryCommandsAnswer`, clause by clause. -/
theorem meets_MemoryCommandsAnswer :
  (let u : Ump := (cmd []); let s : State := ready; MailboxInv s ∧ Arrives 0x0901 u s ∧ Clear 0x0901 false [] s) ∧
  (let u : Ump := (cmd [0, 0, 0, 0]); let s : State := ready; MailboxInv s ∧ Arrives 0x0902 u s ∧ Clear 0x0902 true [.bank 0, .bank 1] s ∧
  4 ≤ u.data.length ∧ u.b8 0 = 0 ∧ (bankBody s.mem.shadow).length ≤ 262112) ∧
  (let u : Ump := { cmd [1, 0, 0, 0] with flags := 1 }; let s : State := ready; MailboxInv s ∧ Arrives 0x0902 u s ∧
  Clear 0x0902 true [.bank 0, .bank 1] s ∧ 4 ≤ u.data.length ∧ u.b8 0 = 1 ∧ u.force = true) ∧
  (let u : Ump := (cmd [0, 0]); let s : State := ready; MailboxInv s ∧ Arrives 0x0903 u s ∧ Clear 0x0903 false [] s ∧ u.b8 0 = 0 ∧
  2 ≤ u.data.length) ∧
  (let u : Ump := (cmd [1, 0, 0, 0, 0, 0, 0, 0, 0, 16, 0, 0, 0, 0, 0, 0]); let s : State := banked; MailboxInv s ∧ Arrives 0x0903 u s ∧
  Clear 0x0903 false [] s ∧ u.b8 0 = 1 ∧ 16 ≤ u.data.length ∧ u.b8 1 ≤ 1 ∧ u.b64 8 % 4 = 0 ∧ u.b64 8 ≠ 0 ∧
  bankValid (bank (u.b8 1) s) = true ∧ u.env.wr = .ok) ∧
  (let u : Ump := (cmdX [3, 1, 0, 0, 0, 0, 0, 0, 0, 0, 0, 0, 0, 0, 0, 0]); let s : State := ready; MailboxInv s ∧ Arrives 0x0904 u s ∧
  Clear 0x0904 false [] s ∧ 16 ≤ u.data.length ∧ u.b8 0 ≤ 3 ∧ bit (u.b8 1) 1 = false) := by
  try simp only [arrives_cmd, arrives_cmdX, arrives_badSig, arrives_badSigX]
  try simp only [arrives_iff, mailboxInv_iff, clear_iff, SliceOn, GoodRelease, forall_lt_iff, forall_between_iff]
  and_intros <;> decide +kernel

/-- States and operands that meet the hypotheses of `Obligations.DramAndBankRows`, clause by clause. -/
theorem meets_DramAndBankRows :
  (let c : Nat := 0; let s : State := (onChannel 0 (fun c => { c with trained := true, steps := 0 }) ready); let temp : Int := 80;
  powered 10 s = true ∧ (channel c s).trained = true ∧ (channel c s).steps = 0 ∧ (channel c s).lasting = false ∧
  80 ≤ (temp - (channel c s).trainedAt).natAbs) ∧
  (let c : Nat := 0; let s : State := (onChannel 0 (fun c => { c with trained := true, steps := 2 }) ready); 1 < (channel c s).steps ∧
  (channel c s).failed = false) ∧
  (let c : Nat := 0; let s : State := (onChannel 0 (fun c => { c with trained := true, steps := 1 }) ready); (channel c s).steps = 1 ∧
  (channel c s).failed = false) ∧
  (let c : Nat := 0; let s : State := (onChannel 0 (fun c => { c with trained := true, steps := 1 }) ready); (channel c s).steps ≠ 0 ∧
  (channel c s).failed = false) ∧
  (let c : Nat := 0; let s : State := (onChannel 0 (fun c => { c with trained := true, steps := 1, failed := true }) ready);
  (channel c s).steps ≠ 0 ∧ (channel c s).failed = true) ∧
  (let c : Nat := 0; let s : State := (onClock (fun c => { c with ns := 1000000000 }) (onChannel 0 (fun c =>
  { c with trained := true, steps := 0 }) ready)); let b : Nat := 15; powered 10 s = true ∧ (channel c s).trained = true ∧
  (channel c s).refreshAt.getD b 0 + refreshInterval (channel c s).temperature ≤ runTime s) ∧
  (let a : AsyncCmd := ⟨.pcie 1, 7, 0x0902, [.bank 0, .bank 1], false, false, [0, 0, 0, 0], []⟩;
  let s : State := onMbox (fun m => { m with async := [⟨.pcie 1, 7, 0x0902, [.bank 0, .bank 1], false, false, [0, 0, 0, 0], []⟩] }) ready;
  firstAsync 0x0902 s = some a ∧ rd a.payload 0 1 = 0) ∧
  (let a : AsyncCmd := ⟨.pcie 1, 7, 0x0902, [.bank 0, .bank 1], false, false, [1, 0, 0, 0], []⟩;
  let s : State := onMbox (fun m => { m with async := [⟨.pcie 1, 7, 0x0902, [.bank 0, .bank 1], false, false, [1, 0, 0, 0], []⟩] }) ready;
  firstAsync 0x0902 s = some a ∧ rd a.payload 0 1 = 1) := by
  try simp only [arrives_cmd, arrives_cmdX, arrives_badSig, arrives_badSigX]
  try simp only [arrives_iff, mailboxInv_iff, clear_iff, SliceOn, GoodRelease, forall_lt_iff, forall_between_iff]
  and_intros <;> decide +kernel

/-- States and operands that meet the hypotheses of `Obligations.MemoryErrorsAndRetirement`, clause by clause. -/
theorem meets_MemoryErrorsAndRetirement :
  (let s : State := ready; powered 10 s = true) ∧
  (let s : State := ready; powered 10 s = true) ∧
  (let s : State := ready; powered 10 s = true ∧
    let addr := 0; Tab.getD s.mem.pageErrors (addr / 4096) 0 < 7) ∧
  (let s : State := ready; let addr : Nat := 0; feltRefuses addr s = false) ∧
  (let s : State := (onMem (fun m => { m with lltRefuse := true }) ready); let addr := 0x3FFF; s.mem.lltRefuse = true ∧ 0x3000 ≤ addr ∧
  addr ≤ 0x3FFF) ∧
  (let page : Nat := 5; let s : State := onMem (fun m => { m with retired := [(5, 0)] }) ready; (s.mem.retired.any fun r => r.1 == page) = true) ∧
  (let page : Nat := 1048575; let s : State := ready; (s.mem.retired.any fun r => r.1 == page) = false ∧ s.mem.retired.length < 256) ∧
  (let s : State := onMem (fun m => { m with retired := (List.range 256).map fun i => (i, 0) }) ready; 256 ≤ s.mem.retired.length) := by
  try simp only [arrives_cmd, arrives_cmdX, arrives_badSig, arrives_badSigX]
  try simp only [arrives_iff, mailboxInv_iff, clear_iff, SliceOn, GoodRelease, forall_lt_iff, forall_between_iff]
  and_intros <;> decide +kernel

/-- States and operands that meet the hypotheses of `Obligations.RecorderCommandsAnswer`, clause by clause. -/
theorem meets_RecorderCommandsAnswer :
  (let u : Ump := (cmd []); let s : State := ready; MailboxInv s ∧ Arrives 0x0A01 u s) ∧
  (let u : Ump := (cmd [0, 0, 0, 0, 1, 0, 0, 0, 0, 0, 0, 0, 0, 0, 0, 0, 0, 0, 0, 0]);
  let s : State := (onEvr (fun r => { r with count := 4, records := [record0] }) ready); MailboxInv s ∧ Arrives 0x0A05 u s ∧
  Clear 0x0A05 false [] s ∧ 20 ≤ u.data.length ∧ u.b16 4 ≠ 0 ∧ u.b64 8 = 0) ∧
  (let u : Ump := (cmd [0, 0, 0, 0, 0, 0, 0, 0]); let s : State := ready; MailboxInv s ∧ Arrives 0x0A02 u s ∧
  Clear 0x0A02 false [.recorder] s ∧ 8 ≤ u.data.length ∧ u.b8 0 = 0) ∧
  (let u : Ump := (cmd [1, 60, 64, 0, 88, 2, 0, 0]); let s : State := ready; MailboxInv s ∧ Arrives 0x0A02 u s ∧
  Clear 0x0A02 false [.recorder] s ∧ 8 ≤ u.data.length ∧ u.b8 0 = 1 ∧ 1 ≤ u.b8 1 ∧ u.b8 1 ≤ 60 ∧ 4 ≤ u.b8 2 ∧ u.b8 2 ≤ 64 ∧ 10 ≤ u.b16 4 ∧
  u.b16 4 ≤ 600) ∧
  (let u : Ump := (cmd ([0, 0, 0, 0] ++ token 5 0 0)); let s : State := (trusting .provisioned (token 5 0 0)); MailboxInv s ∧
  Arrives 0x0A03 u s ∧ Clear 0x0A03 true [.recorder] s ∧ 240 ≤ u.data.length ∧ s.sec.lifecycle ≠ .blank ∧
  TokenHolds u (field u.data 4 236) [5] s) := by
  try simp only [arrives_cmd, arrives_cmdX, arrives_badSig, arrives_badSigX]
  try simp only [arrives_iff, mailboxInv_iff, clear_iff, SliceOn, GoodRelease, forall_lt_iff, forall_between_iff]
  and_intros <;> (first | decide +kernel | exact Or.inr (tokenField_hash _ _ _ _ _ _ _ _))

/-- States and operands that meet the hypotheses of `Obligations.RecorderWritesAndClears`, clause by clause. -/
theorem meets_RecorderWritesAndClears :
  (let s : State := ready; reachable s = true) ∧
  (let s : State := ready; reachable s = true ∧ s.evr.stat.getLsbD 13 = false) ∧
  (let s : State := (onEvr (fun r => { r with stat := 64 }) ready); reachable s = true ∧
    let len := s.evr.stat.toNat % 512; len ≠ 0 ∧ s.evr.page = (len - 1) / 64 ∧ s.evr.next = false) ∧
  (let s : State := (onEvr (fun r => { r with stat := 64, next := true }) ready); reachable s = true ∧
    let len := s.evr.stat.toNat % 512; len ≠ 0 ∧ s.evr.page = (len - 1) / 64 ∧ s.evr.next = true) ∧
  (let s : State := ready; powered 1 s = true ∧ s.evr.queue = []) ∧
  (let s : State := (onEvr (fun r => { r with clearing := true }) ready); powered 1 s = true ∧ s.evr.clearing = true) ∧
  (let s : State := (onEvr (fun r => { r with queue := [again] }) ready); powered 1 s = true ∧
    let o := again; let q := []; s.evr.queue = o :: q ∧ s.evr.clearing = false) ∧
  (let s : State := (onEvr (fun r => { r with windows := [⟨0x0101, 16, 0, [], 600, 0⟩] }) ready); let code := 0x0101;
  (∀ w ∈ s.evr.windows, w.code = code → s.mem.seconds < w.opened + w.period)) ∧
  (let s : State := (onMem (fun m => { m with seconds := 1 }) (onEvr (fun r => { r with windows := [⟨0x0101, 16, 0, [], 1, 0⟩] }) ready));
  let w := (⟨0x0101, 16, 0, [], 1, 0⟩ : RateWindow); w ∈ s.evr.windows ∧ s.evr.windows.find? (fun v => v.code == w.code) = some w ∧
  w.suppressed = 0 ∧ w.opened + w.period ≤ s.mem.seconds) ∧
  (let o : Occurrence := { again with fixed := false }; let r : Recorder := Recorder.reset; repeatOf o r = none ∧
  r.windows.find? (fun w => w.code == o.code) = none ∧ r.permClosed = false ∧ r.permNext + (occBytes o r.lostFlag).length ≤ 65536) ∧
  (let o : Occurrence := again; let r : Recorder := Recorder.reset; repeatOf o r = none ∧ r.windows.find? (fun w => w.code == o.code) = none ∧
  r.permClosed = false ∧ r.permNext + (occBytes o r.lostFlag).length ≤ 65536 ∧ o.fixed = true) ∧
  (let a : AsyncCmd := ⟨.pcie 1, 7, 0x0A03, [.recorder], false, false, [], []⟩;
  let s : State := (onMbox (fun m => { m with async := [⟨.pcie 1, 7, 0x0A03, [.recorder], false, false, [], []⟩] }) ready);
  firstAsync 0x0A03 s = some a) := by
  try simp only [arrives_cmd, arrives_cmdX, arrives_badSig, arrives_badSigX]
  try simp only [arrives_iff, mailboxInv_iff, clear_iff, SliceOn, GoodRelease, forall_lt_iff, forall_between_iff]
  and_intros <;> decide +kernel

/-- States and operands that meet the hypotheses of `Obligations.DiagnosticsRunAndEnd`, clause by clause. -/
theorem meets_DiagnosticsRunAndEnd :
  (let u : Ump := (cmd [31, 0, 0, 0]); let s : State := ready; MailboxInv s ∧ Arrives 0x0A04 u s ∧ Clear 0x0A04 true [] s ∧ 4 ≤ u.data.length ∧
  u.b8 0 % 32 ≠ 0) ∧
  (let u : Ump := (cmd [4, 0, 64, 0, 64, 66, 15, 0]); let s : State := ready; MailboxInv s ∧ Arrives 0x0F02 u s ∧
  Clear 0x0F02 true [.port (u.b8 0)] s ∧ 8 ≤ u.data.length ∧ u.b8 0 ≤ 4 ∧ powered 9 s = true ∧ u.b8 1 ≤ 2 ∧ (u.b8 1 ≠ 0 → u.b8 0 ≠ 4) ∧
  64 ≤ u.b16 2 ∧ u.b16 2 ≤ 9216 ∧ u.b32 4 ≠ 0 ∧ u.b32 4 ≤ (if u.b8 1 = 2 then 3600 else 1000000) ∧ (port (u.b8 0) s).state = .adminDown) ∧
  (let u : Ump := (cmd [0]);
  let s : State := onSlice 2 (fun x => { x with state := .stopped }) (onSlice 1 (fun x => { x with state := .stopped }) radioStopped);
  MailboxInv s ∧ Arrives 0x0F01 u s ∧ 1 ≤ u.data.length ∧ u.b8 0 = 0 ∧ powered 6 s = true ∧
  Clear 0x0F01 true [.slice 0, .slice 1, .slice 2, .bist 0] s ∧ (∀ n, n < 3 → (slice n s).state = .stopped)) ∧
  (let a : AsyncCmd := ⟨.pcie 1, 7, 0x0A04, [], false, false, [1, 0, 0, 0], []⟩;
  let s : State := (onMbox (fun m => { m with async := [⟨.pcie 1, 7, 0x0A04, [], false, false, [1, 0, 0, 0], []⟩] }) ready);
  firstAsync 0x0A04 s = some a ∧ rd a.payload 0 1 = 1) ∧
  (let a : AsyncCmd := ⟨.pcie 1, 7, 0x0F02, [.port 0], false, false, [], []⟩;
  let s : State := (onMbox (fun m => { m with async := [⟨.pcie 1, 7, 0x0F02, [.port 0], false, false, [], []⟩] }) ready);
  firstAsync 0x0F02 s = some a) ∧
  (let s : State := ready; (s.power.state = .run ∨ s.power.state = .quiet) ∧ powered 1 s = true) := by
  try simp only [arrives_cmd, arrives_cmdX, arrives_badSig, arrives_badSigX]
  try simp only [arrives_iff, mailboxInv_iff, clear_iff, SliceOn, GoodRelease, forall_lt_iff, forall_between_iff]
  and_intros <;> decide +kernel

/-- States and operands that meet the hypotheses of `Obligations.TimeCommandsAnswer`, clause by clause. -/
theorem meets_TimeCommandsAnswer :
  (let u : Ump := (cmd []); let s : State := ready; MailboxInv s ∧ Arrives 0x0801 u s ∧ Clear 0x0801 false [] s) ∧
  (let u : Ump := (cmd [1, 0, 0, 0, 160, 134, 1, 0]); let s : State := ready; MailboxInv s ∧ Arrives 0x0802 u s ∧ Clear 0x0802 false [] s ∧
  s.clock.cfg.source = 0 ∧ u.b8 0 = 1 ∧ 8 ≤ u.data.length ∧ (rdS u.data 4 4).natAbs ≤ 100000) ∧
  (let u : Ump := (cmd [2, 0, 0, 0, 0, 0, 0, 0, 0, 54, 101, 196, 255, 255, 255, 255, 160, 134, 1, 0]); let s : State := ready; MailboxInv s ∧
  Arrives 0x0802 u s ∧ Clear 0x0802 false [] s ∧ s.clock.cfg.source = 0 ∧ u.b8 0 = 2 ∧ 20 ≤ u.data.length ∧
  (rdS u.data 8 8).natAbs ≤ 1000000000 ∧ 1000 ≤ u.b32 16 ∧ u.b32 16 ≤ 100000) ∧
  (let u : Ump := (cmd [3, 0, 0, 0, 0, 0, 0, 0, 192, 189, 240, 255, 255, 255, 255, 255]); let s : State := timeSet; MailboxInv s ∧
  Arrives 0x0802 u s ∧ Clear 0x0802 false [] s ∧ s.clock.cfg.source = 0 ∧ u.b8 0 = 3 ∧ 16 ≤ u.data.length ∧ s.clock.isSet = true ∧
  s.clock.allowance = none ∧ u.force = false ∧ (rdS u.data 8 8).natAbs ≤ s.clock.jumpLimit) ∧
  (let u : Ump := (cmd [3, 0, 0, 0, 0, 0, 0, 0, 65, 66, 15, 0, 0, 0, 0, 0]); let s : State := timeSet; MailboxInv s ∧ Arrives 0x0802 u s ∧
  Clear 0x0802 false [] s ∧ s.clock.cfg.source = 0 ∧ u.b8 0 = 3 ∧ 16 ≤ u.data.length ∧ s.clock.isSet = true ∧ s.clock.allowance = none ∧
  u.force = false ∧ s.clock.jumpLimit < (rdS u.data 8 8).natAbs) ∧
  (let u : Ump := (cmd [0, 0, 0, 0, 0, 0, 0, 0, 0, 0, 0, 0, 0, 0, 0, 0, 0, 0, 0, 0, 0, 0, 0, 0, 0, 0, 0, 0]); let s : State := ready;
  MailboxInv s ∧ Arrives 0x0803 u s ∧ Clear 0x0803 false [] s ∧ 28 ≤ u.data.length ∧ u.b8 0 = 0) ∧
  (let u : Ump := (cmd [1, 0, 0, 127, 31, 2, 2, 0, 1, 4, 5, 10, 128, 128, 248, 0, 32, 161, 7, 0, 0, 0, 0, 0, 0, 0, 0, 0]);
  let s : State := ready; MailboxInv s ∧ Arrives 0x0803 u s ∧ Clear 0x0803 false [] s ∧ 28 ≤ u.data.length ∧ u.b8 0 = 1 ∧
  ptpArgsBad u (ptpArgs u) = false ∧ s.clock.cfg.source = u.b8 1 ∧ s.clock.cfg.profile = u.b8 2) ∧
  (let u : Ump := (cmd [1, 1, 0, 127, 31, 2, 2, 0, 1, 4, 5, 10, 128, 128, 248, 0, 32, 161, 7, 0, 0, 0, 0, 0, 0, 0, 0, 0]);
  let s : State := ready; MailboxInv s ∧ Arrives 0x0803 u s ∧ Clear 0x0803 false [] s ∧ 28 ≤ u.data.length ∧ u.b8 0 = 1 ∧
  ptpArgsBad u (ptpArgs u) = false ∧ s.clock.cfg.source ≠ u.b8 1) ∧
  (let u : Ump := (cmd [0, 0, 0, 0, 0, 0, 0, 0]); let s : State := ready; MailboxInv s ∧ Arrives 0x0804 u s ∧ Clear 0x0804 false [] s ∧
  8 ≤ u.data.length ∧ u.b8 0 = 0) ∧
  (let u : Ump := (cmd [1, 0, 0, 0, 0, 202, 154, 59]); let s : State := ready; MailboxInv s ∧ Arrives 0x0804 u s ∧ Clear 0x0804 false [] s ∧
  8 ≤ u.data.length ∧ u.b8 0 = 1 ∧ 1000 ≤ u.b32 4 ∧ u.b32 4 ≤ 1000000000) := by
  try simp only [arrives_cmd, arrives_cmdX, arrives_badSig, arrives_badSigX]
  try simp only [arrives_iff, mailboxInv_iff, clear_iff, SliceOn, GoodRelease, forall_lt_iff, forall_between_iff]
  and_intros <;> decide +kernel

/-- States and operands that meet the hypotheses of `Obligations.TimeUnitAndServoRows`, clause by clause. -/
theorem meets_TimeUnitAndServoRows :
  (let s : State := (onClock (fun c => { c with wrapPending := true }) ready); powered 1 s = true ∧ s.clock.wrapPending = true) ∧
  (let s : State := (onClock (fun c => { c with slew := 1 }) ready); s.clock.slew ≠ 0) ∧
  (let s : State := ready; powered 1 s = true ∧ s.clock.cfg.ppsWidth ≠ 0) ∧
  (let s : State := (onClock (fun c => { c with ppsOut := true }) ready); s.clock.ppsOut = true) ∧
  (let s : State := ready; timeRuns s = true ∧ s.clock.cfg.source ≠ 2) ∧
  (let s : State := ready; timeRuns s = true ∧ s.clock.cfg.source ≠ 2) ∧
  (let s : State := (onClock (fun c => { c with cfg := { c.cfg with source := 2 } }) ready); timeRuns s = true ∧ s.clock.cfg.source = 2 ∧
  s.clock.servo ≠ .holdover) ∧
  (let s : State := (onClock (fun c => { c with cfg := { c.cfg with source := 1 } }) ready); timeRuns s = true ∧ s.clock.cfg.source = 1 ∧
  s.clock.servo ≠ .holdover) ∧
  (let s : State := (onClock (fun c => { c with cfg := { c.cfg with source := 1, ports := 16 } }) ready); timeRuns s = true ∧
  s.clock.cfg.source = 1 ∧
    let port := 4; bit s.clock.cfg.ports port = true) ∧
  (let s : State := (onClock (fun c => { c with cfg := { c.cfg with source := 1, ports := 16 } }) ready); timeRuns s = true ∧
  s.clock.cfg.source = 1 ∧
    let port := 4; bit s.clock.cfg.ports port = true ∧
    let id := 5; id ≠ s.clock.grandmaster) ∧
  (let s : State := (onClock (fun c => { c with cfg := { c.cfg with source := 1, ports := 16, role := 2 } }) mgtUpState); timeRuns s = true ∧
  s.clock.cfg.source = 1 ∧
    let p := 4; let kind := 1; bit s.clock.cfg.ports p = true ∧ (port p s).state = .up ∧ s.clock.cfg.role ≠ 0 ∧ (kind = 0 ∨ kind = 1)) ∧
  (let s : State := (onClock (fun c => { c with exchange := some (7, 0), good := 7, cfg := { c.cfg with source := 1 } }) ready);
  timeRuns s = true ∧ s.clock.cfg.source = 1 ∧
    let off : Int := -99; let stamp : Nat := 7; s.clock.exchange = some (stamp, s.clock.steps) ∧ off.natAbs < 100 ∧
      s.clock.servo ≠ .holdover ∧ s.clock.gmPending = none ∧ s.clock.good = 7) ∧
  (let s : State := (onClock (fun c => { c with exchange := some (7, 1), cfg := { c.cfg with source := 1 } }) ready); timeRuns s = true ∧
  s.clock.cfg.source = 1 ∧
    let stamp : Nat := 7; s.clock.exchange = some (stamp, s.clock.steps + 1)) := by
  try simp only [arrives_cmd, arrives_cmdX, arrives_badSig, arrives_badSigX]
  try simp only [arrives_iff, mailboxInv_iff, clear_iff, SliceOn, GoodRelease, forall_lt_iff, forall_between_iff]
  and_intros <;> decide +kernel

/-- States and operands that meet the hypotheses of `Obligations.TheClockStepsAndCounts`, clause by clause. -/
theorem meets_TheClockStepsAndCounts :
  (let jump : Int := 5; let s : State := ready; 0 ≤ (deviceTime s : Int) + jump ∧ (deviceTime s : Int) + jump < 2 ^ 64) ∧
  (let c : Clock := { Clock.reset with ns := 2 ^ 32 - 1, frac := 2 ^ 32 - 1, freq := 100000 }; c.slew = 0 ∧ c.frac < 2 ^ 32 ∧
  (-100000 ≤ c.freq ∧ c.freq ≤ 100000)) := by
  try simp only [arrives_cmd, arrives_cmdX, arrives_badSig, arrives_badSigX]
  try simp only [arrives_iff, mailboxInv_iff, clear_iff, SliceOn, GoodRelease, forall_lt_iff, forall_between_iff]
  and_intros <;> decide +kernel

/-- States and operands that meet the hypotheses of `Obligations.ChannelAndCalibrationAreAccepted`, clause by clause. -/
theorem meets_ChannelAndCalibrationAreAccepted :
  (let u : Ump := (cmd [0, 255, 0, 0, 0, 0, 0, 0, 0, 0, 0, 0, 0, 0, 0, 0]); let s : State := radioReady; MailboxInv s ∧ SliceOn (u.b8 0) s ∧
  Arrives 0x0201 u s ∧ Clear 0x0201 true [] s ∧ 16 ≤ u.data.length ∧ (∀ a ∈ s.mbox.async, a.code = 0x0203 ∨ Obj.slice (u.b8 0) ∉ a.locks) ∧
  u.b8 1 = 0xFF) ∧
  (let u : Ump := (cmd [0, 0, 108, 9, 0, 0, 0, 0, 0, 0, 0, 0, 0, 0, 0, 0]); let s : State := radioReady; MailboxInv s ∧ SliceOn (u.b8 0) s ∧
  Arrives 0x0201 u s ∧ Clear 0x0201 true [] s ∧ 16 ≤ u.data.length ∧ (∀ a ∈ s.mbox.async, a.code = 0x0203 ∨ Obj.slice (u.b8 0) ∉ a.locks) ∧
    let c := channelArg (u.b8 1) (u.b16 2) (u.b8 4) (u.b16 6); u.b8 1 ≠ 0xFF ∧ channelBad (u.b8 0) c s = false ∧ permitted c s = true ∧
      bit (u.b8 5) 0 = false) ∧
  (let u : Ump := (cmd [0, 0, 108, 9, 0, 1, 0, 0, 140, 20, 0, 0, 0, 0, 0, 0]); let s : State := radioReady; MailboxInv s ∧ SliceOn (u.b8 0) s ∧
  Arrives 0x0201 u s ∧ Clear 0x0201 true [] s ∧ 16 ≤ u.data.length ∧ (∀ a ∈ s.mbox.async, a.code = 0x0203 ∨ Obj.slice (u.b8 0) ∉ a.locks) ∧
    let c := channelArg (u.b8 1) (u.b16 2) (u.b8 4) (u.b16 6); let b := channelArg (u.b8 10) (u.b16 8) (u.b8 11) (u.b16 12); u.b8 1 ≠ 0xFF ∧
      channelBad (u.b8 0) c s = false ∧ permitted c s = true ∧ bit (u.b8 5) 0 = true ∧ channelBad (u.b8 0) b s = false ∧
      permitted b s = true) ∧
  (let u : Ump := (cmd [0, 0, 204, 21, 0, 0, 0, 0, 0, 0, 0, 0, 0, 0, 0, 0]); let s : State := radioReady; MailboxInv s ∧ SliceOn (u.b8 0) s ∧
  Arrives 0x0201 u s ∧ Clear 0x0201 true [] s ∧ 16 ≤ u.data.length ∧ (∀ a ∈ s.mbox.async, a.code = 0x0203 ∨ Obj.slice (u.b8 0) ∉ a.locks) ∧
    let c := channelArg (u.b8 1) (u.b16 2) (u.b8 4) (u.b16 6); u.b8 1 ≠ 0xFF ∧ channelBad (u.b8 0) c s = false ∧ bit (u.b8 5) 0 = false ∧
      permitted c s = false) ∧
  (let u : Ump := (cmd [0, 31, 0, 0]); let s : State := radioReady; MailboxInv s ∧ SliceOn (u.b8 0) s ∧ Arrives 0x0203 u s ∧
  Clear 0x0203 true [.slice (u.b8 0)] s ∧ 4 ≤ u.data.length ∧ u.b8 1 ≠ 0 ∧ u.b8 1 ≤ 31 ∧ u.b8 2 ≤ 1 ∧ (slice (u.b8 0) s).state = .ready ∧
  u.b8 2 = 0) ∧
  (let u : Ump := (cmd [0, 31, 1, 0]); let s : State := radioStopped; MailboxInv s ∧ SliceOn (u.b8 0) s ∧ Arrives 0x0203 u s ∧
  Clear 0x0203 true [.slice (u.b8 0)] s ∧ 4 ≤ u.data.length ∧ u.b8 1 ≠ 0 ∧ u.b8 1 ≤ 31 ∧ u.b8 2 ≤ 1 ∧ (slice (u.b8 0) s).state = .stopped) := by
  try simp only [arrives_cmd, arrives_cmdX, arrives_badSig, arrives_badSigX]
  try simp only [arrives_iff, mailboxInv_iff, clear_iff, SliceOn, GoodRelease, forall_lt_iff, forall_between_iff]
  and_intros <;> decide +kernel

/-- States and operands that meet the hypotheses of `Obligations.RadioCommandsAnswer`, clause by clause. -/
theorem meets_RadioCommandsAnswer :
  (let u : Ump := (cmd [0, 0]); let s : State := radioReady; MailboxInv s ∧ SliceOn (u.b8 0) s ∧ Arrives 0x0202 u s ∧ Clear 0x0202 false [] s ∧
  2 ≤ u.data.length ∧ u.b8 1 = 0) ∧
  (let u : Ump := (cmd [0, 1]); let s : State := radioReady; MailboxInv s ∧ SliceOn (u.b8 0) s ∧ Arrives 0x0202 u s ∧ Clear 0x0202 false [] s ∧
  2 ≤ u.data.length ∧ u.b8 1 = 1) ∧
  (let u : Ump := (cmd [0, 1, 64, 0, 150, 0, 244, 1]); let s : State := radioReady; MailboxInv s ∧ SliceOn (u.b8 0) s ∧ Arrives 0x0204 u s ∧
  Clear 0x0204 false [.slice (u.b8 0)] s ∧ 8 ≤ u.data.length ∧ u.b8 1 ≠ 0 ∧ -40 ≤ rdS u.data 2 2 ∧ rdS u.data 2 2 ≤ 64 ∧ 5 ≤ u.b16 4 ∧
  u.b16 4 ≤ 150 ∧ u.b16 6 ≤ 500 ∧ (rdS u.data 2 2 - (slice (u.b8 0) s).maxPower).natAbs < 4 ∧
  txBlocked { slice (u.b8 0) s with chainMask := BitVec.ofNat 8 (u.b8 1) } = txBlocked (slice (u.b8 0) s)) ∧
  (let u : Ump := (cmd [0, 3]); let s : State := radioStopped; MailboxInv s ∧ SliceOn (u.b8 0) s ∧ Arrives 0x0208 u s ∧
  Clear 0x0208 true [.slice (u.b8 0)] s ∧ 2 ≤ u.data.length ∧ 1 ≤ u.b8 1 ∧ u.b8 1 ≤ 3 ∧ (slice (u.b8 0) s).state = .stopped) ∧
  (let u : Ump := (cmd [0]); let s : State := radioReady; MailboxInv s ∧ SliceOn (u.b8 0) s ∧ Arrives 0x0209 u s ∧
  Clear 0x0209 false [.slice (u.b8 0)] s ∧ 1 ≤ u.data.length) ∧
  (let u : Ump := (cmd [0, 1, 1, 2, 0, 0, 4, 0, 0, 16, 0, 0, 0, 0, 0, 0, 0, 0, 0, 0]); let s : State := radioReady; MailboxInv s ∧
  SliceOn (u.b8 0) s ∧ Arrives 0x020B u s ∧ Clear 0x020B true [] s ∧ 20 ≤ u.data.length ∧ u.b8 1 ≠ 0 ∧ u.b8 2 ≤ 1 ∧ u.b8 3 ≤ 2 ∧
  1 ≤ u.b32 4 ∧ u.b32 4 ≤ 262144 ∧ u.b64 8 % 4 = 0 ∧ u.b64 8 ≠ 0 ∧ (slice (u.b8 0) s).capture = none ∧
  ((slice (u.b8 0) s).state = .ready ∨ (slice (u.b8 0) s).state = .cac)) ∧
  (let u : Ump := (cmd [0, 0, 1]); let s : State := radioReady; MailboxInv s ∧ SliceOn (u.b8 0) s ∧ Arrives 0x0206 u s ∧
  Clear 0x0206 false [.slice (u.b8 0)] s ∧ u.b8 2 = 1 ∧ 3 ≤ u.data.length) ∧
  (let u : Ump := (cmd [0, 0, 5, 0, 0, 1]); let s : State := radioStopped; MailboxInv s ∧ SliceOn (u.b8 0) s ∧ Arrives 0x0206 u s ∧
  Clear 0x0206 false [.slice (u.b8 0)] s ∧ u.b8 2 = 5 ∧ 6 ≤ u.data.length ∧ u.b8 5 ≤ 1 ∧ (slice (u.b8 0) s).state = .stopped) ∧
  (let u : Ump := (cmd [0, 0, 6, 161, 20, 12]); let s : State := radioReady; MailboxInv s ∧ SliceOn (u.b8 0) s ∧ Arrives 0x0206 u s ∧
  Clear 0x0206 false [.slice (u.b8 0)] s ∧ u.b8 2 = 6 ∧ 6 ≤ u.data.length ∧ -95 ≤ rdS u.data 3 1 ∧ rdS u.data 3 1 ≤ -62 ∧
  (u.b8 4 = 0 ∨ (3 ≤ u.b8 4 ∧ u.b8 4 ≤ 20)) ∧ 3 ≤ u.b8 5 ∧ u.b8 5 ≤ 12) ∧
  (let u : Ump := (cmd [0, 1, 2, 0]); let s : State := onSlice 1 (fun x => { x with state := .stopped }) radioReady; MailboxInv s ∧
  SliceOn (u.b8 0) s ∧ Arrives 0x0205 u s ∧ Clear 0x0205 false [.slice (u.b8 0), .slice (u.b8 1)] s ∧ 4 ≤ u.data.length ∧
  SliceOn (u.b8 1) s ∧ u.b8 0 ≠ u.b8 1 ∧ u.b8 2 ≤ 2) ∧
  (let u : Ump := (cmdX regionPackage); let s : State := (onSlice 0 (fun x => { x with state := .stopped }) provisioned); MailboxInv s ∧
  u.env.hw = .ok ∧ (∀ n, n < 3 → tuned n s = none) ∧
    let d := u.data; Arrives 0x0207 u s ∧ Clear 0x0207 false [] s ∧
    let l := [(1, 12, [0, 1] ++ leBytes 2 2400 ++ leBytes 2 2483 ++ leBytes 2 80 ++ leBytes 2 40 ++ [0, 0])]; 32 ≤ d.length ∧
      s.sec.lifecycle ≠ .blank ∧ d.length ≤ 12288 ∧ d.length = 32 + rd d 12 4 + 7376 ∧
      splitRecords 8192 ((d.drop 32).take (rd d 12 4)) = some l ∧ rd d 0 4 = 0x50445252 ∧ l.any recordBad = false ∧
      ((bodiesOf 1 l).any (fun b => bit (ruleBody b).flags 0) = true → bodiesOf 2 l ≠ []) ∧ (bodiesOf 2 l).length ≤ 1 ∧
      (bodiesOf 3 l).length ≤ 1 ∧ rd d 4 2 = 1 ∧ countryOk d = true ∧ u.env.sig = true ∧ (∀ p, s.radio.rdp = some p → p.serial ≤ rd d 8 4)) ∧
  (let u : Ump := { cmdX limitTable with flags := 3 }; let s : State := (onSlice 0 (fun x => { x with state := .stopped }) provisioned);
  MailboxInv s ∧ u.env.hw = .ok ∧ (∀ n, n < 3 → tuned n s = none) ∧
    let d := u.data; Arrives 0x020A u s ∧ Clear 0x020A false [] s ∧ 16 ≤ d.length ∧ s.sec.lifecycle = .provisioned ∧ u.force = true ∧
      1 ≤ rd d 3 1 ∧ rd d 3 1 ≤ 64 ∧ d.length = 16 + 16 * rd d 3 1 ∧
    let l := (List.range (rd d 3 1)).map fun i => entryBody (field d (16 + 16 * i) 16); (∀ e ∈ l, e.band ≤ 2 ∧ 1 ≤ e.widths ∧
      e.widths ≤ 31 ∧ 1 ≤ e.flags ∧ e.flags ≤ 1000) ∧ s.radio.llt = none ∧ rd d 0 2 = 0x4C4C ∧ rd d 2 1 = 3 ∧ rd d 12 4 = crc32c (d.drop 16)) ∧
  (let u : Ump := { cmdX limitTable with flags := 3 };
  let s : State := (onSlice 0 (fun x => { x with state := .stopped })
  { provisioned with radio := { provisioned.radio with llt := some [] } }); MailboxInv s ∧ u.env.hw = .ok ∧
  (∀ n, n < 3 → tuned n s = none) ∧
    let d := u.data; Arrives 0x020A u s ∧ Clear 0x020A false [] s ∧ 16 ≤ d.length ∧ s.sec.lifecycle = .provisioned ∧ u.force = true ∧
      1 ≤ rd d 3 1 ∧ rd d 3 1 ≤ 64 ∧ d.length = 16 + 16 * rd d 3 1 ∧
    let l := (List.range (rd d 3 1)).map fun i => entryBody (field d (16 + 16 * i) 16); (∀ e ∈ l, e.band ≤ 2 ∧ 1 ≤ e.widths ∧
      e.widths ≤ 31 ∧ 1 ≤ e.flags ∧ e.flags ≤ 1000) ∧ s.radio.llt ≠ none) := by
  try simp only [arrives_cmd, arrives_cmdX, arrives_badSig, arrives_badSigX]
  try simp only [arrives_iff, mailboxInv_iff, clear_iff, SliceOn, GoodRelease, forall_lt_iff, forall_between_iff]
  and_intros <;> decide +kernel

/-- States and operands that meet the hypotheses of `Obligations.ChannelChangeRows`, clause by clause. -/
theorem meets_ChannelChangeRows :
  (let n : Nat := 0; let s : State := (tuningTo ({ (⟨(some ch1), none, false, false, false, false, false, 0⟩ : Tuning) with begun := false }));
  n < 3 ∧
    let t := { (⟨(some ch1), none, false, false, false, false, false, 0⟩ : Tuning) with begun := false }; let c := ch1; mayHop n s = true ∧
      (slice n s).tuning = some t ∧ t.channel = some c ∧ permitted c s = true) ∧
  (let n : Nat := 0; let s : State := (tuningTo ({ (⟨none, none, false, false, false, false, false, 0⟩ : Tuning) with begun := false }));
  n < 3 ∧
    let t := { (⟨none, none, false, false, false, false, false, 0⟩ : Tuning) with begun := false }; mayHop n s = true ∧
      (slice n s).tuning = some t ∧ t.channel = none) ∧
  (let n : Nat := 0; let s : State := (tuningTo
  ({ (⟨(some ch1), none, false, false, false, false, false, 0⟩ : Tuning) with begun := true, band := true })); n < 3 ∧
    let t := { (⟨(some ch1), none, false, false, false, false, false, 0⟩ : Tuning) with begun := true, band := true };
      awaitsLock n s = true ∧ (slice n s).tuning = some t ∧ t.band = true) ∧
  (let n : Nat := 0; let s : State := (tuningTo ({ (⟨(some ch1), none, false, false, false, false, false, 0⟩ : Tuning) with begun := true }));
  n < 3 ∧
    let t := { (⟨(some ch1), none, false, false, false, false, false, 0⟩ : Tuning) with begun := true }; let c := ch1;
      awaitsLock n s = true ∧ (slice n s).tuning = some t ∧ t.band = false ∧ t.channel = some c ∧ (slice n s).deferred = []) ∧
  (let n : Nat := 0; let s : State := (tuningTo ({ (⟨(some ch1), none, false, false, false, false, false, 0⟩ : Tuning) with begun := true }));
  n < 3 ∧ awaitsLock n s = true) ∧
  (let n : Nat := 0; let s : State := (tuningTo
  ({ (⟨(some ch1), none, false, false, false, false, false, 0⟩ : Tuning) with begun := true, band := true, locked := true })); n < 3 ∧
    let t := { (⟨(some ch1), none, false, false, false, false, false, 0⟩ : Tuning) with begun := true, band := true, locked := true };
      let c := ch1; let hw : Retry := .retried; (slice n s).state = .tuning ∧ (slice n s).tuning = some t ∧ t.locked = true ∧
      t.band = true ∧ t.channel = some c ∧ (slice n s).deferred = [] ∧ hw ≠ .lasting) ∧
  (let n : Nat := 0; let s : State := (sliceIn .cac ch52 regulated); n < 3 ∧ (slice n s).state = .cac ∧ (slice n s).deferred = []) := by
  try simp only [arrives_cmd, arrives_cmdX, arrives_badSig, arrives_badSigX]
  try simp only [arrives_iff, mailboxInv_iff, clear_iff, SliceOn, GoodRelease, forall_lt_iff, forall_between_iff]
  and_intros <;> decide +kernel

/-- States and operands that meet the hypotheses of `Obligations.RadarAndMediumRows`, clause by clause. -/
theorem meets_RadarAndMediumRows :
  (let n : Nat := 0; let s : State := (sliceIn .ready ch52 regulated); n < 3 ∧
    let c := ch52; (slice n s).channel = some c ∧ isDfs c s = true ∧ (slice n s).state = .ready ∧ (slice n s).radarMove = false) ∧
  (let n : Nat := 0; let s : State := radioReady; n < 3 ∧
    let c := ch1; (slice n s).channel = some c ∧ isDfs c s = false) ∧
  (let n : Nat := 0; let s : State := (onMac 0 (fun m => { m with txop := some txop0 }) (onSlice 0 (fun x => { x with radarMove := true })
  (sliceIn .ready ch52 regulated))); n < 3 ∧
    let c := ch52; (slice n s).radarMove = true ∧ (slice n s).channel = some c ∧ (mac n s).txop ≠ none) ∧
  (let n : Nat := 0; n < 3) ∧
  (let n : Nat := 0; let s : State := (onSlice 0 (fun x => { x with deferred := [(3, 1)] }) (tuningTo
  ({ (⟨(some ch1), none, false, false, false, false, false, 0⟩ : Tuning) with begun := true }))); n < 3 ∧
    let ac := 3; let e : Nat × Nat := (3, 1); (slice n s).deferred.find? (fun e => e.1 == ac) = some e) ∧
  (let n : Nat := 0; let s : State := (onSlice 0 (fun x => { x with tx := some ⟨0, 100, 1, vec0, 0, [], []⟩ }) radioReady); n < 3 ∧
  (slice n s).tx ≠ none ∧ (mac n s).mgmt = []) ∧
  (let n : Nat := 0; let s : State := (onMac 0 (fun m => { m with beaconWaits := true }) (tuningTo
  ({ (⟨(some ch1), none, false, false, false, false, false, 0⟩ : Tuning) with begun := true }))); n < 3 ∧ (slice n s).state = .tuning ∧
  (mac n s).beaconWaits = true ∧ (3, 1) ∉ (slice n s).deferred) ∧
  (let n : Nat := 0; let s : State := (onMac 0 (fun m => { m with beaconWaits := true }) radioReady); n < 3 ∧
    let cca : List Cca := []; let c := ch1; (slice n s).state = .ready ∧ (slice n s).channel = some c ∧ (mac n s).beaconWaits = true ∧
      txBlocked (slice n s) = false ∧ nstrHeld n s = false ∧ mediumFree n (noteCca n cca s) = true) := by
  try simp only [arrives_cmd, arrives_cmdX, arrives_badSig, arrives_badSigX]
  try simp only [arrives_iff, mailboxInv_iff, clear_iff, SliceOn, GoodRelease, forall_lt_iff, forall_between_iff]
  and_intros <;> decide +kernel

/-- States and operands that meet the hypotheses of `Obligations.CalibrationAndCaptureRows`, clause by clause. -/
theorem meets_CalibrationAndCaptureRows :
  (let n : Nat := 0; let s : State := radioReady; n < 3 ∧
    let kind := 4; kind ≤ 4 ∧ (slice n s).state = .ready ∧
      ((slice n s).calQueue ++ (slice n s).calRunning.toList).all (fun c => c.kind != kind) = true) ∧
  (let n : Nat := 0; let s : State := (onSlice 0 (fun x => { x with calQueue := [(⟨1, 2, false⟩ : CalStep)] }) radioStopped); n < 3 ∧
    let c := (⟨1, 2, false⟩ : CalStep); let r := []; (slice n s).state = .stopped ∧ (slice n s).calQueue = c :: r ∧
      (slice n s).calRunning = none ∧ (slice n s).calJob = none ∧ classFull 9 s = false) ∧
  (let n : Nat := 0; let s : State := (onClass 9 (fun c => { c with full := some 0 }) (onSlice 0 (fun x =>
  { x with calQueue := [(⟨1, 2, false⟩ : CalStep)] }) radioStopped)); n < 3 ∧
    let c := (⟨1, 2, false⟩ : CalStep); let r := []; (slice n s).state = .stopped ∧ (slice n s).calQueue = c :: r ∧
      (slice n s).calRunning = none ∧ (slice n s).calJob = none ∧ classFull 9 s = true) ∧
  (let n : Nat := 0; let s : State := (onSlice 0 (fun x => { x with calRunning := some (⟨1, 2, false⟩ : CalStep) }) radioReady); n < 3 ∧
    let c := (⟨1, 2, false⟩ : CalStep); (slice n s).calRunning = some c ∧ (slice n s).state = .ready ∧ c.failed = false ∧ 1 < c.left) ∧
  (let n : Nat := 0; let s : State := (onSlice 0 (fun x => { x with calRunning := some ⟨1, 1, false⟩ }) radioReady); n < 3 ∧
    let c := (⟨1, 1, false⟩ : CalStep); (slice n s).calRunning = some c ∧ (slice n s).state = .ready ∧ c.failed = false ∧ c.left ≤ 1 ∧
      (slice n s).calJob = none) ∧
  (let n : Nat := 0; let s : State := (onSlice 0 (fun x => { x with calRunning := some ⟨1, 1, false⟩ }) radioReady); n < 3 ∧
    let c := (⟨1, 1, false⟩ : CalStep); (slice n s).calRunning = some c ∧ (slice n s).state = .ready ∧ c.failed = false ∧
      (slice n s).calJob = none) ∧
  (let n : Nat := 2; n < 3) ∧
  (let n : Nat := 2; let s : State := (onHalo 2 0 (fun h => { h with training := true }) radioReady); n < 3 ∧
    let a := 0; a < 3 ∧ a ≠ n ∧ (halo n a s).training = true) ∧
  (let n : Nat := 2; let s : State := (onHalo 2 0 (fun h => { h with training := true }) radioReady); n < 3 ∧
    let a := 0; a < 3 ∧ a ≠ n ∧ (halo n a s).training = true ∧ (halo n a s).failed = false) ∧
  (let n : Nat := 2; let s : State := (onHalo 2 0 (fun h => { h with training := true, failed := true }) radioReady); n < 3 ∧
    let a := 0; a < 3 ∧ a ≠ n ∧ (halo n a s).training = true ∧ (halo n a s).failed = true) ∧
  (let n : Nat := 0; let s : State := fallingBack; n < 3 ∧
    let a := 1; a < 3 ∧ a ≠ n ∧ needsHalo n a s = true ∧ (pairOf n a s).fallback = false) ∧
  (let n : Nat := 0; let s : State := (onSlice 0 (fun x => { x with capture := some none }) radioReady); n < 3 ∧
  (slice n s).capture = some none) ∧
  (let n : Nat := 0; let s : State := (onMbox (fun m =>
  { m with async := [⟨.pcie 1, 7, 0x020B, [], false, false, [0, 1, 0, 0, 1, 0, 0, 0] ++ List.replicate 12 0, []⟩] }) (onSlice 0 (fun x =>
  { x with capture := some (some 5) }) radioReady)); n < 3 ∧
    let a := ⟨.pcie 1, 7, 0x020B, [], false, false, [0, 1, 0, 0, 1, 0, 0, 0] ++ List.replicate 12 0, []⟩; let stamp := 5;
      (slice n s).capture = some (some stamp) ∧ captureOf n s = some a ∧ rd a.payload 8 8 = 0) ∧
  (let n : Nat := 0; let s : State := (onMbox (fun m => { m with async := [⟨.pcie 1, 7, 0x0208, [.slice 0], false, false, [0, 3], []⟩] })
  ready); n < 3 ∧
    let a := ⟨.pcie 1, 7, 0x0208, [.slice 0], false, false, [0, 3], []⟩;
      (s.mbox.async.find? fun a => a.code == 0x0208 && rd a.payload 0 1 == n) = some a ∧ rd a.payload 1 1 = 3) := by
  try simp only [arrives_cmd, arrives_cmdX, arrives_badSig, arrives_badSigX]
  try simp only [arrives_iff, mailboxInv_iff, clear_iff, SliceOn, GoodRelease, forall_lt_iff, forall_between_iff]
  and_intros <;> decide +kernel

/-- States and operands that meet the hypotheses of `Obligations.StationCommandsAnswer`, clause by clause. -/
theorem meets_StationCommandsAnswer :
  (let u : Ump := (cmd [0, 255, 0, 0, 2, 0, 0, 0, 0, 1, 0, 0, 0, 0, 0, 0, 0, 1, 97, 0, 0, 0, 0, 0, 0, 0, 0, 0, 0, 0, 0, 0, 0, 0, 0, 0, 0, 0, 0,
  0, 0, 0, 0, 0, 0, 0, 0, 0, 0, 0, 100, 0, 1, 0, 16, 0, 1, 0, 255, 255, 255, 0, 0, 0]); let s : State := ready; MailboxInv s ∧
  Arrives 0x0301 u s ∧ Clear 0x0301 false [] s ∧
    let h := 0; 64 ≤ u.data.length ∧ u.b8 0 < 3 ∧ powered (3 + u.b8 0) s = true ∧ createBad u = false ∧ createClash u s = false ∧
      (bssOn (u.b8 0) s).length < 16 ∧ Tab.lowestFree s.air.bss 0 47 = some h ∧ credentialAbsent u s = false ∧ s.sec.trngFailed = false ∧
      u.env.hw = .ok) ∧
  (let u : Ump := (cmd [0, 0, 127, 0, 1, 1, 63, 0, 0, 8, 2, 0, 15, 0, 2, 0, 15, 0, 2, 0, 15, 0, 2, 0, 15, 0, 10, 0, 136, 19, 10, 0, 10, 0, 16,
  14]); let s : State := serving; MailboxInv s ∧ Arrives 0x0303 u s ∧ Clear 0x0303 false [.bss (u.b8 0)] s ∧ 36 ≤ u.data.length ∧
  (bss (u.b8 0) s).isSome = true ∧ paramsBad u = false) ∧
  (let u : Ump := (cmd [0, 0]); let s : State := serving; MailboxInv s ∧ Arrives 0x0304 u s ∧ Clear 0x0304 false [] s ∧
    let x := station0; 2 ≤ u.data.length ∧ station (u.b16 0) s = some x) ∧
  (let u : Ump := (cmd [0, 0, 255, 0]); let s : State := serving; MailboxInv s ∧ Arrives 0x0306 u s ∧
  Clear 0x0306 false [.station (u.b16 0)] s ∧
    let x := station0; 4 ≤ u.data.length ∧ station (u.b16 0) s = some x ∧ u.b8 2 ≠ 0) ∧
  (let u : Ump := (cmd [255, 0, 255, 7]); let s : State := serving; MailboxInv s ∧ Arrives 0x0309 u s ∧ Clear 0x0309 false [] s ∧
  4 ≤ u.data.length ∧ u.b16 2 ≤ 2047 ∧ u.b8 0 = 255) ∧
  (let u : Ump := (cmd [1, 0, 0, 0, 255, 1, 0, 0, 0, 0, 0, 0, 0, 0, 0, 0]); let s : State := serving; MailboxInv s ∧ Arrives 0x0307 u s ∧
  16 ≤ u.data.length ∧ Clear 0x0307 false [.station (u.b16 2)] s ∧ u.b8 0 = 1 ∧ (station (u.b16 2) s).isSome = true ∧ u.b8 4 = 255) ∧
  (let u : Ump := (cmd [1, 0, 0, 0, 2, 1, 16, 39, 0, 0, 0, 0, 0, 0, 0, 0]); let s : State := serving; MailboxInv s ∧ Arrives 0x0307 u s ∧
  16 ≤ u.data.length ∧
    let good := u.b8 4 ≤ 2 ∧ u.b8 5 ≤ 7 ∧ u.b8 5 &&& targetLinks (u.b8 0) (u.b16 2) s ≠ 0 ∧ (u.b8 4 = 2 → 100 ≤ u.b16 6 ∧ u.b16 6 ≤ 10000) ∧
      ∀ t, t < 8 → u.b8 (8 + t) ||| u.b8 5 = u.b8 5; Clear 0x0307 false [.station (u.b16 2)] s ∧ u.b8 0 = 1 ∧
      (station (u.b16 2) s).isSome = true ∧ good) ∧
  (let u : Ump := (cmd [0, 0, 15, 0, 0, 1, 0, 0, 1, 1, 1, 1, 1, 1, 1, 1]); let s : State := (onBss 0 (fun b => { b with mld := 15 }) serving);
  MailboxInv s ∧ Arrives 0x0307 u s ∧ 16 ≤ u.data.length ∧
    let good := u.b8 4 ≤ 2 ∧ u.b8 5 ≤ 7 ∧ u.b8 5 &&& targetLinks (u.b8 0) (u.b16 2) s ≠ 0 ∧ (u.b8 4 = 2 → 100 ≤ u.b16 6 ∧ u.b16 6 ≤ 10000) ∧
      ∀ t, t < 8 → u.b8 (8 + t) ||| u.b8 5 = u.b8 5; Clear 0x0307 false [] s ∧ u.b8 0 = 0 ∧ u.b16 2 ≤ 15 ∧ good) ∧
  (let u : Ump := (cmd [0, 0, 0, 0, 0, 0, 0, 0]); let s : State := (withStation (fun x => { x with kind := 4 })); MailboxInv s ∧
  Arrives 0x0308 u s ∧ Clear 0x0308 false [.station (u.b16 0)] s ∧ 8 ≤ u.data.length ∧
  ((station (u.b16 0) s).any fun x => x.kind == 4) = true ∧ u.b8 2 = 0) ∧
  (let u : Ump := (cmd [0, 0, 1, 7, 170, 170, 4, 4]); let s : State := (withStation (fun x => { x with kind := 4 })); MailboxInv s ∧
  Arrives 0x0308 u s ∧ Clear 0x0308 false [.station (u.b16 0)] s ∧ 8 ≤ u.data.length ∧
  ((station (u.b16 0) s).any fun x => x.kind == 4) = true ∧ u.b8 2 = 1 ∧ u.b8 3 % 8 ≠ 0 ∧ 1024 ≤ u.b16 4 ∧ u.b16 4 ≤ 43690 ∧ 1 ≤ u.b8 6 ∧
  u.b8 6 ≤ 4 ∧ 2 ≤ u.b8 7 ∧ u.b8 7 ≤ 4 ∧ ((peerOf (u.b16 0) s).enabled = true ∨ (s.modem.peers.filter fun e => e.2.enabled).length < 8) ∧
  (peerOf (u.b16 0) s).active = false ∧ (peerOf (u.b16 0) s).element = none) ∧
  (let u : Ump := (cmd [0, 0, 2, 0, 0, 0, 0, 0]); let s : State := (withStation (fun x => { x with kind := 4 })); MailboxInv s ∧
  Arrives 0x0308 u s ∧ Clear 0x0308 false [.station (u.b16 0)] s ∧ 8 ≤ u.data.length ∧
  ((station (u.b16 0) s).any fun x => x.kind == 4) = true ∧ u.b8 2 = 2 ∧ (peerOf (u.b16 0) s).enabled = false) ∧
  (let u : Ump := (cmd [0, 0]); let s : State := serving; MailboxInv s ∧ Arrives 0x0302 u s ∧ Clear 0x0302 true [.bss (u.b8 0)] s ∧
    let x := bss0; 2 ≤ u.data.length ∧ bss (u.b8 0) s = some x ∧ (x.transmitted = true → (bssOn x.slice s).length ≤ 1)) ∧
  (let u : Ump := (cmd [0, 0, 3, 0, 2, 0, 0, 0]); let s : State := serving; MailboxInv s ∧ Arrives 0x0305 u s ∧
  Clear 0x0305 true [.station (u.b16 0)] s ∧
    let x := station0; 8 ≤ u.data.length ∧ station (u.b16 0) s = some x ∧ u.b8 4 ≤ 2) := by
  try simp only [arrives_cmd, arrives_cmdX, arrives_badSig, arrives_badSigX]
  try simp only [arrives_iff, mailboxInv_iff, clear_iff, SliceOn, GoodRelease, forall_lt_iff, forall_between_iff]
  and_intros <;> decide +kernel

/-- States and operands that meet the hypotheses of `Obligations.SchedulerCommandsAnswer`, clause by clause. -/
theorem meets_SchedulerCommandsAnswer :
  (let u : Ump := (cmd [0, 0, 0, 0, 0, 0, 0, 0]); let s : State := serving; MailboxInv s ∧ Arrives 0x0401 u s ∧ Clear 0x0401 false [] s ∧
  8 ≤ u.data.length ∧ u.b8 0 = 0) ∧
  (let u : Ump := (cmd [1, 0, 64, 31, 232, 3, 0, 0]); let s : State := serving; MailboxInv s ∧ Arrives 0x0401 u s ∧ Clear 0x0401 false [] s ∧
  8 ≤ u.data.length ∧ u.b8 0 = 1 ∧ 1000 ≤ u.b16 2 ∧ u.b16 2 ≤ 8000 ∧ u.b16 2 % 125 = 0 ∧ 100 ≤ u.b16 4 ∧ u.b16 4 ≤ 1000 ∧ u.b16 4 % 10 = 0 ∧
  4 * u.b16 4 ≤ u.b16 2) ∧
  (let u : Ump := (cmd [1, 148, 0, 90, 232, 3, 200, 0, 16, 16, 16, 30, 100, 50, 64, 0]); let s : State := serving; MailboxInv s ∧
  Arrives 0x0402 u s ∧ Clear 0x0402 false [] s ∧ 16 ≤ u.data.length ∧ u.b8 0 = 1 ∧ u.b8 1 ≤ 148 ∧ u.b8 3 ≤ 90 ∧ 10 ≤ u.b16 4 ∧
  u.b16 4 ≤ 1000 ∧ 5 ≤ u.b16 6 ∧ u.b16 6 ≤ 200 ∧ (∀ i, 8 ≤ i → i ≤ 10 → 1 ≤ u.b8 i ∧ u.b8 i ≤ 16) ∧ 10 ≤ u.b8 11 ∧ u.b8 11 ≤ 30 ∧
  1 ≤ u.b8 12 ∧ u.b8 12 ≤ 100 ∧ 1 ≤ u.b8 13 ∧ u.b8 13 ≤ 50 ∧ 2 ≤ u.b8 14 ∧ u.b8 14 ≤ 64) ∧
  (let u : Ump := (cmd [1, 24, 136, 19]); let s : State := serving; MailboxInv s ∧ Arrives 0x0403 u s ∧ Clear 0x0403 false [] s ∧
  4 ≤ u.data.length ∧ u.b8 0 = 1 ∧ 4 ≤ u.b8 1 ∧ u.b8 1 ≤ 24 ∧ 100 ≤ u.b16 2 ∧ u.b16 2 ≤ 5000) ∧
  (let u : Ump := (cmd [0, 0, 0]); let s : State := serving; MailboxInv s ∧ Arrives 0x0404 u s ∧ Clear 0x0404 false [] s ∧ 3 ≤ u.data.length ∧
    let pins := s.mls.settings.pins; u.b8 2 = 0 ∧ u.b16 0 ≤ 2047 ∧ u.b16 0 ∉ pins ∧
      ((station (u.b16 0) s).any fun x => x.state == 2 || x.state == 3) = true ∧ pins.length < 32) ∧
  (let u : Ump := (cmd [0, 0, 0]);
  let s : State := (withMls (fun m => { m with settings := { m.settings with pins := (List.range 32).map (· + 1) } }) serving);
  MailboxInv s ∧ Arrives 0x0404 u s ∧ Clear 0x0404 false [] s ∧ 3 ≤ u.data.length ∧
    let pins := s.mls.settings.pins; u.b8 2 = 0 ∧ u.b16 0 ≤ 2047 ∧ u.b16 0 ∉ pins ∧
      ((station (u.b16 0) s).any fun x => x.state == 2 || x.state == 3) = true ∧ 32 ≤ pins.length) ∧
  (let u : Ump := (cmd [255, 7, 1]); let s : State := serving; MailboxInv s ∧ Arrives 0x0404 u s ∧ Clear 0x0404 false [] s ∧
  3 ≤ u.data.length ∧ u.b8 2 = 1 ∧ u.b16 0 ≤ 2047) ∧
  (let u : Ump := (cmd [0, 0, 2]); let s : State := serving; MailboxInv s ∧ Arrives 0x0404 u s ∧ Clear 0x0404 false [] s ∧ 3 ≤ u.data.length ∧
  u.b8 2 = 2) ∧
  (let u : Ump := (cmd []); let s : State := serving; MailboxInv s ∧ Arrives 0x0405 u s ∧ Clear 0x0405 false [] s) ∧
  (let u : Ump := (cmd [0, 0, 1, 31, 0, 1, 255, 0, 128, 150, 152, 0, 127, 150, 152, 0, 255, 0, 0, 0]); let s : State := serving; MailboxInv s ∧
  Arrives 0x0406 u s ∧ Clear 0x0406 false [.bss (u.b8 0)] s ∧ 20 ≤ u.data.length ∧ (bss (u.b8 0) s).isSome = true ∧ u.b8 2 ≤ 1 ∧
  1 ≤ u.b8 3 ∧ u.b8 3 ≤ 31 ∧
    let old := s.mls.twt.find? (sameSchedule (u.b8 0) (u.b8 2) (u.b8 3)); u.b8 1 = 0 ∧
      (old ≠ none ∨ (s.mls.twt.filter fun e => e.bss == u.b8 0 && e.kind == u.b8 2).length < if u.b8 2 = 0 then 8 else 4) ∧
      twtBad u s = false) ∧
  (let u : Ump := (cmd [0, 1, 1, 31, 0, 1, 0, 0, 0, 0, 0, 0, 0, 0, 0, 0, 0, 0, 0, 0]);
  let s : State := (withMls (fun m => { m with twt := [sched] }) serving); MailboxInv s ∧ Arrives 0x0406 u s ∧
  Clear 0x0406 false [.bss (u.b8 0)] s ∧ 20 ≤ u.data.length ∧ (bss (u.b8 0) s).isSome = true ∧ u.b8 2 ≤ 1 ∧ 1 ≤ u.b8 3 ∧ u.b8 3 ≤ 31 ∧
    let old := s.mls.twt.find? (sameSchedule (u.b8 0) (u.b8 2) (u.b8 3)); u.b8 1 = 1 ∧ old ≠ none) ∧
  (let u : Ump := (cmd [0, 2, 1, 31, 0, 1, 0, 0, 0, 0, 0, 0, 0, 0, 0, 0, 0, 0, 0, 0]);
  let s : State := (withMls (fun m => { m with twt := [sched] }) serving); MailboxInv s ∧ Arrives 0x0406 u s ∧
  Clear 0x0406 false [.bss (u.b8 0)] s ∧ 20 ≤ u.data.length ∧ (bss (u.b8 0) s).isSome = true ∧ u.b8 2 ≤ 1 ∧ 1 ≤ u.b8 3 ∧ u.b8 3 ≤ 31 ∧
    let old := s.mls.twt.find? (sameSchedule (u.b8 0) (u.b8 2) (u.b8 3)); let e := sched; u.b8 1 = 2 ∧ old = some e) ∧
  (let u : Ump := (cmd [1, 4, 32, 32, 232, 3, 0, 0]); let s : State := serving; MailboxInv s ∧ Arrives 0x0407 u s ∧ Clear 0x0407 false [] s ∧
  8 ≤ u.data.length ∧ u.b8 0 = 1 ∧ 1 ≤ u.b8 1 ∧ u.b8 1 ≤ 4 ∧ 1 ≤ u.b8 2 ∧ u.b8 2 ≤ 32 ∧ 1 ≤ u.b8 3 ∧ u.b8 3 ≤ u.b8 2 ∧ u.b16 4 ≤ 1000) := by
  try simp only [arrives_cmd, arrives_cmdX, arrives_badSig, arrives_badSigX]
  try simp only [arrives_iff, mailboxInv_iff, clear_iff, SliceOn, GoodRelease, forall_lt_iff, forall_between_iff]
  and_intros <;> decide +kernel

/-- States and operands that meet the hypotheses of `Obligations.HatboxCommandsAnswer`, clause by clause. -/
theorem meets_HatboxCommandsAnswer :
  (let u : Ump := (cmd [0]); let s : State := provisioned; MailboxInv s ∧ Arrives 0x0501 u s ∧ Clear 0x0501 false [] s ∧ u.b8 0 = 0 ∧
  1 ≤ u.data.length) ∧
  (let u : Ump := (cmd [1, 0, 0, 0, 7, 7, 7, 7, 7, 7, 7, 7, 7, 7, 7, 7, 7, 7, 7, 7, 7, 7, 7, 7, 7, 7, 7, 7, 7, 7, 7, 7, 7, 7, 7, 7]);
  let s : State := provisioned; MailboxInv s ∧ Arrives 0x0501 u s ∧ Clear 0x0501 false [] s ∧ u.b8 0 = 1 ∧ 36 ≤ u.data.length ∧
  s.sec.trngFailed = false) ∧
  (let u : Ump := (cmd [2, 0, 0, 0]); let s : State := (onSec (fun c => { c with certificate := List.replicate 300 1 }) provisioned);
  MailboxInv s ∧ Arrives 0x0501 u s ∧ Clear 0x0501 false [] s ∧ u.b8 0 = 2 ∧ 4 ≤ u.data.length ∧ s.sec.lifecycle ≠ .rma) ∧
  (let u : Ump := (cmdX ([0, 0, 0, 0] ++ blob 2 160)); let s : State := provisioned; MailboxInv s ∧
    let good (kinds : List Nat) (b : Bytes) : Prop := rd b 0 4 = 0x314C4553 ∧ rd b 5 1 ∈ kinds ∧ 1 ≤ rd b 12 2 ∧ rd b 12 2 ≤ 256 ∧
      b.length = 96 + rd b 12 2 ∧ bodyRange (rd b 5 1) (rd b 12 2) = true ∧ rd b 4 1 = 1 ∧
      Tab.getD s.sec.serials (blobKey b) 0 ≤ blobSerial b ∧ (Tab.look s.sec.serials (blobKey b) = none → s.sec.serials.length < 1024);
      Arrives 0x0502 u s ∧ u.b8 0 = 0 ∧ good [1, 2] (u.data.drop 4) ∧ s.sec.restricted = false ∧
    let locks := Obj.label (blobKey (u.data.drop 4)) :: ((credentialOf (blobKey (u.data.drop 4)) s).map Obj.credential).toList;
      Clear 0x0502 true locks s ∧ (credentialOf (blobKey (u.data.drop 4)) s = none → s.sec.credentials.length < 256)) ∧
  (let u : Ump := (cmdX [1, 0, 0, 0]); let s : State := (onSec (fun c => { c with credentials := [(0, ⟨1, 1, 1, []⟩)] }) provisioned);
  MailboxInv s ∧ Arrives 0x0502 u s ∧ 4 ≤ u.data.length ∧ (Tab.look s.sec.credentials (u.b16 2)).isSome = true ∧ u.b8 0 = 1 ∧
  credentialUses (u.b16 2) s = 0 ∧ Clear 0x0502 true [.credential (u.b16 2)] s) ∧
  (let u : Ump := (cmdX [2, 0, 0, 0]); let s : State := (onSec (fun c => { c with credentials := [(0, ⟨1, 1, 1, []⟩)] }) provisioned);
  MailboxInv s ∧ Arrives 0x0502 u s ∧ 4 ≤ u.data.length ∧ (Tab.look s.sec.credentials (u.b16 2)).isSome = true ∧ u.b8 0 = 2 ∧
  Clear 0x0502 true [] s) ∧
  (let u : Ump := (cmdX ([0, 7, 0, 5] ++ leBytes 2 300 ++ leBytes 2 1 ++ List.replicate 36 0 ++ leBytes 2 3600 ++ leBytes 2 120 ++
  List.replicate 8 0 ++ blob 3 128));
  let s : State := { provisioned with wire := { provisioned.wire with vlans := [(1, ⟨16, 0, 0, 0, (0, 0), (0, 0), 1500⟩)] } };
  MailboxInv s ∧
    let good (kinds : List Nat) (b : Bytes) : Prop := rd b 0 4 = 0x314C4553 ∧ rd b 5 1 ∈ kinds ∧ 1 ≤ rd b 12 2 ∧ rd b 12 2 ≤ 256 ∧
      b.length = 96 + rd b 12 2 ∧ bodyRange (rd b 5 1) (rd b 12 2) = true ∧ rd b 4 1 = 1 ∧
      Tab.getD s.sec.serials (blobKey b) 0 ≤ blobSerial b ∧ (Tab.look s.sec.serials (blobKey b) = none → s.sec.serials.length < 1024);
      Arrives 0x0503 u s ∧ u.b8 0 = 0 ∧ u.b8 1 ≤ 7 ∧ 168 ≤ u.data.length ∧ good [3] (u.data.drop 56) ∧ s.sec.restricted = false ∧
      radiusArgsBad u.data s = false ∧ Clear 0x0503 true [.radius (u.b8 1)] s) ∧
  (let u : Ump := (cmdX [1, 7, 0, 0, 0, 0, 0, 0, 0, 0, 0, 0, 0, 0, 0, 0, 0, 0, 0, 0, 0, 0, 0, 0, 0, 0, 0, 0, 0, 0, 0, 0, 0, 0, 0, 0, 0, 0, 0,
  0, 0, 0, 0, 0, 0, 0, 0, 0]); let s : State := (onSec (fun c => { c with radius := [(7, ⟨[], [], (false, false)⟩)] }) provisioned);
  MailboxInv s ∧ Arrives 0x0503 u s ∧ u.b8 1 ≤ 7 ∧ 48 ≤ u.data.length ∧ (Tab.look s.sec.radius (u.b8 1)).isSome = true ∧ u.b8 0 = 1 ∧
  (s.air.bss.any fun e => e.2.radius == u.b8 1) = false ∧ Clear 0x0503 true [.radius (u.b8 1)] s) ∧
  (let u : Ump := (cmdX [2, 7, 0, 0, 0, 0, 0, 0, 0, 0, 0, 0, 0, 0, 0, 0, 0, 0, 0, 0, 0, 0, 0, 0, 0, 0, 0, 0, 0, 0, 0, 0, 0, 0, 0, 0, 0, 0, 0,
  0, 0, 0, 0, 0, 0, 0, 0, 0]); let s : State := (onSec (fun c => { c with radius := [(7, ⟨[], [], (false, false)⟩)] }) provisioned);
  MailboxInv s ∧ Arrives 0x0503 u s ∧ u.b8 1 ≤ 7 ∧ 48 ≤ u.data.length ∧ (Tab.look s.sec.radius (u.b8 1)).isSome = true ∧ u.b8 0 = 2 ∧
  Clear 0x0503 true [] s) ∧
  (let u : Ump := (cmd ([0, 32, 0xFF, 0] ++ blob 4 16)); let s : State := provisioned; MailboxInv s ∧
    let good (kinds : List Nat) (b : Bytes) : Prop := rd b 0 4 = 0x314C4553 ∧ rd b 5 1 ∈ kinds ∧ 1 ≤ rd b 12 2 ∧ rd b 12 2 ≤ 256 ∧
      b.length = 96 + rd b 12 2 ∧ bodyRange (rd b 5 1) (rd b 12 2) = true ∧ rd b 4 1 = 1 ∧
      Tab.getD s.sec.serials (blobKey b) 0 ≤ blobSerial b ∧ (Tab.look s.sec.serials (blobKey b) = none → s.sec.serials.length < 1024);
      Arrives 0x0504 u s ∧ good [4] (u.data.drop 4) ∧ s.sec.restricted = false ∧ importSlot (u.b16 0) = true ∧ u.b8 2 = 0xFF ∧
      rd (u.data.drop 4) 12 2 = (if u.b16 0 / 8192 = 1 then 16 else 32) ∧ (keyHeld (u.b16 0) s = true → bit (u.b8 3) 0 = true) ∧
      Clear 0x0504 true [.key (u.b16 0)] s) ∧
  (let u : Ump := (cmd ([0xFF, 0xFF, 63, 0] ++ blob 4 32)); let s : State := provisioned; MailboxInv s ∧
    let good (kinds : List Nat) (b : Bytes) : Prop := rd b 0 4 = 0x314C4553 ∧ rd b 5 1 ∈ kinds ∧ 1 ≤ rd b 12 2 ∧ rd b 12 2 ≤ 256 ∧
      b.length = 96 + rd b 12 2 ∧ bodyRange (rd b 5 1) (rd b 12 2) = true ∧ rd b 4 1 = 1 ∧
      Tab.getD s.sec.serials (blobKey b) 0 ≤ blobSerial b ∧ (Tab.look s.sec.serials (blobKey b) = none → s.sec.serials.length < 1024);
      Arrives 0x0504 u s ∧ good [4] (u.data.drop 4) ∧ s.sec.restricted = false ∧ u.b16 0 = 0xFFFF ∧ u.b8 2 ≤ 63 ∧
      ((Tab.look s.sec.vaultKeys (u.b8 2)).isSome = true → bit (u.b8 3) 0 = true) ∧ Clear 0x0504 true [.key (65536 + u.b8 2)] s) ∧
  (let u : Ump := (cmd [255, 255, 63, 0]); let s : State := provisioned; MailboxInv s ∧ Arrives 0x0505 u s ∧ 4 ≤ u.data.length ∧
  u.b16 0 = 0xFFFF ∧ u.b8 2 ≤ 63 ∧ Clear 0x0505 false [.key (65536 + u.b8 2)] s) ∧
  (let u : Ump := (cmd [0, 32, 255, 0]); let s : State := (onSec (fun c => { c with keys := [(8192, [1])] }) provisioned); MailboxInv s ∧
  Arrives 0x0505 u s ∧ 4 ≤ u.data.length ∧ keyHandleOk (u.b16 0) = true ∧ u.b16 0 / 8192 ≠ 0 ∧ u.b8 2 = 0xFF ∧
  Clear 0x0505 false [.key (u.b16 0)] s ∧ keyHeld (u.b16 0) s = true) ∧
  (let u : Ump := (cmd [0, 32, 255, 0]); let s : State := provisioned; MailboxInv s ∧ Arrives 0x0505 u s ∧ 4 ≤ u.data.length ∧
  keyHandleOk (u.b16 0) = true ∧ u.b16 0 / 8192 ≠ 0 ∧ u.b8 2 = 0xFF ∧ Clear 0x0505 false [.key (u.b16 0)] s ∧ keyHeld (u.b16 0) s = false) ∧
  (let u : Ump := (cmdX (cipherJob)); let s : State := (onSec (fun c => { c with vaultKeys := [(63, [1])] }) provisioned); MailboxInv s ∧
  Arrives 0x0506 u s ∧ Clear 0x0506 false [] s ∧ u.env.wr = .ok ∧
    let d := u.data; let n := rd d 8 4; let key := [1]; Tab.look s.sec.vaultKeys (rd d 2 1) = some key ∧ rd d 2 1 ≤ 63 ∧
      s.sec.restricted = false ∧ rd d 0 1 ≤ 1 ∧ rd d 1 1 = 2 ∧ rd d 16 8 ≠ 0 ∧ rd d 16 8 % 4 = 0 ∧ rd d 3 1 = 16 ∧ rd d 4 1 = 0 ∧
      rd d 6 2 = 0 ∧ 1 ≤ n ∧ n ≤ 65536 ∧ d.length = 40 + n) := by
  try simp only [arrives_cmd, arrives_cmdX, arrives_badSig, arrives_badSigX]
  try simp only [arrives_iff, mailboxInv_iff, clear_iff, SliceOn, GoodRelease, forall_lt_iff, forall_between_iff]
  and_intros <;> decide +kernel

/-- States and operands that meet the hypotheses of `Obligations.TokensAndDebug`, clause by clause. -/
theorem meets_TokensAndDebug :
  (let u : Ump := (cmd [0]); let s : State := provisioned; MailboxInv s ∧ u.env.hw = .ok ∧ Arrives 0x0507 u s ∧ Clear 0x0507 false [] s ∧
  u.b8 0 = 0 ∧ 1 ≤ u.data.length ∧ s.sec.trngFailed = false) ∧
  (let u : Ump := (cmd ([1, 0, 0, 0] ++ token 3 0 0)); let s : State := (trusting .provisioned (token 3 0 0)); MailboxInv s ∧ u.env.hw = .ok ∧
    let t := field u.data 4 236; Arrives 0x0507 u s ∧ Clear 0x0507 false [] s ∧ u.b8 0 = 1 ∧ 240 ≤ u.data.length ∧ 1 ≤ rd t 3 1 ∧
      rd t 3 1 ≤ 3 ∧ purposeFits (rd t 3 1) s.sec.lifecycle = true ∧ purposeFits (rd t 3 1) s.sec.otpLifecycle = true ∧
      TokenHolds u t [1, 2, 3] s) ∧
  (let u : Ump := (cmd ([1, 0, 0, 0] ++ token 3 0 0)); let s : State := (onSec (fun c => { c with challenge := none }) provisioned);
  MailboxInv s ∧ u.env.hw = .ok ∧
    let t := field u.data 4 236; Arrives 0x0507 u s ∧ Clear 0x0507 false [] s ∧ u.b8 0 = 1 ∧ 240 ≤ u.data.length ∧ 1 ≤ rd t 3 1 ∧
      rd t 3 1 ≤ 3 ∧ purposeFits (rd t 3 1) s.sec.lifecycle = true ∧ purposeFits (rd t 3 1) s.sec.otpLifecycle = true ∧
      carriesChallenge t s = false) ∧
  (let u : Ump := (badSig (cmd ([1, 0, 0, 0] ++ token 3 0 0))); let s : State := (trusting .provisioned (token 3 0 0)); MailboxInv s ∧
  u.env.hw = .ok ∧
    let t := field u.data 4 236; Arrives 0x0507 u s ∧ Clear 0x0507 false [] s ∧ u.b8 0 = 1 ∧ 240 ≤ u.data.length ∧ 1 ≤ rd t 3 1 ∧
      rd t 3 1 ≤ 3 ∧ purposeFits (rd t 3 1) s.sec.lifecycle = true ∧ purposeFits (rd t 3 1) s.sec.otpLifecycle = true ∧
      carriesChallenge t s = true ∧ tokenBad [1, 2, 3] t = false ∧ u.env.sig = false) ∧
  (let u : Ump := (cmd ([0, 0, 0, 0] ++ token 4 2 1440)); let s : State := (trusting .provisioned (token 4 2 1440)); MailboxInv s ∧
  u.env.hw = .ok ∧
    let t := field u.data 4 236; Arrives 0x0508 u s ∧ Clear 0x0508 false [] s ∧
      (s.sec.lifecycle = .provisioned ∨ s.sec.lifecycle = .deployed) ∧ u.b8 0 = 0 ∧ 240 ≤ u.data.length ∧ TokenHolds u t [4] s ∧
      bit (rd t 4 2) 0 = false ∧ s.sec.debugScope = 0) ∧
  (let u : Ump := (cmd [1]); let s : State := (onSec (fun c => { c with debugScope := 3 }) provisioned); MailboxInv s ∧ u.env.hw = .ok ∧
  Arrives 0x0508 u s ∧ Clear 0x0508 false [] s ∧ (s.sec.lifecycle = .provisioned ∨ s.sec.lifecycle = .deployed) ∧ u.b8 0 = 1 ∧
  1 ≤ u.data.length ∧ s.sec.debugScope ≠ 0) ∧
  (let u : Ump := (cmd [2]); let s : State := provisioned; MailboxInv s ∧ u.env.hw = .ok ∧ Arrives 0x0508 u s ∧ Clear 0x0508 false [] s ∧
  (s.sec.lifecycle = .provisioned ∨ s.sec.lifecycle = .deployed) ∧ u.b8 0 = 2 ∧ 1 ≤ u.data.length) := by
  try simp only [arrives_cmd, arrives_cmdX, arrives_badSig, arrives_badSigX]
  try simp only [arrives_iff, mailboxInv_iff, clear_iff, SliceOn, GoodRelease, forall_lt_iff, forall_between_iff]
  and_intros <;> (first | decide +kernel | exact Or.inr (tokenField_hash _ _ _ _ _ _ _ _))

/-- States and operands that meet the hypotheses of `Obligations.HandshakeAndKeyRows`, clause by clause. -/
theorem meets_HandshakeAndKeyRows :
  (let s : State := secured; let b : Nat := 0; let x : Bss := { bss0 with security := 1, credential := 0, radius := 0 }; bss b s = some x ∧
  sliceUsable x.slice s = true ∧ s.sec.restricted = false ∧ s.sec.trngFailed = false ∧
    let group := 20; let h2e := true; hasPassword x s = true ∧ (sixGhz x.slice s = true → h2e = true) ∧ (group = 19 ∨ group = 20) ∧
      saeAwaiting s ≤ 16) ∧
  (let s : State := (securedS (fun c => { c with sae := [⟨5, 0, 1⟩] })); let b : Nat := 0;
  let x : Bss := { bss0 with security := 1, credential := 0, radius := 0 }; bss b s = some x ∧ sliceUsable x.slice s = true ∧
  s.sec.restricted = false ∧ s.sec.trngFailed = false ∧
    let addr := 5; (s.sec.sae.any fun e => e.addr == addr && e.bss == b && e.step == 1) = true) ∧
  (let s : State := (securedS (fun c => { c with sae := [⟨5, 0, 0⟩] })); let b : Nat := 0;
  let x : Bss := { bss0 with security := 1, credential := 0, radius := 0 }; bss b s = some x ∧ sliceUsable x.slice s = true ∧
  s.sec.restricted = false ∧ s.sec.trngFailed = false ∧
    let addr := 5; let e : Sae := ⟨5, 0, 0⟩; s.sec.sae.find? (fun e => e.addr == addr && e.step == 0) = some e ∧ e.bss = b) ∧
  (let s : State := { secured with fleet := { secured.fleet with staged := [staged5] } }; let b : Nat := 0;
  let x : Bss := { bss0 with security := 1, credential := 0, radius := 0 }; bss b s = some x ∧ sliceUsable x.slice s = true ∧
  s.sec.restricted = false ∧ s.sec.trngFailed = false ∧
    let addr := 5; let c : StagedContext := staged5; stagedFor addr s = some c) ∧
  (let s : State := secured; let b : Nat := 0; let x : Bss := { bss0 with security := 1, credential := 0, radius := 0 }; bss b s = some x ∧
  sliceUsable x.slice s = true ∧ s.sec.restricted = false ∧ s.sec.trngFailed = false ∧
    let addr := 5; stagedFor addr s = none) ∧
  (let s : State := (securedStation (fun x => { x with fourWay := some (1, 1) })); let b : Nat := 0;
  let x : Bss := { bss0 with security := 1, credential := 0, radius := 0 }; bss b s = some x ∧ sliceUsable x.slice s = true ∧
  s.sec.restricted = false ∧ s.sec.trngFailed = false ∧
    let h := 0; let y : Station := { station0 with fourWay := some (1, 1) }; station h s = some y ∧ y.state ≠ 4 ∧ y.fourWay = some (1, 1)) ∧
  (let s : State := (securedStation (fun x => { x with fourWay := some (3, 1) })); let b : Nat := 0;
  let x : Bss := { bss0 with security := 1, credential := 0, radius := 0 }; bss b s = some x ∧ sliceUsable x.slice s = true ∧
  s.sec.restricted = false ∧ s.sec.trngFailed = false ∧
    let h := 0; let y : Station := { station0 with fourWay := some (3, 1) }; station h s = some y ∧ y.state ≠ 4 ∧ y.fourWay = some (3, 1) ∧
      y.state = 3) ∧
  (let s : State := (securedStation (fun x => { x with fourWay := some (1, 2) })); let b : Nat := 0;
  let x : Bss := { bss0 with security := 1, credential := 0, radius := 0 }; bss b s = some x ∧ sliceUsable x.slice s = true ∧
  s.sec.restricted = false ∧ s.sec.trngFailed = false ∧
    let h := 0; let y : Station := { station0 with fourWay := some (1, 2) }; station h s = some y ∧ y.state ≠ 4 ∧
    let m := 1; let n := 2; y.fourWay = some (m, n) ∧ n < 3) ∧
  (let s : State := (securedStation (fun x => { x with state := 1 })); let b : Nat := 0;
  let x : Bss := { bss0 with security := 1, credential := 0, radius := 0 }; bss b s = some x ∧ sliceUsable x.slice s = true ∧
  s.sec.restricted = false ∧ s.sec.trngFailed = false ∧
    let h := 0; let y : Station := { station0 with state := 1 }; station h s = some y ∧ y.state ≠ 4 ∧
    let p : RadiusProfile := ⟨[0, 0, 0, 5], [], (false, false)⟩; homeBss y = b ∧ y.state = 1 ∧ Tab.look s.sec.radius x.radius = some p ∧
      p.dead.1 = false) ∧
  (let s : State := (securedS (fun c => { c with requests := [⟨0, 0, false, 4⟩] })); let b : Nat := 0;
  let x : Bss := { bss0 with security := 1, credential := 0, radius := 0 }; bss b s = some x ∧ sliceUsable x.slice s = true ∧
  s.sec.restricted = false ∧ s.sec.trngFailed = false ∧
    let h := 0; let y : Station := station0; station h s = some y ∧ y.state ≠ 4 ∧ (s.sec.requests.any fun r => r.station == h) = true) ∧
  (let s : State := (securedS (fun c => { c with requests := [⟨0, 0, false, 4⟩] })); let b : Nat := 0;
  let x : Bss := { bss0 with security := 1, credential := 0, radius := 0 }; bss b s = some x ∧ sliceUsable x.slice s = true ∧
  s.sec.restricted = false ∧ s.sec.trngFailed = false ∧
    let h := 0; let y : Station := station0; station h s = some y ∧ y.state ≠ 4 ∧ (s.sec.requests.any fun r => r.station == h) = true ∧
      homeBss y = b) ∧
  (let s : State := (securedS (fun c => { c with requests := [⟨0, 0, false, 4⟩] })); let b : Nat := 0;
  let x : Bss := { bss0 with security := 1, credential := 0, radius := 0 }; bss b s = some x ∧ sliceUsable x.slice s = true ∧
  s.sec.restricted = false ∧ s.sec.trngFailed = false ∧
    let h := 0; let y : Station := station0; station h s = some y ∧ y.state ≠ 4 ∧ (s.sec.requests.any fun r => r.station == h) = true) ∧
  (let s : State := (securedS (fun c => { c with requests := [⟨0, 0, false, 4⟩] })); let b : Nat := 0;
  let x : Bss := { bss0 with security := 1, credential := 0, radius := 0 }; bss b s = some x ∧ sliceUsable x.slice s = true ∧
  s.sec.restricted = false ∧ s.sec.trngFailed = false ∧
    let h := 0; let y : Station := station0; station h s = some y ∧ y.state ≠ 4 ∧
    let r : RadiusReq := ⟨0, 0, false, 4⟩; let p : RadiusProfile := ⟨[0, 0, 0, 5], [], (false, false)⟩;
      s.sec.requests.find? (fun r => r.station == h) = some r ∧ Tab.look s.sec.radius r.profile = some p ∧ r.resends < rd p.bytes 3 1) ∧
  (let s : State := (securedStation (fun x => { x with state := 1 })); let b : Nat := 0;
  let x : Bss := { bss0 with security := 1, credential := 0, radius := 0 }; bss b s = some x ∧ sliceUsable x.slice s = true ∧
  s.sec.restricted = false ∧ s.sec.trngFailed = false ∧
    let h := 0; let y : Station := { station0 with state := 1 }; station h s = some y ∧ y.state ≠ 4 ∧ y.state = 1) ∧
  (let s : State := (onMem (fun m => { m with seconds := 86400 }) { secured with air := { secured.air with stations := [] } }); let b := 0;
  let x : Bss := { bss0 with security := 1, credential := 0, radius := 0 }; bss b s = some x ∧ x.security ≠ 0 ∧ s.sec.restricted = false ∧
  s.sec.trngFailed = false ∧ stationsOf b s = [] ∧ x.rekeyAt + 86400 ≤ s.mem.seconds) ∧
  (let s : State := (onBss 0 (fun b => { b with rekeyWaiting := [(0, 2)] }) secured); let b := 0;
  let x : Bss := { ({ bss0 with security := 1, credential := 0, radius := 0 } : Bss) with rekeyWaiting := [(0, 2)] }; let h := 0;
  let n := 2; bss b s = some x ∧ x.rekeyWaiting.find? (fun e => e.1 == h) = some (h, n) ∧ n < 3) ∧
  (let s : State := (onSec (fun c => { c with keys := [(4097, [1])] }) (onBss 0 (fun b => { b with newGroupKey := some 4097 }) secured));
  let b := 0; let x : Bss := { ({ bss0 with security := 1, credential := 0, radius := 0 } : Bss) with newGroupKey := some 4097 };
  let g := 4097; bss b s = some x ∧ x.newGroupKey = some g ∧ x.rekeyWaiting = [] ∧ keyHeld g s = true) ∧
  (let s : State := (securedS (fun c => { c with writes := [⟨4096, some [1]⟩] })); let h := 4096; let k : Bytes := [1];
  s.sec.writes.find? (fun w => w.handle == h) = some ⟨h, some k⟩ ∧ 4096 ≤ h) ∧
  (let s : State := (securedS (fun c => { c with writes := [⟨16384, none⟩] })); let h := 16384;
  s.sec.writes.find? (fun w => w.handle == h) = some ⟨h, none⟩ ∧ 8192 * 2 ≤ h) ∧
  (let s : State := secured; let profile := 0; let p : RadiusProfile := ⟨[0, 0, 0, 5], [], (false, false)⟩;
  Tab.look s.sec.radius profile = some p) ∧
  (let s : State := (onClock (fun c => { c with ns := 600000000000 }) (securedS (fun c =>
  { c with challenge := some (List.replicate 32 0, 600000000000) }))); let c : Bytes × Nat := (List.replicate 32 0, 600000000000);
  s.sec.challenge = some c ∧ c.2 ≤ runTime s) ∧
  (let s : State := (securedS (fun c => { c with challenge := some (List.replicate 32 0, 600000000000) }));
  let c : Bytes × Nat := (List.replicate 32 0, 600000000000); s.sec.challenge = some c ∧ runTime s < c.2) ∧
  (let s : State := (securedS (fun c => { c with debugScope := 3, debugMinutes := 1 })); runTime s < debugEnds s) ∧
  (let s : State := (onClock (fun c => { c with ns := 60000000000 }) (securedS (fun c => { c with debugScope := 3, debugMinutes := 1 })));
  debugEnds s ≤ runTime s ∧ s.sec.debugScope ≠ 0 ∧ (s.sec.lifecycle = .provisioned ∨ s.sec.lifecycle = .deployed)) ∧
  (let s : State := (securedS (fun c => { c with trngRetry := false })); s.sec.trngFailed = false ∧ s.sec.trngRetry = false) ∧
  (let s : State := (securedS (fun c => { c with trngRetry := true })); s.sec.trngFailed = false ∧ s.sec.trngRetry = true) ∧
  (let s : State := (onClock (fun c => { c with ns := 101 }) { secured with fleet := { secured.fleet with staged := [staged5] } });
  let addr := 5; (s.fleet.staged.any fun c => c.addr == addr && decide (c.expires ≤ runTime s)) = true) ∧
  (let s : State := (onMbox (fun m => { m with async := [(⟨.pcie 1, 7, 0x0504, [], false, false, [0, 32, 0xFF, 0], []⟩ : AsyncCmd)] })
  secured); let a := (⟨.pcie 1, 7, 0x0504, [], false, false, [0, 32, 0xFF, 0], []⟩ : AsyncCmd); firstAsync 0x0504 s = some a ∧
  rd a.payload 0 2 / 8192 = 1 ∧ keyHandleOk (rd a.payload 0 2) = true) ∧
  (let s : State := (onSec (fun c => { c with sealing := (List.replicate 32 0, List.replicate 8 0) }) (onMbox (fun m =>
  { m with async := [(⟨.pcie 1, 7, 0x0504, [], false, false, [0, 32, 0xFF, 0] ++ blob 4 16, []⟩ : AsyncCmd)] }) secured));
  let a := (⟨.pcie 1, 7, 0x0504, [], false, false, [0, 32, 0xFF, 0] ++ blob 4 16, []⟩ : AsyncCmd); firstAsync 0x0504 s = some a ∧
  rd a.payload 0 2 / 8192 = 1 ∧ keyHandleOk (rd a.payload 0 2) = true ∧ field (a.payload.drop 4) 16 8 = fit 8 s.sec.sealing.2) := by
  try simp only [arrives_cmd, arrives_cmdX, arrives_badSig, arrives_badSigX]
  try simp only [arrives_iff, mailboxInv_iff, clear_iff, SliceOn, GoodRelease, forall_lt_iff, forall_between_iff]
  and_intros <;> decide +kernel

/-- States and operands that meet the hypotheses of `Obligations.FleetCommandsAnswer`, clause by clause. -/
theorem meets_FleetCommandsAnswer :
  (let u : Ump := (cmd []); let s : State := inFleet; MailboxInv s ∧ Arrives 0x0D01 u s ∧ Clear 0x0D01 false [] s) ∧
  (let u : Ump := (cmd [0, 0, 0, 0]); let s : State := inFleet; MailboxInv s ∧ Arrives 0x0D02 u s ∧ Clear 0x0D02 false [] s ∧
  4 ≤ u.data.length ∧ u.env.hw = .ok ∧ u.b8 0 = 0) ∧
  (let u : Ump := (cmd [1, 0, 0, 3]);
  let s : State := { onPower (fun p => { p with version := 0x03010000 }) inFleet with fleet := { inFleet.fleet with floor := 0x0301 } };
  MailboxInv s ∧ Arrives 0x0D02 u s ∧ Clear 0x0D02 false [] s ∧ 4 ≤ u.data.length ∧ u.env.hw = .ok ∧ u.b8 0 = 1 ∧ 0x0300 ≤ u.b16 2 ∧
  u.b16 2 ≤ runningVersion s ∧ u.b16 2 ≠ s.fleet.floor) ∧
  (let u : Ump := (cmd [1, 0, 7, 0]); let s : State := inFleet; MailboxInv s ∧ Arrives 0x0D05 u s ∧ Clear 0x0D05 true [.fleetKey] s ∧
  s.sec.restricted = false ∧ u.b8 0 = 1 ∧ 4 ≤ u.data.length ∧ u.b16 2 ≠ 0 ∧ (fleetHeld s = true → u.b16 2 = s.fleet.id)) ∧
  (let u : Ump := (cmd [2]); let s : State := inFleet; MailboxInv s ∧ Arrives 0x0D05 u s ∧ Clear 0x0D05 true [.fleetKey] s ∧
  s.sec.restricted = false ∧ u.b8 0 = 2 ∧ 1 ≤ u.data.length) ∧
  (let u : Ump := (cmd [2, 0, 0, 0, 0, 0, 0, 0, 0, 0, 0, 0, 0, 0, 0, 0]); let s : State := inFleet; MailboxInv s ∧ Arrives 0x0D03 u s ∧
  s.sec.restricted = false ∧ u.b8 0 = 2 ∧ 16 ≤ u.data.length ∧ (station (u.b16 2) s).isSome = true ∧
  Clear 0x0D03 true [.station (u.b16 2)] s) ∧
  (let u : Ump := { cmd ([0, 0, 0, 0, 0, 0, 0, 0, 0, 0, 0, 0] ++ leBytes 4 1000 ++ leBytes 8 4096) with env := {} }; let s : State := inFleet;
  MailboxInv s ∧ Arrives 0x0D03 u s ∧ s.sec.restricted = false ∧
    let n := (contextBody (u.b16 2) (formatWritten s.fleet.floor) s).length; u.b8 0 = 0 ∧ 24 ≤ u.data.length ∧
      (station (u.b16 2) s).any (fun x => x.state == 3) = true ∧ Clear 0x0D03 true [] s ∧ fleetHeld s = true ∧ u.b64 16 ≠ 0 ∧
      u.b64 16 % 4 = 0 ∧ 64 + n ≤ u.b32 12) ∧
  (let u : Ump := (cmdX ([0, 0] ++ leBytes 2 3600 ++ [0, 0, 0, 0] ++ context)); let s : State := inFleet; MailboxInv s ∧ Arrives 0x0D04 u s ∧
  Clear 0x0D04 true [] s ∧ s.sec.restricted = false ∧ u.b8 0 = 0 ∧ 8 ≤ u.data.length ∧ (u.b16 2 = 0 ∨ (10 ≤ u.b16 2 ∧ u.b16 2 ≤ 3600)) ∧
  contextBad (u.data.drop 8) = false ∧ 64 + rd (u.data.drop 8) 10 2 ≤ (u.data.drop 8).length ∧ rd (u.data.drop 8) 6 2 = s.fleet.id ∧
  (Tab.look s.fleet.keys (rd (u.data.drop 8) 8 2)).isSome = true ∧ rd (u.data.drop 8) 5 1 ≤ 3 ∧ contextOlder (u.data.drop 8) s = false) ∧
  (let u : Ump := (cmdX ([0, 0] ++ leBytes 2 3600 ++ [0, 0, 0, 0] ++ context));
  let s : State := { inFleet with fleet := { inFleet.fleet with id := 8 } }; MailboxInv s ∧ Arrives 0x0D04 u s ∧ Clear 0x0D04 true [] s ∧
  s.sec.restricted = false ∧ u.b8 0 = 0 ∧ 8 ≤ u.data.length ∧ (u.b16 2 = 0 ∨ (10 ≤ u.b16 2 ∧ u.b16 2 ≤ 3600)) ∧
  contextBad (u.data.drop 8) = false ∧ 64 + rd (u.data.drop 8) 10 2 ≤ (u.data.drop 8).length ∧ rd (u.data.drop 8) 6 2 ≠ s.fleet.id) := by
  try simp only [arrives_cmd, arrives_cmdX, arrives_badSig, arrives_badSigX]
  try simp only [arrives_iff, mailboxInv_iff, clear_iff, SliceOn, GoodRelease, forall_lt_iff, forall_between_iff]
  and_intros <;> (first | decide +kernel | exact Nat.le_trans (Nat.add_le_add_left (contextBody_inFleet _) 64) (by decide))

/-- States and operands that meet the hypotheses of `Obligations.FirmwareUpdateRows`, clause by clause. -/
theorem meets_FirmwareUpdateRows :
  (let u : Ump := (cmd [0, 0, 0, 2]); let s : State := imaged; MailboxInv s ∧ Arrives 0x0E01 u s ∧
  Clear 0x0E01 false [.image (updateSlot s)] s ∧ 4 ≤ u.data.length ∧ 1 ≤ u.b32 0 ∧ u.b32 0 ≤ 33554432 ∧ s.fwu.onTrial = false ∧
  s.fwu.session = false ∧ u.env.hw = .ok) ∧
  (let u : Ump := (cmdX [0, 0, 0, 0, 0, 0, 0, 0, 7]);
  let s : State := (updating (fun w => { w with session := true, slot := 1, length := 1 })); MailboxInv s ∧ Arrives 0x0E02 u s ∧
  Clear 0x0E02 true [.image s.fwu.slot] s ∧ 9 ≤ u.data.length ∧ u.data.length ≤ 1048576 ∧ u.b32 0 = s.fwu.written ∧ s.fwu.session = true ∧
  s.fwu.written + (u.data.length - 8) ≤ s.fwu.length) ∧
  (let u : Ump := (cmd []); let s : State := (updating (fun w => { w with session := true, slot := 1, length := 1, written := 1 }));
  MailboxInv s ∧ Arrives 0x0E03 u s ∧ Clear 0x0E03 true [.image s.fwu.slot] s ∧ s.fwu.session = true ∧ s.fwu.committed = false ∧
  s.fwu.written = s.fwu.length) ∧
  (let s : State := (onMbox (fun m =>
  { m with async := [(⟨.pcie 1, 7, 0x0E02, [.image 1], false, false, [], List.replicate 9 1⟩ : AsyncCmd)] }) (updating (fun w =>
  { w with session := true, slot := 1, length := 1 }))); MailboxInv s ∧
    let a := (⟨.pcie 1, 7, 0x0E02, [.image 1], false, false, [], List.replicate 9 1⟩ : AsyncCmd); firstAsync 0x0E02 s = some a) ∧
  (let s : State := (onMbox (fun m => { m with async := [(⟨.pcie 1, 7, 0x0E03, [.image 1], false, false, [], []⟩ : AsyncCmd)] }) (updating
  (fun w => { w with session := true, slot := 1, length := 1, written := 1 }))); MailboxInv s ∧
    let a := (⟨.pcie 1, 7, 0x0E03, [.image 1], false, false, [], []⟩ : AsyncCmd); let cause := 0; let version := 5; let security := 0;
      firstAsync 0x0E03 s = some a ∧
    let i : ImageSlot := ⟨cause, version, security, s.fwu.written⟩; imageCause i s.sec.antiRollback = 0) ∧
  (let s : State := (onMbox (fun m => { m with async := [(⟨.pcie 1, 7, 0x0E03, [.image 1], false, false, [], []⟩ : AsyncCmd)] }) (updating
  (fun w => { w with session := true, slot := 1, length := 1, written := 1 }))); MailboxInv s ∧
    let a := (⟨.pcie 1, 7, 0x0E03, [.image 1], false, false, [], []⟩ : AsyncCmd); let cause := 1; let version := 5; let security := 0;
      firstAsync 0x0E03 s = some a ∧
    let i : ImageSlot := ⟨cause, version, security, s.fwu.written⟩; imageCause i s.sec.antiRollback ≠ 0) ∧
  (let u : Ump := (cmd [0]); let s : State := (updating (fun w => { w with session := true, slot := 1, committed := true })); MailboxInv s ∧
  Arrives 0x0E04 u s ∧ Clear 0x0E04 true [.image s.fwu.slot] s ∧ 1 ≤ u.data.length ∧ s.power.stage ≠ 7 ∧ u.env.hw = .ok ∧
  findAsync 0x0E04 u.tag s = none ∧ u.b8 0 = 0 ∧ s.fwu.committed = true ∧ s.fwu.onTrial = false) ∧
  (let u : Ump := (cmd [1]); let s : State := (updating (fun w => { w with onTrial := true })); MailboxInv s ∧ Arrives 0x0E04 u s ∧
  Clear 0x0E04 true [.image s.fwu.slot] s ∧ 1 ≤ u.data.length ∧ s.power.stage ≠ 7 ∧ u.env.hw = .ok ∧ findAsync 0x0E04 u.tag s = none ∧
  u.b8 0 = 1 ∧ s.fwu.onTrial = true) := by
  try simp only [arrives_cmd, arrives_cmdX, arrives_badSig, arrives_badSigX]
  try simp only [arrives_iff, mailboxInv_iff, clear_iff, SliceOn, GoodRelease, forall_lt_iff, forall_between_iff]
  and_intros <;> decide +kernel

/-- States and operands that meet the hypotheses of `Obligations.ForwardingTablesAreSet`, clause by clause. -/
theorem meets_ForwardingTablesAreSet :
  (let u : Ump := (cmd [1, 0, 0, 144, 31, 31, 2, 0, 0, 0, 0, 1, 10, 0, 0, 1, 31, 127, 238, 35, 0, 0, 0, 0, 0, 0, 0, 0, 0, 0, 0, 0, 0, 0, 0,
  0]); let s : State := routed; MailboxInv s ∧ powered 2 s = true ∧ powered 9 s = true ∧ Arrives 0x0609 u s ∧ Clear 0x0609 false [] s ∧
  36 ≤ u.data.length ∧ badVlan (u.b16 0) = false ∧
    let v := u.b16 0; let x := vlanArgs u; u.b8 2 = 0 ∧ x.members ≤ 31 ∧ x.untagged ≤ 31 ∧ x.v4.2 ≤ 31 ∧ x.v6.2 ≤ 127 ∧ 1280 ≤ x.mtu ∧
      x.mtu ≤ 9198 ∧ (bit x.flags 4 = true → notUnicast (field u.data 6 6) = false ∧ otherRouters v s < 256)) ∧
  (let u : Ump := (cmd [1, 0, 1, 144, 31, 31, 2, 0, 0, 0, 0, 1, 10, 0, 0, 1, 31, 127, 238, 35, 0, 0, 0, 0, 0, 0, 0, 0, 0, 0, 0, 0, 0, 0, 0,
  0]); let s : State := routed; MailboxInv s ∧ powered 2 s = true ∧ powered 9 s = true ∧ Arrives 0x0609 u s ∧ Clear 0x0609 false [] s ∧
  36 ≤ u.data.length ∧ badVlan (u.b16 0) = false ∧
    let v := u.b16 0; let y := vlan1; vlan v s = some y ∧ u.b8 2 = 1 ∧ (s.air.bss.any fun e => e.2.vlan == v) = false) ∧
  (let u : Ump := (cmd [1, 0, 2, 144, 31, 31, 2, 0, 0, 0, 0, 1, 10, 0, 0, 1, 31, 127, 238, 35, 0, 0, 0, 0, 0, 0, 0, 0, 0, 0, 0, 0, 0, 0, 0,
  0]); let s : State := routed; MailboxInv s ∧ powered 2 s = true ∧ powered 9 s = true ∧ Arrives 0x0609 u s ∧ Clear 0x0609 false [] s ∧
  36 ≤ u.data.length ∧ badVlan (u.b16 0) = false ∧
    let v := u.b16 0; let y := vlan1; vlan v s = some y ∧ u.b8 2 = 2) ∧
  (let u : Ump := (cmd [1, 0, 3, 144, 31, 31, 2, 0, 0, 0, 0, 1, 10, 0, 0, 1, 31, 127, 238, 35, 0, 0, 0, 0, 0, 0, 0, 0, 0, 0, 0, 0, 0, 0, 0,
  0]); let s : State := routed; MailboxInv s ∧ powered 2 s = true ∧ powered 9 s = true ∧ Arrives 0x0609 u s ∧ Clear 0x0609 false [] s ∧
  36 ≤ u.data.length ∧ badVlan (u.b16 0) = false ∧
    let v := u.b16 0; let y := vlan1; vlan v s = some y ∧ u.b8 2 = 3) ∧
  (let u : Ump := (cmd [0, 4, 0, 1, 0, 0, 0, 0, 0, 0, 0, 0, 0, 0, 0, 0, 0, 0, 0, 0, 1, 0, 0, 0, 10, 0, 0, 2, 0, 0, 0, 0, 0, 0, 0, 0, 0, 0, 0,
  0]); let s : State := routed; MailboxInv s ∧ powered 2 s = true ∧ powered 9 s = true ∧ Arrives 0x0602 u s ∧ Clear 0x0602 false [] s ∧
  40 ≤ u.data.length ∧ (u.b8 1 = 4 ∨ u.b8 1 = 6) ∧ u.b8 2 ≤ addrBits (u.b8 1) ∧ addrBad u.data 4 (u.b8 1) = false ∧
    let r := routeArgs u; let rest := s.wire.routes.filter fun x => !sameRoute x r; u.b8 0 = 0 ∧ r.kind ≤ 3 ∧
      (r.kind < 2 → (routerVlan r.iface s).isSome = true) ∧ (r.kind = 1 → addrBad u.data 24 r.family = false) ∧
      (rest.filter fun x => x.family == r.family).length < (if r.family = 4 then 65536 else 32768)) ∧
  (let u : Ump := (cmd [1, 4, 0, 1, 0, 0, 0, 0, 0, 0, 0, 0, 0, 0, 0, 0, 0, 0, 0, 0, 1, 0, 0, 0, 10, 0, 0, 2, 0, 0, 0, 0, 0, 0, 0, 0, 0, 0, 0,
  0]); let s : State := (routedW (fun w => { w with routes := [route0] })); MailboxInv s ∧ powered 2 s = true ∧ powered 9 s = true ∧
  Arrives 0x0602 u s ∧ Clear 0x0602 false [] s ∧ 40 ≤ u.data.length ∧ (u.b8 1 = 4 ∨ u.b8 1 = 6) ∧ u.b8 2 ≤ addrBits (u.b8 1) ∧
  addrBad u.data 4 (u.b8 1) = false ∧
    let r := routeArgs u; let old := route0; s.wire.routes.find? (fun x => sameRoute x r) = some old ∧ u.b8 0 = 1) ∧
  (let u : Ump := (cmd [2, 4, 0, 1, 0, 0, 0, 0, 0, 0, 0, 0, 0, 0, 0, 0, 0, 0, 0, 0, 1, 0, 0, 0, 10, 0, 0, 2, 0, 0, 0, 0, 0, 0, 0, 0, 0, 0, 0,
  0]); let s : State := (routedW (fun w => { w with routes := [route0] })); MailboxInv s ∧ powered 2 s = true ∧ powered 9 s = true ∧
  Arrives 0x0602 u s ∧ Clear 0x0602 false [] s ∧ 40 ≤ u.data.length ∧ (u.b8 1 = 4 ∨ u.b8 1 = 6) ∧ u.b8 2 ≤ addrBits (u.b8 1) ∧
  addrBad u.data 4 (u.b8 1) = false ∧
    let r := routeArgs u; let old := route0; s.wire.routes.find? (fun x => sameRoute x r) = some old ∧ u.b8 0 = 2) ∧
  (let u : Ump := (cmd [255, 15, 0, 0, 0, 0, 0, 0, 0, 0, 0, 0, 0, 0, 0, 0, 0, 0, 0, 0, 0, 0, 0, 0, 0, 0, 0, 0, 0, 0, 0, 0, 0, 0, 0, 0, 0, 0, 0,
  0, 0, 0, 0, 0, 0, 0, 0, 0, 0, 0, 0, 0, 0, 0, 0, 0, 0, 0, 0, 0, 0, 0, 0, 0, 0, 0, 0, 0]); let s : State := routed; MailboxInv s ∧
  powered 2 s = true ∧ powered 9 s = true ∧ Arrives 0x0603 u s ∧ Clear 0x0603 false [] s ∧ 68 ≤ u.data.length ∧ u.b16 0 ≤ 4095 ∧
  u.b8 2 = 0 ∧ aclBad u.data = false) ∧
  (let u : Ump := (cmd [255, 15, 1, 0, 0, 0, 0, 0, 0, 0, 0, 0, 0, 0, 0, 0, 0, 0, 0, 0, 0, 0, 0, 0, 0, 0, 0, 0, 0, 0, 0, 0, 0, 0, 0, 0, 0, 0, 0,
  0, 0, 0, 0, 0, 0, 0, 0, 0, 0, 0, 0, 0, 0, 0, 0, 0, 0, 0, 0, 0, 0, 0, 0, 0, 0, 0, 0, 0]);
  let s : State := (routedW (fun w => { w with acl := [(4095, ⟨List.replicate 68 0, 0, 0⟩)] })); MailboxInv s ∧ powered 2 s = true ∧
  powered 9 s = true ∧ Arrives 0x0603 u s ∧ Clear 0x0603 false [] s ∧ 68 ≤ u.data.length ∧ u.b16 0 ≤ 4095 ∧
    let r := (⟨List.replicate 68 0, 0, 0⟩ : AclRule); Tab.look s.wire.acl (u.b16 0) = some r ∧ u.b8 2 = 1) ∧
  (let u : Ump := (cmd [255, 15, 2, 0, 0, 0, 0, 0, 0, 0, 0, 0, 0, 0, 0, 0, 0, 0, 0, 0, 0, 0, 0, 0, 0, 0, 0, 0, 0, 0, 0, 0, 0, 0, 0, 0, 0, 0, 0,
  0, 0, 0, 0, 0, 0, 0, 0, 0, 0, 0, 0, 0, 0, 0, 0, 0, 0, 0, 0, 0, 0, 0, 0, 0, 0, 0, 0, 0]);
  let s : State := (routedW (fun w => { w with acl := [(4095, ⟨List.replicate 68 0, 0, 0⟩)] })); MailboxInv s ∧ powered 2 s = true ∧
  powered 9 s = true ∧ Arrives 0x0603 u s ∧ Clear 0x0603 false [] s ∧ 68 ≤ u.data.length ∧ u.b16 0 ≤ 4095 ∧
    let r := (⟨List.replicate 68 0, 0, 0⟩ : AclRule); Tab.look s.wire.acl (u.b16 0) = some r ∧ u.b8 2 = 2) ∧
  (let u : Ump := (cmd [0, 0, 1, 0, 0, 0, 0, 0, 16, 0, 1, 0, 1, 0]); let s : State := routed; MailboxInv s ∧ powered 2 s = true ∧
  powered 9 s = true ∧ Arrives 0x0604 u s ∧ Clear 0x0604 false [] s ∧
    let n := u.b16 2; u.b8 0 = 0 ∧ 14 ≤ u.data.length ∧ (routerVlan n s).any (fun x => bit x.flags 7) = true ∧ 1 ≤ u.b8 8 ∧ u.b8 8 ≤ 16 ∧
      1 ≤ u.b16 10 ∧ u.b16 10 ≤ u.b16 12) ∧
  (let u : Ump := (cmd [1, 0, 255, 3, 17, 0, 0, 0, 0, 0, 0, 0, 0, 0]); let s : State := routed; MailboxInv s ∧ powered 2 s = true ∧
  powered 9 s = true ∧ Arrives 0x0604 u s ∧ Clear 0x0604 false [] s ∧
    let n := u.b16 2; u.b8 0 = 1 ∧ 14 ≤ u.data.length ∧ n ≤ 1023 ∧ (u.b8 4 = 6 ∨ u.b8 4 = 17)) ∧
  (let u : Ump := (cmd [2, 0, 255, 3]); let s : State := (routedW (fun w => { w with forwards := [(1023, ⟨6, 1, 2, 3⟩)] })); MailboxInv s ∧
  powered 2 s = true ∧ powered 9 s = true ∧ Arrives 0x0604 u s ∧ Clear 0x0604 false [] s ∧
    let n := u.b16 2; u.b8 0 = 2 ∧ 4 ≤ u.data.length ∧ n ≤ 1023 ∧ (Tab.look s.wire.forwards n).isSome = true) ∧
  (let u : Ump := (cmd [3, 0, 0, 0, 30, 0, 0, 0, 16, 14, 0, 0, 10, 0, 0, 0, 30, 0, 0, 0, 120, 0, 0, 0, 30, 0, 0, 0, 44, 1, 0, 0, 16, 14, 0,
  0]); let s : State := routed; MailboxInv s ∧ powered 2 s = true ∧ powered 9 s = true ∧ Arrives 0x0604 u s ∧ Clear 0x0604 false [] s ∧
  u.b8 0 = 3 ∧ 36 ≤ u.data.length ∧ (((timeoutArgs u).zip timeoutRanges).all fun e => decide (e.2.1 ≤ e.1) && decide (e.1 ≤ e.2.2)) = true ∧
  10 ≤ u.b32 32 ∧ u.b32 32 ≤ 3600) ∧
  (let u : Ump := (cmd [4, 3, 0, 0]); let s : State := routed; MailboxInv s ∧ powered 2 s = true ∧ powered 9 s = true ∧ Arrives 0x0604 u s ∧
  Clear 0x0604 false [] s ∧
    let n := u.b16 2; u.b8 0 = 4 ∧ 4 ≤ u.data.length ∧
    let b : Bytes := (natBytes 3 0 routed).getD []; natBytes (u.b8 1) n s = some b) ∧
  (let u : Ump := (cmd [0, 4, 6, 0, 0, 0, 0, 0, 10, 0, 0, 2, 0, 0, 0, 0, 0, 0, 0, 0, 0, 0, 0, 0, 10, 0, 0, 3, 0, 0, 0, 0, 0, 0, 0, 0, 0, 0, 0,
  0, 232, 3, 80, 0]); let s : State := (routedW (fun w => { w with flows := [(0, flow0)] })); MailboxInv s ∧ powered 2 s = true ∧
  powered 9 s = true ∧ Arrives 0x0605 u s ∧ Clear 0x0605 false [] s ∧ 44 ≤ u.data.length ∧ (u.b8 1 = 4 ∨ u.b8 1 = 6) ∧
    let t : Tuple := ⟨u.b8 1, u.b8 2, addrAt u.data 8 (u.b8 1), addrAt u.data 24 (u.b8 1), u.b16 40, u.b16 42⟩;
      let hit := s.wire.flows.find? fun e => flowForward t e.2 || flowReverse t e.2; let n := 0; let f := flow0; hit = some (n, f) ∧
      u.b8 0 = 0) ∧
  (let u : Ump := (cmd [2, 4, 6, 0, 0, 0, 0, 0, 10, 0, 0, 2, 0, 0, 0, 0, 0, 0, 0, 0, 0, 0, 0, 0, 10, 0, 0, 3, 0, 0, 0, 0, 0, 0, 0, 0, 0, 0, 0,
  0, 232, 3, 80, 0]); let s : State := (routedW (fun w => { w with flows := [(0, flow0)] })); MailboxInv s ∧ powered 2 s = true ∧
  powered 9 s = true ∧ Arrives 0x0605 u s ∧ Clear 0x0605 false [] s ∧ 44 ≤ u.data.length ∧ (u.b8 1 = 4 ∨ u.b8 1 = 6) ∧
    let t : Tuple := ⟨u.b8 1, u.b8 2, addrAt u.data 8 (u.b8 1), addrAt u.data 24 (u.b8 1), u.b16 40, u.b16 42⟩;
      let hit := s.wire.flows.find? fun e => flowForward t e.2 || flowReverse t e.2; let n := 0; let f := flow0; hit = some (n, f) ∧
      u.b8 0 = 2) ∧
  (let u : Ump := (cmd [1, 4, 6, 0, 0, 0, 0, 0, 10, 0, 0, 2, 0, 0, 0, 0, 0, 0, 0, 0, 0, 0, 0, 0, 10, 0, 0, 3, 0, 0, 0, 0, 0, 0, 0, 0, 0, 0, 0,
  0, 232, 3, 80, 0]); let s : State := (routedW (fun w => { w with flows := [(0, flow0)] })); MailboxInv s ∧ powered 2 s = true ∧
  powered 9 s = true ∧ Arrives 0x0605 u s ∧ Clear 0x0605 false [] s ∧ 44 ≤ u.data.length ∧ (u.b8 1 = 4 ∨ u.b8 1 = 6) ∧ u.b8 0 = 1) := by
  try simp only [arrives_cmd, arrives_cmdX, arrives_badSig, arrives_badSigX]
  try simp only [arrives_iff, mailboxInv_iff, clear_iff, SliceOn, GoodRelease, forall_lt_iff, forall_between_iff]
  and_intros <;> decide +kernel

/-- States and operands that meet the hypotheses of `Obligations.PortCommandsAnswer`, clause by clause. -/
theorem meets_PortCommandsAnswer :
  (let u : Ump := (cmd [4, 0, 6, 0, 0, 0, 0, 36, 1, 0, 2, 0, 0, 2, 128, 1, 64, 1, 0, 4, 0, 0, 0, 0]); let s : State := ready; MailboxInv s ∧
  powered 2 s = true ∧ powered 9 s = true ∧ Arrives 0x0601 u s ∧ 24 ≤ u.data.length ∧ u.b8 0 ≤ 4 ∧ u.b8 1 = 0 ∧ Clear 0x0601 false [] s) ∧
  (let u : Ump := (cmd [0, 1, 5, 2, 0, 0, 0, 36, 1, 0, 2, 0, 0, 2, 128, 1, 64, 1, 0, 4, 1, 0, 0, 0]); let s : State := port0Up; MailboxInv s ∧
  powered 2 s = true ∧ powered 9 s = true ∧ Arrives 0x0601 u s ∧ 24 ≤ u.data.length ∧ u.b8 0 ≤ 4 ∧
    let p := u.b8 0; u.b8 1 = 1 ∧ portArgsBad p (portArgs u) = false ∧ (portArgs u).admin = true ∧ (port p s).state = .up ∧
      (portArgs u).mode = (port p s).cfg.mode ∧ (portArgs u).fec = (port p s).cfg.fec ∧ (portArgs u).flow = (port p s).cfg.flow ∧
      Clear 0x0601 false [.port p, .bist 2] s) ∧
  (let u : Ump := (cmd [4, 1, 6, 0, 0, 0, 0, 36, 1, 0, 2, 0, 0, 2, 128, 1, 64, 1, 0, 4, 0, 0, 0, 0]);
  let s : State := (readyPort 4 (fun p => { p with state := .down }) ready); MailboxInv s ∧ powered 2 s = true ∧ powered 9 s = true ∧
  Arrives 0x0601 u s ∧ 24 ≤ u.data.length ∧ u.b8 0 ≤ 4 ∧
    let p := u.b8 0; u.b8 1 = 1 ∧ portArgsBad p (portArgs u) = false ∧ (portArgs u).admin = false ∧ (port p s).state = .down ∧
      (portArgs u).flow = (port p s).cfg.flow ∧ Clear 0x0601 false [.port p] s) ∧
  (let u : Ump := (cmd [4, 0, 1, 0]); let s : State := ready; MailboxInv s ∧ powered 2 s = true ∧ powered 9 s = true ∧ Arrives 0x0606 u s ∧
  Clear 0x0606 false [] s ∧ 4 ≤ u.data.length ∧ u.b8 0 ≤ 4 ∧ u.b8 2 ≤ 1 ∧ u.b8 1 = 0) ∧
  (let u : Ump := (cmd [4, 1, 1, 0]); let s : State := (readyPort 4 (fun p => { p with snapshot := some (0, 0, []) }) ready); MailboxInv s ∧
  powered 2 s = true ∧ powered 9 s = true ∧ Arrives 0x0606 u s ∧ Clear 0x0606 false [] s ∧ 4 ≤ u.data.length ∧ u.b8 0 ≤ 4 ∧ u.b8 2 ≤ 1 ∧
    let n : Nat × Nat × Tab Nat := (0, 0, []); u.b8 1 = 1 ∧ (port (u.b8 0) s).snapshot = some n) ∧
  (let u : Ump := (cmd [4, 0, 15, 1, 1, 0, 0, 0, 0, 0, 0, 0, 0, 0, 0, 0, 0, 0, 0, 0, 0, 0, 0, 0, 0, 0, 0, 0]); let s : State := ready;
  MailboxInv s ∧ powered 2 s = true ∧ powered 9 s = true ∧ Arrives 0x0607 u s ∧ Clear 0x0607 false [] s ∧ 28 ≤ u.data.length ∧ u.b8 0 ≤ 4 ∧
  u.b8 2 ≤ 15 ∧ u.b8 3 ≤ 1 ∧ u.b8 1 = 0 ∧ rdBe u.data 4 16 ≠ 0) ∧
  (let u : Ump := (cmd [4, 1, 15, 1, 1, 0, 0, 0, 0, 0, 0, 0, 0, 0, 0, 0, 0, 0, 0, 0, 0, 0, 0, 0, 0, 0, 0, 0]); let s : State := ready;
  MailboxInv s ∧ powered 2 s = true ∧ powered 9 s = true ∧ Arrives 0x0607 u s ∧ Clear 0x0607 false [] s ∧ 28 ≤ u.data.length ∧ u.b8 0 ≤ 4 ∧
  u.b8 2 ≤ 15 ∧ u.b8 3 ≤ 1 ∧ u.b8 1 = 1) ∧
  (let u : Ump := (cmd [4, 2, 15, 1, 1, 0, 0, 0, 0, 0, 0, 0, 0, 0, 0, 0, 0, 0, 0, 0, 0, 0, 0, 0, 0, 0, 0, 0]); let s : State := ready;
  MailboxInv s ∧ powered 2 s = true ∧ powered 9 s = true ∧ Arrives 0x0607 u s ∧ Clear 0x0607 false [] s ∧ 28 ≤ u.data.length ∧ u.b8 0 ≤ 4 ∧
  u.b8 2 ≤ 15 ∧ u.b8 3 ≤ 1 ∧ u.b8 1 = 2) ∧
  (let u : Ump := (cmd [4, 3, 15, 1, 1, 0, 0, 0, 0, 0, 0, 0, 0, 0, 0, 0, 0, 0, 0, 0, 0, 0, 0, 0, 0, 0, 0, 0]);
  let s : State := (readyPort 4 (fun p => { p with patterns := [(15, ⟨true, [], 0⟩)] }) ready); MailboxInv s ∧ powered 2 s = true ∧
  powered 9 s = true ∧ Arrives 0x0607 u s ∧ Clear 0x0607 false [] s ∧ 28 ≤ u.data.length ∧ u.b8 0 ≤ 4 ∧ u.b8 2 ≤ 15 ∧ u.b8 3 ≤ 1 ∧
    let w := (⟨true, [], 0⟩ : WakePattern); u.b8 1 = 3 ∧ Tab.look (port (u.b8 0) s).patterns (u.b8 2) = some w) ∧
  (let u : Ump := (cmd [3, 0, 3, 3, 0, 0, 0, 0, 0, 0, 0, 0, 0, 64, 0, 0, 0, 0, 0, 0, 0, 0, 0, 0, 0, 0, 0, 0, 0, 0, 0, 0, 1, 0, 0, 0, 0, 0, 0,
  0, 0, 0, 0, 64, 0, 0, 0, 0]); let s : State := ready; MailboxInv s ∧ powered 2 s = true ∧ powered 9 s = true ∧ Arrives 0x0608 u s ∧
  48 ≤ u.data.length ∧ u.b8 0 ≤ 3 ∧ u.b8 2 ≤ 3 ∧ u.b8 3 ≤ 3 ∧ Clear 0x0608 false [.port (u.b8 0)] s ∧ u.b8 1 = 0 ∧ u.b32 40 ≤ 2 ^ 30) ∧
  (let u : Ump := (cmd [3, 1, 3, 3, 0, 0, 0, 0, 0, 0, 0, 0, 0, 64, 0, 0, 0, 0, 0, 0, 0, 0, 0, 0, 0, 0, 0, 0, 0, 0, 0, 0, 1, 0, 0, 0, 0, 0, 0,
  0, 0, 0, 0, 0, 0, 0, 0, 0]);
  let s : State := (onSec (fun c => { c with keys := [(16384, [1])] }) (readyPort 3 (fun p => { p with secy := { p.secy with flags := 0 } })
  ready)); MailboxInv s ∧ powered 2 s = true ∧ powered 9 s = true ∧ Arrives 0x0608 u s ∧ 48 ≤ u.data.length ∧ u.b8 0 ≤ 3 ∧ u.b8 2 ≤ 3 ∧
  u.b8 3 ≤ 3 ∧
    let y := (port (u.b8 0) s).secy; Clear 0x0608 false [.port (u.b8 0)] s ∧ u.b8 1 = 1 ∧ saOf y false (u.b8 3) (u.b8 2) = none ∧
      y.tx.length < 2 ∧ sakHeld (u.b16 12) s = true) ∧
  (let u : Ump := (cmd [3, 1, 3, 3, 0, 0, 0, 0, 0, 0, 0, 0, 0, 64, 0, 0, 0, 0, 0, 0, 0, 0, 0, 0, 0, 0, 0, 0, 0, 0, 0, 0, 1, 0, 0, 0, 0, 0, 0,
  0, 0, 0, 0, 0, 0, 0, 0, 0]); let s : State := ready; MailboxInv s ∧ powered 2 s = true ∧ powered 9 s = true ∧ Arrives 0x0608 u s ∧
  48 ≤ u.data.length ∧ u.b8 0 ≤ 3 ∧ u.b8 2 ≤ 3 ∧ u.b8 3 ≤ 3 ∧
    let y := (port (u.b8 0) s).secy; Clear 0x0608 false [.port (u.b8 0)] s ∧ u.b8 1 = 1 ∧ saOf y false (u.b8 3) (u.b8 2) = none ∧
      y.tx.length < 2 ∧ sakHeld (u.b16 12) s = false) ∧
  (let u : Ump := (cmd [3, 2, 3, 3, 0, 0, 0, 0, 0, 0, 0, 0, 0, 64, 0, 0, 0, 0, 0, 0, 0, 0, 0, 0, 0, 0, 0, 0, 0, 0, 0, 0, 1, 0, 0, 0, 0, 0, 0,
  0, 0, 0, 0, 0, 0, 0, 0, 0]);
  let s : State := (onSec (fun c => { c with keys := [(16384, [1])] }) (readyPort 3 (fun p => { p with secy := { p.secy with flags := 0 } })
  ready)); MailboxInv s ∧ powered 2 s = true ∧ powered 9 s = true ∧ Arrives 0x0608 u s ∧ 48 ≤ u.data.length ∧ u.b8 0 ≤ 3 ∧ u.b8 2 ≤ 3 ∧
  u.b8 3 ≤ 3 ∧
    let y := (port (u.b8 0) s).secy; Clear 0x0608 false [.port (u.b8 0)] s ∧ u.b8 1 = 2 ∧ saOf y true (u.b8 3) (u.b8 2) = none ∧
      (y.rx.filter fun e => e.1 / 4 == u.b8 3).length < 2 ∧ sakHeld (u.b16 12) s = true) ∧
  (let u : Ump := (cmd [3, 3, 3, 3, 0, 0, 0, 0, 0, 0, 0, 0, 0, 64, 0, 0, 0, 0, 0, 0, 0, 0, 0, 0, 0, 0, 0, 0, 0, 0, 0, 0, 1, 0, 0, 0, 0, 0, 0,
  0, 0, 0, 0, 0, 0, 0, 0, 0]);
  let s : State := (onSec (fun c => { c with keys := [(16384, [1])] }) (readyPort 3 (fun p =>
  { p with secy := { p.secy with tx := [(3, ⟨16384, 0, [], 1, false⟩)] } }) ready)); MailboxInv s ∧ powered 2 s = true ∧
  powered 9 s = true ∧ Arrives 0x0608 u s ∧ 48 ≤ u.data.length ∧ u.b8 0 ≤ 3 ∧ u.b8 2 ≤ 3 ∧ u.b8 3 ≤ 3 ∧
    let y := (port (u.b8 0) s).secy; Clear 0x0608 false [.port (u.b8 0)] s ∧ u.b8 1 = 3 ∧ saOf y false (u.b8 3) (u.b8 2) ≠ none) ∧
  (let u : Ump := (cmd [3, 4, 3, 3, 0, 0, 0, 0, 0, 0, 0, 0, 0, 64, 0, 0, 0, 0, 0, 0, 0, 0, 0, 0, 0, 0, 0, 0, 0, 0, 0, 0, 1, 0, 0, 0, 0, 0, 0,
  0, 0, 0, 0, 0, 0, 0, 0, 0]);
  let s : State := (onSec (fun c => { c with keys := [(16384, [1])] }) (readyPort 3 (fun p =>
  { p with secy := { p.secy with rx := [(15, ⟨16384, 0, [], 1, false⟩)] } }) ready)); MailboxInv s ∧ powered 2 s = true ∧
  powered 9 s = true ∧ Arrives 0x0608 u s ∧ 48 ≤ u.data.length ∧ u.b8 0 ≤ 3 ∧ u.b8 2 ≤ 3 ∧ u.b8 3 ≤ 3 ∧
    let y := (port (u.b8 0) s).secy; Clear 0x0608 false [.port (u.b8 0)] s ∧ u.b8 1 = 4 ∧ saOf y true (u.b8 3) (u.b8 2) ≠ none) ∧
  (let u : Ump := (cmd [3, 5, 3, 3, 0, 0, 0, 0, 0, 0, 0, 0, 0, 64, 0, 0, 0, 0, 0, 0, 0, 0, 0, 0, 0, 0, 0, 0, 0, 0, 0, 0, 1, 0, 0, 0, 0, 0, 0,
  0, 0, 0, 0, 0, 0, 0, 0, 0]); let s : State := ready; MailboxInv s ∧ powered 2 s = true ∧ powered 9 s = true ∧ Arrives 0x0608 u s ∧
  48 ≤ u.data.length ∧ u.b8 0 ≤ 3 ∧ u.b8 2 ≤ 3 ∧ u.b8 3 ≤ 3 ∧
    let y := (port (u.b8 0) s).secy; Clear 0x0608 false [] s ∧ u.b8 1 = 5 ∧ saOf y true (u.b8 3) (u.b8 2) = none) := by
  try simp only [arrives_cmd, arrives_cmdX, arrives_badSig, arrives_badSigX]
  try simp only [arrives_iff, mailboxInv_iff, clear_iff, SliceOn, GoodRelease, forall_lt_iff, forall_between_iff]
  and_intros <;> decide +kernel

/-- States and operands that meet the hypotheses of `Obligations.QueueCommandsAnswer`, clause by clause. -/
theorem meets_QueueCommandsAnswer :
  (let u : Ump := (cmd [255, 15, 0, 0, 64, 0, 0, 0, 64, 0, 0, 0, 1, 0, 0, 1, 0, 0, 0, 0]); let s : State := serving; MailboxInv s ∧
  Arrives 0x0701 u s ∧ Clear 0x0701 false [] s ∧ 20 ≤ u.data.length ∧ u.b16 0 ≤ 4095 ∧ u.b8 2 = 0) ∧
  (let u : Ump := (cmd [255, 15, 1, 0, 64, 0, 0, 0, 64, 0, 0, 0, 1, 0, 0, 1, 0, 0, 0, 0]); let s : State := serving; MailboxInv s ∧
  Arrives 0x0701 u s ∧ Clear 0x0701 false [] s ∧ 20 ≤ u.data.length ∧ u.b16 0 ≤ 4095 ∧
    let n := u.b16 0; let look := Tab.look s.qme.shapers n; u.b8 2 = 1 ∧ shaperArgsBad (shaperArgs u) = false ∧ look = none) ∧
  (let u : Ump := (cmd [255, 15, 1, 0, 64, 0, 0, 0, 64, 0, 0, 0, 1, 0, 0, 1, 0, 0, 0, 0]);
  let s : State := (readyQ (fun m => { m with shapers := [(4095, shaper0)] })); MailboxInv s ∧ Arrives 0x0701 u s ∧
  Clear 0x0701 false [] s ∧ 20 ≤ u.data.length ∧ u.b16 0 ≤ 4095 ∧
    let n := u.b16 0; let look := Tab.look s.qme.shapers n; let cur := (look.map attachedTo).getD []; u.b8 2 = 1 ∧
      shaperArgsBad (shaperArgs u) = false ∧ look.isSome = true ∧ cur = []) ∧
  (let u : Ump := (cmd [255, 15, 2, 0, 64, 0, 0, 0, 64, 0, 0, 0, 1, 0, 0, 1, 0, 0, 0, 0]); let s : State := serving; MailboxInv s ∧
  Arrives 0x0701 u s ∧ Clear 0x0701 false [] s ∧ 20 ≤ u.data.length ∧ u.b16 0 ≤ 4095 ∧
    let n := u.b16 0; let look := Tab.look s.qme.shapers n; let cur := (look.map attachedTo).getD []; u.b8 2 = 2 ∧ cur = []) ∧
  (let u : Ump := (cmd [255, 15, 3, 0, 64, 0, 0, 0, 64, 0, 0, 0, 1, 0, 0, 1, 0, 0, 0, 0]);
  let s : State := (readyQ (fun m => { m with shapers := [(4095, shaper0)] })); MailboxInv s ∧ Arrives 0x0701 u s ∧
  Clear 0x0701 false [] s ∧ 20 ≤ u.data.length ∧ u.b16 0 ≤ 4095 ∧
    let n := u.b16 0; let look := Tab.look s.qme.shapers n; let t : ShaperTarget := (u.b8 16, u.b16 18);
      let x := { shaper0 with attached := [] }; look = some x ∧ targetExists t s = true ∧ u.b8 15 = (shaperCfg x).level ∧
      targetLevel t.1 = (shaperCfg x).level ∧ ((shaperCfg x).unit = 1 → t.1 ≤ 1) ∧ u.b8 2 = 3 ∧
      (s.qme.shapers.any fun e => (attachedTo e.2).contains t) = false) ∧
  (let u : Ump := (cmd [255, 15, 4, 0, 64, 0, 0, 0, 64, 0, 0, 0, 1, 0, 0, 1, 0, 0, 0, 0]);
  let s : State := (readyQ (fun m => { m with shapers := [(4095, { shaper0 with attached := [(0, 0)] })] })); MailboxInv s ∧
  Arrives 0x0701 u s ∧ Clear 0x0701 false [] s ∧ 20 ≤ u.data.length ∧ u.b16 0 ≤ 4095 ∧
    let n := u.b16 0; let look := Tab.look s.qme.shapers n; let cur := (look.map attachedTo).getD [];
      let t : ShaperTarget := (u.b8 16, u.b16 18); let x := { shaper0 with attached := [(0, 0)] }; look = some x ∧ targetExists t s = true ∧
      u.b8 15 = (shaperCfg x).level ∧ targetLevel t.1 = (shaperCfg x).level ∧ ((shaperCfg x).unit = 1 → t.1 ≤ 1) ∧ u.b8 2 = 4 ∧
      cur.contains t = true) ∧
  (let u : Ump := (cmd [255, 15, 0, 0, 64, 0, 0, 0, 64, 0, 0, 0, 238, 5, 0, 0, 238, 5, 0, 0, 2, 2, 2, 0, 4, 0, 0, 0, 0, 0, 0, 0]);
  let s : State := serving; MailboxInv s ∧ Arrives 0x0702 u s ∧ Clear 0x0702 false [] s ∧ 32 ≤ u.data.length ∧ u.b16 0 ≤ 4095 ∧ u.b8 2 = 0) ∧
  (let u : Ump := (cmd [255, 15, 1, 0, 64, 0, 0, 0, 64, 0, 0, 0, 238, 5, 0, 0, 238, 5, 0, 0, 2, 2, 2, 0, 4, 0, 0, 0, 0, 0, 0, 0]);
  let s : State := serving; MailboxInv s ∧ Arrives 0x0702 u s ∧ Clear 0x0702 false [] s ∧ 32 ≤ u.data.length ∧ u.b16 0 ≤ 4095 ∧
    let n := u.b16 0; let look := Tab.look s.qme.policers n; let c := policerArgs u; u.b8 2 = 1 ∧ policerArgsBad c = false ∧ look = none) ∧
  (let u : Ump := (cmd [255, 15, 1, 0, 64, 0, 0, 0, 64, 0, 0, 0, 238, 5, 0, 0, 238, 5, 0, 0, 2, 2, 2, 0, 4, 0, 0, 0, 0, 0, 0, 0]);
  let s : State := (readyQ (fun m => { m with policers := [(4095, policer0)] })); MailboxInv s ∧ Arrives 0x0702 u s ∧
  Clear 0x0702 false [] s ∧ 32 ≤ u.data.length ∧ u.b16 0 ≤ 4095 ∧
    let n := u.b16 0; let look := Tab.look s.qme.policers n; let c := policerArgs u; u.b8 2 = 1 ∧ policerArgsBad c = false ∧
      look.isSome = true) ∧
  (let u : Ump := (cmd [255, 15, 2, 0, 64, 0, 0, 0, 64, 0, 0, 0, 238, 5, 0, 0, 238, 5, 0, 0, 2, 2, 2, 0, 4, 0, 0, 0, 0, 0, 0, 0]);
  let s : State := (readyQ (fun m => { m with policers := [(4095, policer0)] })); MailboxInv s ∧ Arrives 0x0702 u s ∧
  Clear 0x0702 false [] s ∧ 32 ≤ u.data.length ∧ u.b16 0 ≤ 4095 ∧
    let n := u.b16 0; let look := Tab.look s.qme.policers n; u.b8 2 = 2 ∧ (look.any fun p => !p.sources.isEmpty) = false ∧
      aclPolices n s = false) ∧
  (let u : Ump := (cmd [255, 15, 3, 0, 64, 0, 0, 0, 64, 0, 0, 0, 238, 5, 0, 0, 238, 5, 0, 0, 2, 2, 2, 0, 4, 0, 0, 0, 0, 0, 0, 0]);
  let s : State := (readyQ (fun m => { m with policers := [(4095, policer0)] })); MailboxInv s ∧ Arrives 0x0702 u s ∧
  Clear 0x0702 false [] s ∧ 32 ≤ u.data.length ∧ u.b16 0 ≤ 4095 ∧
    let n := u.b16 0; let look := Tab.look s.qme.policers n; let src : Nat × Nat := (u.b8 22, u.b16 24); look.isSome = true ∧ src.1 = 2 ∧
      src.2 ≤ 4 ∧ u.b8 2 = 3 ∧ sourcePolicer src s = none) ∧
  (let u : Ump := (cmd [255, 15, 4, 0, 64, 0, 0, 0, 64, 0, 0, 0, 238, 5, 0, 0, 238, 5, 0, 0, 2, 2, 2, 0, 4, 0, 0, 0, 0, 0, 0, 0]);
  let s : State := (readyQ (fun m => { m with policers := [(4095, { policer0 with sources := [(2, 4)] })] })); MailboxInv s ∧
  Arrives 0x0702 u s ∧ Clear 0x0702 false [] s ∧ 32 ≤ u.data.length ∧ u.b16 0 ≤ 4095 ∧
    let n := u.b16 0; let look := Tab.look s.qme.policers n; let src : Nat × Nat := (u.b8 22, u.b16 24); look.isSome = true ∧ src.1 = 2 ∧
      src.2 ≤ 4 ∧ u.b8 2 = 4 ∧ sourcePolicer src s = some n) ∧
  (let u : Ump := (cmdX ([3, 0] ++ leBytes 2 2 ++ List.replicate 4 0 ++ leBytes 8 200000 ++ leBytes 4 1000 ++ List.replicate 12 0 ++ [255, 0,
  0, 0] ++ leBytes 4 504 ++ [1, 0, 0, 0] ++ leBytes 4 400)); let s : State := serving; MailboxInv s ∧ Arrives 0x0703 u s ∧
  Clear 0x0703 false [] s ∧ 32 ≤ u.data.length ∧ u.b8 0 ≤ 3 ∧
    let p := u.b8 0; let l := gclArgs u.data; u.b8 1 = 0 ∧ 1 ≤ u.b16 2 ∧ u.b16 2 ≤ 256 ∧ 32 + 8 * u.b16 2 ≤ u.data.length ∧ 1000 ≤ l.cycle ∧
      l.cycle ≤ 1000000000 ∧ l.cycle % 8 = 0 ∧ (l.entries.any fun e => e.2 == 0 || e.2 % 8 != 0) = false ∧ deviceTime s + 100000 ≤ l.base ∧
      gclNear p s = false) ∧
  (let u : Ump := (cmdX [3, 1, 0, 0, 0, 0, 0, 0, 0, 0, 0, 0, 0, 0, 0, 0, 0, 0, 0, 0, 0, 0, 0, 0, 0, 0, 0, 0, 0, 0, 0, 0]);
  let s : State := (readyQ (fun m => { m with gates := [(3, ⟨none, some gcl0, 0, 0xFF⟩)] })); MailboxInv s ∧ Arrives 0x0703 u s ∧
  Clear 0x0703 false [] s ∧ 32 ≤ u.data.length ∧ u.b8 0 ≤ 3 ∧
    let p := u.b8 0; u.b8 1 = 1 ∧ (gates p s).pending.isSome = true ∧ gclNear p s = false) ∧
  (let u : Ump := (cmdX [3, 2, 0, 0, 0, 0, 0, 0, 0, 0, 0, 0, 0, 0, 0, 0, 0, 0, 0, 0, 0, 16, 0, 0, 0, 0, 0, 0, 0, 0, 0, 0]);
  let s : State := (readyQ (fun m => { m with gates := [(3, ⟨some gcl0, none, 0, 0xFF⟩)] })); MailboxInv s ∧ Arrives 0x0703 u s ∧
  Clear 0x0703 false [] s ∧ 32 ≤ u.data.length ∧ u.b8 0 ≤ 3 ∧
    let p := u.b8 0; let g := gcl0; u.b8 1 = 2 ∧ (gates p s).oper = some g ∧ u.b64 20 ≠ 0 ∧ u.b64 20 % 4 = 0 ∧ u.env.wr = .ok) ∧
  (let u : Ump := (cmd [0, 0, 0, 0, 0, 0, 0, 0, 0, 0, 0, 0]); let s : State := serving; MailboxInv s ∧ Arrives 0x0704 u s ∧
  Clear 0x0704 false [] s ∧ 12 ≤ u.data.length ∧
    let op := u.b8 0; op = 0) ∧
  (let u : Ump := (cmd [1, 0, 0, 0, 0, 0, 0, 0, 0, 0, 16, 0]); let s : State := serving; MailboxInv s ∧ Arrives 0x0704 u s ∧
  Clear 0x0704 false [] s ∧ 12 ≤ u.data.length ∧
    let op := u.b8 0; op = 1 ∧ u.b32 8 = 2 ^ (u.b32 8).log2 ∧ 4096 ≤ u.b32 8 ∧ u.b32 8 ≤ 1048576 ∧ s.qme.sampled = []) ∧
  (let u : Ump := (cmd [2, 0, 0, 0, 255, 63, 232, 3, 0, 0, 0, 0]); let s : State := serving; MailboxInv s ∧ Arrives 0x0704 u s ∧
  Clear 0x0704 false [] s ∧ 12 ≤ u.data.length ∧
    let op := u.b8 0; let lo := u.b16 2; let hi := u.b16 4; let l := cutRange lo hi s.qme.sampled ++ [(lo, hi, u.b16 6)]; op = 2 ∧ lo ≤ hi ∧
      hi < 16384 ∧ 1 ≤ u.b16 6 ∧ u.b16 6 ≤ 1000 ∧ (sampleRate l).1 ≤ 4000000 * (sampleRate l).2) ∧
  (let u : Ump := (cmd [3, 0, 0, 0, 104, 64, 0, 0, 0, 0, 0, 0]); let s : State := serving; MailboxInv s ∧ Arrives 0x0704 u s ∧
  Clear 0x0704 false [] s ∧ 12 ≤ u.data.length ∧
    let op := u.b8 0; let lo := u.b16 2; let hi := u.b16 4; op = 3 ∧ lo ≤ hi ∧ hi ≤ 16488) ∧
  (let u : Ump := (cmd [0, 0, 1, 0, 0, 0, 0, 0, 0, 0, 0, 0, 0, 0, 0, 0]); let s : State := serving; MailboxInv s ∧ Arrives 0x0705 u s ∧
  Clear 0x0705 false [] s ∧ 16 ≤ u.data.length ∧ 1 ≤ u.b32 0 ∧ u.b32 0 ≤ 65536 ∧ u.b64 8 = 0) ∧
  (let u : Ump := (cmd [129]); let s : State := serving; MailboxInv s ∧ Arrives 0x0706 u s ∧ Clear 0x0706 false [] s ∧
  (u.b8 0 = 128 ∨ u.b8 0 = 129) ∧ 1 ≤ u.data.length) ∧
  (let u : Ump := (cmd [0, 0, 7, 7, 7, 7, 7, 7, 7, 7, 7, 7, 7, 7, 7, 7, 7, 7, 7, 7, 7, 7, 7, 7, 7, 7, 7, 7, 7, 7, 7, 7, 7, 7, 7, 7, 7, 7, 7, 7,
  7, 7, 7, 7, 7, 7, 7, 7, 7, 7, 7, 7, 7, 7, 7, 7, 7, 7, 7, 7, 7, 7, 7, 7, 7, 7]); let s : State := serving; MailboxInv s ∧
  Arrives 0x0706 u s ∧ Clear 0x0706 false [] s ∧
    let bytes (o n : Nat) : List Nat := (List.range n).map fun i => u.b8 (o + i); u.b8 0 = 0 ∧ 66 ≤ u.data.length ∧
      ((bytes 2 64).any fun x => decide (7 < x)) = false) ∧
  (let u : Ump := (cmd [1, 0, 7, 7, 7, 7, 7, 7, 7, 7]); let s : State := serving; MailboxInv s ∧ Arrives 0x0706 u s ∧ Clear 0x0706 false [] s ∧
    let bytes (o n : Nat) : List Nat := (List.range n).map fun i => u.b8 (o + i); u.b8 0 = 1 ∧ 10 ≤ u.data.length ∧
      ((bytes 2 8).any fun x => decide (7 < x)) = false) ∧
  (let u : Ump := (cmd [2, 3, 7, 7, 7, 7, 7, 7, 7, 7]); let s : State := serving; MailboxInv s ∧ Arrives 0x0706 u s ∧ Clear 0x0706 false [] s ∧
    let bytes (o n : Nat) : List Nat := (List.range n).map fun i => u.b8 (o + i); u.b8 0 = 2 ∧ 10 ≤ u.data.length ∧ u.b8 1 ≤ 3 ∧
      ((bytes 2 8).any fun x => decide (7 < x)) = false) ∧
  (let u : Ump := (cmd [3, 0, 255, 63, 16, 0, 0, 0, 16, 0, 0, 0, 0, 0, 49, 0, 50, 0]);
  let s : State := (readyQ (fun m => { m with poolSize := 16 })); MailboxInv s ∧ Arrives 0x0706 u s ∧ Clear 0x0706 false [] s ∧ u.b8 0 = 3 ∧
  18 ≤ u.data.length ∧ u.b16 2 < 16384 ∧ 16 ≤ u.b32 4 ∧ u.b32 4 ≤ s.qme.poolSize ∧ u.b32 8 ≤ u.b32 4 ∧ 1 ≤ u.b16 14 ∧ u.b16 14 ≤ 50 ∧
  10 ≤ u.b16 16 ∧ u.b16 16 ≤ 1000 ∧ u.b16 14 < u.b16 16) ∧
  (let u : Ump := (cmd [4, 0, 104, 64]); let s : State := serving; MailboxInv s ∧ Arrives 0x0706 u s ∧ Clear 0x0706 false [] s ∧ u.b8 0 = 4 ∧
  4 ≤ u.data.length ∧ u.b16 2 < 16489) ∧
  (let u : Ump := (cmd [5, 3, 0, 64, 64, 64, 64, 64, 64, 64, 64]); let s : State := serving; MailboxInv s ∧ Arrives 0x0706 u s ∧
  Clear 0x0706 false [] s ∧
    let bytes (o n : Nat) : List Nat := (List.range n).map fun i => u.b8 (o + i); u.b8 0 = 5 ∧ 11 ≤ u.data.length ∧ u.b8 1 ≤ 3 ∧
      ((bytes 3 8).any fun x => x == 0 || decide (64 < x)) = false) := by
  try simp only [arrives_cmd, arrives_cmdX, arrives_badSig, arrives_badSigX]
  try simp only [arrives_iff, mailboxInv_iff, clear_iff, SliceOn, GoodRelease, forall_lt_iff, forall_between_iff]
  and_intros <;> decide +kernel

/-- States and operands that meet the hypotheses of `Obligations.QueueRows`, clause by clause. -/
theorem meets_QueueRows :
  (let s : State := (readyQ (fun m => { m with shapers := [(0, shaper0)] })); let n : Nat := 0; let x := shaper0;
  Tab.look s.qme.shapers n = some x) ∧
  (let s : State := serving; let n : Nat := 0; Tab.look s.qme.shapers n = none) ∧
  (let x := { shaper0 with credit := 0, cfg := { shaper0.cfg with burst := 10000 } }; let y := shaperFill x; x.credit < x.cfg.burst ∧
  0 ≤ x.credit ∧ y.credit < x.cfg.burst) ∧
  (let s : State := (readyQ (fun m => { m with gates := [(0, ⟨none, some gcl0, 0, 0xFF⟩)] })); let n : Nat := 0; let g := gcl0;
  (gates n s).pending = some g ∧ (port n s).sending = none) ∧
  (let s : State := (readyQ (fun m => { m with gates := [(0, ⟨some gcl0, none, 0, 0xFF⟩)] })); let n : Nat := 0; let g := gcl0;
  (gates n s).oper = some g) ∧
  (let s : State := (readyQ (fun m => { m with sampled := [(0, 16488, 1)] })); let q : Nat := 16488; q < 16489 ∧ sampleInterval q s ≠ 0 ∧
  s.qme.samples.length < s.qme.ringSize) ∧
  (let s : State := (readyQ (fun m => { m with sampled := [(0, 16488, 1)], ringSize := 0 })); let q : Nat := 16488; q < 16489 ∧
  sampleInterval q s ≠ 0 ∧ s.qme.ringSize ≤ s.qme.samples.length) := by
  try simp only [arrives_cmd, arrives_cmdX, arrives_badSig, arrives_badSigX]
  try simp only [arrives_iff, mailboxInv_iff, clear_iff, SliceOn, GoodRelease, forall_lt_iff, forall_between_iff]
  and_intros <;> decide +kernel

/-- States and operands that meet the hypotheses of `Obligations.LinkRows`, clause by clause. -/
theorem meets_LinkRows :
  (let s : State := (onMbox (fun m => { m with pcieQueue := [event0, event0] }) ready); let e : Event := event0;
  let l : List Event := [event0]; s.mbox.pcieDropped = 0 ∧ s.mbox.pcieQueue = e :: l ∧ evtFull s.mbox = false) ∧
  (let s : State := (onMbox (fun m => { m with sink := some 1, sinkQueue := [event0, event0] }) mgtUpState); let mac : Nat := 1;
  let e : Event := event0; let l : List Event := [event0]; s.mbox.sink = some mac ∧ s.mbox.sinkQueue = e :: l ∧ s.mbox.sinkDropped = 0 ∧
  mgtUp s = true) ∧
  (let s : State := mgtUpState; let mac : Nat := 1; let v : Nat := 2; let fleet : Nat := 0; let index : Nat := 0; carries (.mgt mac) s = true ∧
  fleetAccepts v fleet index s = false) ∧
  (let s : State := (onMbox (fun m => { m with replay := [⟨1, 9, [1]⟩] }) mgtUpState); let mac : Nat := 1; let v : Nat := 1;
  let fleet : Nat := 0; let index : Nat := 0; let b : Bytes := (message 1 0 0x0001 9 0 0 []); carries (.mgt mac) s = true ∧
    let m := parseMsg (.mgt mac) b; fleetAccepts v fleet index s = true ∧ index ≠ 0xFFFF ∧
    let r := (⟨1, 9, [1]⟩ : Replay); stored mac m.tag s = some r) ∧
  (let s : State := mgtUpState; let mac : Nat := 1; let v : Nat := 1; let fleet : Nat := 0; let index : Nat := 0;
  let b : Bytes := (message 1 0 0x0001 9 0 0 []); carries (.mgt mac) s = true ∧
    let m := parseMsg (.mgt mac) b; fleetAccepts v fleet index s = true ∧ index ≠ 0xFFFF ∧ stored mac m.tag s = none ∧ mgtWaiting s < 64 ∧
      s.mbox.cmdQueue = [] ∧ unservable m s = false) ∧
  (let s : State := (readyP (fun p => { p with limp := true, stage := 6 })); let b : Bytes := (message 1 0 0x0001 9 0 0 []);
  carries .uart s = true ∧ s.mbox.cmdQueue = [] ∧ unservable (parseMsg .uart b) s = false) ∧
  (let s : State := (readyP (fun p => { p with limp := true, stage := 6 })); let b : Bytes := message 1 0 0x0201 9 0 0 [];
  carries .uart s = true ∧ s.mbox.cmdQueue = [] ∧ unservable (parseMsg .uart b) s = true) ∧
  (let s : State := ready; powered 1 s = true ∧ s.pcie.perst = false) ∧
  (let s : State := ready; powered 1 s = true ∧ s.pcie.linkUp = true) ∧
  (let s : State := { ready with pcie := { ready.pcie with d3 := true } }; powered 1 s = true ∧ s.pcie.linkUp = true ∧ s.pcie.d3 = true ∧
  s.pcie.perst = false ∧ s.pcie.msi = false) ∧
  (let s : State := (onMbox (fun m => { m with limited := [(0x0103, 0)] }) (readyP (fun p => { p with domains := 0x7F7 }))); let domain := 3;
  let src := 3; powered domain s = false ∧ powered 1 s = true ∧ (src = 0 → reachable s = true) ∧ s.mbox.limited.contains (0x0103, 0) = true) ∧
  (let s : State := (readyP (fun p => { p with stage := 3, version := 0x03000000 })); s.power.stage = 3 ∧ s.power.state = .run ∧
  s.power.wake = .none ∧ pickBank s.mem.bankA s.mem.bankB = none ∧ bankCause s.mem.bankA = none ∧ bankCause s.mem.bankB = none ∧
  s.sec.vaultSlots = [] ∧ s.fleet.staged = [] ∧ s.power.fellBack = false ∧ s.fwu.onTrial = false ∧ s.sec.bootedLifecycle = s.sec.lifecycle ∧
  s.fleet.floor ≤ s.power.version / 2 ^ 16 ∧ s.power.brownoutLatch = false ∧ s.power.reports = [] ∧ s.mbox.cmdQueue = []) := by
  try simp only [arrives_cmd, arrives_cmdX, arrives_badSig, arrives_badSigX]
  try simp only [arrives_iff, mailboxInv_iff, clear_iff, SliceOn, GoodRelease, forall_lt_iff, forall_between_iff]
  and_intros <;> decide +kernel

/-- States and operands that meet the hypotheses of `Obligations.RingRows`, clause by clause. -/
theorem meets_RingRows :
  (let s : State := puntWaits; let r : Nat := 0; r < 16 ∧ ringRuns r s = true ∧ (ring r s).prod ≠ (ring r s).cons ∧ dmaWaits r s = false ∧
    let f : Frame := { ingress := 0, bytes := List.replicate 60 1 }; let l : List Frame := []; (queue (16464 + r) s).frames = f :: l ∧
    let e : Bytes := ringEntry 10 0 0 0; rd e 8 2 < (f.vector ++ puntFrame f).length) ∧
  (let s : State := puntWaits; let r : Nat := 0; r < 16 ∧ ringRuns r s = true ∧ (ring r s).prod ≠ (ring r s).cons ∧ dmaWaits r s = false ∧
    let f : Frame := { ingress := 0, bytes := List.replicate 60 1 }; let l : List Frame := []; (queue (16464 + r) s).frames = f :: l ∧
    let e : Bytes := ringEntry 65535 0 0 0; (f.vector ++ puntFrame f).length ≤ rd e 8 2) ∧
  (let s : State := puntWaits; let r : Nat := 0; r < 16 ∧ ringRuns r s = true ∧ (ring r s).prod ≠ (ring r s).cons ∧ dmaWaits r s = false ∧
    let f : Frame := { ingress := 0, bytes := List.replicate 60 1 }; let l : List Frame := []; (queue (16464 + r) s).frames = f :: l) ∧
  (let s : State := (ringOn 31); let r : Nat := 31; 16 ≤ r ∧ r ≤ 31 ∧ ringRuns r s = true ∧ (ring r s).prod ≠ (ring r s).next ∧
  dmaWaits r s = false ∧
    let e : Bytes := ringEntry 9216 0 0 7; 14 ≤ rd e 8 2 ∧ rd e 8 2 ≤ 9216 ∧ rd e 14 1 ≤ 7 ∧ rd e 11 1 = 0) ∧
  (let s : State := (ringOn 31); let r : Nat := 31; 16 ≤ r ∧ r ≤ 31 ∧ ringRuns r s = true ∧ (ring r s).prod ≠ (ring r s).next ∧
  dmaWaits r s = false ∧
    let e : Bytes := ringEntry 14 1 4 0; 14 ≤ rd e 8 2 ∧ rd e 8 2 ≤ 9216 ∧ rd e 14 1 ≤ 7 ∧ rd e 11 1 = 1 ∧ rd e 12 2 ≤ 4) ∧
  (let s : State := (ringOn 31); let r : Nat := 31; 16 ≤ r ∧ r ≤ 31 ∧ ringRuns r s = true ∧ (ring r s).prod ≠ (ring r s).next ∧
  dmaWaits r s = false ∧
    let e : Bytes := ringEntry 14 2 0 0; 14 ≤ rd e 8 2 ∧ rd e 8 2 ≤ 9216 ∧ rd e 14 1 ≤ 7 ∧ rd e 11 1 = 2 ∧
      (station (rd e 12 2) s).isSome = true) ∧
  (let s : State := (ringOn 31); let r : Nat := 31; 16 ≤ r ∧ r ≤ 31 ∧ ringRuns r s = true ∧ (ring r s).prod ≠ (ring r s).next ∧
  dmaWaits r s = false ∧
    let e : Bytes := ringEntry 14 3 0 0; 14 ≤ rd e 8 2 ∧ rd e 8 2 ≤ 9216 ∧ rd e 14 1 ≤ 7 ∧ rd e 11 1 = 3 ∧ (bss (rd e 12 2) s).isSome = true) ∧
  (let s : State := (ringOn 31); let r : Nat := 31; 16 ≤ r ∧ r ≤ 31 ∧ ringRuns r s = true ∧ (ring r s).prod ≠ (ring r s).next ∧
  dmaWaits r s = false ∧
    let e : Bytes := ringEntry 13 0 0 0; (rd e 8 2 < 14 ∨ 9216 < rd e 8 2 ∨ 7 < rd e 14 1 ∨ 3 < rd e 11 1)) ∧
  (let s : State := (ringOn 31); let r : Nat := 31; 16 ≤ r ∧ r ≤ 31 ∧ ringRuns r s = true ∧ (ring r s).prod ≠ (ring r s).next ∧
  dmaWaits r s = false) ∧
  (let s : State := (onRing 16 (fun q => { q with done := [(0, 0, 5)], open_ := [(0, ringEntry 14 0 0 0)] }) ready); let r : Nat := 16;
  let i := 0; let status := 0; let stamp := 5; let l : List (Nat × Nat × Nat) := []; let e : Bytes := ringEntry 14 0 0 0;
  (ring r s).done = (i, status, stamp) :: l ∧ (ring r s).error = false ∧ reachable s = true ∧
  ((ring r s).open_.find? fun x => x.1 == i) = some (i, e)) ∧
  (let s : State := (onRing 0 (fun q => { q with unsignalled := 1, time := 3 }) ready); let r : Nat := 0; (ring r s).unsignalled ≠ 0 ∧
  (ring r s).time ≠ 0) ∧
  (let s : State := ready; let r : Nat := 0; (ring r s).unsignalled = 0) ∧
  (let s : State := { ringOn 0 with dma := [⟨0, true, 0⟩] }; let d : DmaWait := ⟨0, true, 0⟩; let l : List DmaWait := []; s.dma = d :: l ∧
  (ring d.ring s).enable = true ∧ d.ring < 16) ∧
  (let s : State := { ringOn 31 with dma := [⟨31, true, 0⟩] }; let d : DmaWait := ⟨31, true, 0⟩; let l : List DmaWait := []; s.dma = d :: l ∧
  (ring d.ring s).enable = true ∧ 16 ≤ d.ring ∧ d.ring < 32 ∧ d.entry = true) ∧
  (let s : State := ready; s.dma = []) := by
  try simp only [arrives_cmd, arrives_cmdX, arrives_badSig, arrives_badSigX]
  try simp only [arrives_iff, mailboxInv_iff, clear_iff, SliceOn, GoodRelease, forall_lt_iff, forall_between_iff]
  and_intros <;> decide +kernel

/-- States and operands that meet the hypotheses of `Obligations.TaskCommandsAnswer`, clause by clause. -/
theorem meets_TaskCommandsAnswer :
  (let u : Ump := (cmd [0, 0, 0, 0, 0, 0, 0, 0]); let s : State := ready; MailboxInv s ∧ Arrives 0x0B03 u s ∧ Clear 0x0B03 false [] s ∧
  8 ≤ u.data.length ∧ u.b8 0 = 0) ∧
  (let u : Ump := (cmd [1, 3, 0, 64, 5, 0, 0, 0]); let s : State := ready; MailboxInv s ∧ Arrives 0x0B03 u s ∧ Clear 0x0B03 false [] s ∧
  8 ≤ u.data.length ∧ u.b8 0 = 1 ∧ 64 ≤ u.b16 2 ∧ u.b16 2 ≤ 16384 ∧ (u.b8 4 = 5 ∨ u.b8 4 = 6) ∧ (ring 32 s).enable = false) ∧
  (let u : Ump := (cmd [0, 12, 1, 0]); let s : State := ready; MailboxInv s ∧ Arrives 0x0B04 u s ∧ Clear 0x0B04 false [] s ∧
  4 ≤ u.data.length ∧ u.b8 0 = 0 ∧ u.b8 1 ≤ 12) ∧
  (let u : Ump := (cmd [1, 0, 0, 0]); let s : State := ready; MailboxInv s ∧ Arrives 0x0B04 u s ∧ Clear 0x0B04 false [] s ∧ 4 ≤ u.data.length ∧
  u.b8 0 = 1) ∧
  (let u : Ump := (cmd [2, 0, 0, 0]); let s : State := ready; MailboxInv s ∧ Arrives 0x0B04 u s ∧ Clear 0x0B04 false [] s ∧ 4 ≤ u.data.length ∧
  u.b8 0 = 2) ∧
  (let u : Ump := (cmdX [2, 3, 0, 0, 0, 0, 0, 0]); let s : State := ready; MailboxInv s ∧ Arrives 0x0B01 u s ∧ 8 ≤ u.data.length ∧ u.b8 1 ≤ 3 ∧
  u.b8 0 = 2 ∧ Clear 0x0B01 true [] s) ∧
  (let u : Ump := (cmdX [1, 3, 0, 0, 0, 0, 0, 0]); let s : State := ready; MailboxInv s ∧ Arrives 0x0B01 u s ∧ 8 ≤ u.data.length ∧ u.b8 1 ≤ 3 ∧
  Clear 0x0B01 true [.kernel (u.b8 1)] s ∧ kernelBusy (u.b8 1) s = false ∧ u.b8 0 = 1) ∧
  (let u : Ump := (cmdX ([0, 3, 0, 0, 0, 0, 0, 0] ++ kernelImage)); let s : State := provisioned; MailboxInv s ∧ Arrives 0x0B01 u s ∧
  8 ≤ u.data.length ∧ u.b8 1 ≤ 3 ∧ Clear 0x0B01 true [.kernel (u.b8 1)] s ∧ kernelBusy (u.b8 1) s = false ∧
    let b := u.data.drop 8; u.b8 0 = 0 ∧ s.sec.lifecycle ≠ .blank ∧ imageBad b = false ∧ b.length = 32 + rd b 12 4 + rd b 16 4 + 7376 ∧
      kernelNewer (u.b8 1) b s = false ∧ u.env.sig = true) ∧
  (let u : Ump := (badSig (cmdX ([0, 3, 0, 0, 0, 0, 0, 0] ++ kernelImage))); let s : State := provisioned; MailboxInv s ∧ Arrives 0x0B01 u s ∧
  8 ≤ u.data.length ∧ u.b8 1 ≤ 3 ∧ Clear 0x0B01 true [.kernel (u.b8 1)] s ∧ kernelBusy (u.b8 1) s = false ∧
    let b := u.data.drop 8; u.b8 0 = 0 ∧ s.sec.lifecycle ≠ .blank ∧ imageBad b = false ∧ b.length = 32 + rd b 12 4 + rd b 16 4 + 7376 ∧
      kernelNewer (u.b8 1) b s = false ∧ u.env.sig = false) ∧
  (let u : Ump := (cmd [3, 1, 3, 0, 0, 0, 0, 0, 0, 0, 0, 0, 64, 0, 0, 0, 128, 0, 0, 0, 0, 0, 0, 0, 0, 0, 0, 0, 0, 0, 0, 0, 0, 16, 39, 0, 192,
  0, 0, 0, 0, 0, 0, 0, 0, 0, 0, 0, 0, 0, 0, 0, 0, 0, 0, 0, 0, 0, 0, 0, 0, 0, 0, 0, 0, 0, 0, 0, 0, 0, 0, 0, 0, 0, 0, 0, 0, 0, 0, 0, 0, 0, 0,
  0, 0, 0, 0, 0, 0, 0, 0, 0, 0, 0, 0, 0, 0, 0, 0, 0, 0, 0, 0, 0, 0, 0, 0, 0, 0, 0, 0, 0, 0, 0, 0, 0, 0, 0, 0, 0, 0, 0, 0, 0, 0, 0, 0, 0, 0,
  0, 0, 0, 0, 0, 0, 0, 0, 0, 0, 0, 0, 0, 0, 0, 0, 0, 0, 0, 0, 0, 0, 0, 0, 0, 0, 0, 0, 0, 0, 0, 0, 0, 0, 0, 0, 0, 0, 0, 0, 0, 0, 0, 0, 0, 0,
  0, 0, 0, 0, 0, 0, 0, 0, 0, 0, 0, 0, 0, 0, 0, 0, 0, 0, 0, 0, 0, 0, 0, 0, 0, 0, 0, 0, 0, 0, 0, 0, 0, 0, 0, 0, 0, 0, 0, 0, 0, 0, 0, 0, 0, 0,
  0, 0, 0, 0, 0, 0, 0, 0, 0, 0, 0]); let s : State := { ready with dsp := { ready.dsp with kernels := [(3, ⟨9, 1, [], [], 0, 0⟩)] } };
  MailboxInv s ∧ Arrives 0x0B02 u s ∧ Clear 0x0B02 true [] s ∧ 40 + u.b16 36 ≤ u.data.length ∧ u.b8 0 ≤ 3 ∧ powered 7 s = true ∧
  runBad u = false ∧ locked (.kernel (u.b8 0)) s = false ∧ locked (.bist 1) s = false ∧
  (bit (u.b8 1) 0 = true → capturing (u.b8 2) s = false) ∧ classFull 12 s = false ∧ (Tab.look s.dsp.kernels (u.b8 0)).isSome = true) := by
  try simp only [arrives_cmd, arrives_cmdX, arrives_badSig, arrives_badSigX]
  try simp only [arrives_iff, mailboxInv_iff, clear_iff, SliceOn, GoodRelease, forall_lt_iff, forall_between_iff]
  and_intros <;> decide +kernel

/-- States and operands that meet the hypotheses of `Obligations.TaskRows`, clause by clause. -/
theorem meets_TaskRows :
  (let s : State := (onTds (fun t => { t with limit := 0 }) (ringOn 32)); mayConsume s = true ∧ s.tds.limit ≤ s.tds.inFlight) ∧
  (let s : State := (ringOn 32); mayConsume s = true ∧ s.tds.inFlight < s.tds.limit) ∧
  (let s : State := (ringOn 32); let e : Bytes := [1] ++ List.replicate 63 0; mayConsume s = true ∧
    let cls := if rd e 2 1 = 0 then s.tds.cls else rd e 2 1; s.tds.inFlight < s.tds.limit ∧ rd e 0 2 = 1 ∧ (cls = 5 ∨ cls = 6) ∧
      classFull cls s = false) ∧
  (let s : State := (onClass 6 (fun c => { c with full := some 0 }) (ringOn 32)); let e : Bytes := [1] ++ List.replicate 63 0;
  mayConsume s = true ∧
    let cls := if rd e 2 1 = 0 then s.tds.cls else rd e 2 1; s.tds.inFlight < s.tds.limit ∧ rd e 0 2 = 1 ∧ (cls = 5 ∨ cls = 6) ∧
      classFull cls s = true) ∧
  (let s : State := (ringOn 32); let e : Bytes := [2] ++ List.replicate 63 0; mayConsume s = true ∧ s.tds.inFlight < s.tds.limit ∧ rd e 0 2 ≠ 1) ∧
  (let s : State := ready; let core := 19; core < 20 ∧ served core s = none ∧ powered (if core < 16 then 2 else 7) s = true ∧
  s.tds.halted.contains (core + 8) = false ∧ chooseItem (coreGroup core) s = none) ∧
  (let s : State := (onTds (fun t => { t with items := [item0 .firmware] }) ready); let core := 15; core < 20 ∧ served core s = none ∧
  powered (if core < 16 then 2 else 7) s = true ∧ s.tds.halted.contains (core + 8) = false ∧
    let i := item0 .firmware; chooseItem (coreGroup core) s = some i ∧ (∀ a b c, i.work ≠ .kernel a b c)) ∧
  (let s : State := (onTds (fun t => { t with service := [⟨0, item0 (.firmware), 0⟩] }) ready); let core := 0;
  let x := (⟨0, item0 .firmware, 0⟩ : InService); served core s = some x ∧ s.tds.halted.contains (core + 8) = false ∧
  x.item.work = .firmware) ∧
  (let s : State := (onTds (fun t => { t with service := [⟨0, item0 (.precoder 0 true), 0⟩] }) ready); let core := 0;
  let x := (⟨0, item0 (.precoder 0 true), 0⟩ : InService); served core s = some x ∧ s.tds.halted.contains (core + 8) = false ∧
    let h := 0; x.item.work = .precoder h true) ∧
  (let s : State := (onTds (fun t => { t with service := [⟨0, item0 (.precoder 0 false), 0⟩] }) ready); let core := 0;
  let x := (⟨0, item0 (.precoder 0 false), 0⟩ : InService); served core s = some x ∧ s.tds.halted.contains (core + 8) = false ∧
    let h := 0; x.item.work = .precoder h false) ∧
  (let s : State := (onTds (fun t => { t with service := [⟨0, item0 (.frame { ingress := 0, bytes := [] } 0), 0⟩] }) ready); let core := 0;
  let x := (⟨0, item0 (.frame { ingress := 0, bytes := [] } 0), 0⟩ : InService); served core s = some x ∧
  s.tds.halted.contains (core + 8) = false ∧
    let f : Frame := { ingress := 0, bytes := [] }; let why := 0; x.item.work = .frame f why) ∧
  (let s : State := ready; let g := 0; let id := 5; let priority := 63; let bound : Option Nat := none; g ≤ 3 ∧ priority ≤ 63 ∧
  (g = 0 ∨ (s.power.limp = false ∧ bound ≠ none)) ∧ threadCount (threadGroup g s) < 1024 ∧
    let x := threadGroup g s; let t : Thread := ⟨id, g, priority, bound, runTime s⟩; (x.ready.any fun t => t.id == id) = false ∧
      (x.run0.any fun t => t.id == id) = false ∧ (x.run1.any fun t => t.id == id) = false ∧
    let c := 0; coreFor t g s = some c) ∧
  (let s : State := (onTds (fun t =>
  { t with groups := [(0, .reset), (1, ⟨[], some (thread0 1 63), some (thread0 2 63), 0, 0⟩), (2, .reset), (3, .reset)] }) ready);
  let g := 1; let id := 5; let priority := 63; let bound : Option Nat := some 0; g ≤ 3 ∧ priority ≤ 63 ∧ (g = 0 ∨ (s.power.limp = false ∧
  bound ≠ none)) ∧ threadCount (threadGroup g s) < 1024 ∧
    let x := threadGroup g s; let t : Thread := ⟨id, g, priority, bound, runTime s⟩; (x.ready.any fun t => t.id == id) = false ∧
      (x.run0.any fun t => t.id == id) = false ∧ (x.run1.any fun t => t.id == id) = false ∧ coreFor t g s = none) ∧
  (let s : State := (onTds (fun t =>
  { t with groups := [(0, .reset), (1, ⟨[thread0 2 7], some (thread0 1 7), none, 0, 0⟩), (2, .reset), (3, .reset)] }) ready); let g := 1;
  let c := 0; let o := thread0 1 7; let t := thread0 2 7; runningOn (threadGroup g s) c = some o ∧
  ((threadGroup g s).ready.find? fun t => t.priority == o.priority && mayRun t g c s) = some t) ∧
  (let s : State := ready; let core := 27; 2 ≤ core ∧ core ≤ 27 ∧ s.tds.halted.contains core = false) := by
  try simp only [arrives_cmd, arrives_cmdX, arrives_badSig, arrives_badSigX]
  try simp only [arrives_iff, mailboxInv_iff, clear_iff, SliceOn, GoodRelease, forall_lt_iff, forall_between_iff]
  and_intros <;> (first | decide +kernel | (intro a b c h; cases h))

/-- States and operands that meet the hypotheses of `Obligations.NimbusRows`, clause by clause. -/
theorem meets_NimbusRows :
  (let s : State := (nimbusAt (leBytes 4 (2 ^ 29 + 3 * 2 ^ 24 + 31 * 2 ^ 19 + 30 * 2 ^ 14) ++ leBytes 4 (0)) (fun c =>
  { c with ov := false })); let n : Nat := 3; n ≤ 3 ∧
    let c := nimbus n s; issues n s = true ∧ c.loops = [] ∧ c.pc ≤ 65528 ∧
    let sat : Bool := true; let op : Nat := 3; let a : Nat := 31; let b : Nat := 30; 1 ≤ op ∧ op ≤ 3 ∧ a < 32 ∧ b < 32 ∧
      leNat (Cells.readAll c.imem (c.pc + 4) 4) = 0 ∧
      leNat (Cells.readAll c.imem c.pc 4) = b2n sat * 2 ^ 29 + op * 2 ^ 24 + a * 2 ^ 19 + b * 2 ^ 14) ∧
  (let s : State := (nimbusAt (leBytes 4 (2 ^ 30 + 2 ^ 29 + 2 ^ 24 + 31 * 2 ^ 19 + 30 * 2 ^ 14 + 7 * 2 ^ 6 + 1) ++ leBytes 4 (0)) (fun c =>
  { c with ov := false })); let n : Nat := 3; n ≤ 3 ∧
    let c := nimbus n s; issues n s = true ∧ c.loops = [] ∧ c.pc ≤ 65528 ∧
    let sat : Bool := true; let z : Bool := true; let op : Nat := 1; let a : Nat := 31; let b : Nat := 30; let k : Nat := 7; op ≤ 1 ∧
      a < 32 ∧ b < 32 ∧ k < 8 ∧ leNat (Cells.readAll c.imem (c.pc + 4) 4) = 0 ∧
      leNat (Cells.readAll c.imem c.pc 4) = 2 ^ 30 + b2n sat * 2 ^ 29 + op * 2 ^ 24 + a * 2 ^ 19 + b * 2 ^ 14 + k * 2 ^ 6 + b2n z) ∧
  (let s : State := (nimbusAt (leBytes 4 (0) ++ leBytes 4 (0xF0000000)) (fun c => { c with ov := false })); let n : Nat := 3; n ≤ 3 ∧
    let c := nimbus n s; issues n s = true ∧ c.loops = [] ∧ c.pc ≤ 65528 ∧ leNat (Cells.readAll c.imem c.pc 4) = 0 ∧
      leNat (Cells.readAll c.imem (c.pc + 4) 4) = 0xF0000000) ∧
  (let s : State := (nimbusAt (leBytes 4 (0) ++ leBytes 4 (2 ^ 28)) (fun c => { c with p := 2 :: List.replicate 15 0 })); let n : Nat := 3;
  n ≤ 3 ∧
    let c := nimbus n s; issues n s = true ∧ c.loops = [] ∧ c.pc ≤ 65528 ∧ leNat (Cells.readAll c.imem c.pc 4) = 0 ∧
      leNat (Cells.readAll c.imem (c.pc + 4) 4) = 2 ^ 28 ∧ dataBad (pReg c 0).toNat 4 64 = true) ∧
  (let s : State := (nimbusAt (leBytes 4 (2 ^ 28) ++ leBytes 4 (0)) (fun c => { c with ov := false })); let n : Nat := 3; n ≤ 3 ∧
    let c := nimbus n s; issues n s = true ∧ c.loops = [] ∧ c.pc ≤ 65528 ∧ leNat (Cells.readAll c.imem c.pc 4) = 2 ^ 28) ∧
  (let s : State := (onMbox (fun m => { m with async := [(⟨.pcie 1, 7, 0x0B02, [], false, false, [], []⟩ : AsyncCmd)] }) (nimbusAt (leBytes 4
  (0) ++ leBytes 4 (0)) (fun c => { c with ov := false }))); let n : Nat := 3; n ≤ 3 ∧
    let c := nimbus n s; let k := run0; let a := (⟨.pcie 1, 7, 0x0B02, [], false, false, [], []⟩ : AsyncCmd); c.run = some k ∧
      findOwn 0x0B02 (k.via, k.tag) s = some a) ∧
  (let s : State := (nimbusAt (leBytes 4 (0) ++ leBytes 4 (0)) (fun c => { c with cycles := 100 })); let n : Nat := 3; n ≤ 3 ∧
    let c := nimbus n s; let k := run0; c.run = some k ∧ k.limit ≤ c.cycles) ∧
  (let s : State := ready; let n : Nat := 3; n ≤ 3 ∧
    let c := nimbus n s; c.run = none) ∧
  (let n : Nat := 3; n ≤ 3) ∧
  (let s : State := (onMbox (fun m =>
  { m with async := [(⟨.pcie 1, 7, 0x0B01, [], false, false, [], [0, 3, 0, 0, 0, 0, 0, 0] ++ kernelImage⟩ : AsyncCmd)] }) ready);
  let n : Nat := 3; n ≤ 3 ∧
    let a := (⟨.pcie 1, 7, 0x0B01, [], false, false, [], [0, 3, 0, 0, 0, 0, 0, 0] ++ kernelImage⟩ : AsyncCmd);
      firstAsync 0x0B01 s = some a ∧ rd a.ext 1 1 ≤ 3 ∧ rd a.ext 0 1 = 0) ∧
  (let s : State := (onMbox (fun m => { m with async := [(⟨.pcie 1, 7, 0x0B01, [], false, false, [], [1, 3, 0, 0, 0, 0, 0, 0]⟩ : AsyncCmd)] })
  ready); let n : Nat := 3; n ≤ 3 ∧
    let a := (⟨.pcie 1, 7, 0x0B01, [], false, false, [], [1, 3, 0, 0, 0, 0, 0, 0]⟩ : AsyncCmd); firstAsync 0x0B01 s = some a ∧
      rd a.ext 1 1 ≤ 3 ∧ rd a.ext 0 1 = 1) ∧
  (let s : State := (onMbox (fun m => { m with async := [(⟨.pcie 1, 7, 0x0B01, [], false, false, [], [2, 3, 0, 0, 0, 0, 0, 0]⟩ : AsyncCmd)] })
  ready); let n : Nat := 3; n ≤ 3 ∧
    let a := (⟨.pcie 1, 7, 0x0B01, [], false, false, [], [2, 3, 0, 0, 0, 0, 0, 0]⟩ : AsyncCmd); firstAsync 0x0B01 s = some a ∧
      rd a.ext 1 1 ≤ 3 ∧ rd a.ext 0 1 = 2) := by
  try simp only [arrives_cmd, arrives_cmdX, arrives_badSig, arrives_badSigX]
  try simp only [arrives_iff, mailboxInv_iff, clear_iff, SliceOn, GoodRelease, forall_lt_iff, forall_between_iff]
  and_intros <;> (first | decide +kernel | rfl)

/-- States and operands that meet the hypotheses of `Obligations.DrizzleCommandsAnswer`, clause by clause. -/
theorem meets_DrizzleCommandsAnswer :
  (let u : Ump := (cmd [0, 0, 0, 0, 0, 0, 0, 0, 0, 0, 0, 0, 0, 0, 0, 0, 0, 0, 0, 0, 0, 0, 0, 0]);
  let s : State := (drzBase (fun d => { d with follow := 0 })); MailboxInv s ∧ powered 8 s = true ∧ Arrives 0x0C01 u s ∧
  Clear 0x0C01 false [] s ∧ 24 ≤ u.data.length ∧ u.b8 0 = 0) ∧
  (let u : Ump := (cmd [1, 0, 5, 11, 255, 255, 253, 255, 0, 0, 0, 0, 0, 0, 0, 0, 10, 161, 232, 3, 1, 0, 0, 0]);
  let s : State := (drzBase (fun d => { d with follow := 0 })); MailboxInv s ∧ powered 8 s = true ∧ Arrives 0x0C01 u s ∧
  Clear 0x0C01 false [] s ∧ 24 ≤ u.data.length ∧
    let c := drzChannelArgs u; u.b8 0 = 1 ∧ drzChannelBad c = false) ∧
  (let u : Ump := (cmd [0, 0, 0, 0, 0, 0, 0, 0, 0, 0, 0, 0]); let s : State := (drzBase (fun d => { d with follow := 0 })); MailboxInv s ∧
  powered 8 s = true ∧ Arrives 0x0C02 u s ∧ Clear 0x0C02 false [] s ∧ 12 ≤ u.data.length ∧ u.b8 0 = 0) ∧
  (let u : Ump := (cmd [1, 7, 232, 3, 208, 7, 232, 3, 7, 0, 0, 0]); let s : State := (drzBase (fun d => { d with follow := 0 }));
  MailboxInv s ∧ powered 8 s = true ∧ Arrives 0x0C02 u s ∧ Clear 0x0C02 false [] s ∧ 12 ≤ u.data.length ∧ u.b8 0 = 1 ∧ u.b8 1 ≤ 7 ∧
  (u.b16 2 = 0 ∨ (10 ≤ u.b16 2 ∧ u.b16 2 ≤ 1000)) ∧ 50 ≤ u.b16 4 ∧ u.b16 4 ≤ 2000 ∧ 10 ≤ u.b16 6 ∧ u.b16 6 ≤ 1000 ∧ u.b8 8 ≤ 7) ∧
  (let u : Ump := (cmd [0, 0, 0, 0, 0, 0, 0, 0]); let s : State := (drzBase (fun d => { d with follow := 0 })); MailboxInv s ∧
  powered 8 s = true ∧ Arrives 0x0C03 u s ∧ Clear 0x0C03 false [] s ∧ 8 ≤ u.data.length ∧ u.b8 0 = 0) ∧
  (let u : Ump := (cmd [1, 1, 15, 10, 7, 15, 0, 0]); let s : State := (drzBase (fun d => { d with follow := 0 })); MailboxInv s ∧
  powered 8 s = true ∧ Arrives 0x0C03 u s ∧ Clear 0x0C03 false [] s ∧ 8 ≤ u.data.length ∧ u.b8 0 = 1 ∧ 1 ≤ u.b8 2 ∧ u.b8 2 ≤ 15 ∧
  u.b8 3 ≤ 10 ∧ u.b8 4 ≤ 7 ∧ u.b8 5 ≤ 15) ∧
  (let u : Ump := (cmd [0, 0, 255, 15, 0, 0, 0, 0, 0, 0, 0, 0, 254, 255, 255, 32, 232, 3, 0, 0]);
  let s : State := (drzBase (fun d => { d with follow := 0 })); MailboxInv s ∧ powered 8 s = true ∧ Arrives 0x0C05 u s ∧
  Clear 0x0C05 false [] s ∧ 20 ≤ u.data.length ∧ u.b16 2 ≤ 4095 ∧ u.b8 0 = 0 ∧ u.b16 12 ≠ 0xFFFF ∧
  (u.b16 14 = 0xFFFF ∨ (keyHandleOk (u.b16 14) = true ∧ u.b16 14 / 8192 = 1)) ∧ (u.b16 16 = 0 ∨ (10 ≤ u.b16 16 ∧ u.b16 16 ≤ 1000)) ∧
  ((drzNode (u.b16 2) s).isSome = true ∨ s.drz.nodes.length < 4096)) ∧
  (let u : Ump := (cmd [1, 0, 255, 15, 0, 0, 0, 0, 0, 0, 0, 0, 254, 255, 255, 32, 232, 3, 0, 0]);
  let s : State := (drzBase (fun d => { d with nodes := [(4095, node0)] })); MailboxInv s ∧ powered 8 s = true ∧ Arrives 0x0C05 u s ∧
  Clear 0x0C05 false [] s ∧ 20 ≤ u.data.length ∧ u.b16 2 ≤ 4095 ∧
    let n := node0; drzNode (u.b16 2) s = some n ∧ u.b8 0 = 1 ∧ drzQueuedFor (u.b16 2) s = false) ∧
  (let u : Ump := (cmd [2, 0, 255, 15, 0, 0, 0, 0, 0, 0, 0, 0, 254, 255, 255, 32, 232, 3, 0, 0]);
  let s : State := (drzBase (fun d => { d with nodes := [(4095, node0)] })); MailboxInv s ∧ powered 8 s = true ∧ Arrives 0x0C05 u s ∧
  Clear 0x0C05 false [] s ∧ 20 ≤ u.data.length ∧ u.b16 2 ≤ 4095 ∧
    let n := node0; drzNode (u.b16 2) s = some n ∧ u.b8 0 = 2) ∧
  (let u : Ump := (cmd [1, 7, 0, 0, 0, 255, 255, 255, 0, 7, 116, 0, 0, 0, 0, 0, 0, 0, 0, 0, 0, 0, 0, 0, 0, 0, 0, 0, 0, 0, 0, 0, 0, 0, 0, 0, 0,
  0, 0, 0, 0, 0, 0, 0, 0, 0, 0, 0, 0, 0, 0, 0, 0, 0, 0, 0, 0, 0, 0, 0, 0, 0, 0, 0, 0, 0, 0, 0, 0, 0, 0, 0, 0, 0, 0, 0, 0, 0, 0, 0, 0, 0, 0,
  0, 0, 0, 0, 0, 0, 0, 0, 0, 0, 0, 0, 0, 0, 0, 0, 0, 0, 0, 0, 0, 0, 0, 0, 0, 0, 0, 0, 0, 0, 0, 0, 0, 0, 0, 0, 0, 0, 0, 0, 0, 0, 0, 0, 0]);
  let s : State := (onQme (fun m => { m with poolFree := 100, poolSize := 100 }) (drzBase (fun d => { d with follow := 0 })));
  MailboxInv s ∧ powered 8 s = true ∧ Arrives 0x0C04 u s ∧ Clear 0x0C04 true [] s ∧ 1 ≤ u.b16 10 ∧ u.b16 10 ≤ 200 ∧
  12 + u.b16 10 ≤ u.data.length ∧ u.b8 0 = 1 ∧ u.b8 1 ≤ 7 ∧ u.b16 6 = 0xFFFF ∧ bit s.drz.channel.flags 0 = true ∧ s.drz.csl.period = 0 ∧
  u.b8 5 = 0xFF ∧ u.b16 10 + 11 ≤ (if s.drz.channelNow.band = 0 then 127 else 2047) ∧
    let body := field u.data 12 (u.b16 10); let q := 16480 + u.b8 1; u.b8 4 = 0 ∧ enterTest q (cellsOf body.length) false true s = 0) ∧
  (let u : Ump := (cmd [1, 7, 0, 0, 5, 255, 255, 255, 0, 7, 116, 0, 0, 0, 0, 0, 0, 0, 0, 0, 0, 0, 0, 0, 0, 0, 0, 0, 0, 0, 0, 0, 0, 0, 0, 0, 0,
  0, 0, 0, 0, 0, 0, 0, 0, 0, 0, 0, 0, 0, 0, 0, 0, 0, 0, 0, 0, 0, 0, 0, 0, 0, 0, 0, 0, 0, 0, 0, 0, 0, 0, 0, 0, 0, 0, 0, 0, 0, 0, 0, 0, 0, 0,
  0, 0, 0, 0, 0, 0, 0, 0, 0, 0, 0, 0, 0, 0, 0, 0, 0, 0, 0, 0, 0, 0, 0, 0, 0, 0, 0, 0, 0, 0, 0, 0, 0, 0, 0, 0, 0, 0, 0, 0, 0, 0, 0, 0, 0]);
  let s : State := (onQme (fun m => { m with poolFree := 100, poolSize := 100 }) (drzBase (fun d => { d with follow := 0 })));
  MailboxInv s ∧ powered 8 s = true ∧ Arrives 0x0C04 u s ∧ Clear 0x0C04 true [] s ∧ 1 ≤ u.b16 10 ∧ u.b16 10 ≤ 200 ∧
  12 + u.b16 10 ≤ u.data.length ∧ u.b8 0 = 1 ∧ u.b8 1 ≤ 7 ∧ u.b16 6 = 0xFFFF ∧ bit s.drz.channel.flags 0 = true ∧ s.drz.csl.period = 0 ∧
  u.b8 5 = 0xFF ∧ u.b16 10 + 11 ≤ (if s.drz.channelNow.band = 0 then 127 else 2047) ∧ u.b8 4 = 5) := by
  try simp only [arrives_cmd, arrives_cmdX, arrives_badSig, arrives_badSigX]
  try simp only [arrives_iff, mailboxInv_iff, clear_iff, SliceOn, GoodRelease, forall_lt_iff, forall_between_iff]
  and_intros <;> decide +kernel

/-- States and operands that meet the hypotheses of `Obligations.DrizzleExchangeAndReceptionRows`, clause by clause. -/
theorem meets_DrizzleExchangeAndReceptionRows :
  (let s : State := (drzBase (fun d => { d with queue := [drzFrame] })); let f : DrzFrame := drzFrame; let level : Int := 0;
  s.drz.exchange = none ∧ drzPick s = some f ∧ drzOn s = true ∧ f.phase = 0 ∧ s.drz.channelNow.cca ≤ level ∧ f.nb < 4) ∧
  (let s : State := (drzBase (fun d => { d with queue := [{ drzFrame with nb := 4 }] }));
  let f : DrzFrame := ({ drzFrame with nb := 4 } : DrzFrame); let level : Int := 0; s.drz.exchange = none ∧ drzPick s = some f ∧
  drzOn s = true ∧ f.phase = 0 ∧ s.drz.channelNow.cca ≤ level ∧ 4 ≤ f.nb) ∧
  (let s : State := (drzBase (fun d => { d with queue := [drzFrame] })); let us : Nat := 1000; let f : DrzFrame := drzFrame;
  let level : Int := -100; s.drz.exchange = none ∧ drzPick s = some f ∧ drzOn s = true ∧ f.phase = 0 ∧ level < s.drz.channelNow.cca ∧
  f.kind ≠ 0 ∧ f.level = 0 ∧ f.nb = 0 ∧ f.be = 3 ∧ f.wake = 0 ∧ f.meet = (0, 0) ∧ drzDuty us s = false ∧ f.owner = none) ∧
  (let s : State := (drzBase (fun d => { d with queue := [drzFrame], paOn := [(0, 3600000000)] })); let us : Nat := 1000;
  let f : DrzFrame := drzFrame; let level : Int := -100; s.drz.exchange = none ∧ drzPick s = some f ∧ drzOn s = true ∧ f.phase = 0 ∧
  level < s.drz.channelNow.cca ∧ f.kind ≠ 0 ∧ f.level = 0 ∧ f.nb = 0 ∧ f.be = 3 ∧ f.wake = 0 ∧ f.meet = (0, 0) ∧ drzDuty us s = true) ∧
  (let s : State := (drzBase (fun d => { d with queue := [{ drzFrame with phase := 1, wake := 1, meet := (1000, 5) }] }));
  let f : DrzFrame := ({ drzFrame with phase := 1, wake := 1, meet := (1000, 5) } : DrzFrame); s.drz.exchange = none ∧ drzPick s = some f ∧
  drzOn s = true ∧ f.phase = 1 ∧ f.level = 0 ∧ f.wake = 1 ∧ f.owner = none ∧ runTime s + f.meet.2 < f.meet.1) ∧
  (let s : State := (drzBase (fun d => { d with queue := [{ drzFrame with phase := 1, wake := 1 }] })); let us : Nat := 1000;
  let f : DrzFrame := ({ drzFrame with phase := 1, wake := 1 } : DrzFrame); s.drz.exchange = none ∧ drzPick s = some f ∧ drzOn s = true ∧
  f.phase = 1 ∧ f.level = 0 ∧ f.wake = 1 ∧ f.owner = none ∧
    let span := drzSpan f s; let pa := us + (span + 999) / 1000; f.meet.1 ≤ runTime s + f.meet.2 ∧ drzDuty pa s = false) ∧
  (let s : State := (drzBase (fun d => { d with exchange := some { drzFrame with phase := 2, kind := 0, flags := 1 } }));
  let f : DrzFrame := ({ drzFrame with phase := 2, kind := 0, flags := 1 } : DrzFrame); s.drz.exchange = some f ∧ f.phase = 2 ∧ f.kind = 0 ∧
  bit f.flags 0 = true) ∧
  (let s : State := (drzBase (fun d => { d with exchange := some { drzFrame with phase := 2 } }));
  let f : DrzFrame := ({ drzFrame with phase := 2 } : DrzFrame); s.drz.exchange = some f ∧ f.phase = 2 ∧ f.kind ≠ 0) ∧
  (let s : State := (drzBase (fun d => { d with exchange := some { drzFrame with phase := 3, attempts := 3 } }));
  let f : DrzFrame := ({ drzFrame with phase := 3, attempts := 3 } : DrzFrame); s.drz.exchange = some f ∧ f.phase = 3 ∧ f.wake = 0) ∧
  (let s : State := (drzBase (fun d => { d with exchange := some { drzFrame with phase := 3, attempts := 3 } }));
  let f : DrzFrame := ({ drzFrame with phase := 3, attempts := 3 } : DrzFrame); s.drz.exchange = some f ∧ f.phase = 3 ∧ f.wake = 0 ∧
  f.attempts ≤ s.drz.csl.retries) ∧
  (let s : State := (drzBase (fun d => { d with exchange := some { drzFrame with phase := 3, attempts := 4 } }));
  let f : DrzFrame := ({ drzFrame with phase := 3, attempts := 4 } : DrzFrame); s.drz.exchange = some f ∧ f.phase = 3 ∧ f.wake = 0 ∧
  s.drz.csl.retries < f.attempts) ∧
  (let s : State := (drzBase (fun d => { d with exchange := some { drzFrame with phase := 3, wake := 1 } }));
  let f : DrzFrame := ({ drzFrame with phase := 3, wake := 1 } : DrzFrame); s.drz.exchange = some f ∧ f.phase = 3 ∧ f.wake = 1) ∧
  (let s : State := (onMbox (fun m => { m with async := [(⟨.pcie 1, 7, 0x0C04, [], false, false, [], []⟩ : AsyncCmd)] }) (drzBase (fun d =>
  { d with exchange := some { drzFrame with owner := some (.pcie 1, 7) } })));
  let f := ({ drzFrame with owner := some (.pcie 1, 7) } : DrzFrame); s.drz.exchange = some f ∧
    let a := (⟨.pcie 1, 7, 0x0C04, [], false, false, [], []⟩ : AsyncCmd); let o : Via × Nat := (.pcie 1, 7); f.owner = some o ∧
      findOwn 0x0C04 o s = some a ∧ f.kind ≠ 0) ∧
  (let s : State := (drzBase (fun d => { d with follow := 0 })); powered 8 s = true ∧ s.drz.exchange = none) ∧
  (let s : State := (drzBase (fun d => { d with csl := { d.csl with period := 10 } })); powered 8 s = true ∧ s.drz.exchange = none ∧
  s.drz.csl.period ≠ 0) ∧
  (let s : State := (drzBase (fun d => { d with exchange := some { drzFrame with phase := 2 } }));
  let f : DrzFrame := ({ drzFrame with phase := 2 } : DrzFrame); powered 8 s = true ∧ s.drz.exchange = some f ∧ f.phase = 2 ∧ f.wake = 0) ∧
  (let s : State := (drzBase (fun d => { d with csl := { d.csl with period := 10 }, exchange := some { drzFrame with phase := 2 } }));
  let f : DrzFrame := ({ drzFrame with phase := 2 } : DrzFrame); powered 8 s = true ∧ s.drz.exchange = some f ∧ f.phase = 2 ∧ f.wake = 0 ∧
  s.drz.csl.period ≠ 0) ∧
  (let s : State := (readyP (fun p => { p with domains := 0x6FF })); powered 8 s = false) ∧
  (let s : State := (drzBase (fun d => { d with follow := 0 })); let f : DrzRx := ({ pan := 5 } : DrzRx); drzOn s = true ∧
  s.drz.exchange = none ∧
    let ours := f.pan = s.drz.channel.pan ∨ f.pan = 0xFFFF; (¬ ours)) ∧
  (let s : State := (drzBase (fun d => { d with follow := 0 })); let f : DrzRx := ({ dest := 0xFFFF, pan := 0xFFFF } : DrzRx); drzOn s = true ∧
  s.drz.exchange = none ∧
    let ours := f.pan = s.drz.channel.pan ∨ f.pan = 0xFFFF; ours ∧ f.kind = 0 ∧ f.level = 0 ∧ f.destExt = none ∧ f.dest = 0xFFFF ∧
      drzFrom f s = none ∧ isFlood f.payload = false) ∧
  (let s : State := (drzBase (fun d => { d with seen := [((7, 9), 0)] }));
  let f : DrzRx := ({ dest := 0xFFFF, pan := 0xFFFF, payload := [0xC5, 0x21, 7, 0, 9, 0] } : DrzRx); drzOn s = true ∧
  s.drz.exchange = none ∧
    let ours := f.pan = s.drz.channel.pan ∨ f.pan = 0xFFFF; ours ∧ f.kind = 0 ∧ f.level = 0 ∧ f.destExt = none ∧ f.dest = 0xFFFF ∧
      drzFrom f s = none ∧ isFlood f.payload = true ∧
    let e := (rd f.payload 2 2, rd f.payload 4 2); drzSeen e s = true) ∧
  (let s : State := (drzBase (fun d => { d with follow := 0 }));
  let f : DrzRx := ({ dest := 0xFFFF, pan := 0xFFFF, payload := [0xC5, 1, 7, 0, 9, 0] } : DrzRx); drzOn s = true ∧ s.drz.exchange = none ∧
    let ours := f.pan = s.drz.channel.pan ∨ f.pan = 0xFFFF; ours ∧ f.kind = 0 ∧ f.level = 0 ∧ f.destExt = none ∧ f.dest = 0xFFFF ∧
      drzFrom f s = none ∧ isFlood f.payload = true ∧
    let e := (rd f.payload 2 2, rd f.payload 4 2); let l := s.drz.seen.filter fun x => x.1 != e && !drzAged x s; drzSeen e s = false ∧
      l.length < 512 ∧ rd f.payload 1 1 / 16 = 0) ∧
  (let s : State := (drzBase (fun d => { d with mesh := { d.mesh with flags := 1 } }));
  let f : DrzRx := ({ dest := 0xFFFF, pan := 0xFFFF, payload := [0xC5, 0x12, 7, 0, 9, 0] } : DrzRx); drzOn s = true ∧
  s.drz.exchange = none ∧
    let ours := f.pan = s.drz.channel.pan ∨ f.pan = 0xFFFF; ours ∧ f.kind = 0 ∧ f.level = 0 ∧ f.destExt = none ∧ f.dest = 0xFFFF ∧
      drzFrom f s = none ∧ isFlood f.payload = true ∧
    let e := (rd f.payload 2 2, rd f.payload 4 2); let l := s.drz.seen.filter fun x => x.1 != e && !drzAged x s; drzSeen e s = false ∧
      l.length < 512 ∧ 1 ≤ rd f.payload 1 1 / 16 ∧ bit (rd f.payload 1 1) 0 = false ∧ bit s.drz.mesh.flags 0 = true ∧
      e.1 ≠ s.drz.channel.short) ∧
  (let s : State := (drzBase (fun d => { d with nodes := [(0, node0)] }));
  let f : DrzRx := ({ pan := 0xFFFF, ext := some 5, level := 5 } : DrzRx); drzOn s = true ∧ s.drz.exchange = none ∧
    let ours := f.pan = s.drz.channel.pan ∨ f.pan = 0xFFFF; let i := 0; let n : DrzNode := node0; ours ∧ f.kind = 0 ∧ f.level ≠ 0 ∧
      drzFrom f s = some i ∧ drzNode i s = some n ∧ f.keyIndex = none ∧ keyOf n.key s = none) ∧
  (let s : State := (onSec (fun c => { c with keys := [(8192, [1])] }) (drzBase (fun d =>
  { d with nodes := [(0, { node0 with counters := [(8192, 4)] })] })));
  let f : DrzRx := ({ pan := 0xFFFF, ext := some 5, level := 5, counter := 4 } : DrzRx); drzOn s = true ∧ s.drz.exchange = none ∧
    let ours := f.pan = s.drz.channel.pan ∨ f.pan = 0xFFFF; let i := 0; let n : DrzNode := { node0 with counters := [(8192, 4)] }; ours ∧
      f.kind = 0 ∧ f.level ≠ 0 ∧ drzFrom f s = some i ∧ drzNode i s = some n ∧ f.keyIndex = none ∧ (keyOf n.key s).isSome = true ∧
      n.key ≠ 0xFFFF ∧
    let c := 4; Tab.look n.counters n.key = some c ∧ f.counter ≤ c) ∧
  (let s : State := (onSec (fun c => { c with keys := [(8192, [1])] }) (drzBase (fun d => { d with nodes := [(0, node0)] })));
  let f : DrzRx := ({ pan := 0xFFFF, ext := some 5, level := 5, mic := false } : DrzRx); drzOn s = true ∧ s.drz.exchange = none ∧
    let ours := f.pan = s.drz.channel.pan ∨ f.pan = 0xFFFF; let i := 0; let n : DrzNode := node0; ours ∧ f.kind = 0 ∧ f.level ≠ 0 ∧
      drzFrom f s = some i ∧ drzNode i s = some n ∧ f.keyIndex = none ∧ (keyOf n.key s).isSome = true ∧ n.key ≠ 0xFFFF ∧
      Tab.look n.counters n.key = none ∧ f.mic = false) ∧
  (let s : State := (onSec (fun c => { c with keys := [(8192, [1])] }) (drzBase (fun d => { d with nodes := [(0, node0)] })));
  let f : DrzRx := ({ pan := 0xFFFF, ext := some 5, level := 5 } : DrzRx); drzOn s = true ∧ s.drz.exchange = none ∧
    let ours := f.pan = s.drz.channel.pan ∨ f.pan = 0xFFFF; let i := 0; let n : DrzNode := node0; ours ∧ f.kind = 0 ∧ f.level ≠ 0 ∧
      drzFrom f s = some i ∧ drzNode i s = some n ∧ f.keyIndex = none ∧ (keyOf n.key s).isSome = true ∧ n.key ≠ 0xFFFF ∧
      Tab.look n.counters n.key = none ∧ f.mic = true) ∧
  (let s : State := (onQme (fun m => { m with poolFree := 10 }) (drzBase (fun d => { d with relays := [⟨7, 9, 0, drzFrame, 0⟩] })));
  drzOn s = true ∧ s.drz.exchange = none ∧
    let r := (⟨7, 9, 0, drzFrame, 0⟩ : DrzRelay); let origin := 7; let seq := 9;
      (s.drz.relays.find? fun r => r.origin == origin && r.seq == seq && decide (r.due ≤ runTime s)) = some r ∧
    let q := drzQueueId r.frame.queue; let n := cellsOf r.frame.payload.length; enterTest q n false true s = 0) ∧
  (let s : State := (onQueue 16481 (fun q => { q with limit := 0 }) (drzBase (fun d => { d with relays := [⟨7, 9, 0, drzFrame, 0⟩] })));
  drzOn s = true ∧ s.drz.exchange = none ∧
    let r := (⟨7, 9, 0, drzFrame, 0⟩ : DrzRelay); let origin := 7; let seq := 9;
      (s.drz.relays.find? fun r => r.origin == origin && r.seq == seq && decide (r.due ≤ runTime s)) = some r ∧
    let q := drzQueueId r.frame.queue; let n := cellsOf r.frame.payload.length; enterTest q n false true s = 1) ∧
  (let s : State := (drzBase (fun d => { d with follow := 0 })); drzOn s = true ∧ s.drz.exchange = none) := by
  try simp only [arrives_cmd, arrives_cmdX, arrives_badSig, arrives_badSigX]
  try simp only [arrives_iff, mailboxInv_iff, clear_iff, SliceOn, GoodRelease, forall_lt_iff, forall_between_iff]
  and_intros <;> decide +kernel

/-- States and operands that meet the hypotheses of `Obligations.AcquisitionRows`, clause by clause. -/
theorem meets_AcquisitionRows :
  (let s : State := radioReady; let n : Nat := 0; let d : Detection := ({ power := -821 } : Detection); n < 3 ∧
    let reached := (slice n s).acqNow.detection * 10 ≤ d.power; (slice n s).rx = .search ∧ (¬ reached)) ∧
  (let s : State := radioReady; let n : Nat := 0; let d : Detection := ({ power := -600 } : Detection); n < 3 ∧
    let reached := (slice n s).acqNow.detection * 10 ≤ d.power; let good := d.early = true ∨ ofdmCheck (bandNow n s) d = 0;
      (slice n s).rx = .search ∧ reached ∧ good) ∧
  (let s : State := radioReady; let n : Nat := 0; let d : Detection := ({ parity := false } : Detection); n < 3 ∧
    let reached := (slice n s).acqNow.detection * 10 ≤ d.power; let good := d.early = true ∨ ofdmCheck (bandNow n s) d = 0;
      (slice n s).rx = .search ∧ reached ∧ (¬ good)) ∧
  (let s : State := radioReady; let n : Nat := 0; let d : Detection := ({ format := 0, rate := 2 } : Detection); n < 3 ∧
    let reached := (slice n s).acqNow.detection * 10 ≤ d.power; (slice n s).rx = .search ∧ reached ∧
      ((slice n s).channel.any fun c => bandOf c.centre == 0) = true ∧ d.early = false ∧ dsssCheck d = 0) ∧
  (let s : State := radioReady; let n : Nat := 0; let d : Detection := ({ format := 0, sigCrc := false } : Detection); n < 3 ∧
    let reached := (slice n s).acqNow.detection * 10 ≤ d.power; (slice n s).rx = .search ∧ reached ∧
      ((slice n s).channel.any fun c => bandOf c.centre == 0) = true ∧ d.early = false ∧ dsssCheck d ≠ 0) ∧
  (let s : State := (onSlice 0 (fun x => { x with rx := .receiving }) radioReady); let n : Nat := 0; n < 3 ∧ (slice n s).rx = .receiving) ∧
  (let s : State := (onSlice 0 (fun x => { x with rx := .tbWindow, preset := some (-600, -60) }) radioReady); let n : Nat := 0;
  let d : Detection := ({ power := -600 } : Detection); n < 3 ∧
    let reached := (slice n s).acqNow.detection * 10 ≤ d.power; let good := d.early = true ∨ ofdmCheck (bandNow n s) d = 0;
      (slice n s).rx = .tbWindow ∧
    let p : Int := -600; let ref : Int := -60; reached ∧ (slice n s).preset = some (p, ref) ∧ good ∧
      (d.power - p).natAbs ≤ (slice n s).acqNow.tolerance * 10) ∧
  (let s : State := (onSlice 0 (fun x => { x with rx := .tbWindow, preset := some (-880, -60) }) radioReady); let n : Nat := 0;
  let d : Detection := ({ power := -600 } : Detection); n < 3 ∧
    let reached := (slice n s).acqNow.detection * 10 ≤ d.power; let good := d.early = true ∨ ofdmCheck (bandNow n s) d = 0;
      (slice n s).rx = .tbWindow ∧
    let p : Int := -880; let ref : Int := -60; reached ∧ (slice n s).preset = some (p, ref) ∧ good ∧
      (slice n s).acqNow.tolerance * 10 < (d.power - p).natAbs) ∧
  (let s : State := (onMac 0 (fun m => { m with fixed := some (fixed0 11) }) (onSlice 0 (fun x => { x with rx := .tbWindow }) serving));
  let n : Nat := 0; n < 3 ∧ (slice n s).rx = .tbWindow ∧
    let f : Fixed := fixed0 11; let h : Nat := 0; let y : Station := station0; (mac n s).fixed = some f ∧ f.users = [h] ∧
      station h s = some y) ∧
  (let s : State := (onSlice 0 (fun x => { x with rx := .tbWindow }) radioReady); let n : Nat := 0; n < 3 ∧ (slice n s).rx = .tbWindow ∧
  (mac n s).fixed = none) ∧
  (let n : Nat := 0; n < 3) ∧
  (let s : State := (onSlice 0 (fun x => { x with acqNow := { x.acqNow with capture := 0 }, rx := .receiving, reception := some rx0 })
  radioReady); let n : Nat := 0; let d : Detection := ({ power := -600 } : Detection); n < 3 ∧
  ((slice n s).acqNow.capture = 0 ∨ d.format = 0)) ∧
  (let s : State := (onSlice 0 (fun x => { x with rx := .receiving, reception := some rx0 }) radioReady); let n : Nat := 0;
  let d : Detection := ({ power := -600 } : Detection); n < 3 ∧
    let q : Reception := rx0; let level : Int := -53; let overload : Bool := false; (slice n s).reception = some q ∧ q.armed = true ∧
      (slice n s).acqNow.capture ≠ 0 ∧ d.format ≠ 0 ∧ overload = false ∧ level - q.reference < (slice n s).acqNow.capture) ∧
  (let s : State := (onSlice 0 (fun x => { x with rx := .receiving, reception := some rx0 }) radioReady); let n : Nat := 0;
  let d : Detection := ({ power := -600 } : Detection); n < 3 ∧
    let good := d.early = true ∨ ofdmCheck (bandNow n s) d = 0; let q : Reception := rx0; let level : Int := -52;
      let overload : Bool := false; (slice n s).reception = some q ∧ q.armed = true ∧ (slice n s).acqNow.capture ≠ 0 ∧ d.format ≠ 0 ∧
      (overload = true ∨ ((slice n s).acqNow.capture : Int) ≤ level - q.reference) ∧ q.tb = false ∧ good) ∧
  (let s : State := (onSlice 0 (fun x => { x with rx := .receiving, reception := some rx0 }) radioReady); let n : Nat := 0; n < 3 ∧
    let q : Reception := rx0; (slice n s).reception = some q ∧ q.tb = false ∧ (mac n s).response = none) ∧
  (let n : Nat := 0; n < 3) := by
  try simp only [arrives_cmd, arrives_cmdX, arrives_badSig, arrives_badSigX]
  try simp only [arrives_iff, mailboxInv_iff, clear_iff, SliceOn, GoodRelease, forall_lt_iff, forall_between_iff]
  and_intros <;> decide +kernel

/-- States and operands that meet the hypotheses of `Obligations.ReceptionRows`, clause by clause. -/
theorem meets_ReceptionRows :
  (let s : State := radioReady; let n : Nat := 0; n < 3 ∧
    let m := ({ ours := false } : RxMpdu); (slice n s).rx ≠ .foreign ∧ m.ours = false ∧ m.fcs = true ∧ m.nav = none) ∧
  (let s : State := radioReady; let n : Nat := 0; n < 3 ∧
    let m := ({ ours := false, nav := some (100, true) } : RxMpdu); (slice n s).rx ≠ .foreign ∧ m.ours = false ∧ m.fcs = true ∧
    let us := 100; m.nav = some (us, true)) ∧
  (let s : State := radioReady; let n : Nat := 0; n < 3 ∧
    let m := ({ ours := false, nav := some (100, false) } : RxMpdu); (slice n s).rx ≠ .foreign ∧ m.ours = false ∧ m.fcs = true ∧
    let us := 100; m.nav = some (us, false)) ∧
  (let s : State := (onSlice 0 (fun x => { x with rx := .foreign }) radioReady); let n : Nat := 0; n < 3 ∧
    let m := ({ addr := 0x020000000002 } : RxMpdu); (slice n s).rx = .foreign ∧ m.late = false) ∧
  (let s : State := radioReady; let n : Nat := 0; n < 3 ∧
    let m := ({ fcs := false } : RxMpdu); (slice n s).rx ≠ .foreign ∧ m.fcs = false ∧ m.kind ≠ 3 ∧ m.cumulus = none) ∧
  (let s : State := (onSlice 0 (fun x => { x with rx := .receiving, rxFrozen := false, reception := some rx0 }) inCrown); let n : Nat := 0;
  n < 3 ∧
    let m := ({ addr := 0x020000000002 } : RxMpdu); let h : Nat := 0; let x : Station := station0; let r : Reception := rx0; let b := 0;
      let y : Bss := bss0; (slice n s).state = .ready ∧ (slice n s).rx = .receiving ∧ (slice n s).rxFrozen = false ∧ m.ours = true ∧
      m.fcs = true ∧ m.kind = 0 ∧ m.cumulus = none ∧ m.agg = false ∧ m.noAck = false ∧ m.late = false ∧ stationAt n m.addr s = h ∧
      h ≠ 0xFFFF ∧ station h s = some x ∧ x.links.get n = b ∧ bss b s = some y ∧ y.security = 0 ∧ resident h s = true ∧
      (slice n s).reception = some r ∧ r.tb = false ∧ (mac n s).response = none ∧ Tab.look x.sessions m.tid = none ∧ m.retry = false ∧
      m.frag = 0 ∧ m.more = false) ∧
  (let s : State := (onStation 0 (fun x => { x with retry := [(0, (0, 0))] }) (onSlice 0 (fun x =>
  { x with rx := .receiving, rxFrozen := false, reception := some rx0 }) inCrown)); let n : Nat := 0; n < 3 ∧
    let m := ({ addr := 0x020000000002, retry := true } : RxMpdu); let h : Nat := 0;
      let x : Station := { station0 with retry := [(0, (0, 0))] }; let r : Reception := rx0; let b := 0; let y : Bss := bss0;
      (slice n s).state = .ready ∧ (slice n s).rx = .receiving ∧ (slice n s).rxFrozen = false ∧ m.ours = true ∧ m.fcs = true ∧ m.kind = 0 ∧
      m.cumulus = none ∧ m.agg = false ∧ m.noAck = false ∧ m.late = false ∧ stationAt n m.addr s = h ∧ h ≠ 0xFFFF ∧ station h s = some x ∧
      x.links.get n = b ∧ bss b s = some y ∧ y.security = 0 ∧ resident h s = true ∧ (slice n s).reception = some r ∧ r.tb = false ∧
      (mac n s).response = none ∧ Tab.look x.sessions m.tid = none ∧ m.retry = true ∧ Tab.look x.retry m.tid = some (m.seq, m.frag)) ∧
  (let s : State := onAirGroup (fun a => { a with mic := [⟨0, 0, { station := 0 }, [1], []⟩] }) serving; let n : Nat := 0; n < 3 ∧
    let w := (⟨0, 0, { station := 0 }, [1], []⟩ : MicWait); let l : List MicWait := []; s.air.mic = w :: l) ∧
  (let s : State := radioReady; let n : Nat := 0; n < 3 ∧ s.air.mic = []) ∧
  (let s : State := (onSlice 0 (fun x => { x with rx := .receiving, reception := some rx0 }) inCrown); let n : Nat := 0; n < 3 ∧
  s.mls.hold = [] ∧ (mac n s).response = none) ∧
  (let s : State := (onMac 0 (fun m => { m with response := some ⟨0, [⟨0, 0, [0], 0, []⟩], false, 0⟩ }) inCrown); let n : Nat := 0; n < 3 ∧
  s.mls.hold = [] ∧
    let e := (⟨0, 0, [0], 0, []⟩ : AckEntry); let r : Response := (⟨0, [⟨0, 0, [0], 0, []⟩], false, 0⟩ : Response);
      (mac n s).response = some r ∧ r.entries = [e] ∧ resident e.station s = true ∧ r.frozen = false) ∧
  (let s : State := (onMac 0 (fun m => { m with response := some ⟨0, [⟨0, 0, [0], 0, []⟩], true, 0⟩ }) inCrown); let n : Nat := 0; n < 3 ∧
  s.mls.hold = [] ∧
    let z := onSlice n (fun x => { x with rxFrozen := true }) (start s); let e := (⟨0, 0, [0], 0, []⟩ : AckEntry);
      let r : Response := (⟨0, [⟨0, 0, [0], 0, []⟩], true, 0⟩ : Response); (mac n s).response = some r ∧ r.entries = [e] ∧
      resident e.station s = true ∧ r.frozen = true ∧
    let x := onMac n (fun m => { m with response := none }) z; sliceUsable n x = true ∧ (slice n s).radarMove = false ∧
      nstrReceives n x = false ∧
    let us := 40; let us' := min us (longest n x); dutyDenies n us' x = false) ∧
  (let s : State := (onStation 0 (fun x => { x with sessions := [(0, ⟨64, 0, [], [], 4095, [⟨0, none, 10, some []⟩]⟩)] }) (onSlice 0 (fun x =>
  { x with rx := .receiving, reception := some rx0 }) inCrown)); let n : Nat := 0; n < 3 ∧
    let h : Nat := 0; let tid := 0; let x : Station := { station0 with sessions := [(0, ⟨64, 0, [], [], 4095, [⟨0, none, 10, some []⟩]⟩)] };
      let y : Session := (⟨64, 0, [], [], 4095, [⟨0, none, 10, some []⟩]⟩ : Session); station h s = some x ∧
      Tab.look x.sessions tid = some y ∧
    let r : HeldRx := (⟨0, none, 10, some []⟩ : HeldRx); let l : List Frame := []; y.held = [r] ∧ r.seq = (y.next + 1) % 4096 ∧
      r.seq < 4096 ∧ y.next < 4096 ∧ r.pn = none ∧ r.msdus = some l) ∧
  (let s : State := (onStation 0 (fun x => { x with sessions := [(0, ⟨64, 0, [], [], 5, []⟩)] }) (onSlice 0 (fun x =>
  { x with rx := .receiving, reception := some rx0 }) inCrown)); let n : Nat := 0; n < 3 ∧
    let h : Nat := 0; let tid := 0; let x : Station := { station0 with sessions := [(0, ⟨64, 0, [], [], 5, []⟩)] };
      let y : Session := (⟨64, 0, [], [], 5, []⟩ : Session); station h s = some x ∧ Tab.look x.sessions tid = some y ∧ y.held = []) ∧
  (let s : State := (onStation 0 (fun x => { x with sessions := [(0, ⟨64, 0, [], [], 5, []⟩)] }) (onSlice 0 (fun x =>
  { x with rx := .receiving, rxFrozen := false, reception := some rx0 }) inCrown)); let n : Nat := 0; n < 3 ∧
    let h : Nat := 0; let tid := 0; let x : Station := { station0 with sessions := [(0, ⟨64, 0, [], [], 5, []⟩)] };
      let y : Session := (⟨64, 0, [], [], 5, []⟩ : Session); station h s = some x ∧ Tab.look x.sessions tid = some y ∧
    let ssn := 5; (slice n s).state = .ready ∧ (slice n s).rxFrozen = false ∧ x.links.get n ≠ 255 ∧ (mac n s).response = none ∧
      (slice n s).reception.any (·.tb) = false ∧ resident h s = true ∧ y.held = [] ∧ y.next = ssn ∧ ssn < 4096 ∧ behind ssn y.start = false) ∧
  (let s : State := (onStation 0 (fun x => { x with sessions := [(0, ⟨64, 0, [], [], 5, []⟩)] }) (onSlice 0 (fun x =>
  { x with rx := .receiving, rxFrozen := false, reception := some rx0 }) serving)); let n : Nat := 0; n < 3 ∧
    let h : Nat := 0; let tid := 0; let x : Station := { station0 with sessions := [(0, ⟨64, 0, [], [], 5, []⟩)] };
      let y : Session := (⟨64, 0, [], [], 5, []⟩ : Session); station h s = some x ∧ Tab.look x.sessions tid = some y ∧
      (slice n s).state = .ready ∧ (slice n s).rxFrozen = false ∧ x.links.get n ≠ 255 ∧ (mac n s).response = none ∧
      (slice n s).reception.any (·.tb) = false ∧ resident h s = false) ∧
  (let n : Nat := 0; n < 3) := by
  try simp only [arrives_cmd, arrives_cmdX, arrives_badSig, arrives_badSigX]
  try simp only [arrives_iff, mailboxInv_iff, clear_iff, SliceOn, GoodRelease, forall_lt_iff, forall_between_iff]
  and_intros <;> decide +kernel

/-- States and operands that meet the hypotheses of `Obligations.ModemRows`, clause by clause. -/
theorem meets_ModemRows :
  (let s : State := ready; let c : CodewordIn := ({ id := 1 } : CodewordIn); powered 6 s = true ∧ s.modem.lda.queue = [] ∧
  s.modem.lda.engines.length < 24 ∧ c.ru = none ∧ c.combine = none) ∧
  (let s : State := (readyP (fun p => { p with domains := 0x7BF })); powered 6 s = false) ∧
  (let s : State := (onLda (fun l => { l with engines := [codeword0] }) ready); let c := codeword0; let k := 11; s.modem.lda.engines = [c] ∧
  c.ru = none ∧ s.modem.lda.rus = [] ∧ k < c.limit) ∧
  (let s : State := (onLda (fun l => { l with engines := [codeword0] }) ready); let c := codeword0; let k := 12; s.modem.lda.engines = [c] ∧
  c.ru = none ∧ s.modem.lda.rus = [] ∧ c.limit ≤ k) ∧
  (let s : State := (onLda (fun l => { l with engines := [codeword0] }) ready); let c := codeword0; s.modem.lda.engines = [c] ∧ c.ru = none ∧
  s.modem.lda.rus = []) ∧
  (let s : State := (onLda (fun l => { l with rus := [⟨1, 0, 2, 3, 4, [], 0, [7], 0, 0⟩] }) ready);
  let r : TurboRu := ⟨1, 0, 2, 3, 4, [], 0, [7], 0, 0⟩; s.modem.lda.rus = [r] ∧ r.symbols ≤ runTime s ∧ r.outstanding = 0 ∧ r.again = [] ∧
  r.failed ≠ [] ∧ 2 ≤ r.users ∧ r.pass < r.latched) ∧
  (let s : State := (onLda (fun l => { l with rus := [⟨1, 0, 2, 4, 4, [], 0, [7], 0, 0⟩] }) ready);
  let r : TurboRu := ⟨1, 0, 2, 4, 4, [], 0, [7], 0, 0⟩; s.modem.lda.rus = [r] ∧ r.latched ≤ r.pass) ∧
  (let s : State := { (onPeer 0 (fun p => { p with enabled := true }) (withStation (fun x => { x with kind := 4 }))) with fleet := { ready.fleet with floor := 0x0301 } };
  let h := 0; let x := { station0 with kind := 4 }; let v := 1; let f := 7; station h s = some x ∧ x.kind = 4 ∧
  (peerOf h s).enabled = true ∧ (peerOf h s).active = false ∧ v = 1 ∧ f % 8 = 7 ∧ 0x0300 < s.fleet.floor) ∧
  (let s : State := (onPeer 0 (fun p => { p with active := true }) (withStation (fun x => { x with kind := 4 }))); let h := 0;
  let x := { station0 with kind := 4 }; let v := 2; station h s = some x ∧ x.kind = 4 ∧ (peerOf h s).active = true ∧ v ≠ 1) ∧
  (let s : State := (withStation (fun x => { x with kind := 4 })); let h := 0; let x := { station0 with kind := 4 }; station h s = some x ∧
  x.kind = 4 ∧ (peerOf h s).enabled = false ∧ (peerOf h s).active = false) ∧
  (let s : State := { ready with modem := { ready.modem with soft := [⟨0, 3, 0, 0, 1, 1, true, none, [], 0⟩] } }; let h := 0; let tag := 3;
  let e := (⟨0, 3, 0, 0, 1, 1, true, none, [], 0⟩ : SoftEntry); softOf h tag s = some e ∧ e.expires ≤ runTime s) ∧
  (let s : State := { ready with modem := { ready.modem with soft := [⟨0, 3, 0, 0, 1, 1, true, none, [], 5⟩] } }; let h := 0; let tag := 3;
  let e := (⟨0, 3, 0, 0, 1, 1, true, none, [], 5⟩ : SoftEntry); softOf h tag s = some e ∧ runTime s < e.expires) ∧
  (let s : State := ready; let h := 0; let tag := 3; softOf h tag s = none) := by
  try simp only [arrives_cmd, arrives_cmdX, arrives_badSig, arrives_badSigX]
  try simp only [arrives_iff, mailboxInv_iff, clear_iff, SliceOn, GoodRelease, forall_lt_iff, forall_between_iff]
  and_intros <;> decide +kernel

/-- States and operands that meet the hypotheses of `Obligations.TransmitRows`, clause by clause. -/
theorem meets_TransmitRows :
  (let s : State := (onBss 0 (fun b => { b with transmitted := true }) (onSlice 0 (fun x => { x with txLock := true }) serving));
  let n : Nat := 0; n < 3 ∧
    let b := 0; let x := { bss0 with transmitted := true }; let cca : List Cca := []; bss b s = some x ∧ x.slice = n ∧
      x.pendingParams = none ∧ s.mls.twtNow = [] ∧ x.transmitted = true ∧
    let blocked := txBlocked (slice n s) = true ∨ nstrHeld n s = true ∨ mediumFree n (noteCca n cca s) = false; (slice n s).state = .ready ∧
      blocked) ∧
  (let s : State := (onBss 0 (fun b => { b with transmitted := true }) serving); let n : Nat := 0; n < 3 ∧
    let b := 0; let x := { bss0 with transmitted := true }; let cca : List Cca := []; bss b s = some x ∧ x.slice = n ∧
      x.pendingParams = none ∧ s.mls.twtNow = [] ∧ x.transmitted = true ∧
    let blocked := txBlocked (slice n s) = true ∨ nstrHeld n s = true ∨ mediumFree n (noteCca n cca s) = false; (slice n s).state = .ready ∧
      (¬ blocked)) ∧
  (let s : State := (onBss 0 (fun b => { b with transmitted := true }) (onSlice 0 (fun x => { x with state := .tuning }) serving));
  let n : Nat := 0; n < 3 ∧
    let b := 0; let x := { bss0 with transmitted := true }; bss b s = some x ∧ x.slice = n ∧ x.pendingParams = none ∧ s.mls.twtNow = [] ∧
      x.transmitted = true ∧ (slice n s).state = .tuning) ∧
  (let s : State := (onMac 0 (fun m => { m with txop := some txop0 }) (onStation 0 (fun x => { x with queue := [mpdu0] }) inCrown));
  let n : Nat := 0; n < 3 ∧
    let t := txop0; let p : FixPlan := ({ users := [{ station := 0 }], duration := 300 } : FixPlan);
      let u : FixUser := ({ station := 0 } : FixUser); let h := 0; let x : Station := { station0 with queue := [mpdu0] };
      let m : Mpdu := mpdu0; let d := 300; (mac n s).txop = some t ∧ (mac n s).fixed = none ∧ (slice n s).tx = none ∧
      (slice n s).state = .ready ∧ t.what = 0 ∧ t.users = [h] ∧ p.kind = 0 ∧ isMulti p = false ∧ p.users = [u] ∧ u.station = h ∧
      u.tid = m.tid ∧ u.count = 1 ∧
    let cover := coverFor n p.format p.width s; let v : FixUser := { u with ru := wholeRu cover.2 }; sends p.format = true ∧
      formatFits p.format (bandNow n s) cover.1 = true ∧ userFits n p cover.1 v s = true ∧
      fitDuration n true p.overhead p.duration p.answer s = some d ∧ mldAligned n p d s v = true ∧ protection n t [h] 0 d p.txop s = none ∧
      station h s = some x ∧ x.queue = [m] ∧ m.flight = none ∧ m.seq = none ∧ m.slot = none ∧ m.attempts = 0 ∧ x.barOwed = [] ∧
      Tab.look x.sessions m.tid = none ∧ m.length ≤ 11454 ∧
      m.length ≤ bitsIn p.format cover.1 v.ru.tones u.mcs u.streams p.gi u.dcm (d - p.overhead) / 8 ∧ (peerOf h s).active = false ∧
      servable h n s = true ∧ resident h s = true ∧ linkShare h x n m.tid s = some true ∧ admits n h (some m.tid) s = true ∧
      twtHeld (stationQueue h m.tid) s = false ∧ dozing x s = false ∧ (queue (stationQueue h m.tid) s).sojourn = false) ∧
  (let s : State := (onMac 0 (fun m =>
  { m with txop := some txop0, fixed := some ({ fixed0 12 with sent := false, granted := false, users := [] }) }) inCrown);
  let n : Nat := 0; n < 3 ∧
    let f : Fixed := { fixed0 12 with sent := false, granted := false, users := [] }; let t := txop0; (mac n s).fixed = some f ∧
      (mac n s).txop = some t ∧ f.sent = false) ∧
  (let s : State := (onMac 0 (fun m =>
  { m with txop := some txop0, fixed := some ({ fixed0 12 with sent := false, users := [], body := .sounding 0 1 [] }) }) (onSlice 0 (fun x
  => { x with txLock := true }) inCrown)); let n : Nat := 0; n < 3 ∧
    let f : Fixed := { fixed0 12 with sent := false, users := [], body := .sounding 0 1 [] }; let t := txop0; (mac n s).fixed = some f ∧
      (mac n s).txop = some t ∧ f.sent = false ∧ f.granted = true ∧ (slice n s).state = .ready ∧ txBlocked (slice n s) = true) ∧
  (let s : State := (onPair 0 1 (fun p => { p with policy := .forceNstr, inForce := .forceNstr }) (onSlice 1 (fun x =>
  { x with state := .ready, channel := some ⟨0, 5200, 0, 0⟩, rx := .receiving, reception := some rx0 }) (onMac 0 (fun m =>
  { m with txop := some txop0, fixed := some ({ fixed0 12 with sent := false, users := [], body := .sounding 0 1 [] }) }) inCrown)));
  let n : Nat := 0; n < 3 ∧
    let f : Fixed := { fixed0 12 with sent := false, users := [], body := .sounding 0 1 [] }; let t := txop0; (mac n s).fixed = some f ∧
      (mac n s).txop = some t ∧ f.sent = false ∧ f.granted = true ∧ (slice n s).state = .ready ∧ txBlocked (slice n s) = false ∧
      nstrHeld n s = true) ∧
  (let s : State := (onMac 0 (fun m => { m with txop := some txop0, fixed := some ({ fixed0 0 with sent := false }) }) (onSlice 0 (fun x =>
  { x with radarMove := true }) inCrown)); let n : Nat := 0; n < 3 ∧
    let f : Fixed := { fixed0 0 with sent := false }; let t := txop0; (mac n s).fixed = some f ∧ (mac n s).txop = some t ∧ f.sent = false ∧
      f.granted = true ∧ (slice n s).state = .ready ∧ txBlocked (slice n s) = false ∧ (slice n s).radarMove = true ∧
      sentAfterRadar f = false) ∧
  (let s : State := (onMac 0 (fun m =>
  { m with txop := some txop0, fixed := some ({ fixed0 12 with sent := false, users := [], body := .sounding 0 1 [], duration := 9999999 }) }) (onSlice 0 (fun x => { x with paOn := [(0, 3600000000000)] }) limited));
  let n : Nat := 0; n < 3 ∧
    let f : Fixed := { fixed0 12 with sent := false, users := [], body := .sounding 0 1 [], duration := 9999999 }; let t := txop0;
      (mac n s).fixed = some f ∧ (mac n s).txop = some t ∧ f.sent = false ∧ f.granted = true ∧ (slice n s).state = .ready ∧
      txBlocked (slice n s) = false ∧ nstrHeld n s = false ∧ (slice n s).radarMove = false ∧ dutyDenies n f.duration s = true) ∧
  (let s : State := (onMac 0 (fun m =>
  { m with txop := some txop0, fixed := some ({ fixed0 12 with sent := false, users := [], body := .sounding 0 1 [] }) }) inCrown);
  let n : Nat := 0; n < 3 ∧
    let f : Fixed := { fixed0 12 with sent := false, users := [], body := .sounding 0 1 [] }; let t := txop0; (mac n s).fixed = some f ∧
      (mac n s).txop = some t ∧ f.sent = false ∧ f.granted = true ∧ (slice n s).state = .ready ∧ txBlocked (slice n s) = false ∧
      nstrHeld n s = false ∧ (slice n s).radarMove = false ∧
    let a : Nat := 0; let b : Nat := 1; let c : List Nat := []; dutyDenies n f.duration s = false ∧ f.kind = 12 ∧ f.users = [] ∧
      f.body = .sounding a b c) ∧
  (let s : State := (onSlice 0 (fun x => { x with tx := some ⟨0, 100, 1, vec0, 0, [], []⟩ }) (onMac 0 (fun m =>
  { m with txop := some txop0, fixed := some (fixed0 12) }) inCrown)); let n : Nat := 0; n < 3 ∧
    let p : TxPpdu := (⟨0, 100, 1, vec0, 0, [], []⟩ : TxPpdu); let f : Fixed := fixed0 12; (slice n s).tx = some p ∧ p.kind ≠ 4 ∧
      (slice n s).state = .ready ∧ (mac n s).fixed = some f ∧ f.sent = true ∧ f.kind = 12) ∧
  (let s : State := (onSlice 0 (fun x => { x with tx := some ⟨0, 100, 1, vec0, 0, [], []⟩ }) (onMac 0 (fun m =>
  { m with txop := some txop0, fixed := some (fixed0 11) }) inCrown)); let n : Nat := 0; n < 3 ∧
    let p : TxPpdu := (⟨0, 100, 1, vec0, 0, [], []⟩ : TxPpdu); let f : Fixed := fixed0 11; (slice n s).tx = some p ∧ p.kind ≠ 4 ∧
      (slice n s).state = .ready ∧ (mac n s).fixed = some f ∧ f.sent = true ∧ f.kind = 11) ∧
  (let s : State := (onMac 0 (fun m => { m with txop := some { txop0 with awaitCts := 1 }, fixed := some (fixed0 0) }) inCrown);
  let n : Nat := 0; n < 3 ∧
    let t := { txop0 with awaitCts := 1 }; let f : Fixed := fixed0 0; (mac n s).txop = some t ∧ (mac n s).fixed = some f ∧ f.sent = true ∧
      t.awaitCts ≠ 0) ∧
  (let s : State := (onMac 0 (fun m => { m with txop := some { txop0 with awaitCts := 1 }, fixed := some (fixed0 0) }) inCrown);
  let n : Nat := 0; n < 3 ∧
    let t := { txop0 with awaitCts := 1 }; let f : Fixed := fixed0 0; (mac n s).txop = some t ∧ (mac n s).fixed = some f ∧ f.sent = true ∧
      t.awaitCts ≠ 0 ∧ t.awaitCts = 1 ∧ t.users ≠ []) ∧
  (let s : State := (onMac 0 (fun m => { m with txop := some txop0, fixed := some ({ fixed0 0 with mpdus := [(0, 1)], keys := [] }) })
  (onStation 0 (fun x => { x with queue := [{ mpdu0 with seq := some 4095, flight := some 0, attempts := 1, slot := some 8 }] }) inCrown));
  let n : Nat := 0; n < 3 ∧
    let t := txop0; let f : Fixed := { fixed0 0 with mpdus := [(0, 1)], keys := [] }; let h := 0;
      let m : Mpdu := { mpdu0 with seq := some 4095, flight := some 0, attempts := 1, slot := some 8 };
      let x : Station := { station0 with queue := [{ mpdu0 with seq := some 4095, flight := some 0, attempts := 1, slot := some 8 }] };
      (mac n s).txop = some t ∧ (mac n s).fixed = some f ∧ f.sent = true ∧ f.users = [h] ∧ f.kind = 0 ∧ f.mpdus = [(h, m.id)] ∧
      station h s = some x ∧ x.queue.find? (fun y => y.id == m.id) = some m ∧
    let q := 4095; m.seq = some q) ∧
  (let s : State := (onMac 0 (fun m => { m with txop := some txop0, fixed := some ({ fixed0 0 with mpdus := [(0, 1)], keys := [] }) })
  (onStation 0 (fun x => { x with queue := [{ mpdu0 with seq := some 4095, flight := some 0, attempts := 1, slot := some 8 }] }) inCrown));
  let n : Nat := 0; n < 3 ∧
    let t := txop0; let f : Fixed := { fixed0 0 with mpdus := [(0, 1)], keys := [] }; let h := 0;
      let m : Mpdu := { mpdu0 with seq := some 4095, flight := some 0, attempts := 1, slot := some 8 };
      let x : Station := { station0 with queue := [{ mpdu0 with seq := some 4095, flight := some 0, attempts := 1, slot := some 8 }] };
      (mac n s).txop = some t ∧ (mac n s).fixed = some f ∧ f.sent = true ∧ f.users = [h] ∧ f.kind = 0 ∧ f.mpdus = [(h, m.id)] ∧
      station h s = some x ∧ x.queue.find? (fun y => y.id == m.id) = some m ∧ (m.slot.all fun k => Tab.look f.keys k == keyOf k s) = true) ∧
  (let s : State := (onMac 0 (fun m => { m with txop := some txop0, fixed := some ({ fixed0 0 with mpdus := [(0, 1)], keys := [(8, [1])] }) })
  (onStation 0 (fun x => { x with queue := [{ mpdu0 with seq := some 4095, flight := some 0, attempts := 1, slot := some 8 }] }) inCrown));
  let n : Nat := 0; n < 3 ∧
    let t := txop0; let f : Fixed := { fixed0 0 with mpdus := [(0, 1)], keys := [(8, [1])] }; let h := 0;
      let m : Mpdu := { mpdu0 with seq := some 4095, flight := some 0, attempts := 1, slot := some 8 };
      let x : Station := { station0 with queue := [{ mpdu0 with seq := some 4095, flight := some 0, attempts := 1, slot := some 8 }] };
      (mac n s).txop = some t ∧ (mac n s).fixed = some f ∧ f.sent = true ∧ f.users = [h] ∧ f.kind = 0 ∧ f.mpdus = [(h, m.id)] ∧
      station h s = some x ∧ x.queue.find? (fun y => y.id == m.id) = some m ∧ (m.slot.all fun k => Tab.look f.keys k == keyOf k s) = false) ∧
  (let n : Nat := 0; n < 3) ∧
  (let s : State := (onQueue 16384 (fun q => { q with frames := [wireFrame] }) serving); let n : Nat := 0; n < 3 ∧
    let b := 0; let f : Frame := wireFrame; let l : List Frame := []; (queue (16384 + b) s).frames = f :: l) ∧
  (let s : State := (onMac 0 (fun m => { m with txop := some txop0 }) serving); let n : Nat := 0; n < 3 ∧
    let t := txop0; (mac n s).txop = some t ∧ (slice n s).tx = none ∧ t.shares = []) ∧
  (let s : State := serving; let n : Nat := 0; n < 3 ∧ (mac n s).txop = none) := by
  try simp only [arrives_cmd, arrives_cmdX, arrives_badSig, arrives_badSigX]
  try simp only [arrives_iff, mailboxInv_iff, clear_iff, SliceOn, GoodRelease, forall_lt_iff, forall_between_iff]
  and_intros <;> decide +kernel

/-- States and operands that meet the hypotheses of `Obligations.LinkCoreRows`, clause by clause. -/
theorem meets_LinkCoreRows :
  (let s : State := serving; let f : MgmtRx := ({ kind := 0 } : MgmtRx); let x := bss0; bss f.bss s = some x ∧
  (slice x.slice s).state = .ready ∧ f.kind = 0 ∧ sliceUsable x.slice s = true) ∧
  (let s : State := serving; let f : MgmtRx := ({ kind := 1, akm := 5 } : MgmtRx); let x := bss0; bss f.bss s = some x ∧
  (slice x.slice s).state = .ready ∧ f.kind = 1 ∧ sliceUsable x.slice s = true ∧
  ((x.security != 0 && handshakesRefused s) = true ∨ akmFits f x s = false ∨ offerFits f x = false)) ∧
  (let s : State := (onBss 0 (fun b => { b with maxStations := 1 }) serving); let f : MgmtRx := ({ kind := 1, addr := 6, akm := 0 } : MgmtRx);
  let x := { bss0 with maxStations := 1 }; bss f.bss s = some x ∧ (slice x.slice s).state = .ready ∧ f.kind = 1 ∧
  sliceUsable x.slice s = true ∧ x.security = 0 ∧ f.akm = 0 ∧ stationBy f.addr s = none ∧
  (newHandle s = none ∨ x.maxStations ≤ (stationsOf f.bss s).length)) ∧
  (let s : State := serving; let f : MgmtRx := ({ kind := 1, addr := 6, akm := 0 } : MgmtRx); let x := bss0; bss f.bss s = some x ∧
  (slice x.slice s).state = .ready ∧ f.kind = 1 ∧ sliceUsable x.slice s = true ∧ x.security = 0 ∧ f.akm = 0 ∧ stationBy f.addr s = none ∧
    let h := 1; newHandle s = some h ∧ station h s = none ∧ (stationsOf f.bss s).length < x.maxStations ∧ f.staged = false) ∧
  (let s : State := serving; let f : MgmtRx := ({ kind := 3, addr := 0x020000000002 } : MgmtRx); let x := bss0; bss f.bss s = some x ∧
  (slice x.slice s).state = .ready ∧
    let h := 0; let y : Station := station0; stationBy f.addr s = some h ∧ station h s = some y ∧ y.links.get x.slice = f.bss ∧
      (f.kind = 2 ∨ f.kind = 3)) ∧
  (let s : State := serving; let f : MgmtRx := ({ kind := 4, addr := 0x020000000002 } : MgmtRx); let x := bss0; bss f.bss s = some x ∧
  (slice x.slice s).state = .ready ∧
    let h := 0; let y : Station := station0; stationBy f.addr s = some h ∧ station h s = some y ∧ y.links.get x.slice = f.bss ∧ f.kind = 4) ∧
  (let s : State := serving; let f : MgmtRx := ({ kind := 7, addr := 0x020000000002 } : MgmtRx); let x := bss0; bss f.bss s = some x ∧
  (slice x.slice s).state = .ready ∧
    let h := 0; let y : Station := station0; stationBy f.addr s = some h ∧ station h s = some y ∧ y.links.get x.slice = f.bss ∧ f.kind = 7) ∧
  (let s : State := serving; let n : Nat := 0; (slice n s).state = .ready) ∧
  (let s : State := (withStation (fun x => { x with uapsd := 1 })); let n : Nat := 0; let h := 0; (slice n s).state = .ready ∧
    let x := { station0 with uapsd := 1 }; let ac := 0; station h s = some x ∧ bit x.uapsd ac = true) ∧
  (let s : State := (withStation (fun x => { x with uapsd := 1 })); let n : Nat := 0; let h := 0; (slice n s).state = .ready ∧
    let x := { station0 with uapsd := 1 }; let ac := 1; station h s = some x ∧ bit x.uapsd ac = false) ∧
  (let s : State := (onMem (fun m => { m with seconds := 300 }) serving); let h := 0; let x : Station := station0; let b : Bss := bss0;
  station h s = some x ∧ bss (homeBss x) s = some b ∧ x.lastFrame + b.inactivity ≤ s.mem.seconds) ∧
  (let s : State := (onMem (fun m => { m with seconds := 299 }) serving); let h := 0; let x : Station := station0; let b : Bss := bss0;
  station h s = some x ∧ bss (homeBss x) s = some b ∧ s.mem.seconds < x.lastFrame + b.inactivity) ∧
  (let s : State := serving; let h := 1; station h s = none) ∧
  (let s : State := serving; let h := 0; let x := station0; let flow := 7; let duration := 255; let interval := 10000000;
  station h s = some x ∧
    let room := (x.twts.any fun y => y.flow == flow) = true ∨ (x.twts.length < 4 ∧ agreements s < 2048); let ranges := 1 ≤ duration ∧
      duration ≤ 255 ∧ 1000 ≤ interval ∧ interval ≤ 10000000; room ∧ flow < 8 ∧ ranges) ∧
  (let s : State := serving; let h := 0; let x := station0; let flow := 7; let duration := 256; let interval := 10000000;
  station h s = some x ∧
    let room := (x.twts.any fun y => y.flow == flow) = true ∨ (x.twts.length < 4 ∧ agreements s < 2048); let ranges := 1 ≤ duration ∧
      duration ≤ 255 ∧ 1000 ≤ interval ∧ interval ≤ 10000000; room ∧ flow < 8 ∧ (¬ ranges)) ∧
  (let s : State := serving; let h := 0; let x := station0; let flow := 7; station h s = some x ∧
    let room := (x.twts.any fun y => y.flow == flow) = true ∨ (x.twts.length < 4 ∧ agreements s < 2048); let places := false;
      (¬ room ∨ 8 ≤ flow ∨ places = false)) ∧
  (let s : State := (withStation (fun x => { x with twts := [⟨7, 1, 1000, 0, false⟩] })); let h := 0;
  let x := { station0 with twts := [⟨7, 1, 1000, 0, false⟩] }; let flow := 7; let duration := 255; let interval := 10000000;
  let offset := 0; station h s = some x ∧
    let t : Twt := ⟨flow, duration, interval, offset, false⟩; (x.twts.any fun t => t.flow == flow) = true) ∧
  (let s : State := (withMls (fun m => { m with twtNow := [sched] }) serving); let b := 0; let kind := 1; let id := 31;
  (s.mls.twtNow.any fun t => t.bss == b && t.kind == kind && t.id == id) = true) ∧
  (let s : State := serving; let n : Nat := 0; sliceUsable n s = true) ∧
  (let s : State := { serving with air := { serving.air with ftm := [⟨5, 0, some 7, none⟩] } }; let n : Nat := 0; let addr := 5;
  sliceUsable n s = true ∧
    let mine (f : Ftm) : Bool := f.slice == n && f.mac == addr; let f : Ftm := (⟨5, 0, some 7, none⟩ : Ftm); s.air.ftm.find? mine = some f) ∧
  (let s : State := serving; let n : Nat := 0; let addr := 5; sliceUsable n s = true ∧
    let mine (f : Ftm) : Bool := f.slice == n && f.mac == addr; let l := s.air.ftm.filter fun f => !mine f;
      let full := 16 ≤ (l.filter fun f => f.slice == n).length; s.air.ftm.find? mine = none ∧ (¬ full)) ∧
  (let s : State := { serving with air := { serving.air with ftm := (List.range 16).map fun i => ⟨i + 100, 0, none, none⟩ } };
  let n : Nat := 0; let addr := 5; sliceUsable n s = true ∧
    let mine (f : Ftm) : Bool := f.slice == n && f.mac == addr; let l := s.air.ftm.filter fun f => !mine f;
      let full := 16 ≤ (l.filter fun f => f.slice == n).length; s.air.ftm.find? mine = none ∧ full) := by
  try simp only [arrives_cmd, arrives_cmdX, arrives_badSig, arrives_badSigX]
  try simp only [arrives_iff, mailboxInv_iff, clear_iff, SliceOn, GoodRelease, forall_lt_iff, forall_between_iff]
  and_intros <;> decide +kernel

/-- States and operands that meet the hypotheses of `Obligations.WindowRows`, clause by clause. -/
theorem meets_WindowRows :
  (let s : State := (withMls (fun m => { m with running := true }) serving); s.mls.running = true ∧ s.mls.inBrim = false) ∧
  (let s : State := (withMls (fun m => { m with running := true, inBrim := true }) serving); (s.mls.running = false ∨ s.mls.inBrim = true)) ∧
  (let s : State := (withMls (fun m => { m with sampled := some [], next := some Plan.empty }) serving);
  let sample : List (Nat × Nat × Bool) := []; let base := Plan.empty; s.mls.sampled = some sample ∧ s.mls.next = some base) ∧
  (let s : State := (withMls (fun m => { m with sampled := some [], next := some Plan.empty }) serving);
  let sample : List (Nat × Nat × Bool) := []; let base := Plan.empty; s.mls.sampled = some sample ∧ s.mls.next = some base ∧ base.txops = []) ∧
  (let s : State := serving; s.mls.sampled = none) ∧
  (let s : State := (withMls (fun m => { m with running := true, inBrim := true }) serving); s.mls.running = true ∧ s.mls.inBrim = true) ∧
  (let s : State := serving; s.mls.running = false) ∧
  (let s : State := (withMls (fun m => { m with running := true }) serving);
  let t : PlanTxop := ({ slice := 0, ac := 1, users := [0] } : PlanTxop); s.mls.running = true ∧ s.mls.inBrim = false ∧
  nextPlanned t.slice s.mls.plan = none ∧ inPlan t.slice s = true) ∧
  (let s : State := (withMls (fun m => { m with running := true, inBrim := true }) serving); s.mls.inBrim = true) ∧
  (let s : State := (withMls (fun m => { m with running := true, inBrim := true }) serving); s.mls.running = true) ∧
  (let s : State := serving; s.mls.running = false) := by
  try simp only [arrives_cmd, arrives_cmdX, arrives_badSig, arrives_badSigX]
  try simp only [arrives_iff, mailboxInv_iff, clear_iff, SliceOn, GoodRelease, forall_lt_iff, forall_between_iff]
  and_intros <;> decide +kernel

/-- States and operands that meet the hypotheses of `Obligations.CrownRows`, clause by clause. -/
theorem meets_CrownRows :
  (let s : State := (withMls (fun m => { m with flight := [⟨0, true, false, 0⟩] }) serving); let h : Nat := 0;
  let o := (⟨0, true, false, 0⟩ : CrownOp); s.mls.flight = [o] ∧ o.station = h ∧ o.fetch = true ∧ s.mls.queue = [] ∧ s.mls.waiting = [] ∧
  s.mls.hold = [] ∧ poolUsed s < poolSlots s.mls.committed) ∧
  (let s : State := serving; s.mls.flight = []) ∧
  (let s : State := (withMls (fun m => { m with hold := [⟨0, { station := 0 }, [], 0, true⟩] }) serving); let h : Nat := 0;
  let x := (⟨0, { station := 0 }, [], 0, true⟩ : HeldMpdu); (s.mls.hold.find? fun x => x.mpdu.station == h && x.acked) = some x) ∧
  (let s : State := serving; s.mls.waiting = [] ∧ s.mls.queue = [] ∧ poolUsed s ≤ poolSlots s.mls.committed) ∧
  (let s : State := serving; s.mls.ratio.2.1 = 0 ∧ s.mls.ratio.2.2.2 = 0) ∧
  (let s : State := (withMls (fun m => { m with ratio := (2, 1, 0, 0) }) serving); let late := 2; let planned := 1;
  s.mls.ratio = (late, planned, 0, 0) ∧ 0 < planned ∧ s.mls.inForce.lateThr * planned < late * 1000 ∧
  s.mbox.limited.contains (0x0401, 0) = false) ∧
  (let s : State := serving; let h : Nat := 0; (station h s).isSome = true ∧ s.mls.hold = []) ∧
  (let s : State := serving; let h : Nat := 1; station h s = none) ∧
  (let s : State := serving; let h : Nat := 0; let ng := 4; let codebook := 1; (station h s).isSome = true ∧
  reportAccepted ng codebook = true ∧ classFull 10 s = false ∧ powered 7 s = true) ∧
  (let s : State := (onClass 10 (fun c => { c with full := some 0 }) serving); let h : Nat := 0; let ng := 4; let codebook := 1;
  (station h s).isSome = true ∧ reportAccepted ng codebook = true ∧ classFull 10 s = true) ∧
  (let s : State := serving; let h : Nat := 0; let ng := 5; let codebook := 1; ((station h s).isNone || !reportAccepted ng codebook) = true) := by
  try simp only [arrives_cmd, arrives_cmdX, arrives_badSig, arrives_badSigX]
  try simp only [arrives_iff, mailboxInv_iff, clear_iff, SliceOn, GoodRelease, forall_lt_iff, forall_between_iff]
  and_intros <;> decide +kernel

/-- States and operands that meet the hypotheses of `Obligations.PortRows`, clause by clause. -/
theorem meets_PortRows :
  (let s : State := (readyPort 4 (fun p => { p with state := .down }) ready); let p : Nat := 4; p ≤ 4 ∧ powered 9 s = true ∧
  (port p s).state = .down) ∧
  (let s : State := ready; let p : Nat := 4; p ≤ 4 ∧ powered 9 s = true ∧ (port p s).state ≠ .down) ∧
  (let s : State := (readyPort 4 (fun p => { p with state := .training }) ready); let p : Nat := 4; p ≤ 4 ∧ powered 9 s = true ∧
  (port p s).state = .training) ∧
  (let s : State := (readyPort 3 (fun p => { p with state := .training }) ready); let p : Nat := 3; p ≤ 4 ∧ powered 9 s = true ∧
  (port p s).state = .training ∧ (port p s).retry = 0 ∧ p ≠ 4) ∧
  (let s : State := (readyPort 4 (fun p => { p with state := .training, retry := 1 }) ready); let p : Nat := 4; p ≤ 4 ∧ powered 9 s = true ∧
  (port p s).state = .training ∧ (port p s).retry = 1) ∧
  (let s : State := (readyPort 0 (fun p => { p with state := .training, retry := 2 }) ready); let p : Nat := 0; p ≤ 4 ∧ powered 9 s = true ∧
  (port p s).state = .training ∧ (port p s).retry = 2 ∧ p ≠ 4) ∧
  (let s : State := ready; let p : Nat := 4; p ≤ 4 ∧ powered 9 s = true ∧ (port p s).state ≠ .training) ∧
  (let s : State := (readyPort 4 (fun p => { p with state := .up }) ready); let p : Nat := 4; p ≤ 4 ∧ powered 9 s = true ∧
  (port p s).state = .up) ∧
  (let s : State := (readyPort 4 (fun p => { p with state := .training }) ready); let p : Nat := 4; p ≤ 4 ∧ powered 9 s = true ∧
  (∀ q, (port q s).cfg.flow = 0)) ∧
  (let s : State := (readyPort 4 (fun p => { p with state := .down }) ready); let p : Nat := 4; p ≤ 4 ∧ powered 9 s = true ∧
  ((port 4 s).state = .down ∨ (port 4 s).state = .training)) ∧
  (let s : State := (readyPort 4 (fun p => { p with state := .down, half := true }) ready); let p : Nat := 4; p ≤ 4 ∧ powered 9 s = true ∧
  ((port 4 s).state = .down ∨ (port 4 s).state = .training) ∧ (port 4 s).half = true) ∧
  (let s : State := (readyPort 4 (fun p => { p with state := .down }) ready); let p : Nat := 4; p ≤ 4 ∧ powered 9 s = true ∧
  ((port 4 s).state = .down ∨ (port 4 s).state = .training) ∧ (port 4 s).half = false) ∧
  (let s : State := (readyPort 4 (fun p => { p with state := .up, speed := 2 }) ready); let p : Nat := 4; p ≤ 4 ∧ powered 9 s = true ∧
    let up := (port 4 s).state = .up; up) ∧
  (let s : State := (readyPort 4 (fun p => { p with state := .fault }) ready); let p : Nat := 4; p ≤ 4 ∧ powered 9 s = true ∧
  ((port 4 s).state = .adminDown ∨ (port 4 s).state = .fault)) ∧
  (let s : State := (readyPort 4 (fun p => { p with state := .up }) ready); let p : Nat := 4; p ≤ 4 ∧ portUp p s = true) ∧
  (let s : State := (readyPort 4 (fun p => { p with state := .up }) ready); let p : Nat := 4; p ≤ 4 ∧ portUp p s = true) ∧
  (let s : State := ready; let p : Nat := 4; p ≤ 4 ∧ portUp p s = false) ∧
  (let p : Nat := 4; p ≤ 4) ∧
  (let s : State := (readyPort 0 (fun p =>
  { p with state := .up, xoffSent := 128, cells := [0, 0, 0, 0, 0, 0, 0, 385], cfg := { p.cfg with flow := 2, pfcMask := 128 } }) ready);
  let p : Nat := 0; p ≤ 4 ∧
    let k := 7; bit (port p s).xoffSent k = true ∧ (pausePriorities (port p s)).contains k = true ∧
      (port p s).cfg.xon < pauseCount (port p s) k ∧ portUp p s = true ∧ (port p s).sending = none) ∧
  (let s : State := (readyPort 4 (fun p => { p with state := .up }) ready); let p : Nat := 4; p ≤ 4 ∧
    let k := 0; bit (port p s).xoffSent k = false) := by
  try simp only [arrives_cmd, arrives_cmdX, arrives_badSig, arrives_badSigX]
  try simp only [arrives_iff, mailboxInv_iff, clear_iff, SliceOn, GoodRelease, forall_lt_iff, forall_between_iff]
  and_intros <;> (first | decide +kernel | exact noFlow _ rfl)

/-- States and operands that meet the hypotheses of `Obligations.FrameRows`, clause by clause. -/
theorem meets_FrameRows :
  (let s : State := port0Up; let p : Nat := 4; p ≤ 4 ∧ (port p s).state ≠ .up) ∧
  (let s : State := port0Up; let p : Nat := 0; p ≤ 4 ∧ powered 9 s = true ∧ powered 2 s = true ∧ (port p s).state = .up ∧
  (port p s).notReady = false ∧ secyOn p s = false ∧
    let b : Bytes := List.replicate 59 0; let len := b.length + 4; len < 64) ∧
  (let s : State := readyPort 0 (fun p => { p with cfg := { p.cfg with maxFrame := 256 } }) port0Up; let p : Nat := 0; p ≤ 4 ∧
  powered 9 s = true ∧ powered 2 s = true ∧ (port p s).state = .up ∧ (port p s).notReady = false ∧ secyOn p s = false ∧
    let b : Bytes := List.replicate 253 1; let len := b.length + 4; 64 ≤ len ∧ (port p s).cfg.maxFrame < len) ∧
  (let s : State := port0Up; let p : Nat := 0; p ≤ 4 ∧ powered 9 s = true ∧ powered 2 s = true ∧ (port p s).state = .up ∧
  (port p s).notReady = false ∧ secyOn p s = false ∧
    let b : Bytes := List.replicate 12 2 ++ [0x88, 0xB6] ++ List.replicate 46 0; let len := b.length + 4; 64 ≤ len ∧
      len ≤ (port p s).cfg.maxFrame ∧ b.length ≤ 252) ∧
  (let s : State := { port0Up with wire := { port0Up.wire with sramFree := 0 } }; let p : Nat := 0; p ≤ 4 ∧ powered 9 s = true ∧
  powered 2 s = true ∧ (port p s).state = .up ∧ (port p s).notReady = false ∧ secyOn p s = false ∧
    let b : Bytes := List.replicate 12 2 ++ [0x88, 0xB6] ++ List.replicate 46 0; let len := b.length + 4; 64 ≤ len ∧
      len ≤ (port p s).cfg.maxFrame ∧ etherType b ≠ 0x8808 ∧ etherType b ≠ 0x88B5 ∧
    let x := countPort p (castCounter 2 b) 1 (countPort p 1 1 (countPort p 0 len (start s))); let k := ingressPriority p b x;
      takeCells p k (cellsOf b.length) x = none) ∧
  (let s : State := port0Up; let p : Nat := 0; p ≤ 4 ∧ powered 9 s = true ∧ powered 2 s = true ∧ (port p s).state = .up ∧
  (port p s).notReady = false ∧ secyOn p s = false ∧
    let b : Bytes := List.replicate 12 2 ++ [0x88, 0xB6] ++ List.replicate 46 0; let len := b.length + 4; 64 ≤ len ∧
      len ≤ (port p s).cfg.maxFrame ∧ etherType b ≠ 0x8808 ∧ etherType b ≠ 0x88B5 ∧
    let x := countPort p (castCounter 2 b) 1 (countPort p 1 1 (countPort p 0 len (start s))); let k := ingressPriority p b x;
      let t : State := ((takeCells 0 0 (cellsOf 60) (countPort 0 (castCounter 2 (List.replicate 12 2 ++ [0x88, 0xB6] ++ List.replicate 46
      0)) 1 (countPort 0 1 1 (countPort 0 0 64 (start port0Up))))).getD ready); takeCells p k (cellsOf b.length) x = some t) ∧
  (let s : State := port0Up; let p : Nat := 0; p ≤ 4 ∧ (port p s).icv = []) ∧
  (let s : State := (readyPort 0 (fun p =>
  { p with icv := [(wireFrame, 3, 3, 4)], secy := { p.secy with flags := 4, rx := [(15, ⟨16384, 0, [], 5, false⟩)] } }) port0Up);
  let p : Nat := 0; p ≤ 4 ∧
    let f : Frame := wireFrame; let sc := 3; let an := 3; let pn := 4; let r : List (Frame × Nat × Nat × Nat) := [];
      let a : Sa := ⟨16384, 0, [], 5, false⟩; (port p s).icv = (f, sc, an, pn) :: r ∧ saOf (port p s).secy true sc an = some a) ∧
  (let s : State := (readyPort 0 (fun p =>
  { p with icv := [(wireFrame, 3, 3, 4)], secy := { p.secy with flags := 4, rx := [(15, ⟨16384, 0, [], 5, false⟩)] } }) port0Up);
  let p : Nat := 0; p ≤ 4 ∧
    let f : Frame := wireFrame; let sc := 3; let an := 3; let pn := 4; let r : List (Frame × Nat × Nat × Nat) := [];
      let a : Sa := ⟨16384, 0, [], 5, false⟩; (port p s).icv = (f, sc, an, pn) :: r ∧ saOf (port p s).secy true sc an = some a ∧
      bit (port p s).secy.flags 2 = true ∧ pn < a.pn) ∧
  (let s : State := (readyPort 0 (fun p =>
  { p with icv := [(wireFrame, 3, 3, 5)], secy := { p.secy with flags := 4, rx := [(15, ⟨16384, 0, [], 5, false⟩)] } }) port0Up);
  let p : Nat := 0; p ≤ 4 ∧
    let f : Frame := wireFrame; let sc := 3; let an := 3; let pn := 5; let r : List (Frame × Nat × Nat × Nat) := [];
      let a : Sa := ⟨16384, 0, [], 5, false⟩; (port p s).icv = (f, sc, an, pn) :: r ∧ saOf (port p s).secy true sc an = some a ∧
      (bit (port p s).secy.flags 2 = false ∨ a.pn ≤ pn)) ∧
  (let s : State := port0Up; let p : Nat := 0; p ≤ 4 ∧
    let i := 9; let k := 0; lookupHead i k s = none) ∧
  (let s : State := (readyPort 0 (fun p => { p with blocked := 1 }) (onWire (fun w => { w with lookup := [wireFrame] }) port0Up));
  let p : Nat := 0; p ≤ 4 ∧
    let k := 0; let f : Frame := wireFrame; lookupHead p k s = some f ∧ f.ingress = p ∧ bit (port p s).blocked k = true) ∧
  (let s : State := (onWire (fun w => { w with lookup := [wireFrame] }) port0Up); let p : Nat := 0; p ≤ 4 ∧
    let k := 0; let f : Frame := wireFrame; lookupHead p k s = some f ∧ f.ingress = p ∧ bit (port p s).blocked k = false) ∧
  (let s : State := (onWire (fun w => { w with lookup := [{ wireFrame with sram := true }] }) port0Up); let p : Nat := 0; p ≤ 4 ∧
    let k := 0; let f : Frame := { wireFrame with sram := true }; lookupHead p k s = some f ∧ f.ingress = p ∧ f.good = true ∧
      vlan (assignVlan f s) s = none ∧ f.sram = true) ∧
  (let s : State := (onWire (fun w =>
  { w with lookup := [wireFrame], vlans := [(1, { vlan1 with flags := 0 })], macs := [⟨1, 0x020000000009, 3, none, false, 0, 0⟩] })
  port0Up); let p : Nat := 0; p ≤ 4 ∧
    let k := 0; let f : Frame := wireFrame; lookupHead p k s = some f ∧ f.ingress = p ∧
    let v := { vlan1 with flags := 0 }; let e := (⟨1, 0x020000000009, 3, none, false, 0, 0⟩ : MacEntry); f.good = true ∧
      vlan (assignVlan f s) s = some v ∧ bit v.members p = true ∧ sourcePolicer (2, p) s = none ∧ s.wire.acl = [] ∧
      bit s.clock.cfg.ports p = false ∧ bit v.flags 0 = false ∧ groupBound (untag f.bytes) = false ∧ ipOf (untag f.bytes) = none ∧
      etherType (untag f.bytes) ≠ 0x0806 ∧ macEntry (assignVlan f s) (dstMac (untag f.bytes)) s = some e ∧ e.station = none ∧ e.port ≠ p) ∧
  (let s : State := port0Up; let p : Nat := 4; p ≤ 4 ∧ portUp p s = false) ∧
  (let s : State := (readyPort 0 (fun p => { p with paused := true }) port0Up); let p : Nat := 0; p ≤ 4 ∧ (port p s).paused = true) ∧
  (let s : State := (onQueue 16488 (fun q => { q with frames := [wireFrame] }) mgtUpState); let p : Nat := 0; p ≤ 4 ∧ powered 9 s = true ∧
  portUp 4 s = true ∧ (port 4 s).sending = none ∧ (port 4 s).paused = false ∧
    let f : Frame := wireFrame; let r : List Frame := []; (queue 16488 s).frames = f :: r ∧ f.bytes.length + 4 ≤ (port 4 s).cfg.maxFrame) ∧
  (let s : State := port0Up; let p : Nat := 0; p ≤ 4 ∧ powered 9 s = true ∧ portUp p s = true ∧ p ≠ 4 ∧ (port p s).sending = none ∧
  (port p s).paused = false ∧ (∀ k, k < 8 → (queue (wiredQueue p k) s).frames = [])) ∧
  (let s : State := port0Up; let p : Nat := 0; p ≤ 4 ∧ (port p s).sending = none) ∧
  (let s : State := (readyPort 0 (fun p => { p with sending := some (0, wireFrame) }) port0Up); let p : Nat := 0; p ≤ 4 ∧
    let k := 0; let f : Frame := wireFrame; (port p s).sending = some (k, f) ∧ f.csum = false) := by
  try simp only [arrives_cmd, arrives_cmdX, arrives_badSig, arrives_badSigX]
  try simp only [arrives_iff, mailboxInv_iff, clear_iff, SliceOn, GoodRelease, forall_lt_iff, forall_between_iff]
  and_intros <;> decide +kernel

/-- States and operands that meet the hypotheses of `Obligations.ForwardingTableRows`, clause by clause. -/
theorem meets_ForwardingTableRows :
  (let s : State := ready; let core := 0; served core s = none) ∧
  (let s : State := settingUp (fun w => { w with flows := [(0, flow1)] }); let core := 0; let x := (⟨0, item0 (.flow tuple0), 0⟩ : InService);
  let t := tuple0; let h := (⟨tuple0, [{ ingress := 0, bytes := segment, vlan := 1 }]⟩ : HeldFlow); served core s = some x ∧
  x.item.work = .flow t ∧ s.wire.held.find? (fun h => h.key == t) = some h ∧
    let fl := (0, flow1, true); flowOf t s = some fl) ∧
  (let s : State := settingUp (fun w => w); let core := 0; let pick := 0; let x := (⟨0, item0 (.flow tuple0), 0⟩ : InService); let t := tuple0;
  let h := (⟨tuple0, [{ ingress := 0, bytes := segment, vlan := 1 }]⟩ : HeldFlow); served core s = some x ∧ x.item.work = .flow t ∧
  s.wire.held.find? (fun h => h.key == t) = some h ∧
    let y := onWire (fun w => { w with held := w.held.filter fun z => z.key != t }) (start s);
      let f := ({ ingress := 0, bytes := segment, vlan := 1 } : Frame); let i := segmentIp; flowOf t s = none ∧ h.frames.head? = some f ∧
      ipOf f.bytes = some i ∧
    let u := (match setupFlow 1 tuple0 (segmentIp) 0 (onWire (fun w => { w with held := w.held.filter fun z => z.key != tuple0 }) (start (settingUp (fun w => w)))) with | .done u => u | _ => ready);
      setupFlow f.vlan t i pick y = .done u) ∧
  (let s : State := fullFlows; let core := 0; let pick := 0; let x := (⟨0, item0 (.flow tuple0), 0⟩ : InService); let t := tuple0;
  let h := (⟨tuple0, [{ ingress := 0, bytes := segment, vlan := 1 }]⟩ : HeldFlow); served core s = some x ∧ x.item.work = .flow t ∧
  s.wire.held.find? (fun h => h.key == t) = some h ∧
    let y := onWire (fun w => { w with held := w.held.filter fun z => z.key != t }) (start s);
      let f := ({ ingress := 0, bytes := segment, vlan := 1 } : Frame); let i := segmentIp; flowOf t s = none ∧ h.frames.head? = some f ∧
      ipOf f.bytes = some i ∧ setupFlow f.vlan t i pick y = .full) ∧
  (let s : State := natted; let core := 0; let pick := 0; let x := (⟨0, item0 (.flow tuple0), 0⟩ : InService); let t := tuple0;
  let h := (⟨tuple0, [{ ingress := 0, bytes := segment, vlan := 1 }]⟩ : HeldFlow); served core s = some x ∧ x.item.work = .flow t ∧
  s.wire.held.find? (fun h => h.key == t) = some h ∧
    let y := onWire (fun w => { w with held := w.held.filter fun z => z.key != t }) (start s);
      let f := ({ ingress := 0, bytes := segment, vlan := 1 } : Frame); let i := segmentIp; flowOf t s = none ∧ h.frames.head? = some f ∧
      ipOf f.bytes = some i ∧
    let e := 2; setupFlow f.vlan t i pick y = .noPort e) ∧
  (let s : State := routed; let n := 0; Tab.look s.wire.flows n = none) ∧
  (let s : State := routedW (fun w => { w with flows := [(0, { flow0 with last := 1 })] }); let n := 0;
  let f : Flow := { flow0 with last := 1 }; Tab.look s.wire.flows n = some f ∧ s.mem.seconds < f.last + flowTimeout f s) ∧
  (let s : State := (onMem (fun m => { m with seconds := 100000 }) (routedW (fun w => { w with flows := [(0, flow0)] }))); let n := 0;
  let f : Flow := flow0; Tab.look s.wire.flows n = some f ∧ f.last + flowTimeout f s ≤ s.mem.seconds) ∧
  (let s : State := routedW (fun w => { w with nextHops := [⟨1, 9, none, 2, [], false⟩] }); let i := 1; let a := 9;
  let h := (⟨1, 9, none, 2, [], false⟩ : NextHop); nextHop i a s = some h ∧ h.mac = none ∧ h.unreachable = false ∧ h.tries < 3) ∧
  (let s : State := routedW (fun w => { w with nextHops := [⟨1, 9, none, 3, [], false⟩] }); let i := 1; let a := 9;
  let h := (⟨1, 9, none, 3, [], false⟩ : NextHop); nextHop i a s = some h ∧ h.mac = none ∧ h.unreachable = false ∧ 3 ≤ h.tries) ∧
  (let s : State := routed; let i := 1; let a := 9; nextHop i a s = none) := by
  try simp only [arrives_cmd, arrives_cmdX, arrives_badSig, arrives_badSigX]
  try simp only [arrives_iff, mailboxInv_iff, clear_iff, SliceOn, GoodRelease, forall_lt_iff, forall_between_iff]
  and_intros <;> (first | exact flowOf_fullFlows | exact setup_fullFlows | decide +kernel | rfl)

end Sys2Proof.Tests
end

section
/-! PROOF. The mailbox's obligations: the header of a command that fails (R247, R249), the event ring (R253) and Function Level
Reset (R244). -/
namespace Sys2Proof.Machine

/-! ### The header checks as one verdict (R247) -/

/-- A list of checks whose first one says `p` gives that check's status where `p` holds, and else what the rest gives. -/
theorem find_check_cons {c : Bool} {p : Prop} [Decidable p] {st : Nat} {l : List (Bool × Nat)} {rest : Option Nat}
    (hc : c = true ↔ p) (hl : (l.find? fun x => x.1).map Prod.snd = rest) :
    (((c, st) :: l).find? fun x => x.1).map Prod.snd = if p then some st else rest := by
  by_cases h : p
  · simp [hc.mpr h, h]
  · rw [if_neg h, ← hl, List.find?_cons_of_neg (fun e => h (hc.mp e))]

/-- The checks of R247 spelled out: the first that fails gives the status. -/
theorem headerStatus_eq (code : Nat) (u : Ump) (s : State) : headerStatus code u s =
    let ext := bit u.flags 1
    if u.type ≠ 1 then some ST.badCmd
    else if (servedCodes s.power.stage).contains code = false then some ST.badCmd
    else if 240 < u.length ∨ (ext = true ∧ u.length ≠ 16) ∨ ext ≠ extInCodes.contains code ∨ u.payload.length ≠ u.length then
      some ST.badLength
    else if u.crc ≠ (if u.length = 0 then 0 else crc32c u.payload) then some ST.badCrc
    else if ext = true ∧ (rd u.payload 8 4 = 0 ∨ 1048576 < rd u.payload 8 4 ∨ rd u.payload 0 8 % 4 ≠ 0) then some ST.badLength
    else if ext = true ∧ u.env.dma = .lasting then some ST.faultLasting
    else if ext = true ∧ (u.env.ext.length ≠ rd u.payload 8 4 ∨ crc32c u.env.ext ≠ rd u.payload 12 4) then some ST.badCrc
    else none := by
  refine find_check_cons (by simp) ?_
  refine find_check_cons (by simp) ?_
  refine find_check_cons (by simp [or_assoc, or_left_comm]) ?_
  refine find_check_cons (by simp) ?_
  refine find_check_cons (by rw [descLen, descAddr]; simp [or_assoc]) ?_
  refine find_check_cons (by simp) ?_
  exact find_check_cons (by simp [descLen, descCrc]) rfl

/-! ### A command whose header fails -/

/-- What the failure of a header check leaves behind: the record of a lasting DMA failure, and nothing else (R249). -/
def noteFailure (code : Nat) (u : Ump) (st : Nat) (s : State) : State :=
  if st = ST.faultLasting then noteDma code u s else s

theorem noteFailure_kept (code : Nat) (u : Ump) (st : Nat) (s : State) : MboxKept s (noteFailure code u st s) := by
  unfold noteFailure
  split
  · exact noteDma_kept _ _ _
  · exact .refl _

/-- A failed header check decides the response, whatever the command's manager is. -/
theorem answer_of_headerStatus {code : Nat} {h : Ump → State → Reply} {after : State → State} {u : Ump} {s : State} {st : Nat}
    (hst : headerStatus code u s = some st) :
    answer code h after u s = post u.via code u.tag st [] (noteFailure code u st s) := by
  unfold answer
  rw [hst]
  rfl

@[simp] theorem post_cmdQueue (v : Via) (code tag st : Nat) (data : Bytes) (s : State) :
    (post v code tag st data s).mbox.cmdQueue = s.mbox.cmdQueue := by
  cases v <;> simp [post]

/-- Over PCIe a command names a slot that is Free and reachable, and over Ethernet its tag has no stored response (R250, R263). -/
def Admitted (u : Ump) (s : State) : Prop :=
  match u.via with
  | .pcie n => n < 16 ∧ reachable s = true ∧ s.mbox.slots.getD n .free = .free
  | .mgt mac => stored mac u.tag s = none
  | .uart => True

/-- The message of a command that has arrived stands in its slot, where it came over PCIe (R250). -/
def placed (code : Nat) (u : Ump) (s : State) : State :=
  match u.via with
  | .pcie n => writeSlot n (u.msg code) (start s)
  | _ => start s

/-- A command judged with the rest of the queue behind it; what the answer leaves of the queue is then gone through for messages
that no row serves. -/
def judged (code : Nat) (h : Ump → State → Reply) (after : State → State) (u : Ump) (rest : List Msg) (s : State) : State :=
  let t := answer code h after u (onMbox (fun b => { b with cmdQueue := rest }) s)
  drain t.mbox.cmdQueue t

/-- A command is served at once where nothing waits before it. -/
theorem serveThen_of_empty {code : Nat} {h : Ump → State → Reply} {after : State → State} {u : Ump} {s : State}
    (hq : s.mbox.cmdQueue = []) (hc : carries u.via s = true) (ha : Admitted u s) :
    serveThen code h after u s = judged code h after u [] (placed code u s) := by
  have hc' : carries u.via (start s) = true := (carries_link (s := s) rfl rfl).trans hc
  unfold Admitted at ha
  unfold serveThen placed
  cases hv : u.via with
  | pcie n =>
    rw [hv] at ha hc'
    obtain ⟨hn, hr, hf⟩ := ha
    have hn' : ¬ 16 ≤ n := Nat.not_le.mpr hn
    simp only [start_mbox, hq, hn', hr, hf, hc', reachable_start, if_false, if_true]
    rfl
  | mgt mac =>
    rw [hv] at ha hc'
    have hs : stored mac u.tag (start s) = none := ha
    simp only [start_mbox, hq, hc', hs]
    rfl
  | uart =>
    rw [hv] at hc'
    simp only [start_mbox, hq, hc']
    rfl

/-- A command is served from the head of the queue. -/
theorem serveThen_of_head {code : Nat} {h : Ump → State → Reply} {after : State → State} {u : Ump} {s : State} {r : List Msg}
    (hq : s.mbox.cmdQueue = u.msg code :: r) (hc : carries u.via s = true) (hn : ∀ n, u.via = .pcie n → n < 16) :
    serveThen code h after u s = judged code h after u r (start s) := by
  have hc' : carries u.via (start s) = true := (carries_link (s := s) rfl rfl).trans hc
  unfold serveThen
  cases hv : u.via with
  | pcie n =>
    rw [hv] at hc'
    have hn' : ¬ 16 ≤ n := Nat.not_le.mpr (hn n hv)
    simp only [start_mbox, hq, hn', hc', if_false, if_true]
    rfl
  | mgt mac =>
    rw [hv] at hc'
    simp only [start_mbox, hq, hc', if_true]
    rfl
  | uart =>
    rw [hv] at hc'
    simp only [start_mbox, hq, hc', if_true]
    rfl

/-- The response to a failed header check, and what then happens to the rest of the queue. -/
theorem judged_of_headerStatus {code : Nat} {h : Ump → State → Reply} {after : State → State} {u : Ump} {s : State} {st : Nat}
    {rest : List Msg} (hst : headerStatus code u s = some st) :
    judged code h after u rest s =
      drain rest (post u.via code u.tag st [] (noteFailure code u st (onMbox (fun b => { b with cmdQueue := rest }) s))) := by
  have hst' : headerStatus code u (onMbox (fun b => { b with cmdQueue := rest }) s) = some st :=
    (headerStatus_power (s := s) rfl).trans hst
  unfold judged
  obtain ⟨-, hrest, -⟩ := noteFailure_kept code u st (onMbox (fun b => { b with cmdQueue := rest }) s)
  simp only [answer_of_headerStatus hst', post_cmdQueue, hrest, onMbox_mbox]

@[simp] theorem placed_power (code : Nat) (u : Ump) (s : State) : (placed code u s).power = s.power := by
  unfold placed
  split <;> rfl

theorem placed_inv {code : Nat} {u : Ump} {s : State} (h : MailboxInv s) : MailboxInv (placed code u s) := by
  unfold placed
  split
  · exact writeSlot_inv h
  · exact h

/-- A command that is served at once with a failing header is answered with the status of the check, and of its effect
there is only the record of a lasting DMA failure (R249). -/
theorem answers_of_headerStatus {i : Instr} {code : Nat} {u : Ump} {s : State} {st : Nat} (hi : ServedRow i code u)
    (hst : headerStatus code u s = some st) (hm : MailboxInv s) (hq : s.mbox.cmdQueue = []) (hc : carries u.via s = true)
    (ha : Admitted u s) :
    Answers i code u st [] (noteFailure code u st (onMbox (fun b => { b with cmdQueue := [] }) (placed code u s))) s := by
  obtain ⟨h, after, he⟩ := hi
  have hp : headerStatus code u (placed code u s) = some st := (headerStatus_power (placed_power ..)).trans hst
  have hn : ∀ n, u.via = .pcie n → n < 16 := by
    intro n hv
    unfold Admitted at ha
    rw [hv] at ha
    exact ha.1
  have k := noteFailure_kept code u st (onMbox (fun b => { b with cmdQueue := [] }) (placed code u s))
  have hx : MailboxInv (noteFailure code u st (onMbox (fun b => { b with cmdQueue := [] }) (placed code u s))) :=
    k.inv (placed_inv hm)
  obtain ⟨-, hxq, -⟩ := k
  refine ⟨_, ?_, post_answered code u st [] hx hn, post_replyOnly _ _ _ _ _ _ hxq⟩
  rw [he, serveThen_of_empty hq hc ha, judged_of_headerStatus hp, drain_nil (by rw [post_cmdQueue]; exact hxq)]

/-- A command at the head of the queue whose header fails is answered with the status of the check, and the rest of the queue is
gone through. -/
theorem exec_head_of_headerStatus {i : Instr} {code : Nat} {u : Ump} {s : State} {st : Nat} {r : List Msg} (hi : ServedRow i code u)
    (hst : headerStatus code u s = some st) (hq : s.mbox.cmdQueue = u.msg code :: r) (hc : carries u.via s = true)
    (hn : ∀ n, u.via = .pcie n → n < 16) :
    exec i s = .next (drain r (post u.via code u.tag st []
      (noteFailure code u st (onMbox (fun b => { b with cmdQueue := r }) (start s))))) := by
  obtain ⟨h, after, he⟩ := hi
  rw [he, serveThen_of_head hq hc hn, judged_of_headerStatus (s := start s) ((headerStatus_power rfl).trans hst)]

/-! ### The event ring (R253) -/

theorem evtFull_iff (m : Mbox) : evtFull m = true ↔ (m.evtProd + 65536 - m.evtCons) % 65536 = 32 := by simp [evtFull]

theorem reportLostPcie_of_none {s : State} (h : s.mbox.pcieDropped = 0) : reportLostPcie s = s := by
  simp [reportLostPcie, h]

theorem flushPcie_nil {s : State} (h : s.mbox.pcieQueue = []) : flushPcie [] s = s := by
  simp only [flushPcie, onMbox, ← h]

theorem toSink_of_none {e : Event} {s : State} (h : s.mbox.sink = none) : toSink e s = s := by
  simp [toSink, h]

/-- An event reaches the event slots with nothing before it: it is written where a slot is free. -/
theorem toPcie_of_room (e : Event) {s : State} (hp : powered 1 s = true) (hq : s.mbox.pcieQueue = []) (hd : s.mbox.pcieDropped = 0)
    (hf : evtFull s.mbox = false) : toPcie e s = writeEvent e s := by
  simp [toPcie, hp, reportLostPcie_of_none hd, hq, flushPcie_nil hq, hf]

/-- An event that finds every slot in use is queued or dropped: no slot is written. -/
theorem toPcie_of_full (e : Event) {s : State} (hp : powered 1 s = true) (hq : s.mbox.pcieQueue = []) (hd : s.mbox.pcieDropped = 0)
    (hf : evtFull s.mbox = true) :
    (toPcie e s).mbox.mem = s.mbox.mem ∧ (toPcie e s).mbox.evtProd = s.mbox.evtProd := by
  simp only [toPcie, hp, reportLostPcie_of_none hd, hq, flushPcie_nil hq, hf]
  simp

/-- Without a sink, the mailbox sees of an event what reaches the event slots. -/
theorem raise_mbox_of_no_sink (code : Nat) (payload : Bytes) {s : State} (h : s.mbox.sink = none) :
    (raise code payload s).mbox = (toPcie ⟨code, 0, 0, payload, none⟩ s).mbox := by
  obtain ⟨-, -, -, -, hs, -⟩ := toPcie_kept ⟨code, 0, 0, payload, none⟩ s
  simp only [raise, raiseWith, record_mbox, deliver, toSink_of_none (hs.trans h)]

/-- What writing an event does: the slot holds its message, EVT_PROD moves on, and doorbell bit 16 is set. -/
theorem writeEvent_slot (e : Event) {s : State} (h : MailboxInv s) :
    Cells.readAll (writeEvent e s).mbox.mem (0x3000 + s.mbox.evtProd % 32 * 0x80) (eventMessage s e).length = eventMessage s e ∧
    (writeEvent e s).mbox.evtProd = inc 16 s.mbox.evtProd ∧ (writeEvent e s).mbox.devDoorbell.getLsbD 16 = true := by
  simp only [writeEvent, setDoorbell_mbox, onMbox_mbox]
  refine ⟨Cells.readAll_writeAll h.1 _ _, trivial, ?_⟩
  rw [BitVec.getLsbD_or, show (BitVec.ofNat 32 (2 ^ 16)).getLsbD 16 = true from rfl, Bool.or_true]

/-- A write of EVT_CONS is done as it arrives. -/
theorem exec_evtConsWrite (v : Word32) (s : State) : exec (.evtConsWrite v) s = .next (evtConsWrite v (start s)) := rfl

/-- A value of EVT_CONS past EVT_PROD is ignored. -/
theorem evtConsWrite_of_past {v : Word32} {s : State}
    (h : (s.mbox.evtProd + 65536 - s.mbox.evtCons) % 65536 < (v.toNat % 65536 + 65536 - s.mbox.evtCons) % 65536) :
    evtConsWrite v s = s := by
  simp [evtConsWrite, h]

/-- A value of EVT_CONS up to EVT_PROD is taken; where no event was dropped nothing else changes. -/
theorem evtConsWrite_of_within {v : Word32} {s : State} (hr : reachable s = true) (hd : s.mbox.pcieDropped = 0)
    (h : (v.toNat % 65536 + 65536 - s.mbox.evtCons) % 65536 ≤ (s.mbox.evtProd + 65536 - s.mbox.evtCons) % 65536) :
    evtConsWrite v s = onMbox (fun m => { m with evtCons := v.toNat % 65536 }) s := by
  have hd' : (onMbox (fun m => { m with evtCons := v.toNat % 65536 }) s).mbox.pcieDropped = 0 := hd
  simp [evtConsWrite, hr, Nat.not_lt.mpr h, reportLostPcie_of_none hd']

/-! ### Function Level Reset (R244) -/

/-- RESET_CTL with KIND 1 resets the device where the host reaches it. -/
theorem exec_resetCtlDeviceReset {v : Word32} {b : Boot} {s : State} (hv : v.toNat = 0xC1A00001) (hr : reachable s = true) :
    exec (.resetCtlDeviceReset v b) s = .next (deviceReset b (start s)) := by
  have hk : resetKind v = 1 := by simp [resetKind, hv]
  show execResetCtlDeviceReset v b s = _
  simp [execResetCtlDeviceReset, hr, hk]

/-- A Function Level Reset resets the device where it reaches a powered function. -/
theorem exec_functionLevelReset {b : Boot} {s : State} (hp : powered 1 s = true) (hl : s.pcie.linkUp = true)
    (hperst : s.pcie.perst = false) (hh : s.power.held = false) :
    exec (.functionLevelReset b) s = .next (deviceReset b (start s)) := by
  show execFunctionLevelReset b s = _
  simp [execFunctionLevelReset, hp, hl, hperst, hh]

/-! ### The obligations -/

/-- Settles O6: the verdict is the header status, which decides the response before the command's manager is asked. -/
theorem failedHeaderChangesNothing : Obligations.FailedHeaderChangesNothing := by
  unfold Obligations.FailedHeaderChangesNothing
  intro i code u s st hi hc ext verdict kept hst
  have hrow := umpRow_served i code u hi
  have hs : headerStatus code u s = some st := (headerStatus_eq code u s).trans hst
  exact ⟨fun hm hq ha => answers_of_headerStatus hrow hs hm hq hc ha,
    fun r hq hn => exec_head_of_headerStatus hrow hs hq hc hn⟩

/-- Settles O8: with no event before it and no sink, an event is written to the slots where there is room and else is not. -/
theorem eventsAreWrittenAsARing : Obligations.EventsAreWrittenAsARing := by
  unfold Obligations.EventsAreWrittenAsARing
  intro code payload s hm hp hq hd hsink distance t m
  have ht : t.mbox = (toPcie ⟨code, 0, 0, payload, none⟩ s).mbox := raise_mbox_of_no_sink code payload hsink
  refine ⟨fun hroom => ?_, fun hfull => ?_, fun v hr => ⟨fun hpast => ?_, fun hwithin => ?_⟩⟩
  · have hf : evtFull s.mbox = false := by
      rw [← Bool.not_eq_true, evtFull_iff]
      exact hroom
    have hslot := writeEvent_slot ⟨code, 0, 0, payload, none⟩ hm
    rw [← toPcie_of_room _ hp hq hd hf, ← ht] at hslot
    obtain ⟨hmem, hprod, hbell⟩ := hslot
    exact ⟨hmem, hprod, hbell, raise_link code payload s⟩
  · rw [ht]
    exact toPcie_of_full _ hp hq hd ((evtFull_iff _).mpr hfull)
  · rw [exec_evtConsWrite, evtConsWrite_of_past (by exact hpast)]
  · refine ⟨_, exec_evtConsWrite v s, ?_⟩
    rw [evtConsWrite_of_within (s := start s) hr hd hwithin]
    exact ⟨rfl, rfl⟩

/-- Settles O9: both resets are the device reset wherever each reaches the device. -/
theorem functionLevelResetIsADeviceReset : Obligations.FunctionLevelResetIsADeviceReset := by
  unfold Obligations.FunctionLevelResetIsADeviceReset
  intro b v s hv hr hp hl hperst hh
  rw [exec_functionLevelReset hp hl hperst hh, exec_resetCtlDeviceReset hv hr]

end Sys2Proof.Machine
end

section
/-! PROOF. The formats of the event recorder's records (R425): the layout of a fixed and of a variable record, and what a repeat
rewrites (R430). -/
namespace Sys2Proof.Machine

/-! ### Little-endian fields (R5) -/

theorem leBytes_length (n v : Nat) : (leBytes n v).length = n := by
  induction n generalizing v with
  | zero => rfl
  | succ n ih => rw [leBytes, List.length_cons, ih]

/-- What `n` bytes hold of a number is read back. -/
theorem leNat_of_leBytes (n v : Nat) : leNat (leBytes n v) = v % 256 ^ n := by
  induction n generalizing v with
  | zero => exact (Nat.mod_one v).symm
  | succ n ih => rw [leBytes, leNat, ih, BitVec.toNat_ofNat, show 256 ^ (n + 1) = 256 * 256 ^ n from Nat.pow_succ', Nat.mod_mul]

theorem leNat_lt (b : Bytes) : leNat b < 256 ^ b.length := by
  induction b with
  | nil => exact Nat.one_pos
  | cons x b ih =>
    have hx : x.toNat < 256 := x.isLt
    rw [leNat, List.length_cons, Nat.pow_succ']
    omega

/-- A field of `n` bytes is below `256 ^ n`. -/
theorem rd_lt (p : Bytes) (o n : Nat) : rd p o n < 256 ^ n :=
  Nat.lt_of_lt_of_le (leNat_lt _) (Nat.pow_le_pow_right (by decide) (List.length_take_le ..))

/-- A field is read back where it was placed. -/
theorem rd_field {p : Bytes} {o : Nat} (n v : Nat) (q : Bytes) (h : p.length = o) :
    rd (p ++ (leBytes n v ++ q)) o n = v % 2 ^ (8 * n) := by
  rw [rd, List.drop_left' h, List.take_left' (leBytes_length n v), leNat_of_leBytes, Nat.pow_mul]

/-! ### The check value (R340 row 2) -/

theorem crcBitF_lt (st : Word32) : (crcBitF 16 0x1021 st).toNat < 2 ^ 16 := by
  have hm : (st <<< 1 &&& BitVec.ofNat 32 (2 ^ 16 - 1)).toNat < 2 ^ 16 := by
    rw [BitVec.toNat_and]
    exact Nat.and_lt_two_pow _ (by decide)
  unfold crcBitF
  split
  · rw [BitVec.toNat_xor]
    exact Nat.xor_lt_two_pow hm (by decide)
  · exact hm

/-- The running value stays within 16 bits: each byte's last bit step leaves it there. -/
theorem cvFeed_crc16_lt (b : Bytes) {st : Word32} (h : st.toNat < 2 ^ 16) : (cvFeed 2 st b).toNat < 2 ^ 16 := by
  induction b generalizing st with
  | nil => exact h
  | cons x b ih => exact ih (crcBitF_lt _)

theorem crc16_lt (b : Bytes) : crc16 b < 2 ^ 16 := by
  show (cvFeed 2 0xFFFF b ^^^ 0).toNat < 2 ^ 16
  rw [show cvFeed 2 0xFFFF b ^^^ 0 = cvFeed 2 0xFFFF b from BitVec.xor_zero]
  exact cvFeed_crc16_lt b (by decide)

/-- A CRC is read back where it was placed. -/
theorem rd_crc16 {p : Bytes} {o : Nat} (b : Bytes) (h : p.length = o) : rd (p ++ leBytes 2 (crc16 b)) o 2 = crc16 b := by
  have hf := rd_field 2 (crc16 b) [] h
  rw [List.append_nil] at hf
  exact hf.trans (Nat.mod_eq_of_lt (crc16_lt b))

/-! ### The layout of a record (R425) -/

/-- The twelve bytes with which both forms begin: two words, the operating seconds, the power-cycle count and one byte. -/
def recordHead (w p seconds cycles f : Nat) : Bytes :=
  leBytes 2 w ++ leBytes 2 p ++ leBytes 4 seconds ++ leBytes 3 cycles ++ leBytes 1 f

theorem fixedBytes_eq (code a seconds cycles rep b : Nat) :
    fixedBytes code a seconds cycles rep b =
      recordHead (code % 2 ^ 15) a seconds cycles rep ++ leBytes 2 b ++
        leBytes 2 (crc16 (recordHead (code % 2 ^ 15) a seconds cycles rep ++ leBytes 2 b)) := rfl

theorem variableBytes_eq (code seconds cycles flags rep : Nat) (body : Bytes) :
    variableBytes code seconds cycles flags rep body =
      recordHead (0x8000 + (body.length + 16)) code seconds cycles flags ++ leBytes 2 rep ++ body ++
        leBytes 2 (crc16 (recordHead (0x8000 + (body.length + 16)) code seconds cycles flags ++ body)) := rfl

section
variable (w p seconds cycles f : Nat) (q : Bytes)

theorem recordHead_length : (recordHead w p seconds cycles f).length = 12 := by
  simp only [recordHead, List.length_append, leBytes_length]

theorem rd_recordHead_word : rd (recordHead w p seconds cycles f ++ q) 0 2 = w % 2 ^ 16 := by
  simp only [recordHead, List.append_assoc]
  exact rd_field (p := []) 2 w _ rfl

theorem rd_recordHead_second : rd (recordHead w p seconds cycles f ++ q) 2 2 = p % 2 ^ 16 := by
  simp only [recordHead, List.append_assoc]
  exact rd_field 2 p _ (leBytes_length 2 w)

theorem rd_recordHead_seconds : rd (recordHead w p seconds cycles f ++ q) 4 4 = seconds % 2 ^ 32 := by
  have h : (leBytes 2 w ++ leBytes 2 p).length = 4 := by simp only [List.length_append, leBytes_length]
  have hf := rd_field 4 seconds (leBytes 3 cycles ++ (leBytes 1 f ++ q)) h
  simpa only [recordHead, List.append_assoc, Nat.reduceMul] using hf

theorem rd_recordHead_cycles : rd (recordHead w p seconds cycles f ++ q) 8 3 = cycles % 2 ^ 24 := by
  have h : (leBytes 2 w ++ leBytes 2 p ++ leBytes 4 seconds).length = 8 := by
    simp only [List.length_append, leBytes_length]
  have hf := rd_field 3 cycles (leBytes 1 f ++ q) h
  simpa only [recordHead, List.append_assoc, Nat.reduceMul] using hf

theorem rd_recordHead_byte : rd (recordHead w p seconds cycles f ++ q) 11 1 = f % 2 ^ 8 := by
  have h : (leBytes 2 w ++ leBytes 2 p ++ leBytes 4 seconds ++ leBytes 3 cycles).length = 11 := by
    simp only [List.length_append, leBytes_length]
  have hf := rd_field 1 f q h
  simpa only [recordHead, List.append_assoc, Nat.reduceMul] using hf

/-- The five fields of the head and the word after it, whatever follows them. -/
theorem rd_recordHead {c : Bytes} {g : Nat} (h : c = recordHead w p seconds cycles f ++ leBytes 2 g ++ q) :
    rd c 0 2 = w % 2 ^ 16 ∧ rd c 2 2 = p % 2 ^ 16 ∧ rd c 4 4 = seconds % 2 ^ 32 ∧ rd c 8 3 = cycles % 2 ^ 24 ∧
      rd c 11 1 = f % 2 ^ 8 ∧ rd c 12 2 = g % 2 ^ 16 := by
  rw [h, List.append_assoc]
  exact ⟨rd_recordHead_word .., rd_recordHead_second .., rd_recordHead_seconds .., rd_recordHead_cycles ..,
    rd_recordHead_byte .., rd_field 2 g q (recordHead_length ..)⟩

end

theorem bit_fifteen_of_lt {v : Nat} (h : v < 2 ^ 15) : bit v 15 = false := Nat.testBit_lt_two_pow h

theorem bit_fifteen_of_le {v : Nat} (h : 2 ^ 15 ≤ v) (hv : v < 2 ^ 16) : bit v 15 = true :=
  Nat.testBit_of_two_pow_le_and_two_pow_add_one_gt h hv

/-! ### Fixed records -/

section
variable {code a seconds cycles rep b : Nat}

theorem fixedBytes_length : (fixedBytes code a seconds cycles rep b).length = 16 := by
  simp only [fixedBytes_eq, List.length_append, recordHead_length, leBytes_length]

/-- The fields of a fixed record but its CRC. -/
theorem rd_fixedBytes :
    let c := fixedBytes code a seconds cycles rep b
    rd c 0 2 = code % 2 ^ 15 ∧ rd c 2 2 = a % 2 ^ 16 ∧ rd c 4 4 = seconds % 2 ^ 32 ∧ rd c 8 3 = cycles % 2 ^ 24 ∧
      rd c 11 1 = rep % 2 ^ 8 ∧ rd c 12 2 = b % 2 ^ 16 := by
  intro c
  obtain ⟨h0, hrest⟩ := rd_recordHead _ _ _ _ _ _ (fixedBytes_eq code a seconds cycles rep b)
  exact ⟨h0.trans (by omega), hrest⟩

/-- The CRC of a fixed record covers all before it. -/
theorem rd_fixedBytes_crc :
    let c := fixedBytes code a seconds cycles rep b
    rd c 14 2 = crc16 (c.take 14) := by
  intro c
  have h : (recordHead (code % 2 ^ 15) a seconds cycles rep ++ leBytes 2 b).length = 14 := by
    rw [List.length_append, recordHead_length, leBytes_length]
  simp only [c, fixedBytes_eq]
  rw [rd_crc16 _ h, List.take_left' h]

end

/-! ### Variable records -/

section
variable {code seconds cycles flags rep : Nat} {body : Bytes}

theorem variableBytes_length : (variableBytes code seconds cycles flags rep body).length = 16 + body.length := by
  simp only [variableBytes_eq, List.length_append, recordHead_length, leBytes_length]
  omega

/-- The fields of a variable record before its body. -/
theorem rd_variableBytes (h : body.length ≤ 240) :
    let c := variableBytes code seconds cycles flags rep body
    rd c 0 2 = 0x8000 + c.length ∧ rd c 2 2 = code % 2 ^ 16 ∧ rd c 4 4 = seconds % 2 ^ 32 ∧ rd c 8 3 = cycles % 2 ^ 24 ∧
      rd c 11 1 = flags % 2 ^ 8 ∧ rd c 12 2 = rep % 2 ^ 16 := by
  intro c
  have hl : c.length = 16 + body.length := variableBytes_length
  obtain ⟨h0, hrest⟩ := rd_recordHead _ _ _ _ _ _
    ((variableBytes_eq code seconds cycles flags rep body).trans (List.append_assoc ..))
  exact ⟨h0.trans (by omega), hrest⟩

theorem recordBody_variableBytes : recordBody (variableBytes code seconds cycles flags rep body) = body := by
  have h : (recordHead (0x8000 + (body.length + 16)) code seconds cycles flags ++ leBytes 2 rep).length = 14 := by
    rw [List.length_append, recordHead_length, leBytes_length]
  rw [recordBody, variableBytes_length, variableBytes_eq, List.append_assoc, List.drop_left' h,
    List.take_left' (by omega)]

/-- The CRC of a variable record covers what stands before its repeat count and the body after it. -/
theorem rd_variableBytes_crc :
    let c := variableBytes code seconds cycles flags rep body
    rd c (c.length - 2) 2 = crc16 (c.take 12 ++ recordBody c) := by
  intro c
  have ht : c.take 12 = recordHead (0x8000 + (body.length + 16)) code seconds cycles flags := by
    simp only [c, variableBytes_eq, List.append_assoc]
    exact List.take_left' (recordHead_length ..)
  have hl : c.length = 16 + body.length := variableBytes_length
  rw [ht, recordBody_variableBytes, hl]
  simp only [c, variableBytes_eq]
  refine rd_crc16 _ ?_
  simp only [List.length_append, recordHead_length, leBytes_length]
  omega

end

/-- The flags byte of a record that is no summary: bits 1 to 3 tell transient, lasting and records lost. -/
theorem bit_occFlags (o : Occurrence) (lost : Bool) :
    bit (occFlags o lost) 0 = false ∧ bit (occFlags o lost) 1 = o.transient ∧ bit (occFlags o lost) 2 = o.lasting ∧
      bit (occFlags o lost) 3 = lost := by
  unfold occFlags
  cases o.transient <;> cases o.lasting <;> cases lost <;> decide

theorem occFlags_lt (o : Occurrence) (lost : Bool) : occFlags o lost < 2 ^ 8 := by
  have hb : ∀ x, b2n x ≤ 1 := by decide
  have ht := hb o.transient
  have hl := hb o.lasting
  have hr := hb lost
  unfold occFlags
  omega

/-! ### A repeat in place (R425, R430) -/

theorem bumpRepeat_of_variable {b : Bytes} (h : isVariable b = true) :
    bumpRepeat b = b.take 12 ++ (leBytes 2 (rd b 12 2 + 1) ++ b.drop 14) := by
  rw [bumpRepeat, if_pos h, List.append_assoc]

theorem bumpRepeat_of_fixed {b : Bytes} (h : isVariable b = false) :
    let g := b.take 11 ++ (leBytes 1 (rd b 11 1 + 1) ++ (b.drop 12).take 2)
    bumpRepeat b = g ++ leBytes 2 (crc16 g) := by
  simp [bumpRepeat, h]

/-- A repeat rewrites granule 1 and nothing else. -/
theorem bumpRepeat_granule {b : Bytes} (hf : isVariable b = false → b.length = 16) (hv : isVariable b = true → 16 ≤ b.length) :
    ∃ g : Bytes, g.length = 8 ∧ bumpRepeat b = b.take 8 ++ (g ++ b.drop 16) := by
  cases h : isVariable b with
  | true =>
    have hl := hv h
    refine ⟨(b.drop 8).take 4 ++ (leBytes 2 (rd b 12 2 + 1) ++ (b.drop 14).take 2), ?_, ?_⟩
    · simp only [List.length_append, leBytes_length, List.length_take, List.length_drop]
      omega
    · have ht : b.take 12 = b.take 8 ++ (b.drop 8).take 4 := List.take_add (i := 8) (j := 4)
      have hd : b.drop 14 = (b.drop 14).take 2 ++ b.drop 16 := by
        rw [← List.drop_drop (i := 2) (j := 14), List.take_append_drop]
      rw [bumpRepeat_of_variable h, ht]
      conv => lhs; rw [hd]
      simp only [List.append_assoc]
  | false =>
    have hl := hf h
    have ht : b.take 11 = b.take 8 ++ (b.drop 8).take 3 := List.take_add (i := 8) (j := 3)
    refine ⟨(b.drop 8).take 3 ++ (leBytes 1 (rd b 11 1 + 1) ++ (b.drop 12).take 2) ++
      leBytes 2 (crc16 (b.take 11 ++ (leBytes 1 (rd b 11 1 + 1) ++ (b.drop 12).take 2))), ?_, ?_⟩
    · simp only [List.length_append, leBytes_length, List.length_take, List.length_drop]
      omega
    · rw [bumpRepeat_of_fixed h, List.drop_eq_nil_of_le (Nat.le_of_eq hl), List.append_nil, ht]
      simp only [List.append_assoc]

section
variable {b : Bytes} (hf : isVariable b = false → b.length = 16) (hv : isVariable b = true → 16 ≤ b.length)
include hf hv

theorem record_length_ge : 16 ≤ b.length := by
  cases h : isVariable b with
  | true => exact hv h
  | false => exact Nat.le_of_eq (hf h).symm

theorem bumpRepeat_length : (bumpRepeat b).length = b.length := by
  obtain ⟨g, hg, he⟩ := bumpRepeat_granule hf hv
  have hl := record_length_ge hf hv
  simp only [he, List.length_append, List.length_take, List.length_drop, hg]
  omega

theorem bumpRepeat_take : (bumpRepeat b).take 8 = b.take 8 := by
  obtain ⟨g, -, he⟩ := bumpRepeat_granule hf hv
  have hl := record_length_ge hf hv
  rw [he, List.take_left' (List.length_take_of_le (by omega))]

theorem bumpRepeat_drop : (bumpRepeat b).drop 16 = b.drop 16 := by
  obtain ⟨g, hg, he⟩ := bumpRepeat_granule hf hv
  have hl := record_length_ge hf hv
  rw [he, ← List.append_assoc, List.drop_left' (by rw [List.length_append, hg, List.length_take_of_le (by omega)])]

/-- A repeat leaves a record in its form: the first word lies in granule 0. -/
theorem isVariable_bumpRepeat : isVariable (bumpRepeat b) = isVariable b := by
  have hw : ∀ c : Bytes, rd c 0 2 = leNat ((c.take 8).take 2) := fun c => by rw [List.take_take]; rfl
  rw [isVariable, isVariable, hw, hw, bumpRepeat_take hf hv]

/-- A repeat counts one more, where the count is not saturated. -/
theorem repeatCount_bumpRepeat (hc : repeatCount b < if isVariable b then 65535 else 255) :
    repeatCount (bumpRepeat b) = repeatCount b + 1 := by
  have hl := record_length_ge hf hv
  have hi := isVariable_bumpRepeat hf hv
  cases h : isVariable b with
  | true =>
    simp only [repeatCount, hi, h, if_true] at hc ⊢
    rw [bumpRepeat_of_variable h, rd_field _ _ _ (List.length_take_of_le (by omega)), Nat.mod_eq_of_lt (by omega)]
  | false =>
    simp only [repeatCount, hi, h, Bool.false_eq_true, if_false] at hc ⊢
    rw [bumpRepeat_of_fixed h, List.append_assoc, List.append_assoc,
      rd_field _ _ _ (List.length_take_of_le (by omega)), Nat.mod_eq_of_lt (by omega)]

end

/-- The CRC of a repeated fixed record is that of its new count. -/
theorem rd_bumpRepeat_crc {b : Bytes} (h : isVariable b = false) (hl : b.length = 16) :
    rd (bumpRepeat b) 14 2 = crc16 ((bumpRepeat b).take 14) := by
  have hg : (b.take 11 ++ (leBytes 1 (rd b 11 1 + 1) ++ (b.drop 12).take 2)).length = 14 := by
    simp only [List.length_append, leBytes_length, List.length_take, List.length_drop, hl]
    rfl
  rw [bumpRepeat_of_fixed h, rd_crc16 _ hg, List.take_left' hg]

/-- A count that is not saturated is below the largest its field holds. -/
theorem repeatCount_lt_of_not_full {b : Bytes} (h : repeatFull b = false) :
    repeatCount b < if isVariable b then 65535 else 255 := by
  have h1 : rd b 11 1 < 256 := rd_lt b 11 1
  have h2 : rd b 12 2 < 65536 := rd_lt b 12 2
  cases hv : isVariable b <;> simp [repeatFull, repeatCount, hv] at h ⊢ <;> omega

/-- A record whose count is saturated takes no repeat. -/
theorem repeatFull_of_repeatOf {o : Occurrence} {r : Recorder} {x : EvrRecord} (h : repeatOf o r = some x) :
    repeatFull x.bytes = false := by
  unfold repeatOf at h
  split at h
  · cases h
  · have hx := List.find?_some h
    simp only [Bool.and_eq_true, Bool.not_eq_true'] at hx
    exact hx.2

/-- The recorder counts a repeat, where no window of its code closes before. -/
theorem judgeOcc_repeats {o : Occurrence} {r : Recorder} {x : EvrRecord} (h : repeatOf o r = some x)
    (hw : (r.windows.any fun w => w.code == o.code && windowOver w o.seconds) = false) :
    (judgeOcc o r).repeats = inc 32 r.repeats := by
  simp [judgeOcc, hw, h]

/-! ### The obligation -/

/-- The bytes of a fixed occurrence. -/
theorem occBytes_of_fixed {o : Occurrence} (h : o.fixed = true) (lost : Bool) :
    occBytes o lost = fixedBytes o.code (rd o.payload 0 2) o.seconds o.cycles 0 (rd o.payload 2 2) := if_pos h

/-- The bytes of a variable occurrence. -/
theorem occBytes_of_variable {o : Occurrence} (h : o.fixed = false) (lost : Bool) :
    occBytes o lost = variableBytes o.code o.seconds o.cycles (occFlags o lost) 0 (occBody o) := by
  simp [occBytes, h]

/-- Settles O11: the fields of both forms are read back from the layout, and a repeat rewrites granule 1, which holds the count. -/
theorem recordFormats : Obligations.RecordFormats := by
  unfold Obligations.RecordFormats
  refine ⟨?_, ?_⟩
  · intro o lost hcode hsec hcyc hbody b
    cases h : o.fixed with
    | true =>
      have hb : b = fixedBytes o.code _ _ _ _ _ := occBytes_of_fixed h lost
      have hA : rd o.payload 0 2 < 2 ^ 16 := rd_lt ..
      have hB : rd o.payload 2 2 < 2 ^ 16 := rd_lt ..
      obtain ⟨h0, h2, h4, h8, h11, h12⟩ := hb ▸ rd_fixedBytes
      simp only [Nat.mod_eq_of_lt, hcode, hA, hsec, hcyc, hB] at h0 h2 h4 h8 h12
      refine ⟨h4, h8, fun _ => ⟨hb ▸ fixedBytes_length, ?_, h0, h2, h11, h12, hb ▸ rd_fixedBytes_crc⟩, nofun⟩
      rw [h0, bit_fifteen_of_lt hcode]
    | false =>
      have hb : b = variableBytes o.code _ _ _ _ _ := occBytes_of_variable h lost
      have hlen : b.length = 16 + (occBody o).length := hb ▸ variableBytes_length
      obtain ⟨h0, h2, h4, h8, h11, h12⟩ := hb ▸ rd_variableBytes hbody
      have hcode' : o.code < 2 ^ 16 := by omega
      have hflags := occFlags_lt o lost
      simp only [Nat.mod_eq_of_lt, hcode', hsec, hcyc, hflags] at h2 h4 h8 h11
      obtain ⟨f0, f1, f2, f3⟩ := h11 ▸ bit_occFlags o lost
      refine ⟨h4, h8, nofun, fun _ => ⟨hlen, bit_fifteen_of_le ?_ ?_, h0, ?_, h2, f0, f1, f2, f3, h12,
        hb ▸ recordBody_variableBytes, hb ▸ rd_variableBytes_crc⟩⟩ <;> omega
  · intro o r x hx hw hf hv c
    have hc := repeatCount_lt_of_not_full (repeatFull_of_repeatOf hx)
    exact ⟨bumpRepeat_length hf hv, bumpRepeat_take hf hv, bumpRepeat_drop hf hv, repeatCount_bumpRepeat hf hv hc, hc,
      fun h => rd_bumpRepeat_crc h (hf h), judgeOcc_repeats hx hw⟩

end Sys2Proof.Machine
end

section
/-! PROOF. What every row keeps: the queue of waiting commands, the OTP, and the form of the mailbox; one lemma for each operation
of the model, in the order of the model's files. A reset, a lifecycle token and the confirmation of a trial move the OTP forward and
have lemmas of their own. -/
namespace Sys2Proof.Machine
set_option Elab.async false

/-! ### The relation and the shared operations -/

/-- The part of the security group that OTP and the anti-rollback counter hold (R288, R290, R300). -/
structure Otp where
  secret : Bytes
  serial : Bytes
  mgtMac : Nat
  certificate : Bytes
  lifecycle : Lifecycle
  otpLifecycle : Lifecycle
  rootHash : Bytes
  antiRollback : Nat

/-- The OTP and the counter of a security group. -/
def Sec.otp (c : Sec) : Otp :=
  ⟨c.secret, c.serial, c.mgtMac, c.certificate, c.lifecycle, c.otpLifecycle, c.rootHash, c.antiRollback⟩

/-- The queue of waiting commands and the OTP are as before, and the mailbox keeps its form. -/
def Keeps (a s : State) : Prop :=
  s.pending = a.pending ∧ s.sec.otp = a.sec.otp ∧ (MailboxInv a → MailboxInv s)

theorem Keeps.refl (s : State) : Keeps s s := ⟨rfl, rfl, id⟩

theorem Keeps.trans {a b c : State} (h : Keeps a b) (k : Keeps b c) : Keeps a c := by
  obtain ⟨hp, ho, hm⟩ := h
  obtain ⟨kp, ko, km⟩ := k
  exact ⟨kp.trans hp, ko.trans ho, km ∘ hm⟩

/-- A row starts by clearing what left the device in the row before. -/
theorem Keeps.start {s : State} : Keeps s (Machine.start s) := ⟨rfl, rfl, id⟩

/-- What changes the link alone and keeps the mailbox's form keeps everything. -/
theorem Keeps.of_link {s t : State} (h : LinkOnly s t) (k : MboxKept s t) : Keeps s t := by
  refine ⟨?_, ?_, k.inv⟩ <;> rw [h]

section
variable {a s t : State}

theorem Keeps.with (h : Keeps a s) (hp : t.pending = s.pending := by exact rfl) (ho : t.sec.otp = s.sec.otp := by exact rfl)
    (hm : t.mbox = s.mbox := by exact rfl) : Keeps a t := h.trans ⟨hp, ho, fun k => k.of_mbox hm⟩

theorem Keeps.ite {c : Prop} [Decidable c] (hs : Keeps a s) (ht : Keeps a t) : Keeps a (if c then s else t) := by
  split
  · exact hs
  · exact ht

theorem Keeps.reply_ite {c : Prop} [Decidable c] {x y : Reply} (hx : Keeps a x.st) (hy : Keeps a y.st) :
    Keeps a (if c then x else y).st := by
  split
  · exact hx
  · exact hy

theorem Keeps.snd_ite {α : Type} {c : Prop} [Decidable c] {x y : α × State} (hx : Keeps a x.2) (hy : Keeps a y.2) :
    Keeps a (if c then x else y).2 := by
  split
  · exact hx
  · exact hy

theorem Keeps.foldl {α : Type} {g : State → α → State} (hg : ∀ t x, Keeps a t → Keeps a (g t x)) (l : List α) (h : Keeps a s) :
    Keeps a (l.foldl g s) := by
  induction l generalizing s with
  | nil => exact h
  | cons x l ih => exact ih (hg s x h)

theorem Keeps.snd_foldl {α β : Type} {g : β × State → α → β × State} (hg : ∀ t x, Keeps a t.2 → Keeps a (g t x).2) (l : List α)
    {b : β × State} (h : Keeps a b.2) : Keeps a (l.foldl g b).2 := by
  induction l generalizing b with
  | nil => exact h
  | cons x l ih => exact ih (hg b x h)

/-- What comes of a packet, where it is done, keeps everything. -/
def FateKeeps (a : State) (x : Fate) : Prop := ∀ t, x = .ok t → Keeps a t

theorem FateKeeps.ok (h : Keeps a s) : FateKeeps a (.ok s) := fun _ e => Except.ok.inj e ▸ h

theorem FateKeeps.error {n : Nat} : FateKeeps a (.error n) := by simp [FateKeeps]

theorem FateKeeps.ite {c : Prop} [Decidable c] {x y : Fate} (hx : FateKeeps a x) (hy : FateKeeps a y) :
    FateKeeps a (if c then x else y) := by
  split
  · exact hx
  · exact hy

theorem judge_keeps {checks : List (Bool × Nat)} {k : Unit → Reply} (h : Keeps a s) (hk : Keeps a (k ()).st) :
    Keeps a (judge checks s k).st := by
  unfold judge
  split
  · exact h
  · exact hk

theorem replyHw_keeps {r : Retry} {data : Bytes} (h : Keeps a s) : Keeps a (replyHw r data s).st := by
  cases r <;> exact h

variable (h : Keeps a s)
include h

theorem start_keeps : Keeps a (start s) := h
theorem emit_keeps {o : Out} : Keeps a (emit o s) := h
theorem onPower_keeps {f : Power → Power} : Keeps a (onPower f s) := h
theorem onEvr_keeps {f : Recorder → Recorder} : Keeps a (onEvr f s) := h
theorem onClock_keeps {f : Clock → Clock} : Keeps a (onClock f s) := h
theorem onMem_keeps {f : Mem → Mem} : Keeps a (onMem f s) := h
theorem onSec_keeps {f : Sec → Sec} (ho : ∀ c, (f c).otp = c.otp := by intro _; rfl) : Keeps a (onSec f s) := h.trans ⟨rfl, ho _, id⟩
theorem onMbox_keeps {f : Mbox → Mbox} (hm : ∀ m, (f m).mem = m.mem := by intro _; rfl)
    (hs : ∀ m, (f m).slots = m.slots := by intro _; rfl) : Keeps a (onMbox f s) :=
  h.trans ⟨rfl, rfl, fun k => k.of_parts (hm _) (congrArg _ (hs _))⟩

theorem Keeps.ite_emit {c : Prop} [Decidable c] {o : Out} : Keeps a (if c then s else emit o s) := .ite h (emit_keeps h)

theorem msix_keeps {v : Nat} : Keeps a (msix v s) := by
  unfold msix
  exact .ite h.with (.ite (emit_keeps h) h)

theorem setDoorbell_keeps {b : Nat} : Keeps a (setDoorbell b s) := h.trans (.of_link (setDoorbell_link ..) (setDoorbell_kept ..))
theorem setFault_keeps {c : Nat} {p : Bytes} : Keeps a (setFault c p s) := h.trans (.of_link (setFault_link ..) (setFault_kept ..))

theorem record_keeps {c : Nat} {p : Bytes} {x y z : Bool} {e : List (Nat × Bytes)} : Keeps a (record c p x y z e s) :=
  h.trans (.of_link (record_link ..) (record_kept ..))
theorem reportLostPcie_keeps : Keeps a (reportLostPcie s) := h.trans (.of_link (reportLostPcie_link ..) (reportLostPcie_kept ..))
theorem deliver_keeps {e : Event} : Keeps a (deliver e s) := h.trans (.of_link (deliver_link ..) (deliver_kept ..))
theorem raiseWith_keeps {c : Nat} {p : Bytes} {x y : Bool} {e : List (Nat × Bytes)} : Keeps a (raiseWith c p x y e s) :=
  h.trans (.of_link (raiseWith_link ..) (raiseWith_kept ..))
theorem raise_keeps {c : Nat} {p : Bytes} : Keeps a (raise c p s) := raiseWith_keeps h
theorem raiseLimited_keeps {c o : Nat} {p : Bytes} : Keeps a (raiseLimited c o p s) :=
  h.trans (.of_link (raiseLimited_link ..) (raiseLimited_kept ..))
theorem transientFault_keeps {c : Nat} {p : Bytes} : Keeps a (transientFault c p s) :=
  h.trans (.of_link (transientFault_link ..) (transientFault_kept ..))
theorem lastingRecord_keeps {c : Nat} {p : Bytes} {f : Bool} : Keeps a (lastingRecord c p f s) :=
  h.trans (.of_link (lastingRecord_link ..) (lastingRecord_kept ..))
theorem lastingFault_keeps {c : Nat} {p : Bytes} {f : Bool} : Keeps a (lastingFault c p f s) :=
  h.trans (.of_link (lastingFault_link ..) (lastingFault_kept ..))
theorem retryRecord_keeps {r : Retry} {c : Nat} {p : Bytes} {f : Bool} : Keeps a (retryRecord r c p f s) :=
  h.trans (.of_link (retryRecord_link ..) (retryRecord_kept ..))
theorem commandFault_keeps {r : Retry} {n k c : Nat} {p : Bytes} {f : Bool} : Keeps a (commandFault r n k c p f s) :=
  h.trans (.of_link (commandFault_link ..) (commandFault_kept ..))
theorem dmaFault_keeps {r : Retry} {n k : Nat} : Keeps a (dmaFault r n k s) := commandFault_keeps h
theorem endAsync_keeps {c : AsyncCmd} {st : Nat} {p : Bytes} : Keeps a (endAsync c st p s) :=
  record_keeps (deliver_keeps (onMbox_keeps h))
theorem noteDma_keeps {c : Nat} {u : Ump} : Keeps a (noteDma c u s) := h.trans (.of_link (noteDma_link ..) (noteDma_kept ..))

theorem post_keeps {v : Via} {c t st : Nat} {d : Bytes} : Keeps a (post v c t st d s) := by
  have hl := post_link v c t st d s
  refine h.trans ⟨?_, ?_, post_inv v c t st d⟩ <;> rw [hl]

theorem drain_keeps {l : List Msg} : Keeps a (drain l s) := by
  induction l generalizing s with
  | nil => exact onMbox_keeps h
  | cons m r ih =>
    unfold drain
    exact .ite (ih (post_keeps h)) (onMbox_keeps h)

theorem writeSlot_keeps {n : Nat} {m : Msg} : Keeps a (writeSlot n m s) := h.trans ⟨rfl, rfl, writeSlot_inv⟩

theorem joinQueue_keeps {m : Msg} : Keeps a (joinQueue m s) := by
  refine h.trans ?_
  unfold joinQueue
  split
  · exact ⟨rfl, rfl, fun hm => hm.of_parts rfl (List.length_set ..)⟩
  · exact .refl s

theorem feltWrite_keeps {r : Retry} {addr : Nat} : Keeps a (feltWrite r addr s) := by
  unfold feltWrite
  refine .ite (onMem_keeps h) ?_
  split
  · exact h
  · exact transientFault_keeps (onMem_keeps h)
  · exact lastingFault_keeps (onMem_keeps h)

end

theorem replyFelt_keeps {a s t : State} {r : Retry} {addr : Nat} {data : Bytes} (hs : Keeps a s) (ht : Keeps a t) :
    Keeps a (replyFelt r addr data s t).st := by
  unfold replyFelt
  split
  · exact feltWrite_keeps hs
  · exact replyHw_keeps (feltWrite_keeps ht)

section
variable {s₀ s : State}

/-! ### Ops -/

theorem writeEvent_keeps {e : Event} (h : Keeps s₀ s) : Keeps s₀ (writeEvent e s) :=
  h.trans (.of_link (writeEvent_link ..) (writeEvent_kept ..))

theorem setAsync_keeps {a b} (h : Keeps s₀ s) : Keeps s₀ (setAsync a b s) := onMbox_keeps h
theorem passPoint_keeps {code sel} (h : Keeps s₀ s) : Keeps s₀ (passPoint code sel s) := onMbox_keeps h

/-! ### Operands -/

theorem accept_keeps {u code locks} (h : Keeps s₀ s) : Keeps s₀ (accept u code locks s) := onMbox_keeps h

/-- A handler keeps everything in every command and state. -/
def HandlerKeeps (f : Ump → State → Reply) : Prop := ∀ u {s₀ s}, Keeps s₀ s → Keeps s₀ (f u s).st

/-- A relation on states that what every row keeps can stand before and behind. -/
structure Absorbs (R : State → State → Prop) : Prop where
  before : ∀ {a b c}, Keeps a b → R b c → R a c
  behind : ∀ {a b c}, R a b → Keeps b c → R a c

theorem Keeps.absorbs : Absorbs Keeps := ⟨.trans, .trans⟩

/-- A command is in a relation with its start that its handler, or what follows its response, is in with theirs. -/
theorem answer_related {R : State → State → Prop} (hR : Absorbs R) (hk : ∀ {a b}, Keeps a b → R a b) {code : Nat}
    {f : Ump → State → Reply} {after : State → State} {u : Ump}
    (hf : (∀ s, R s (f u s).st) ∧ (∀ s, Keeps s (after s)) ∨ HandlerKeeps f ∧ ∀ s, R s (after s)) :
    R s (answer code f after u s) := by
  unfold answer
  split
  · split
    · exact hk (post_keeps (noteDma_keeps (.refl s)))
    · exact hk (post_keeps (.refl s))
  · have hn : Keeps s (noteDma code u s) := noteDma_keeps (.refl s)
    dsimp only
    generalize (if ((f u (noteDma code u s)).status = ST.ok && bit u.flags 1 && decide (u.env.dma = Retry.retried)) = true then
      ST.okRetried else (f u (noteDma code u s)).status) = st
    split
    · split
      · rcases hf with ⟨hf, ha⟩ | ⟨hf, ha⟩
        · exact hR.behind (hR.behind (hR.before hn (hf _)) (post_keeps (.refl _))) (ha _)
        · exact hR.before (post_keeps (hf u hn)) (ha _)
      · rcases hf with ⟨hf, -⟩ | ⟨hf, -⟩
        · exact hR.behind (hR.before hn (hf _)) (post_keeps (.refl _))
        · exact hk (post_keeps (hf u hn))
    · rcases hf with ⟨hf, -⟩ | ⟨hf, -⟩
      · exact hR.before hn (hf _)
      · exact hk (hf u hn)

theorem serveThen_related {R : State → State → Prop} (hR : Absorbs R) (hk : ∀ {a b}, Keeps a b → R a b) {code : Nat}
    {f : Ump → State → Reply} {after : State → State} {u : Ump}
    (hf : (∀ s, R s (f u s).st) ∧ (∀ s, Keeps s (after s)) ∨ HandlerKeeps f ∧ ∀ s, R s (after s)) :
    R s (serveThen code f after u s) := by
  have hs : Keeps s (start s) := start_keeps (.refl s)
  have hj {m t} : Keeps s t → R s (joinQueue m t) := fun h => hk (joinQueue_keeps h)
  have hrun {q t} (h : Keeps s t) :
      R s (drain (answer code f after u (onMbox (fun b => { b with cmdQueue := q }) t)).mbox.cmdQueue
        (answer code f after u (onMbox (fun b => { b with cmdQueue := q }) t))) :=
    hR.behind (hR.before (onMbox_keeps h) (answer_related hR hk hf)) (drain_keeps (.refl _))
  unfold serveThen
  dsimp only
  cases u.via with
  | pcie n =>
    dsimp only
    split
    · exact hk hs
    · split
      · split
        · exact hk hs
        · split
          · exact hrun (writeSlot_keeps hs)
          · exact hj (writeSlot_keeps hs)
      · split
        · split
          · exact hrun hs
          · exact hk hs
        · split
          · exact hk hs
          · exact hj (writeSlot_keeps hs)
  | mgt mac =>
    dsimp only
    split
    · exact hk hs
    · split
      · split
        · exact hk (emit_keeps hs)
        · exact hrun hs
      · split
        · exact hrun hs
        · split
          · exact hk (emit_keeps hs)
          · split
            · exact hk hs
            · exact hj hs
  | uart =>
    dsimp only
    split
    · exact hk hs
    · split
      · exact hrun hs
      · split
        · exact hrun hs
        · exact hj hs

theorem serveThen_keeps {code f after u} (hf : HandlerKeeps f) (ha : ∀ s, Keeps s (after s)) (h : Keeps s₀ s) :
    Keeps s₀ (serveThen code f after u s) := h.trans (serveThen_related Keeps.absorbs id (.inr ⟨hf, ha⟩))

theorem serve_keeps {code f u} (hf : HandlerKeeps f) (h : Keeps s₀ s) : Keeps s₀ (serve code f u s) := serveThen_keeps hf .refl h
theorem cfgKeepIf_keeps {same code payload} (h : Keeps s₀ s) : Keeps s₀ (cfgKeepIf same code payload s) := onMem_keeps h
theorem cfgKeep_keeps {code o n payload} (h : Keeps s₀ s) : Keeps s₀ (cfgKeep code o n payload s) := cfgKeepIf_keeps h
theorem cfgDrop_keeps {gone} (h : Keeps s₀ s) : Keeps s₀ (cfgDrop gone s) := onMem_keeps h

theorem cfgDelete_keeps {same code payload} (h : Keeps s₀ s) : Keeps s₀ (cfgDelete same code payload s) :=
  .ite (cfgDrop_keeps h) (onMem_keeps h)

/-! ### HostLink -/

theorem onRing_keeps {r f} (h : Keeps s₀ s) : Keeps s₀ (onRing r f s) := h.with
theorem hostDoorbell_keeps {value} (h : Keeps s₀ s) : Keeps s₀ (hostDoorbell value s) := .ite h (drain_keeps (joinQueue_keeps h))

theorem execHostDoorbellWrite_keeps {value} : Reaches (.hostDoorbellWrite value) s (Keeps s) :=
  ⟨_, rfl, hostDoorbell_keeps .start⟩

theorem devDoorbellClear_keeps {v : Word32} (h : Keeps s₀ s) : Keeps s₀ (devDoorbellClear v s) := by
  unfold devDoorbellClear
  exact .ite h (h.trans ⟨rfl, rfl, fun m => m.of_parts rfl (List.length_mapIdx ..)⟩)

theorem execDevDoorbellClear_keeps {value} : Reaches (.devDoorbellClear value) s (Keeps s) :=
  ⟨_, rfl, devDoorbellClear_keeps .start⟩

theorem irqMaskWrite_keeps {value} (h : Keeps s₀ s) : Keeps s₀ (irqMaskWrite value s) :=
  .ite h (.ite (onMbox_keeps h) (msix_keeps (onMbox_keeps h)))

theorem execIrqMaskWrite_keeps {value} : Reaches (.irqMaskWrite value) s (Keeps s) := ⟨_, rfl, irqMaskWrite_keeps .start⟩

theorem evtConsWrite_keeps {value} (h : Keeps s₀ s) : Keeps s₀ (evtConsWrite value s) :=
  .ite h (reportLostPcie_keeps (onMbox_keeps h))

theorem execEvtConsWrite_keeps {value} : Reaches (.evtConsWrite value) s (Keeps s) := ⟨_, rfl, evtConsWrite_keeps .start⟩

theorem eventDelivery_keeps {sink} (h : Keeps s₀ s) : Keeps s₀ (eventDelivery sink s) := by
  unfold eventDelivery
  exact .ite (by
    split
    · exact .ite h (emit_keeps (onMbox_keeps (.ite h (record_keeps (emit_keeps (onMbox_keeps h))))))
    · exact h)
    (by
      dsimp only
      split
      · exact .ite (reportLostPcie_keeps h) (writeEvent_keeps (onMbox_keeps (reportLostPcie_keeps h)))
      · exact reportLostPcie_keeps h)

theorem execEventDelivery_keeps {sink} : Reaches (.eventDelivery sink) s (Keeps s) := ⟨_, rfl, eventDelivery_keeps .start⟩

theorem umpFrame_keeps {mac version fleetId index bytes} (h : Keeps s₀ s) : Keeps s₀ (umpFrame mac version fleetId index
    bytes s) := by
  unfold umpFrame
  exact .ite h (.ite h.with (by
    split
    · exact emit_keeps h
    · exact .ite h (drain_keeps (joinQueue_keeps h))))

theorem execUmpFrameReceive_keeps {mac version fleetId index message} : Reaches (.umpFrameReceive mac version fleetId
    index message) s (Keeps s) :=
  ⟨_, rfl, umpFrame_keeps .start⟩

theorem execUartFrameReceive_keeps {message} : Reaches (.uartFrameReceive message) s (Keeps s) :=
  ⟨_, rfl, .ite (drain_keeps (joinQueue_keeps .start)) .start⟩

theorem ringStop_keeps {r cause index} (h : Keeps s₀ s) : Keeps s₀ (ringStop r cause index s) := raise_keeps (onRing_keeps h)

theorem ringProdWrite_keeps {r value} (h : Keeps s₀ s) : Keeps s₀ (ringProdWrite r value s) :=
  .ite h (.ite (ringStop_keeps (onRing_keeps h)) (onRing_keeps h))

theorem execRingProdWrite_keeps {ring value} : Reaches (.ringProdWrite ring value) s (Keeps s) :=
  ⟨_, rfl, ringProdWrite_keeps .start⟩

theorem ringSignal_keeps {r} (h : Keeps s₀ s) : Keeps s₀ (ringSignal r s) := .ite (msix_keeps (onRing_keeps h)) (onRing_keeps h)

theorem flushHold_keeps {l : List Bytes} (h : Keeps s₀ s) : Keeps s₀ (flushHold l s) := by
  induction l generalizing s with
  | nil => exact h.with
  | cons e r ih =>
    unfold flushHold
    exact .ite h.with (ih (ringSignal_keeps h.with))

theorem ringConsWrite_keeps {r value} (h : Keeps s₀ s) : Keeps s₀ (ringConsWrite r value s) :=
  .ite h (.ite (ringStop_keeps (onRing_keeps h)) (flushHold_keeps (onRing_keeps h)))

theorem execRingConsWrite_keeps {ring value} : Reaches (.ringConsWrite ring value) s (Keeps s) :=
  ⟨_, rfl, ringConsWrite_keeps .start⟩

theorem ringEnable_keeps {r value} (h : Keeps s₀ s) : Keeps s₀ (ringEnable r value s) := by
  unfold ringEnable
  exact .ite h (.ite (onRing_keeps h) (.ite (ringStop_keeps (onRing_keeps h)) (.ite (ringStop_keeps (onRing_keeps (onRing_keeps
    h))) (flushHold_keeps (onRing_keeps (onRing_keeps h))))))

theorem execRingEnable_keeps {ring value} : Reaches (.ringEnable ring value) s (Keeps s) := ⟨_, rfl, ringEnable_keeps .start⟩
theorem ringDisable_keeps {r value} (h : Keeps s₀ s) : Keeps s₀ (ringDisable r value s) := .ite h (onRing_keeps h)

theorem execRingDisable_keeps {ring value} : Reaches (.ringDisable ring value) s (Keeps s) :=
  ⟨_, rfl, ringDisable_keeps .start⟩

theorem ringDropsRead_keeps {r} (h : Keeps s₀ s) : Keeps s₀ (ringDropsRead r s) := .ite h (onRing_keeps (emit_keeps h))
theorem execRingDropsRead_keeps {ring} : Reaches (.ringDropsRead ring) s (Keeps s) := ⟨_, rfl, ringDropsRead_keeps .start⟩
theorem ringCoalesce_keeps {r} (h : Keeps s₀ s) : Keeps s₀ (ringCoalesce r s) := .ite h (msix_keeps (onRing_keeps h))

theorem execRingCoalesceTimeout_keeps {ring} : Reaches (.ringCoalesceTimeout ring) s (Keeps s) :=
  ⟨_, rfl, ringCoalesce_keeps .start⟩

theorem execPciD3hotEntry_keeps : Reaches .pciD3hotEntry s (Keeps s) := ⟨_, rfl, .ite Keeps.start.with .start⟩
theorem pciD0Return_keeps (h : Keeps s₀ s) : Keeps s₀ (pciD0Return s) := .ite h (.foldl (fun _ _ h => msix_keeps h) _ h.with)
theorem execPciD0Return_keeps : Reaches .pciD0Return s (Keeps s) := ⟨_, rfl, pciD0Return_keeps .start⟩
theorem execPerstNAssert_keeps : Reaches .perstNAssert s (Keeps s) := ⟨_, rfl, Keeps.start.with⟩
theorem execPerstNRelease_keeps : Reaches .perstNRelease s (Keeps s) := ⟨_, rfl, Keeps.start.with⟩
theorem execPcieLinkUp_keeps : Reaches .pcieLinkUp s (Keeps s) := ⟨_, rfl, .ite (onPower_keeps Keeps.start.with) .start⟩

/-! ### Recorder -/

theorem execEvrRecordWrite_keeps : Reaches .evrRecordWrite s (Keeps s) := ⟨_, rfl, .ite (onEvr_keeps .start) .start⟩

theorem execEvrRateWindowClose_keeps {code} : Reaches (.evrRateWindowClose code) s (Keeps s) :=
  ⟨_, rfl, .ite (onEvr_keeps .start) .start⟩

theorem execEvrCursorWrite_keeps {value} : Reaches (.evrCursorWrite value) s (Keeps s) :=
  ⟨_, rfl, .ite (onEvr_keeps .start) .start⟩

theorem windowRead_keeps (h : Keeps s₀ s) : Keeps s₀ (windowRead s) := .ite h (.ite (onEvr_keeps (emit_keeps h)) (emit_keeps h))
theorem execEvrWindowAutoAdvance_keeps : Reaches .evrWindowAutoAdvance s (Keeps s) := ⟨_, rfl, windowRead_keeps .start⟩

theorem execEvrStatRead_keeps : Reaches .evrStatRead s (Keeps s) :=
  ⟨_, rfl, .ite .start (emit_keeps (.ite (onEvr_keeps .start) .start))⟩

theorem evrGetInfo_keeps {u0} (h : Keeps s₀ s) : Keeps s₀ (evrGetInfo u0 s).st := h

theorem execEvrGetInfo_keeps {m} : Reaches (.evrGetInfo m) s (Keeps s) :=
  ⟨_, rfl, serve_keeps (fun _ _ _ h => evrGetInfo_keeps h) (.refl _)⟩

theorem dmaReply_keeps {u code addr bytes data} (h : Keeps s₀ s) : Keeps s₀ (dmaReply u code addr bytes data s).st := by
  unfold dmaReply
  split
  · exact dmaFault_keeps h
  · exact emit_keeps (dmaFault_keeps h)
  · exact emit_keeps h

theorem evrRead_keeps {u} (h : Keeps s₀ s) : Keeps s₀ (evrRead u s).st := judge_keeps h (.reply_ite h (dmaReply_keeps h))

theorem execEvrRead_keeps {m} : Reaches (.evrRead m) s (Keeps s) :=
  ⟨_, rfl, serve_keeps (fun _ _ _ h => evrRead_keeps h) (.refl _)⟩

/-! ### Memory -/

theorem onChannel_keeps {c f} (h : Keeps s₀ s) : Keeps s₀ (onChannel c f s) := onMem_keeps h

theorem execDramDriftDetect_keeps {chan temp} : Reaches (.dramDriftDetect chan temp) s (Keeps s) :=
  ⟨_, rfl, .ite (onChannel_keeps .start) .start⟩

theorem retrainStep_keeps {chan ok} (h : Keeps s₀ s) : Keeps s₀ (retrainStep chan ok s) := by
  unfold retrainStep
  exact .ite h (.ite (.ite (raise_keeps (onMem_keeps (onChannel_keeps (onChannel_keeps (.ite (transientFault_keeps h) h)))))
    (onChannel_keeps (.ite (transientFault_keeps h) h))) (.ite (lastingFault_keeps (onChannel_keeps h)) (onChannel_keeps h)))

theorem execDramRetrainStep_keeps {chan ok} : Reaches (.dramRetrainStep chan ok) s (Keeps s) :=
  ⟨_, rfl, retrainStep_keeps .start⟩

theorem execDramRefresh_keeps {chan bank} : Reaches (.dramRefresh chan bank) s (Keeps s) :=
  ⟨_, rfl, .ite (onChannel_keeps .start) .start⟩

theorem retirePage_keeps {page cause inPool} (h : Keeps s₀ s) : Keeps s₀ (retirePage page cause inPool s) :=
  .ite h (.ite (raise_keeps h) (raise_keeps (.ite h.with (onMem_keeps h))))

theorem eccCorrected_keeps {addr} (h : Keeps s₀ s) : Keeps s₀ (eccCorrected addr s) := raiseLimited_keeps (onMem_keeps h)
theorem setBank_keeps {n b} (h : Keeps s₀ s) : Keeps s₀ (setBank n b s) := onMem_keeps h

theorem scrubCorrected_keeps {e} (h : Keeps s₀ s) : Keeps s₀ (scrubCorrected s e) :=
  .ite (retirePage_keeps (eccCorrected_keeps h)) (eccCorrected_keeps h)

theorem scrubBad_keeps {e} (h : Keeps s₀ s) : Keeps s₀ (scrubBad s e) := retirePage_keeps (lastingFault_keeps (onMem_keeps h))

theorem execPatrolScrub_keeps {corrected bad complete} : Reaches (.patrolScrub corrected bad complete) s (Keeps s) :=
  ⟨_, rfl, .ite .start (.ite (onMem_keeps (.foldl (fun _ _ h => scrubBad_keeps h) _ (.foldl (fun _ _ h =>
    scrubCorrected_keeps h) _ .start))) (.foldl (fun _ _ h => scrubBad_keeps h) _ (.foldl (fun _ _ h => scrubCorrected_keeps
    h) _ .start)))⟩

theorem execMramWriteRetry_keeps {addr ok} : Reaches (.mramWriteRetry addr ok) s (Keeps s) := ⟨_, rfl, feltWrite_keeps .start⟩

theorem cfgCommit_keeps {u} (h : Keeps s₀ s) : Keeps s₀ (cfgCommit u s).st :=
  judge_keeps h (accept_keeps (.ite h (setBank_keeps h)))

theorem execCfgCommit_keeps {m} : Reaches (.cfgCommit m) s (Keeps s) :=
  ⟨_, rfl, serve_keeps (fun _ _ _ h => cfgCommit_keeps h) (.refl _)⟩

theorem cfgWritten_keeps {hw readBack} (h : Keeps s₀ s) : Keeps s₀ (cfgWritten hw readBack s) := by
  unfold cfgWritten
  split
  · exact h
  · exact .ite (.ite (endAsync_keeps (setAsync_keeps (feltWrite_keeps h))) (endAsync_keeps (onMem_keeps (setAsync_keeps (feltWrite_keeps h))))) (.ite (endAsync_keeps (setAsync_keeps (feltWrite_keeps h))) (raise_keeps (endAsync_keeps (onMem_keeps (setBank_keeps (setAsync_keeps (feltWrite_keeps h)))))))

theorem execCfgBankWritten_keeps {hw readBack} : Reaches (.cfgBankWritten hw readBack) s (Keeps s) :=
  ⟨_, rfl, cfgWritten_keeps .start⟩

theorem cfgRead_keeps {u} (h : Keeps s₀ s) : Keeps s₀ (cfgRead u s).st := judge_keeps h (.reply_ite h (dmaReply_keeps h))

theorem execCfgRead_keeps {m} : Reaches (.cfgRead m) s (Keeps s) :=
  ⟨_, rfl, serve_keeps (fun _ _ _ h => cfgRead_keeps h) (.refl _)⟩

theorem memGetInfo_keeps {u0} (h : Keeps s₀ s) : Keeps s₀ (memGetInfo u0 s).st := judge_keeps h h

theorem execMemGetInfo_keeps {m} : Reaches (.memGetInfo m) s (Keeps s) :=
  ⟨_, rfl, serve_keeps (fun _ _ _ h => memGetInfo_keeps h) (.refl _)⟩

theorem pwrSetPasr_keeps {u} (h : Keeps s₀ s) : Keeps s₀ (pwrSetPasr u s).st :=
  judge_keeps h (.reply_ite h (cfgKeep_keeps (onMem_keeps h)))

theorem execPwrSetPasr_keeps {m} : Reaches (.pwrSetPasr m) s (Keeps s) :=
  ⟨_, rfl, serve_keeps (fun _ _ _ h => pwrSetPasr_keeps h) (.refl _)⟩

theorem onCvu_keeps {n f} (h : Keeps s₀ s) : Keeps s₀ (onCvu n f s) := onMem_keeps h

theorem cvuCtl_keeps {n value} (h : Keeps s₀ s) : Keeps s₀ (cvuCtl n value s) := by
  unfold cvuCtl
  exact .ite (.ite (raise_keeps (onCvu_keeps (.ite (onCvu_keeps (onCvu_keeps h)) (onCvu_keeps h)))) (onCvu_keeps (.ite
    (onCvu_keeps (onCvu_keeps h)) (onCvu_keeps h)))) (.ite (onCvu_keeps (onCvu_keeps h)) (onCvu_keeps h))

theorem execCvuInit_keeps {unit value} : Reaches (.cvuInit unit value) s (Keeps s) :=
  ⟨_, rfl, .ite (cvuCtl_keeps .start) .start⟩

theorem cvuData_keeps {n data} (h : Keeps s₀ s) : Keeps s₀ (cvuData n data s) := .ite (onCvu_keeps h) h

theorem execCvuDataWrite_keeps {unit data} : Reaches (.cvuDataWrite unit data) s (Keeps s) :=
  ⟨_, rfl, .ite (cvuData_keeps .start) .start⟩

theorem execCvuFinish_keeps {unit value} : Reaches (.cvuFinish unit value) s (Keeps s) :=
  ⟨_, rfl, .ite (cvuCtl_keeps .start) .start⟩

theorem cvuRun_keeps {u} (h : Keeps s₀ s) : Keeps s₀ (cvuRun u s).st :=
  judge_keeps h (.ite (raise_keeps (onCvu_keeps h)) (onCvu_keeps h))

theorem execCvuRun_keeps {m} : Reaches (.cvuRun m) s (Keeps s) :=
  ⟨_, rfl, serve_keeps (fun _ _ _ h => cvuRun_keeps h) (.refl _)⟩

theorem evrSetPolicy_keeps {u} (h : Keeps s₀ s) : Keeps s₀ (evrSetPolicy u s).st :=
  judge_keeps h (.reply_ite h (cfgKeep_keeps (onEvr_keeps h)))

theorem execEvrSetPolicy_keeps {m} : Reaches (.evrSetPolicy m) s (Keeps s) :=
  ⟨_, rfl, serve_keeps (fun _ _ _ h => evrSetPolicy_keeps h) (.refl _)⟩

theorem writeBar0_keeps {o v} (h : Keeps s₀ s) : Keeps s₀ (writeBar0 o v s) := by
  unfold writeBar0
  split
  · exact hostDoorbell_keeps h
  · exact devDoorbellClear_keeps h
  · exact irqMaskWrite_keeps h
  · exact onMbox_keeps h
  · exact .ite (onMbox_keeps h) h
  · exact evtConsWrite_keeps h
  · exact onEvr_keeps h
  · exact onEvr_keeps h
  · exact h

theorem writeSlots_keeps {o width : Nat} {v : Word32} (h : Keeps s₀ s) : Keeps s₀ (writeSlots o width v s) := by
  unfold writeSlots
  exact .ite (h.trans ⟨rfl, rfl, fun m => ⟨Cells.writeAll_wf m.1 _ _, m.2⟩⟩) h

theorem writeBar2_keeps {o v} (h : Keeps s₀ s) : Keeps s₀ (writeBar2 o v s) := by
  unfold writeBar2
  exact .ite h (by
    split
    · exact .ite h (onRing_keeps h)
    · exact .ite h (onRing_keeps h)
    · exact .ite h (onRing_keeps h)
    · exact .ite (ringEnable_keeps h) (ringDisable_keeps h)
    · exact ringProdWrite_keeps h
    · exact ringConsWrite_keeps h
    · exact .ite (onRing_keeps h) h
    · exact h)

theorem writeCvu_keeps {n o width v} (h : Keeps s₀ s) : Keeps s₀ (writeCvu n o width v s) := by
  unfold writeCvu
  split
  · exact cvuCtl_keeps h
  · exact onCvu_keeps h
  · exact cvuData_keeps h
  · exact onCvu_keeps h
  · exact .ite (onCvu_keeps h) h
  · exact h

/-! ### Reset -/

/-- What a reset makes of the OTP: the lifecycle programmed takes force (R290). -/
def Otp.renewed (o : Otp) : Otp := { o with lifecycle := o.otpLifecycle }

/-- As `Keeps`, but for a reset: the lifecycle programmed may have taken force. -/
def Renews (a s : State) : Prop :=
  s.pending = a.pending ∧ (s.sec.otp = a.sec.otp ∨ s.sec.otp = a.sec.otp.renewed) ∧ (MailboxInv a → MailboxInv s)

theorem Keeps.renews {a s : State} (h : Keeps a s) : Renews a s := by
  obtain ⟨hp, ho, hm⟩ := h
  exact ⟨hp, .inl ho, hm⟩

theorem Renews.trans {a b c : State} (h : Renews a b) (k : Renews b c) : Renews a c := by
  obtain ⟨hp, ho, hm⟩ := h
  obtain ⟨kp, ko, km⟩ := k
  refine ⟨kp.trans hp, ?_, km ∘ hm⟩
  rcases ho with ho | ho <;> rcases ko with ko | ko <;> rw [ho] at ko
  · exact .inl ko
  · exact .inr ko
  · exact .inr ko
  · exact .inr ko

theorem Renews.keeps {a s t : State} (h : Renews a s) (k : Keeps s t) : Renews a t := h.trans k.renews

theorem Renews.absorbs : Absorbs Renews := ⟨fun h k => h.renews.trans k, .keeps⟩

theorem Renews.ite {a s t : State} {c : Prop} [Decidable c] (hs : Renews a s) (ht : Renews a t) : Renews a (if c then s else t) := by
  split
  · exact hs
  · exact ht

/-- The mailbox at reset has its form. -/
theorem Mbox.reset_inv {s : State} (h : s.mbox = Mbox.reset) : MailboxInv s := by
  unfold MailboxInv
  rw [h]
  exact ⟨rfl, rfl⟩

theorem clearCore_renews {aonKept : Bool} (h : Renews s₀ s) : Renews s₀ (clearCore aonKept s) :=
  h.trans ⟨rfl, .inr rfl, fun _ => Mbox.reset_inv rfl⟩

theorem recordNow_keeps {code payload} (h : Keeps s₀ s) : Keeps s₀ (recordNow code payload s) := onEvr_keeps h

theorem report_keeps {code payload recorded fault} (h : Keeps s₀ s) : Keeps s₀ (report code payload recorded fault s) :=
  onPower_keeps h

theorem bootHalt_keeps {code a b} (h : Keeps s₀ s) : Keeps s₀ (bootHalt code a b s) := onPower_keeps (recordNow_keeps h)

theorem rejectSlot_keeps {n cause} (h : Keeps s₀ s) : Keeps s₀ (rejectSlot n cause s) :=
  report_keeps (recordNow_keeps (onPower_keeps h))

theorem acceptSlot_keeps {n} (h : Keeps s₀ s) : Keeps s₀ (acceptSlot n s) := onPower_keeps h
theorem fellBack_keeps {cause} (h : Keeps s₀ s) : Keeps s₀ (fellBack cause s) := onPower_keeps h
theorem bootControl_keeps (h : Keeps s₀ s) : Keeps s₀ (bootControl s) := .ite (fellBack_keeps h.with) (.ite h.with h)

theorem bootNor_keeps {link : Bool} (h : Keeps s₀ s) : Keeps s₀ (bootNor link s) := by
  have hb : Keeps s₀ (bootControl s) := bootControl_keeps h
  unfold bootNor
  dsimp only
  generalize imageCause _ _ = ca
  have hr : Keeps s₀ (rejectSlot (bootControl s).fwu.active ca (bootControl s)) := rejectSlot_keeps hb
  generalize rejectSlot _ _ _ = t at hr ⊢
  exact .ite (acceptSlot_keeps hb) (.ite (fellBack_keeps (acceptSlot_keeps (hr.with (t := { t with fwu := _ }))))
    (onPower_keeps (recordNow_keeps (rejectSlot_keeps (hr.with (t := { t with fwu := _ }))))))

theorem trainAll_keeps {l : List (Nat × Retry)} (h : Keeps s₀ s) : Keeps s₀ (trainAll l s).2 := by
  induction l generalizing s with
  | nil => exact h
  | cons x l ih =>
    unfold trainAll
    split
    · exact ih h
    · exact ih (recordNow_keeps (onMbox_keeps h))
    · exact h

theorem bootSource_keeps {b} (h : Keeps s₀ s) : Keeps s₀ (bootSource b s) := by
  unfold bootSource
  dsimp only
  split
  · exact bootNor_keeps h.with
  · exact onPower_keeps (recordNow_keeps h.with)
  · exact onPower_keeps h.with

theorem enterLimp_renews {cause : Nat} (h : Renews s₀ s) : Renews s₀ (enterLimp cause s) := by
  unfold enterLimp
  exact (clearCore_renews h).keeps (onPower_keeps (.refl _))

theorem boot_renews {cause : Nat} {b : Boot} (h : Renews s₀ s) : Renews s₀ (boot cause b s) := by
  have hm {t} (ht : Keeps s t) : Keeps s (match t.power.mpxHalt with
      | some (core, why) => recordNow 0x0005 (leBytes 1 core ++ leBytes 1 why ++ leBytes 6 0) (onPower (fun p => { p with mpxHalt := none }) t)
      | none => t) := by
    split
    · exact recordNow_keeps (onPower_keeps ht)
    · exact ht
  have hb {t} (ht : Keeps s t) : Keeps s (if cause = 1 then
      recordNow 0x0104 (leBytes 4 (inc 32 t.mem.brownouts)) (onMem (fun m => { m with brownouts := inc 32 t.mem.brownouts }) t)
      else t) := .ite (recordNow_keeps (onMem_keeps ht)) ht
  have hs := hb (hm (onPower_keeps (f := fun p => { p with bootCause := cause }) (.refl s)))
  unfold boot
  dsimp only at hs ⊢
  generalize (if cause = 1 then _ else _ : State) = t at hs ⊢
  refine .ite (enterLimp_renews (h.keeps hs)) ?_
  split
  · exact h.keeps (bootHalt_keeps hs)
  · split
    · exact h.keeps (bootHalt_keeps hs)
    · have ht := trainAll_keeps (l := b.training) hs
      split <;> rename_i he <;> rw [he] at ht
      · exact h.keeps (bootHalt_keeps ht)
      · exact h.keeps (bootSource_keeps (onMem_keeps ht))

theorem powerUp_keeps {quiet} (h : Keeps s₀ s) : Keeps s₀ (powerUp quiet s) := onPower_keeps h.with

theorem release_renews {cause : Nat} {b : Boot} (h : Renews s₀ s) : Renews s₀ (release cause b s) := by
  unfold release
  exact .ite (h.keeps (onPower_keeps (.refl s))) (boot_renews (h.keeps (powerUp_keeps (onPower_keeps (.refl s)))))

theorem powerOnReset_renews {cause : Nat} {b : Boot} (h : Renews s₀ s) : Renews s₀ (powerOnReset cause b s) := by
  unfold powerOnReset
  exact release_renews ((clearCore_renews h).keeps (onMem_keeps (Keeps.refl _).with))

theorem fullReset_renews {b : Boot} (h : Renews s₀ s) : Renews s₀ (fullReset b s) := by
  unfold fullReset
  exact release_renews ((clearCore_renews h).keeps (Keeps.refl _).with)

theorem deviceReset_renews {b : Boot} (h : Renews s₀ s) : Renews s₀ (deviceReset b s) := by
  unfold deviceReset
  exact boot_renews ((clearCore_renews h).keeps (powerUp_keeps (Keeps.refl _).with))

theorem execPowerOnReset_renews {b : Boot} : Reaches (.powerOnReset b) s (Renews s) := ⟨_, rfl, powerOnReset_renews (Keeps.refl s).renews⟩

theorem execVinAonLoss_renews : Reaches .vinAonLoss s (Renews s) :=
  ⟨_, rfl, (clearCore_renews (s := start s) (Keeps.refl s).renews).keeps (Keeps.refl _).with⟩

theorem start_renews {s : State} : Renews s (start s) := Keeps.start.renews

theorem execAonBrownout_renews {b : Boot} : Reaches (.aonBrownout b) s (Renews s) :=
  ⟨_, rfl, .ite (powerOnReset_renews start_renews) start_renews⟩

theorem execResetCtlDeviceReset_renews {v : Word32} {b : Boot} : Reaches (.resetCtlDeviceReset v b) s (Renews s) :=
  ⟨_, rfl, .ite (deviceReset_renews start_renews) start_renews⟩

theorem execResetCtlFullReset_renews {v : Word32} {b : Boot} : Reaches (.resetCtlFullReset v b) s (Renews s) :=
  ⟨_, rfl, .ite (fullReset_renews start_renews) start_renews⟩

theorem resetCtl_renews {v : Word32} {b : Boot} (h : Renews s₀ s) : Renews s₀ (resetCtl v b s) := by
  unfold resetCtl
  split
  · exact deviceReset_renews h
  · exact fullReset_renews h
  · exact h

theorem registerWrite_renews {space : RegSpace} {o width : Nat} {v : Word32} {b : Boot} (h : Renews s₀ s) :
    Renews s₀ (registerWrite space o width v b s) := by
  have hr := Keeps.refl s
  unfold registerWrite
  split
  · refine .ite h (.ite (resetCtl_renews h) (h.keeps ?_))
    exact .ite (.ite (writeBar0_keeps hr) hr) (writeSlots_keeps hr)
  · exact h.keeps (.ite (writeBar2_keeps hr) hr)
  · exact h.keeps (.ite (writeCvu_keeps hr) hr)

theorem execRegisterWrite_renews {space : RegSpace} {o width : Nat} {v : Word32} {b : Boot} :
    Reaches (.registerWrite space o width v b) s (Renews s) := ⟨_, rfl, registerWrite_renews start_renews⟩

theorem execFunctionLevelReset_renews {b : Boot} : Reaches (.functionLevelReset b) s (Renews s) :=
  ⟨_, rfl, .ite (deviceReset_renews start_renews) start_renews⟩

theorem execFwuTrialReset_renews {b : Boot} : Reaches (.fwuTrialReset b) s (Renews s) :=
  ⟨_, rfl, .ite (fullReset_renews start_renews) start_renews⟩

theorem execLifecycleReset_renews {b : Boot} : Reaches (.lifecycleReset b) s (Renews s) :=
  ⟨_, rfl, .ite (fullReset_renews start_renews) start_renews⟩

theorem execTest0Hold_renews {cause : Nat} : Reaches (.test0Hold cause) s (Renews s) :=
  ⟨_, rfl, .ite (fullReset_renews start_renews) (.ite (powerOnReset_renews start_renews) start_renews)⟩

theorem execMpxRelease_keeps : Reaches .mpxRelease s (Keeps s) := ⟨_, rfl, .ite (onPower_keeps .start) .start⟩

theorem trigger_keeps {src port index same} (h : Keeps s₀ s) : Keeps s₀ (trigger src port index same s) :=
  .ite h (.ite (onPower_keeps h) (.ite (onPower_keeps h) h))

theorem execHostWakeNWake_keeps {same} : Reaches (.hostWakeNWake same) s (Keeps s) := ⟨_, rfl, trigger_keeps .start⟩

theorem execGpioWake_keeps {gpio high same} : Reaches (.gpioWake gpio high same) s (Keeps s) :=
  ⟨_, rfl, .ite (trigger_keeps .start) .start⟩

theorem execAonTimerWake_keeps {aon same} : Reaches (.aonTimerWake aon same) s (Keeps s) :=
  ⟨_, rfl, .ite (trigger_keeps .start) .start⟩

theorem matchXoff_keeps (h : Keeps s₀ s) : Keeps s₀ (matchXoff s) :=
  .foldl (fun _ _ h => by
    split
    · exact h
    · exact .ite h (.ite h.with (emit_keeps h.with))) _ h

theorem frameTrigger_keeps {src port index same} (h : Keeps s₀ s) : Keeps s₀ (frameTrigger src port index same s) :=
  .ite (matchXoff_keeps (trigger_keeps h)) (trigger_keeps h)

theorem execWakePatternMatch_keeps {port frame same} : Reaches (.wakePatternMatch port frame same) s (Keeps s) :=
  ⟨_, rfl, by
    dsimp only
    split
    · exact .start
    · split
      · exact frameTrigger_keeps .start
      · exact .start⟩

theorem execMagicPacketMatch_keeps {port frame same} : Reaches (.magicPacketMatch port frame same) s (Keeps s) :=
  ⟨_, rfl, by
    dsimp only
    split
    · exact .ite (frameTrigger_keeps .start) .start
    · exact .start⟩

theorem execDrizzleWakeFrame_keeps {f same} : Reaches (.drizzleWakeFrame f same) s (Keeps s) :=
  ⟨_, rfl, .ite (trigger_keeps .start) .start⟩

theorem execMgtHostWakeFrame_keeps {index same} : Reaches (.mgtHostWakeFrame index same) s (Keeps s) :=
  ⟨_, rfl, .ite (frameTrigger_keeps .start) .start⟩

theorem wakeFail_keeps {step lasting outcome} (h : Keeps s₀ s) : Keeps s₀ (wakeFail step lasting outcome s) := by
  unfold wakeFail
  exact .ite (onPower_keeps (onMbox_keeps (report_keeps (recordNow_keeps h)))) (onPower_keeps (onMbox_keeps (report_keeps
    (recordNow_keeps h))))

theorem coldBoot_renews {b : Boot} (h : Renews s₀ s) : Renews s₀ (coldBoot b s) := by
  have hc : Renews s₀ (clearCore true s) := clearCore_renews h
  have hm {t : State} (ho : t.sec = (clearCore true s).sec) (hp : t.pending = (clearCore true s).pending)
      (hx : t.mbox.mem = [] ∧ t.mbox.slots = List.replicate 16 .free) : Renews s₀ t := by
    refine hc.trans ⟨hp, .inl (by rw [ho]), fun _ => ?_⟩
    unfold MailboxInv
    rw [hx.1, hx.2]
    exact ⟨rfl, rfl⟩
  unfold coldBoot
  refine boot_renews (Renews.keeps (hm ?_ ?_ ?_) (powerUp_keeps (Keeps.refl _)))
  · rfl
  · rfl
  · exact ⟨rfl, rfl⟩

theorem logicReady_renews {b : Boot} (h : Renews s₀ s) : Renews s₀ (logicReady b s) := by
  unfold logicReady
  exact .ite (coldBoot_renews h) (h.keeps (onPower_keeps (.refl s)))

theorem wakeReady_renews {b : Boot} (h : Renews s₀ s) : Renews s₀ (wakeReady b s) := by
  have hf : Renews s₀ (if s.power.wakeFailed then wakeFail s.power.wakeStep 0 0 s else s) :=
    .ite (h.keeps (wakeFail_keeps (.refl s))) h
  unfold wakeReady
  exact .ite h (.ite (hf.keeps (onPower_keeps (.refl _))) (logicReady_renews hf))

theorem execWakeStepReady_renews {b : Boot} : Reaches (.wakeStepReady b) s (Renews s) := ⟨_, rfl, wakeReady_renews start_renews⟩

theorem wakeLasting_renews {b : Boot} (h : Renews s₀ s) : Renews s₀ (wakeLasting b s) := by
  have hf {k l o} : Renews s₀ (wakeFail k l o s) := h.keeps (wakeFail_keeps (.refl s))
  unfold wakeLasting
  split
  · exact hf.keeps (onPower_keeps (.refl _))
  · exact enterLimp_renews hf
  · exact enterLimp_renews hf
  · exact hf.keeps (onPower_keeps (onMem_keeps (report_keeps (.refl _))))
  · exact (fullReset_renews hf).keeps (onPower_keeps (onMbox_keeps (.refl _)))

theorem wakeTimeout_renews {b : Boot} (h : Renews s₀ s) : Renews s₀ (wakeTimeout b s) := by
  unfold wakeTimeout
  exact .ite h (.ite (wakeLasting_renews h) (h.keeps (onPower_keeps (.refl s))))

theorem execWakeStepTimeout_renews {b : Boot} : Reaches (.wakeStepTimeout b) s (Renews s) := ⟨_, rfl, wakeTimeout_renews start_renews⟩

theorem execWakeRetryDelayExpiry_keeps : Reaches .wakeRetryDelayExpiry s (Keeps s) :=
  ⟨_, rfl, .ite (onPower_keeps .start) .start⟩

theorem restoreTime_keeps {count} (h : Keeps s₀ s) : Keeps s₀ (restoreTime count s) := onClock_keeps h

theorem raiseReports_keeps (h : Keeps s₀ s) : Keeps s₀ (raiseReports s) := by
  unfold raiseReports
  exact .foldl (fun _ _ h => .ite (setFault_keeps (.ite (deliver_keeps h) (raise_keeps h))) (.ite (deliver_keeps h) (raise_keeps
    h))) _ (onPower_keeps h)

theorem execLimpFirmwareReady_keeps {aon} : Reaches (.limpFirmwareReady aon) s (Keeps s) :=
  ⟨_, rfl, .ite .start (drain_keeps (raiseReports_keeps (raise_keeps (.ite (restoreTime_keeps (onPower_keeps .start))
    (onClock_keeps (onPower_keeps .start))))))⟩

theorem offBlock_keeps {domain addr src write} (h : Keeps s₀ s) : Keeps s₀ (offBlock domain addr src write s) := by
  unfold offBlock
  exact .ite h (.ite (.ite (onPower_keeps (onMbox_keeps h)) (emit_keeps (onPower_keeps (onMbox_keeps h)))) (onMbox_keeps
    (raiseLimited_keeps (.ite (onPower_keeps (onMbox_keeps h)) (emit_keeps (onPower_keeps (onMbox_keeps h)))))))

theorem execAccessOffBlock_keeps {domain addr src write} : Reaches (.accessOffBlock domain addr src write) s (Keeps s) :=
  ⟨_, rfl, offBlock_keeps .start⟩

theorem execXt32Loss_keeps : Reaches .xt32Loss s (Keeps s) := ⟨_, rfl, .ite (onPower_keeps .start) .start⟩
theorem execXt32Started_keeps : Reaches .xt32Started s (Keeps s) := ⟨_, rfl, .ite (onPower_keeps .start) .start⟩
theorem execXt32StartTimeout_keeps : Reaches .xt32StartTimeout s (Keeps s) := ⟨_, rfl, .ite (onPower_keeps .start) .start⟩

theorem execAvsPmbusStep_keeps {target ack} : Reaches (.avsPmbusStep target ack) s (Keeps s) :=
  ⟨_, rfl, .ite (onPower_keeps .start) .start⟩

theorem execHeartbeatTick_keeps : Reaches .heartbeatTick s (Keeps s) := ⟨_, rfl, .ite (onMbox_keeps .start) .start⟩

/-! ### Queue -/

theorem onQme_keeps {f} (h : Keeps s₀ s) : Keeps s₀ (onQme f s) := h.with
theorem onQueue_keeps {q f} (h : Keeps s₀ s) : Keeps s₀ (onQueue q f s) := onQme_keeps h
theorem onPort_keeps {p f} (h : Keeps s₀ s) : Keeps s₀ (onPort p f s) := h.with
theorem onGates_keeps {p f} (h : Keeps s₀ s) : Keeps s₀ (onGates p f s) := onQme_keeps h

theorem settleClosed_keeps {q} (h : Keeps s₀ s) : Keeps s₀ (settleClosed q s) := by
  unfold settleClosed
  dsimp only
  split
  · exact .ite (onQueue_keeps h) h
  · exact onQueue_keeps h

theorem settlePort_keeps {p} (h : Keeps s₀ s) : Keeps s₀ (settlePort p s) := .foldl (fun _ _ h => settleClosed_keeps h) _ h
theorem poolLow_keeps (h : Keeps s₀ s) : Keeps s₀ (poolLow s) := .ite (raiseLimited_keeps h) h

theorem countEnterDrop_keeps {q test} (h : Keeps s₀ s) : Keeps s₀ (countEnterDrop q test s) := by
  unfold countEnterDrop
  split
  · exact onQueue_keeps h
  · exact onQueue_keeps h
  · exact poolLow_keeps (onQueue_keeps (onQme_keeps h))

theorem enterCells_keeps {q cells dram} (h : Keeps s₀ s) : Keeps s₀ (enterCells q cells dram s) :=
  .ite (poolLow_keeps (onQme_keeps (onQueue_keeps h))) (onQueue_keeps h)

theorem leaveCells_keeps {q cells} (h : Keeps s₀ s) : Keeps s₀ (leaveCells q cells s) := onQueue_keeps h
theorem freeCells_keeps {sram cells} (h : Keeps s₀ s) : Keeps s₀ (freeCells sram cells s) := .ite h.with (onQme_keeps h)
theorem settleShapers_keeps (h : Keeps s₀ s) : Keeps s₀ (settleShapers s) := onQme_keeps h

theorem charge_keeps {t amount} (h : Keeps s₀ s) : Keeps s₀ (charge t amount s) := by
  unfold charge
  split
  · exact h
  · exact onQme_keeps h

theorem shaperRefill_keeps {n} (h : Keeps s₀ s) : Keeps s₀ (shaperRefill n s) := by
  unfold shaperRefill
  split
  · exact h
  · exact settleShapers_keeps (onQme_keeps h)

theorem execShaperRefill_keeps {shaper} : Reaches (.shaperRefill shaper) s (Keeps s) := ⟨_, rfl, shaperRefill_keeps .start⟩
theorem shaperReply_keeps {u} (h : Keeps s₀ s) : Keeps s₀ (shaperReply u s).st := h
theorem onShaper_keeps {n f} (h : Keeps s₀ s) : Keeps s₀ (onShaper n f s) := onQme_keeps h

theorem queSetShaper_keeps {u} (h : Keeps s₀ s) : Keeps s₀ (queSetShaper u s).st := by
  unfold queSetShaper
  exact judge_keeps h (by
    split
    · exact judge_keeps h (shaperReply_keeps h)
    · exact judge_keeps h (shaperReply_keeps (cfgKeepIf_keeps (by
        split
        · exact onQme_keeps h
        · exact onShaper_keeps h)))
    · exact judge_keeps h (shaperReply_keeps (cfgDrop_keeps (onQme_keeps h)))
    · exact judge_keeps h (shaperReply_keeps (.ite (cfgDrop_keeps (onShaper_keeps h)) (.ite (onShaper_keeps h) (cfgKeepIf_keeps (onShaper_keeps h))))))

theorem execQueSetShaper_keeps {m} : Reaches (.queSetShaper m) s (Keeps s) :=
  ⟨_, rfl, serve_keeps (fun _ _ _ h => queSetShaper_keeps h) (.refl _)⟩

theorem detachObject_keeps {t} (h : Keeps s₀ s) : Keeps s₀ (detachObject t s) := cfgDrop_keeps (onQme_keeps h)
theorem onPolicer_keeps {n f} (h : Keeps s₀ s) : Keeps s₀ (onPolicer n f s) := onQme_keeps h
theorem execPolicerRefill_keeps {policer} : Reaches (.policerRefill policer) s (Keeps s) := ⟨_, rfl, onPolicer_keeps .start⟩

theorem police_keeps {n size input} (h : Keeps s₀ s) : Keeps s₀ (police n size input s).2 := by
  unfold police
  split
  · exact h
  · exact onQme_keeps h

theorem policerReply_keeps {u} (h : Keeps s₀ s) : Keeps s₀ (policerReply u s).st := h

theorem queSetPolicer_keeps {u} (h : Keeps s₀ s) : Keeps s₀ (queSetPolicer u s).st := by
  unfold queSetPolicer
  exact judge_keeps h (by
    split
    · exact judge_keeps h (policerReply_keeps h)
    · exact judge_keeps h (policerReply_keeps (cfgKeepIf_keeps (by
        split
        · exact onQme_keeps h
        · exact onPolicer_keeps h)))
    · exact judge_keeps h (policerReply_keeps (cfgDrop_keeps (onQme_keeps h)))
    · exact judge_keeps h (policerReply_keeps (.ite (onPolicer_keeps h) (cfgKeepIf_keeps (onPolicer_keeps h))))
    · exact judge_keeps h (policerReply_keeps (cfgDrop_keeps (onPolicer_keeps h))))

theorem execQueSetPolicer_keeps {m} : Reaches (.queSetPolicer m) s (Keeps s) :=
  ⟨_, rfl, serve_keeps (fun _ _ _ h => queSetPolicer_keeps h) (.refl _)⟩

theorem detachSource_keeps {h} (k : Keeps s₀ s) : Keeps s₀ (detachSource h s) := onQme_keeps k

theorem gatePosition_keeps {p} (h : Keeps s₀ s) : Keeps s₀ (gatePosition p s) := by
  unfold gatePosition
  split
  · exact h
  · exact settlePort_keeps (onGates_keeps (settlePort_keeps h))

theorem gclSwitch_keeps {p late} (h : Keeps s₀ s) : Keeps s₀ (gclSwitch p late s) := by
  unfold gclSwitch
  split
  · exact h
  · exact raise_keeps (settlePort_keeps (onGates_keeps (settlePort_keeps (by
      split
      · exact .ite (onQueue_keeps h) h
      · exact h))))

theorem execGclBaseTime_keeps {port} : Reaches (.gclBaseTime port) s (Keeps s) := ⟨_, rfl, gclSwitch_keeps .start⟩

theorem gclAdvance_keeps {p} (h : Keeps s₀ s) : Keeps s₀ (gclAdvance p s) := by
  unfold gclAdvance
  split
  · exact h
  · exact settlePort_keeps (onGates_keeps (settlePort_keeps h))

theorem execGclEntryAdvance_keeps {port} : Reaches (.gclEntryAdvance port) s (Keeps s) := ⟨_, rfl, gclAdvance_keeps .start⟩

theorem gatesFollow_keeps (h : Keeps s₀ s) : Keeps s₀ (gatesFollow s) :=
  .foldl (fun _ _ h => by
    split
    · exact .ite (gclSwitch_keeps h) (gatePosition_keeps h)
    · exact gatePosition_keeps h) _ h

theorem queSetGcl_keeps {u} (h : Keeps s₀ s) : Keeps s₀ (queSetGcl u s).st := by
  unfold queSetGcl
  exact judge_keeps h (by
    split
    · exact judge_keeps h (cfgKeep_keeps (onGates_keeps h))
    · exact judge_keeps h (cfgDrop_keeps (onGates_keeps h))
    · exact judge_keeps h (dmaReply_keeps h))

theorem execQueSetGcl_keeps {m} : Reaches (.queSetGcl m) s (Keeps s) :=
  ⟨_, rfl, serve_keeps (fun _ _ _ h => queSetGcl_keeps h) (.refl _)⟩

theorem samplerTick_keeps {q} (h : Keeps s₀ s) : Keeps s₀ (samplerTick q s) :=
  .ite h (.ite (raiseLimited_keeps (onQme_keeps h)) (onQme_keeps h))

theorem execSamplerTick_keeps {queue} : Reaches (.samplerTick queue) s (Keeps s) := ⟨_, rfl, samplerTick_keeps .start⟩
theorem samplerReply_keeps {op} (h : Keeps s₀ s) : Keeps s₀ (samplerReply op s).st := h

theorem queSetSampler_keeps {u} (h : Keeps s₀ s) : Keeps s₀ (queSetSampler u s).st := by
  unfold queSetSampler
  exact judge_keeps h (by
    split
    · exact judge_keeps h (samplerReply_keeps h)
    · exact judge_keeps h (samplerReply_keeps (cfgKeepIf_keeps (onQme_keeps h)))
    · exact judge_keeps h (samplerReply_keeps (.ite (onQme_keeps h) (cfgKeepIf_keeps (onQme_keeps h))))
    · exact judge_keeps h (samplerReply_keeps (cfgDrop_keeps (onQme_keeps h))))

theorem execQueSetSampler_keeps {m} : Reaches (.queSetSampler m) s (Keeps s) :=
  ⟨_, rfl, serve_keeps (fun _ _ _ h => queSetSampler_keeps h) (.refl _)⟩

theorem queReadSamples_keeps {u} (h : Keeps s₀ s) : Keeps s₀ (queReadSamples u s).st :=
  judge_keeps h (.reply_ite (onQme_keeps h) (by
    split
    · exact dmaReply_keeps h
    · exact dmaReply_keeps (onQme_keeps h)))

theorem execQueReadSamples_keeps {m} : Reaches (.queReadSamples m) s (Keeps s) :=
  ⟨_, rfl, serve_keeps (fun _ _ _ h => queReadSamples_keeps h) (.refl _)⟩

theorem queMap_keeps {u} (h : Keeps s₀ s) : Keeps s₀ (queMap u s).st := by
  unfold queMap
  exact judge_keeps h (.reply_ite (judge_keeps h h) (by
    split
    · exact judge_keeps h (cfgKeep_keeps (onQme_keeps h))
    · exact judge_keeps h (cfgKeep_keeps (onQme_keeps h))
    · exact judge_keeps h (cfgKeep_keeps (onQme_keeps h))
    · exact judge_keeps h (.ite (onQueue_keeps h) (cfgKeepIf_keeps (onQueue_keeps h)))
    · exact judge_keeps h (cfgKeep_keeps (onQme_keeps h))))

theorem execQueMap_keeps {m} : Reaches (.queMap m) s (Keeps s) :=
  ⟨_, rfl, serve_keeps (fun _ _ _ h => queMap_keeps h) (.refl _)⟩

/-! ### TimeUnit -/

theorem idle_keeps (h : Keeps s₀ s) : Keeps s₀ (idle s) := .ite (onClock_keeps (start_keeps h)) (start_keeps h)
theorem execTimeNsWrap_keeps : Reaches .timeNsWrap s (Keeps s) := ⟨_, rfl, .ite .start (onClock_keeps .start)⟩
theorem moveTime_keeps {d} (h : Keeps s₀ s) : Keeps s₀ (moveTime d s) := onClock_keeps h
theorem execSlewDone_keeps : Reaches .slewDone s (Keeps s) := ⟨_, rfl, .ite .start (onClock_keeps (moveTime_keeps .start))⟩
theorem startTsf_keeps {n} (h : Keeps s₀ s) : Keeps s₀ (startTsf n s) := onClock_keeps h

theorem stepTime_keeps {jump cause} (h : Keeps s₀ s) : Keeps s₀ (stepTime jump cause s) :=
  gatesFollow_keeps (raise_keeps (onClock_keeps (moveTime_keeps h)))

theorem refuseJump_keeps {jump cause} (h : Keeps s₀ s) : Keeps s₀ (refuseJump jump cause s) := raise_keeps (onClock_keeps h)
theorem enterHoldover_keeps {cause} (h : Keeps s₀ s) : Keeps s₀ (enterHoldover cause s) := raise_keeps (onClock_keeps h)
theorem leaveHoldover_keeps (h : Keeps s₀ s) : Keeps s₀ (leaveHoldover s) := raise_keeps (onClock_keeps h)
theorem gmEvent_keeps {id accepted} (h : Keeps s₀ s) : Keeps s₀ (gmEvent id accepted s) := raise_keeps (onClock_keeps h)

theorem acceptGm_keeps (h : Keeps s₀ s) : Keeps s₀ (acceptGm s) := by
  unfold acceptGm
  split
  · exact gmEvent_keeps h
  · exact h

theorem measure_keeps {off freq cause} (h : Keeps s₀ s) : Keeps s₀ (measure off freq cause s) := by
  unfold measure
  exact .ite (.ite (onClock_keeps (refuseJump_keeps (by
    split
    · exact gmEvent_keeps (onClock_keeps h)
    · exact onClock_keeps h)))
    (enterHoldover_keeps (onClock_keeps (refuseJump_keeps (by
      split
      · exact gmEvent_keeps (onClock_keeps h)
      · exact onClock_keeps h))))) (.ite (.ite (leaveHoldover_keeps (onClock_keeps (stepTime_keeps (acceptGm_keeps (onClock_keeps h)))))
    (onClock_keeps (stepTime_keeps (acceptGm_keeps (onClock_keeps h))))) (onClock_keeps (.ite (leaveHoldover_keeps
    (acceptGm_keeps (onClock_keeps h))) (acceptGm_keeps (onClock_keeps h)))))

theorem servoMeasurement_keeps {off freq} (h : Keeps s₀ s) : Keeps s₀ (servoMeasurement off freq s) :=
  .ite h (.ite (measure_keeps (onClock_keeps h)) (onClock_keeps h))

theorem execServoMeasurement_keeps {offset freq} : Reaches (.servoMeasurement offset freq) s (Keeps s) :=
  ⟨_, rfl, servoMeasurement_keeps .start⟩

theorem execAnnounceTimeout_keeps : Reaches .announceTimeout s (Keeps s) := ⟨_, rfl, .ite (enterHoldover_keeps .start) .start⟩

theorem execPpsInLoss_keeps : Reaches .ppsInLoss s (Keeps s) :=
  ⟨_, rfl, .ite .start (.ite (enterHoldover_keeps (onClock_keeps .start)) (onClock_keeps .start))⟩

theorem ppsCapture_keeps {freq} (h : Keeps s₀ s) : Keeps s₀ (ppsCapture freq s) :=
  .ite h (.ite (measure_keeps (onClock_keeps h)) (onClock_keeps h))

theorem execPpsInCapture_keeps {freq} : Reaches (.ppsInCapture freq) s (Keeps s) := ⟨_, rfl, ppsCapture_keeps .start⟩

theorem execPpsOutSecond_keeps : Reaches .ppsOutSecond s (Keeps s) :=
  ⟨_, rfl, .ite .start (onClock_keeps (emit_keeps .start))⟩

theorem execPpsOutWidthEnd_keeps : Reaches .ppsOutWidthEnd s (Keeps s) :=
  ⟨_, rfl, .ite (onClock_keeps (emit_keeps .start)) .start⟩

theorem ptpStamp_keeps (h : Keeps s₀ s) : Keeps s₀ (ptpStamp s) := onClock_keeps h

theorem execPtpMessageReceive_keeps {port event best} : Reaches (.ptpMessageReceive port event best) s (Keeps s) :=
  ⟨_, rfl, .ite .start (by
    dsimp only
    split
    · exact .ite (onClock_keeps (.ite (ptpStamp_keeps .start) .start)) (onClock_keeps (.ite (ptpStamp_keeps .start) .start))
    · exact .ite (ptpStamp_keeps .start) .start)⟩

theorem ptpEmit_keeps {port kind} (h : Keeps s₀ s) : Keeps s₀ (ptpEmit port kind s) :=
  .ite (emit_keeps (emit_keeps h)) (emit_keeps h)

theorem execPtpMessageSend_keeps {port kind} : Reaches (.ptpMessageSend port kind) s (Keeps s) :=
  ⟨_, rfl, .ite .start (.ite (ptpStamp_keeps (ptpEmit_keeps .start)) (ptpEmit_keeps .start))⟩

theorem timGet_keeps {u0} (h : Keeps s₀ s) : Keeps s₀ (timGet u0 s).st := judge_keeps h h

theorem execTimGet_keeps {m} : Reaches (.timGet m) s (Keeps s) :=
  ⟨_, rfl, serve_keeps (fun _ _ _ h => timGet_keeps h) (.refl _)⟩

theorem adjustReply_keeps {jump} (h : Keeps s₀ s) : Keeps s₀ (adjustReply jump s).st := h

theorem adjustJump_keeps {u jump after} (hafter : ∀ {t}, Keeps s₀ t → Keeps s₀ (after t)) (h : Keeps s₀ s) : Keeps s₀
    (adjustJump u jump after s).st := by
  unfold adjustJump
  split
  · exact refuseJump_keeps h
  · exact adjustReply_keeps (hafter (stepTime_keeps h))

theorem timAdjust_keeps {u} (h : Keeps s₀ s) : Keeps s₀ (timAdjust u s).st := by
  unfold timAdjust
  exact judge_keeps h (by
    split
    · exact adjustReply_keeps (onClock_keeps h)
    · exact adjustReply_keeps (onClock_keeps h)
    · exact adjustJump_keeps (fun h => h) h
    · exact .reply_ite (adjustJump_keeps (fun h => (onClock_keeps h)) h) (adjustJump_keeps (fun h => h) h)
    · exact adjustJump_keeps (fun h => (onClock_keeps h)) h)

theorem execTimAdjust_keeps {m} : Reaches (.timAdjust m) s (Keeps s) :=
  ⟨_, rfl, serve_keeps (fun _ _ _ h => timAdjust_keeps h) (.refl _)⟩

theorem timSetPtp_keeps {u} (h : Keeps s₀ s) : Keeps s₀ (timSetPtp u s).st :=
  judge_keeps h (.reply_ite h (cfgKeep_keeps (.ite (onClock_keeps h) (onClock_keeps (onClock_keeps h)))))

theorem execTimSetPtp_keeps {m} : Reaches (.timSetPtp m) s (Keeps s) :=
  ⟨_, rfl, serve_keeps (fun _ _ _ h => timSetPtp_keeps h) (.refl _)⟩

theorem timSetJumpLimit_keeps {u} (h : Keeps s₀ s) : Keeps s₀ (timSetJumpLimit u s).st :=
  judge_keeps h (.ite h (cfgKeep_keeps (onClock_keeps h)))

theorem execTimSetJumpLimit_keeps {m} : Reaches (.timSetJumpLimit m) s (Keeps s) :=
  ⟨_, rfl, serve_keeps (fun _ _ _ h => timSetJumpLimit_keeps h) (.refl _)⟩

/-! ### Pause -/

theorem onWire_keeps {f} (h : Keeps s₀ s) : Keeps s₀ (onWire f s) := h.with
theorem countPort_keeps {p i n} (h : Keeps s₀ s) : Keeps s₀ (countPort p i n s) := .ite h (onPort_keeps h)
theorem sendPause_keeps {p mask quanta} (h : Keeps s₀ s) : Keeps s₀ (sendPause p mask quanta s) := countPort_keeps (emit_keeps h)

theorem owePause_keeps {p mask quanta} (h : Keeps s₀ s) : Keeps s₀ (owePause p mask quanta s) :=
  .ite h (.ite (onPort_keeps h) (sendPause_keeps h))

theorem flushPause_keeps {p} (h : Keeps s₀ s) : Keeps s₀ (flushPause p s) :=
  .foldl (fun _ _ h => sendPause_keeps h) _ (onPort_keeps h)

theorem settlePriority_keeps {p k} (h : Keeps s₀ s) : Keeps s₀ (settlePriority p k s) :=
  .ite (owePause_keeps (onPort_keeps h)) (.ite (owePause_keeps (onPort_keeps h)) h)

theorem settleXoff_keeps (h : Keeps s₀ s) : Keeps s₀ (settleXoff s) :=
  .foldl (fun _ _ h => .foldl (fun _ _ h => settlePriority_keeps h) _ h) _ h

theorem pauseRefresh_keeps {p k} (h : Keeps s₀ s) : Keeps s₀ (pauseRefresh p k s) := .ite (owePause_keeps h) h

theorem execPauseRefresh_keeps {port priority} : Reaches (.pauseRefresh port priority) s (Keeps s) :=
  ⟨_, rfl, pauseRefresh_keeps .start⟩

theorem settleStopped_keeps {p} (h : Keeps s₀ s) : Keeps s₀ (settleStopped p s) :=
  onPort_keeps (by
    split
    · exact countPort_keeps h
    · exact h)

theorem setStopped_keeps {p paused mask} (h : Keeps s₀ s) : Keeps s₀ (setStopped p paused mask s) :=
  settleStopped_keeps (onPort_keeps (settleStopped_keeps h))

theorem pauseReceive_keeps {p quanta} (h : Keeps s₀ s) : Keeps s₀ (pauseReceive p quanta s) :=
  .ite h (.ite (setStopped_keeps (onPort_keeps (countPort_keeps h))) (onPort_keeps (countPort_keeps h)))

theorem execPauseFrameReceive_keeps {port quanta} : Reaches (.pauseFrameReceive port quanta) s (Keeps s) :=
  ⟨_, rfl, pauseReceive_keeps .start⟩

theorem pfcReceive_keeps {p enable quanta} (h : Keeps s₀ s) : Keeps s₀ (pfcReceive p enable quanta s) :=
  .ite h (.ite (setStopped_keeps (onPort_keeps (countPort_keeps h))) (onPort_keeps (countPort_keeps h)))

theorem execPfcFrameReceive_keeps {port enable quanta} : Reaches (.pfcFrameReceive port enable quanta) s (Keeps s) :=
  ⟨_, rfl, pfcReceive_keeps .start⟩

theorem pauseExpiry_keeps {p mask} (h : Keeps s₀ s) : Keeps s₀ (pauseExpiry p mask s) :=
  .ite (setStopped_keeps h) (setStopped_keeps h)

theorem execPauseTimeExpiry_keeps {port mask} : Reaches (.pauseTimeExpiry port mask) s (Keeps s) :=
  ⟨_, rfl, pauseExpiry_keeps .start⟩

theorem freeFrame_keeps {f} (h : Keeps s₀ s) : Keeps s₀ (freeFrame f s) :=
  .ite (settleXoff_keeps (.ite (onWire_keeps h) (onPort_keeps (onWire_keeps h)))) (onQme_keeps h)

theorem takeCells_keeps {p k n : Nat} {t : State} (h : Keeps s₀ s) (e : takeCells p k n s = some t) : Keeps s₀ t := by
  simp only [takeCells, Option.ite_none_left_eq_some] at e
  obtain ⟨-, e⟩ := e
  · rw [← Option.some.inj e]
    exact settleXoff_keeps (onPort_keeps (onWire_keeps h))

/-! ### Removal -/

theorem onAir_keeps {f} (h : Keeps s₀ s) : Keeps s₀ (onAir f s) := h.with
theorem onMls_keeps {f} (h : Keeps s₀ s) : Keeps s₀ (onMls f s) := h.with
theorem onDrz_keeps {f} (h : Keeps s₀ s) : Keeps s₀ (onDrz f s) := h.with
theorem onModem_keeps {f} (h : Keeps s₀ s) : Keeps s₀ (onModem f s) := h.with
theorem onStation_keeps {h f} (k : Keeps s₀ s) : Keeps s₀ (onStation h f s) := onAir_keeps k
theorem onBss_keeps {b f} (h : Keeps s₀ s) : Keeps s₀ (onBss b f s) := onAir_keeps h
theorem onSlice_keeps {n f} (h : Keeps s₀ s) : Keeps s₀ (onSlice n f s) := h.with
theorem onMac_keeps {n f} (h : Keeps s₀ s) : Keeps s₀ (onMac n f s) := onAir_keeps h
theorem queueMgmt_keeps {n f} (h : Keeps s₀ s) : Keeps s₀ (queueMgmt n f s) := onMac_keeps h

theorem coreTo_keeps {h frame b} (k : Keeps s₀ s) : Keeps s₀ (coreTo h frame b s) := by
  unfold coreTo
  split
  · exact k
  · split
    · exact queueMgmt_keeps k
    · exact k

theorem injectFate_keeps {e status stamp} (h : Keeps s₀ s) : Keeps s₀ (injectFate e status stamp s) := by
  unfold injectFate
  split
  · exact h
  · exact onRing_keeps h

theorem endMpdu_keeps {h m status stamp} (k : Keeps s₀ s) : Keeps s₀ (endMpdu h m status stamp s) :=
  injectFate_keeps (freeCells_keeps (leaveCells_keeps (onStation_keeps k)))

theorem dropMpdu_keeps {h status m} (k : Keeps s₀ s) : Keeps s₀ (dropMpdu h status s m) := onStation_keeps (endMpdu_keeps k)

theorem dropMpdus_keeps {h pick status} (k : Keeps s₀ s) : Keeps s₀ (dropMpdus h pick status s).2 := by
  unfold dropMpdus
  split
  · exact k
  · exact settleShapers_keeps (.foldl (fun _ _ h => dropMpdu_keeps h) _ k)

theorem lockedStation_keeps {h} (k : Keeps s₀ s) : Keeps s₀ (lockedStation h s) := by
  unfold lockedStation
  split
  · exact k
  · exact .ite (dropMpdus_keeps k) k

theorem endFrame_keeps {q f status} (h : Keeps s₀ s) : Keeps s₀ (endFrame q f status s) :=
  injectFate_keeps (freeFrame_keeps (leaveCells_keeps h))

theorem dropFrames_keeps {q status} (h : Keeps s₀ s) : Keeps s₀ (dropFrames q status s).2 :=
  settleShapers_keeps (.foldl (fun _ _ h => endFrame_keeps h) _ (onQueue_keeps h))

theorem drzEnd_keeps {f status} (h : Keeps s₀ s) : Keeps s₀ (drzEnd f status s) := by
  unfold drzEnd
  dsimp only
  split
  · exact h
  · exact endAsync_keeps h

theorem drzLeave_keeps {f} (h : Keeps s₀ s) : Keeps s₀ (drzLeave f s) := freeCells_keeps (leaveCells_keeps h)

theorem drzDrop_keeps {pick status} (h : Keeps s₀ s) : Keeps s₀ (drzDrop pick status s).2 :=
  .foldl (fun _ _ h => drzEnd_keeps (drzLeave_keeps h)) _ (onDrz_keeps h)

theorem eraseDrops_keeps {h} (k : Keeps s₀ s) : Keeps s₀ (eraseDrops h s).2 :=
  .snd_ite (dropMpdus_keeps k) (.snd_ite (.snd_ite (onBss_keeps (dropFrames_keeps k)) k) (.snd_ite (drzDrop_keeps k) k))

theorem eraseSlot_keeps {h} (k : Keeps s₀ s) : Keeps s₀ (eraseSlot h s) :=
  .ite (eraseDrops_keeps k.with) (raise_keeps (eraseDrops_keeps k.with))

theorem writeSlotKey_keeps {h key} (k : Keeps s₀ s) : Keeps s₀ (writeSlotKey h key s) := k.with
theorem eraseHeld_keeps {l} (h : Keeps s₀ s) : Keeps s₀ (eraseHeld l s) := .foldl (fun _ _ h => .ite (eraseSlot_keeps h) h) _ h
theorem freeSoft_keeps {peer} (h : Keeps s₀ s) : Keeps s₀ (freeSoft peer s) := onModem_keeps h

theorem cumulusDown_keeps {peer reason} (h : Keeps s₀ s) : Keeps s₀ (cumulusDown peer reason s) := by
  unfold cumulusDown
  split
  · exact h
  · exact .ite (raise_keeps (freeSoft_keeps (onModem_keeps h))) (freeSoft_keeps (onModem_keeps h))

theorem crownForget_keeps {h} (k : Keeps s₀ s) : Keeps s₀ (crownForget h s) := onMls_keeps k
theorem forwardForget_keeps {h} (k : Keeps s₀ s) : Keeps s₀ (forwardForget h s) := onWire_keeps k
theorem macForget_keeps {h} (k : Keeps s₀ s) : Keeps s₀ (macForget h s) := onAir_keeps k

theorem accounting_keeps {h kind} (k : Keeps s₀ s) : Keeps s₀ (accounting h kind s) := by
  unfold accounting
  split
  · exact k
  · exact .ite (by
      split
      · exact emit_keeps k
      · exact k) k

theorem tearDownTwts_keeps {h} (k : Keeps s₀ s) : Keeps s₀ (tearDownTwts h s) :=
  .foldl (fun _ _ h => raise_keeps h) _ (onStation_keeps k)

theorem removeStation_keeps {h cause reason : Nat} (k : Keeps s₀ s) : Keeps s₀ (removeStation h cause reason s) := by
  unfold removeStation
  refine .ite k (settleShapers_keeps (raise_keeps (onAir_keeps ?_)))
  refine onSec_keeps (f := fun c => { c with requests := c.requests.filter fun r => r.station != h }) (detachSource_keeps
    (detachObject_keeps (macForget_keeps (forwardForget_keeps (crownForget_keeps ?_)))))
  have hd {t} (ht : Keeps s₀ t) : Keeps s₀ (dropMpdus h (fun _ => true) 4 (eraseHeld [2 * h, 2 * h + 1] (tearDownTwts h t))).2 :=
    dropMpdus_keeps (eraseHeld_keeps (tearDownTwts_keeps ht))
  have ha := hd (.ite (c := ((station h s).any fun x => x.ptk != 0xFFFF) = true) (accounting_keeps (h := h) (kind := 2) k) k)
  exact .ite (onModem_keeps (cumulusDown_keeps ha)) ha

theorem answerAborts_keeps {code tag status} (h : Keeps s₀ s) : Keeps s₀ (answerAborts code tag status s) :=
  .foldl (fun _ _ h => post_keeps h) _ (onMbox_keeps h)

theorem endDisconnect_keeps {h status} (k : Keeps s₀ s) : Keeps s₀ (endDisconnect h status s) := by
  unfold endDisconnect
  split
  · exact k
  · exact endAsync_keeps (answerAborts_keeps k)

theorem dismissOne_keeps {h cause reason} (k : Keeps s₀ s) : Keeps s₀ (dismissOne h cause reason s) :=
  endDisconnect_keeps (removeStation_keeps k)

theorem linksChanged_keeps {h old new} (k : Keeps s₀ s) : Keeps s₀ (linksChanged h old new s) := raise_keeps k

theorem loseLink_keeps {n h} (k : Keeps s₀ s) : Keeps s₀ (loseLink n h s) := by
  unfold loseLink
  split
  · exact k
  · exact .ite (dismissOne_keeps k) (linksChanged_keeps (onStation_keeps k))

theorem finishDelete_keeps {b} (h : Keeps s₀ s) : Keeps s₀ (finishDelete b s) := by
  unfold finishDelete
  split
  · exact h
  · dsimp only
    split
    · exact endAsync_keeps (answerAborts_keeps (onAir_keeps (cfgDrop_keeps (onSec_keeps (onMls_keeps (detachObject_keeps (dropFrames_keeps (.foldl (fun _ _ h => loseLink_keeps h) _ (eraseHeld_keeps h)))))))))
    · exact onAir_keeps (cfgDrop_keeps (onSec_keeps (onMls_keeps (detachObject_keeps (dropFrames_keeps (.foldl (fun _ _ h => loseLink_keeps h) _ (eraseHeld_keeps h)))))))

theorem settleDeletes_keeps (h : Keeps s₀ s) : Keeps s₀ (settleDeletes s) :=
  .foldl (fun _ _ h => .ite h (finishDelete_keeps h)) _ h

theorem dismiss_keeps {h cause reason} (k : Keeps s₀ s) : Keeps s₀ (dismiss h cause reason s) :=
  settleDeletes_keeps (dismissOne_keeps k)

theorem deauth_keeps {h cause reason} (k : Keeps s₀ s) : Keeps s₀ (deauth h cause reason s) :=
  dismiss_keeps (by
    split
    · exact k
    · split
      · exact queueMgmt_keeps k
      · exact k)

theorem frameLost_keeps {obj} (h : Keeps s₀ s) : Keeps s₀ (frameLost obj s) := by
  unfold frameLost
  exact .ite (by
    split
    · exact dropMpdus_keeps h
    · exact h) (.ite (by
    split
    · exact drzDrop_keeps h
    · exact h) (.ite (onMls_keeps h) (by
    split
    · exact settleShapers_keeps (endFrame_keeps (onQueue_keeps h))
    · exact h)))

theorem eccReader_keeps {reader obj} (h : Keeps s₀ s) : Keeps s₀ (eccReader reader obj s) := by
  unfold eccReader
  split
  · exact frameLost_keeps (onMem_keeps h)
  · exact h.with
  · exact h.with
  · dsimp only
    split
    · exact endAsync_keeps (onMem_keeps h)
    · exact onMem_keeps h
  · exact raiseWith_keeps (setFault_keeps h)
  · exact h

theorem eccRetry_keeps {addr reader obj ok} (h : Keeps s₀ s) : Keeps s₀ (eccRetry addr reader obj ok s) :=
  .ite h (.ite (transientFault_keeps (onMem_keeps h)) (eccReader_keeps (retirePage_keeps (lastingFault_keeps (onMem_keeps h)))))

theorem execEccReadRetry_keeps {addr reader obj ok} : Reaches (.eccReadRetry addr reader obj ok) s (Keeps s) :=
  ⟨_, rfl, eccRetry_keeps .start⟩

/-! ### Security -/

theorem getIdentity_keeps {u} (h : Keeps s₀ s) : Keeps s₀ (getIdentity u s).st := judge_keeps h (by split <;> exact h)

theorem execSecGetIdentity_keeps {m} : Reaches (.secGetIdentity m) s (Keeps s) :=
  ⟨_, rfl, serve_keeps (fun _ _ _ h => getIdentity_keeps h) (.refl _)⟩

theorem keepSerial_keeps {b} (h : Keeps s₀ s) : Keeps s₀ (keepSerial b s) := onSec_keeps h
theorem loadSealed_keeps {u} (h : Keeps s₀ s) : Keeps s₀ (loadSealed u s).st := judge_keeps h (accept_keeps h)

theorem execSecLoadSealed_keeps {m} : Reaches (.secLoadSealed m) s (Keeps s) :=
  ⟨_, rfl, serve_keeps (fun _ _ _ h => loadSealed_keeps h) (.refl _)⟩

theorem endVault_keeps {a hw payload before effect} (hbefore : Keeps s₀ before) (heffect : Keeps s₀ effect) : Keeps s₀
    (endVault a hw payload before effect) := by
  unfold endVault
  split
  · exact endAsync_keeps (feltWrite_keeps hbefore)
  · exact endAsync_keeps (setAsync_keeps (feltWrite_keeps heffect))
  · exact endAsync_keeps heffect

theorem loadSealedDone_keeps {c : AsyncCmd} {opens : Bool} {body : Bytes} {hw : Retry} (h : Keeps s₀ s) :
    Keeps s₀ (loadSealedDone c opens body hw s) := by
  unfold loadSealedDone
  dsimp only
  split
  · refine .ite (endAsync_keeps h) ?_
    split
    · exact .ite (endAsync_keeps h) (endVault_keeps h (onSec_keeps (keepSerial_keeps h)))
    · split
      · exact endVault_keeps h (onSec_keeps (keepSerial_keeps h))
      · exact endAsync_keeps h
  · exact endVault_keeps h (onSec_keeps h)
  · exact endAsync_keeps h

theorem setRadius_keeps {u} (h : Keeps s₀ s) : Keeps s₀ (setRadius u s).st := judge_keeps h (accept_keeps h)

theorem execSecSetRadius_keeps {m} : Reaches (.secSetRadius m) s (Keeps s) :=
  ⟨_, rfl, serve_keeps (fun _ _ _ h => setRadius_keeps h) (.refl _)⟩

theorem setRadiusDone_keeps {a opens body hw} (h : Keeps s₀ s) : Keeps s₀ (setRadiusDone a opens body hw s) := by
  unfold setRadiusDone
  dsimp only
  split
  · exact .ite (endAsync_keeps h) (endVault_keeps h (onSec_keeps (keepSerial_keeps h)))
  · exact endVault_keeps h (onSec_keeps h)
  · exact endAsync_keeps h

theorem keyImport_keeps {u} (h : Keeps s₀ s) : Keeps s₀ (keyImport u s).st := judge_keeps h (accept_keeps h)

theorem execSecKeyImport_keeps {m} : Reaches (.secKeyImport m) s (Keeps s) :=
  ⟨_, rfl, serve_keeps (fun _ _ _ h => keyImport_keeps h) (.refl _)⟩

theorem newCounters_keeps {h} (k : Keeps s₀ s) : Keeps s₀ (newCounters h s) := onDrz_keeps k

theorem keyImportDone_keeps {a opens body hw} (h : Keeps s₀ s) : Keeps s₀ (keyImportDone a opens body hw s) := by
  unfold keyImportDone
  exact .ite (endAsync_keeps h) (endVault_keeps h (.ite (onSec_keeps (keepSerial_keeps h)) (onSec_keeps (writeSlotKey_keeps
    (newCounters_keeps (keepSerial_keeps h))))))

theorem startWrite_keeps {h key} (k : Keeps s₀ s) : Keeps s₀ (startWrite h key s) := onSec_keeps k
theorem eapol_keeps {h msg} (k : Keeps s₀ s) : Keeps s₀ (eapol h msg s) := coreTo_keeps k

theorem startRekey_keeps {b rand} (h : Keeps s₀ s) : Keeps s₀ (startRekey b rand s) := by
  unfold startRekey
  split
  · exact h
  · exact .ite h (.foldl (fun _ _ h => eapol_keeps h) _ (onBss_keeps (.foldl (fun _ _ h => startWrite_keeps h) _ h)))

theorem rekeyDue_keeps {b rand} (h : Keeps s₀ s) : Keeps s₀ (rekeyDue b rand s) := .ite (startRekey_keeps h) h
theorem execGroupRekeyDue_keeps {bss rand} : Reaches (.groupRekeyDue bss rand) s (Keeps s) := ⟨_, rfl, rekeyDue_keeps .start⟩

theorem groupRetry_keeps {b h} (k : Keeps s₀ s) : Keeps s₀ (groupRetry b h s) := by
  unfold groupRetry
  split
  · exact k
  · exact .ite (eapol_keeps (onBss_keeps k)) (deauth_keeps (onBss_keeps k))

theorem execGroupKeyRetryTimeout_keeps {bss station} : Reaches (.groupKeyRetryTimeout bss station) s (Keeps s) :=
  ⟨_, rfl, groupRetry_keeps .start⟩

theorem groupSwitch_keeps {b} (h : Keeps s₀ s) : Keeps s₀ (groupSwitch b s) := by
  unfold groupSwitch
  split
  · exact h
  · split
    · exact h
    · exact .ite h (eraseHeld_keeps (onBss_keeps h))

theorem execGroupKeySwitch_keeps {bss} : Reaches (.groupKeySwitch bss) s (Keeps s) := ⟨_, rfl, groupSwitch_keeps .start⟩

theorem keyErase_keeps {u} (h : Keeps s₀ s) : Keeps s₀ (keyErase u s).st := by
  unfold keyErase
  exact judge_keeps h (.reply_ite (onSec_keeps h) (.ite (startRekey_keeps (.ite (startWrite_keeps (onSec_keeps h)) (onSec_keeps
    h))) (.ite (startWrite_keeps (onSec_keeps h)) (onSec_keeps h))))

theorem execSecKeyErase_keeps {m} : Reaches (.secKeyErase m) s (Keeps s) :=
  ⟨_, rfl, serve_keeps (fun _ _ _ h => keyErase_keeps h) (.refl _)⟩

theorem rewritten_keeps {h} (k : Keeps s₀ s) : Keeps s₀ (rewritten h s) := onStation_keeps (dropMpdus_keeps k)

theorem keyWriteComplete_keeps {h : Nat} (k : Keeps s₀ s) : Keeps s₀ (keyWriteComplete h s) := by
  unfold keyWriteComplete
  split
  · exact k
  · split
    · exact eraseSlot_keeps k
    · split
      · exact rewritten_keeps (writeSlotKey_keeps k)
      · exact writeSlotKey_keeps k

theorem execKeyWriteComplete_keeps {handle} : Reaches (.keyWriteComplete handle) s (Keeps s) :=
  ⟨_, rfl, keyWriteComplete_keeps .start⟩

theorem cipherJob_keeps {u} (h : Keeps s₀ s) : Keeps s₀ (cipherJob u s).st := judge_keeps h (dmaReply_keeps h)

theorem execSecCipherJob_keeps {m} : Reaches (.secCipherJob m) s (Keeps s) :=
  ⟨_, rfl, serve_keeps (fun _ _ _ h => cipherJob_keeps h) (.refl _)⟩

theorem consumeChallenge_keeps (h : Keeps s₀ s) : Keeps s₀ (consumeChallenge s) := onSec_keeps h

theorem present_keeps {u t purposes rest k} (h : Keeps s₀ s) (hk : ∀ {t}, Keeps s₀ t → Keeps s₀ (k t).st) : Keeps s₀
    (present u t purposes rest s k).st := by
  unfold present
  exact .reply_ite h (judge_keeps (consumeChallenge_keeps h) (hk (consumeChallenge_keeps h)))

/-- The OTP and the anti-rollback counter only move forward (R288, R290, R293, R300). -/
def Otp.Forward (o p : Otp) : Prop :=
  p.secret = o.secret ∧ p.serial = o.serial ∧ p.mgtMac = o.mgtMac ∧ p.certificate = o.certificate ∧
  lifecycleCode o.otpLifecycle ≤ lifecycleCode p.otpLifecycle ∧ (p.lifecycle = o.lifecycle ∨ p.lifecycle = p.otpLifecycle) ∧
  (p.rootHash = o.rootHash ∨ (o.otpLifecycle = .blank ∧ p.otpLifecycle = .provisioned)) ∧ o.antiRollback ≤ p.antiRollback

theorem Otp.Forward.refl (o : Otp) : o.Forward o :=
  ⟨rfl, rfl, rfl, rfl, Nat.le_refl _, .inl rfl, .inl rfl, Nat.le_refl _⟩

theorem Otp.Forward.renewed (o : Otp) : o.Forward o.renewed :=
  ⟨rfl, rfl, rfl, rfl, Nat.le_refl _, .inr rfl, .inl rfl, Nat.le_refl _⟩

/-- As `Keeps`, but the OTP and the counter may move forward. -/
def Advances (a s : State) : Prop :=
  s.pending = a.pending ∧ a.sec.otp.Forward s.sec.otp ∧ (MailboxInv a → MailboxInv s)

theorem Renews.advances {a s : State} (h : Renews a s) : Advances a s := by
  obtain ⟨hp, ho | ho, hm⟩ := h
  · exact ⟨hp, ho ▸ .refl _, hm⟩
  · exact ⟨hp, ho ▸ .renewed _, hm⟩

theorem Keeps.advances {a s : State} (h : Keeps a s) : Advances a s := h.renews.advances

theorem Advances.after_keeps {a b c : State} (h : Keeps a b) (k : Advances b c) : Advances a c := by
  obtain ⟨hp, ho, hm⟩ := h
  obtain ⟨kp, ko, km⟩ := k
  exact ⟨kp.trans hp, ho ▸ ko, km ∘ hm⟩

theorem Advances.keeps {a b c : State} (h : Advances a b) (k : Keeps b c) : Advances a c := by
  obtain ⟨hp, ho, hm⟩ := h
  obtain ⟨kp, ko, km⟩ := k
  exact ⟨kp.trans hp, ko ▸ ho, km ∘ hm⟩

theorem Advances.absorbs : Absorbs Advances := ⟨.after_keeps, .keeps⟩

/-- A token of purpose 1 or 2 programs the lifecycle after the one it fits; any other makes the device RMA (R290, R291). -/
theorem programLifecycle_advances {p : Nat} {t : Bytes} (h : p = 1 ∨ p = 2 → purposeFits p s.sec.otpLifecycle = true) :
    Advances s (programLifecycle p t s) := by
  unfold programLifecycle
  split
  · have hb : s.sec.otpLifecycle = .blank := by simpa [purposeFits] using h (.inl rfl)
    refine ⟨rfl, ⟨rfl, rfl, rfl, rfl, ?_, .inl rfl, .inr ⟨hb, rfl⟩, Nat.le_refl _⟩, id⟩
    show lifecycleCode s.sec.otpLifecycle ≤ lifecycleCode .provisioned
    rw [hb]
    decide
  · have hb : s.sec.otpLifecycle = .provisioned := by simpa [purposeFits] using h (.inr rfl)
    refine ⟨rfl, ⟨rfl, rfl, rfl, rfl, ?_, .inl rfl, .inl rfl, Nat.le_refl _⟩, id⟩
    show lifecycleCode s.sec.otpLifecycle ≤ lifecycleCode .deployed
    rw [hb]
    decide
  · refine ⟨rfl, ⟨rfl, rfl, rfl, rfl, ?_, .inl rfl, .inl rfl, Nat.le_refl _⟩, id⟩
    show lifecycleCode s.sec.otpLifecycle ≤ lifecycleCode .rma
    cases s.sec.otpLifecycle <;> decide

theorem judge_advances {checks : List (Bool × Nat)} {k : Unit → Reply} (hk : Advances s (k ()).st) :
    Advances s (judge checks s k).st := by
  unfold judge
  split
  · exact (Keeps.refl s).advances
  · exact hk

theorem authChallenge_advances {u : Ump} : Advances s (authChallenge u s).st := by
  have hr := Keeps.refl s
  unfold authChallenge
  dsimp only
  refine judge_advances ?_
  split
  · refine (judge_keeps hr ?_).advances
    split
    · exact onSec_keeps (commandFault_keeps hr)
    · exact replyHw_keeps (onSec_keeps (commandFault_keeps hr))
  · split
    · exact hr.advances
    next hfit =>
      have hc : Keeps s (consumeChallenge s) := consumeChallenge_keeps hr
      unfold present
      split
      · exact hr.advances
      · refine Advances.after_keeps hc (judge_advances ?_)
        split
        · exact (commandFault_keeps (.refl _)).advances
        next r _ =>
          have hf : Keeps (consumeChallenge s) (commandFault u.env.hw 0x0507 u.tag 0x00C6 (leBytes 2 otpOffset ++ leBytes 2 0) true
              (consumeChallenge s)) := commandFault_keeps (.refl _)
          refine (Advances.after_keeps hf (programLifecycle_advances fun hp => ?_)).keeps (replyHw_keeps (.refl _))
          have ho : (commandFault u.env.hw 0x0507 u.tag 0x00C6 (leBytes 2 otpOffset ++ leBytes 2 0) true
              (consumeChallenge s)).sec.otpLifecycle = s.sec.otpLifecycle := congrArg Otp.otpLifecycle (hc.trans hf).2.1
          rw [ho]
          rcases hp with hp | hp <;> simp [hp] at hfit ⊢ <;> exact hfit.2

theorem execSecAuthChallenge_advances {m : Ump} : Reaches (.secAuthChallenge m) s (Advances s) :=
  ⟨_, rfl, serveThen_related Advances.absorbs Keeps.advances (.inl ⟨fun _ => authChallenge_advances, .refl⟩)⟩

theorem execChallengeExpiry_keeps : Reaches .challengeExpiry s (Keeps s) :=
  ⟨_, rfl, .ite (consumeChallenge_keeps .start) .start⟩

theorem endDebug_keeps {cause} (h : Keeps s₀ s) : Keeps s₀ (endDebug cause s) := .ite h (raise_keeps (onSec_keeps h))

theorem eraseAllKeys_keeps (h : Keeps s₀ s) : Keeps s₀ (eraseAllKeys s) := by
  unfold eraseAllKeys
  refine raise_keeps (.snd_foldl (b := (0, onSec _ s)) (fun _ _ h => ?_) _ ?_)
  · exact eraseDrops_keeps h
  · exact onSec_keeps h

theorem beforeJtag_keeps (h : Keeps s₀ s) : Keeps s₀ (beforeJtag s) :=
  onSec_keeps (.foldl (fun _ _ h => dismiss_keeps h) _ (eraseAllKeys_keeps h))

theorem debugUnlock_keeps {u} (h : Keeps s₀ s) : Keeps s₀ (debugUnlock u s).st := by
  unfold debugUnlock
  exact judge_keeps h (by
    split
    · exact present_keeps h (fun h => (raise_keeps (onSec_keeps (.ite (beforeJtag_keeps (endDebug_keeps h)) (endDebug_keeps h)))))
    · exact judge_keeps h (endDebug_keeps h)
    · exact judge_keeps h h)

theorem execSecDebugUnlock_keeps {m} : Reaches (.secDebugUnlock m) s (Keeps s) :=
  ⟨_, rfl, serve_keeps (fun _ _ _ h => debugUnlock_keeps h) (.refl _)⟩

theorem execDebugDurationExpiry_keeps : Reaches .debugDurationExpiry s (Keeps s) :=
  ⟨_, rfl, .ite (endDebug_keeps .start) .start⟩

theorem execTrngHealthFail_keeps {ok} : Reaches (.trngHealthFail ok) s (Keeps s) :=
  ⟨_, rfl, .ite .start (.ite (onSec_keeps .start) (retryRecord_keeps (onSec_keeps .start)))⟩

theorem handshakeFail_keeps {b cause addr} (h : Keeps s₀ s) : Keeps s₀ (handshakeFail b cause addr s) :=
  raiseLimited_keeps (onSec_keeps h)

theorem authFrame_keeps {slice kind addr status} (h : Keeps s₀ s) : Keeps s₀ (authFrame slice kind addr status s) :=
  queueMgmt_keeps h

theorem cachePmksa_keeps {addr ap : Nat} {pmk : Bytes} {life : Nat} {body : Bytes} (h : Keeps s₀ s) :
    Keeps s₀ (cachePmksa addr ap pmk life body s) := by
  unfold cachePmksa
  exact onSec_keeps h fun c => by simp only [Sec.otp]

theorem execPmksaExpiry_keeps {addr ap} : Reaches (.pmksaExpiry addr ap) s (Keeps s) := ⟨_, rfl, onSec_keeps .start⟩

theorem saeCommit_keeps {b addr group h2e} (h : Keeps s₀ s) : Keeps s₀ (saeCommit b addr group h2e s) := by
  unfold saeCommit
  split
  · exact h
  · exact .ite h (.ite (authFrame_keeps h) (.ite (authFrame_keeps h) (.ite (authFrame_keeps h) (onSec_keeps h))))

theorem execSaeCommitReceive_keeps {bss addr group h2e} : Reaches (.saeCommitReceive bss addr group h2e) s (Keeps s) :=
  ⟨_, rfl, saeCommit_keeps .start⟩

theorem saeServed_keeps {addr} (h : Keeps s₀ s) : Keeps s₀ (saeServed addr s) := by
  unfold saeServed
  split
  · exact h
  · dsimp only
    split
    · exact .ite (authFrame_keeps (onSec_keeps h)) (onSec_keeps h)
    · exact onSec_keeps h

theorem saeConfirm_keeps {b addr good pmk} (h : Keeps s₀ s) : Keeps s₀ (saeConfirm b addr good pmk s) := by
  unfold saeConfirm
  split
  · exact h
  · exact .ite h (.ite (authFrame_keeps (cachePmksa_keeps (onSec_keeps h))) (handshakeFail_keeps (onSec_keeps h)))

theorem execSaeConfirmReceive_keeps {bss addr good pmk} : Reaches (.saeConfirmReceive bss addr good pmk) s (Keeps s) :=
  ⟨_, rfl, saeConfirm_keeps .start⟩

theorem authorise_keeps {h} (k : Keeps s₀ s) : Keeps s₀ (authorise h s) := by
  unfold authorise
  split
  · exact k
  · exact accounting_keeps (raise_keeps (onStation_keeps k))

theorem startFourWay_keeps {h pmk} (k : Keeps s₀ s) : Keeps s₀ (startFourWay h pmk s) := eapol_keeps (onStation_keeps k)

theorem endFourWay_keeps {h key} (k : Keeps s₀ s) : Keeps s₀ (endFourWay h key s) := by
  unfold endFourWay
  split
  · exact k
  · exact .ite (authorise_keeps (startWrite_keeps (onStation_keeps k))) (startWrite_keeps (onStation_keeps k))

theorem authFails_keeps {h cause} (k : Keeps s₀ s) : Keeps s₀ (authFails h cause s) := by
  unfold authFails
  split
  · exact k
  · exact deauth_keeps (handshakeFail_keeps k)

theorem radiusRequest_keeps {h} (k : Keeps s₀ s) : Keeps s₀ (radiusRequest h s) := by
  unfold radiusRequest
  split
  · exact k
  · split
    · exact authFails_keeps k
    · exact emit_keeps (onSec_keeps k)

theorem eapolReceive_keeps {h msg good key} (k : Keeps s₀ s) : Keeps s₀ (eapolReceive h msg good key s) := by
  unfold eapolReceive
  split
  · exact k
  · exact .ite k (by
      split
      · exact .ite (radiusRequest_keeps k) k
      · exact .ite (eapol_keeps (onStation_keeps k)) (handshakeFail_keeps k)
      · exact .ite (endFourWay_keeps k) k
      · exact .ite (onAir_keeps k) k
      · exact k)

theorem execEapolKeyReceive_keeps {station msg good key} : Reaches (.eapolKeyReceive station msg good key) s (Keeps s) :=
  ⟨_, rfl, eapolReceive_keeps .start⟩

theorem fourWayRetry_keeps {h} (k : Keeps s₀ s) : Keeps s₀ (fourWayRetry h s) := by
  unfold fourWayRetry
  split
  · exact k
  · split
    · exact k
    · exact .ite (eapol_keeps (onStation_keeps k)) (deauth_keeps (handshakeFail_keeps k))

theorem execFourwayRetryTimeout_keeps {station} : Reaches (.fourwayRetryTimeout station) s (Keeps s) :=
  ⟨_, rfl, fourWayRetry_keeps .start⟩

theorem radiusResponse_keeps {h valid kind recv send cls timeout} (k : Keeps s₀ s) : Keeps s₀ (radiusResponse h valid kind
    recv send cls timeout s) := by
  unfold radiusResponse
  exact .ite k (by
    dsimp only
    split
    · exact eapol_keeps (onSec_keeps k)
    · split
      · exact .ite (onSec_keeps k) (startFourWay_keeps (cachePmksa_keeps (onStation_keeps (onSec_keeps k))))
      · exact onSec_keeps k
    · exact authFails_keeps (onSec_keeps k)
    · exact onSec_keeps k)

theorem execRadiusResponseReceive_keeps {station valid kind recv send cls timeout} : Reaches (.radiusResponseReceive
    station valid kind recv send cls timeout) s (Keeps s) :=
  ⟨_, rfl, radiusResponse_keeps .start⟩

theorem radiusTimeout_keeps {h} (k : Keeps s₀ s) : Keeps s₀ (radiusTimeout h s) := by
  unfold radiusTimeout
  split
  · exact k
  · split
    · exact k
    · exact .ite (emit_keeps (onSec_keeps k)) (.foldl (fun _ _ h => radiusRequest_keeps h) _ (raise_keeps (onSec_keeps k)))

theorem execRadiusTimeout_keeps {station} : Reaches (.radiusTimeout station) s (Keeps s) :=
  ⟨_, rfl, radiusTimeout_keeps .start⟩

theorem execRadiusDeadTimeEnd_keeps {profile secondary} : Reaches (.radiusDeadTimeEnd profile secondary) s (Keeps s) :=
  ⟨_, rfl, onSec_keeps .start⟩

theorem execEapTimeout_keeps {station} : Reaches (.eapTimeout station) s (Keeps s) :=
  ⟨_, rfl, .ite (authFails_keeps .start) .start⟩

/-! ### Fleet -/

theorem onFleet_keeps {f} (h : Keeps s₀ s) : Keeps s₀ (onFleet f s) := h.with
theorem onFwu_keeps {f} (h : Keeps s₀ s) : Keeps s₀ (onFwu f s) := h.with

theorem setFloor_keeps {new cause} (h : Keeps s₀ s) : Keeps s₀ (setFloor new cause s) :=
  .ite (onFleet_keeps h) (raise_keeps (onFleet_keeps h))

theorem setFloorCmd_keeps {u} (h : Keeps s₀ s) : Keeps s₀ (setFloorCmd u s).st :=
  judge_keeps h (.reply_ite h (replyFelt_keeps h (setFloor_keeps h)))

theorem execFltSetFloor_keeps {m} : Reaches (.fltSetFloor m) s (Keeps s) :=
  ⟨_, rfl, serve_keeps (fun _ _ _ h => setFloorCmd_keeps h) (.refl _)⟩

theorem fltGetInfo_keeps {u0} (h : Keeps s₀ s) : Keeps s₀ (fltGetInfo u0 s).st := judge_keeps h h

theorem execFltGetInfo_keeps {m} : Reaches (.fltGetInfo m) s (Keeps s) :=
  ⟨_, rfl, serve_keeps (fun _ _ _ h => fltGetInfo_keeps h) (.refl _)⟩

theorem newFleetKey_keeps {id epoch key} (h : Keeps s₀ s) : Keeps s₀ (newFleetKey id epoch key s) := onFleet_keeps h
theorem eraseFleet_keeps (h : Keeps s₀ s) : Keeps s₀ (eraseFleet s) := onFleet_keeps h
theorem setFleetKey_keeps {u} (h : Keeps s₀ s) : Keeps s₀ (setFleetKey u s).st := judge_keeps h (accept_keeps h)

theorem execFltSetKey_keeps {m} : Reaches (.fltSetKey m) s (Keeps s) :=
  ⟨_, rfl, serve_keeps (fun _ _ _ h => setFleetKey_keeps h) (.refl _)⟩

theorem setFleetKeyDone_keeps {a opens body hw} (h : Keeps s₀ s) : Keeps s₀ (setFleetKeyDone a opens body hw s) := by
  unfold setFleetKeyDone
  dsimp only
  split
  · exact .ite (endAsync_keeps h) (.ite (endAsync_keeps h) (.ite (endAsync_keeps h) (.ite (endAsync_keeps (keepSerial_keeps h)) (endVault_keeps h (newFleetKey_keeps (keepSerial_keeps h))))))
  · exact .ite (endAsync_keeps h) (endVault_keeps h (newFleetKey_keeps h))
  · exact endVault_keeps h (eraseFleet_keeps h)

theorem contextExport_keeps {u} (h : Keeps s₀ s) : Keeps s₀ (contextExport u s).st := judge_keeps h (accept_keeps h)

theorem execFltContextExport_keeps {m} : Reaches (.fltContextExport m) s (Keeps s) :=
  ⟨_, rfl, serve_keeps (fun _ _ _ h => contextExport_keeps h) (.refl _)⟩

theorem contextExportDone_keeps {a body hw} (h : Keeps s₀ s) : Keeps s₀ (contextExportDone a body hw s) := by
  unfold contextExportDone
  exact .ite (endAsync_keeps (dismiss_keeps h)) (.ite (endAsync_keeps h) (by
    dsimp only
    split
    · exact endAsync_keeps (dmaFault_keeps h)
    · exact endAsync_keeps (.ite (onFleet_keeps (emit_keeps (setAsync_keeps (dmaFault_keeps h)))) (emit_keeps (setAsync_keeps (dmaFault_keeps h))))))

theorem contextRefused_keeps {b reason} (h : Keeps s₀ s) : Keeps s₀ (contextRefused b reason s) := raise_keeps (onFleet_keeps h)

theorem contextImport_keeps {u} (h : Keeps s₀ s) : Keeps s₀ (contextImport u s).st := by
  unfold contextImport
  exact judge_keeps h (.reply_ite (contextRefused_keeps h) (.reply_ite (contextRefused_keeps h) (.reply_ite (contextRefused_keeps
    h) (.reply_ite (contextRefused_keeps h) (judge_keeps h (.reply_ite (contextRefused_keeps h) (.reply_ite
    (contextRefused_keeps h) (.reply_ite h (accept_keeps h)))))))))

theorem execFltContextImport_keeps {m} : Reaches (.fltContextImport m) s (Keeps s) :=
  ⟨_, rfl, serve_keeps (fun _ _ _ h => contextImport_keeps h) (.refl _)⟩

theorem stage_keeps {b body life} (h : Keeps s₀ s) : Keeps s₀ (stage b body life s) := onFleet_keeps h

theorem contextImportDone_keeps {a opens body hw} (h : Keeps s₀ s) : Keeps s₀ (contextImportDone a opens body hw s) := by
  unfold contextImportDone
  dsimp only
  split
  · exact .ite (endAsync_keeps (contextRefused_keeps h)) (.ite (endAsync_keeps h) (by
      split
      · exact endAsync_keeps (feltWrite_keeps h)
      · exact endAsync_keeps (setAsync_keeps (feltWrite_keeps (stage_keeps h)))))
  · exact .ite (endAsync_keeps h) (.ite (endAsync_keeps h) (by
      split
      · exact endAsync_keeps (feltWrite_keeps h)
      · exact endAsync_keeps (setAsync_keeps (feltWrite_keeps (onFleet_keeps h)))))
  · split
    · exact endAsync_keeps (feltWrite_keeps h)
    · exact endAsync_keeps (setAsync_keeps (feltWrite_keeps (onFleet_keeps h)))
  · split
    · exact endAsync_keeps (feltWrite_keeps h)
    · exact endAsync_keeps (setAsync_keeps (feltWrite_keeps (onFleet_keeps h)))

theorem consumeContext_keeps {c ap} (h : Keeps s₀ s) : Keeps s₀ (consumeContext c ap s) := cachePmksa_keeps (onFleet_keeps h)

theorem execFtAuthReceive_keeps {bss addr found} : Reaches (.ftAuthReceive bss addr found) s (Keeps s) :=
  ⟨_, rfl, by
    dsimp only
    split
    · exact .start
    · exact .ite .start (.ite (authFrame_keeps .start) (by
        split
        · exact authFrame_keeps (consumeContext_keeps .start)
        · exact authFrame_keeps (onFleet_keeps .start)))⟩

theorem expireContext_keeps {addr} (h : Keeps s₀ s) : Keeps s₀ (expireContext addr s) := .ite (onFleet_keeps h) h

theorem execContextStagingExpiry_keeps {addr} : Reaches (.contextStagingExpiry addr) s (Keeps s) :=
  ⟨_, rfl, .ite (expireContext_keeps .start) .start⟩

theorem hatboxDone_keeps {code addr opens body hw} (h : Keeps s₀ s) : Keeps s₀ (hatboxDone code addr opens body hw s) := by
  unfold hatboxDone
  exact .ite (saeServed_keeps h) (by
    split
    · exact h
    · split
      · exact loadSealedDone_keeps h
      · exact setRadiusDone_keeps h
      · exact keyImportDone_keeps h
      · exact contextExportDone_keeps h
      · exact contextImportDone_keeps h
      · exact setFleetKeyDone_keeps h
      · exact h)

theorem execHatboxJobDone_keeps {code addr opens body hw} : Reaches (.hatboxJobDone code addr opens body hw) s (Keeps s)
    :=
  ⟨_, rfl, hatboxDone_keeps .start⟩

theorem onImage_keeps {n f} (h : Keeps s₀ s) : Keeps s₀ (onImage n f s) := onFwu_keeps h

theorem fwuBegin_keeps {u} (h : Keeps s₀ s) : Keeps s₀ (fwuBegin u s).st :=
  judge_keeps h (replyHw_keeps (onImage_keeps (onFwu_keeps h)))

theorem execFwuBegin_keeps {m} : Reaches (.fwuBegin m) s (Keeps s) :=
  ⟨_, rfl, serve_keeps (fun _ _ _ h => fwuBegin_keeps h) (.refl _)⟩

theorem fwuData_keeps {u} (h : Keeps s₀ s) : Keeps s₀ (fwuData u s).st := judge_keeps h (accept_keeps h)

theorem execFwuData_keeps {m} : Reaches (.fwuData m) s (Keeps s) :=
  ⟨_, rfl, serve_keeps (fun _ _ _ h => fwuData_keeps h) (.refl _)⟩

theorem fwuWritten_keeps {hw} (h : Keeps s₀ s) : Keeps s₀ (fwuWritten hw s) := by
  unfold fwuWritten
  split
  · exact h
  · split
    · exact endAsync_keeps h
    · exact endAsync_keeps (onImage_keeps (onFwu_keeps (setAsync_keeps h)))

theorem execFwuDataWritten_keeps {hw} : Reaches (.fwuDataWritten hw) s (Keeps s) := ⟨_, rfl, fwuWritten_keeps .start⟩
theorem fwuCommit_keeps {u} (h : Keeps s₀ s) : Keeps s₀ (fwuCommit u s).st := judge_keeps h (accept_keeps h)

theorem execFwuCommit_keeps {m} : Reaches (.fwuCommit m) s (Keeps s) :=
  ⟨_, rfl, serve_keeps (fun _ _ _ h => fwuCommit_keeps h) (.refl _)⟩

theorem fwuChecked_keeps {cause version security} (h : Keeps s₀ s) : Keeps s₀ (fwuChecked cause version security s) := by
  unfold fwuChecked
  split
  · exact h
  · exact .ite (endAsync_keeps (onImage_keeps (onFwu_keeps h))) (endAsync_keeps (raise_keeps h))

theorem execFwuCommitChecked_keeps {cause version security} : Reaches (.fwuCommitChecked cause version security) s (Keeps
    s) :=
  ⟨_, rfl, fwuChecked_keeps .start⟩

theorem fwuActivate_keeps {u} (h : Keeps s₀ s) : Keeps s₀ (fwuActivate u s).st := judge_keeps h (accept_keeps h)

theorem runHostImage_keeps {a found} (h : Keeps s₀ s) : Keeps s₀ (runHostImage a found s) :=
  .ite (onPower_keeps (onFwu_keeps (endAsync_keeps h))) (endAsync_keeps (report_keeps (recordNow_keeps (onPower_keeps h))))

/-- The confirmation of a trial raises the anti-rollback counter (R300, R453). -/
theorem confirm_advances {f : Fwu → Fwu} {n : Nat} :
    Advances s (onSec (fun c => { c with antiRollback := max c.antiRollback n }) (onFwu f s)) :=
  ⟨rfl, ⟨rfl, rfl, rfl, rfl, Nat.le_refl _, .inl rfl, .inl rfl, Nat.le_max_left ..⟩, id⟩

theorem writeControl_advances {c : AsyncCmd} {hw : Retry} {slot : Nat} {f : State → State} (hf : ∀ t, Advances t (f t)) :
    Advances s (writeControl c hw slot f s) := by
  unfold writeControl
  split
  · exact (endAsync_keeps (feltWrite_keeps (.refl s))).advances
  · exact Advances.keeps (.after_keeps (setAsync_keeps (feltWrite_keeps (.refl s))) (hf _)) (endAsync_keeps (.refl _))

theorem activate_advances {u : Ump} : Advances s (activate u s) := by
  have hr := Keeps.refl s
  unfold activate
  split
  · exact hr.advances
  · dsimp only
    split
    · split
      · exact (runHostImage_keeps hr).advances
      · exact writeControl_advances fun _ => (onPower_keeps (onFwu_keeps (.refl _))).advances
    · exact writeControl_advances fun _ => confirm_advances
    · exact writeControl_advances fun _ => (onPower_keeps (onFwu_keeps (.refl _))).advances

theorem execFwuActivate_advances {m : Ump} : Reaches (.fwuActivate m) s (Advances s) :=
  ⟨_, rfl, serveThen_related Advances.absorbs Keeps.advances (.inr ⟨fun _ _ _ h => fwuActivate_keeps h, fun _ => activate_advances⟩)⟩

theorem evrClear_keeps {u} (h : Keeps s₀ s) : Keeps s₀ (evrClear u s).st :=
  judge_keeps h (present_keeps h (fun h => (accept_keeps (onEvr_keeps h))))

theorem execEvrClear_keeps {m} : Reaches (.evrClear m) s (Keeps s) :=
  ⟨_, rfl, serve_keeps (fun _ _ _ h => evrClear_keeps h) (.refl _)⟩

theorem clearLog_keeps (h : Keeps s₀ s) : Keeps s₀ (clearLog s) := by
  unfold clearLog
  split
  · exact h
  · exact endAsync_keeps (deliver_keeps (onEvr_keeps h))

theorem execEvrClearDone_keeps : Reaches .evrClearDone s (Keeps s) := ⟨_, rfl, clearLog_keeps .start⟩

/-! ### Wired -/

theorem linkDownDrop_keeps {p f} (h : Keeps s₀ s) : Keeps s₀ (linkDownDrop p f s) :=
  injectFate_keeps (freeFrame_keeps (countPort_keeps h))

theorem dropPortQueue_keeps {p} (h : Keeps s₀ s) : Keeps s₀ (dropPortQueue p s) :=
  .foldl (fun _ _ h => .foldl (fun _ _ h => linkDownDrop_keeps (leaveCells_keeps h)) _ (onQueue_keeps h)) _ h

theorem forgetPort_keeps {p} (h : Keeps s₀ s) : Keeps s₀ (forgetPort p s) := onWire_keeps h

theorem leaveUp_keeps {p cause dst} (h : Keeps s₀ s) : Keeps s₀ (leaveUp p cause dst s) := by
  unfold leaveUp
  exact settleShapers_keeps (raise_keeps (countPort_keeps (.ite (forgetPort_keeps (dropPortQueue_keeps (onPort_keeps
    (settleStopped_keeps (by
      split
      · exact linkDownDrop_keeps h
      · exact h))))) (settlePort_keeps (forgetPort_keeps
    (dropPortQueue_keeps (onPort_keeps (settleStopped_keeps (by
      split
      · exact linkDownDrop_keeps h
      · exact h)))))))))

theorem enterUp_keeps {p speed} (h : Keeps s₀ s) : Keeps s₀ (enterUp p speed s) := raise_keeps (settleXoff_keeps (onPort_keeps h))
theorem signalDetect_keeps {p} (h : Keeps s₀ s) : Keeps s₀ (signalDetect p s) := .ite (onPort_keeps h) h

theorem execPortSignalDetect_keeps {port} : Reaches (.portSignalDetect port) s (Keeps s) :=
  ⟨_, rfl, signalDetect_keeps .start⟩

theorem bringupDone_keeps {p} (h : Keeps s₀ s) : Keeps s₀ (bringupDone p s) :=
  .ite (enterUp_keeps (.ite (transientFault_keeps h) h)) h

theorem execPortBringupDone_keeps {port} : Reaches (.portBringupDone port) s (Keeps s) := ⟨_, rfl, bringupDone_keeps .start⟩

theorem bringupFail_keeps {p} (h : Keeps s₀ s) : Keeps s₀ (bringupFail p s) :=
  .ite h (.ite (onPort_keeps h) (lastingFault_keeps (onPort_keeps h)))

theorem execPortBringupFail_keeps {port} : Reaches (.portBringupFail port) s (Keeps s) := ⟨_, rfl, bringupFail_keeps .start⟩

theorem execPortBringupRetry_keeps {port} : Reaches (.portBringupRetry port) s (Keeps s) :=
  ⟨_, rfl, .ite (onPort_keeps .start) .start⟩

theorem signalLoss_keeps {p} (h : Keeps s₀ s) : Keeps s₀ (signalLoss p s) :=
  .ite h (by
    split
    · exact leaveUp_keeps h
    · exact onPort_keeps h
    · exact h)

theorem execPortSignalLoss_keeps {port} : Reaches (.portSignalLoss port) s (Keeps s) := ⟨_, rfl, signalLoss_keeps .start⟩

theorem mdioPoll_keeps {link half speed} (h : Keeps s₀ s) : Keeps s₀ (mdioPoll link half speed s) := by
  unfold mdioPoll
  exact .ite h (.ite (.ite (leaveUp_keeps (onPort_keeps h)) (.ite (onPort_keeps (onPort_keeps h)) (raise_keeps (onPort_keeps
    (onPort_keeps h))))) (.ite (.ite (.ite (onPort_keeps h) (enterUp_keeps (leaveUp_keeps (onPort_keeps h)))) (enterUp_keeps
    (onPort_keeps h))) (.ite (leaveUp_keeps (onPort_keeps h)) (onPort_keeps h))))

theorem execMdioPoll_keeps {link half speed} : Reaches (.mdioPoll link half speed) s (Keeps s) :=
  ⟨_, rfl, mdioPoll_keeps .start⟩

theorem portReply_keeps {p op} (h : Keeps s₀ s) : Keeps s₀ (portReply p op s).st := h
theorem enterDown_keeps {p} (h : Keeps s₀ s) : Keeps s₀ (enterDown p s) := onPort_keeps h

theorem setPort_keeps {p c} (h : Keeps s₀ s) : Keeps s₀ (setPort p c s) := by
  unfold setPort
  exact settleXoff_keeps (.ite (.ite (leaveUp_keeps (.ite (onPort_keeps h) (onPort_keeps (setStopped_keeps (onPort_keeps h)))))
    (onPort_keeps (.ite (onPort_keeps h) (onPort_keeps (setStopped_keeps (onPort_keeps h)))))) (.ite (enterDown_keeps (.ite
    (onPort_keeps h) (onPort_keeps (setStopped_keeps (onPort_keeps h))))) (.ite (enterDown_keeps (.ite (leaveUp_keeps (.ite
    (onPort_keeps h) (onPort_keeps (setStopped_keeps (onPort_keeps h))))) (.ite (onPort_keeps h) (onPort_keeps
    (setStopped_keeps (onPort_keeps h)))))) (.ite (onPort_keeps h) (onPort_keeps (setStopped_keeps (onPort_keeps h)))))))

theorem fwdSetPort_keeps {u} (h : Keeps s₀ s) : Keeps s₀ (fwdSetPort u s).st := by
  unfold fwdSetPort
  exact judge_keeps h (.reply_ite (judge_keeps h (portReply_keeps h)) (judge_keeps h (portReply_keeps (cfgKeep_keeps
    (setPort_keeps h)))))

theorem execFwdSetPort_keeps {m} : Reaches (.fwdSetPort m) s (Keeps s) :=
  ⟨_, rfl, serve_keeps (fun _ _ _ h => fwdSetPort_keeps h) (.refl _)⟩

theorem flushVlan_keeps {v} (h : Keeps s₀ s) : Keeps s₀ (flushVlan v s) := onWire_keeps h
theorem deleteVlan_keeps {v} (h : Keeps s₀ s) : Keeps s₀ (deleteVlan v s) := onWire_keeps (flushVlan_keeps h)

theorem fwdVlanSet_keeps {u} (h : Keeps s₀ s) : Keeps s₀ (fwdVlanSet u s).st := by
  unfold fwdVlanSet
  exact judge_keeps h (by
    split
    · exact judge_keeps h (cfgKeepIf_keeps (onWire_keeps h))
    · exact judge_keeps h (cfgDelete_keeps (deleteVlan_keeps h))
    · exact judge_keeps h h
    · exact judge_keeps h (flushVlan_keeps h))

theorem execFwdVlanSet_keeps {m} : Reaches (.fwdVlanSet m) s (Keeps s) :=
  ⟨_, rfl, serve_keeps (fun _ _ _ h => fwdVlanSet_keeps h) (.refl _)⟩

theorem fwdRouteSet_keeps {u} (h : Keeps s₀ s) : Keeps s₀ (fwdRouteSet u s).st := by
  unfold fwdRouteSet
  exact judge_keeps h (by
    split
    · exact judge_keeps h (cfgKeepIf_keeps (onWire_keeps h))
    · exact judge_keeps h (cfgDelete_keeps (onWire_keeps h))
    · exact judge_keeps h h)

theorem execFwdRouteSet_keeps {m} : Reaches (.fwdRouteSet m) s (Keeps s) :=
  ⟨_, rfl, serve_keeps (fun _ _ _ h => fwdRouteSet_keeps h) (.refl _)⟩

theorem fwdAclSet_keeps {u} (h : Keeps s₀ s) : Keeps s₀ (fwdAclSet u s).st := by
  unfold fwdAclSet
  exact judge_keeps h (by
    split
    · exact judge_keeps h (cfgKeepIf_keeps (onWire_keeps h))
    · exact judge_keeps h (cfgDelete_keeps (onWire_keeps h))
    · exact judge_keeps h h)

theorem execFwdAclSet_keeps {m} : Reaches (.fwdAclSet m) s (Keeps s) :=
  ⟨_, rfl, serve_keeps (fun _ _ _ h => fwdAclSet_keeps h) (.refl _)⟩

theorem fwdNatSet_keeps {u} (h : Keeps s₀ s) : Keeps s₀ (fwdNatSet u s).st := by
  unfold fwdNatSet
  exact judge_keeps h (by
    split
    · exact judge_keeps h (cfgKeepIf_keeps (onWire_keeps h))
    · exact judge_keeps h (cfgKeepIf_keeps (onWire_keeps h))
    · exact judge_keeps h (cfgDelete_keeps (onWire_keeps h))
    · exact judge_keeps h (cfgKeepIf_keeps (onWire_keeps h))
    · exact judge_keeps h h)

theorem execFwdNatSet_keeps {m} : Reaches (.fwdNatSet m) s (Keeps s) :=
  ⟨_, rfl, serve_keeps (fun _ _ _ h => fwdNatSet_keeps h) (.refl _)⟩

theorem flowReply_keeps {l next} (h : Keeps s₀ s) : Keeps s₀ (flowReply l next s).st := h
theorem removeFlow_keeps {n} (h : Keeps s₀ s) : Keeps s₀ (removeFlow n s) := onWire_keeps h

theorem fwdFlowQuery_keeps {u} (h : Keeps s₀ s) : Keeps s₀ (fwdFlowQuery u s).st := by
  unfold fwdFlowQuery
  exact judge_keeps h (by
    split
    · exact judge_keeps h (flowReply_keeps h)
    · exact judge_keeps h (flowReply_keeps h)
    · exact judge_keeps h (flowReply_keeps (by
        split
        · exact removeFlow_keeps h
        · exact h)))

theorem execFwdFlowQuery_keeps {m} : Reaches (.fwdFlowQuery m) s (Keeps s) :=
  ⟨_, rfl, serve_keeps (fun _ _ _ h => fwdFlowQuery_keeps h) (.refl _)⟩

theorem countLine_keeps {p l} (h : Keeps s₀ s) : Keeps s₀ (countLine p l s) :=
  .ite h (countPort_keeps (.ite h (countPort_keeps (countPort_keeps h))))

theorem takeSnapshot_keeps {p l} (h : Keeps s₀ s) : Keeps s₀ (takeSnapshot p l s) :=
  onPort_keeps (countLine_keeps (settleStopped_keeps h))

theorem ethGetCounters_keeps {u} (h : Keeps s₀ s) : Keeps s₀ (ethGetCounters u s).st :=
  judge_keeps h (.ite (takeSnapshot_keeps h) h)

theorem execEthGetCounters_keeps {m} : Reaches (.ethGetCounters m) s (Keeps s) :=
  ⟨_, rfl, serve_keeps (fun _ _ _ h => ethGetCounters_keeps h) (.refl _)⟩

theorem ethSetWol_keeps {u} (h : Keeps s₀ s) : Keeps s₀ (ethSetWol u s).st := by
  unfold ethSetWol
  exact judge_keeps h (by
    split
    · exact cfgKeepIf_keeps (onPort_keeps h)
    · exact cfgDrop_keeps (onPort_keeps h)
    · exact cfgKeepIf_keeps (onPort_keeps h)
    · exact h)

theorem execEthSetWol_keeps {m} : Reaches (.ethSetWol m) s (Keeps s) :=
  ⟨_, rfl, serve_keeps (fun _ _ _ h => ethSetWol_keeps h) (.refl _)⟩

theorem onSecy_keeps {p f} (h : Keeps s₀ s) : Keeps s₀ (onSecy p f s) := onPort_keeps h

theorem ethSetMacsec_keeps {u} (h : Keeps s₀ s) : Keeps s₀ (ethSetMacsec u s).st := by
  unfold ethSetMacsec
  exact judge_keeps h (by
    split
    · exact cfgKeepIf_keeps (onSecy_keeps h)
    · exact judge_keeps h (cfgKeepIf_keeps (onSecy_keeps h))
    · exact judge_keeps h (cfgKeepIf_keeps (onSecy_keeps h))
    · exact judge_keeps h (cfgKeepIf_keeps (onSecy_keeps h))
    · exact judge_keeps h (.ite (cfgDrop_keeps (onSecy_keeps h)) (cfgDrop_keeps (onSecy_keeps h)))
    · exact h)

theorem execEthSetMacsec_keeps {m} : Reaches (.ethSetMacsec m) s (Keeps s) :=
  ⟨_, rfl, serve_keeps (fun _ _ _ h => ethSetMacsec_keeps h) (.refl _)⟩

/-! ### Tasks -/

theorem onTds_keeps {f} (h : Keeps s₀ s) : Keeps s₀ (onTds f s) := h.with
theorem onClass_keeps {c f} (h : Keeps s₀ s) : Keeps s₀ (onClass c f s) := onTds_keeps h
theorem fullEvent_keeps {c} (h : Keeps s₀ s) : Keeps s₀ (fullEvent c s) := .ite (raiseLimited_keeps h) h

theorem queueItem_keeps {c key w} (h : Keeps s₀ s) : Keeps s₀ (queueItem c key w s) :=
  .ite (onClass_keeps (onTds_keeps h)) (fullEvent_keeps (onClass_keeps (onTds_keeps h)))

theorem refuseClass_keeps {c} (h : Keeps s₀ s) : Keeps s₀ (refuseClass c s) := raiseLimited_keeps (onClass_keeps h)

theorem airHold_keeps {c key w} (h : Keeps s₀ s) : Keeps s₀ (airHold c key w s).2 :=
  .snd_ite (onTds_keeps h) (raiseLimited_keeps (onClass_keeps h))

theorem settleClass_keeps {c} (h : Keeps s₀ s) : Keeps s₀ (settleClass c s) :=
  .ite h (.foldl (fun _ _ h => .ite h (queueItem_keeps (onTds_keeps h))) _ (onClass_keeps h))

theorem releaseCore_keeps {core} (h : Keeps s₀ s) : Keeps s₀ (releaseCore core s) := by
  unfold releaseCore
  split
  · exact h
  · exact onClass_keeps (onTds_keeps h)

/-! ### Forward -/

theorem toDram_keeps {f} (h : Keeps s₀ s) : Keeps s₀ (toDram f s).2 := .snd_ite (freeFrame_keeps h) h

theorem enqueue_keeps {q f} (h : Keeps s₀ s) : Keeps s₀ (enqueue q f s).2 := by
  unfold enqueue
  dsimp only
  split
  · exact onQueue_keeps (enterCells_keeps h)
  · exact injectFate_keeps (.ite (freeFrame_keeps (countEnterDrop_keeps h)) (countEnterDrop_keeps h))

theorem toStation_keeps {h f} (k : Keeps s₀ s) : Keeps s₀ (toStation h f s) := by
  unfold toStation
  exact .ite (injectFate_keeps (toDram_keeps k)) (by
    split
    · exact lockedStation_keeps (settleShapers_keeps (onStation_keeps (onAir_keeps (enterCells_keeps (toDram_keeps k)))))
    · exact injectFate_keeps (countEnterDrop_keeps (toDram_keeps k)))

theorem toGroup_keeps {b f} (h : Keeps s₀ s) : Keeps s₀ (toGroup b f s) := by
  unfold toGroup
  exact .ite (injectFate_keeps (toDram_keeps h)) (.ite (settleShapers_keeps (onBss_keeps (enqueue_keeps (toDram_keeps h))))
    (enqueue_keeps (toDram_keeps h)))

theorem toPunt_keeps {q f} (h : Keeps s₀ s) : Keeps s₀ (toPunt q f s) := enqueue_keeps (countPort_keeps (toDram_keeps h))

theorem toPort_keeps {p f} (h : Keeps s₀ s) : Keeps s₀ (toPort p f s) :=
  .ite (linkDownDrop_keeps h) (settleShapers_keeps (settleClosed_keeps (enqueue_keeps h)))

theorem copyToPort_keeps {f : Frame} {p : Nat} (h : Keeps s₀ s) : Keeps s₀ (copyToPort f s p) := by
  unfold copyToPort
  refine .ite ?_ (toPort_keeps h)
  split
  next t ht => exact toPort_keeps (takeCells_keeps h ht)
  · exact countPort_keeps h

theorem sendAll_keeps {l f} (h : Keeps s₀ s) : Keeps s₀ (sendAll l f s) := by
  unfold sendAll
  dsimp only
  split
  · exact .ite (freeFrame_keeps (.foldl (fun _ _ h => by
      split
      · exact toStation_keeps h
      · exact toGroup_keeps h
      · exact h) _ h)) (.foldl (fun _ _ h => by
      split
      · exact toStation_keeps h
      · exact toGroup_keeps h
      · exact h) _ h)
  · exact toPort_keeps (.foldl (fun _ _ h => copyToPort_keeps h) _ (.foldl (fun _ _ h => by
      split
      · exact toStation_keeps h
      · exact toGroup_keeps h
      · exact h) _ h))

theorem bridge_keeps {f} (h : Keeps s₀ s) : Keeps s₀ (bridge f s) := by
  unfold bridge
  split
  · exact .ite (freeFrame_keeps h) h
  · exact sendAll_keeps (.ite (countPort_keeps (.ite h (countPort_keeps h))) (.ite h (countPort_keeps h)))

theorem learn_keeps {f} (h : Keeps s₀ s) : Keeps s₀ (learn f s) := by
  unfold learn
  exact .ite h (by
    split
    · split
      · exact onWire_keeps h
      · exact raiseLimited_keeps h
    · exact .ite h (.ite (onWire_keeps h) (.ite (raiseLimited_keeps (onWire_keeps h)) (onWire_keeps h))))

theorem execMacAgeOut_keeps {vlan addr} : Reaches (.macAgeOut vlan addr) s (Keeps s) := ⟨_, rfl, onWire_keeps .start⟩
theorem poolDrop_keeps (h : Keeps s₀ s) : Keeps s₀ (poolDrop s) := poolLow_keeps (onQme_keeps h)

theorem holdFrame_keeps {f : Frame} {x : Frame × State} (h : Keeps s₀ s) (e : holdFrame f s = some x) : Keeps s₀ x.2 := by
  unfold holdFrame at e
  dsimp only at e
  split at e
  · cases e
  · rw [← Option.some.inj e]
    exact .ite (onQme_keeps (toDram_keeps h)) (onPort_keeps (onQme_keeps (toDram_keeps h)))

theorem unholdFrame_keeps {f} (h : Keeps s₀ s) : Keeps s₀ (unholdFrame f s).2 :=
  .ite (freeFrame_keeps h) (onPort_keeps (freeFrame_keeps h))

theorem slowPath_keeps {c : Nat} {f : Frame} {why : Nat} (h : Keeps s₀ s) : FateKeeps s₀ (slowPath c f why s) := by
  unfold slowPath
  dsimp only
  refine .ite .error (.ite .error ?_)
  split
  · exact .ok (poolDrop_keeps (toDram_keeps (countPort_keeps h)))
  next g t ht =>
    have hk : Keeps s₀ t := holdFrame_keeps (countPort_keeps h) ht
    exact .ite (.ok (.ite (airHold_keeps hk) (unholdFrame_keeps (airHold_keeps hk)))) (.ok (queueItem_keeps hk))

theorem dropFrame_keeps {f} (h : Keeps s₀ s) : Keeps s₀ (dropFrame f s) := .ite (freeFrame_keeps h) h
theorem onHop_keeps {iface a f} (h : Keeps s₀ s) : Keeps s₀ (onHop iface a f s) := onWire_keeps h

theorem emitRouted_keeps {i iface mac f} (h : Keeps s₀ s) : Keeps s₀ (emitRouted i iface mac f s) := by
  unfold emitRouted
  split
  · exact dropFrame_keeps h
  · exact sendAll_keeps (countPort_keeps h)

theorem finishRoute_keeps {i iface mac f} (h : Keeps s₀ s) : FateKeeps s₀ (finishRoute i iface mac f s) := by
  unfold finishRoute
  exact .ite (slowPath_keeps (countPort_keeps h)) (.ite (slowPath_keeps h) (.ite (slowPath_keeps h) (.ite (slowPath_keeps h) (.ok
    (emitRouted_keeps h)))))

theorem routeOut_keeps {i f} (h : Keeps s₀ s) : FateKeeps s₀ (routeOut i f s) := by
  unfold routeOut
  exact .ite (slowPath_keeps h) (by
    split
    · exact slowPath_keeps (countPort_keeps h)
    · exact .ite (.ok (dropFrame_keeps h)) (.ite (slowPath_keeps h) (by
        split
        · split
          · exact finishRoute_keeps h
          · exact .ite (slowPath_keeps (countPort_keeps h)) (slowPath_keeps h)
        · exact slowPath_keeps h)))

theorem flowTouch_keeps {n fwd i} (h : Keeps s₀ s) : Keeps s₀ (flowTouch n fwd i s) := onWire_keeps h
theorem noteFragment_keeps {n i} (h : Keeps s₀ s) : Keeps s₀ (noteFragment n i s) := .ite (onWire_keeps h) h

theorem throughFlow_keeps {n : Nat} {fl : Flow} {fwd : Bool} {i : Ip} {f : Frame} (h : Keeps s₀ s) :
    FateKeeps s₀ (throughFlow n fl fwd i f s) := by
  have hs : Keeps s₀ (flowTouch n fwd i (noteFragment n i s)) := flowTouch_keeps (noteFragment_keeps h)
  unfold throughFlow
  dsimp only
  split
  · exact .ok (dropFrame_keeps hs)
  · split
    · refine .ite (routeOut_keeps hs) ?_
      split
      · exact routeOut_keeps (flowTouch_keeps hs)
      · exact .ok (dropFrame_keeps hs)
    · exact routeOut_keeps hs

theorem holdBehind_keeps {t : Tuple} {f : Frame} (h : Keeps s₀ s) : FateKeeps s₀ (holdBehind t f s) := by
  unfold holdBehind
  refine .ite .error ?_
  split
  · exact .ok (poolDrop_keeps (toDram_keeps h))
  next g u hu => exact .ok (onWire_keeps (holdFrame_keeps h hu))

theorem startFlow_keeps {i : Ip} {f : Frame} (h : Keeps s₀ s) : FateKeeps s₀ (startFlow i f s) := by
  unfold startFlow
  dsimp only
  refine .ite (holdBehind_keeps h) (.ite .error (.ite .error ?_))
  split
  · exact .ok (poolDrop_keeps (toDram_keeps h))
  next g u hu =>
    have hc : Keeps s₀ (countPort f.ingress 45 1 u) := countPort_keeps (holdFrame_keeps h hu)
    refine .ite (.ite (.ok (onWire_keeps (airHold_keeps hc))) (.ok (unholdFrame_keeps (airHold_keeps hc)))) ?_
    exact .ok (queueItem_keeps (onWire_keeps hc))

theorem routeFrame_keeps {i f} (h : Keeps s₀ s) : FateKeeps s₀ (routeFrame i f s) := by
  unfold routeFrame
  exact .ite (.ok (dropFrame_keeps (countPort_keeps h))) (.ite (routeOut_keeps (.ite h (countPort_keeps h))) (.ite (by
    split
    · exact throughFlow_keeps (.ite h (countPort_keeps h))
    · split
      · exact holdBehind_keeps (.ite h (countPort_keeps h))
      · exact .ok (dropFrame_keeps (countPort_keeps (.ite h (countPort_keeps h))))) (by
      split
      · exact throughFlow_keeps (.ite h (countPort_keeps h))
      · split
        · dsimp only
          split
          · exact routeOut_keeps (flowTouch_keeps (.ite h (countPort_keeps h)))
          · exact .ok (dropFrame_keeps (.ite h (countPort_keeps h)))
        · exact routeOut_keeps (flowTouch_keeps (.ite h (countPort_keeps h)))
        · exact .ite (.ite (startFlow_keeps (.ite h (countPort_keeps h))) (.ite (slowPath_keeps (.ite h (countPort_keeps h))) (.ok (dropFrame_keeps (countPort_keeps (.ite h (countPort_keeps h))))))) (.ite (slowPath_keeps (.ite h (countPort_keeps h))) (startFlow_keeps (.ite h (countPort_keeps h)))))))

theorem policeFrame_keeps {n f i} (h : Keeps s₀ s) : Keeps s₀ (policeFrame n f i s).2 := by
  unfold policeFrame
  split
  · exact h
  · exact police_keeps h

theorem lookupFrame_keeps {f} (h : Keeps s₀ s) : FateKeeps s₀ (lookupFrame f s) := by
  unfold lookupFrame
  exact .ite (slowPath_keeps (learn_keeps h)) (.ite (slowPath_keeps (learn_keeps h)) (by
    split
    · exact .ite (routeFrame_keeps (learn_keeps h)) (.ok (bridge_keeps (learn_keeps h)))
    · exact .ok (bridge_keeps (learn_keeps h))))

theorem aclApply_keeps {n : Nat} {b : Bytes} {f : Frame} (h : Keeps s₀ s) : FateKeeps s₀ (aclApply n b f s) := by
  unfold aclApply
  dsimp only
  generalize hr : policeFrame _ _ _ _ = r
  have hk : Keeps s₀ r.2 := hr ▸ policeFrame_keeps (onWire_keeps h)
  split
  · exact .ok (dropFrame_keeps hk)
  · split
    · exact lookupFrame_keeps hk
    · exact .ok (dropFrame_keeps (countPort_keeps hk))
    · exact .ok (toPunt_keeps (dropFrame_keeps hk))
    · exact lookupFrame_keeps (toPunt_keeps hk)

theorem aclStage_keeps {f} (h : Keeps s₀ s) : FateKeeps s₀ (aclStage f s) := by
  unfold aclStage
  dsimp only
  split
  · exact .ok (dropFrame_keeps (policeFrame_keeps h))
  · split
    · exact aclApply_keeps (policeFrame_keeps h)
    · exact lookupFrame_keeps (policeFrame_keeps h)

theorem pipeline_keeps {f} (h : Keeps s₀ s) : FateKeeps s₀ (pipeline f s) := by
  unfold pipeline
  dsimp only
  split
  · exact .ok (dropFrame_keeps (countPort_keeps h))
  · exact .ite (.ok (dropFrame_keeps (countPort_keeps h))) (.ite (.ok (dropFrame_keeps h)) (aclStage_keeps h))

theorem countGood_keeps {p len b} (h : Keeps s₀ s) : Keeps s₀ (countGood p len b s) :=
  countPort_keeps (countPort_keeps (countPort_keeps h))

theorem enterLookup_keeps {p : Nat} {b : Bytes} {good : Bool} (h : Keeps s₀ s) : Keeps s₀ (enterLookup p b good s) := by
  unfold enterLookup
  dsimp only
  split
  · exact countPort_keeps h
  next t ht => exact onWire_keeps (takeCells_keeps h ht)

theorem macsecReceive_keeps {p : Nat} {b : Bytes} (h : Keeps s₀ s) : Keeps s₀ (macsecReceive p b s) := by
  unfold macsecReceive
  dsimp only
  refine .ite (enterLookup_keeps h) (.ite (countPort_keeps h) ?_)
  split
  · exact countPort_keeps h
  · refine .ite (countPort_keeps h) ?_
    split
    · exact countPort_keeps h
    next t ht => exact onPort_keeps (takeCells_keeps h ht)

theorem frameReceive_keeps {p b fcs} (h : Keeps s₀ s) : Keeps s₀ (frameReceive p b fcs s) := by
  unfold frameReceive
  exact .ite h (.ite (countPort_keeps h) (.ite h (.ite (countPort_keeps h) (.ite (countPort_keeps h) (.ite (.ite (countPort_keeps
    h) (enterLookup_keeps (countPort_keeps h))) (.ite (.ite (pauseReceive_keeps (countGood_keeps h)) (.ite (pfcReceive_keeps
    (countGood_keeps h)) (countGood_keeps h))) (.ite (umpFrame_keeps (countGood_keeps h)) (.ite (macsecReceive_keeps
    (countGood_keeps h)) (enterLookup_keeps (countGood_keeps h))))))))))

theorem execEthFrameReceive_keeps {port bytes fcs} : Reaches (.ethFrameReceive port bytes fcs) s (Keeps s) :=
  ⟨_, rfl, frameReceive_keeps .start⟩

theorem icvVerdict_keeps {p good plain} (h : Keeps s₀ s) : Keeps s₀ (icvVerdict p good plain s) := by
  unfold icvVerdict
  split
  · exact h
  · dsimp only
    split
    · exact countPort_keeps (freeFrame_keeps (onPort_keeps h))
    · exact .ite (countPort_keeps (freeFrame_keeps (onPort_keeps h))) (.ite (countPort_keeps (freeFrame_keeps (onPort_keeps h))) (settleXoff_keeps (onWire_keeps (onPort_keeps (onSecy_keeps (onPort_keeps h))))))

theorem execMacsecIcvVerdict_keeps {port good plain} : Reaches (.macsecIcvVerdict port good plain) s (Keeps s) :=
  ⟨_, rfl, icvVerdict_keeps .start⟩

theorem badFrame_keeps {f} (h : Keeps s₀ s) : Keeps s₀ (badFrame f s) := by
  unfold badFrame
  split
  · exact freeFrame_keeps h
  · split
    · exact emit_keeps (countPort_keeps (freeFrame_keeps h))
    · exact freeFrame_keeps h

theorem headBlocked_keeps {f cause} (h : Keeps s₀ s) : Keeps s₀ (headBlocked f cause s) := by
  unfold headBlocked
  exact .ite h (.ite (raiseLimited_keeps (.ite (onPort_keeps h) h)) (.ite (refuseClass_keeps (.ite (onPort_keeps h) h)) (.ite
    (onPort_keeps h) h)))

theorem popLookup_keeps {f} (h : Keeps s₀ s) : Keeps s₀ (popLookup f s) := .ite (onWire_keeps h) (onPort_keeps (onWire_keeps h))

theorem packetLookup_keeps {ingress prio : Nat} (h : Keeps s₀ s) : Keeps s₀ (packetLookup ingress prio s) := by
  unfold packetLookup
  split
  · exact h
  · refine .ite (badFrame_keeps (popLookup_keeps h)) ?_
    split
    next u hu => exact pipeline_keeps (popLookup_keeps h) u hu
    · exact headBlocked_keeps h

theorem execFwePacketLookup_keeps {ingress prio} : Reaches (.fwePacketLookup ingress prio) s (Keeps s) :=
  ⟨_, rfl, packetLookup_keeps .start⟩

theorem headTimeout_keeps {p prio} (h : Keeps s₀ s) : Keeps s₀ (headTimeout p prio s) := by
  unfold headTimeout
  split
  · exact h
  · exact .ite (freeFrame_keeps (onPort_keeps (countPort_keeps (popLookup_keeps h)))) h

theorem execHoldFifoHeadTimeout_keeps {port prio} : Reaches (.holdFifoHeadTimeout port prio) s (Keeps s) :=
  ⟨_, rfl, headTimeout_keeps .start⟩

theorem installFlow_keeps {f : Flow} {t : State} (h : Keeps s₀ s) (e : installFlow f s = some t) : Keeps s₀ t := by
  unfold installFlow at e
  split at e
  · cases e
  · obtain ⟨n, -, rfl⟩ := Option.map_eq_some_iff.mp e
    exact onWire_keeps h

theorem releaseHeld_keeps {f : Frame} (h : Keeps s₀ s) : Keeps s₀ (releaseHeld f s) := by
  have hu : Keeps s₀ (unholdFrame f s).2 := unholdFrame_keeps h
  unfold releaseHeld
  dsimp only
  split
  · exact hu
  · split
    · exact countPort_keeps hu
    · split
      next t ht => exact throughFlow_keeps hu t ht
      · exact .ite (refuseClass_keeps hu) hu

theorem refuseHeld_keeps {l} (h : Keeps s₀ s) : Keeps s₀ (refuseHeld l s) :=
  .foldl (fun _ _ h => countPort_keeps (unholdFrame_keeps h)) _ h

theorem noPorts_keeps {iface} (h : Keeps s₀ s) : Keeps s₀ (noPorts iface s) := raiseLimited_keeps (onWire_keeps h)
theorem flowFull_keeps (h : Keeps s₀ s) : Keeps s₀ (flowFull s) := raiseLimited_keeps (onWire_keeps h)

theorem setupFlow_keeps {v : Nat} {t : Tuple} {i : Ip} {pick : Nat} {u : State} (h : Keeps s₀ s)
    (e : setupFlow v t i pick s = .done u) : Keeps s₀ u := by
  have hi {f : Flow} {x u : State} (hx : Keeps s₀ x) (e : (match installFlow f x with | some y => Setup.done y | none => .full) = .done u) :
      Keeps s₀ u := by
    split at e
    next y hy => cases e; exact installFlow_keeps hx hy
    · cases e
  unfold setupFlow at e
  dsimp only at e
  split at e
  · split at e
    · exact hi h e
    · split at e <;> exact hi h e
  · split at e
    · exact hi h e
    · split at e
      · cases e
      · split at e
        · cases e
        · split at e
          next y hy =>
            have hk := hi h hy
            split at e
            · cases e; exact hk
            · split at e
              · cases e; exact hk
              · exact hi hk e
          next x hx => exact hi h e

theorem flowSetupDone_keeps {core pick : Nat} (h : Keeps s₀ s) : Keeps s₀ (flowSetupDone core pick s) := by
  unfold flowSetupDone
  dsimp only
  split
  · split
    · exact h
    · refine .ite (.foldl (fun _ _ h => releaseHeld_keeps h) _ (onWire_keeps h)) ?_
      split
      · exact refuseHeld_keeps (onWire_keeps h)
      · split
        next u hu => exact .foldl (fun _ _ h => releaseHeld_keeps h) _ (setupFlow_keeps (onWire_keeps h) hu)
        · exact flowFull_keeps (refuseHeld_keeps (onWire_keeps h))
        · exact noPorts_keeps (refuseHeld_keeps (onWire_keeps h))
  · exact h

theorem execFlowSetupDone_keeps {core pick} : Reaches (.flowSetupDone core pick) s (Keeps s) :=
  ⟨_, rfl, flowSetupDone_keeps .start⟩

theorem execFlowAgeOut_keeps {index} : Reaches (.flowAgeOut index) s (Keeps s) :=
  ⟨_, rfl, .ite (removeFlow_keeps .start) .start⟩

theorem execNatFragmentExpiry_keeps {src dst ident} : Reaches (.natFragmentExpiry src dst ident) s (Keeps s) :=
  ⟨_, rfl, onWire_keeps .start⟩

theorem icmpError_keeps {kind b} (h : Keeps s₀ s) : Keeps s₀ (icmpError kind b s) := .ite (emit_keeps (onWire_keeps h)) h

theorem overMtu_keeps {i iface mac f} (h : Keeps s₀ s) : Keeps s₀ (overMtu i iface mac f s) :=
  .ite (icmpError_keeps h) (.foldl (fun _ _ h => by
    split
    · exact emitRouted_keeps h
    · exact h) _ h)

theorem coreSend_keeps {i iface mac f} (h : Keeps s₀ s) : Keeps s₀ (coreSend i iface mac f s) :=
  .ite (icmpError_keeps (countPort_keeps h)) (.ite (overMtu_keeps h) (emitRouted_keeps h))

theorem resolved_keeps {iface a mac} (h : Keeps s₀ s) : Keeps s₀ (resolved iface a mac s) := by
  unfold resolved
  split
  · exact h
  · exact .foldl (fun _ _ h => by
      dsimp only
      split
      · exact coreSend_keeps (freeFrame_keeps h)
      · exact freeFrame_keeps h) _ (onHop_keeps h)

theorem resolveStep_keeps {f} (h : Keeps s₀ s) : Keeps s₀ (resolveStep f s) := by
  unfold resolveStep
  split
  · exact h
  · split
    · exact icmpError_keeps (countPort_keeps h)
    · exact .ite h (by
        split
        · split
          · exact coreSend_keeps h
          · exact .ite (icmpError_keeps (countPort_keeps h)) (.ite (.ite (poolDrop_keeps h) (onHop_keeps (onQme_keeps h))) (countPort_keeps h))
        · exact .ite (countPort_keeps h) (.ite (poolDrop_keeps (emit_keeps (onWire_keeps h))) (onHop_keeps (onQme_keeps (emit_keeps (onWire_keeps h))))))

theorem execNextHopResolveRetry_keeps {iface addr} : Reaches (.nextHopResolveRetry iface addr) s (Keeps s) :=
  ⟨_, rfl, by
    dsimp only
    split
    · exact .start
    · exact .ite .start (.ite (emit_keeps (onHop_keeps .start)) (.foldl (fun _ _ h => icmpError_keeps (countPort_keeps (freeFrame_keeps h))) _ (onHop_keeps .start)))⟩

theorem execNextHopUnreachableEnd_keeps {iface addr} : Reaches (.nextHopUnreachableEnd iface addr) s (Keeps s) :=
  ⟨_, rfl, onWire_keeps .start⟩

theorem neighbour_keeps {f} (h : Keeps s₀ s) : Keeps s₀ (neighbour f s) := by
  unfold neighbour
  exact .ite (bridge_keeps (.ite (emit_keeps (resolved_keeps h)) (resolved_keeps h))) (.ite (emit_keeps (resolved_keeps h))
    (resolved_keeps h))

theorem groupMember_keeps {v a join f} (h : Keeps s₀ s) : Keeps s₀ (groupMember v a join f s) := onWire_keeps h

theorem snoop_keeps {f} (h : Keeps s₀ s) : Keeps s₀ (snoop f s) := by
  unfold snoop
  split
  · exact h
  · exact bridge_keeps (.foldl (fun _ _ h => groupMember_keeps h) _ h)

theorem ownTraffic_keeps {f} (h : Keeps s₀ s) : Keeps s₀ (ownTraffic f s) := by
  unfold ownTraffic
  split
  · exact h
  · exact .ite (countPort_keeps h) (.ite (.ite (countPort_keeps h) h) (.ite (emit_keeps h) h))

theorem serveFrame_keeps {f why} (h : Keeps s₀ s) : Keeps s₀ (serveFrame f why s) := by
  unfold serveFrame
  dsimp only
  split
  · exact neighbour_keeps (unholdFrame_keeps h)
  · exact resolveStep_keeps (unholdFrame_keeps h)
  · exact icmpError_keeps (unholdFrame_keeps h)
  · exact icmpError_keeps (unholdFrame_keeps h)
  · exact resolveStep_keeps (unholdFrame_keeps h)
  · exact resolveStep_keeps (unholdFrame_keeps h)
  · exact icmpError_keeps (unholdFrame_keeps h)
  · exact ownTraffic_keeps (unholdFrame_keeps h)
  · exact resolveStep_keeps (unholdFrame_keeps h)
  · exact snoop_keeps (unholdFrame_keeps h)

theorem dropOversize_keeps {p k : Nat} {l : List Frame} (h : Keeps s₀ s) : Keeps s₀ (dropOversize p k l s) := by
  induction l generalizing s with
  | nil => exact h
  | cons f r ih =>
    unfold dropOversize
    exact .ite (ih (injectFate_keeps (freeFrame_keeps (leaveCells_keeps (onQueue_keeps h))))) h

theorem deficitRound_keeps {p : Nat} {w : List Nat} {fuel k : Nat} (h : Keeps s₀ s) : Keeps s₀ (deficitRound p w fuel k s).2 := by
  induction fuel generalizing s k with
  | zero => exact h
  | succ fuel ih =>
    unfold deficitRound
    exact .snd_ite (onQme_keeps (onQueue_keeps h)) (ih (.ite h (.ite (onQueue_keeps h) (.ite (onQueue_keeps h) h))))

theorem pickQueue_keeps {p} (h : Keeps s₀ s) : Keeps s₀ (pickQueue p s).2 := by
  unfold pickQueue
  split
  · exact h
  · exact .snd_ite (deficitRound_keeps h) h

theorem advancePn_keeps {p an pn} (h : Keeps s₀ s) : Keeps s₀ (advancePn p an pn s) :=
  .ite (raise_keeps (onSecy_keeps h)) (onSecy_keeps h)

theorem sendHead_keeps {p k q} (h : Keeps s₀ s) : Keeps s₀ (sendHead p k q s) := by
  unfold sendHead
  split
  · exact h
  · exact .ite (settleShapers_keeps (injectFate_keeps (freeFrame_keeps (countPort_keeps (settleClosed_keeps (onQueue_keeps (leaveCells_keeps h))))))) (.ite (by
      split
      · exact settleShapers_keeps (injectFate_keeps (freeFrame_keeps (countPort_keeps (settleClosed_keeps (onQueue_keeps (leaveCells_keeps h))))))
      · exact settleShapers_keeps (emit_keeps (onPort_keeps (.ite (countPort_keeps (advancePn_keeps (settleClosed_keeps (onQueue_keeps (leaveCells_keeps h))))) (charge_keeps (charge_keeps (countPort_keeps (advancePn_keeps (settleClosed_keeps (onQueue_keeps (leaveCells_keeps h))))))))))) (settleShapers_keeps (emit_keeps (onPort_keeps (.ite (settleClosed_keeps (onQueue_keeps (leaveCells_keeps h))) (charge_keeps (charge_keeps (settleClosed_keeps (onQueue_keeps (leaveCells_keeps h))))))))))

theorem txStart_keeps {p} (h : Keeps s₀ s) : Keeps s₀ (txStart p s) := by
  unfold txStart
  exact .ite h (.ite (sendHead_keeps h) (by
    dsimp only
    split
    · exact sendHead_keeps (pickQueue_keeps (.foldl (fun _ _ h => dropOversize_keeps h) _ h))
    · exact pickQueue_keeps (.foldl (fun _ _ h => dropOversize_keeps h) _ h)))

theorem execEmacTxStart_keeps {port} : Reaches (.emacTxStart port) s (Keeps s) := ⟨_, rfl, txStart_keeps .start⟩

theorem txEnd_keeps {p} (h : Keeps s₀ s) : Keeps s₀ (txEnd p s) := by
  unfold txEnd
  split
  · exact h
  · exact flushPause_keeps (injectFate_keeps (freeFrame_keeps (.ite (countPort_keeps (countPort_keeps (countPort_keeps (countPort_keeps (onPort_keeps h))))) (countPort_keeps (countPort_keeps (countPort_keeps (onPort_keeps h)))))))

theorem execEmacTxEnd_keeps {port} : Reaches (.emacTxEnd port) s (Keeps s) := ⟨_, rfl, txEnd_keeps .start⟩

/-! ### Rings -/

theorem awaitDma_keeps {r entry index} (h : Keeps s₀ s) : Keeps s₀ (awaitDma r entry index s) := onRing_keeps h.with

theorem dropPunt_keeps {r} (h : Keeps s₀ s) : Keeps s₀ (dropPunt r s) := by
  unfold dropPunt
  dsimp only
  split
  · exact h
  · exact freeFrame_keeps (leaveCells_keeps (onQueue_keeps h))

theorem puntFill_keeps {r e} (h : Keeps s₀ s) : Keeps s₀ (puntFill r e s) := by
  unfold puntFill
  split
  · exact h
  · exact .ite (dropPunt_keeps (onRing_keeps h)) (ringSignal_keeps (dropPunt_keeps (onRing_keeps (emit_keeps (emit_keeps h)))))

theorem execPuntEntryFill_keeps {ring entry fail} : Reaches (.puntEntryFill ring entry fail) s (Keeps s) :=
  ⟨_, rfl, .ite .start (.ite (puntFill_keeps .start) (awaitDma_keeps .start))⟩

theorem injectDone_keeps {r i status} (h : Keeps s₀ s) : Keeps s₀ (injectDone r i status s) := onRing_keeps h

theorem injectFrame_keeps {r i e frame} (h : Keeps s₀ s) : Keeps s₀ (injectFrame r i e frame s) := by
  unfold injectFrame
  exact .ite (injectDone_keeps h) (by
    split
    · exact injectDone_keeps (onWire_keeps h)
    · exact .ite (injectDone_keeps h) (toPort_keeps h)
    · exact .ite (injectDone_keeps h) (toStation_keeps h)
    · exact .ite (injectDone_keeps h) (toGroup_keeps h))

theorem injectOpen_keeps {r e} (h : Keeps s₀ s) : Keeps s₀ (injectOpen r e s) := onRing_keeps h

theorem execInjectEntryProcess_keeps {ring entry frame fail} : Reaches (.injectEntryProcess ring entry frame fail) s
    (Keeps s) :=
  ⟨_, rfl, .ite .start (by
    split
    · exact injectFrame_keeps (injectOpen_keeps .start)
    · exact awaitDma_keeps .start
    · exact awaitDma_keeps (injectOpen_keeps .start))⟩

theorem injectCompletion_keeps {r} (h : Keeps s₀ s) : Keeps s₀ (injectCompletion r s) := by
  unfold injectCompletion
  split
  · exact h
  · exact .ite (onRing_keeps h) (.ite h (ringSignal_keeps (onRing_keeps (emit_keeps h))))

theorem execInjectCompletion_keeps {ring} : Reaches (.injectCompletion ring) s (Keeps s) :=
  ⟨_, rfl, injectCompletion_keeps .start⟩

/-! ### Nimbus -/

theorem onDsp_keeps {f} (h : Keeps s₀ s) : Keeps s₀ (onDsp f s) := h.with
theorem setNimbus_keeps {n c} (h : Keeps s₀ s) : Keeps s₀ (setNimbus n c s) := onDsp_keeps h

theorem endKernel_keeps {n end_ addr : Nat} (h : Keeps s₀ s) : Keeps s₀ (endKernel n end_ addr s) := by
  unfold endKernel
  dsimp only
  split
  · exact h
  · have hx {t} (ht : Keeps s₀ t) : Keeps s₀ (releaseCore (16 + n) (setNimbus n .reset t)) := releaseCore_keeps (setNimbus_keeps ht)
    split
    · exact .ite (hx (.ite h (emit_keeps h))) (raise_keeps (hx (.ite h (emit_keeps h))))
    · exact endAsync_keeps (.ite (hx (.ite h (emit_keeps h))) (raise_keeps (hx (.ite h (emit_keeps h)))))

theorem bundleIssue_keeps {n} (h : Keeps s₀ s) : Keeps s₀ (bundleIssue n s) := by
  unfold bundleIssue
  exact .ite h (by
    dsimp only
    split
    · exact .ite (endKernel_keeps (setNimbus_keeps h)) (setNimbus_keeps h)
    · exact endKernel_keeps (setNimbus_keeps h))

theorem execBundleIssue_keeps {core} : Reaches (.bundleIssue core) s (Keeps s) := ⟨_, rfl, bundleIssue_keeps .start⟩

theorem execKernelCycleLimit_keeps {core} : Reaches (.kernelCycleLimit core) s (Keeps s) :=
  ⟨_, rfl, .ite (endKernel_keeps .start) .start⟩

theorem execLoopCountExpiry_keeps {core} : Reaches (.loopCountExpiry core) s (Keeps s) :=
  ⟨_, rfl, .ite (setNimbus_keeps .start) .start⟩

theorem startKernel_keeps {n slot via tag} (h : Keeps s₀ s) : Keeps s₀ (startKernel n slot via tag s) := by
  unfold startKernel
  split
  · exact passPoint_keeps (setNimbus_keeps (onDsp_keeps h))
  · exact releaseCore_keeps h

theorem dspLoadKernel_keeps {u} (h : Keeps s₀ s) : Keeps s₀ (dspLoadKernel u s).st := judge_keeps h (accept_keeps h)

theorem execDspLoadKernel_keeps {m} : Reaches (.dspLoadKernel m) s (Keeps s) :=
  ⟨_, rfl, serve_keeps (fun _ _ _ h => dspLoadKernel_keeps h) (.refl _)⟩

theorem kernelLoadDone_keeps {hw} (h : Keeps s₀ s) : Keeps s₀ (kernelLoadDone hw s) := by
  unfold kernelLoadDone
  split
  · exact h
  · exact .ite (endAsync_keeps h) (by
      split
      · exact endAsync_keeps (feltWrite_keeps (onDsp_keeps h))
      · exact endAsync_keeps (feltWrite_keeps (by
          split
          · exact onDsp_keeps h
          · exact onDsp_keeps h
          · exact h)))

theorem execKernelLoadDone_keeps {hw} : Reaches (.kernelLoadDone hw) s (Keeps s) := ⟨_, rfl, kernelLoadDone_keeps .start⟩

theorem dspRun_keeps {u} (h : Keeps s₀ s) : Keeps s₀ (dspRun u s).st :=
  judge_keeps h (queueItem_keeps (onDsp_keeps (accept_keeps h)))

theorem execDspRun_keeps {m} : Reaches (.dspRun m) s (Keeps s) :=
  ⟨_, rfl, serve_keeps (fun _ _ _ h => dspRun_keeps h) (.refl _)⟩

/-! ### Dispatcher -/

theorem complete_keeps {e} (h : Keeps s₀ s) : Keeps s₀ (complete e s) := flushHold_keeps (onTds_keeps h)

theorem endHost_keeps {wanted cookie status cls key index bytes cut} (h : Keeps s₀ s) : Keeps s₀ (endHost wanted cookie
    status cls key index bytes cut s) := by
  unfold endHost
  exact .ite (complete_keeps h) (onTds_keeps h)

theorem stopConsuming_keeps {stopped} (h : Keeps s₀ s) : Keeps s₀ (stopConsuming stopped s) := onTds_keeps h

theorem consumeItem_keeps {e payload} (h : Keeps s₀ s) : Keeps s₀ (consumeItem e payload s) := by
  unfold consumeItem
  exact .ite (stopConsuming_keeps h) (.ite (endHost_keeps (onTds_keeps (onTds_keeps (onRing_keeps (stopConsuming_keeps h)))))
    (queueItem_keeps (onTds_keeps (onRing_keeps (stopConsuming_keeps h)))))

theorem execWorkItemConsume_keeps {entry payload fail} : Reaches (.workItemConsume entry payload fail) s (Keeps s) :=
  ⟨_, rfl, .ite .start (.ite (stopConsuming_keeps .start) (.ite (awaitDma_keeps .start) (consumeItem_keeps .start)))⟩

theorem hostHandler_keeps {code : Nat} {payload : Bytes} {x : (Ump → State → Reply) × Bool} (e : hostHandler code payload = some x) :
    HandlerKeeps x.1 := by
  unfold hostHandler at e
  split at e <;> cases e
  · exact fun _ _ _ h => fwdRouteSet_keeps h
  · exact fun _ _ _ h => fwdAclSet_keeps h
  · exact fun _ _ _ h => fwdFlowQuery_keeps h

theorem runHost_keeps {cls code len crc : Nat} {payload : Bytes} {force wanted : Bool} {key result limit cookie index : Nat} {wr : Retry}
    (h : Keeps s₀ s) : Keeps s₀ (runHost cls code len crc payload force wanted key result limit cookie index wr s) := by
  unfold runHost
  dsimp only
  split
  · exact endHost_keeps h
  next f writes hf =>
    have hx := hostHandler_keeps hf { via := .pcie 0, flags := b2n force, length := len, payload := payload } h
    refine .ite (endHost_keeps h) (.ite (endHost_keeps h) (.ite (endHost_keeps hx) ?_))
    split
    · exact endHost_keeps (emit_keeps hx)
    · exact endHost_keeps (dmaFault_keeps (emit_keeps hx))
    · exact endHost_keeps (dmaFault_keeps hx)

theorem startItem_keeps {core} (h : Keeps s₀ s) : Keeps s₀ (startItem core s) := by
  unfold startItem
  exact .ite h (by
    split
    · exact h
    · dsimp only
      split
      · exact startKernel_keeps (settleClass_keeps (onClass_keeps (onTds_keeps h)))
      · exact settleClass_keeps (onClass_keeps (onTds_keeps h)))

theorem execWorkItemStart_keeps {core} : Reaches (.workItemStart core) s (Keeps s) := ⟨_, rfl, startItem_keeps .start⟩
theorem newPrecoder_keeps {h ok} (k : Keeps s₀ s) : Keeps s₀ (newPrecoder h ok s) := .ite (onStation_keeps k) k

theorem endItem_keeps {core wr} (h : Keeps s₀ s) : Keeps s₀ (endItem core wr s) := by
  unfold endItem
  split
  · exact h
  · exact .ite h (by
      split
      · exact runHost_keeps (releaseCore_keeps h)
      · exact .ite h (releaseCore_keeps h)
      · exact serveFrame_keeps (releaseCore_keeps h)
      · exact releaseCore_keeps h
      · exact newPrecoder_keeps (releaseCore_keeps h)
      · exact h)

theorem execWorkItemEnd_keeps {core wr} : Reaches (.workItemEnd core wr) s (Keeps s) := ⟨_, rfl, endItem_keeps .start⟩

theorem dmaRetry_keeps {ok entry data} (h : Keeps s₀ s) : Keeps s₀ (dmaRetry ok entry data s) := by
  unfold dmaRetry
  split
  · exact h
  · exact .ite (onRing_keeps (retryRecord_keeps h.with)) (.ite (.ite (puntFill_keeps (onRing_keeps (retryRecord_keeps h.with))) (.ite (ringStop_keeps (onRing_keeps (retryRecord_keeps h.with))) (dropPunt_keeps (onRing_keeps (onRing_keeps (retryRecord_keeps h.with)))))) (.ite (.ite (.ite (injectFrame_keeps (injectOpen_keeps (retryRecord_keeps h.with))) (ringStop_keeps (retryRecord_keeps h.with))) (.ite (injectFrame_keeps (retryRecord_keeps h.with)) (injectDone_keeps (retryRecord_keeps h.with)))) (.ite (consumeItem_keeps (onRing_keeps (retryRecord_keeps h.with))) (onTds_keeps (ringStop_keeps (onRing_keeps (retryRecord_keeps h.with)))))))

theorem execDmaRetry_keeps {ok entry data} : Reaches (.dmaRetry ok entry data) s (Keeps s) := ⟨_, rfl, dmaRetry_keeps .start⟩
theorem hostRingReply_keeps {op} (h : Keeps s₀ s) : Keeps s₀ (hostRingReply op s).st := h

theorem tdsSetHostRing_keeps {u} (h : Keeps s₀ s) : Keeps s₀ (tdsSetHostRing u s).st :=
  judge_keeps h (.reply_ite (judge_keeps h (hostRingReply_keeps h)) (judge_keeps h (hostRingReply_keeps (onTds_keeps h))))

theorem execTdsSetHostRing_keeps {m} : Reaches (.tdsSetHostRing m) s (Keeps s) :=
  ⟨_, rfl, serve_keeps (fun _ _ _ h => tdsSetHostRing_keeps h) (.refl _)⟩

theorem onGroup_keeps {g f} (h : Keeps s₀ s) : Keeps s₀ (onGroup g f s) := onTds_keeps h

theorem clearPeaks_keeps {page c} (h : Keeps s₀ s) : Keeps s₀ (clearPeaks page c s) := by
  unfold clearPeaks
  split
  · exact onClass_keeps h
  · exact .foldl (fun _ _ h => onGroup_keeps h) _ h
  · exact h

theorem tdsGetStats_keeps {u} (h : Keeps s₀ s) : Keeps s₀ (tdsGetStats u s).st := judge_keeps h (.ite (clearPeaks_keeps h) h)

theorem execTdsGetStats_keeps {m} : Reaches (.tdsGetStats m) s (Keeps s) :=
  ⟨_, rfl, serve_keeps (fun _ _ _ h => tdsGetStats_keeps h) (.refl _)⟩

theorem runThread_keeps {g c t behind} (h : Keeps s₀ s) : Keeps s₀ (runThread g c t behind s) := onGroup_keeps h

theorem threadReady_keeps {g id priority bound} (h : Keeps s₀ s) : Keeps s₀ (threadReady g id priority bound s) := by
  unfold threadReady
  exact .ite h (by
    dsimp only
    split
    · exact runThread_keeps h
    · exact onGroup_keeps h)

theorem execThreadReady_keeps {group id priority bound} : Reaches (.threadReady group id priority bound) s (Keeps s) :=
  ⟨_, rfl, threadReady_keeps .start⟩

theorem sliceExpiry_keeps {g c} (h : Keeps s₀ s) : Keeps s₀ (sliceExpiry g c s) := by
  unfold sliceExpiry
  dsimp only
  split
  · exact h
  · split
    · exact runThread_keeps h
    · exact h

theorem execTimeSliceExpiry_keeps {group core} : Reaches (.timeSliceExpiry group core) s (Keeps s) :=
  ⟨_, rfl, sliceExpiry_keeps .start⟩

theorem coreHalt_keeps {core cause pc} (h : Keeps s₀ s) : Keeps s₀ (coreHalt core cause pc s) := by
  unfold coreHalt
  exact .ite h (.ite (.ite h (setFault_keeps (raise_keeps (onTds_keeps h)))) (.ite h (.ite (onPower_keeps (onPower_keeps h))
    (setFault_keeps (raise_keeps (onPower_keeps h))))))

theorem execFirmwareCoreHalt_keeps {core cause pc} : Reaches (.firmwareCoreHalt core cause pc) s (Keeps s) :=
  ⟨_, rfl, coreHalt_keeps .start⟩

/-! ### Drizzle -/

theorem keepOne_keeps {code u} (h : Keeps s₀ s) : Keeps s₀ (keepOne code u s) := cfgKeepIf_keeps h

theorem drzSetChannel_keeps {u} (h : Keeps s₀ s) : Keeps s₀ (drzSetChannel u s).st :=
  judge_keeps h (.reply_ite h (keepOne_keeps (onDrz_keeps h)))

theorem execDrzSetChannel_keeps {m} : Reaches (.drzSetChannel m) s (Keeps s) :=
  ⟨_, rfl, serve_keeps (fun _ _ _ h => drzSetChannel_keeps h) (.refl _)⟩

theorem drzSetCsl_keeps {u} (h : Keeps s₀ s) : Keeps s₀ (drzSetCsl u s).st :=
  judge_keeps h (.reply_ite h (keepOne_keeps (onDrz_keeps h)))

theorem execDrzSetCsl_keeps {m} : Reaches (.drzSetCsl m) s (Keeps s) :=
  ⟨_, rfl, serve_keeps (fun _ _ _ h => drzSetCsl_keeps h) (.refl _)⟩

theorem drzSetMesh_keeps {u} (h : Keeps s₀ s) : Keeps s₀ (drzSetMesh u s).st :=
  judge_keeps h (.ite h (keepOne_keeps (onDrz_keeps h)))

theorem execDrzSetMesh_keeps {m} : Reaches (.drzSetMesh m) s (Keeps s) :=
  ⟨_, rfl, serve_keeps (fun _ _ _ h => drzSetMesh_keeps h) (.refl _)⟩

theorem onNode_keeps {n f} (h : Keeps s₀ s) : Keeps s₀ (onNode n f s) := onDrz_keeps h

theorem drzNodeSet_keeps {u} (h : Keeps s₀ s) : Keeps s₀ (drzNodeSet u s).st := by
  unfold drzNodeSet
  exact judge_keeps h (by
    split
    · exact judge_keeps h (cfgKeepIf_keeps (onDrz_keeps h))
    · exact judge_keeps h (cfgDelete_keeps (onDrz_keeps h))
    · exact judge_keeps h h)

theorem execDrzNodeSet_keeps {m} : Reaches (.drzNodeSet m) s (Keeps s) :=
  ⟨_, rfl, serve_keeps (fun _ _ _ h => drzNodeSet_keeps h) (.refl _)⟩

theorem drzSend_keeps {u} (h : Keeps s₀ s) : Keeps s₀ (drzSend u s).st :=
  judge_keeps h (accept_keeps (enterCells_keeps (onDrz_keeps h)))

theorem execDrzSend_keeps {m} : Reaches (.drzSend m) s (Keeps s) :=
  ⟨_, rfl, serve_keeps (fun _ _ _ h => drzSend_keeps h) (.refl _)⟩

theorem drzReplace_keeps {f g} (h : Keeps s₀ s) : Keeps s₀ (drzReplace f g s) := onDrz_keeps h

theorem drzFinish_keeps {f status} (h : Keeps s₀ s) : Keeps s₀ (drzFinish f status s) :=
  .ite (drzEnd_keeps (freeCells_keeps (onDrz_keeps h))) (drzEnd_keeps (drzLeave_keeps (onDrz_keeps h)))

theorem drzPa_keeps {us} (h : Keeps s₀ s) : Keeps s₀ (drzPa us s) := onDrz_keeps h

theorem drzCount_keeps {key hw} (h : Keeps s₀ s) : Keeps s₀ (drzCount key hw s) := by
  unfold drzCount
  exact .ite (onDrz_keeps h) (by
    dsimp only
    split
    · exact feltWrite_keeps (onDrz_keeps h)
    · exact onDrz_keeps (feltWrite_keeps (onDrz_keeps h)))

theorem drzStart_keeps {f : DrzFrame} {us : Nat} {hw : Retry} (h : Keeps s₀ s) : Keeps s₀ (drzStart f us hw s) := by
  unfold drzStart
  dsimp only
  refine .ite (drzFinish_keeps h) (.ite (drzFinish_keeps h) (.ite (drzFinish_keeps h) ?_))
  have hp {t} (ht : Keeps s₀ t) : Keeps s₀ (match f.owner with
      | some o => passPoint 0x0C04 (fun a => a.via == o.1 && a.tag == o.2) t
      | none => t) := by
    split
    · exact passPoint_keeps ht
    · exact ht
  have hs : Keeps s₀ (if s.drz.exchange != some f then leaveCells (drzQueueId f.queue) (cellsOf f.payload.length)
      (onDrz (fun d => { d with queue := d.queue.erase f }) s) else s) := .ite (leaveCells_keeps (onDrz_keeps h)) h
  have ho := hp hs
  exact .ite_emit (drzPa_keeps (onDrz_keeps (.ite (drzCount_keeps ho) ho)))

theorem drzLose_keeps {f} (h : Keeps s₀ s) : Keeps s₀ (drzLose f s) := drzFinish_keeps (raise_keeps (onNode_keeps h))

theorem drzBackoff_keeps {level us hw} (h : Keeps s₀ s) : Keeps s₀ (drzBackoff level us hw s) := by
  unfold drzBackoff
  dsimp only
  split
  · exact h
  · exact .ite h (.ite (.ite (drzFinish_keeps h) (drzReplace_keeps h)) (.ite (drzReplace_keeps h) (.ite (drzLose_keeps (drzReplace_keeps h)) (drzStart_keeps (onDrz_keeps (drzReplace_keeps h))))))

theorem execDrzCsmaBackoffEnd_keeps {level us hw} : Reaches (.drzCsmaBackoffEnd level us hw) s (Keeps s) :=
  ⟨_, rfl, drzBackoff_keeps .start⟩

theorem drzRendezvous_keeps {us hw} (h : Keeps s₀ s) : Keeps s₀ (drzRendezvous us hw s) := by
  unfold drzRendezvous
  dsimp only
  split
  · exact h
  · exact .ite h (drzStart_keeps (onDrz_keeps h))

theorem execDrzRendezvousStart_keeps {us hw} : Reaches (.drzRendezvousStart us hw) s (Keeps s) :=
  ⟨_, rfl, drzRendezvous_keeps .start⟩

theorem drzFollow_keeps {f us hw} (h : Keeps s₀ s) : Keeps s₀ (drzFollow f us hw s) := by
  unfold drzFollow
  split
  · exact h
  · dsimp only
    split
    · exact onDrz_keeps (drzStart_keeps (onDrz_keeps (drzReplace_keeps h)))
    · exact drzStart_keeps (onDrz_keeps (drzReplace_keeps h))

theorem drzTxEnd_keeps {us hw} (h : Keeps s₀ s) : Keeps s₀ (drzTxEnd us hw s) := by
  unfold drzTxEnd
  split
  · exact h
  · exact .ite h (.ite (onDrz_keeps (emit_keeps h)) (drzFollow_keeps (drzFinish_keeps (onDrz_keeps (emit_keeps h)))))

theorem execDrzFrameTxEnd_keeps {us hw} : Reaches (.drzFrameTxEnd us hw) s (Keeps s) := ⟨_, rfl, drzTxEnd_keeps .start⟩
theorem drzHeard_keeps {i csl rssi lqi} (h : Keeps s₀ s) : Keeps s₀ (drzHeard i csl rssi lqi s) := onNode_keeps h

theorem drzAck_keeps {csl rssi lqi us hw} (h : Keeps s₀ s) : Keeps s₀ (drzAck csl rssi lqi us hw s) := by
  unfold drzAck
  split
  · exact h
  · exact .ite h (drzFollow_keeps (drzFinish_keeps (drzHeard_keeps h)))

theorem execDrzAckReceive_keeps {csl rssi lqi us hw} : Reaches (.drzAckReceive csl rssi lqi us hw) s (Keeps s) :=
  ⟨_, rfl, drzAck_keeps .start⟩

theorem drzAckMiss_keeps (h : Keeps s₀ s) : Keeps s₀ (drzAckMiss s) := by
  unfold drzAckMiss
  split
  · exact h
  · exact .ite h (by
      dsimp only
      split
      · exact .ite (drzReplace_keeps h) (drzFinish_keeps h)
      · exact drzReplace_keeps (onNode_keeps h)
      · exact .ite (drzLose_keeps (drzReplace_keeps (onNode_keeps h))) (drzReplace_keeps (onNode_keeps h)))

theorem execDrzAckTimeout_keeps : Reaches .drzAckTimeout s (Keeps s) := ⟨_, rfl, drzAckMiss_keeps .start⟩
theorem drzRetune_keeps (h : Keeps s₀ s) : Keeps s₀ (drzRetune s) := .ite h (onDrz_keeps h)

theorem execDrzChannelChangeApply_keeps : Reaches .drzChannelChangeApply s (Keeps s) :=
  ⟨_, rfl, .ite (drzRetune_keeps .start) .start⟩

theorem drzSample_keeps (h : Keeps s₀ s) : Keeps s₀ (drzSample s) := .ite h (onDrz_keeps h)
theorem execDrzCslSample_keeps : Reaches .drzCslSample s (Keeps s) := ⟨_, rfl, drzSample_keeps .start⟩
theorem drzSecEvent_keeps {node} (h : Keeps s₀ s) : Keeps s₀ (drzSecEvent node s) := raiseLimited_keeps h

theorem drzRefuse_keeps {step node} (h : Keeps s₀ s) : Keeps s₀ (drzRefuse step node s) :=
  drzSecEvent_keeps (by
    split
    · exact onNode_keeps (onDrz_keeps h)
    · exact onDrz_keeps h)

theorem drzTableFull_keeps {table} (h : Keeps s₀ s) : Keeps s₀ (drzTableFull table s) := raiseLimited_keeps (onDrz_keeps h)

theorem drzLearn_keeps {f : DrzRx} {n : Nat} {x : Nat × State} (h : Keeps s₀ s) (e : drzLearn f n s = some x) : Keeps s₀ x.2 := by
  unfold drzLearn at e
  split at e
  · cases e
  · rw [← Option.some.inj e]
    exact onDrz_keeps h

theorem drzJudge_keeps {f : DrzRx} (h : Keeps s₀ s) : Keeps s₀ (drzJudge f s).2 := by
  unfold drzJudge
  dsimp only
  refine .snd_ite ?_ ?_
  · split
    · split
      · exact drzTableFull_keeps h
      next r hr => exact drzRefuse_keeps (drzLearn_keeps h hr)
    · exact drzRefuse_keeps h
  · split
    · exact .snd_ite (drzRefuse_keeps h) (.snd_ite (drzRefuse_keeps h) (onNode_keeps h))
    · split
      · split
        · exact drzTableFull_keeps h
        next r hr => exact .snd_ite (drzRefuse_keeps (drzLearn_keeps h hr)) (onNode_keeps (drzLearn_keeps h hr))
      · exact drzRefuse_keeps h

theorem drzDeliver_keeps {f node acked} (h : Keeps s₀ s) : Keeps s₀ (drzDeliver f node acked s) := toPunt_keeps h
theorem drzSee_keeps {e} (h : Keeps s₀ s) : Keeps s₀ (drzSee e s) := .ite (onDrz_keeps h) (drzTableFull_keeps (onDrz_keeps h))

theorem drzDuplicate_keeps {e} (h : Keeps s₀ s) : Keeps s₀ (drzDuplicate e s) := by
  unfold drzDuplicate
  dsimp only
  split
  · exact onDrz_keeps (onDrz_keeps h)
  · exact onDrz_keeps h

theorem drzFlood_keeps {f node acked} (h : Keeps s₀ s) : Keeps s₀ (drzFlood f node acked s) := by
  unfold drzFlood
  exact .ite (drzDuplicate_keeps h) (.ite (onDrz_keeps (drzDeliver_keeps (drzSee_keeps h))) (.ite (drzDeliver_keeps (drzSee_keeps
    h)) (onDrz_keeps (drzDeliver_keeps (drzSee_keeps h)))))

theorem drzAccept_keeps {f node} (h : Keeps s₀ s) : Keeps s₀ (drzAccept f node s) := by
  unfold drzAccept
  exact .ite (drzFlood_keeps (.ite (drzPa_keeps (emit_keeps h)) h)) (.ite (.ite (drzPa_keeps (emit_keeps h)) h) (drzDeliver_keeps
    (.ite (drzPa_keeps (emit_keeps h)) h)))

theorem drzReceive_keeps {f} (h : Keeps s₀ s) : Keeps s₀ (drzReceive f s) := by
  unfold drzReceive
  exact .ite h (.ite (by
    split
    · exact drzHeard_keeps h
    · exact h) (.ite (.ite (drzRefuse_keeps (by
    split
    · exact drzHeard_keeps h
    · exact h)) (drzAccept_keeps (by
      split
      · exact drzHeard_keeps h
      · exact h))) (by
      dsimp only
      split
      · exact drzAccept_keeps (drzJudge_keeps (by
          split
          · exact drzHeard_keeps h
          · exact h))
      · exact drzJudge_keeps (by
          split
          · exact drzHeard_keeps h
          · exact h))))

theorem execDrzFrameReceive_keeps {f} : Reaches (.drzFrameReceive f) s (Keeps s) := ⟨_, rfl, drzReceive_keeps .start⟩

theorem drzRelay_keeps {origin seq} (h : Keeps s₀ s) : Keeps s₀ (drzRelay origin seq s) := by
  unfold drzRelay
  split
  · exact h
  · dsimp only
    split
    · exact onDrz_keeps (enterCells_keeps (onDrz_keeps h))
    · exact countEnterDrop_keeps (onDrz_keeps h)

theorem execDrzFloodRelay_keeps {origin seq} : Reaches (.drzFloodRelay origin seq) s (Keeps s) :=
  ⟨_, rfl, drzRelay_keeps .start⟩

theorem execDrzSeenCacheAging_keeps {origin seq} : Reaches (.drzSeenCacheAging origin seq) s (Keeps s) :=
  ⟨_, rfl, onDrz_keeps .start⟩

theorem drzPowerDown_keeps (h : Keeps s₀ s) : Keeps s₀ (drzPowerDown s) :=
  onDrz_keeps (by
    split
    · exact drzFinish_keeps (drzDrop_keeps h)
    · exact drzDrop_keeps h)

/-! ### Spectrum -/

theorem dutyDenial_keeps {n} (h : Keeps s₀ s) : Keeps s₀ (dutyDenial n s) := raiseLimited_keeps (onSlice_keeps h)
theorem paStarts_keeps {n us} (h : Keeps s₀ s) : Keeps s₀ (paStarts n us s) := onSlice_keeps h
theorem paStops_keeps {n} (h : Keeps s₀ s) : Keeps s₀ (paStops n s) := onSlice_keeps h
theorem paTimedOut_keeps {n} (h : Keeps s₀ s) : Keeps s₀ (paTimedOut n s) := onSlice_keeps h
theorem onPair_keeps {a b f} (h : Keeps s₀ s) : Keeps s₀ (onPair a b f s) := h.with
theorem onHalo_keeps {v a f} (h : Keeps s₀ s) : Keeps s₀ (onHalo v a f s) := .ite h.with h.with

theorem haloChange_keeps {n} (h : Keeps s₀ s) : Keeps s₀ (haloChange n s) :=
  .foldl (fun _ _ h => onPair_keeps (onHalo_keeps (onHalo_keeps h))) _ h

theorem pairsCommit_keeps (h : Keeps s₀ s) : Keeps s₀ (pairsCommit s) := .foldl (fun _ _ h => onPair_keeps h) _ h
theorem pairsStart_keeps (h : Keeps s₀ s) : Keeps s₀ (pairsStart s) := .foldl (fun _ _ h => onPair_keeps h) _ h
theorem settleHaloWait_keeps {n} (h : Keeps s₀ s) : Keeps s₀ (settleHaloWait n s) := .ite (onSlice_keeps h) h

theorem haloTraffic_keeps {n us} (h : Keeps s₀ s) : Keeps s₀ (haloTraffic n us s) :=
  .foldl (fun _ _ h => by
    split
    · exact h
    · exact .ite (onHalo_keeps h) (onHalo_keeps h)) _ (onSlice_keeps h)

/-! ### Access -/

theorem doubleCw_keeps {n ac} (h : Keeps s₀ s) : Keeps s₀ (doubleCw n ac s) := onMac_keeps h
theorem resetCw_keeps {n ac} (h : Keeps s₀ s) : Keeps s₀ (resetCw n ac s) := onMac_keeps h
theorem markUse_keeps (h : Keeps s₀ s) : Keeps s₀ (markUse s) := onMls_keeps h

theorem mgmtEnd_keeps {n f status} (h : Keeps s₀ s) : Keeps s₀ (mgmtEnd n f status s) := by
  unfold mgmtEnd
  dsimp only
  split
  · exact settleDeletes_keeps (endDisconnect_keeps (removeStation_keeps (onMac_keeps h)))
  · split
    · exact onMac_keeps h
    · exact .ite (onBss_keeps (onMac_keeps h)) (finishDelete_keeps (onBss_keeps (onMac_keeps h)))
  · exact onMac_keeps h

theorem lockedFrames_keeps {n} (h : Keeps s₀ s) : Keeps s₀ (lockedFrames n s) := by
  unfold lockedFrames
  exact .foldl (fun _ _ h => .ite h (lockedStation_keeps h)) _ (.foldl (fun _ _ h => by
    split
    · exact queueMgmt_keeps (onMac_keeps h)
    · exact mgmtEnd_keeps h) _ h)

theorem mgmtFailed_keeps {n f} (h : Keeps s₀ s) : Keeps s₀ (mgmtFailed n f s) := .ite (mgmtEnd_keeps h) (onMac_keeps h)
theorem attemptFailed_keeps {h m} (k : Keeps s₀ s) : Keeps s₀ (attemptFailed h m s) := .ite (dropMpdu_keeps k) (onStation_keeps k)

theorem startTxop_keeps {n t} (h : Keeps s₀ s) : Keeps s₀ (startTxop n t s) :=
  markUse_keeps (by
    split
    · exact onMls_keeps (onMac_keeps h)
    · exact onMac_keeps h)

theorem undoTxop_keeps {n} (h : Keeps s₀ s) : Keeps s₀ (undoTxop n s) := by
  unfold undoTxop
  split
  · exact h
  · exact markUse_keeps (by
      split
      · exact .ite (onMac_keeps h) (onMls_keeps (onMac_keeps h))
      · exact onMac_keeps h)

theorem deferRequest_keeps {n ac what} (h : Keeps s₀ s) : Keeps s₀ (deferRequest n ac what s) := .ite h (onSlice_keeps h)

theorem requestTx_keeps {n ac} (h : Keeps s₀ s) : Keeps s₀ (requestTx n ac s) := by
  unfold requestTx
  split
  · split
    · exact deferRequest_keeps h
    · exact h
  · split
    · exact h
    · exact .ite (lockedFrames_keeps h) (.ite h (startTxop_keeps h))
  · exact h

theorem internalCollision_keeps {n ac} (h : Keeps s₀ s) : Keeps s₀ (internalCollision n s ac) := by
  unfold internalCollision
  dsimp only
  split
  · exact doubleCw_keeps h
  · split
    · split
      · exact settleShapers_keeps (attemptFailed_keeps (doubleCw_keeps h))
      · exact doubleCw_keeps h
    · split
      · exact mgmtFailed_keeps (doubleCw_keeps h)
      · exact doubleCw_keeps h
    · exact doubleCw_keeps h

theorem backoffEnd_keeps {n ends} (h : Keeps s₀ s) : Keeps s₀ (backoffEnd n ends s) := by
  unfold backoffEnd
  dsimp only
  split
  · exact h
  · exact .ite (requestTx_keeps h) (.foldl (fun _ _ h => internalCollision_keeps h) _ (requestTx_keeps h))

theorem noteCca_keeps {n l} (h : Keeps s₀ s) : Keeps s₀ (noteCca n l s) := onMac_keeps h

theorem execEdcaBackoffEnd_keeps {slice ends cca} : Reaches (.edcaBackoffEnd slice ends cca) s (Keeps s) :=
  ⟨_, rfl, backoffEnd_keeps (noteCca_keeps .start)⟩

theorem execTxDeferExpiry_keeps {slice ac} : Reaches (.txDeferExpiry slice ac) s (Keeps s) :=
  ⟨_, rfl, by
    dsimp only
    split
    · exact onSlice_keeps .start
    · exact .start⟩

theorem wakeDeferred_keeps {n} (h : Keeps s₀ s) : Keeps s₀ (wakeDeferred n s) :=
  .ite (onSlice_keeps h) (.ite (onSlice_keeps (requestTx_keeps (onSlice_keeps h))) (requestTx_keeps (onSlice_keeps h)))

theorem failDeferred_keeps {n} (h : Keeps s₀ s) : Keeps s₀ (failDeferred n s) := onSlice_keeps h

/-! ### Crown -/

theorem touch_keeps {h dirty} (k : Keeps s₀ s) : Keeps s₀ (touch h dirty s) := onMls_keeps k
theorem evict_keeps {deadline e} (h : Keeps s₀ s) : Keeps s₀ (evict deadline e s) := onMls_keeps h

theorem trimPool_keeps {deadline extra k : Nat} (h : Keeps s₀ s) : Keeps s₀ (trimPool deadline extra k s) := by
  induction k generalizing s with
  | zero => exact h
  | succ k ih =>
    unfold trimPool
    refine .ite h ?_
    split
    · exact ih (evict_keeps h)
    · exact h

theorem onCrownStats_keeps {f} (h : Keeps s₀ s) : Keeps s₀ (onCrownStats f s) := onMls_keeps h

theorem stageUser_keeps {deadline h} (k : Keeps s₀ s) : Keeps s₀ (stageUser deadline s h) :=
  .ite k (onCrownStats_keeps (onMls_keeps (trimPool_keeps k)))

theorem serveWaiting_keeps {k : Nat} (h : Keeps s₀ s) : Keeps s₀ (serveWaiting k s) := by
  induction k generalizing s with
  | zero => exact h
  | succ k ih =>
    unfold serveWaiting
    split
    · exact h
    · refine .ite (ih (onMls_keeps h)) ?_
      split
      · exact ih (onMls_keeps (evict_keeps h))
      · exact h

theorem crownIssue_keeps {k : Nat} (h : Keeps s₀ s) : Keeps s₀ (crownIssue k s) := by
  induction k generalizing s with
  | zero => exact h
  | succ k ih =>
    unfold crownIssue
    refine .ite h ?_
    split
    · exact h
    · exact ih (onMls_keeps h)

theorem crownGo_keeps (h : Keeps s₀ s) : Keeps s₀ (crownGo s) := crownIssue_keeps (trimPool_keeps h)

theorem demandFetch_keeps {h} (k : Keeps s₀ s) : Keeps s₀ (demandFetch h s) := by
  unfold demandFetch
  exact .ite k (crownGo_keeps (.ite (onCrownStats_keeps (onMls_keeps (serveWaiting_keeps (onCrownStats_keeps (onMls_keeps k)))))
    (serveWaiting_keeps (onCrownStats_keeps (onMls_keeps k)))))

theorem commitCrown_keeps {c} (h : Keeps s₀ s) : Keeps s₀ (commitCrown c s) :=
  crownGo_keeps (.foldl (fun _ _ h => stageUser_keeps h) _ (onMls_keeps h))

theorem stageNext_keeps {n free p} (h : Keeps s₀ s) : Keeps s₀ (stageNext n free p s).2 := by
  unfold stageNext
  split
  · exact h
  · exact .foldl (fun _ _ h => stageUser_keeps h) _ h

/-! ### Radio -/

theorem onRadio_keeps {f} (h : Keeps s₀ s) : Keeps s₀ (onRadio f s) := h.with
theorem commitShared_keeps (h : Keeps s₀ s) : Keeps s₀ (commitShared s) := (pairsCommit_keeps h).with
theorem startShared_keeps (h : Keeps s₀ s) : Keeps s₀ (startShared s) := (pairsStart_keeps h).with

theorem windowsFollow_keeps (h : Keeps s₀ s) : Keeps s₀ (windowsFollow s) :=
  .ite (onMls_keeps h) (.ite (onMls_keeps (commitCrown_keeps (startShared_keeps (commitShared_keeps h)))) h)

theorem driveFem_keeps {n} (h : Keeps s₀ s) : Keeps s₀ (driveFem n s) := onSlice_keeps h
theorem onCounters_keeps {n f} (h : Keeps s₀ s) : Keeps s₀ (onCounters n f s) := onSlice_keeps h
theorem toSearch_keeps {n} (h : Keeps s₀ s) : Keeps s₀ (toSearch n s) := driveFem_keeps (onSlice_keeps h)
theorem unblank_keeps {n} (h : Keeps s₀ s) : Keeps s₀ (unblank n s) := .foldl (fun _ _ h => .ite (toSearch_keeps h) h) _ h

theorem endCapture_keeps {n} (h : Keeps s₀ s) : Keeps s₀ (endCapture n s) := by
  unfold endCapture
  dsimp only
  split
  · exact endAsync_keeps (onSlice_keeps h)
  · exact onSlice_keeps h

theorem unfix_keeps {e} (h : Keeps s₀ s) : Keeps s₀ (unfix s e) := onStation_keeps h

theorem loseAttempt_keeps {e} (h : Keeps s₀ s) : Keeps s₀ (loseAttempt s e) := by
  unfold loseAttempt
  split
  · exact attemptFailed_keeps h
  · exact h

theorem releaseFixed_keeps {n : Nat} (h : Keeps s₀ s) : Keeps s₀ (releaseFixed n s) := by
  unfold releaseFixed
  split
  · exact h
  · refine .ite (onMac_keeps h) (settleShapers_keeps (.foldl (fun t x h => ?_) _ (onMac_keeps h)))
    split
    · exact loseAttempt_keeps h
    · exact unfix_keeps h

theorem markEnd_keeps {n stamp cause} (h : Keeps s₀ s) : Keeps s₀ (markEnd n stamp cause s) := onAir_keeps (onMls_keeps h)

theorem cutReception_keeps {n cause} (h : Keeps s₀ s) : Keeps s₀ (cutReception n cause s) := by
  unfold cutReception
  split
  · exact h
  · exact onSlice_keeps (.ite h (markEnd_keeps h))

theorem cutTx_keeps {n} (h : Keeps s₀ s) : Keeps s₀ (cutTx n s) := .ite (unblank_keeps (onSlice_keeps (paStops_keeps h))) h

theorem leaveReady_keeps {n off} (h : Keeps s₀ s) : Keeps s₀ (leaveReady n off s) := by
  unfold leaveReady
  exact markUse_keeps (onMls_keeps (onModem_keeps (onAir_keeps (onMac_keeps (onSlice_keeps (onMac_keeps (.ite (.ite (cutTx_keeps
    (cutReception_keeps h)) (cutReception_keeps h)) (releaseFixed_keeps (.ite (cutTx_keeps (cutReception_keeps h))
    (cutReception_keeps h))))))))))

theorem enterState_keeps {n st} (h : Keeps s₀ s) : Keeps s₀ (enterState n st s) := by
  unfold enterState
  exact windowsFollow_keeps (.ite (endCapture_keeps (toSearch_keeps (onSlice_keeps (.ite (failDeferred_keeps (.ite
    (leaveReady_keeps h) h)) (.ite (leaveReady_keeps h) h))))) (toSearch_keeps (onSlice_keeps (.ite (failDeferred_keeps (.ite
    (leaveReady_keeps h) h)) (.ite (leaveReady_keeps h) h)))))

theorem onChain_keeps {n i f} (h : Keeps s₀ s) : Keeps s₀ (onChain n i f s) := onSlice_keeps h

theorem autoTune_keeps {n i r} (h : Keeps s₀ s) : Keeps s₀ (autoTune n i r s) := by
  unfold autoTune
  dsimp only
  split
  · exact onChain_keeps h
  · exact onChain_keeps (transientFault_keeps h)
  · exact lastingFault_keeps (onChain_keeps h)

theorem tuneAll_keeps {n tune} (h : Keeps s₀ s) : Keeps s₀ (tuneAll n tune s) :=
  .foldl (fun _ _ h => autoTune_keeps (onChain_keeps h)) _ h

theorem enterBand_keeps {n i b tune} (h : Keeps s₀ s) : Keeps s₀ (enterBand n i b tune s) := by
  unfold enterBand
  dsimp only
  split
  · exact .ite (haloChange_keeps (onChain_keeps h)) (onChain_keeps h)
  · exact .ite (raise_keeps (.ite (haloChange_keeps (onChain_keeps h)) (onChain_keeps h))) (haloChange_keeps (autoTune_keeps (raise_keeps (.ite (haloChange_keeps (onChain_keeps h)) (onChain_keeps h)))))
  · exact raise_keeps (.ite (haloChange_keeps (onChain_keeps h)) (onChain_keeps h))
  · exact raise_keeps (.ite (haloChange_keeps (onChain_keeps h)) (onChain_keeps h))

theorem measureChain_keeps {n i g tune} (h : Keeps s₀ s) : Keeps s₀ (measureChain n i g tune s) := by
  unfold measureChain
  dsimp only
  split
  · exact onChain_keeps h
  · exact .ite (enterBand_keeps (onChain_keeps h)) (.ite (onChain_keeps h) (.ite (.ite (enterBand_keeps (onChain_keeps h)) (onChain_keeps (onChain_keeps h))) (onChain_keeps (onChain_keeps h))))

theorem measureGamma_keeps {n gamma tune} (h : Keeps s₀ s) : Keeps s₀ (measureGamma n gamma tune s) :=
  .ite (lockedFrames_keeps (.foldl (fun _ _ h => measureChain_keeps h) _ h)) (.foldl (fun _ _ h => measureChain_keeps h) _ h)

theorem endCal_keeps {n status discarded} (h : Keeps s₀ s) : Keeps s₀ (endCal n status discarded s) := by
  unfold endCal
  split
  · exact h
  · dsimp only
    split
    · exact endAsync_keeps (setAsync_keeps (onSlice_keeps h))
    · exact onSlice_keeps h

theorem discardCal_keeps {n} (h : Keeps s₀ s) : Keeps s₀ (discardCal n s) := endCal_keeps (onSlice_keeps h)

theorem withdrawCal_keeps {n status} (h : Keeps s₀ s) : Keeps s₀ (withdrawCal n status s) := by
  unfold withdrawCal
  split
  · exact h
  · exact endCal_keeps (onSlice_keeps h)

theorem settleCal_keeps {n} (h : Keeps s₀ s) : Keeps s₀ (settleCal n s) := by
  unfold settleCal
  split
  · exact h
  · exact .ite h (endCal_keeps h)

theorem calibrationDue_keeps {n kind temp} (h : Keeps s₀ s) : Keeps s₀ (calibrationDue n kind temp s) :=
  .ite (onSlice_keeps h) (onSlice_keeps (onSlice_keeps h))

theorem execCalibrationDue_keeps {slice kind temp} : Reaches (.calibrationDue slice kind temp) s (Keeps s) :=
  ⟨_, rfl, calibrationDue_keeps .start⟩

theorem calStepStart_keeps {n} (h : Keeps s₀ s) : Keeps s₀ (calStepStart n s) := by
  unfold calStepStart
  dsimp only
  split
  · exact .ite h (.ite (refuseClass_keeps h) (.ite (passPoint_keeps (onSlice_keeps h)) (onSlice_keeps h)))
  · exact h

theorem execCalibrationStepStart_keeps {slice} : Reaches (.calibrationStepStart slice) s (Keeps s) :=
  ⟨_, rfl, calStepStart_keeps .start⟩

theorem noteKind_keeps {n kind f} (h : Keeps s₀ s) : Keeps s₀ (noteKind n kind f s) := onSlice_keeps h
theorem noteStepEnd_keeps {n kind} (h : Keeps s₀ s) : Keeps s₀ (noteStepEnd n kind s) := onSlice_keeps h

theorem calStepDone_keeps {n ok temp} (h : Keeps s₀ s) : Keeps s₀ (calStepDone n ok temp s) := by
  unfold calStepDone
  split
  · exact h
  · exact .ite (.ite (.ite (noteKind_keeps (transientFault_keeps (noteStepEnd_keeps (onSlice_keeps h)))) (noteStepEnd_keeps (onSlice_keeps h))) (.ite (onSlice_keeps (.ite (noteKind_keeps (transientFault_keeps (noteStepEnd_keeps (onSlice_keeps h)))) (noteStepEnd_keeps (onSlice_keeps h)))) (settleCal_keeps (onRadio_keeps (onSlice_keeps (noteKind_keeps (.ite (noteKind_keeps (transientFault_keeps (noteStepEnd_keeps (onSlice_keeps h)))) (noteStepEnd_keeps (onSlice_keeps h))))))))) (.ite (.ite (noteStepEnd_keeps (onSlice_keeps h)) (onSlice_keeps (noteStepEnd_keeps (onSlice_keeps h)))) (settleCal_keeps (lastingFault_keeps (onSlice_keeps (noteKind_keeps (noteStepEnd_keeps (onSlice_keeps h)))))))

theorem execCalibrationStepDone_keeps {slice ok temp} : Reaches (.calibrationStepDone slice ok temp) s (Keeps s) :=
  ⟨_, rfl, calStepDone_keeps .start⟩

theorem endSetChannel_keeps {n status payload retried} (h : Keeps s₀ s) : Keeps s₀ (endSetChannel n status payload retried
    s) := by
  unfold endSetChannel
  split
  · exact h
  · exact .ite (endAsync_keeps (setAsync_keeps h)) (cfgKeep_keeps (cfgDrop_keeps (endAsync_keeps (setAsync_keeps h))))

theorem stopSlice_keeps {n} (h : Keeps s₀ s) : Keeps s₀ (stopSlice n s) := haloChange_keeps (enterState_keeps (onSlice_keeps h))

theorem runReached_keeps (h : Keeps s₀ s) : Keeps s₀ (runReached s) :=
  .ite h (by
    dsimp only
    split
    · exact endAsync_keeps (raise_keeps (onPower_keeps h))
    · exact raise_keeps (onPower_keeps h))

theorem beginHop_keeps {n tune} (h : Keeps s₀ s) : Keeps s₀ (beginHop n tune s) := by
  unfold beginHop
  split
  · exact h
  · dsimp only
    split
    · exact runReached_keeps (endSetChannel_keeps (stopSlice_keeps (discardCal_keeps (passPoint_keeps h))))
    · exact haloChange_keeps (tuneAll_keeps (enterState_keeps (onSlice_keeps (discardCal_keeps (passPoint_keeps h)))))

theorem execChannelChangeApply_keeps {slice tune} : Reaches (.channelChangeApply slice tune) s (Keeps s) :=
  ⟨_, rfl, .ite (beginHop_keeps .start) .start⟩

theorem becomeReady_keeps {n} (h : Keeps s₀ s) : Keeps s₀ (becomeReady n s) := by
  unfold becomeReady
  exact wakeDeferred_keeps (settleHaloWait_keeps (.ite (lockedFrames_keeps (raise_keeps (enterState_keeps h))) (raise_keeps
    (enterState_keeps h))))

theorem tuningDone_keeps {n calUs} (h : Keeps s₀ s) : Keeps s₀ (tuningDone n calUs s) := by
  unfold tuningDone
  split
  · exact h
  · exact runReached_keeps (.ite (endSetChannel_keeps (enterState_keeps (onSlice_keeps h))) (becomeReady_keeps (endSetChannel_keeps (enterState_keeps (onSlice_keeps h)))))

theorem tuningFails_keeps {n cause kind calUs} (h : Keeps s₀ s) : Keeps s₀ (tuningFails n cause kind calUs s) := by
  unfold tuningFails
  split
  · exact h
  · exact runReached_keeps (endSetChannel_keeps (enterState_keeps (onSlice_keeps (lastingFault_keeps h))))

theorem synthLocked_keeps {n lockUs retried} (h : Keeps s₀ s) : Keeps s₀ (synthLocked n lockUs retried s) :=
  .ite (onSlice_keeps h) (tuningDone_keeps (onSlice_keeps h))

theorem execSynthLock_keeps {slice lockUs} : Reaches (.synthLock slice lockUs) s (Keeps s) :=
  ⟨_, rfl, .ite (synthLocked_keeps .start) .start⟩

theorem execSynthLockRetry_keeps {slice ok lockUs} : Reaches (.synthLockRetry slice ok lockUs) s (Keeps s) :=
  ⟨_, rfl, .ite .start (.ite (synthLocked_keeps (transientFault_keeps .start)) (tuningFails_keeps (onSlice_keeps .start)))⟩

theorem execTuningCalibrationDone_keeps {slice hw kind calUs temp} : Reaches (.tuningCalibrationDone slice hw kind calUs
    temp) s (Keeps s) :=
  ⟨_, rfl, .ite .start (by
    dsimp only
    split
    · exact tuningDone_keeps (onSlice_keeps .start)
    · exact tuningDone_keeps (onSlice_keeps (transientFault_keeps (onSlice_keeps .start)))
    · exact tuningFails_keeps (onSlice_keeps .start))⟩

theorem execCacElapsed_keeps {slice} : Reaches (.cacElapsed slice) s (Keeps s) :=
  ⟨_, rfl, .ite (becomeReady_keeps .start) .start⟩

theorem moveTo_keeps {n c} (h : Keeps s₀ s) : Keeps s₀ (moveTo n c s) := onSlice_keeps h
theorem markStruck_keeps {c} (h : Keeps s₀ s) : Keeps s₀ (markStruck c s) := onRadio_keeps h

theorem radarDetected_keeps {n tune} (h : Keeps s₀ s) : Keeps s₀ (radarDetected n tune s) := by
  unfold radarDetected
  dsimp only
  split
  · exact h
  · exact .ite h (.ite (beginHop_keeps (.ite (markStruck_keeps (raise_keeps (onSlice_keeps h))) (moveTo_keeps (markStruck_keeps (raise_keeps (onSlice_keeps h)))))) (markUse_keeps (onMac_keeps (onMls_keeps (onAir_keeps (onSlice_keeps (raise_keeps (onSlice_keeps h))))))))

theorem execRadarDetected_keeps {slice tune} : Reaches (.radarDetected slice tune) s (Keeps s) :=
  ⟨_, rfl, radarDetected_keeps .start⟩

theorem radarMoves_keeps {n tune} (h : Keeps s₀ s) : Keeps s₀ (radarMoves n tune s) := by
  unfold radarMoves
  exact .ite h (.ite (beginHop_keeps (.ite (onMac_keeps (onSlice_keeps (by
    split
    · exact markStruck_keeps h
    · exact h)))
    (moveTo_keeps (onMac_keeps (onSlice_keeps (by
      split
      · exact markStruck_keeps h
      · exact h)))))) (.ite (onMac_keeps
    (onSlice_keeps (by
      split
      · exact markStruck_keeps h
      · exact h))) (moveTo_keeps (onMac_keeps (onSlice_keeps (by
      split
      · exact markStruck_keeps h
      · exact h))))))

theorem execRadarChannelMove_keeps {slice tune} : Reaches (.radarChannelMove slice tune) s (Keeps s) :=
  ⟨_, rfl, radarMoves_keeps .start⟩

theorem execNonOccupancyEnd_keeps {width centre} : Reaches (.nonOccupancyEnd width centre) s (Keeps s) :=
  ⟨_, rfl, onRadio_keeps .start⟩

theorem txTimeout_keeps {n} (h : Keeps s₀ s) : Keeps s₀ (txTimeout n s) := by
  unfold txTimeout
  split
  · exact h
  · exact lockedFrames_keeps (.ite (withdrawCal_keeps (raise_keeps (markUse_keeps (onMls_keeps (onRadio_keeps (unblank_keeps (driveFem_keeps (onSlice_keeps (releaseFixed_keeps (onMac_keeps (paTimedOut_keeps h))))))))))) (raise_keeps (markUse_keeps (onMls_keeps (onRadio_keeps (unblank_keeps (driveFem_keeps (onSlice_keeps (releaseFixed_keeps (onMac_keeps (paTimedOut_keeps h)))))))))))

theorem execTxTmoExpiry_keeps {slice} : Reaches (.txTmoExpiry slice) s (Keeps s) := ⟨_, rfl, txTimeout_keeps .start⟩

theorem haloSuccess_keeps {v a} (h : Keeps s₀ s) : Keeps s₀ (haloSuccess v a s) :=
  settleHaloWait_keeps (settleHaloWait_keeps (.ite (raise_keeps (onPair_keeps (onHalo_keeps h))) (onHalo_keeps h)))

theorem haloTick_keeps {v a} (h : Keeps s₀ s) : Keeps s₀ (haloTick v a s) := by
  unfold haloTick
  exact .ite (onHalo_keeps h) (.ite h (.ite (onHalo_keeps h) (.ite (.ite (haloSuccess_keeps h) h) (.ite (onHalo_keeps
    (refuseClass_keeps h)) (onHalo_keeps h)))))

theorem execHaloTrainingTick_keeps : Reaches .haloTrainingTick s (Keeps s) :=
  ⟨_, rfl, .foldl (fun _ _ h => onSlice_keeps h) _ (.foldl (fun _ _ h => .foldl (fun _ _ h => haloTick_keeps h) _ h) _
    .start)⟩

theorem execHaloTrainingDone_keeps {victim aggressor ok coeff} : Reaches (.haloTrainingDone victim aggressor ok coeff) s
    (Keeps s) :=
  ⟨_, rfl, .ite .start (.ite (haloSuccess_keeps (onHalo_keeps (.ite (transientFault_keeps .start) .start))) (.ite
    (settleHaloWait_keeps (settleHaloWait_keeps (lastingRecord_keeps (onHalo_keeps .start)))) (onHalo_keeps .start)))⟩

theorem execHaloFallback_keeps {a b} : Reaches (.haloFallback a b) s (Keeps s) :=
  ⟨_, rfl, .ite .start (raise_keeps (settleHaloWait_keeps (settleHaloWait_keeps (onPair_keeps (onHalo_keeps (onHalo_keeps
    (.foldl (fun _ _ h => onHalo_keeps h) _ .start)))))))⟩

theorem setChannel_keeps {u} (h : Keeps s₀ s) : Keeps s₀ (setChannel u s).st := judge_keeps h (accept_keeps (onSlice_keeps h))

theorem execRadSetChannel_keeps {m} : Reaches (.radSetChannel m) s (Keeps s) :=
  ⟨_, rfl, serve_keeps (fun _ _ _ h => setChannel_keeps h) (.refl _)⟩

theorem getStatus_keeps {u} (h : Keeps s₀ s) : Keeps s₀ (getStatus u s).st := judge_keeps h h

theorem execRadGetStatus_keeps {m} : Reaches (.radGetStatus m) s (Keeps s) :=
  ⟨_, rfl, serve_keeps (fun _ _ _ h => getStatus_keeps h) (.refl _)⟩

theorem calibrate_keeps {u} (h : Keeps s₀ s) : Keeps s₀ (calibrate u s).st := judge_keeps h (accept_keeps (onSlice_keeps h))

theorem execRadCalibrate_keeps {m} : Reaches (.radCalibrate m) s (Keeps s) :=
  ⟨_, rfl, serve_keeps (fun _ _ _ h => calibrate_keeps h) (.refl _)⟩

theorem setTxLimits_keeps {u} (h : Keeps s₀ s) : Keeps s₀ (setTxLimits u s).st := by
  unfold setTxLimits
  exact judge_keeps h (cfgKeep_keeps (.ite (lockedFrames_keeps (.ite (haloChange_keeps (onSlice_keeps h)) (onSlice_keeps h)))
    (.ite (haloChange_keeps (onSlice_keeps h)) (onSlice_keeps h))))

theorem execRadSetTxLimits_keeps {m} : Reaches (.radSetTxLimits m) s (Keeps s) :=
  ⟨_, rfl, serve_keeps (fun _ _ _ h => setTxLimits_keeps h) (.refl _)⟩

theorem setStr_keeps {u} (h : Keeps s₀ s) : Keeps s₀ (setStr u s).st := judge_keeps h (cfgKeepIf_keeps (onPair_keeps h))

theorem execRadSetStr_keeps {m} : Reaches (.radSetStr m) s (Keeps s) :=
  ⟨_, rfl, serve_keeps (fun _ _ _ h => setStr_keeps h) (.refl _)⟩

theorem cfgPorts_keeps {n ports} (h : Keeps s₀ s) : Keeps s₀ (cfgPorts n ports s) := cfgDrop_keeps (onMem_keeps h)

theorem onPorts_keeps {u0 ports f} (hf : ∀ {x0 t}, Keeps s₀ t → Keeps s₀ (f x0 t)) (h : Keeps s₀ s) : Keeps s₀ (onPorts u0
    ports f s) := by
  unfold onPorts
  exact .foldl (fun _ _ h => .ite (hf h) h) _ h

theorem retunePorts_keeps {n ports codes hw} (h : Keeps s₀ s) : Keeps s₀ (retunePorts n ports codes hw s) :=
  .foldl (fun _ _ h => autoTune_keeps (onChain_keeps h)) _ h

theorem retuneFails_keeps {n ports} (h : Keeps s₀ s) : Keeps s₀ (retuneFails n ports s) := by
  unfold retuneFails
  split
  · exact autoTune_keeps h
  · exact h

theorem tunerCtl_keeps {u} (h : Keeps s₀ s) : Keeps s₀ (tunerCtl u s).st := by
  unfold tunerCtl
  exact judge_keeps h (by
    dsimp only
    split
    · split
      · exact retuneFails_keeps h
      · exact replyHw_keeps (cfgPorts_keeps (haloChange_keeps (retunePorts_keeps h)))
    · exact onMem_keeps (cfgPorts_keeps (onPorts_keeps (fun h => (onChain_keeps h)) h))
    · exact cfgPorts_keeps (onPorts_keeps (fun h => (onChain_keeps h)) h)
    · exact onMem_keeps (cfgPorts_keeps (haloChange_keeps (onPorts_keeps (fun h => (onChain_keeps h)) h)))
    · exact onPorts_keeps (fun h => (onChain_keeps h)) h
    · exact cfgKeepIf_keeps (onSlice_keeps h)
    · exact cfgKeepIf_keeps (onSlice_keeps h))

theorem execRadTunerCtl_keeps {m} : Reaches (.radTunerCtl m) s (Keeps s) :=
  ⟨_, rfl, serve_keeps (fun _ _ _ h => tunerCtl_keeps h) (.refl _)⟩

theorem regulationStops_keeps {n} (h : Keeps s₀ s) : Keeps s₀ (regulationStops n s) :=
  .ite (endSetChannel_keeps (discardCal_keeps (stopSlice_keeps h))) (onSlice_keeps (discardCal_keeps (stopSlice_keeps h)))

theorem regulationChanged_keeps (h : Keeps s₀ s) : Keeps s₀ (regulationChanged s) :=
  raise_keeps (.foldl (fun _ _ h => regulationStops_keeps h) _ h)

theorem loadRegdomain_keeps {u} (h : Keeps s₀ s) : Keeps s₀ (loadRegdomain u s).st :=
  judge_keeps h (replyFelt_keeps h (regulationChanged_keeps (onRadio_keeps h)))

theorem execRadLoadRegdomain_keeps {m} : Reaches (.radLoadRegdomain m) s (Keeps s) :=
  ⟨_, rfl, serve_keeps (fun _ _ _ h => loadRegdomain_keeps h) (.refl _)⟩

theorem lockLlt_keeps {u} (h : Keeps s₀ s) : Keeps s₀ (lockLlt u s).st :=
  judge_keeps h (replyFelt_keeps h (regulationChanged_keeps (onMem_keeps (onRadio_keeps h))))

theorem execRadLockLlt_keeps {m} : Reaches (.radLockLlt m) s (Keeps s) :=
  ⟨_, rfl, serve_keeps (fun _ _ _ h => lockLlt_keeps h) (.refl _)⟩

theorem radSelfTest_keeps {u} (h : Keeps s₀ s) : Keeps s₀ (radSelfTest u s).st :=
  judge_keeps h (passPoint_keeps (accept_keeps (onSlice_keeps h)))

theorem execRadSelfTest_keeps {m} : Reaches (.radSelfTest m) s (Keeps s) :=
  ⟨_, rfl, serve_keeps (fun _ _ _ h => radSelfTest_keeps h) (.refl _)⟩

theorem execSelfTestDone_keeps {slice bist loop} : Reaches (.selfTestDone slice bist loop) s (Keeps s) :=
  ⟨_, rfl, by
    dsimp only
    split
    · exact .start
    · exact endAsync_keeps (onSlice_keeps .start)⟩

theorem clearTxLock_keeps {u} (h : Keeps s₀ s) : Keeps s₀ (clearTxLock u s).st := judge_keeps h (onSlice_keeps h)

theorem execRadClearTxLock_keeps {m} : Reaches (.radClearTxLock m) s (Keeps s) :=
  ⟨_, rfl, serve_keeps (fun _ _ _ h => clearTxLock_keeps h) (.refl _)⟩

theorem captureIq_keeps {u} (h : Keeps s₀ s) : Keeps s₀ (captureIq u s).st := judge_keeps h (accept_keeps (onSlice_keeps h))

theorem execRadCaptureIq_keeps {m} : Reaches (.radCaptureIq m) s (Keeps s) :=
  ⟨_, rfl, serve_keeps (fun _ _ _ h => captureIq_keeps h) (.refl _)⟩

theorem execIqCaptureTrigger_keeps {slice} : Reaches (.iqCaptureTrigger slice) s (Keeps s) :=
  ⟨_, rfl, .ite (passPoint_keeps (onSlice_keeps .start)) .start⟩

theorem captureEnds_keeps {n samples refs wr} (h : Keeps s₀ s) : Keeps s₀ (captureEnds n samples refs wr s) := by
  unfold captureEnds
  split
  · exact .ite (endAsync_keeps (onDsp_keeps (onSlice_keeps h))) (by
      split
      · exact endAsync_keeps (dmaFault_keeps (onSlice_keeps h))
      · exact endAsync_keeps (setAsync_keeps (emit_keeps (dmaFault_keeps (onSlice_keeps h)))))
  · exact h

theorem execIqCaptureDone_keeps {slice samples refs wr} : Reaches (.iqCaptureDone slice samples refs wr) s (Keeps s) :=
  ⟨_, rfl, captureEnds_keeps .start⟩

/-! ### Acquire -/

theorem endTrigger_keeps {n} (h : Keeps s₀ s) : Keeps s₀ (endTrigger n s) := .ite (onMac_keeps h) h
theorem passEnergy_keeps {n d} (h : Keeps s₀ s) : Keeps s₀ (passEnergy n d s) := .ite h (onMac_keeps h)

theorem acquire_keeps {n d check flags restarts tb span reference level} (h : Keeps s₀ s) : Keeps s₀ (acquire n d check
    flags restarts tb span reference level s) := by
  unfold acquire
  exact .ite (driveFem_keeps (onSlice_keeps (.ite (onCounters_keeps (onSlice_keeps (passEnergy_keeps (onCounters_keeps h))))
    (onSlice_keeps (passEnergy_keeps (onCounters_keeps h)))))) (toSearch_keeps (.ite (endTrigger_keeps (onCounters_keeps
    (onSlice_keeps (passEnergy_keeps (onCounters_keeps h))))) (onCounters_keeps (onSlice_keeps (passEnergy_keeps
    (onCounters_keeps h))))))

theorem acquireNew_keeps {n d flags restarts span} (h : Keeps s₀ s) : Keeps s₀ (acquireNew n d flags restarts span s) :=
  acquire_keeps h

theorem lstf_keeps {n d} (h : Keeps s₀ s) : Keeps s₀ (lstf n d s) := by
  unfold lstf
  dsimp only
  split
  · exact .ite (acquireNew_keeps h) h
  · exact .ite h (by
      split
      · exact acquire_keeps h
      · exact .ite (acquire_keeps h) (acquire_keeps (onCounters_keeps h)))
  · exact h

theorem execLstfDetection_keeps {slice d} : Reaches (.lstfDetection slice d) s (Keeps s) := ⟨_, rfl, lstf_keeps .start⟩
theorem dsss_keeps {n d} (h : Keeps s₀ s) : Keeps s₀ (dsss n d s) := .ite (acquire_keeps h) h
theorem execDsssDetection_keeps {slice d} : Reaches (.dsssDetection slice d) s (Keeps s) := ⟨_, rfl, dsss_keeps .start⟩
theorem passDuration_keeps {n r} (h : Keeps s₀ s) : Keeps s₀ (passDuration n r s) := .ite h (onMac_keeps h)
theorem dropResponse_keeps {n id} (h : Keeps s₀ s) : Keeps s₀ (dropResponse n id s) := onMac_keeps h
theorem tbMissing_keeps {n} (h : Keeps s₀ s) : Keeps s₀ (tbMissing n s) := endTrigger_keeps (onCounters_keeps h)

theorem overtake_keeps {n level overload d} (h : Keeps s₀ s) : Keeps s₀ (overtake n level overload d s) := by
  unfold overtake
  exact .ite h (by
    dsimp only
    split
    · exact .ite h (.ite (acquireNew_keeps (cutReception_keeps (dropResponse_keeps (passDuration_keeps (.ite (tbMissing_keeps (onCounters_keeps h)) (onCounters_keeps h)))))) (onCounters_keeps h))
    · split
      · exact .ite (acquireNew_keeps (tbMissing_keeps (onCounters_keeps h))) (onCounters_keeps h)
      · exact h)

theorem execCaptureRestart_keeps {slice level overload d} : Reaches (.captureRestart slice level overload d) s (Keeps s)
    :=
  ⟨_, rfl, overtake_keeps .start⟩

theorem tbPreset_keeps {n reference} (h : Keeps s₀ s) : Keeps s₀ (tbPreset n reference s) :=
  .ite h (by
    split
    · exact .ite h (onSlice_keeps h)
    · exact h)

theorem execTbGainPreset_keeps {slice reference} : Reaches (.tbGainPreset slice reference) s (Keeps s) :=
  ⟨_, rfl, tbPreset_keeps .start⟩

theorem execTbWindowEnd_keeps {slice} : Reaches (.tbWindowEnd slice) s (Keeps s) :=
  ⟨_, rfl, .ite (toSearch_keeps (tbMissing_keeps .start)) .start⟩

/-! ### Modem -/

theorem onLda_keeps {f} (h : Keeps s₀ s) : Keeps s₀ (onLda f s) := onModem_keeps h
theorem onPeer_keeps {h f} (k : Keeps s₀ s) : Keeps s₀ (onPeer h f s) := onModem_keeps k
theorem pressureEvent_keeps (h : Keeps s₀ s) : Keeps s₀ (pressureEvent s) := raiseLimited_keeps h
theorem onRu_keeps {ru f} (h : Keeps s₀ s) : Keeps s₀ (onRu ru f s) := onLda_keeps h
theorem dropCodeword_keeps {id ru} (h : Keeps s₀ s) : Keeps s₀ (dropCodeword id ru s) := onRu_keeps (onLda_keeps h)
theorem pushCodeword_keeps {c} (h : Keeps s₀ s) : Keeps s₀ (pushCodeword c s) := onRu_keeps (onLda_keeps h)
theorem forgetRus_keeps (h : Keeps s₀ s) : Keeps s₀ (forgetRus s) := onLda_keeps h

theorem knowRu_keeps {c} (h : Keeps s₀ s) : Keeps s₀ (knowRu c s) := by
  unfold knowRu
  split
  · exact .ite (forgetRus_keeps h) (onLda_keeps (forgetRus_keeps h))
  · exact h

theorem lockSoft_keeps {c} (h : Keeps s₀ s) : Keeps s₀ (lockSoft c s) := by
  unfold lockSoft
  split
  · exact onModem_keeps h
  · exact h

theorem placeCodeword_keeps {w limited} (h : Keeps s₀ s) : Keeps s₀ (placeCodeword w limited s) := by
  unfold placeCodeword
  exact .ite (by
    split
    · exact pushCodeword_keeps (dropCodeword_keeps (onRu_keeps (onLda_keeps h)))
    · exact dropCodeword_keeps h)
    (pushCodeword_keeps (.ite (onLda_keeps h) h))

theorem enterArray_keeps {c} (h : Keeps s₀ s) : Keeps s₀ (enterArray s c) := by
  unfold enterArray
  exact .ite (knowRu_keeps h) (.ite (pressureEvent_keeps (placeCodeword_keeps (lockSoft_keeps (knowRu_keeps h))))
    (placeCodeword_keeps (lockSoft_keeps (knowRu_keeps h))))

theorem execLdpcEngineStart_keeps {entering} : Reaches (.ldpcEngineStart entering) s (Keeps s) :=
  ⟨_, rfl, .ite .start (by
    dsimp only
    split
    · exact .ite (.foldl (fun _ _ h => enterArray_keeps h) _ .start) (onLda_keeps (.foldl (fun _ _ h => enterArray_keeps h) _ .start))
    · exact .foldl (fun _ _ h => enterArray_keeps h) _ .start)⟩

theorem codewordDone_keeps {id iterations ok} (h : Keeps s₀ s) : Keeps s₀ (codewordDone id iterations ok s) := by
  unfold codewordDone
  split
  · exact h
  · exact forgetRus_keeps (onRu_keeps (onLda_keeps h))

theorem execCodewordDone_keeps {id iterations ok} : Reaches (.codewordDone id iterations ok) s (Keeps s) :=
  ⟨_, rfl, codewordDone_keeps .start⟩

theorem execTurboPassStart_keeps {ru} : Reaches (.turboPassStart ru) s (Keeps s) := ⟨_, rfl, onLda_keeps .start⟩

theorem execLateWindowExpiry_keeps {ru} : Reaches (.lateWindowExpiry ru) s (Keeps s) :=
  ⟨_, rfl, .ite (onLda_keeps .start) .start⟩

theorem emptyArray_keeps (h : Keeps s₀ s) : Keeps s₀ (emptyArray s) := onLda_keeps h

theorem schSetTurbo_keeps {u} (h : Keeps s₀ s) : Keeps s₀ (schSetTurbo u s).st :=
  judge_keeps h (.ite (cfgKeep_keeps (onLda_keeps h)) h)

theorem execSchSetTurbo_keeps {m} : Reaches (.schSetTurbo m) s (Keeps s) :=
  ⟨_, rfl, serve_keeps (fun _ _ _ h => schSetTurbo_keeps h) (.refl _)⟩

theorem sendElement_keeps {h} (k : Keeps s₀ s) : Keeps s₀ (sendElement h s) := .ite k (coreTo_keeps k)

theorem settlePeer_keeps {h reason} (k : Keeps s₀ s) : Keeps s₀ (settlePeer h reason s) :=
  .ite (raise_keeps (onPeer_keeps k)) (.ite (cumulusDown_keeps k) k)

theorem cumulusSet_keeps {u} (h : Keeps s₀ s) : Keeps s₀ (cumulusSet u s).st := by
  unfold cumulusSet
  exact judge_keeps h (by
    split
    · exact settlePeer_keeps (sendElement_keeps (onPeer_keeps h))
    · exact .reply_ite h (.ite (cumulusDown_keeps (sendElement_keeps (onPeer_keeps h))) (raise_keeps (cumulusDown_keeps (sendElement_keeps (onPeer_keeps h)))))
    · exact h)

theorem execCumulusSet_keeps {m} : Reaches (.cumulusSet m) s (Keeps s) :=
  ⟨_, rfl, serve_keeps (fun _ _ _ h => cumulusSet_keeps h) (.refl _)⟩

theorem execCumulusElementReceive_keeps {station version flags links lifetime combines} : Reaches (.cumulusElementReceive
    station version flags links lifetime combines) s (Keeps s) :=
  ⟨_, rfl, .ite (settlePeer_keeps (onPeer_keeps .start)) .start⟩

theorem dropSoft_keeps {h tag} (k : Keeps s₀ s) : Keeps s₀ (dropSoft h tag s) := onModem_keeps k
theorem expireSoft_keeps {e} (h : Keeps s₀ s) : Keeps s₀ (expireSoft s e) := .ite h (onPeer_keeps (dropSoft_keeps h))

theorem storeSoft_keeps {h n c} (k : Keeps s₀ s) : Keeps s₀ (storeSoft h n c s) :=
  .ite (onPeer_keeps k) (onPeer_keeps (onModem_keeps k))

theorem combineWith_keeps {h e c} (k : Keeps s₀ s) : Keeps s₀ (combineWith h e c s) :=
  .ite (dropSoft_keeps (onPeer_keeps k)) (onModem_keeps (onPeer_keeps k))

theorem combine_keeps {h n c} (k : Keeps s₀ s) : Keeps s₀ (combine h n c s) := by
  unfold combine
  exact .ite (.foldl (fun _ _ h => expireSoft_keeps h) _ k) (.ite (.ite (.foldl (fun _ _ h => expireSoft_keeps h) _ k)
    (storeSoft_keeps (dropSoft_keeps (.foldl (fun _ _ h => expireSoft_keeps h) _ k)))) (.ite (.foldl (fun _ _ h =>
    expireSoft_keeps h) _ k) (by
      split
      · exact .ite (.foldl (fun _ _ h => expireSoft_keeps h) _ k) (storeSoft_keeps (.foldl (fun _ _ h => expireSoft_keeps h) _ k))
      · exact .ite (onPeer_keeps (dropSoft_keeps (.foldl (fun _ _ h => expireSoft_keeps h) _ k))) (.ite (.foldl (fun _ _ h => expireSoft_keeps h) _ k) (combineWith_keeps (.foldl (fun _ _ h => expireSoft_keeps h) _ k))))))

theorem execSoftEntryUsable_keeps {peer tag} : Reaches (.softEntryUsable peer tag) s (Keeps s) :=
  ⟨_, rfl, onModem_keeps .start⟩

theorem execSoftEntryExpiry_keeps {peer tag} : Reaches (.softEntryExpiry peer tag) s (Keeps s) :=
  ⟨_, rfl, by
    dsimp only
    split
    · exact expireSoft_keeps .start
    · exact .start⟩

/-! ### Receive -/

theorem onReception_keeps {n id f} (h : Keeps s₀ s) : Keeps s₀ (onReception n id f s) := onSlice_keeps h

theorem takeVector_keeps {n m} (h : Keeps s₀ s) : Keeps s₀ (takeVector n m s).2.2 := by
  unfold takeVector
  split
  · exact h
  · exact onSlice_keeps (onReception_keeps h)

theorem onSession_keeps {h tid f} (k : Keeps s₀ s) : Keeps s₀ (onSession h tid f s) := onStation_keeps k

theorem badFrameOf_keeps {h what} (k : Keeps s₀ s) : Keeps s₀ (badFrameOf h what s) := by
  unfold badFrameOf
  dsimp only
  split
  · exact raiseLimited_keeps (onStation_keeps k)
  · exact onStation_keeps k

theorem deliverUp_keeps {h length l} (k : Keeps s₀ s) : Keeps s₀ (deliverUp h length l s) := onWire_keeps (onStation_keeps k)

theorem raiseFloor_keeps {h i pn} (k : Keeps s₀ s) : Keeps s₀ (raiseFloor h i pn s) := by
  unfold raiseFloor
  split
  · exact onStation_keeps k
  · exact k

theorem releaseHeld1_keeps {h tid r} (k : Keeps s₀ s) : Keeps s₀ (releaseHeld1 h tid r s) := by
  unfold releaseHeld1
  split
  · exact k
  · exact .ite (badFrameOf_keeps k) (deliverUp_keeps (raiseFloor_keeps k))

theorem stepOver_keeps {h tid} (k : Keeps s₀ s) : Keeps s₀ (stepOver h tid s) := by
  unfold stepOver
  split
  · exact k
  · dsimp only
    split
    · exact releaseHeld1_keeps (onSession_keeps k)
    · exact onStation_keeps (onSession_keeps k)

theorem stepsOver_keeps {n tid k : Nat} (h : Keeps s₀ s) : Keeps s₀ (stepsOver n tid k s) := by
  induction k generalizing s with
  | zero => exact h
  | succ k ih => exact ih (stepOver_keeps h)

theorem drainHeld_keeps {n tid k : Nat} (h : Keeps s₀ s) : Keeps s₀ (drainHeld n tid k s) := by
  induction k generalizing s with
  | zero => exact h
  | succ k ih =>
    unfold drainHeld
    exact .ite (ih (stepOver_keeps h)) h

theorem followWindow_keeps {h tid} (k : Keeps s₀ s) : Keeps s₀ (followWindow h tid s) := by
  unfold followWindow
  split
  · exact k
  · exact drainHeld_keeps (.ite k (stepsOver_keeps k))

theorem stopAtEight_keeps {n} (h : Keeps s₀ s) : Keeps s₀ (stopAtEight n s) := onCounters_keeps h

theorem reorder_keeps {n h tid r} (k : Keeps s₀ s) : Keeps s₀ (reorder n h tid r s) :=
  .ite (followWindow_keeps (stopAtEight_keeps k)) (followWindow_keeps (onSession_keeps k))

theorem acceptAlone_keeps {n h m l} (k : Keeps s₀ s) : Keeps s₀ (acceptAlone n h m l s) := by
  unfold acceptAlone
  exact .ite (.ite (onStation_keeps k) (deliverUp_keeps k)) (by
    split
    · exact .ite (.ite (.ite (onStation_keeps k) (stopAtEight_keeps (onStation_keeps k))) (deliverUp_keeps (onStation_keeps k))) (stopAtEight_keeps k)
    · exact stopAtEight_keeps k)

theorem execReassemblyTimeout_keeps {station tid} : Reaches (.reassemblyTimeout station tid) s (Keeps s) :=
  ⟨_, rfl, onStation_keeps .start⟩

theorem settleMpdu_keeps {n h m l} (k : Keeps s₀ s) : Keeps s₀ (settleMpdu n h m l s) := by
  unfold settleMpdu
  exact .ite (reorder_keeps k) (by
    split
    · exact k
    · exact .ite (badFrameOf_keeps k) (.ite (raiseFloor_keeps k) (acceptAlone_keeps (raiseFloor_keeps k))))

theorem decryptMpdu_keeps {n h m vector stamp} (k : Keeps s₀ s) : Keeps s₀ (decryptMpdu n h m vector stamp s) := by
  unfold decryptMpdu
  exact .ite (settleMpdu_keeps k) (by
    split
    · exact settleMpdu_keeps (badFrameOf_keeps k)
    · exact .ite (settleMpdu_keeps (badFrameOf_keeps k)) (by
        split
        · exact settleMpdu_keeps (badFrameOf_keeps k)
        · exact onAir_keeps k))

theorem duplicate_keeps {h m} (k : Keeps s₀ s) : Keeps s₀ (duplicate h m s).2 := by
  unfold duplicate
  split
  · split
    · exact k
    · exact onSession_keeps k
  · exact onStation_keeps k

theorem countRecovered_keeps {h m} (k : Keeps s₀ s) : Keeps s₀ (countRecovered h m s) :=
  .ite (onLda_keeps k) (.ite (onSession_keeps (onLda_keeps k)) (onStation_keeps (onLda_keeps k)))

theorem countDuplicate_keeps {h m} (k : Keeps s₀ s) : Keeps s₀ (countDuplicate h m s) :=
  .ite (onLda_keeps (onStation_keeps k)) (onStation_keeps k)

theorem moveWindow_keeps {h tid ssn} (k : Keeps s₀ s) : Keeps s₀ (moveWindow h tid ssn s) := by
  unfold moveWindow
  split
  · exact k
  · exact .ite k (followWindow_keeps (onSession_keeps k))

theorem stages_keeps {n h m vector stamp} (k : Keeps s₀ s) : Keeps s₀ (stages n h m vector stamp s) := by
  unfold stages
  exact .ite (moveWindow_keeps (touch_keeps k)) (.ite (countDuplicate_keeps (duplicate_keeps (touch_keeps k))) (decryptMpdu_keeps
    (countRecovered_keeps (duplicate_keeps (touch_keeps k)))))

theorem holdFullEvent_keeps (h : Keeps s₀ s) : Keeps s₀ (holdFullEvent s) := raiseLimited_keeps h

theorem keepHeld_keeps {x} (h : Keeps s₀ s) : Keeps s₀ (keepHeld s x) :=
  .ite (holdFullEvent_keeps (onMls_keeps h)) (onCrownStats_keeps (onMls_keeps h))

theorem judgeHold_keeps {n} (h : Keeps s₀ s) : Keeps s₀ (judgeHold n s) := .foldl (fun _ _ h => keepHeld_keeps h) _ h
theorem runHeld_keeps {h} (k : Keeps s₀ s) : Keeps s₀ (runHeld h s) := .foldl (fun _ _ h => stages_keeps h) _ (onMls_keeps k)
theorem addAck_keeps {n h m} (k : Keeps s₀ s) : Keeps s₀ (addAck n h m s) := .ite k (onMac_keeps k)
theorem oweAck_keeps {n h} (k : Keeps s₀ s) : Keeps s₀ (oweAck n h s) := addAck_keeps k

theorem freeze_keeps {n} (h : Keeps s₀ s) : Keeps s₀ (freeze n s) := by
  unfold freeze
  dsimp only
  split
  · exact judgeHold_keeps (onSlice_keeps h)
  · exact .ite (judgeHold_keeps (onSlice_keeps h)) (onMac_keeps (.ite (onCrownStats_keeps (judgeHold_keeps (onSlice_keeps h))) (judgeHold_keeps (onSlice_keeps h))))

theorem execResponseFreeze_keeps {slice} : Reaches (.responseFreeze slice) s (Keeps s) := ⟨_, rfl, freeze_keeps .start⟩

theorem goOnAir_keeps {n kind us ac v stations} (h : Keeps s₀ s) : Keeps s₀ (goOnAir n kind us ac v stations s) := by
  unfold goOnAir
  exact driveFem_keeps (onSlice_keeps (haloTraffic_keeps (paStarts_keeps (.foldl (fun _ _ h => onSlice_keeps (cutReception_keeps
    h)) _ h))))

theorem emitPpdu_keeps {n v b} (h : Keeps s₀ s) : Keeps s₀ (emitPpdu n v b s) := emit_keeps h
theorem coexDrive_keeps {n req pri} (h : Keeps s₀ s) : Keeps s₀ (coexDrive n req pri s) := .ite (onRadio_keeps h) h

theorem sendResponse_keeps {n us format rate gamma tune} (h : Keeps s₀ s) : Keeps s₀ (sendResponse n us format rate gamma
    tune s) := by
  unfold sendResponse
  dsimp only
  split
  · exact freeze_keeps h
  · exact .ite (coexDrive_keeps (onMac_keeps (freeze_keeps h))) (.ite (coexDrive_keeps (dutyDenial_keeps (onMac_keeps (freeze_keeps h)))) (measureGamma_keeps (emitPpdu_keeps (.ite (emit_keeps (goOnAir_keeps (onMac_keeps (freeze_keeps h)))) (.foldl (fun _ _ h => emit_keeps h) _ (goOnAir_keeps (onMac_keeps (freeze_keeps h))))))))

theorem execSifsResponseTx_keeps {slice us format rate gamma tune} : Reaches (.sifsResponseTx slice us format rate gamma
    tune) s (Keeps s) :=
  ⟨_, rfl, sendResponse_keeps .start⟩

theorem noteStation_keeps {n m} (h : Keeps s₀ s) : Keeps s₀ (noteStation n m s) := by
  unfold noteStation
  dsimp only
  split
  · exact onReception_keeps (onStation_keeps h)
  · exact onStation_keeps h

theorem takeMpdu_keeps {n m} (h : Keeps s₀ s) : Keeps s₀ (takeMpdu n m s) := by
  unfold takeMpdu
  exact .ite (stages_keeps (addAck_keeps (takeVector_keeps (noteStation_keeps h)))) (.ite (keepHeld_keeps (demandFetch_keeps
    (onMls_keeps (addAck_keeps (takeVector_keeps (noteStation_keeps h)))))) (demandFetch_keeps (onMls_keeps (addAck_keeps
    (takeVector_keeps (noteStation_keeps h))))))

theorem notOurs_keeps {n m} (h : Keeps s₀ s) : Keeps s₀ (notOurs n m s) := by
  unfold notOurs
  dsimp only
  split
  · exact onMac_keeps (onSlice_keeps h)
  · exact onMac_keeps (onSlice_keeps h)
  · exact onSlice_keeps h

theorem rtsReceive_keeps {n m} (h : Keeps s₀ s) : Keeps s₀ (rtsReceive n m s) := .ite (onMac_keeps h) h

theorem badFcs_keeps {n m} (h : Keeps s₀ s) : Keeps s₀ (badFcs n m s) :=
  .ite (onCounters_keeps h) (.ite (onSlice_keeps (onPeer_keeps (onCounters_keeps h))) (onCounters_keeps h))

theorem combineMpdu_keeps {n m} (h : Keeps s₀ s) : Keeps s₀ (combineMpdu n m s) := by
  unfold combineMpdu
  split
  · exact .ite h (combine_keeps h)
  · exact h

theorem mpduReceive_keeps {n m} (h : Keeps s₀ s) : Keeps s₀ (mpduReceive n m s) := by
  unfold mpduReceive
  exact .ite h (.ite (combineMpdu_keeps (badFcs_keeps h)) (.ite (notOurs_keeps h) (.ite (rtsReceive_keeps h) (.ite h (.ite
    (addAck_keeps h) (takeMpdu_keeps (combineMpdu_keeps h)))))))

theorem execMpduReceive_keeps {slice m} : Reaches (.mpduReceive slice m) s (Keeps s) := ⟨_, rfl, mpduReceive_keeps .start⟩

theorem micVerdict_keeps {good} (h : Keeps s₀ s) : Keeps s₀ (micVerdict good s) := by
  unfold micVerdict
  split
  · exact h
  · exact .ite (settleMpdu_keeps (onAir_keeps h)) (settleMpdu_keeps (badFrameOf_keeps (onAir_keeps h)))

theorem execMicVerdict_keeps {good} : Reaches (.micVerdict good) s (Keeps s) := ⟨_, rfl, micVerdict_keeps .start⟩

theorem holeTimeout_keeps {h tid} (k : Keeps s₀ s) : Keeps s₀ (holeTimeout h tid s) := by
  unfold holeTimeout
  split
  · exact k
  · exact .ite k (drainHeld_keeps (stepsOver_keeps k))

theorem execReorderHoleTimeout_keeps {station tid} : Reaches (.reorderHoleTimeout station tid) s (Keeps s) :=
  ⟨_, rfl, holeTimeout_keeps .start⟩

theorem oweBlockAck_keeps {n h tid ssn} (k : Keeps s₀ s) : Keeps s₀ (oweBlockAck n h tid ssn s) := .ite k (.ite k (onMac_keeps k))

theorem barReceive_keeps {n h tid ssn} (k : Keeps s₀ s) : Keeps s₀ (barReceive n h tid ssn s) := by
  unfold barReceive
  exact .ite k (.ite (moveWindow_keeps (touch_keeps (oweBlockAck_keeps (onStation_keeps k)))) (demandFetch_keeps (onMls_keeps
    (oweBlockAck_keeps (onStation_keeps k)))))

theorem execBlockackreqReceive_keeps {slice station tid start} : Reaches (.blockackreqReceive slice station tid start) s
    (Keeps s) :=
  ⟨_, rfl, barReceive_keeps .start⟩

theorem rxEnd_keeps {n} (h : Keeps s₀ s) : Keeps s₀ (rxEnd n s) := by
  unfold rxEnd
  split
  · exact h
  · exact toSearch_keeps (onSlice_keeps (.ite (coexDrive_keeps (.ite (endTrigger_keeps h) h)) (.ite (endTrigger_keeps h) h)))

theorem execPpduRxEnd_keeps {slice} : Reaches (.ppduRxEnd slice) s (Keeps s) := ⟨_, rfl, rxEnd_keeps .start⟩

/-! ### Transmit -/

theorem sojournDrop_keeps {h m} (k : Keeps s₀ s) : Keeps s₀ (sojournDrop h m s) :=
  settleShapers_keeps (dropMpdu_keeps (onQueue_keeps k))

theorem sojournCheck_keeps {h tid} (k : Keeps s₀ s) : Keeps s₀ (sojournCheck h tid s) := by
  unfold sojournCheck
  dsimp only
  split
  · exact k
  · exact .ite k (.ite (onQueue_keeps k) (by
      split
      · exact onQueue_keeps k
      · exact .ite (sojournDrop_keeps (onQueue_keeps k)) (.ite (sojournDrop_keeps (onQueue_keeps k)) k)))

theorem takeOut_keeps {h n m} (k : Keeps s₀ s) : Keeps s₀ (takeOut h n s m) :=
  .ite (charge_keeps (charge_keeps (onStation_keeps k))) (onStation_keeps k)

theorem tagMpdu_keeps {u : FixUser} {x : List MapEntry × State} {m : Mpdu} (h : Keeps s₀ x.2) : Keeps s₀ (tagMpdu u x m).2 := by
  unfold tagMpdu
  exact .ite h (onStation_keeps (onPeer_keeps h))

theorem fillShare_keeps {n : Nat} {bytes : FixUser → Nat} {aligned : FixUser → Bool} {x : Filled × State} {u : FixUser}
    (h : Keeps s₀ x.2) : Keeps s₀ (fillShare n bytes aligned x u).2 := by
  unfold fillShare
  dsimp only
  have ht {l : List Mpdu} {y : State} (hy : Keeps s₀ y) : Keeps s₀ (touch u.station true (l.foldl (takeOut u.station n) y)) :=
    touch_keeps (.foldl (fun _ _ h => takeOut_keeps h) _ hy)
  generalize bytes u - _ - _ = room
  have hp : Keeps s₀ (if (picks u n (aligned u) room x.2).any fun m => m.attempts == 0 then sojournCheck u.station u.tid x.2 else x.2) :=
    .ite (sojournCheck_keeps h) h
  have hs := ht (l := picks u n (aligned u) room (if (picks u n (aligned u) room x.2).any fun m => m.attempts == 0 then
    sojournCheck u.station u.tid x.2 else x.2)) hp
  exact .snd_ite (.snd_foldl (b := ([], _)) (fun _ _ h => tagMpdu_keeps h) _ hs) hs

theorem markLate_keeps {n l} (h : Keeps s₀ s) : Keeps s₀ (markLate n l s) := onCrownStats_keeps (onMls_keeps (onMac_keeps h))
theorem fixPpdu_keeps {n f} (h : Keeps s₀ s) : Keeps s₀ (fixPpdu n f s) := coexDrive_keeps (onMac_keeps h)
theorem dropTxop_keeps {n} (h : Keeps s₀ s) : Keeps s₀ (dropTxop n s) := markUse_keeps (coexDrive_keeps (onMac_keeps h))

theorem fixProtection_keeps {n kind p who} (h : Keeps s₀ s) : Keeps s₀ (fixProtection n kind p who s) := by
  unfold fixProtection
  dsimp only
  split
  · exact .ite h (undoTxop_keeps h)
  · exact fixPpdu_keeps (onMac_keeps h)

theorem addShares_keeps {n l} (h : Keeps s₀ s) : Keeps s₀ (addShares n l s) := onMac_keeps h

theorem fixData_keeps {n t p d cover l late} (h : Keeps s₀ s) : Keeps s₀ (fixData n t p d cover l late s) := by
  unfold fixData
  exact .ite (fixPpdu_keeps (.foldl (fun _ _ h => touch_keeps h) _ h)) (.ite (.ite (.snd_foldl (fun _ _ h => fillShare_keeps h) _
    h) (dropTxop_keeps (.snd_foldl (fun _ _ h => fillShare_keeps h) _ h))) (settleShapers_keeps (fixPpdu_keeps
    (addShares_keeps (.snd_foldl (fun _ _ h => fillShare_keeps h) _ h)))))

theorem fixTrigger_keeps {n p d l late} (h : Keeps s₀ s) : Keeps s₀ (fixTrigger n p d l late s) :=
  fixPpdu_keeps (addShares_keeps (.foldl (fun _ _ h => touch_keeps h) _ h))

theorem fixSounding_keeps {n p d cover l} (h : Keeps s₀ s) : Keeps s₀ (fixSounding n p d cover l s) :=
  fixPpdu_keeps (addShares_keeps (.foldl (fun _ _ h => touch_keeps h) _ h))

theorem fixPlanned_keeps {n t p} (h : Keeps s₀ s) : Keeps s₀ (fixPlanned n t p s) := by
  unfold fixPlanned
  exact .ite (.ite (markLate_keeps h) (dropTxop_keeps (markLate_keeps h))) (by
    split
    · exact .ite (markLate_keeps h) (undoTxop_keeps (markLate_keeps h))
    · exact .ite (.ite (markLate_keeps h) (undoTxop_keeps (markLate_keeps h))) (by
        split
        · exact fixProtection_keeps (markLate_keeps h)
        · split
          · exact fixTrigger_keeps (markLate_keeps h)
          · exact fixSounding_keeps (markLate_keeps h)
          · exact fixData_keeps (markLate_keeps h)))

theorem passMgmt_keeps {n f} (h : Keeps s₀ s) : Keeps s₀ (passMgmt n f s) := by
  unfold passMgmt
  split
  · exact passPoint_keeps h
  · split
    · exact passPoint_keeps h
    · exact h
  · exact h

theorem fixOwn_keeps {n t p} (h : Keeps s₀ s) : Keeps s₀ (fixOwn n t p s) := by
  unfold fixOwn
  split
  · exact .ite h (undoTxop_keeps h)
  · dsimp only
    split
    · split
      · exact fixPpdu_keeps (onMac_keeps h)
      · exact dropTxop_keeps h
    · split
      · split
        · exact fixProtection_keeps h
        · exact fixPpdu_keeps (touch_keeps (passMgmt_keeps (onMac_keeps h)))
      · exact dropTxop_keeps h
    · split
      · exact fixPpdu_keeps h
      · exact dropTxop_keeps h
    · exact fixPpdu_keeps h

theorem fixPoint_keeps {n p} (h : Keeps s₀ s) : Keeps s₀ (fixPoint n p s) := by
  unfold fixPoint
  split
  · exact h
  · exact .ite h (.ite (fixPlanned_keeps h) (fixOwn_keeps h))

theorem execPpduFixPoint_keeps {slice p} : Reaches (.ppduFixPoint slice p) s (Keeps s) := ⟨_, rfl, fixPoint_keeps .start⟩

theorem notStarted_keeps {n} (h : Keeps s₀ s) : Keeps s₀ (notStarted n s) :=
  coexDrive_keeps (undoTxop_keeps (releaseFixed_keeps h))

theorem execCoexGrantSample_keeps {slice grant} : Reaches (.coexGrantSample slice grant) s (Keeps s) :=
  ⟨_, rfl, by
    dsimp only
    split
    · exact .start
    · exact .ite .start (.ite (onMac_keeps .start) (notStarted_keeps .start))⟩

theorem showMgmt_keeps {n f} (h : Keeps s₀ s) : Keeps s₀ (showMgmt n f s) := by
  unfold showMgmt
  split
  · exact emit_keeps h
  · exact emit_keeps h
  · exact emit_keeps h
  · exact emit_keeps h
  · exact h

theorem sendOut_keeps {n f} (h : Keeps s₀ s) : Keeps s₀ (sendOut n f s) := by
  unfold sendOut
  exact emitPpdu_keeps (by
    split
    · exact showMgmt_keeps (.ite (emit_keeps h) (.foldl (fun _ _ h => emit_keeps h) _ h))
    · exact .ite (emit_keeps h) (.foldl (fun _ _ h => emit_keeps h) _ h))

theorem countSent_keeps {f} (h : Keeps s₀ s) : Keeps s₀ (countSent f s) := .foldl (fun _ _ h => onStation_keeps h) _ h
theorem emlsr_keeps {n l on} (h : Keeps s₀ s) : Keeps s₀ (emlsr n l on s) := .foldl (fun _ _ h => onStation_keeps h) _ h
theorem noteFtm_keeps {n addr f} (h : Keeps s₀ s) : Keeps s₀ (noteFtm n addr f s) := onAir_keeps h

theorem txStartAir_keeps {n gamma tune} (h : Keeps s₀ s) : Keeps s₀ (txStartAir n gamma tune s) := by
  unfold txStartAir
  split
  · exact .ite h (.ite (lockedFrames_keeps (notStarted_keeps h)) (.ite (notStarted_keeps h) (.ite (dutyDenial_keeps (notStarted_keeps h)) (measureGamma_keeps (sendOut_keeps (.ite (countSent_keeps (onMac_keeps (by
      split
      · exact noteFtm_keeps (.ite (emlsr_keeps (.ite (onSlice_keeps (goOnAir_keeps h)) (goOnAir_keeps h))) (.ite (onSlice_keeps (goOnAir_keeps h)) (goOnAir_keeps h)))
      · exact .ite (emlsr_keeps (.ite (onSlice_keeps (goOnAir_keeps h)) (goOnAir_keeps h))) (.ite (onSlice_keeps (goOnAir_keeps h)) (goOnAir_keeps h))))) (onMac_keeps (by
      split
      · exact noteFtm_keeps (.ite (emlsr_keeps (.ite (onSlice_keeps (goOnAir_keeps h)) (goOnAir_keeps h))) (.ite (onSlice_keeps (goOnAir_keeps h)) (goOnAir_keeps h)))
      · exact .ite (emlsr_keeps (.ite (onSlice_keeps (goOnAir_keeps h)) (goOnAir_keeps h))) (.ite (onSlice_keeps (goOnAir_keeps h)) (goOnAir_keeps h))))))))))
  · exact h

theorem execPpduTxStart_keeps {slice gamma tune} : Reaches (.ppduTxStart slice gamma tune) s (Keeps s) :=
  ⟨_, rfl, txStartAir_keeps .start⟩

theorem groupSent_keeps {b} (h : Keeps s₀ s) : Keeps s₀ (groupSent b s) := by
  unfold groupSent
  dsimp only
  split
  · exact settleShapers_keeps (endFrame_keeps (onQueue_keeps (onBss_keeps h)))
  · exact onBss_keeps h

theorem csaSent_keeps {n} (h : Keeps s₀ s) : Keeps s₀ (csaSent n s) := onAir_keeps h

theorem sentNoAck_keeps {e} (h : Keeps s₀ s) : Keeps s₀ (sentNoAck s e) := by
  unfold sentNoAck
  split
  · exact endMpdu_keeps h
  · exact h

theorem sentPpdu_keeps {n f} (h : Keeps s₀ s) : Keeps s₀ (sentPpdu n f s) := by
  unfold sentPpdu
  dsimp only
  split
  · exact .ite (settleShapers_keeps (.foldl (fun _ _ h => sentNoAck_keeps h) _ (onMac_keeps h))) h
  · exact onMac_keeps (.foldl (fun _ _ h => onBss_keeps h) _ h)
  · exact onMac_keeps (onSlice_keeps h)
  · split
    · exact .ite h (.ite (csaSent_keeps (mgmtEnd_keeps (onMac_keeps h))) (mgmtEnd_keeps (onMac_keeps h)))
    · exact onMac_keeps h
  · exact onSlice_keeps h
  · exact onMac_keeps h
  · exact onMac_keeps (.foldl (fun _ _ h => groupSent_keeps h) _ h)
  · exact h

theorem txEndAir_keeps {n} (h : Keeps s₀ s) : Keeps s₀ (txEndAir n s) := by
  unfold txEndAir
  split
  · exact h
  · exact .ite (unblank_keeps (driveFem_keeps (coexDrive_keeps (onSlice_keeps h)))) (by
      split
      · exact .ite (unblank_keeps (driveFem_keeps (coexDrive_keeps (onSlice_keeps h)))) (.ite (releaseFixed_keeps (unblank_keeps (driveFem_keeps (coexDrive_keeps (onSlice_keeps h))))) (sentPpdu_keeps (unblank_keeps (driveFem_keeps (coexDrive_keeps (onSlice_keeps h))))))
      · exact unblank_keeps (driveFem_keeps (coexDrive_keeps (onSlice_keeps h))))

theorem execPpduTxEnd_keeps {slice} : Reaches (.ppduTxEnd slice) s (Keeps s) := ⟨_, rfl, txEndAir_keeps .start⟩

theorem ctsTimeout_keeps {n} (h : Keeps s₀ s) : Keeps s₀ (ctsTimeout n s) := by
  unfold ctsTimeout
  split
  · exact .ite h (markUse_keeps (onMac_keeps (emlsr_keeps (doubleCw_keeps h))))
  · exact h

theorem execCtsTimeout_keeps {slice} : Reaches (.ctsTimeout slice) s (Keeps s) := ⟨_, rfl, ctsTimeout_keeps .start⟩

theorem ctsReceive_keeps {n users} (h : Keeps s₀ s) : Keeps s₀ (ctsReceive n users s) := by
  unfold ctsReceive
  split
  · exact .ite h (.ite (ctsTimeout_keeps h) (markUse_keeps (onMac_keeps (emlsr_keeps (emlsr_keeps h)))))
  · exact h

theorem execCtsReceive_keeps {slice users} : Reaches (.ctsReceive slice users) s (Keeps s) :=
  ⟨_, rfl, ctsReceive_keeps .start⟩

theorem ackMpdu_keeps {h m} (k : Keeps s₀ s) : Keeps s₀ (ackMpdu h m s) := endMpdu_keeps (onStation_keeps k)

theorem judgeMpdu_keeps {keys acked e} (h : Keeps s₀ s) : Keeps s₀ (judgeMpdu keys acked s e) := by
  unfold judgeMpdu
  split
  · exact h
  · exact .ite (ackMpdu_keeps h) (.ite (dropMpdu_keeps h) (attemptFailed_keeps h))

theorem judgePpdu_keeps {n acked heard} (h : Keeps s₀ s) : Keeps s₀ (judgePpdu n acked heard s) := by
  unfold judgePpdu
  split
  · exact h
  · exact .ite h (by
      dsimp only
      split
      · split
        · exact .ite (mgmtEnd_keeps (by
            split
            · exact noteFtm_keeps (.ite (resetCw_keeps (onMac_keeps h)) (doubleCw_keeps (onMac_keeps h)))
            · exact .ite (resetCw_keeps (onMac_keeps h)) (doubleCw_keeps (onMac_keeps h)))) (mgmtFailed_keeps (.ite (resetCw_keeps (onMac_keeps h)) (doubleCw_keeps (onMac_keeps h))))
        · exact .ite (resetCw_keeps (onMac_keeps h)) (doubleCw_keeps (onMac_keeps h))
      · exact .foldl (fun _ _ h => .ite (onStation_keeps h) h) _ (.ite (resetCw_keeps (onMac_keeps h)) (doubleCw_keeps (onMac_keeps h)))
      · exact settleShapers_keeps (.foldl (fun _ _ h => judgeMpdu_keeps h) _ (.ite (resetCw_keeps (onMac_keeps h)) (doubleCw_keeps (onMac_keeps h)))))

theorem execAckReceive_keeps {slice acks} : Reaches (.ackReceive slice acks) s (Keeps s) := ⟨_, rfl, judgePpdu_keeps .start⟩
theorem execAckTimeout_keeps {slice} : Reaches (.ackTimeout slice) s (Keeps s) := ⟨_, rfl, judgePpdu_keeps .start⟩

theorem lifetimeEnds_keeps {kind owner id} (h : Keeps s₀ s) : Keeps s₀ (lifetimeEnds kind owner id s) := by
  unfold lifetimeEnds
  split
  · exact dropMpdus_keeps h
  · split
    · exact mgmtEnd_keeps h
    · exact h
  · split
    · exact settleShapers_keeps (endFrame_keeps (onQueue_keeps (onBss_keeps h)))
    · exact h

theorem execMpduLifetimeExpiry_keeps {kind owner id} : Reaches (.mpduLifetimeExpiry kind owner id) s (Keeps s) :=
  ⟨_, rfl, lifetimeEnds_keeps .start⟩

theorem txopEnd_keeps {n} (h : Keeps s₀ s) : Keeps s₀ (txopEnd n s) := by
  unfold txopEnd
  split
  · exact h
  · exact .ite h (settleShapers_keeps (markUse_keeps (onMac_keeps (onAir_keeps (.ite (.foldl (fun _ _ h => charge_keeps (charge_keeps (onStation_keeps h))) _ (releaseFixed_keeps h)) (releaseFixed_keeps h))))))

theorem execTxopEnd_keeps {slice} : Reaches (.txopEnd slice) s (Keeps s) := ⟨_, rfl, txopEnd_keeps .start⟩
theorem applyParams_keeps {b} (h : Keeps s₀ s) : Keeps s₀ (applyParams b s) := onBss_keeps h
theorem dropSchedule_keeps {b kind id} (h : Keeps s₀ s) : Keeps s₀ (dropSchedule b kind id s) := raise_keeps (onMls_keeps h)

theorem persist_keeps {b} (h : Keeps s₀ s) : Keeps s₀ (persist b s) :=
  .foldl (fun _ _ h => .ite (dropSchedule_keeps h) (onMls_keeps h)) _ h

theorem tbtt_keeps {b cca} (h : Keeps s₀ s) : Keeps s₀ (tbtt b cca s) := by
  unfold tbtt
  exact .ite h (by
    dsimp only
    split
    · exact onBss_keeps (persist_keeps (applyParams_keeps h))
    · exact .ite (onBss_keeps (persist_keeps (applyParams_keeps h))) (.ite (startTxop_keeps (noteCca_keeps (onBss_keeps (onBss_keeps (persist_keeps (applyParams_keeps h)))))) (.ite (deferRequest_keeps (onMac_keeps (noteCca_keeps (onBss_keeps (onBss_keeps (persist_keeps (applyParams_keeps h))))))) (onMac_keeps (noteCca_keeps (onBss_keeps (onBss_keeps (persist_keeps (applyParams_keeps h)))))))))

theorem execBeaconTbtt_keeps {bss cca} : Reaches (.beaconTbtt bss cca) s (Keeps s) := ⟨_, rfl, tbtt_keeps .start⟩

/-! ### Bss -/

theorem drawGroup_keeps {h x rand} (k : Keeps s₀ s) : Keeps s₀ (drawGroup h x rand s) :=
  .ite k (.foldl (fun _ _ h => writeSlotKey_keeps h) _ k)

theorem bssCreate_keeps {record u} (h : Keeps s₀ s) : Keeps s₀ (bssCreate record u s).st :=
  judge_keeps h (replyHw_keeps (cfgKeepIf_keeps (drawGroup_keeps (onAir_keeps (startTsf_keeps h)))))

theorem execBssCreate_keeps {m} : Reaches (.bssCreate m) s (Keeps s) :=
  ⟨_, rfl, serve_keeps (fun _ _ _ h => bssCreate_keeps h) (.refl _)⟩

theorem bssDelete_keeps {u} (h : Keeps s₀ s) : Keeps s₀ (bssDelete u s).st := by
  unfold bssDelete
  dsimp only
  split
  · exact judge_keeps h h
  · exact judge_keeps h (accept_keeps (onBss_keeps h))

theorem bssDeleting_keeps {u} (h : Keeps s₀ s) : Keeps s₀ (bssDeleting u s) := by
  unfold bssDeleting
  dsimp only
  split
  · exact h
  · exact .ite (finishDelete_keeps h) (.ite (onMac_keeps h) (finishDelete_keeps (onBss_keeps h)))

theorem execBssDelete_keeps {m : Ump} : ∃ t, execBssDelete m s = .next t ∧ Keeps s t :=
  ⟨_, rfl, serveThen_keeps (fun _ _ _ h => bssDelete_keeps h) (fun _ => bssDeleting_keeps (.refl _)) (.refl _)⟩

theorem bssSetParams_keeps {u} (h : Keeps s₀ s) : Keeps s₀ (bssSetParams u s).st := judge_keeps h (cfgKeep_keeps (onBss_keeps h))

theorem execBssSetParams_keeps {m} : Reaches (.bssSetParams m) s (Keeps s) :=
  ⟨_, rfl, serve_keeps (fun _ _ _ h => bssSetParams_keeps h) (.refl _)⟩

theorem staGet_keeps {u} (h : Keeps s₀ s) : Keeps s₀ (staGet u s).st := by
  unfold staGet
  dsimp only
  split <;> exact (judge_keeps h h)

theorem execStaGet_keeps {m} : Reaches (.staGet m) s (Keeps s) :=
  ⟨_, rfl, serve_keeps (fun _ _ _ h => staGet_keeps h) (.refl _)⟩

theorem staDisconnect_keeps {u} (h : Keeps s₀ s) : Keeps s₀ (staDisconnect u s).st :=
  judge_keeps h (accept_keeps (onStation_keeps h))

theorem disconnectStart_keeps {u} (h : Keeps s₀ s) : Keeps s₀ (disconnectStart u s) := by
  unfold disconnectStart
  dsimp only
  split
  · exact h
  · exact .ite (settleDeletes_keeps (endDisconnect_keeps (removeStation_keeps h))) (by
      split
      · exact queueMgmt_keeps h
      · exact settleDeletes_keeps (endDisconnect_keeps (removeStation_keeps h)))

theorem execStaDisconnect_keeps {m : Ump} : ∃ t, execStaDisconnect m s = .next t ∧ Keeps s t :=
  ⟨_, rfl, serveThen_keeps (fun _ _ _ h => staDisconnect_keeps h) (fun _ => disconnectStart_keeps (.refl _)) (.refl _)⟩

theorem staFlush_keeps {u} (h : Keeps s₀ s) : Keeps s₀ (staFlush u s).st := judge_keeps h (dropMpdus_keeps h)

theorem execStaFlushQueue_keeps {m} : Reaches (.staFlushQueue m) s (Keeps s) :=
  ⟨_, rfl, serve_keeps (fun _ _ _ h => staFlush_keeps h) (.refl _)⟩

theorem mloSetPolicy_keeps {u} (h : Keeps s₀ s) : Keeps s₀ (mloSetPolicy u s).st :=
  judge_keeps h (.reply_ite (onStation_keeps h) (cfgKeep_keeps (onAir_keeps h)))

theorem execMloSetLinkPolicy_keeps {m} : Reaches (.mloSetLinkPolicy m) s (Keeps s) :=
  ⟨_, rfl, serve_keeps (fun _ _ _ h => mloSetPolicy_keeps h) (.refl _)⟩

theorem staList_keeps {u} (h : Keeps s₀ s) : Keeps s₀ (staList u s).st := judge_keeps h h

theorem execStaList_keeps {m} : Reaches (.staList m) s (Keeps s) :=
  ⟨_, rfl, serve_keeps (fun _ _ _ h => staList_keeps h) (.refl _)⟩

theorem installMac_keeps {h vlan addr} (k : Keeps s₀ s) : Keeps s₀ (installMac h vlan addr s) := by
  unfold installMac
  dsimp only
  split
  · exact onWire_keeps k
  · exact k

theorem answerAssoc_keeps {n h addr status refused maxIdle element} (k : Keeps s₀ s) : Keeps s₀ (answerAssoc n h addr
    status refused maxIdle element s) := by
  unfold answerAssoc
  exact queueMgmt_keeps k

theorem applyContext_keeps {h body} (k : Keeps s₀ s) : Keeps s₀ (applyContext h body s) :=
  .ite k (.ite (onPeer_keeps (onStation_keeps k)) (onStation_keeps k))

theorem associate_keeps {f} (h : Keeps s₀ s) : Keeps s₀ (associate f s) := by
  unfold associate
  split
  · exact h
  · exact .ite h (.ite (answerAssoc_keeps h) (.ite (answerAssoc_keeps h) (by
      dsimp only
      split
      · exact answerAssoc_keeps (by
          split
          · exact dismiss_keeps h
          · exact h)
      · exact .ite (answerAssoc_keeps (by
          split
          · exact dismiss_keeps h
          · exact h)) (.ite (authorise_keeps (answerAssoc_keeps (installMac_keeps (demandFetch_keeps (onSec_keeps (applyContext_keeps (onAir_keeps (by
          split
          · exact consumeContext_keeps (by
              split
              · exact dismiss_keeps h
              · exact h)
          · split
            · exact dismiss_keeps h
            · exact h)))))))) (.ite (eapol_keeps (answerAssoc_keeps (installMac_keeps (demandFetch_keeps (onSec_keeps (applyContext_keeps (onAir_keeps (by
          split
          · exact consumeContext_keeps (by
              split
              · exact dismiss_keeps h
              · exact h)
          · split
            · exact dismiss_keeps h
            · exact h)))))))) (startFourWay_keeps (answerAssoc_keeps (installMac_keeps (demandFetch_keeps (onSec_keeps (applyContext_keeps (onAir_keeps (by
          split
          · exact consumeContext_keeps (by
              split
              · exact dismiss_keeps h
              · exact h)
          · split
            · exact dismiss_keeps h
            · exact h)))))))))))))

theorem addBa_keeps {f h} (k : Keeps s₀ s) : Keeps s₀ (addBa f h s) := coreTo_keeps (onStation_keeps k)

theorem delBa_keeps {h tid} (k : Keeps s₀ s) : Keeps s₀ (delBa h tid s) := by
  unfold delBa
  split
  · exact k
  · exact onStation_keeps (stepsOver_keeps k)

theorem reconfigure_keeps {f h x} (k : Keeps s₀ s) : Keeps s₀ (reconfigure f h x s) := by
  unfold reconfigure
  split
  · exact k
  · exact .ite k (linksChanged_keeps (onStation_keeps k))

theorem stationFrame_keeps {f h} (k : Keeps s₀ s) : Keeps s₀ (stationFrame f h s) := by
  unfold stationFrame
  split
  · exact .ite k (by
      dsimp only
      split
      · exact dismiss_keeps (onStation_keeps k)
      · exact dismiss_keeps (onStation_keeps k)
      · exact addBa_keeps (onStation_keeps k)
      · exact delBa_keeps (onStation_keeps k)
      · exact reconfigure_keeps (onStation_keeps k)
      · exact onStation_keeps (onStation_keeps k))
  · exact k

theorem management_keeps {f} (h : Keeps s₀ s) : Keeps s₀ (management f s) := by
  unfold management
  split
  · exact h
  · exact .ite h (by
      dsimp only
      split
      · exact .ite (authFrame_keeps (oweAck_keeps h)) (oweAck_keeps h)
      · exact associate_keeps (oweAck_keeps h)
      · split
        · exact stationFrame_keeps (oweAck_keeps h)
        · exact oweAck_keeps h)

theorem execManagementFrameReceive_keeps {f} : Reaches (.managementFrameReceive f) s (Keeps s) :=
  ⟨_, rfl, management_keeps .start⟩

theorem inactive_keeps {h} (k : Keeps s₀ s) : Keeps s₀ (inactive h s) := by
  unfold inactive
  split
  · exact k
  · exact .ite (deauth_keeps k) k

theorem execInactivityTimeout_keeps {station} : Reaches (.inactivityTimeout station) s (Keeps s) :=
  ⟨_, rfl, inactive_keeps .start⟩

theorem deliverUnits_keeps {n h units} (k : Keeps s₀ s) : Keeps s₀ (deliverUnits n h units s) := onStation_keeps k

theorem execPsPollReceive_keeps {slice station} : Reaches (.psPollReceive slice station) s (Keeps s) :=
  ⟨_, rfl, .ite (deliverUnits_keeps (oweAck_keeps .start)) .start⟩

theorem execUapsdTrigger_keeps {slice station ac units} : Reaches (.uapsdTrigger slice station ac units) s (Keeps s) :=
  ⟨_, rfl, .ite (deliverUnits_keeps .start) .start⟩

theorem twtAnswer_keeps {h answer t} (k : Keeps s₀ s) : Keeps s₀ (twtAnswer h answer t s) := coreTo_keeps k

theorem askTwt_keeps {h x t places} (k : Keeps s₀ s) : Keeps s₀ (askTwt h x t places s) :=
  .ite (twtAnswer_keeps k) (.ite (twtAnswer_keeps k) (raise_keeps (twtAnswer_keeps (onStation_keeps k))))

theorem twtRequest_keeps {h kind flow b duration interval offset places} (k : Keeps s₀ s) : Keeps s₀ (twtRequest h kind
    flow b duration interval offset places s) := by
  unfold twtRequest
  split
  · exact k
  · dsimp only
    split
    · exact askTwt_keeps k
    · exact .ite (raise_keeps (onStation_keeps k)) k
    · split
      · exact .ite (twtAnswer_keeps k) (twtAnswer_keeps (onMls_keeps k))
      · exact twtAnswer_keeps k
    · exact onMls_keeps k

theorem execTwtRequestReceive_keeps {station kind flow bss duration interval offset places} : Reaches (.twtRequestReceive
    station kind flow bss duration interval offset places) s (Keeps s) :=
  ⟨_, rfl, twtRequest_keeps .start⟩

theorem endBefore_keeps {b} (h : Keeps s₀ s) : Keeps s₀ (endBefore b s) := by
  unfold endBefore
  split
  · exact h
  · exact .ite (txopEnd_keeps h) h

theorem servicePeriod_keeps {sched owner id on} (h : Keeps s₀ s) : Keeps s₀ (servicePeriod sched owner id on s) := by
  unfold servicePeriod
  split
  · exact .ite (.ite (endBefore_keeps (onMls_keeps h)) (onMls_keeps h)) h
  · exact onStation_keeps h

theorem execTwtServicePeriodStart_keeps {schedule owner id} : Reaches (.twtServicePeriodStart schedule owner id) s (Keeps
    s) :=
  ⟨_, rfl, servicePeriod_keeps .start⟩

theorem execTwtServicePeriodEnd_keeps {schedule owner id} : Reaches (.twtServicePeriodEnd schedule owner id) s (Keeps s)
    :=
  ⟨_, rfl, servicePeriod_keeps .start⟩

theorem execEmlsrExchangeEnd_keeps {station} : Reaches (.emlsrExchangeEnd station) s (Keeps s) :=
  ⟨_, rfl, onStation_keeps .start⟩

theorem execEmlsrTransitionEnd_keeps {station} : Reaches (.emlsrTransitionEnd station) s (Keeps s) :=
  ⟨_, rfl, onStation_keeps .start⟩

theorem ftmAnswer_keeps {n addr status f} (h : Keeps s₀ s) : Keeps s₀ (ftmAnswer n addr status f s) := queueMgmt_keeps h

theorem ftmRequest_keeps {n addr opens} (h : Keeps s₀ s) : Keeps s₀ (ftmRequest n addr opens s) := by
  unfold ftmRequest
  exact .ite h (.ite (onAir_keeps h) (by
    split
    · exact ftmAnswer_keeps h
    · exact .ite (ftmAnswer_keeps h) (ftmAnswer_keeps (onAir_keeps h))))

theorem execFtmRequestReceive_keeps {slice mac opens} : Reaches (.ftmRequestReceive slice mac opens) s (Keeps s) :=
  ⟨_, rfl, ftmRequest_keeps .start⟩

/-! ### Milliner -/

theorem brimStart_keeps (h : Keeps s₀ s) : Keeps s₀ (brimStart s) := .ite h (markUse_keeps (onMls_keeps (commitShared_keeps h)))
theorem execBrimStart_keeps : Reaches .brimStart s (Keeps s) := ⟨_, rfl, brimStart_keeps .start⟩
theorem countAppearances_keeps {k} (h : Keeps s₀ s) : Keeps s₀ (countAppearances k s) := onCrownStats_keeps (onMls_keeps h)

theorem stageFirst_keeps {boundary p} (h : Keeps s₀ s) : Keeps s₀ (stageFirst boundary p s).2 :=
  .snd_foldl (fun _ _ h => stageNext_keeps h) _ h

theorem ageStations_keeps {eligible p} (h : Keeps s₀ s) : Keeps s₀ (ageStations eligible p s) := onAir_keeps h
theorem agePrecoders_keeps (h : Keeps s₀ s) : Keeps s₀ (agePrecoders s) := onAir_keeps h

theorem planCommit_keeps {txops twt free} (h : Keeps s₀ s) : Keeps s₀ (planCommit txops twt free s) := by
  unfold planCommit
  split
  · exact crownGo_keeps (markUse_keeps (onMls_keeps (countAppearances_keeps (ageStations_keeps (stageFirst_keeps (markUse_keeps (agePrecoders_keeps (commitCrown_keeps (onMls_keeps h)))))))))
  · exact h

theorem execPlanCommit_keeps {txops twt free} : Reaches (.planCommit txops twt free) s (Keeps s) :=
  ⟨_, rfl, planCommit_keeps .start⟩

theorem windowBoundary_keeps (h : Keeps s₀ s) : Keeps s₀ (windowBoundary s) :=
  .ite h (markUse_keeps (onMls_keeps (startShared_keeps h)))

theorem execWindowBoundary_keeps : Reaches .windowBoundary s (Keeps s) := ⟨_, rfl, windowBoundary_keeps .start⟩

theorem fillTxop_keeps {t} (h : Keeps s₀ s) : Keeps s₀ (fillTxop t s) :=
  .ite h (countAppearances_keeps (markUse_keeps (onMls_keeps h)))

theorem execFillTxopAppend_keeps {x : PlanTxop} : ∃ t, execFillTxopAppend x s = .next t ∧ Keeps s t :=
  ⟨_, rfl, fillTxop_keeps .start⟩

theorem stagingStart_keeps {n} (h : Keeps s₀ s) : Keeps s₀ (stagingStart n s) :=
  .ite h (crownGo_keeps (markUse_keeps (onMls_keeps (stageNext_keeps h))))

theorem execStagingStart_keeps {slice} : Reaches (.stagingStart slice) s (Keeps s) := ⟨_, rfl, stagingStart_keeps .start⟩
theorem arrive_keeps {o} (h : Keeps s₀ s) : Keeps s₀ (arrive o s) := onMls_keeps h

theorem crownDone_keeps {h fetch time} (k : Keeps s₀ s) : Keeps s₀ (crownDone h fetch time s) := by
  unfold crownDone
  split
  · exact k
  · exact crownGo_keeps (serveWaiting_keeps (.ite (runHeld_keeps (markUse_keeps (arrive_keeps (onCrownStats_keeps (onMls_keeps k))))) (onCrownStats_keeps (onMls_keeps k))))

theorem execCrownOpComplete_keeps {station fetch time} : Reaches (.crownOpComplete station fetch time) s (Keeps s) :=
  ⟨_, rfl, crownDone_keeps .start⟩

theorem execHoldMpduExpiry_keeps {station} : Reaches (.holdMpduExpiry station) s (Keeps s) :=
  ⟨_, rfl, by
    dsimp only
    split
    · exact .start
    · exact onMls_keeps .start⟩

theorem execLingerExpiry_keeps {station} : Reaches (.lingerExpiry station) s (Keeps s) :=
  ⟨_, rfl, crownGo_keeps (serveWaiting_keeps (onMls_keeps .start))⟩

theorem thrashCheck_keeps (h : Keeps s₀ s) : Keeps s₀ (thrashCheck s) :=
  .ite (raiseLimited_keeps (onCrownStats_keeps (onMls_keeps h))) (onMls_keeps h)

theorem execThrashCheck_keeps : Reaches .thrashCheck s (Keeps s) := ⟨_, rfl, thrashCheck_keeps .start⟩

theorem loseEntry_keeps {h} (k : Keeps s₀ s) : Keeps s₀ (loseEntry h s) :=
  .ite k (dismiss_keeps (onCrownStats_keeps (raise_keeps k)))

theorem execCrownEntryLost_keeps {station} : Reaches (.crownEntryLost station) s (Keeps s) := ⟨_, rfl, loseEntry_keeps .start⟩

theorem execBeamformingReportReceive_keeps {station valid ng codebook} : Reaches (.beamformingReportReceive station valid
    ng codebook) s (Keeps s) :=
  ⟨_, rfl, .ite .start (.ite (refuseClass_keeps (onStation_keeps .start)) (queueItem_keeps (onStation_keeps .start)))⟩

theorem schSetWindow_keeps {u} (h : Keeps s₀ s) : Keeps s₀ (schSetWindow u s).st :=
  judge_keeps h (.ite (cfgKeep_keeps (onMls_keeps h)) h)

theorem execSchSetWindow_keeps {m} : Reaches (.schSetWindow m) s (Keeps s) :=
  ⟨_, rfl, serve_keeps (fun _ _ _ h => schSetWindow_keeps h) (.refl _)⟩

theorem schSetPolicy_keeps {u} (h : Keeps s₀ s) : Keeps s₀ (schSetPolicy u s).st :=
  judge_keeps h (.ite (cfgKeep_keeps (onMls_keeps h)) h)

theorem execSchSetPolicy_keeps {m} : Reaches (.schSetPolicy m) s (Keeps s) :=
  ⟨_, rfl, serve_keeps (fun _ _ _ h => schSetPolicy_keeps h) (.refl _)⟩

theorem crnSetReserve_keeps {u} (h : Keeps s₀ s) : Keeps s₀ (crnSetReserve u s).st :=
  judge_keeps h (.ite (cfgKeep_keeps (onMls_keeps h)) h)

theorem execCrnSetReserve_keeps {m} : Reaches (.crnSetReserve m) s (Keeps s) :=
  ⟨_, rfl, serve_keeps (fun _ _ _ h => crnSetReserve_keeps h) (.refl _)⟩

theorem crnPin_keeps {u} (h : Keeps s₀ s) : Keeps s₀ (crnPin u s).st := judge_keeps h (onMls_keeps h)

theorem execCrnPin_keeps {m} : Reaches (.crnPin m) s (Keeps s) :=
  ⟨_, rfl, serve_keeps (fun _ _ _ h => crnPin_keeps h) (.refl _)⟩

theorem crnGetStats_keeps {u0} (h : Keeps s₀ s) : Keeps s₀ (crnGetStats u0 s).st := judge_keeps h (onCrownStats_keeps h)

theorem execCrnGetStats_keeps {m} : Reaches (.crnGetStats m) s (Keeps s) :=
  ⟨_, rfl, serve_keeps (fun _ _ _ h => crnGetStats_keeps h) (.refl _)⟩

theorem twtSet_keeps {u} (h : Keeps s₀ s) : Keeps s₀ (twtSet u s).st := by
  unfold twtSet
  exact judge_keeps h (.reply_ite h (.reply_ite (raise_keeps (cfgDelete_keeps (onMls_keeps h))) (raise_keeps (cfgKeepIf_keeps
    (onMls_keeps h)))))

theorem execTwtSet_keeps {m} : Reaches (.twtSet m) s (Keeps s) :=
  ⟨_, rfl, serve_keeps (fun _ _ _ h => twtSet_keeps h) (.refl _)⟩

/-! ### Power -/

theorem powerDownSlice_keeps {n} (h : Keeps s₀ s) : Keeps s₀ (powerDownSlice n s) := by
  unfold powerDownSlice
  exact haloChange_keeps (onSlice_keeps (onMac_keeps (enterState_keeps (by
    split
    · exact endAsync_keeps (endSetChannel_keeps (withdrawCal_keeps h))
    · exact endSetChannel_keeps (withdrawCal_keeps h)))))

theorem ownFramesEnd_keeps (h : Keeps s₀ s) : Keeps s₀ (ownFramesEnd s) :=
  .foldl (fun _ _ h => .foldl (fun _ _ h => mgmtEnd_keeps h) _ h) _ h

theorem slicesOff_keeps (h : Keeps s₀ s) : Keeps s₀ (slicesOff s) :=
  .foldl (fun _ _ h => .ite h (powerDownSlice_keeps h)) _ (ownFramesEnd_keeps h)

theorem slicesOn_keeps (h : Keeps s₀ s) : Keeps s₀ (slicesOn s) :=
  .foldl (fun _ _ h => by
    dsimp only
    split
    · exact enterState_keeps h
    · exact onSlice_keeps (enterState_keeps h)) _ h

theorem restoreNode_keeps {r} (h : Keeps s₀ s) : Keeps s₀ (restoreNode s r) := .ite ((drzNodeSet_keeps h).with) h

theorem restoreNodes_keeps (h : Keeps s₀ s) : Keeps s₀ (restoreNodes s) := by
  unfold restoreNodes
  split
  · exact h
  · exact .foldl (fun _ _ h => restoreNode_keeps h) _ h

theorem pwrSetState_keeps {u} (h : Keeps s₀ s) : Keeps s₀ (pwrSetState u s).st :=
  judge_keeps h (accept_keeps (.ite h (onPower_keeps h)))

theorem toQuiet_keeps (h : Keeps s₀ s) : Keeps s₀ (toQuiet s) := by
  unfold toQuiet
  dsimp only
  split
  · exact endAsync_keeps (raise_keeps (onPower_keeps (drzPowerDown_keeps (emptyArray_keeps (slicesOff_keeps (passPoint_keeps h))))))
  · exact raise_keeps (onPower_keeps (drzPowerDown_keeps (emptyArray_keeps (slicesOff_keeps (passPoint_keeps h)))))

theorem toRun_keeps (h : Keeps s₀ s) : Keeps s₀ (toRun s) :=
  runReached_keeps (restoreNodes_keeps (slicesOn_keeps (onPower_keeps (passPoint_keeps h))))

theorem pwrStart_keeps {u} (h : Keeps s₀ s) : Keeps s₀ (pwrStart u s) := by
  unfold pwrStart
  split
  · exact toRun_keeps h
  · exact toQuiet_keeps h
  · exact h

theorem execPwrSetState_keeps {m : Ump} : ∃ t, execPwrSetState m s = .next t ∧ Keeps s t :=
  ⟨_, rfl, serveThen_keeps (fun _ _ _ h => pwrSetState_keeps h) (fun _ => pwrStart_keeps (.refl _)) (.refl _)⟩

theorem groupDeauth_keeps {b n} (h : Keeps s₀ s) : Keeps s₀ (groupDeauth b n s) := emitPpdu_keeps (emit_keeps h)

theorem deauthSecured_keeps (h : Keeps s₀ s) : Keeps s₀ (deauthSecured s).2 :=
  .foldl (fun _ _ h => dismiss_keeps h) _ (.foldl (fun _ _ h => .ite (groupDeauth_keeps h) h) _ h)

theorem discardItem_keeps {i} (h : Keeps s₀ s) : Keeps s₀ (discardItem s i) := by
  unfold discardItem
  dsimp only
  split
  · exact endHost_keeps (onClass_keeps h)
  · split
    · exact endAsync_keeps (onClass_keeps h)
    · exact onClass_keeps h
  · exact onClass_keeps h

theorem discardGroups_keeps (h : Keeps s₀ s) : Keeps s₀ (discardGroups s) := by
  unfold discardGroups
  exact onDsp_keeps (.foldl (fun _ _ h => settleClass_keeps h) _ (.foldl (fun _ _ h => discardItem_keeps h) _ (onTds_keeps h)))

theorem drzFramesEnd_keeps (h : Keeps s₀ s) : Keeps s₀ (drzFramesEnd s).2 := by
  unfold drzFramesEnd
  dsimp only
  split
  · exact drzFinish_keeps (drzDrop_keeps h)
  · exact drzDrop_keeps h

theorem crownPowerDown_keeps (h : Keeps s₀ s) : Keeps s₀ (crownPowerDown s) := onMls_keeps h

theorem discardFrames_keeps (h : Keeps s₀ s) : Keeps s₀ (discardFrames s).2 := by
  unfold discardFrames
  have hq : Keeps s₀ ((Tab.keys s.qme.queues).foldl (fun a q => ((a.1 + (dropFrames q 4 a.2).1, (dropFrames q 4 a.2).2) : Nat × State))
      (0, s)).2 := by
    refine .snd_foldl (b := (0, s)) (fun _ _ h => ?_) _ h
    exact dropFrames_keeps h
  have hm {l : List Nat} {b : Nat × State} (hb : Keeps s₀ b.2) :
      Keeps s₀ (l.foldl (fun a h => ((a.1 + (dropMpdus h (fun _ => true) 4 a.2).1, (dropMpdus h (fun _ => true) 4 a.2).2) : Nat × State))
        b).2 := by
    refine .snd_foldl (fun _ _ h => ?_) _ hb
    exact dropMpdus_keeps h
  exact settleShapers_keeps (onAir_keeps (onQme_keeps (onWire_keeps (.foldl (fun _ _ h => injectFate_keeps h) _
    (drzFramesEnd_keeps (hm hq))))))

/-- A port going down keeps its state's mailbox, and the recorder and outputs too. -/
theorem portDown_keeps {p : Nat} (h : Keeps s₀ s) : Keeps s₀ (portDown p s) := by
  unfold portDown
  split
  · obtain ⟨hp, ho, -⟩ := leaveUp_keeps (p := p) (cause := 0) (dst := .down) (Keeps.refl s)
    exact h.trans ⟨hp, ho, fun m => m.of_mbox rfl⟩
  · exact onPort_keeps h
  · exact h

theorem enterLow_keeps {dst : PwrState} {levels : List (Nat × Nat)} (h : Keeps s₀ s) : Keeps s₀ (enterLow dst levels s) := by
  unfold enterLow
  have hd : Keeps s₀ ([0, 1, 2, 3, 4].foldl (fun t p => if dst == .sleep || portSleeps p t then portDown p t else t) s) :=
    .foldl (fun _ _ h => .ite (portDown_keeps h) h) _ h
  have hm := onMbox_keeps (f := fun m => { m with pcieQueue := [], pcieDropped := 0, sinkQueue := [], sinkDropped := 0 }) hd
  exact .foldl (fun _ _ h => .ite (trigger_keeps h) (.ite (trigger_keeps h) h)) _
    (onPower_keeps (hm.with (t := { onMbox _ _ with pcie := _ })))

theorem lowerPower_keeps {dst levels} (h : Keeps s₀ s) : Keeps s₀ (lowerPower dst levels s) := by
  unfold lowerPower
  exact enterLow_keeps (by
    split
    · exact endAsync_keeps (.foldl (fun _ _ h => endAsync_keeps h) _ (onClock_keeps (onSec_keeps (discardFrames_keeps (crownPowerDown_keeps (.ite (discardGroups_keeps (emptyArray_keeps (slicesOff_keeps (deauthSecured_keeps (ownFramesEnd_keeps (onPower_keeps (passPoint_keeps h))))))) (drzPowerDown_keeps (discardGroups_keeps (emptyArray_keeps (slicesOff_keeps (deauthSecured_keeps (ownFramesEnd_keeps (onPower_keeps (passPoint_keeps h))))))))))))))
    · exact .foldl (fun _ _ h => endAsync_keeps h) _ (onClock_keeps (onSec_keeps (discardFrames_keeps (crownPowerDown_keeps (.ite (discardGroups_keeps (emptyArray_keeps (slicesOff_keeps (deauthSecured_keeps (ownFramesEnd_keeps (onPower_keeps (passPoint_keeps h))))))) (drzPowerDown_keeps (discardGroups_keeps (emptyArray_keeps (slicesOff_keeps (deauthSecured_keeps (ownFramesEnd_keeps (onPower_keeps (passPoint_keeps h))))))))))))))

theorem execPwrTransitionBegin_keeps {levels} : Reaches (.pwrTransitionBegin levels) s (Keeps s) :=
  ⟨_, rfl, by
    dsimp only
    split
    · exact .ite (lowerPower_keeps .start) .start
    · exact .start⟩

theorem limitChange_keeps (h : Keeps s₀ s) : Keeps s₀ (limitChange s) := .foldl (fun _ _ h => haloChange_keeps h) _ h

theorem thermalChange_keeps {sensor temp} (h : Keeps s₀ s) : Keeps s₀ (thermalChange sensor temp s) := by
  unfold thermalChange
  exact .ite (onPower_keeps h) (.ite (raise_keeps (.ite (onPower_keeps (onPower_keeps h)) (limitChange_keeps (onPower_keeps
    (onPower_keeps h))))) (.ite (onPower_keeps (onPower_keeps h)) (limitChange_keeps (onPower_keeps (onPower_keeps h)))))

theorem execThermalLevelChange_keeps {sensor temp} : Reaches (.thermalLevelChange sensor temp) s (Keeps s) :=
  ⟨_, rfl, .ite (thermalChange_keeps .start) .start⟩

theorem thermalTrip_renews {sensor : Nat} {temp : Int} (h : Renews s₀ s) : Renews s₀ (thermalTrip sensor temp s) := by
  unfold thermalTrip
  exact (clearCore_renews (h.keeps (recordNow_keeps (onPower_keeps (.refl s))))).keeps (Keeps.refl _).with

theorem execThermalTrip_renews {sensor : Nat} {temp : Int} : Reaches (.thermalTrip sensor temp) s (Renews s) :=
  ⟨_, rfl, .ite (thermalTrip_renews start_renews) start_renews⟩

theorem execThermalRearm_keeps {temp} : Reaches (.thermalRearm temp) s (Keeps s) :=
  ⟨_, rfl, .ite (onPower_keeps .start) .start⟩

theorem execAvsWriteRetry_keeps {ack} : Reaches (.avsWriteRetry ack) s (Keeps s) :=
  ⟨_, rfl, .ite .start (.ite (transientFault_keeps (onPower_keeps .start)) (lastingFault_keeps (.ite (onPower_keeps .start)
    (limitChange_keeps (onPower_keeps .start)))))⟩

theorem pwrGetState_keeps {u0} (h : Keeps s₀ s) : Keeps s₀ (pwrGetState u0 s).st := h

theorem execPwrGetState_keeps {m} : Reaches (.pwrGetState m) s (Keeps s) :=
  ⟨_, rfl, serve_keeps (fun _ _ _ h => pwrGetState_keeps h) (.refl _)⟩

theorem pwrSetWake_keeps {u} (h : Keeps s₀ s) : Keeps s₀ (pwrSetWake u s).st :=
  judge_keeps h (.reply_ite h (cfgKeep_keeps (onPower_keeps h)))

theorem execPwrSetWakeSources_keeps {m} : Reaches (.pwrSetWakeSources m) s (Keeps s) :=
  ⟨_, rfl, serve_keeps (fun _ _ _ h => pwrSetWake_keeps h) (.refl _)⟩

/-! ### Startup -/

theorem replayHandler_keeps {r : CfgRecord} {f : Ump → State → Reply} (e : replayHandler r = some f) : HandlerKeeps f := by
  unfold replayHandler at e
  split at e <;> cases e
  · exact fun _ _ _ h => pwrSetWake_keeps h
  · exact fun _ _ _ h => pwrSetPasr_keeps h
  · exact fun _ _ _ h => setChannel_keeps h
  · exact fun _ _ _ h => setTxLimits_keeps h
  · exact fun _ _ _ h => setStr_keeps h
  · exact fun _ _ _ h => tunerCtl_keeps h
  · exact fun _ _ _ h => bssCreate_keeps h
  · exact fun _ _ _ h => bssSetParams_keeps h
  · exact fun _ _ _ h => mloSetPolicy_keeps h
  · exact fun _ _ _ h => schSetWindow_keeps h
  · exact fun _ _ _ h => schSetPolicy_keeps h
  · exact fun _ _ _ h => crnSetReserve_keeps h
  · exact fun _ _ _ h => twtSet_keeps h
  · exact fun _ _ _ h => schSetTurbo_keeps h
  · exact fun _ _ _ h => fwdSetPort_keeps h
  · exact fun _ _ _ h => fwdRouteSet_keeps h
  · exact fun _ _ _ h => fwdAclSet_keeps h
  · exact fun _ _ _ h => fwdNatSet_keeps h
  · exact fun _ _ _ h => ethSetWol_keeps h
  · exact fun _ _ _ h => ethSetMacsec_keeps h
  · exact fun _ _ _ h => fwdVlanSet_keeps h
  · exact fun _ _ _ h => queSetShaper_keeps h
  · exact fun _ _ _ h => queSetPolicer_keeps h
  · exact fun _ _ _ h => queSetGcl_keeps h
  · exact fun _ _ _ h => queSetSampler_keeps h
  · exact fun _ _ _ h => queMap_keeps h
  · exact fun _ _ _ h => timSetPtp_keeps h
  · exact fun _ _ _ h => timSetJumpLimit_keeps h
  · exact fun _ _ _ h => evrSetPolicy_keeps h
  · exact fun _ _ _ h => drzSetChannel_keeps h
  · exact fun _ _ _ h => drzSetCsl_keeps h
  · exact fun _ _ _ h => drzSetMesh_keeps h
  · exact fun _ _ _ h => drzNodeSet_keeps h

theorem replayOne_keeps {b : Nat} {rand : List (Nat × Bytes)} {tune : List (Nat × List (Nat × Nat × Retry))} {r : CfgRecord}
    (h : Keeps s₀ s) : Keeps s₀ (replayOne b rand tune s r) := by
  unfold replayOne
  dsimp only
  split
  · exact raise_keeps h
  next f hf =>
    have hx := onMbox_keeps (f := fun m => { m with async := s.mbox.async }) (replayHandler_keeps hf
      { via := .pcie 0, length := r.payload.length, payload := r.payload, env := { rand := (rand.lookup (rd r.payload 61 1)).getD [] } } h)
    exact .ite (raise_keeps h) (.ite (beginHop_keeps (onMem_keeps hx)) hx)

theorem judgeBank_keeps {b} (h : Keeps s₀ s) : Keeps s₀ (judgeBank s b) := by
  unfold judgeBank
  split
  · exact raise_keeps h
  · exact h

theorem replayBanks_keeps {rand tune} (h : Keeps s₀ s) : Keeps s₀ (replayBanks rand tune s) := by
  unfold replayBanks
  dsimp only
  split
  · exact onMem_keeps (judgeBank_keeps (judgeBank_keeps h))
  · exact .foldl (fun _ _ h => replayOne_keeps h) _ (onMem_keeps (judgeBank_keeps (judgeBank_keeps h)))

theorem installKey_keeps {bad e} (h : Keeps s₀ s) : Keeps s₀ (installKey bad s e) :=
  .ite (raise_keeps (onSec_keeps h)) (.ite (writeSlotKey_keeps h) (onDrz_keeps (writeSlotKey_keeps h)))

theorem installKeys_keeps {bad} (h : Keeps s₀ s) : Keeps s₀ (installKeys bad s) := .foldl (fun _ _ h => installKey_keeps h) _ h
theorem expireContexts_keeps (h : Keeps s₀ s) : Keeps s₀ (expireContexts s) := .foldl (fun _ _ h => expireContext_keeps h) _ h
theorem wakeDone_keeps {us} (h : Keeps s₀ s) : Keeps s₀ (wakeDone us s) := setDoorbell_keeps (onPower_keeps h)
theorem addSlept_keeps {aon} (h : Keeps s₀ s) : Keeps s₀ (addSlept aon s) := onMem_keeps h

theorem bootEvents_keeps (h : Keeps s₀ s) : Keeps s₀ (bootEvents s) := by
  unfold bootEvents
  exact .ite (deliver_keeps (onPower_keeps (.ite (setFloor_keeps (.ite (.ite (raise_keeps (.ite (raise_keeps h) h)) (.ite
    (raise_keeps h) h)) (raise_keeps (onSec_keeps (.ite (raise_keeps (.ite (raise_keeps h) h)) (.ite (raise_keeps h) h))))))
    (.ite (.ite (raise_keeps (.ite (raise_keeps h) h)) (.ite (raise_keeps h) h)) (raise_keeps (onSec_keeps (.ite (raise_keeps
    (.ite (raise_keeps h) h)) (.ite (raise_keeps h) h)))))))) (.ite (setFloor_keeps (.ite (.ite (raise_keeps (.ite
    (raise_keeps h) h)) (.ite (raise_keeps h) h)) (raise_keeps (onSec_keeps (.ite (raise_keeps (.ite (raise_keeps h) h)) (.ite
    (raise_keeps h) h)))))) (.ite (.ite (raise_keeps (.ite (raise_keeps h) h)) (.ite (raise_keeps h) h)) (raise_keeps
    (onSec_keeps (.ite (raise_keeps (.ite (raise_keeps h) h)) (.ite (raise_keeps h) h))))))

theorem replayFor_keeps {quiet rand tune} (h : Keeps s₀ s) : Keeps s₀ (replayFor quiet rand tune s) := by
  unfold replayFor
  exact .ite (replayBanks_keeps h) (onPower_keeps (drzPowerDown_keeps (slicesOff_keeps (replayBanks_keeps (.foldl (fun _ _ h =>
    enterState_keeps h) _ (onPower_keeps h))))))

theorem bootReady_keeps {aon us poolPages rand bad tune} (h : Keeps s₀ s) : Keeps s₀ (bootReady aon us poolPages rand bad
    tune s) := by
  unfold bootReady
  exact raise_keeps (raiseReports_keeps (.ite (wakeDone_keeps (bootEvents_keeps (expireContexts_keeps (installKeys_keeps
    (replayFor_keeps (raise_keeps (.ite (restoreTime_keeps (.ite (addSlept_keeps (onQme_keeps (onPower_keeps h))) (onQme_keeps
    (onPower_keeps h)))) (.ite (addSlept_keeps (onQme_keeps (onPower_keeps h))) (onQme_keeps (onPower_keeps h))))))))))
    (bootEvents_keeps (expireContexts_keeps (installKeys_keeps (replayFor_keeps (raise_keeps (.ite (restoreTime_keeps (.ite
    (addSlept_keeps (onQme_keeps (onPower_keeps h))) (onQme_keeps (onPower_keeps h)))) (.ite (addSlept_keeps (onQme_keeps
    (onPower_keeps h))) (onQme_keeps (onPower_keeps h)))))))))))

theorem redrawGroups_keeps {rand} (h : Keeps s₀ s) : Keeps s₀ (redrawGroups rand s) :=
  .foldl (fun _ _ h => drawGroup_keeps (onBss_keeps h)) _ h

theorem wakeReadyRun_keeps {aon us rand bad} (h : Keeps s₀ s) : Keeps s₀ (wakeReadyRun aon us rand bad s) := by
  unfold wakeReadyRun
  exact raise_keeps (raiseReports_keeps (wakeDone_keeps (expireContexts_keeps (.ite (.ite (installKeys_keeps (redrawGroups_keeps
    (settleXoff_keeps (onWire_keeps (onAir_keeps (onPower_keeps (addSlept_keeps (restoreTime_keeps h))))))))
    (drzPowerDown_keeps (installKeys_keeps (redrawGroups_keeps (settleXoff_keeps (onWire_keeps (onAir_keeps (onPower_keeps
    (addSlept_keeps (restoreTime_keeps h)))))))))) (.ite (restoreNodes_keeps (slicesOn_keeps (installKeys_keeps
    (redrawGroups_keeps (settleXoff_keeps (onWire_keeps (onAir_keeps (onPower_keeps (addSlept_keeps (restoreTime_keeps
    h)))))))))) (slicesOn_keeps (installKeys_keeps (redrawGroups_keeps (settleXoff_keeps (onWire_keeps (onAir_keeps
    (onPower_keeps (addSlept_keeps (restoreTime_keeps h))))))))))))))

theorem execUmpReady_keeps {aon wakeUs poolPages rand badVault tune} : Reaches (.umpReady aon wakeUs poolPages rand
    badVault tune) s (Keeps s) :=
  ⟨_, rfl, .ite .start (drain_keeps (.ite (wakeReadyRun_keeps .start) (bootReady_keeps .start)))⟩

/-! ### System -/

theorem sysGetInfo_keeps {u0} (h : Keeps s₀ s) : Keeps s₀ (sysGetInfo u0 s).st := h

theorem execSysGetInfo_keeps {m} : Reaches (.sysGetInfo m) s (Keeps s) :=
  ⟨_, rfl, serve_keeps (fun _ _ _ h => sysGetInfo_keeps h) (.refl _)⟩

theorem sysGetStatus_keeps {u0} (h : Keeps s₀ s) : Keeps s₀ (sysGetStatus u0 s).st := h

theorem execSysGetStatus_keeps {m} : Reaches (.sysGetStatus m) s (Keeps s) :=
  ⟨_, rfl, serve_keeps (fun _ _ _ h => sysGetStatus_keeps h) (.refl _)⟩

theorem sysReset_keeps {u} (h : Keeps s₀ s) : Keeps s₀ (sysReset u s).st := judge_keeps h h

theorem resetAfter_renews {u : Ump} (h : Renews s₀ s) : Renews s₀ (resetAfter u s) := by
  unfold resetAfter
  exact .ite (deviceReset_renews h) (fullReset_renews h)

theorem execSysReset_renews {m : Ump} : Reaches (.sysReset m) s (Renews s) :=
  ⟨_, rfl, serveThen_related Renews.absorbs Keeps.renews
    (.inr ⟨fun _ _ _ h => sysReset_keeps h, fun t => resetAfter_renews (Keeps.refl t).renews⟩)⟩

theorem setSink_keeps {u} (h : Keeps s₀ s) : Keeps s₀ (setSink u s) := by
  unfold setSink
  split
  · exact onMbox_keeps h
  · exact onMbox_keeps h
  · exact h

theorem setEventSink_keeps {u} (h : Keeps s₀ s) : Keeps s₀ (setEventSink u s).st := judge_keeps h (setSink_keeps h)

theorem execSysSetEventSink_keeps {m} : Reaches (.sysSetEventSink m) s (Keeps s) :=
  ⟨_, rfl, serve_keeps (fun _ _ _ h => setEventSink_keeps h) (.refl _)⟩

theorem dropOwned_keeps {pick} (h : Keeps s₀ s) : Keeps s₀ (dropOwned pick s) := onAir_keeps h
theorem dropKernel_keeps {a} (h : Keeps s₀ s) : Keeps s₀ (dropKernel a s) := settleClass_keeps (onTds_keeps (onDsp_keeps h))

theorem abortNow_keeps {a} (h : Keeps s₀ s) : Keeps s₀ (abortNow a s) := by
  unfold abortNow
  dsimp only
  split
  · exact endAsync_keeps (onPower_keeps h)
  · exact endSetChannel_keeps (onSlice_keeps h)
  · exact withdrawCal_keeps h
  · exact endAsync_keeps (onSlice_keeps h)
  · exact endAsync_keeps (onBss_keeps (dropOwned_keeps h))
  · exact endAsync_keeps (onStation_keeps (dropOwned_keeps h))
  · exact endAsync_keeps (dropKernel_keeps h)
  · exact endAsync_keeps (.foldl (fun _ _ h => drzLeave_keeps h) _ (onDrz_keeps h))
  · exact endAsync_keeps h

theorem waitAbort_keeps {u : Ump} {c : AsyncCmd} (h : Keeps s₀ s) : Keeps s₀ (waitAbort u c s) := by
  refine h.trans ⟨rfl, rfl, fun m => m.of_parts rfl ?_⟩
  simp only [waitAbort, onMbox_mbox]
  split
  · exact List.length_set ..
  · rfl

theorem sysAbort_keeps {u} (h : Keeps s₀ s) : Keeps s₀ (sysAbort u s).st :=
  judge_keeps h (by
    split
    · exact h
    · exact .reply_ite (abortNow_keeps h) (.reply_ite (waitAbort_keeps h) h))

theorem execSysAbort_keeps {m} : Reaches (.sysAbort m) s (Keeps s) :=
  ⟨_, rfl, serve_keeps (fun _ _ _ h => sysAbort_keeps h) (.refl _)⟩

theorem testing_keeps {u code locks} (h : Keeps s₀ s) : Keeps s₀ (testing u code locks s).st := passPoint_keeps (accept_keeps h)
theorem diagRun_keeps {u} (h : Keeps s₀ s) : Keeps s₀ (diagRun u s).st := judge_keeps h (testing_keeps h)

theorem execDiagRun_keeps {m} : Reaches (.diagRun m) s (Keeps s) :=
  ⟨_, rfl, serve_keeps (fun _ _ _ h => diagRun_keeps h) (.refl _)⟩

theorem feltMismatch_keeps {e} (h : Keeps s₀ s) : Keeps s₀ (feltMismatch s e) := raise_keeps h
theorem bankFails_keeps {b} (h : Keeps s₀ s) : Keeps s₀ (bankFails s b) := raise_keeps h

theorem entryDiffers_keeps {e} (h : Keeps s₀ s) : Keeps s₀ (entryDiffers s e) :=
  .ite (eccRetry_keeps h) (loseEntry_keeps (eccRetry_keeps h))

theorem diagDone_keeps {passed felt banks corrected crystal pps entries} (h : Keeps s₀ s) : Keeps s₀ (diagDone passed felt
    banks corrected crystal pps entries s) := by
  unfold diagDone
  split
  · exact h
  · exact endAsync_keeps (.foldl (fun _ _ h => entryDiffers_keeps h) _ (.foldl (fun _ _ h => bankFails_keeps h) _ (.foldl (fun _ _ h => feltMismatch_keeps h) _ h)))

theorem execDiagRunDone_keeps {passed felt banks corrected crystal pps entries} : Reaches (.diagRunDone passed felt banks
    corrected crystal pps entries) s (Keeps s) :=
  ⟨_, rfl, diagDone_keeps .start⟩

theorem crownFlush_keeps (h : Keeps s₀ s) : Keeps s₀ (crownFlush s) := onMls_keeps h

theorem tstBist_keeps {u} (h : Keeps s₀ s) : Keeps s₀ (tstBist u s).st :=
  judge_keeps h (testing_keeps (.ite (crownFlush_keeps h) h))

theorem execTstBist_keeps {m} : Reaches (.tstBist m) s (Keeps s) :=
  ⟨_, rfl, serve_keeps (fun _ _ _ h => tstBist_keeps h) (.refl _)⟩

theorem tstLoopback_keeps {u} (h : Keeps s₀ s) : Keeps s₀ (tstLoopback u s).st := judge_keeps h (testing_keeps h)

theorem execTstLoopback_keeps {m} : Reaches (.tstLoopback m) s (Keeps s) :=
  ⟨_, rfl, serve_keeps (fun _ _ _ h => tstLoopback_keeps h) (.refl _)⟩

theorem sramDrop_keeps {q} (h : Keeps s₀ s) : Keeps s₀ (sramDrop s q) := .foldl (fun _ _ h => endFrame_keeps h) _ (onQueue_keeps h)

theorem sramFlush_keeps (h : Keeps s₀ s) : Keeps s₀ (sramFlush s) := by
  unfold sramFlush
  exact settleXoff_keeps (settleShapers_keeps (onWire_keeps (.foldl (fun _ _ h => injectFate_keeps h) _ (.foldl (fun _ _ h =>
    sramDrop_keeps h) _ h))))

theorem bistAfter_keeps {k} (h : Keeps s₀ s) : Keeps s₀ (bistAfter k s) := by
  unfold bistAfter
  split
  · exact onDsp_keeps h
  · exact sramFlush_keeps h
  · exact h

theorem tstDone_keeps {loopback fail place addr sent received errored} (h : Keeps s₀ s) : Keeps s₀ (tstDone loopback fail
    place addr sent received errored s) := by
  unfold tstDone
  dsimp only
  split
  · exact h
  · exact .ite (endAsync_keeps (record_keeps h)) (endAsync_keeps (bistAfter_keeps (record_keeps h)))

theorem execTstDone_keeps {loopback fail place addr sent received errored} : Reaches (.tstDone loopback fail place addr
    sent received errored) s (Keeps s) :=
  ⟨_, rfl, tstDone_keeps .start⟩

theorem falseDetects_keeps {n} (h : Keeps s₀ s) : Keeps s₀ (falseDetects s n) := .ite (raiseLimited_keeps h) h
theorem planFullCheck_keeps (h : Keeps s₀ s) : Keeps s₀ (planFullCheck s) := .ite (raiseLimited_keeps h) h

theorem clearSecond_keeps (h : Keeps s₀ s) : Keeps s₀ (clearSecond s) := by
  unfold clearSecond
  exact .foldl (fun _ _ h => onSlice_keeps h) _ (onMem_keeps (onMls_keeps (onLda_keeps (onDrz_keeps (onAir_keeps (onQme_keeps
    (onTds_keeps (onWire_keeps (onSec_keeps h)))))))))

theorem sampleFreq_keeps (h : Keeps s₀ s) : Keeps s₀ (sampleFreq s) := .ite h (onClock_keeps h)

theorem secondTick_keeps (h : Keeps s₀ s) : Keeps s₀ (secondTick s) := by
  unfold secondTick
  exact .ite h (sampleFreq_keeps (.ite (onMem_keeps (clearSecond_keeps (planFullCheck_keeps (.foldl (fun _ _ h =>
    falseDetects_keeps h) _ (.foldl (fun _ _ h => fullEvent_keeps h) _ (onMem_keeps h)))))) (clearSecond_keeps
    (planFullCheck_keeps (.foldl (fun _ _ h => falseDetects_keeps h) _ (.foldl (fun _ _ h => fullEvent_keeps h) _ (onMem_keeps
    h)))))))

theorem execOperatingSecondTick_keeps : Reaches .operatingSecondTick s (Keeps s) := ⟨_, rfl, secondTick_keeps .start⟩

theorem execEventSuppressionPeriod_keeps {code obj} : Reaches (.eventSuppressionPeriod code obj) s (Keeps s) :=
  ⟨_, rfl, onMbox_keeps .start⟩

end

/-! ### Every row -/

theorem Reaches.of_renews {i : Instr} {s : State} (h : Reaches i s (Renews s)) : Reaches i s (Advances s) := by
  obtain ⟨t, he, ht⟩ := h
  exact ⟨t, he, ht.advances⟩

theorem Reaches.of_keeps {i : Instr} {s : State} (h : Reaches i s (Keeps s)) : Reaches i s (Advances s) := by
  obtain ⟨t, he, ht⟩ := h
  exact ⟨t, he, ht.advances⟩

/-- Every row completes: it leaves the queue of waiting commands alone, moves the OTP forward or not at all, and keeps the form of
the mailbox. -/
theorem exec_advances (i : Instr) (s : State) : Reaches i s (Advances s) := by
  cases i with
  | sysGetInfo => exact .of_keeps execSysGetInfo_keeps
  | sysReset => exact .of_renews execSysReset_renews
  | sysGetStatus => exact .of_keeps execSysGetStatus_keeps
  | sysSetEventSink => exact .of_keeps execSysSetEventSink_keeps
  | sysAbort => exact .of_keeps execSysAbort_keeps
  | pwrSetState => exact .of_keeps execPwrSetState_keeps
  | pwrGetState => exact .of_keeps execPwrGetState_keeps
  | pwrSetWakeSources => exact .of_keeps execPwrSetWakeSources_keeps
  | pwrSetPasr => exact .of_keeps execPwrSetPasr_keeps
  | radSetChannel => exact .of_keeps execRadSetChannel_keeps
  | radGetStatus => exact .of_keeps execRadGetStatus_keeps
  | radCalibrate => exact .of_keeps execRadCalibrate_keeps
  | radSetTxLimits => exact .of_keeps execRadSetTxLimits_keeps
  | radSetStr => exact .of_keeps execRadSetStr_keeps
  | radTunerCtl => exact .of_keeps execRadTunerCtl_keeps
  | radLoadRegdomain => exact .of_keeps execRadLoadRegdomain_keeps
  | radSelfTest => exact .of_keeps execRadSelfTest_keeps
  | radClearTxLock => exact .of_keeps execRadClearTxLock_keeps
  | radLockLlt => exact .of_keeps execRadLockLlt_keeps
  | radCaptureIq => exact .of_keeps execRadCaptureIq_keeps
  | bssCreate => exact .of_keeps execBssCreate_keeps
  | bssDelete => exact .of_keeps execBssDelete_keeps
  | bssSetParams => exact .of_keeps execBssSetParams_keeps
  | staGet => exact .of_keeps execStaGet_keeps
  | staDisconnect => exact .of_keeps execStaDisconnect_keeps
  | staFlushQueue => exact .of_keeps execStaFlushQueue_keeps
  | mloSetLinkPolicy => exact .of_keeps execMloSetLinkPolicy_keeps
  | cumulusSet => exact .of_keeps execCumulusSet_keeps
  | staList => exact .of_keeps execStaList_keeps
  | schSetWindow => exact .of_keeps execSchSetWindow_keeps
  | schSetPolicy => exact .of_keeps execSchSetPolicy_keeps
  | crnSetReserve => exact .of_keeps execCrnSetReserve_keeps
  | crnPin => exact .of_keeps execCrnPin_keeps
  | crnGetStats => exact .of_keeps execCrnGetStats_keeps
  | twtSet => exact .of_keeps execTwtSet_keeps
  | schSetTurbo => exact .of_keeps execSchSetTurbo_keeps
  | secGetIdentity => exact .of_keeps execSecGetIdentity_keeps
  | secLoadSealed => exact .of_keeps execSecLoadSealed_keeps
  | secSetRadius => exact .of_keeps execSecSetRadius_keeps
  | secKeyImport => exact .of_keeps execSecKeyImport_keeps
  | secKeyErase => exact .of_keeps execSecKeyErase_keeps
  | secCipherJob => exact .of_keeps execSecCipherJob_keeps
  | secAuthChallenge => exact execSecAuthChallenge_advances
  | secDebugUnlock => exact .of_keeps execSecDebugUnlock_keeps
  | fwdSetPort => exact .of_keeps execFwdSetPort_keeps
  | fwdRouteSet => exact .of_keeps execFwdRouteSet_keeps
  | fwdAclSet => exact .of_keeps execFwdAclSet_keeps
  | fwdNatSet => exact .of_keeps execFwdNatSet_keeps
  | fwdFlowQuery => exact .of_keeps execFwdFlowQuery_keeps
  | ethGetCounters => exact .of_keeps execEthGetCounters_keeps
  | ethSetWol => exact .of_keeps execEthSetWol_keeps
  | ethSetMacsec => exact .of_keeps execEthSetMacsec_keeps
  | fwdVlanSet => exact .of_keeps execFwdVlanSet_keeps
  | queSetShaper => exact .of_keeps execQueSetShaper_keeps
  | queSetPolicer => exact .of_keeps execQueSetPolicer_keeps
  | queSetGcl => exact .of_keeps execQueSetGcl_keeps
  | queSetSampler => exact .of_keeps execQueSetSampler_keeps
  | queReadSamples => exact .of_keeps execQueReadSamples_keeps
  | queMap => exact .of_keeps execQueMap_keeps
  | timGet => exact .of_keeps execTimGet_keeps
  | timAdjust => exact .of_keeps execTimAdjust_keeps
  | timSetPtp => exact .of_keeps execTimSetPtp_keeps
  | timSetJumpLimit => exact .of_keeps execTimSetJumpLimit_keeps
  | memGetInfo => exact .of_keeps execMemGetInfo_keeps
  | cfgCommit => exact .of_keeps execCfgCommit_keeps
  | cfgRead => exact .of_keeps execCfgRead_keeps
  | cvuRun => exact .of_keeps execCvuRun_keeps
  | evrGetInfo => exact .of_keeps execEvrGetInfo_keeps
  | evrSetPolicy => exact .of_keeps execEvrSetPolicy_keeps
  | evrClear => exact .of_keeps execEvrClear_keeps
  | diagRun => exact .of_keeps execDiagRun_keeps
  | evrRead => exact .of_keeps execEvrRead_keeps
  | dspLoadKernel => exact .of_keeps execDspLoadKernel_keeps
  | dspRun => exact .of_keeps execDspRun_keeps
  | tdsSetHostRing => exact .of_keeps execTdsSetHostRing_keeps
  | tdsGetStats => exact .of_keeps execTdsGetStats_keeps
  | drzSetChannel => exact .of_keeps execDrzSetChannel_keeps
  | drzSetCsl => exact .of_keeps execDrzSetCsl_keeps
  | drzSetMesh => exact .of_keeps execDrzSetMesh_keeps
  | drzSend => exact .of_keeps execDrzSend_keeps
  | drzNodeSet => exact .of_keeps execDrzNodeSet_keeps
  | fltGetInfo => exact .of_keeps execFltGetInfo_keeps
  | fltSetFloor => exact .of_keeps execFltSetFloor_keeps
  | fltContextExport => exact .of_keeps execFltContextExport_keeps
  | fltContextImport => exact .of_keeps execFltContextImport_keeps
  | fltSetKey => exact .of_keeps execFltSetKey_keeps
  | fwuBegin => exact .of_keeps execFwuBegin_keeps
  | fwuData => exact .of_keeps execFwuData_keeps
  | fwuCommit => exact .of_keeps execFwuCommit_keeps
  | fwuActivate => exact execFwuActivate_advances
  | tstBist => exact .of_keeps execTstBist_keeps
  | tstLoopback => exact .of_keeps execTstLoopback_keeps
  | hostDoorbellWrite => exact .of_keeps execHostDoorbellWrite_keeps
  | devDoorbellClear => exact .of_keeps execDevDoorbellClear_keeps
  | irqMaskWrite => exact .of_keeps execIrqMaskWrite_keeps
  | evtConsWrite => exact .of_keeps execEvtConsWrite_keeps
  | resetCtlDeviceReset => exact .of_renews execResetCtlDeviceReset_renews
  | resetCtlFullReset => exact .of_renews execResetCtlFullReset_renews
  | evrCursorWrite => exact .of_keeps execEvrCursorWrite_keeps
  | evrWindowAutoAdvance => exact .of_keeps execEvrWindowAutoAdvance_keeps
  | ringProdWrite => exact .of_keeps execRingProdWrite_keeps
  | ringConsWrite => exact .of_keeps execRingConsWrite_keeps
  | ringEnable => exact .of_keeps execRingEnable_keeps
  | ringDisable => exact .of_keeps execRingDisable_keeps
  | ringDropsRead => exact .of_keeps execRingDropsRead_keeps
  | cvuInit => exact .of_keeps execCvuInit_keeps
  | cvuDataWrite => exact .of_keeps execCvuDataWrite_keeps
  | cvuFinish => exact .of_keeps execCvuFinish_keeps
  | registerWrite => exact .of_renews execRegisterWrite_renews
  | accessOffBlock => exact .of_keeps execAccessOffBlock_keeps
  | powerOnReset => exact .of_renews execPowerOnReset_renews
  | vinAonLoss => exact .of_renews execVinAonLoss_renews
  | aonBrownout => exact .of_renews execAonBrownout_renews
  | perstNAssert => exact .of_keeps execPerstNAssert_keeps
  | functionLevelReset => exact .of_renews execFunctionLevelReset_renews
  | test0Hold => exact .of_renews execTest0Hold_renews
  | pciD3hotEntry => exact .of_keeps execPciD3hotEntry_keeps
  | pciD0Return => exact .of_keeps execPciD0Return_keeps
  | mpxRelease => exact .of_keeps execMpxRelease_keeps
  | umpReady => exact .of_keeps execUmpReady_keeps
  | fwuTrialReset => exact .of_renews execFwuTrialReset_renews
  | lifecycleReset => exact .of_renews execLifecycleReset_renews
  | hostWakeNWake => exact .of_keeps execHostWakeNWake_keeps
  | gpioWake => exact .of_keeps execGpioWake_keeps
  | aonTimerWake => exact .of_keeps execAonTimerWake_keeps
  | wakePatternMatch => exact .of_keeps execWakePatternMatch_keeps
  | magicPacketMatch => exact .of_keeps execMagicPacketMatch_keeps
  | drizzleWakeFrame => exact .of_keeps execDrizzleWakeFrame_keeps
  | mgtHostWakeFrame => exact .of_keeps execMgtHostWakeFrame_keeps
  | pwrTransitionBegin => exact .of_keeps execPwrTransitionBegin_keeps
  | wakeStepReady => exact .of_renews execWakeStepReady_renews
  | wakeStepTimeout => exact .of_renews execWakeStepTimeout_renews
  | wakeRetryDelayExpiry => exact .of_keeps execWakeRetryDelayExpiry_keeps
  | limpFirmwareReady => exact .of_keeps execLimpFirmwareReady_keeps
  | thermalLevelChange => exact .of_keeps execThermalLevelChange_keeps
  | thermalTrip => exact .of_renews execThermalTrip_renews
  | thermalRearm => exact .of_keeps execThermalRearm_keeps
  | xt32Loss => exact .of_keeps execXt32Loss_keeps
  | xt32Started => exact .of_keeps execXt32Started_keeps
  | xt32StartTimeout => exact .of_keeps execXt32StartTimeout_keeps
  | avsPmbusStep => exact .of_keeps execAvsPmbusStep_keeps
  | avsWriteRetry => exact .of_keeps execAvsWriteRetry_keeps
  | heartbeatTick => exact .of_keeps execHeartbeatTick_keeps
  | operatingSecondTick => exact .of_keeps execOperatingSecondTick_keeps
  | timeNsWrap => exact .of_keeps execTimeNsWrap_keeps
  | ppsOutSecond => exact .of_keeps execPpsOutSecond_keeps
  | ppsOutWidthEnd => exact .of_keeps execPpsOutWidthEnd_keeps
  | ppsInCapture => exact .of_keeps execPpsInCapture_keeps
  | ppsInLoss => exact .of_keeps execPpsInLoss_keeps
  | ptpMessageReceive => exact .of_keeps execPtpMessageReceive_keeps
  | servoMeasurement => exact .of_keeps execServoMeasurement_keeps
  | announceTimeout => exact .of_keeps execAnnounceTimeout_keeps
  | slewDone => exact .of_keeps execSlewDone_keeps
  | ptpMessageSend => exact .of_keeps execPtpMessageSend_keeps
  | synthLock => exact .of_keeps execSynthLock_keeps
  | synthLockRetry => exact .of_keeps execSynthLockRetry_keeps
  | tuningCalibrationDone => exact .of_keeps execTuningCalibrationDone_keeps
  | channelChangeApply => exact .of_keeps execChannelChangeApply_keeps
  | cacElapsed => exact .of_keeps execCacElapsed_keeps
  | radarDetected => exact .of_keeps execRadarDetected_keeps
  | radarChannelMove => exact .of_keeps execRadarChannelMove_keeps
  | nonOccupancyEnd => exact .of_keeps execNonOccupancyEnd_keeps
  | txDeferExpiry => exact .of_keeps execTxDeferExpiry_keeps
  | txTmoExpiry => exact .of_keeps execTxTmoExpiry_keeps
  | calibrationDue => exact .of_keeps execCalibrationDue_keeps
  | calibrationStepStart => exact .of_keeps execCalibrationStepStart_keeps
  | calibrationStepDone => exact .of_keeps execCalibrationStepDone_keeps
  | haloTrainingTick => exact .of_keeps execHaloTrainingTick_keeps
  | haloTrainingDone => exact .of_keeps execHaloTrainingDone_keeps
  | haloFallback => exact .of_keeps execHaloFallback_keeps
  | iqCaptureTrigger => exact .of_keeps execIqCaptureTrigger_keeps
  | iqCaptureDone => exact .of_keeps execIqCaptureDone_keeps
  | selfTestDone => exact .of_keeps execSelfTestDone_keeps
  | lstfDetection => exact .of_keeps execLstfDetection_keeps
  | dsssDetection => exact .of_keeps execDsssDetection_keeps
  | captureRestart => exact .of_keeps execCaptureRestart_keeps
  | tbGainPreset => exact .of_keeps execTbGainPreset_keeps
  | tbWindowEnd => exact .of_keeps execTbWindowEnd_keeps
  | ppduRxEnd => exact .of_keeps execPpduRxEnd_keeps
  | mpduReceive => exact .of_keeps execMpduReceive_keeps
  | ldpcEngineStart => exact .of_keeps execLdpcEngineStart_keeps
  | codewordDone => exact .of_keeps execCodewordDone_keeps
  | turboPassStart => exact .of_keeps execTurboPassStart_keeps
  | lateWindowExpiry => exact .of_keeps execLateWindowExpiry_keeps
  | responseFreeze => exact .of_keeps execResponseFreeze_keeps
  | sifsResponseTx => exact .of_keeps execSifsResponseTx_keeps
  | micVerdict => exact .of_keeps execMicVerdict_keeps
  | reorderHoleTimeout => exact .of_keeps execReorderHoleTimeout_keeps
  | blockackreqReceive => exact .of_keeps execBlockackreqReceive_keeps
  | reassemblyTimeout => exact .of_keeps execReassemblyTimeout_keeps
  | cumulusElementReceive => exact .of_keeps execCumulusElementReceive_keeps
  | softEntryUsable => exact .of_keeps execSoftEntryUsable_keeps
  | softEntryExpiry => exact .of_keeps execSoftEntryExpiry_keeps
  | edcaBackoffEnd => exact .of_keeps execEdcaBackoffEnd_keeps
  | beaconTbtt => exact .of_keeps execBeaconTbtt_keeps
  | ppduFixPoint => exact .of_keeps execPpduFixPoint_keeps
  | ppduTxStart => exact .of_keeps execPpduTxStart_keeps
  | coexGrantSample => exact .of_keeps execCoexGrantSample_keeps
  | ctsReceive => exact .of_keeps execCtsReceive_keeps
  | ctsTimeout => exact .of_keeps execCtsTimeout_keeps
  | ackReceive => exact .of_keeps execAckReceive_keeps
  | ackTimeout => exact .of_keeps execAckTimeout_keeps
  | mpduLifetimeExpiry => exact .of_keeps execMpduLifetimeExpiry_keeps
  | txopEnd => exact .of_keeps execTxopEnd_keeps
  | managementFrameReceive => exact .of_keeps execManagementFrameReceive_keeps
  | psPollReceive => exact .of_keeps execPsPollReceive_keeps
  | uapsdTrigger => exact .of_keeps execUapsdTrigger_keeps
  | inactivityTimeout => exact .of_keeps execInactivityTimeout_keeps
  | twtRequestReceive => exact .of_keeps execTwtRequestReceive_keeps
  | twtServicePeriodStart => exact .of_keeps execTwtServicePeriodStart_keeps
  | twtServicePeriodEnd => exact .of_keeps execTwtServicePeriodEnd_keeps
  | emlsrExchangeEnd => exact .of_keeps execEmlsrExchangeEnd_keeps
  | emlsrTransitionEnd => exact .of_keeps execEmlsrTransitionEnd_keeps
  | ftmRequestReceive => exact .of_keeps execFtmRequestReceive_keeps
  | brimStart => exact .of_keeps execBrimStart_keeps
  | planCommit => exact .of_keeps execPlanCommit_keeps
  | windowBoundary => exact .of_keeps execWindowBoundary_keeps
  | fillTxopAppend => exact .of_keeps execFillTxopAppend_keeps
  | stagingStart => exact .of_keeps execStagingStart_keeps
  | crownOpComplete => exact .of_keeps execCrownOpComplete_keeps
  | holdMpduExpiry => exact .of_keeps execHoldMpduExpiry_keeps
  | lingerExpiry => exact .of_keeps execLingerExpiry_keeps
  | thrashCheck => exact .of_keeps execThrashCheck_keeps
  | crownEntryLost => exact .of_keeps execCrownEntryLost_keeps
  | beamformingReportReceive => exact .of_keeps execBeamformingReportReceive_keeps
  | portSignalDetect => exact .of_keeps execPortSignalDetect_keeps
  | portBringupDone => exact .of_keeps execPortBringupDone_keeps
  | portBringupFail => exact .of_keeps execPortBringupFail_keeps
  | portBringupRetry => exact .of_keeps execPortBringupRetry_keeps
  | portSignalLoss => exact .of_keeps execPortSignalLoss_keeps
  | mdioPoll => exact .of_keeps execMdioPoll_keeps
  | ethFrameReceive => exact .of_keeps execEthFrameReceive_keeps
  | pauseFrameReceive => exact .of_keeps execPauseFrameReceive_keeps
  | pfcFrameReceive => exact .of_keeps execPfcFrameReceive_keeps
  | pauseTimeExpiry => exact .of_keeps execPauseTimeExpiry_keeps
  | pauseRefresh => exact .of_keeps execPauseRefresh_keeps
  | holdFifoHeadTimeout => exact .of_keeps execHoldFifoHeadTimeout_keeps
  | macsecIcvVerdict => exact .of_keeps execMacsecIcvVerdict_keeps
  | fwePacketLookup => exact .of_keeps execFwePacketLookup_keeps
  | emacTxStart => exact .of_keeps execEmacTxStart_keeps
  | emacTxEnd => exact .of_keeps execEmacTxEnd_keeps
  | flowSetupDone => exact .of_keeps execFlowSetupDone_keeps
  | flowAgeOut => exact .of_keeps execFlowAgeOut_keeps
  | macAgeOut => exact .of_keeps execMacAgeOut_keeps
  | nextHopResolveRetry => exact .of_keeps execNextHopResolveRetry_keeps
  | nextHopUnreachableEnd => exact .of_keeps execNextHopUnreachableEnd_keeps
  | natFragmentExpiry => exact .of_keeps execNatFragmentExpiry_keeps
  | shaperRefill => exact .of_keeps execShaperRefill_keeps
  | policerRefill => exact .of_keeps execPolicerRefill_keeps
  | gclBaseTime => exact .of_keeps execGclBaseTime_keeps
  | gclEntryAdvance => exact .of_keeps execGclEntryAdvance_keeps
  | samplerTick => exact .of_keeps execSamplerTick_keeps
  | eventDelivery => exact .of_keeps execEventDelivery_keeps
  | umpFrameReceive => exact .of_keeps execUmpFrameReceive_keeps
  | puntEntryFill => exact .of_keeps execPuntEntryFill_keeps
  | injectEntryProcess => exact .of_keeps execInjectEntryProcess_keeps
  | injectCompletion => exact .of_keeps execInjectCompletion_keeps
  | ringCoalesceTimeout => exact .of_keeps execRingCoalesceTimeout_keeps
  | dmaRetry => exact .of_keeps execDmaRetry_keeps
  | workItemConsume => exact .of_keeps execWorkItemConsume_keeps
  | workItemStart => exact .of_keeps execWorkItemStart_keeps
  | workItemEnd => exact .of_keeps execWorkItemEnd_keeps
  | threadReady => exact .of_keeps execThreadReady_keeps
  | timeSliceExpiry => exact .of_keeps execTimeSliceExpiry_keeps
  | firmwareCoreHalt => exact .of_keeps execFirmwareCoreHalt_keeps
  | kernelCycleLimit => exact .of_keeps execKernelCycleLimit_keeps
  | bundleIssue => exact .of_keeps execBundleIssue_keeps
  | loopCountExpiry => exact .of_keeps execLoopCountExpiry_keeps
  | drzFrameReceive => exact .of_keeps execDrzFrameReceive_keeps
  | drzCsmaBackoffEnd => exact .of_keeps execDrzCsmaBackoffEnd_keeps
  | drzAckReceive => exact .of_keeps execDrzAckReceive_keeps
  | drzAckTimeout => exact .of_keeps execDrzAckTimeout_keeps
  | drzCslSample => exact .of_keeps execDrzCslSample_keeps
  | drzRendezvousStart => exact .of_keeps execDrzRendezvousStart_keeps
  | drzFloodRelay => exact .of_keeps execDrzFloodRelay_keeps
  | drzSeenCacheAging => exact .of_keeps execDrzSeenCacheAging_keeps
  | drzChannelChangeApply => exact .of_keeps execDrzChannelChangeApply_keeps
  | saeCommitReceive => exact .of_keeps execSaeCommitReceive_keeps
  | saeConfirmReceive => exact .of_keeps execSaeConfirmReceive_keeps
  | eapolKeyReceive => exact .of_keeps execEapolKeyReceive_keeps
  | fourwayRetryTimeout => exact .of_keeps execFourwayRetryTimeout_keeps
  | groupRekeyDue => exact .of_keeps execGroupRekeyDue_keeps
  | groupKeyRetryTimeout => exact .of_keeps execGroupKeyRetryTimeout_keeps
  | groupKeySwitch => exact .of_keeps execGroupKeySwitch_keeps
  | radiusResponseReceive => exact .of_keeps execRadiusResponseReceive_keeps
  | radiusTimeout => exact .of_keeps execRadiusTimeout_keeps
  | radiusDeadTimeEnd => exact .of_keeps execRadiusDeadTimeEnd_keeps
  | eapTimeout => exact .of_keeps execEapTimeout_keeps
  | pmksaExpiry => exact .of_keeps execPmksaExpiry_keeps
  | hatboxJobDone => exact .of_keeps execHatboxJobDone_keeps
  | keyWriteComplete => exact .of_keeps execKeyWriteComplete_keeps
  | challengeExpiry => exact .of_keeps execChallengeExpiry_keeps
  | debugDurationExpiry => exact .of_keeps execDebugDurationExpiry_keeps
  | trngHealthFail => exact .of_keeps execTrngHealthFail_keeps
  | ftAuthReceive => exact .of_keeps execFtAuthReceive_keeps
  | contextStagingExpiry => exact .of_keeps execContextStagingExpiry_keeps
  | dramDriftDetect => exact .of_keeps execDramDriftDetect_keeps
  | dramRetrainStep => exact .of_keeps execDramRetrainStep_keeps
  | dramRefresh => exact .of_keeps execDramRefresh_keeps
  | eccReadRetry => exact .of_keeps execEccReadRetry_keeps
  | patrolScrub => exact .of_keeps execPatrolScrub_keeps
  | mramWriteRetry => exact .of_keeps execMramWriteRetry_keeps
  | cfgBankWritten => exact .of_keeps execCfgBankWritten_keeps
  | evrRecordWrite => exact .of_keeps execEvrRecordWrite_keeps
  | evrRateWindowClose => exact .of_keeps execEvrRateWindowClose_keeps
  | evrClearDone => exact .of_keeps execEvrClearDone_keeps
  | diagRunDone => exact .of_keeps execDiagRunDone_keeps
  | tstDone => exact .of_keeps execTstDone_keeps
  | kernelLoadDone => exact .of_keeps execKernelLoadDone_keeps
  | fwuDataWritten => exact .of_keeps execFwuDataWritten_keeps
  | fwuCommitChecked => exact .of_keeps execFwuCommitChecked_keeps
  | eventSuppressionPeriod => exact .of_keeps execEventSuppressionPeriod_keeps
  | ppduTxEnd => exact .of_keeps execPpduTxEnd_keeps
  | drzFrameTxEnd => exact .of_keeps execDrzFrameTxEnd_keeps
  | uartFrameReceive => exact .of_keeps execUartFrameReceive_keeps
  | perstNRelease => exact .of_keeps execPerstNRelease_keeps
  | pcieLinkUp => exact .of_keeps execPcieLinkUp_keeps
  | evrStatRead => exact .of_keeps execEvrStatRead_keeps

/-- A step is in the relation with its start that the row it runs is in with its own, but for the queue it shortens. -/
theorem step_advances {s t : State} (h : step s = .next t) : s.sec.otp.Forward t.sec.otp ∧ (MailboxInv s → MailboxInv t) := by
  unfold step at h
  split at h
  · obtain ⟨-, ho, hm⟩ := (idle_keeps (Keeps.refl s)).advances
    exact Host.Outcome.next.inj h ▸ ⟨ho, hm⟩
  next c r _ =>
    obtain ⟨u, he, -, ho, hm⟩ := exec_advances c { s with pending := r }
    exact Host.Outcome.next.inj (he.symm.trans h) ▸ ⟨ho, hm⟩

/-! ### The obligations -/

/-- Settles O3: every row completes and leaves the queue as it found it. -/
theorem commandsCompleteAndKeepTheQueue : Obligations.CommandsCompleteAndKeepTheQueue := by
  intro c s
  obtain ⟨t, he, hp, -, -⟩ := exec_advances c s
  exact ⟨t, he, hp⟩

/-- Settles O4: of every row only a reset, a lifecycle token and the confirmation of a trial touch the OTP, and each moves it forward. -/
theorem otpOnlyMovesForward : Obligations.OtpOnlyMovesForward := fun _ _ h => (step_advances h).1

/-- Settles O5: a row writes byte strings into the slots' memory and replaces slots in their list, or resets both. -/
theorem everyStepKeepsTheMailboxForm : Obligations.EveryStepKeepsTheMailboxForm := fun _ _ hm h => (step_advances h).2 hm

end Sys2Proof.Machine
end

section
/-! PROOF. What a step runs, what the first power-on leaves, and how a command that is not served at once is treated. -/
namespace Sys2Proof.Machine
set_option Elab.async false

theorem step_of_cons {c : Instr} {r : List Instr} {s : State} (h : s.pending = c :: r) : step s = exec c { s with pending := r } := by
  unfold step
  simp only [h]

theorem step_of_nil {s : State} (h : s.pending = []) : step s = .next (idle s) := by
  unfold step
  simp only [h]

/-- Without a command the block does no more than count a cycle of the time unit. -/
theorem idle_clock (s : State) : idle s = { start s with clock := (idle s).clock } := by
  unfold idle
  split <;> rfl

/-- Settles O1: the cases of a step, and of the clock's tick in an idle one. -/
theorem stepServesTheFrontCommand : Obligations.StepServesTheFrontCommand := by
  refine ⟨fun c r s h => step_of_cons h, fun s h => ⟨step_of_nil h, ?_⟩, fun s nbits w => ⟨rfl, rfl⟩⟩
  rw [idle_clock]
  exact ⟨h, rfl, rfl⟩

/-- Settles O2: the values that the groups of the state have at the first power-on. -/
theorem resetLeavesNothingInProgress : Obligations.ResetLeavesNothingInProgress :=
  ⟨⟨rfl, rfl⟩, rfl, rfl, rfl, rfl, rfl, rfl, rfl, rfl, rfl, rfl, rfl, rfl, rfl, rfl, rfl, rfl, rfl, rfl⟩

/-! ### A command that is not served at once (R250, R251, R263) -/

section
variable {code : Nat} {h : Ump → State → Reply} {after : State → State} {u : Ump} {s : State}

/-- A slot that is not Free, or that the host does not reach, takes no message. -/
theorem serveThen_of_slot_taken {n : Nat} (hv : u.via = .pcie n)
    (hn : s.mbox.slots.getD n .free ≠ .free ∨ reachable s = false ∨ 16 ≤ n) (hq : s.mbox.cmdQueue.head? ≠ some (u.msg code)) :
    serveThen code h after u s = start s := by
  have taken : 16 ≤ n ∨ (!reachable s || s.mbox.slots.getD n .free != .free) = true := by
    obtain hf | hr | hn := hn
    · exact .inr (Bool.or_eq_true_iff.mpr (.inr (bne_iff_ne.mpr hf)))
    · exact .inr (by simp [hr])
    · exact .inl hn
  unfold serveThen
  simp only [hv, start_mbox, reachable_start]
  by_cases h16 : 16 ≤ n
  · rw [if_pos h16]
  rw [if_neg h16]
  replace taken := taken.resolve_left h16
  cases hc : s.mbox.cmdQueue with
  | nil => simp only [taken, if_true]
  | cons q r =>
    have hne : q ≠ u.msg code := by simpa [hc] using hq
    simp only [hne, taken, if_true, if_false]

/-- Behind others, a message in a Free slot joins the queue. -/
theorem serveThen_of_slot_queued {n : Nat} {q : Msg} {r : List Msg} (hv : u.via = .pcie n) (hn : n < 16) (hr : reachable s = true)
    (hf : s.mbox.slots.getD n .free = .free) (hq : s.mbox.cmdQueue = q :: r) (hne : q ≠ u.msg code) :
    serveThen code h after u s = joinQueue (u.msg code) (writeSlot n (u.msg code) (start s)) := by
  unfold serveThen
  have h16 : ¬ 16 ≤ n := Nat.not_le.mpr hn
  simp only [hv, start_mbox, reachable_start, h16, hq, hne, hr, hf, if_false]
  rfl

/-- A command repeated over Ethernet is answered by the response stored for its tag. -/
theorem serveThen_of_stored {mac : Nat} {p : Replay} (hv : u.via = .mgt mac) (hc : carries u.via s = true)
    (hp : stored mac u.tag s = some p) (hq : s.mbox.cmdQueue.head? ≠ some (u.msg code)) :
    serveThen code h after u s = emit (.ump mac p.message) (start s) := by
  have hc' : carries u.via (start s) = true := (carries_link (s := s) rfl rfl).trans hc
  have hp' : stored mac u.tag (start s) = some p := hp
  unfold serveThen
  simp only [hv, start_mbox, hp'] at hc' ⊢
  simp only [hc']
  cases hl : s.mbox.cmdQueue with
  | nil => rfl
  | cons q r =>
    have hne : q ≠ u.msg code := by simpa [hl] using hq
    simp only [hne, if_false]
    rfl

/-- Behind others, a command over Ethernet waits where fewer than 64 do. -/
theorem serveThen_of_mgt_queued {mac : Nat} {q : Msg} {r : List Msg} (hv : u.via = .mgt mac) (hc : carries u.via s = true)
    (hp : stored mac u.tag s = none) (hq : s.mbox.cmdQueue = q :: r) (hne : q ≠ u.msg code) :
    serveThen code h after u s = if 64 ≤ mgtWaiting s then start s else joinQueue (u.msg code) (start s) := by
  have hc' : carries u.via (start s) = true := (carries_link (s := s) rfl rfl).trans hc
  have hp' : stored mac u.tag (start s) = none := hp
  have hw : mgtWaiting (start s) = mgtWaiting s := rfl
  unfold serveThen
  simp only [hv, start_mbox, hp'] at hc' ⊢
  simp only [hc', hq, hne, hw, if_false]
  rfl

/-- What Ethernet or the UART does not carry is lost. -/
theorem serveThen_of_not_carried (hc : carries u.via s = false) (hn : ∀ n, u.via ≠ .pcie n) :
    serveThen code h after u s = start s := by
  have hc' : carries u.via (start s) = false := (carries_link (s := s) rfl rfl).trans hc
  unfold serveThen
  cases hv : u.via with
  | pcie n => exact absurd hv (hn n)
  | mgt mac => simp only [hv] at hc' ⊢; simp only [hc']; rfl
  | uart => simp only [hv] at hc' ⊢; simp only [hc']; rfl

end

/-- Settles O7: every row that carries a command serves it, and these are the cases in which serving does not judge it. -/
theorem commandsWaitTheirTurn : Obligations.CommandsWaitTheirTurn := by
  intro i code u s hi
  obtain ⟨h, after, he⟩ := umpRow_served _ _ _ hi
  rw [he]
  refine ⟨fun n hv hn hq => ?_, fun n q r hv hn hr hf hq hne => ?_, fun mac p hv hc hp hq => ?_,
    fun mac q r hv hc hp hq hne => ?_, fun hc hn => ?_⟩
  · rw [serveThen_of_slot_taken hv hn hq]
  · rw [serveThen_of_slot_queued hv hn hr hf hq hne]
    have hm : (u.msg code).via = .pcie n := hv
    simp only [joinQueue, hm]
  · rw [serveThen_of_stored hv hc hp hq]
  · rw [serveThen_of_mgt_queued hv hc hp hq hne]
    have hm : (u.msg code).via = .mgt mac := hv
    simp only [joinQueue, hm]
  · rw [serveThen_of_not_carried hc hn]

end Sys2Proof.Machine
end

section
/-! PROOF. A command served at once: its checks one by one, and its answer from what its manager replies. -/
namespace Sys2Proof.Machine
set_option Elab.async false

section
variable {code c : Nat} {a : Bool} {l : List Obj} {u : Ump} {s x : State} {r : List (Bool × Nat)} {k : Unit → Reply}

/-! ### Checks -/

@[simp] theorem short_eq (u : Ump) (n : Nat) : short u n = (decide (u.data.length < n), ST.badLength) := rfl
@[simp] theorem param_eq (b : Bool) : param b = (b, ST.badParam) := rfl
@[simp] theorem off_eq (d : Nat) (s : State) : off d s = (!powered d s, ST.poweredOff) := rfl

/-- The length of a command that its field `o` selects, where the field has a defined value (R248). -/
theorem shortOp_of_le {o hi n : Nat} (h : u.b8 o ≤ hi) : shortOp u o hi n = (decide (u.data.length < n), ST.badLength) := by
  simp [shortOp, h]

@[simp] theorem judge_nil : judge [] s k = k () := rfl

@[simp] theorem judge_cons (b : Bool) (st : Nat) : judge ((b, st) :: r) s k = if b then refuse st s else judge r s k := by
  cases b <;> rfl

/-- Where nothing stands in a command's way, its gate lets it pass. -/
@[simp] theorem judge_gate (h : Clear c a l s) : judge (gate c a l s ++ r) x k = judge r x k := by
  have hn : (gate c a l s).find? (fun c => c.1) = none := by
    rw [List.find?_eq_none]
    intro b hb
    simpa using List.all_eq_true.mp h b hb
  simp only [judge, List.find?_append, hn, Option.none_or]

@[simp] theorem judge_gate_last (h : Clear c a l s) : judge (gate c a l s) x k = k () := by
  rw [← List.append_nil (gate c a l s), judge_gate h, judge_nil]

/-- What stands in a command's way is the same before and after its message has arrived. -/
theorem Clear.arrived (h : Clear c a l s) (ha : Arrives code u s) : Clear c a l (arrived code u s) := by
  unfold Clear
  rwa [gate_arrived ha]

/-! ### The form of the mailbox, with no command waiting -/

/-- The mailbox keeps its form, and no command waits in it. -/
def Formed (s : State) : Prop := MailboxInv s ∧ s.mbox.cmdQueue = []

theorem Formed.arrived (h : MailboxInv s) : Formed (arrived code u s) := ⟨h.arrived, arrived_cmdQueue ..⟩

section
variable {t : State} (h : Formed s)
include h

/-- What leaves the slots, their memory and the queue as they are keeps the form. -/
theorem Formed.with (hm : t.mbox.mem = s.mbox.mem := by exact rfl) (hs : t.mbox.slots = s.mbox.slots := by exact rfl)
    (hq : t.mbox.cmdQueue = s.mbox.cmdQueue := by exact rfl) : Formed t :=
  ⟨h.1.of_parts hm (congrArg _ hs), hq.trans h.2⟩

theorem Formed.of_kept (k : MboxKept s t) : Formed t := by
  have hi := k.inv h.1
  obtain ⟨-, hq, -⟩ := k
  exact ⟨hi, hq.trans h.2⟩

theorem Formed.raise {c : Nat} {p : Bytes} : Formed (raise c p s) := h.of_kept (raise_kept ..)
theorem Formed.record {c : Nat} {p : Bytes} {x y z : Bool} {e : List (Nat × Bytes)} : Formed (record c p x y z e s) :=
  h.of_kept (record_kept ..)
theorem Formed.endAsync {a : AsyncCmd} {st : Nat} {p : Bytes} : Formed (endAsync a st p s) := by
  obtain ⟨hm, hq⟩ := endAsync_inv a st p h.1
  exact ⟨hm, hq.trans h.2⟩

end

/-! ### Answers -/

variable {i : Instr} {h : Ump → State → Reply} {data : Bytes} {st : Nat}

@[simp] theorem postedStatus_ok : postedStatus u ST.ok = goodStatus u := if_pos rfl

theorem postedStatus_of_ne (h : st ≠ ST.ok) : postedStatus u st = st := if_neg h

theorem goodStatus_good (u : Ump) : ST.good (goodStatus u) = true := by unfold goodStatus; split <;> rfl

theorem succeeds_of_serve (he : exec i s = .next (serve code h u s)) (ha : Arrives code u s)
    (hr : h u (arrived code u s) = reply data x) (hx : Formed x) : Succeeds i code u data x s := by
  have := answers_of_serve he ha hr hx.1 hx.2
  rwa [postedStatus_ok] at this

/-- A reply whose status is not ST_OK is answered with that status. -/
theorem answers_of_ne_ok (hst : st ≠ ST.ok) (he : exec i s = .next (serve code h u s)) (ha : Arrives code u s)
    (hr : h u (arrived code u s) = ⟨x, st, data, true⟩) (hx : Formed x) :
    Answers i code u st data x s := by
  have := answers_of_serve he ha hr hx.1 hx.2
  rwa [postedStatus_of_ne hst] at this

theorem pends_of_serve {locks : List Obj} (he : exec i s = .next (serve code h u s)) (ha : Arrives code u s)
    (hr : h u (arrived code u s) = pend (accept u code locks x)) (hx : Formed x) :
    Pends i code u locks x s :=
  answers_of_ne_ok (by decide) he ha hr hx.with

theorem fails_of_serve (hst : st ≠ ST.ok) (hm : MailboxInv s) (he : exec i s = .next (serve code h u s)) (ha : Arrives code u s)
    (hr : h u (arrived code u s) = refuse st (arrived code u s)) : Fails i code u st s :=
  answers_of_ne_ok hst he ha hr (.arrived hm)

end
end Sys2Proof.Machine
end

section
/-! PROOF. The commands of the system group (chapter 11). -/
namespace Sys2Proof.Machine
set_option Elab.async false

/-- Abort tokens name an outstanding command, which the arrival of the abort leaves outstanding. -/
theorem abortTarget_arrived {code : Nat} {u : Ump} {s : State} (ha : Arrives code u s) (v : Via) (tag : Nat) :
    abortTarget v tag (arrived code u s) = abortTarget v tag s := by
  obtain ⟨m, n, hm⟩ := arrived_mbox ha
  simp only [abortTarget, hm]

/-- Settles O12: what the managers reply, and what follows the response of SYS_RESET. -/
theorem systemCommands : Obligations.SystemCommands := by
  refine ⟨fun u s hm => ⟨fun ha => ?_, fun ha => ?_⟩, fun u s hm ha hc hl hk hr => ?_, fun u s hm => ⟨fun ha hc hl => ?_, fun ha hc hl => ?_⟩⟩
  · exact succeeds_of_serve rfl ha rfl (.arrived hm)
  · exact succeeds_of_serve rfl ha rfl (.arrived hm)
  · have hg := hc.arrived ha
    have hj : sysReset u (arrived 0x0002 u s) = reply [] (arrived 0x0002 u s) := by
      obtain h | h := hr <;> simp [sysReset, hg, Nat.not_lt.mpr hl, hk, h]
    obtain ⟨y, hs, hy, ro⟩ := serveThen_reply (after := resetAfter u) ha hj hm.arrived (arrived_cmdQueue ..)
    refine ⟨y, hy, ro, (congrArg Host.Outcome.next hs).trans ?_⟩
    simp only [postedStatus_ok, goodStatus_good, if_true, resetAfter]
  · have hg := hc.arrived ha
    refine ⟨fun h => ?_, fun h hu => ?_, fun h => ?_⟩
    · refine succeeds_of_serve rfl ha ?_ (.arrived hm)
      simp [setEventSink, shortOp_of_le, hg, Nat.not_lt.mpr hl, h, setSink]
    · refine succeeds_of_serve rfl ha ?_ (.arrived hm)
      simp [setEventSink, shortOp_of_le, hg, Nat.not_lt.mpr hl, h, hu, setSink]
    · refine succeeds_of_serve rfl ha ?_ (.arrived hm)
      simp [setEventSink, shortOp_of_le, hg, Nat.not_lt.mpr hl, h, setSink]
  · have hg := hc.arrived ha
    refine ⟨fun h => ?_, fun c h hp hb hd => ?_, fun c h hp hk => ?_⟩
    · refine answers_of_ne_ok (st := ST.nothingToAbort) (by decide) rfl ha ?_ (.arrived hm)
      simp [sysAbort, hg, Nat.not_lt.mpr hl, abortTarget_arrived ha, h]
    · refine answers_of_ne_ok (st := ST.nothingToAbort) (by decide) rfl ha ?_ (.arrived hm)
      simp [sysAbort, hg, Nat.not_lt.mpr hl, abortTarget_arrived ha, h, hp, hb, hd]
    · refine succeeds_of_serve rfl ha ?_ (Formed.with (.arrived hm)).endAsync
      simp [sysAbort, hg, Nat.not_lt.mpr hl, abortTarget_arrived ha, h, hp, hk, abortNow]

end Sys2Proof.Machine
end

section
/-! PROOF. What a change of the link leaves alone, field by field, and what follows the answer of a command. -/
namespace Sys2Proof.Machine
set_option Elab.async false

section
variable {s t : State} (h : LinkOnly s t)
include h

theorem LinkOnly.rings : t.rings = s.rings := by rw [h]
theorem LinkOnly.dma : t.dma = s.dma := by rw [h]
theorem LinkOnly.power : t.power = s.power := by rw [h]
theorem LinkOnly.radio : t.radio = s.radio := by rw [h]
theorem LinkOnly.modem : t.modem = s.modem := by rw [h]
theorem LinkOnly.air : t.air = s.air := by rw [h]
theorem LinkOnly.mls : t.mls = s.mls := by rw [h]
theorem LinkOnly.wire : t.wire = s.wire := by rw [h]
theorem LinkOnly.qme : t.qme = s.qme := by rw [h]
theorem LinkOnly.clock : t.clock = s.clock := by rw [h]
theorem LinkOnly.sec : t.sec = s.sec := by rw [h]
theorem LinkOnly.fleet : t.fleet = s.fleet := by rw [h]
theorem LinkOnly.fwu : t.fwu = s.fwu := by rw [h]
theorem LinkOnly.mem : t.mem = s.mem := by rw [h]
theorem LinkOnly.tds : t.tds = s.tds := by rw [h]
theorem LinkOnly.dsp : t.dsp = s.dsp := by rw [h]
theorem LinkOnly.drz : t.drz = s.drz := by rw [h]
theorem LinkOnly.pending : t.pending = s.pending := by rw [h]

end

section
variable {code : Nat} {u : Ump} {s x : State} {i : Instr} {h : Ump → State → Reply} {after : State → State} {data : Bytes}
  {locks : List Obj}

/-- The answer leaves no command waiting. -/
theorem ReplyOnly.cmdQueue {x t : State} (h : ReplyOnly x t) : t.mbox.cmdQueue = [] := by
  obtain ⟨-, -, hm⟩ := h
  rw [hm]

/-- What an async command does behind its ST_PENDING. -/
theorem pends_then (he : exec i s = .next (serveThen code h after u s)) (ha : Arrives code u s)
    (hr : h u (arrived code u s) = pend (accept u code locks x)) (hx : Formed x) :
    ∃ y, Answered code u ST.pending [] y ∧ ReplyOnly (accept u code locks x) y ∧
      exec i s = .next (drain (after y).mbox.cmdQueue (after y)) := by
  obtain ⟨y, hs, hy, ro⟩ := serveThen_reply (after := after) ha hr hx.with.1 hx.with.2
  rw [postedStatus_of_ne (by decide)] at hs hy
  refine ⟨y, hy, ro, he.trans ?_⟩
  rw [hs]
  rfl

theorem pends_of_serveThen (he : exec i s = .next (serveThen code h after u s)) (ha : Arrives code u s)
    (hr : h u (arrived code u s) = pend (accept u code locks x)) (hx : Formed x) (hn : ∀ y, after y = y) :
    Pends i code u locks x s := by
  obtain ⟨y, hy, ro, hs⟩ := pends_then he ha hr hx
  rw [hn, ro.cmdQueue, drain_nil ro.cmdQueue] at hs
  exact ⟨y, hs, hy, ro⟩

end
end Sys2Proof.Machine
end

section
/-! PROOF. The commands of the power group, and the entry of STANDBY and SLEEP (chapter 17). -/
namespace Sys2Proof.Machine
set_option Elab.async false

theorem locked_arrived {code : Nat} {u : Ump} {s : State} (ha : Arrives code u s) (o : Obj) :
    locked o (arrived code u s) = locked o s := by
  obtain ⟨m, n, hm⟩ := arrived_mbox ha
  simp only [locked, hm]

theorem toQuiet_power (s : State) : (toQuiet s).power.state = .quiet ∧ (toQuiet s).power.domains = 0x687 := by
  unfold toQuiet
  dsimp only
  split <;> simp [(endAsync_link _ _ _ _).power, (raise_link _ _ _).power]

/-- Firmware that enters STANDBY or SLEEP ends the transition, arms the wake sources and drops the link (R402). -/
theorem enterLow_power (dst : PwrState) (s : State) :
    let t := enterLow dst [] s
    t.power.state = dst ∧ t.power.target = none ∧ t.power.changing = false ∧ t.power.stage = 0 ∧ t.power.armed = true ∧
      t.power.domains = (if dst = .standby then standbyDomains t.power.wakeCfg else 1) ∧ t.power.slpLow = decide (dst = .sleep) ∧
      t.pcie.linkUp = false ∧ t.mbox.pcieQueue = [] ∧ t.mbox.sinkQueue = [] := by
  refine ⟨rfl, rfl, rfl, rfl, rfl, rfl, ?_, rfl, rfl, rfl⟩
  cases dst <;> rfl

/-- Settles O13: what the managers reply, what follows the response of PWR_SET_STATE, and the last step of a transition. -/
theorem powerCommandsAndTransitions : Obligations.PowerCommandsAndTransitions := by
  refine ⟨fun u s hm => ⟨fun ha => ?_, fun ha hc hl => ⟨fun h => ?_, fun h ht hs hz => ?_⟩, fun ha hc hl => ⟨fun h => ?_, fun h hb => ?_⟩,
    fun ha hc hl hch hbist hne => ?_⟩, fun s dst ht hd hch hn => ?_⟩
  · exact succeeds_of_serve rfl ha rfl (.arrived hm)
  · refine succeeds_of_serve rfl ha ?_ (.arrived hm)
    have hg := hc.arrived ha
    simp [pwrSetWake, shortOp_of_le, hg, Nat.not_lt.mpr hl, h]
  · refine succeeds_of_serve rfl ha ?_ (Formed.with (.arrived hm))
    have hg := hc.arrived ha
    have hw : (BitVec.getLsbD (BitVec.ofNat 16 (u.b16 2 % 64)) 5 && u.b32 8 == 0) = false := by
      simpa only [Bool.and_eq_false_imp, beq_eq_false_iff_ne] using hz
    simp only [pwrSetWake, wakeArgs, Nat.not_lt.mpr ht, Nat.not_lt.mpr hs, hw, h]
    simp [shortOp_of_le, hg, Nat.not_lt.mpr hl, h]
  · refine succeeds_of_serve rfl ha ?_ (.arrived hm)
    have hg := hc.arrived ha
    simp [pwrSetPasr, shortOp_of_le, hg, Nat.not_lt.mpr hl, h]
  · refine succeeds_of_serve rfl ha ?_ (Formed.with (.arrived hm))
    have hg := hc.arrived ha
    have hs : (u.b16 2 != 0 && !bit (u.b8 4) 7) = false := by simpa using hb
    simp only [pwrSetPasr, Bool.and_assoc, hs]
    simp [shortOp_of_le, hg, Nat.not_lt.mpr hl, h]
  · have hg := hc.arrived ha
    have hb : ∀ k < 4, locked (.bist k) (arrived 0x0101 u s) = false := fun k hk => (locked_arrived ha _).trans (hbist k hk)
    have hne' : (pwrCode s.power.state == u.b8 0) = false := by simpa using hne.symm
    have hj (h : u.b8 0 ≤ 3) : pwrSetState u (arrived 0x0101 u s) = pend (accept u 0x0101 [.power]
        (if u.b8 0 < 2 then arrived 0x0101 u s
          else onPower (fun p => { p with target := some (pwrState (u.b8 0)) }) (arrived 0x0101 u s))) := by
      simp [pwrSetState, hg, Nat.not_lt.mpr hl, Nat.not_lt.mpr h, hch, hne', hb, pending]
    refine ⟨fun dst h => ?_, fun h => ?_, fun h => ?_⟩
    · have h3 : u.b8 0 ≤ 3 := by omega
      have h2 : ¬ u.b8 0 < 2 := by omega
      have hd : pwrState (u.b8 0) = dst := by obtain ⟨h, rfl⟩ | ⟨h, rfl⟩ := h <;> rw [h] <;> rfl
      have hj := hj h3
      rw [if_neg h2, hd] at hj
      refine pends_of_serveThen (after := pwrStart u) rfl ha hj (Formed.with (.arrived hm)) fun y => ?_
      obtain ⟨h, -⟩ | ⟨h, -⟩ := h <;> simp only [pwrStart, h]
    · have hj := hj (by omega)
      rw [if_pos (by omega)] at hj
      obtain ⟨y, hy, ro, hs⟩ := pends_then (i := .pwrSetState u) (after := pwrStart u) rfl ha hj (.arrived hm)
      simp only [pwrStart, h] at hs
      exact ⟨y, hy, ro, hs, toQuiet_power y⟩
    · have hj := hj (by omega)
      rw [if_pos (by omega)] at hj
      obtain ⟨y, hy, ro, hs⟩ := pends_then (i := .pwrSetState u) (after := pwrStart u) rfl ha hj (.arrived hm)
      simp only [pwrStart, h] at hs
      exact ⟨y, hy, ro, hs⟩
  · have hb : (s.mbox.async.any fun a => neverCodes.contains a.code) = false := by simpa using hn
    have he : exec (.pwrTransitionBegin []) s = .next (lowerPower dst [] (start s)) := by
      show execPwrTransitionBegin [] s = _
      unfold execPwrTransitionBegin
      obtain rfl | rfl := hd <;> simp only [start_power, start_mbox, ht, hch, hb] <;> rfl
    exact ⟨_, he, enterLow_power dst _⟩

end Sys2Proof.Machine
end

section
/-! PROOF. The thermal rows, the AON clock and adaptive voltage scaling (chapters 17 and 21). -/
namespace Sys2Proof.Machine
set_option Elab.async false

/-! ### The level of a temperature (R413) -/

theorem thermalLevel_stays_normal {temp : Int} (h : temp < 400) : thermalLevel 0 temp = 0 := by
  simp [thermalLevel, thermalUp, List.filter, show ¬ 400 ≤ temp by omega, show ¬ 428 ≤ temp by omega, show ¬ 460 ≤ temp by omega]

theorem thermalLevel_rises {temp : Int} (h : 400 ≤ temp) (hu : temp < 428) : thermalLevel 0 temp = 1 := by
  simp [thermalLevel, thermalUp, List.filter, h, show ¬ 428 ≤ temp by omega, show ¬ 460 ≤ temp by omega]

theorem thermalLevel_falls {temp : Int} (h : temp < 380) : thermalLevel 1 temp = 0 := by
  simp [thermalLevel, thermalUp, List.filter, show ¬ 400 ≤ temp by omega, show ¬ 428 ≤ temp by omega, show ¬ 460 ≤ temp by omega,
    show ¬ 400 ≤ temp + 20 by omega, show ¬ 428 ≤ temp + 20 by omega, show ¬ 460 ≤ temp + 20 by omega,
    show ¬ 380 ≤ temp by omega, show ¬ 408 ≤ temp by omega, show ¬ 440 ≤ temp by omega]

/-- Where the level does not change, the reading is kept; between normal and level 1 the event follows. -/
theorem thermalChange_of_same {sensor : Nat} {temp : Int} {s : State} (h : thermalLevel s.power.thermal temp = s.power.thermal) :
    thermalChange sensor temp s = onPower (fun p => { p with temperature := temp, sensor := sensor }) s := by
  simp [thermalChange, h]

theorem thermalChange_below_two {sensor n : Nat} {temp : Int} {s : State} (h : thermalLevel s.power.thermal temp = n)
    (hne : n ≠ s.power.thermal) (hn : n < 2) (ho : s.power.thermal < 2) (hp : powered 1 s = true) :
    thermalChange sensor temp s = raise 0x0106 (leBytes 1 n ++ leBytes 1 sensor ++ wrS 2 temp)
      (onPower (fun p => { p with temperature := temp, sensor := sensor, thermal := n }) s) := by
  have h3 : n ≠ 3 := by omega
  have hl : limited2 s.power = limited2 { s.power with temperature := temp, sensor := sensor, thermal := n } := by
    simp [limited2, Nat.not_le.mpr hn, Nat.not_le.mpr ho]
  simp only [thermalChange, h, hne, h3, onPower_power, ← hl, beq_self_eq_true, if_true]
  exact if_pos hp

/-- Settles O14: the branch that each row takes under the hypotheses stated. -/
theorem thermalClockAndVoltageRows : Obligations.ThermalClockAndVoltageRows := by
  refine ⟨⟨fun sensor temp s ho ht hh => ?_, fun sensor temp s ht hh hs => ?_, fun temp s ht hs hl => ?_⟩,
    fun s hp hx => ?_, fun s ho hx => ?_, fun target s hp hr hl hu hn => ?_, fun s hr ht => ?_, fun s hp hs hm => ?_⟩
  · have he : exec (.thermalLevelChange sensor temp) s = .next (thermalChange sensor temp (start s)) := by
      show execThermalLevelChange sensor temp s = _
      simp [execThermalLevelChange, ho, ht, hh]
    refine ⟨fun h0 hl => he.trans ?_, fun h0 hl hu hp => he.trans ?_, fun h1 hl hp => he.trans ?_⟩
    · rw [thermalChange_of_same (by rw [start_power, h0, thermalLevel_stays_normal hl])]
    · rw [thermalChange_below_two (n := 1) (s := start s) (by rw [start_power, h0, thermalLevel_rises hl hu]) (by simp [h0]) (by decide)
        (by simp [h0]) hp]
    · rw [thermalChange_below_two (n := 0) (s := start s) (by rw [start_power, h1, thermalLevel_falls hl]) (by simp [h1]) (by decide)
        (by simp [h1]) hp]
  · refine ⟨thermalTrip sensor temp (start s), ?_, rfl, rfl, rfl, rfl, rfl, rfl, rfl, rfl, rfl, rfl, rfl, rfl, rfl, rfl, rfl⟩
    have hrun : (s.power.state == .run || s.power.state == .quiet || s.power.state == .standby) = true := by
      obtain h | h | h := hs <;> rw [h] <;> rfl
    have hgo : (decide (460 ≤ temp) && !s.power.held && (s.power.state == .run || s.power.state == .quiet || s.power.state == .standby)) = true := by
      rw [decide_eq_true ht, hh]
      exact hrun
    exact congrArg Host.Outcome.next (if_pos hgo)
  · exact congrArg Host.Outcome.next (if_pos (by simp [ht, hs, hl]))
  · exact congrArg Host.Outcome.next (if_pos (by simp [hp, hx]))
  · exact ⟨congrArg Host.Outcome.next (if_pos (by simp [ho, hx])), congrArg Host.Outcome.next (if_pos (by simp [ho, hx]))⟩
  · have ha : (s.power.avsNow == 0 || (apart target s.power.avsNow == 1 && decide (s.power.avsAt + 100000 ≤ runTime s))) = true := by
      simp only [apart, Bool.or_eq_true, Bool.and_eq_true, beq_iff_eq, decide_eq_true_eq]
      split <;> omega
    have hc : (powered 1 s && !s.power.avsRetry && decide (130 ≤ target) && decide (target ≤ 170) &&
        (s.power.avsNow == 0 || (apart target s.power.avsNow == 1 && decide (s.power.avsAt + 100000 ≤ runTime s)))) = true := by
      simp [ha, hp, hr, hl, hu]
    exact ⟨congrArg Host.Outcome.next (if_pos hc), congrArg Host.Outcome.next (if_pos hc)⟩
  · have hc : ¬ (!s.power.avsRetry || decide (runTime s < s.power.avsAt + 1000000)) = true := by simp [hr, ht]
    refine ⟨congrArg Host.Outcome.next (if_neg hc), fun h2 => congrArg Host.Outcome.next ((if_neg hc).trans ?_)⟩
    have hl : limited2 s.power = true := by simp [limited2, h2]
    simp only [start_power, hl, if_true]
    rfl
  · exact congrArg Host.Outcome.next (if_pos (by obtain hs | hs | hs := hs <;> simp [hp, hs, show s.power.mpxHalted ≠ 3#2 from hm]))

end Sys2Proof.Machine
end

section
/-! PROOF. Resets that boot (chapters 12 and 17). -/
namespace Sys2Proof.Machine
set_option Elab.async false

/-- A device whose slot A holds a good image. -/
def imagedDevice : State := { State.reset with fwu := { Fwu.reset with slotA := { ImageSlot.empty with cause := 0 } } }

/-- A release that meets DRAM of no size that R318 knows. -/
def noDram : Boot := { installed := 0 }

theorem noDram_goodRelease : GoodRelease noDram (noDram.bootSel % 4) imagedDevice := by
  unfold GoodRelease
  decide

/-- The boot halts in stage 0xFF. -/
theorem powerOnReset_noDram : exec (.powerOnReset noDram) imagedDevice = .next (powerOnReset 0 noDram (start imagedDevice)) ∧
    (powerOnReset 0 noDram (start imagedDevice)).power.stage = 255 := ⟨rfl, rfl⟩

/-- Refutes O15: a good release, as stated, leaves the size of the DRAM open; with none installed the image is good and the boot
halts (R318), so a power-on does not reach stage 0x02. -/
theorem not_resetsBootTheActiveSlot : ¬ Obligations.ResetsBootTheActiveSlot := by
  intro h
  obtain ⟨hgood, -⟩ := h noDram imagedDevice
  obtain ⟨⟨t, he, hb, -⟩, -⟩ := hgood noDram_goodRelease
  obtain ⟨hs, -⟩ := hb
  obtain ⟨he', hs'⟩ := powerOnReset_noDram
  rw [← Host.Outcome.next.inj (he'.symm.trans he), hs'] at hs
  exact absurd hs (by decide)

end Sys2Proof.Machine
end

section
/-! PROOF. Loss of supply, the end of a boot, the wake sources and the wake sequence (chapter 17). -/
namespace Sys2Proof.Machine
set_option Elab.async false

/-- The wake that a qualified trigger starts. -/
def wokenBy (src port index : Nat) (s : State) : State :=
  onPower (fun p =>
    { p with wakeSource := src, wakePort := port, wakeIndex := index, wakes := inc 32 p.wakes, wake := .waiting
             wakeStep := if p.state = .sleep then 1 else 4, wakeFailed := false, wakeFrom := p.state, slpLow := false }) s

theorem trigger_of_armed {src port index : Nat} {same : Bool} {s : State} (ha : sourceArmed src s = true)
    (hs : s.power.state = .standby ∨ s.power.state = .sleep) (hw : s.power.wake = .none) :
    trigger src port index same s = wokenBy src port index s := by
  unfold trigger wokenBy
  have hc : ¬ (!sourceArmed src s || !(s.power.state == .standby || s.power.state == .sleep)) = true := by
    obtain hs | hs := hs <;> simp [ha, hs]
  rw [if_neg hc, if_pos (by simp [hw])]

/-- A frame that starts a wake has its port match from then on. -/
theorem frameTrigger_of_armed {src port index : Nat} {same : Bool} {s : State} (ha : sourceArmed src s = true)
    (hs : s.power.state = .standby) (hw : s.power.wake = .none) :
    frameTrigger src port index same s = matchXoff (wokenBy src port index s) := by
  unfold frameTrigger
  rw [trigger_of_armed ha (.inl hs) hw]
  exact if_pos (by simp [hw, wokenBy])

theorem wakePort_of_up {port : Nat} {p : Port} {s : State} (hp : powered 9 s = true) (hl : Tab.look s.wire.ports port = some p)
    (hu : p.state = .up) : wakePort port s = some p := by
  simp [wakePort, hp, hl, hu]

/-- Events held until firmware runs change the link, and their list, alone. -/
theorem raiseReports_link (s : State) : LinkOnly (onPower (fun p => { p with reports := [] }) s) (raiseReports s) := by
  unfold raiseReports
  refine List.foldlRecOn (motive := LinkOnly (onPower (fun p => { p with reports := [] }) s)) _ _ rfl fun t ht r _ => ?_
  have hr : LinkOnly t (if r.recorded then deliver ⟨r.code, 0, 0, r.payload, none⟩ t else raise r.code r.payload t) := by
    split
    · exact deliver_link _ _
    · exact raise_link _ _ _
  dsimp only
  revert hr
  generalize (if r.recorded = true then _ else _) = w
  intro hr
  refine ht.trans (hr.trans ?_)
  split
  · exact setFault_link _ _ _
  · rfl

theorem reachable_of_domains {s : State} (h : s.power.domains = 1) : reachable s = false := by
  simp [reachable, powered, h]

/-- What limp firmware does when it is ready, but for the events it then raises (R409). -/
def limpStarted (aon : Nat) (s : State) : State :=
  let woke := s.power.limpCause != 2
  let t := onPower (fun p => { p with stage := 5, faultOut := p.faultOut && !woke }) s
  if woke then restoreTime aon t else onClock (fun c => { c with servo := .free }) t

theorem limpStarted_fields (aon : Nat) (s : State) : (limpStarted aon s).power.stage = 5 ∧ (limpStarted aon s).clock.servo = .free ∧
    (limpStarted aon s).air = s.air ∧ (limpStarted aon s).sec = s.sec ∧ (limpStarted aon s).mem = s.mem := by
  unfold limpStarted
  dsimp only
  split <;> exact ⟨rfl, rfl, rfl, rfl, rfl⟩

/-- Settles O16: the branch that each row takes under the hypotheses stated. -/
theorem supplyBootAndWakeRows : Obligations.SupplyBootAndWakeRows := by
  refine ⟨⟨fun s => ?_, fun cause s hc => ?_, fun s hs => congrArg Host.Outcome.next (if_pos hs), fun aon s hl hs => ?_⟩,
    fun s same ha hw => ⟨fun hs => ⟨?_, fun gpio h4 hg => ?_, fun aon h5 ht => ?_⟩,
      fun hs => ⟨fun f hp hd h3 => ?_, fun index hp hi h2 => ?_, fun port frame p hp hl hu hm hf h1 => ?_,
        fun port frame p k w hp hl hu hk hf h0 => ?_⟩⟩, fun b s => ⟨fun hw => ⟨fun hf hk => ?_, fun hf hk => ?_, fun hf hk ht hc hr => ?_,
        fun hf => ?_, fun hf hk => ?_⟩, fun hw => congrArg Host.Outcome.next (if_pos (by simp [hw]))⟩⟩
  · exact ⟨_, rfl, rfl, rfl, rfl, rfl, rfl, rfl, rfl, rfl, rfl, rfl, rfl, rfl, rfl⟩
  · obtain rfl | rfl | rfl : cause = 0 ∨ cause = 1 ∨ cause = 2 := by omega
    all_goals exact ⟨_, rfl, rfl, rfl, rfl, reachable_of_domains rfl, rfl⟩
  · let t := limpStarted aon (start s)
    let v := raiseReports (raise 0x0105 (leBytes 1 t.power.limpCause) t)
    have he : exec (.limpFirmwareReady aon) s = .next (drain v.mbox.cmdQueue v) :=
      congrArg Host.Outcome.next (if_neg (by simp [hl, hs]))
    have hv : LinkOnly (onPower (fun p => { p with reports := [] }) (raise 0x0105 (leBytes 1 t.power.limpCause) t)) _ :=
      (raiseReports_link _).trans (drain_link v.mbox.cmdQueue v)
    have hr : LinkOnly t (raise 0x0105 (leBytes 1 t.power.limpCause) t) := raise_link _ _ _
    obtain ⟨h5, hf, ha, hc, hm⟩ := limpStarted_fields aon (start s)
    refine ⟨_, he, ?_, ?_, (congrArg Clock.servo (hv.clock.trans hr.clock)).trans hf, hv.air.trans (hr.air.trans ha), hv.sec.trans (hr.sec.trans hc),
      hv.mem.trans (hr.mem.trans hm)⟩
    · rw [hv.power, onPower_power, hr.power]; exact h5
    · rw [hv.power]; rfl
  · exact congrArg Host.Outcome.next (trigger_of_armed (by simpa [sourceArmed] using ha) hs hw)
  · exact congrArg Host.Outcome.next ((if_pos (by simp [hg])).trans (trigger_of_armed (by simp [sourceArmed, ha, h4]) hs hw))
  · exact congrArg Host.Outcome.next ((if_pos ht).trans (trigger_of_armed (by simp [sourceArmed, ha, h5]) hs hw))
  · exact congrArg Host.Outcome.next ((if_pos (by simp [hp, show drzDest f (start s) = 0 from hd])).trans
      (trigger_of_armed (by simp [sourceArmed, ha, hs, h3]) (.inl hs) hw))
  · exact congrArg Host.Outcome.next ((if_pos (by simp [hp, hi])).trans
      (frameTrigger_of_armed (by simp [sourceArmed, ha, hs, h2]) hs hw))
  · show execMagicPacketMatch port frame same s = _
    have hf' : frameTrigger 2 port 0 same (start s) = _ := frameTrigger_of_armed (by simp [sourceArmed, ha, hs, h1]) hs hw
    simp only [execMagicPacketMatch, wakePort_of_up (s := start s) hp hl hu, hm, hf, hf']
    rfl
  · show execWakePatternMatch port frame same s = _
    have hf' : frameTrigger 1 port k same (start s) = _ := frameTrigger_of_armed (by simp [sourceArmed, ha, hs, h0]) hs hw
    simp only [execWakePatternMatch, wakePort_of_up (s := start s) hp hl hu, hk, List.find?_cons, hf, hf']
    rfl
  · refine congrArg Host.Outcome.next ?_
    simp [wakeReady, hw, hf, hk]
  · refine congrArg Host.Outcome.next ?_
    simp [wakeReady, hw, hf, hk]
  · have he : wakeReady b (start s) = logicReady b (start s) := by simp [wakeReady, hw, hf, hk]
    have hr' : retainedCovered (start s) = true := hr
    refine ⟨_, congrArg Host.Outcome.next (he.trans (if_neg (by simp [ht, hc, hr']))), rfl, rfl, rfl, rfl, rfl, rfl, rfl, rfl⟩
  · refine congrArg Host.Outcome.next ?_
    simp [wakeTimeout, hw, hf]
  · refine congrArg Host.Outcome.next ?_
    simp [wakeTimeout, wakeLasting, hw, hf, hk]

end Sys2Proof.Machine
end

section
/-! PROOF. Writes of the doorbell, mask, event-index and ring registers (chapter 10). -/
namespace Sys2Proof.Machine
set_option Elab.async false

/-! ### Doorbells and the mask -/

/-- With nothing held back there is nothing to send. -/
theorem flushHold_nil {s : State} (h : s.tds.hold = []) : flushHold s.tds.hold s = s := by
  rw [h]
  show { s with tds := { s.tds with hold := [] } } = s
  rw [← h]

/-- A message that its row can serve waits for it. -/
theorem drain_servable {m : Msg} {r : List Msg} {s : State} (ht : m.type = 1)
    (hc : (servedCodes s.power.stage).contains m.code = true) :
    drain (m :: r) s = onMbox (fun b => { b with cmdQueue := m :: r }) s := by
  unfold drain
  have hu : unservable m s = false := by simp only [unservable, ht, hc]; rfl
  exact if_neg (by simp [hu])

theorem hostDoorbell_of_taken {v : Word32} {s : State} (h : s.mbox.slots.getD (v.toNat % 16) .free ≠ .free) :
    hostDoorbell v s = s := by
  unfold hostDoorbell
  exact if_pos (Bool.or_eq_true_iff.mpr (.inr (bne_iff_ne.mpr h)))

theorem hostDoorbell_of_free {v : Word32} {s : State} (hr : reachable s = true)
    (hf : s.mbox.slots.getD (v.toNat % 16) .free = .free) (hq : s.mbox.cmdQueue = [])
    (ht : (parseMsg (.pcie (v.toNat % 16)) (Cells.readAll s.mbox.mem (0x1000 + v.toNat % 16 * 0x100) 256)).type = 1)
    (hc : (servedCodes s.power.stage).contains
      (parseMsg (.pcie (v.toNat % 16)) (Cells.readAll s.mbox.mem (0x1000 + v.toNat % 16 * 0x100) 256)).code = true) :
    hostDoorbell v s = onMbox (fun b =>
      { b with cmdQueue := [parseMsg (.pcie (v.toNat % 16)) (Cells.readAll s.mbox.mem (0x1000 + v.toNat % 16 * 0x100) 256)]
               slots := b.slots.set (v.toNat % 16) .queued }) s := by
  unfold hostDoorbell
  refine (if_neg (by rw [hr, hf]; decide)).trans ?_
  generalize hm : parseMsg (.pcie (v.toNat % 16)) (Cells.readAll s.mbox.mem (0x1000 + v.toNat % 16 * 0x100) 256) = m at ht hc ⊢
  have hv : m.via = .pcie (v.toNat % 16) := by rw [← hm]; rfl
  have hj : joinQueue m s = onMbox (fun b => { b with cmdQueue := [m], slots := b.slots.set (v.toNat % 16) .queued }) s := by
    simp only [joinQueue, hv, onMbox, hq, List.nil_append]
  dsimp only
  rw [hj]
  exact drain_servable ht hc

theorem irqMaskWrite_of_reachable {v : Word32} {s : State} (hr : reachable s = true) :
    irqMaskWrite v s =
      if s.mbox.devDoorbell &&& s.mbox.irqMask &&& ~~~(v &&& 0x0007FFFF) = 0 then
        onMbox (fun b => { b with irqMask := v &&& 0x0007FFFF }) s
      else msix 0 (onMbox (fun b => { b with irqMask := v &&& 0x0007FFFF }) s) := by
  simp only [irqMaskWrite, hr, Bool.not_true, Bool.false_eq_true, if_false]

/-! ### Rings -/

theorem ringInvalid_iff (q : Ring) : ringInvalid q = true ↔ q.base % 64 ≠ 0 ∨ q.log2 < 6 ∨ 16 < q.log2 := by
  simp [ringInvalid, or_assoc]

theorem indexBad_iff (q : Ring) : indexBad q = true ↔ ringSize q < ahead q.prod q.cons := by simp [indexBad]

section
variable {r : Nat} {v : Word32} {s : State} (hr : reachable s = true)
include hr

theorem ringProdWrite_of_ahead (h : r ≤ 32) (hi : (ring r s).enable = false ∨ ahead v.toNat (ring r s).cons ≤ ringSize (ring r s)) :
    ringProdWrite r v s = onRing r (fun q => { q with prod := v.toNat }) s := by
  simp only [ringProdWrite, hr, Nat.not_lt.mpr h, ring_onRing]
  refine (if_neg (by decide)).trans (if_neg ?_)
  rw [Bool.and_eq_true, indexBad_iff]
  rintro ⟨he, hb⟩
  obtain hi | hi := hi
  · exact absurd he (Bool.eq_false_iff.mp hi)
  · exact absurd hb (Nat.not_lt.mpr hi)

theorem ringProdWrite_of_past (h : r ≤ 32) (he : (ring r s).enable = true)
    (hi : ringSize (ring r s) < ahead v.toNat (ring r s).cons) :
    ringProdWrite r v s = ringStop r 1 v.toNat (onRing r (fun q => { q with prod := v.toNat }) s) := by
  simp only [ringProdWrite, hr, Nat.not_lt.mpr h, ring_onRing]
  refine (if_neg (by decide)).trans (if_pos ?_)
  exact Bool.and_eq_true_iff.mpr ⟨he, (indexBad_iff _).mpr hi⟩

theorem ringConsWrite_of_within (hi : (ring 33 s).enable = false ∨ ahead (ring 33 s).prod v.toNat ≤ ringSize (ring 33 s))
    (hh : s.tds.hold = []) : ringConsWrite 33 v s = onRing 33 (fun q => { q with cons := v.toNat }) s := by
  simp only [ringConsWrite, hr, ring_onRing]
  refine (if_neg (by decide)).trans ((if_neg ?_).trans (flushHold_nil hh))
  rw [Bool.and_eq_true, indexBad_iff]
  rintro ⟨he, hb⟩
  obtain hi | hi := hi
  · exact absurd he (Bool.eq_false_iff.mp hi)
  · exact absurd hb (Nat.not_lt.mpr hi)

theorem ringEnable_of_valid (h : r ≤ 33) (hl : s.power.limp = false) (he : (ring r s).enable = false)
    (hb : (ring r s).base % 64 = 0) (h6 : 6 ≤ (ring r s).log2) (h16 : (ring r s).log2 ≤ 16)
    (hi : ahead (ring r s).prod (ring r s).cons ≤ ringSize (ring r s)) (hh : s.tds.hold = []) :
    ringEnable r v s = onRing r (fun q =>
      { q with enable := true, idle := false, count := v.toNat / 256 % 256, time := v.toNat / 65536 }) s := by
  simp only [ringEnable, hr, Nat.not_lt.mpr h, he, hl, ring_onRing, onRing_onRing]
  refine (if_neg (by decide)).trans ((if_neg ?_).trans ((if_neg ?_).trans ((if_neg ?_).trans (flushHold_nil hh))))
  · exact Bool.false_ne_true
  · rw [ringInvalid_iff]
    rintro (h | h | h)
    · exact h hb
    · exact absurd h (Nat.not_lt.mpr h6)
    · exact absurd h (Nat.not_lt.mpr h16)
  · rw [indexBad_iff]
    exact Nat.not_lt.mpr hi

theorem ringEnable_of_invalid (h : r ≤ 33) (hl : s.power.limp = false) (he : (ring r s).enable = false)
    (hb : (ring r s).base % 64 ≠ 0 ∨ (ring r s).log2 < 6 ∨ 16 < (ring r s).log2) :
    ringEnable r v s = ringStop r 3 0 (onRing r (fun q => { q with count := v.toNat / 256 % 256, time := v.toNat / 65536 }) s) := by
  simp only [ringEnable, hr, Nat.not_lt.mpr h, he, hl, ring_onRing]
  refine (if_neg (by decide)).trans ((if_neg ?_).trans (if_pos ?_))
  · exact Bool.false_ne_true
  · exact (ringInvalid_iff _).mpr hb

theorem ringDisable_of_reachable (h : r ≤ 33) :
    ringDisable r v s = onRing r (fun q =>
      { q with count := v.toNat / 256 % 256, time := v.toNat / 65536, enable := false, idle := q.idle || !q.inProgress }) s := by
  simp only [ringDisable, hr, Nat.not_lt.mpr h]
  exact if_neg (by decide)

theorem ringDropsRead_of_reachable (h : r ≤ 33) :
    ringDropsRead r s = onRing r (fun q => { q with drops := 0 }) (emit (.read (BitVec.ofNat 32 (ringStat (ring r s)))) s) := by
  simp only [ringDropsRead, hr, Nat.not_lt.mpr h]
  exact if_neg (by decide)

end

/-- Settles O17: what each register does with the value written, in the branch its hypotheses choose. -/
theorem mailboxAndRingRegisterWrites : Obligations.MailboxAndRingRegisterWrites := by
  refine ⟨fun v s hr => ⟨⟨fun hf => ?_, fun hf hq ht hc => ?_⟩, ?_, ⟨fun h0 => ?_, fun h0 => ?_⟩, fun hp => ?_, fun hp hd => ?_⟩,
    fun r v s => ⟨fun hr => ⟨fun h hi => ?_, fun h he hi => ?_, fun hi hh => ?_, fun h hl he hb h6 h16 hi hh => ?_,
      fun h hl he hb => ?_, fun h => ?_, fun h => ?_⟩, fun hu ht => ?_⟩⟩
  · exact congrArg Host.Outcome.next (hostDoorbell_of_taken hf)
  · exact congrArg Host.Outcome.next (hostDoorbell_of_free (s := start s) hr hf hq ht hc)
  · refine congrArg Host.Outcome.next (?_ : devDoorbellClear v (start s) = _)
    simp only [devDoorbellClear, reachable_start, hr, freeSlots]
    rfl
  · exact congrArg Host.Outcome.next ((irqMaskWrite_of_reachable (s := start s) hr).trans (if_pos h0))
  · exact congrArg Host.Outcome.next ((irqMaskWrite_of_reachable (s := start s) hr).trans (if_neg h0))
  · exact congrArg Host.Outcome.next (evtConsWrite_of_past hp)
  · exact congrArg Host.Outcome.next (evtConsWrite_of_within hr hd hp)
  · exact congrArg Host.Outcome.next (ringProdWrite_of_ahead hr h hi)
  · exact congrArg Host.Outcome.next (ringProdWrite_of_past hr h he hi)
  · exact congrArg Host.Outcome.next (ringConsWrite_of_within hr hi hh)
  · exact congrArg Host.Outcome.next (ringEnable_of_valid hr h hl he hb h6 h16 hi hh)
  · exact congrArg Host.Outcome.next (ringEnable_of_invalid hr h hl he hb)
  · exact congrArg Host.Outcome.next (ringDisable_of_reachable hr h)
  · exact congrArg Host.Outcome.next (ringDropsRead_of_reachable hr h)
  · refine congrArg Host.Outcome.next (if_neg ?_)
    simp [hu, ht]

end Sys2Proof.Machine
end

section
/-! PROOF. The register write of any address, and the check-value units (chapters 10 and 13). -/
namespace Sys2Proof.Machine
set_option Elab.async false

/-! ### Registers by address -/

section
variable {v : Word32} {b : Boot} {s : State} (hr : reachable s = true)
include hr

theorem registerWrite_bar0 {o : Nat} (ho : o < 0xC0) (h28 : o ≠ 0x28) (h4 : o % 4 = 0) :
    registerWrite .bar0 o 4 v b s = writeBar0 o v s := by
  simp [registerWrite, hr, ho, h28, h4]

theorem registerWrite_resetCtl : registerWrite .bar0 0x28 4 v b s = resetCtl v b s := by
  simp [registerWrite, hr]

theorem registerWrite_slots {o w : Nat} (ho : 0x1000 ≤ o) (hw : o + w ≤ 0x2000)
    (hs : s.mbox.slots.getD ((o - 0x1000) / 0x100) .free ≠ .queued) :
    registerWrite .bar0 o w v b s = onMbox (fun b => { b with mem := Cells.writeAll b.mem o (leBytes w v.toNat) }) s := by
  have h28 : ¬ (o = 0x28 ∧ w = 4) := by omega
  have hc0 : ¬ o < 0xC0 := by omega
  simp only [registerWrite, hr, h28, hc0, writeSlots]
  refine (if_neg (by decide)).trans (if_pos (And.intro ho (And.intro hw hs)))

theorem registerWrite_bar2 {o : Nat} (h4 : o % 4 = 0) : registerWrite .bar2 o 4 v b s = writeBar2 o v s := by
  simp [registerWrite, hr, h4]

end

/-- The ring and the register of an offset in BAR2. -/
theorem ring_offset (r : Nat) {k : Nat} (hk : k < 0x100) : (r * 0x100 + k) / 0x100 = r ∧ (r * 0x100 + k) % 0x100 = k := by omega

section
variable {r : Nat} (v : Word32) (s : State) (h : r < 34)
include h

theorem writeBar2_prod : writeBar2 (r * 0x100 + 0x10) v s = ringProdWrite r v s := by
  obtain ⟨hd, hm⟩ := ring_offset r (k := 0x10) (by decide)
  simp only [writeBar2, hd, hm, Nat.not_le.mpr h, if_false]

theorem writeBar2_cons : writeBar2 (r * 0x100 + 0x14) v s = ringConsWrite r v s := by
  obtain ⟨hd, hm⟩ := ring_offset r (k := 0x14) (by decide)
  simp only [writeBar2, hd, hm, Nat.not_le.mpr h, if_false]

theorem writeBar2_ctl : writeBar2 (r * 0x100 + 0x0C) v s = if v.getLsbD 0 then ringEnable r v s else ringDisable r v s := by
  obtain ⟨hd, hm⟩ := ring_offset r (k := 0x0C) (by decide)
  simp only [writeBar2, hd, hm, Nat.not_le.mpr h, if_false]

theorem writeBar2_log2 : writeBar2 (r * 0x100 + 0x08) v s =
    if (ring r s).enable then s else onRing r (fun q => { q with log2 := v.toNat % 32 }) s := by
  obtain ⟨hd, hm⟩ := ring_offset r (k := 0x08) (by decide)
  simp only [writeBar2, hd, hm, Nat.not_le.mpr h, if_false]

end

/-! ### Check-value units -/

/-- The value of a unit's control register without its commands. -/
theorem cvuCtl_fields (value c : Nat) (hc : c = 4 ∨ c = 8) :
    (value ||| c) % 4 = value % 4 ∧ bit (value ||| c) 4 = bit value 4 := by
  constructor
  · rw [show (4 : Nat) = 2 ^ 2 from rfl, Nat.or_mod_two_pow]
    obtain rfl | rfl := hc <;> simp
  · have h4 : c.testBit 4 = false := by obtain rfl | rfl := hc <;> rfl
    simp [bit, Nat.testBit_or, h4]

theorem cvuCtl_init {n : Nat} {v : Word32} {s : State} (h : v.getLsbD 3 = false) :
    cvuCtl n (v.toNat ||| 4) s = onCvu n (fun c => { c with state := cvInit c.poly })
      (onCvu n (fun c => { c with poly := v.toNat % 4, irqEn := bit v.toNat 4 }) s) := by
  obtain ⟨hp, hi⟩ := cvuCtl_fields v.toNat 4 (.inl rfl)
  have h2 : bit (v.toNat ||| 4) 2 = true := by simp [bit, Nat.testBit_or, show Nat.testBit 4 2 = true from rfl]
  have h3 : bit (v.toNat ||| 4) 3 = false := by
    have : v.toNat.testBit 3 = false := h
    simp only [bit, Nat.testBit_or, this]
    rfl
  simp only [cvuCtl, hp, hi, h2, h3, if_true]
  rfl

theorem cvuCtl_finish {n : Nat} {v : Word32} {s : State} (h : v.getLsbD 2 = false) :
    cvuCtl n (v.toNat ||| 8) s =
      (let t := onCvu n (fun c => { c with poly := v.toNat % 4, irqEn := bit v.toNat 4 }) s
       if cvuResult (cvu n t) != (cvu n t).expect && (n == 1 || n == 2) then
         raise 0x0907 (cvuPayload n (cvu n t)) (onCvu n cvuCompare t)
       else onCvu n cvuCompare t) := by
  obtain ⟨hp, hi⟩ := cvuCtl_fields v.toNat 8 (.inr rfl)
  have h3 : bit (v.toNat ||| 8) 3 = true := by simp [bit, Nat.testBit_or, show Nat.testBit 8 3 = true from rfl]
  have h2 : bit (v.toNat ||| 8) 2 = false := by
    have : v.toNat.testBit 2 = false := h
    simp only [bit, Nat.testBit_or, this]
    rfl
  simp only [cvuCtl, hp, hi, h2, h3, if_true]
  rfl

/-- Settles O18: the register that each offset selects, and the commands of a unit's control register. -/
theorem registerAccessAndCheckValueUnits : Obligations.RegisterAccessAndCheckValueUnits := by
  refine ⟨fun v b s hr => ?_, fun n v s hp => ⟨fun h3 => ?_, fun d hd => ?_, fun h2 => ⟨fun h => ?_, fun hne hn => ?_⟩⟩⟩
  · have hs : reachable (start s) = true := hr
    have bar0 {o : Nat} (ho : o < 0xC0) (h28 : o ≠ 0x28) (h4 : o % 4 = 0) :
        exec (.registerWrite .bar0 o 4 v b) s = .next (writeBar0 o v (start s)) :=
      congrArg Host.Outcome.next (registerWrite_bar0 hs ho h28 h4)
    have reset : exec (.registerWrite .bar0 0x28 4 v b) s = .next (resetCtl v b (start s)) :=
      congrArg Host.Outcome.next (registerWrite_resetCtl hs)
    have bar2 {o : Nat} (h4 : o % 4 = 0) : exec (.registerWrite .bar2 o 4 v b) s = .next (writeBar2 o v (start s)) :=
      congrArg Host.Outcome.next (registerWrite_bar2 hs h4)
    refine ⟨bar0 (by decide) (by decide) (by decide), bar0 (by decide) (by decide) (by decide), bar0 (by decide) (by decide) (by decide),
      bar0 (by decide) (by decide) (by decide), bar0 (by decide) (by decide) (by decide), ?_, bar0 (by decide) (by decide) (by decide),
      fun h => ?_, fun h => ?_, fun h => ?_, fun h => ?_, fun o ho => ?_, fun o w ho hw hq => ?_, fun r h => ⟨?_, ?_, fun h0 => ?_, fun h0 => ?_, fun he => ?_, fun he => ?_⟩⟩
    · exact (bar0 (by decide) (by decide) (by decide)).trans (congrArg Host.Outcome.next (if_pos hs)).symm
    · refine reset.trans ((congrArg Host.Outcome.next ?_).trans (congrArg Host.Outcome.next (if_pos (by simp [hr, h]))).symm)
      simp only [resetCtl, h]
    · refine reset.trans ((congrArg Host.Outcome.next ?_).trans (congrArg Host.Outcome.next (if_pos (by simp [hr, h]))).symm)
      simp only [resetCtl, h]
    · refine reset.trans (congrArg Host.Outcome.next ?_)
      simp only [resetCtl, h]
    · exact (bar0 (by decide) (by decide) (by decide)).trans (congrArg Host.Outcome.next (if_pos h))
    · have hb : o < 0xC0 ∧ o ≠ 0x28 ∧ o % 4 = 0 := by revert o; decide
      obtain ⟨h1, h2, h3⟩ := hb
      refine (bar0 h1 h2 h3).trans (congrArg Host.Outcome.next ?_)
      simp only [List.mem_cons, List.not_mem_nil, or_false] at ho
      rcases ho with rfl | rfl | rfl | rfl | rfl | rfl | rfl | rfl | rfl | rfl | rfl | rfl | rfl <;> rfl
    · exact congrArg Host.Outcome.next (registerWrite_slots hs ho hw hq)
    · exact (bar2 (by omega)).trans (congrArg Host.Outcome.next (writeBar2_prod v _ h))
    · exact (bar2 (by omega)).trans (congrArg Host.Outcome.next (writeBar2_cons v _ h))
    · exact (bar2 (by omega)).trans (congrArg Host.Outcome.next ((writeBar2_ctl v _ h).trans (if_pos h0)))
    · exact (bar2 (by omega)).trans (congrArg Host.Outcome.next ((writeBar2_ctl v _ h).trans (if_neg (Bool.eq_false_iff.mp h0))))
    · exact (bar2 (by omega)).trans (congrArg Host.Outcome.next ((writeBar2_log2 v _ h).trans (if_neg (Bool.eq_false_iff.mp he))))
    · exact (bar2 (by omega)).trans (congrArg Host.Outcome.next ((writeBar2_log2 v _ h).trans (if_pos he)))
  · exact congrArg Host.Outcome.next ((if_pos hp).trans (cvuCtl_init h3))
  · exact congrArg Host.Outcome.next ((if_pos hp).trans (if_pos (by simpa [or_assoc] using hd)))
  · refine congrArg Host.Outcome.next ((if_pos hp).trans ((cvuCtl_finish h2).trans (if_neg ?_)))
    simp only [Bool.and_eq_true, bne_iff_ne, Bool.or_eq_true, beq_iff_eq]
    rintro ⟨hne, hn⟩
    obtain h | h := h
    · exact hne h
    · omega
  · refine congrArg Host.Outcome.next ((if_pos hp).trans ((cvuCtl_finish h2).trans (if_pos ?_)))
    simp only [Bool.and_eq_true, bne_iff_ne, Bool.or_eq_true, beq_iff_eq]
    exact ⟨hne, hn⟩

end Sys2Proof.Machine
end

section
/-! PROOF. The commands of the memory group (chapter 13). -/
namespace Sys2Proof.Machine
set_option Elab.async false

/-- Settles O19: what the managers reply. -/
theorem memoryCommandsAnswer : Obligations.MemoryCommandsAnswer := by
  intro u s hm
  refine ⟨fun ha hc => ?_, fun ha hc hl => ⟨fun h hb => ?_, fun h hf => ?_⟩, fun ha hc => ⟨fun h hl => ?_, fun h hl h1 h4 h0 hv hw => ?_⟩,
    fun ha hc hl hp hb => ?_⟩ <;> have hg := hc.arrived ha
  · exact succeeds_of_serve rfl ha (judge_gate_last hg) (.arrived hm)
  · refine pends_of_serve rfl ha ?_ (Formed.with (.arrived hm))
    have hn : commitBank (arrived 0x0902 u s) = commitBank s := by simp only [commitBank, arrived_mem]
    have hs : commitSeq (arrived 0x0902 u s) = commitSeq s := by simp only [commitSeq, bank, arrived_mem]
    have hw : fwVer (arrived 0x0902 u s) = fwVer s := by simp only [fwVer, arrived_power]
    simp [cfgCommit, shortOp_of_le, hg, Nat.not_lt.mpr hl, h, Nat.not_lt.mpr hb, pending, hn, hs, hw]
  · refine pends_of_serve rfl ha ?_ (.arrived hm)
    simp [cfgCommit, shortOp_of_le, hg, Nat.not_lt.mpr hl, h, hf, pending]
  · refine succeeds_of_serve rfl ha ?_ (.arrived hm)
    simp [cfgRead, hg, Nat.not_lt.mpr hl, h]
  · refine succeeds_of_serve rfl ha ?_ (Formed.with (.arrived hm))
    have hk : bank (u.b8 1) (arrived 0x0903 u s) = bank (u.b8 1) s := by simp only [bank, arrived_mem]
    simp [cfgRead, hg, Nat.not_lt.mpr hl, h, Nat.not_lt.mpr h1, hk, hv, h0, badHost, h4, dmaReply, hw, reply]
  · refine succeeds_of_serve rfl ha ?_ (Formed.with (.arrived hm))
    have hk : cvu 3 (arrived 0x0904 u s) = cvu 3 s := by simp only [cvu, arrived_mem]
    simp [cvuRun, hg, Nat.not_lt.mpr hl, Nat.not_lt.mpr hp, hb, hk]

end Sys2Proof.Machine
end

section
/-! PROOF. DRAM training and refresh, and the end of a bank write (chapter 13). -/
namespace Sys2Proof.Machine
set_option Elab.async false

theorem channel_start (c : Nat) (s : State) : channel c (start s) = channel c s := rfl

/-- A write outside the limit table's granules is never refused (R333). -/
theorem feltWrite_ok_above {addr : Nat} {s : State} (h : 0x4000 ≤ addr) : feltWrite .ok addr s = s := by
  unfold feltWrite
  exact if_neg (by simp [feltRefuses]; omega)

theorem cfgWritten_ok {a : AsyncCmd} {readBack : Bool} {s : State} (ha : firstAsync 0x0902 s = some a) :
    cfgWritten .ok readBack s =
      (let a' : AsyncCmd := { a with retried := false }
       let t := setAsync a a' s
       if rd a.payload 0 1 = 1 then
         endAsync a' ST.ok (leBytes 4 0xFF ++ leBytes 12 0)
           (onMem (fun m => { m with bankA := zeroGranule m.bankA, bankB := zeroGranule m.bankB, active := none }) t)
       else if !readBack then endAsync a' ST.faultLasting [] t
       else
         let n := commitBank s
         let b0 : CfgBank := { bank n s with magic := 0x4746435A, format := 1 }
         let b : CfgBank := { b0 with crc := bankCrc b0 }
         let len := (bankBody b.body).length
         raise 0x0905 (leBytes 4 n ++ leBytes 4 b.sequence ++ leBytes 4 len)
           (endAsync a' ST.ok (leBytes 4 n ++ leBytes 4 b.sequence ++ leBytes 4 len ++ leBytes 4 b.crc)
             (onMem (fun m => { m with active := some n }) (setBank n b t)))) := by
  simp only [cfgWritten, ha, feltWrite_ok_above (show 0x4000 ≤ 0x8000 + commitBank s * 0x40000 by omega)]
  rfl

/-- Settles O20: the branch that each row takes under the hypotheses stated. -/
theorem dramAndBankRows : Obligations.DramAndBankRows := by
  refine ⟨fun c s => ⟨fun temp hp ht hs hl hd => ?_, fun h1 hf => ?_, fun h1 hf => ?_, fun h0 hf => ?_, fun h0 hf => ?_,
    fun b hp ht hr => ?_⟩, fun a s ha => ⟨fun h => ⟨?_, ?_⟩, fun h rb => ?_⟩⟩
  · exact congrArg Host.Outcome.next (if_pos (by simp [channel_start, hp, ht, hs, hl, hd]))
  · refine congrArg Host.Outcome.next ?_
    simp [retrainStep, channel_start, hf, show (channel c s).steps ≠ 0 by omega, show (channel c s).steps ≠ 1 by omega]
  · refine congrArg Host.Outcome.next ?_
    simp [retrainStep, channel_start, hf, h1]
  · refine congrArg Host.Outcome.next ?_
    simp [retrainStep, channel_start, hf, h0]
  · refine congrArg Host.Outcome.next ?_
    simp [retrainStep, channel_start, hf, h0]
  · exact congrArg Host.Outcome.next (if_pos (by
      have : runTime (start s) = runTime s := rfl
      simp [channel_start, hp, ht, this]
      exact hr))
  · exact congrArg Host.Outcome.next ((cfgWritten_ok (s := start s) ha).trans ((if_neg (by simp [h])).trans (if_neg (by decide))))
  · exact congrArg Host.Outcome.next ((cfgWritten_ok (s := start s) ha).trans ((if_neg (by simp [h])).trans (if_pos rfl)))
  · exact congrArg Host.Outcome.next ((cfgWritten_ok (s := start s) ha).trans (if_pos h))

end Sys2Proof.Machine
end

section
/-! PROOF. Memory errors, scrubs and page retirement (chapter 13). -/
namespace Sys2Proof.Machine
set_option Elab.async false

/-- Below the threshold a corrected error of a page is only counted. -/
theorem scrubCorrected_below {addr : Nat} {pool : Bool} {s : State} (h : Tab.getD s.mem.pageErrors (addr / 4096) 0 < 7) :
    scrubCorrected s (addr, pool) = eccCorrected addr s := by
  refine if_neg (Nat.not_le.mpr ?_)
  show Tab.getD (eccCorrected addr s).mem.pageErrors (addr / 4096) 0 < 8
  rw [eccCorrected, (raiseLimited_link _ _ _ _).mem, onMem_mem, Tab.getD_put]
  omega

/-- A page not yet retired joins the list; a page of the pool takes its 16 cells. -/
theorem retirePage_of_new {page cause : Nat} {pool : Bool} {s : State} (h : (s.mem.retired.any fun r => r.1 == page) = false)
    (hl : s.mem.retired.length < 256) :
    (retirePage page cause pool s).mem = { s.mem with retired := s.mem.retired ++ [(page, cause)] } ∧
      (retirePage page cause pool s).qme = if pool then poolShrink 16 s.qme else s.qme := by
  unfold retirePage
  rw [if_neg (Bool.eq_false_iff.mp h), if_neg (Nat.not_le.mpr hl)]
  cases pool <;> exact ⟨(raise_link _ _ _).mem, (raise_link _ _ _).qme⟩

/-- Settles O21: the branch that each row takes under the hypotheses stated, and what a retirement takes from the pool. -/
theorem memoryErrorsAndRetirement : Obligations.MemoryErrorsAndRetirement := by
  refine ⟨fun s => ⟨fun hp addr reader obj => ⟨?_, ?_⟩, fun hp => ⟨?_, fun addr pool hl => ?_⟩, fun addr hf => ⟨?_, ?_⟩,
    fun addr ok hr hl hu => ?_⟩, fun page cause pool s => ⟨fun h => ?_, fun h hl => ?_, fun hl => ?_⟩⟩
  · refine congrArg Host.Outcome.next ?_
    simp [eccRetry, hp]
  · refine congrArg Host.Outcome.next ?_
    simp [eccRetry, hp]
  · refine congrArg Host.Outcome.next ?_
    simp [hp]
  · refine congrArg Host.Outcome.next ?_
    have hc : scrubCorrected (start s) (addr, pool) = eccCorrected addr (start s) := scrubCorrected_below hl
    simp [hp, hc]
  · exact congrArg Host.Outcome.next (if_neg (Bool.eq_false_iff.mp hf))
  · exact congrArg Host.Outcome.next (if_neg (Bool.eq_false_iff.mp hf))
  · exact congrArg Host.Outcome.next (if_pos (by simp [feltRefuses, hr, hl, hu]))
  · exact if_pos h
  · obtain ⟨hmem, hq⟩ := retirePage_of_new (cause := cause) (pool := pool) h hl
    refine ⟨hmem, ?_⟩
    rw [hq]
    cases pool <;> exact ⟨rfl, rfl, rfl⟩
  · unfold retirePage
    split
    · exact ⟨rfl, rfl⟩
    · exact ⟨(raise_link _ _ _).mem, (raise_link _ _ _).qme⟩

end Sys2Proof.Machine
end

section
/-! PROOF. The commands of the recorder (chapter 18), and the tokens that commands accept (chapter 12). -/
namespace Sys2Proof.Machine
set_option Elab.async false

/-! ### Tokens -/

theorem runTime_arrived (code : Nat) (u : Ump) (s : State) : runTime (arrived code u s) = runTime s := by
  simp only [runTime, deviceTime, arrived_clock]

theorem TokenHolds.arrived {u v : Ump} {t : Bytes} {ps : List Nat} {s : State} {code : Nat} (h : TokenHolds u t ps s) :
    TokenHolds u t ps (arrived code v s) := by
  unfold TokenHolds carriesChallenge at h ⊢
  rwa [arrived_sec, runTime_arrived]

/-- A token that holds is judged by the checks that remain, with its challenge consumed. -/
theorem present_of_holds {u : Ump} {t : Bytes} {ps : List Nat} {c : Nat} {a : Bool} {l : List Obj} {s x : State} {k : State → Reply}
    (h : TokenHolds u t ps s) (hg : Clear c a l x) : present u t ps (gate c a l x) s k = k (consumeChallenge s) := by
  obtain ⟨hc, hb, hh, hs⟩ := h
  have hh' : (rd t 3 1 != 1 && tokenHash t != s.sec.rootHash) = false := by
    obtain h | h := hh <;> simp [h]
  simp [present, hc, hb, hg, hs, hh']

/-! ### The records that a command reads -/

theorem enqueueOcc_records (o : Occurrence) (s : State) :
    (enqueueOcc o s).evr.records = s.evr.records ∧ (enqueueOcc o s).evr.count = s.evr.count := by
  unfold enqueueOcc
  split <;> exact ⟨rfl, rfl⟩

/-- The arrival of a command adds no record: an occurrence waits for the writer. -/
theorem arrived_records (code : Nat) (u : Ump) (s : State) :
    (arrived code u s).evr.records = s.evr.records ∧ (arrived code u s).evr.count = s.evr.count := by
  have hn (t : State) : (noteDma code u t).evr.records = t.evr.records ∧ (noteDma code u t).evr.count = t.evr.count := by
    unfold noteDma dmaFault commandFault
    split
    · cases u.env.dma with
      | ok => exact ⟨rfl, rfl⟩
      | retried => exact enqueueOcc_records _ _
      | lasting => exact enqueueOcc_records _ _
    · exact ⟨rfl, rfl⟩
  unfold arrived
  obtain ⟨hr, hc⟩ := hn (onMbox (fun b => { b with cmdQueue := [] })
    (match u.via with | .pcie n => writeSlot n (u.msg code) (start s) | _ => start s))
  refine ⟨hr.trans ?_, hc.trans ?_⟩ <;> split <;> rfl

/-- Settles O22: what the managers reply. -/
theorem recorderCommandsAnswer : Obligations.RecorderCommandsAnswer := by
  intro u s hm
  refine ⟨fun ha => ?_, fun ha hc hl h4 h8 => ?_, fun ha hc hl => ⟨fun h => ?_, fun h h1 h60 h4 h64 h10 h600 => ?_⟩,
    fun ha hc hl hb ht => ?_⟩
  · exact succeeds_of_serve rfl ha rfl (.arrived hm)
  · refine succeeds_of_serve rfl ha ?_ (.arrived hm)
    have hg := hc.arrived ha
    obtain ⟨hr, hn⟩ := arrived_records 0x0A05 u s
    simp [evrRead, hg, Nat.not_lt.mpr hl, h4, h8, badHost, readFrom, beyond, hr, hn] <;> rfl
  · refine succeeds_of_serve rfl ha ?_ (.arrived hm)
    have hg := hc.arrived ha
    simp [evrSetPolicy, shortOp_of_le, hg, Nat.not_lt.mpr hl, h]
  · refine succeeds_of_serve rfl ha ?_ (Formed.with (.arrived hm))
    have hg := hc.arrived ha
    simp [evrSetPolicy, shortOp_of_le, hg, Nat.not_lt.mpr hl, h, Nat.not_lt.mpr h60, Nat.not_lt.mpr h4, Nat.not_lt.mpr h64, Nat.not_lt.mpr h10, Nat.not_lt.mpr h600, Nat.ne_of_gt h1]
    rfl
  · refine pends_of_serve rfl ha ?_ (Formed.with (.arrived hm))
    have hg := hc.arrived ha
    simp [evrClear, Nat.not_lt.mpr hl, hb, present_of_holds ht.arrived hg, pending, consumeChallenge]

end Sys2Proof.Machine
end

section
/-! PROOF. The recorder's registers and its writer (chapter 18). -/
namespace Sys2Proof.Machine
set_option Elab.async false

/-! ### What the link leaves of the recorder: an occurrence joins its queue or is lost -/

/-- The recorder has changed by its queue and its losses alone. -/
def Queued (s t : State) : Prop :=
  t.evr = { s.evr with queue := t.evr.queue, lost := t.evr.lost, lostFlag := t.evr.lostFlag }

theorem Queued.of_eq {s t : State} (h : t.evr = s.evr) : Queued s t := by unfold Queued; rw [h]

theorem Queued.trans {a b c : State} (h : Queued a b) (k : Queued b c) : Queued a c := by
  unfold Queued at *
  rw [k, h]

theorem Queued.foldl {α : Type} {g : State → α → State} (hg : ∀ t x, Queued t (g t x)) (l : List α) (s : State) :
    Queued s (l.foldl g s) := by
  induction l generalizing s with
  | nil => exact .of_eq rfl
  | cons x l ih => exact (hg s x).trans (ih _)

theorem record_queued (c : Nat) (p : Bytes) (x y z : Bool) (e : List (Nat × Bytes)) (s : State) : Queued s (record c p x y z e s) := by
  unfold record enqueueOcc
  split <;> rfl

theorem setDoorbell_evr (b : Nat) (s : State) : (setDoorbell b s).evr = s.evr := by
  unfold setDoorbell msix
  dsimp only
  split
  · split
    · rfl
    · split <;> rfl
  · rfl

theorem writeEvent_queued (e : Event) (s : State) : Queued s (writeEvent e s) := .of_eq (setDoorbell_evr ..)

theorem reportLostPcie_queued (s : State) : Queued s (reportLostPcie s) := by
  unfold reportLostPcie
  split
  · exact .of_eq rfl
  · have h0 : Queued s (onMbox (fun m => { m with pcieDropped := 0 }) s) := .of_eq rfl
    exact (h0.trans (writeEvent_queued (evtLost s.mbox.pcieDropped) _)).trans (record_queued ..)

theorem flushPcie_queued (l : List Event) (s : State) : Queued s (flushPcie l s) := by
  induction l generalizing s with
  | nil => exact .of_eq rfl
  | cons e l ih =>
    unfold flushPcie
    split
    · exact .of_eq rfl
    · exact (writeEvent_queued e s).trans (ih _)

theorem toPcie_queued (e : Event) (s : State) : Queued s (toPcie e s) := by
  unfold toPcie
  split
  · exact .of_eq rfl
  · refine Queued.trans ((reportLostPcie_queued s).trans (flushPcie_queued (reportLostPcie s).mbox.pcieQueue _)) ?_
    dsimp only
    split
    · exact writeEvent_queued ..
    · split <;> exact .of_eq rfl

theorem flushSink_queued (mac : Nat) (s : State) : Queued s (flushSink mac s) := by
  unfold flushSink
  split
  · exact .of_eq rfl
  · have h1 : Queued s (if s.mbox.sinkDropped = 0 then s
        else record 0x0002 (leBytes 4 s.mbox.sinkDropped) false false true []
          (emit (.ump mac (eventMessage s (evtLost s.mbox.sinkDropped))) (onMbox (fun m => { m with sinkDropped := 0 }) s))) := by
      split
      · exact .of_eq rfl
      · exact record_queued ..
    exact h1.trans (Queued.foldl (g := fun st e => emit (.ump mac (eventMessage st e)) st) (fun t x => .of_eq rfl) _ _)

theorem toSink_queued (e : Event) (s : State) : Queued s (toSink e s) := by
  unfold toSink
  split
  · exact .of_eq rfl
  · split
    · exact .of_eq rfl
    · split
      · exact (flushSink_queued ..).trans (.of_eq rfl)
      · split <;> exact .of_eq rfl

theorem deliver_queued (e : Event) (s : State) : Queued s (deliver e s) := (toPcie_queued e s).trans (toSink_queued e _)

theorem endAsync_queued (a : AsyncCmd) (st : Nat) (p : Bytes) (s : State) : Queued s (endAsync a st p s) :=
  (Queued.of_eq rfl).trans ((deliver_queued _ (dropAsync a s)).trans (record_queued ..))

/-! ### The writer -/

/-- An occurrence that repeats nothing and whose code has no window is written. -/
theorem judgeOcc_new {o : Occurrence} {r : Recorder} (hr : repeatOf o r = none) (hw : r.windows.find? (fun w => w.code == o.code) = none) :
    judgeOcc o r = if rateExempt o then writeOcc o r
      else { writeOcc o r with windows := (writeOcc o r).windows ++ [⟨o.code, 1, 0, [], (writeOcc o r).period, o.seconds⟩] } := by
  have ha : (r.windows.any fun w => w.code == o.code && windowOver w o.seconds) = false := by
    rw [List.any_eq_false]
    intro w hm
    have hc := List.find?_eq_none.mp hw w hm
    simp only [Bool.and_eq_true, not_and]
    exact fun h => absurd h hc
  simp only [judgeOcc, ha, Bool.false_eq_true, if_false, hr, hw]

/-- With room in the permanent area a record goes there. -/
theorem writeRecord_permanent {b : Bytes} {seconds : Nat} {r : Recorder} (hp : r.permClosed = false) (hl : r.permNext + b.length ≤ 65536) :
    writeRecord b seconds false r =
      { r with records := r.records ++ [⟨r.count, true, 0, r.permNext, b, seconds⟩]
               permNext := up8 (r.permNext + b.length), count := inc 32 r.count, newest := some r.count } :=
  if_pos (by simp [hp, hl])

/-- An occurrence with room in the permanent area becomes a record there. -/
theorem writeOcc_permanent {o : Occurrence} {r : Recorder} (hp : r.permClosed = false)
    (hl : r.permNext + (occBytes o r.lostFlag).length ≤ 65536) :
    writeOcc o r =
      { r with records := r.records ++ [⟨r.count, true, 0, r.permNext, occBytes o r.lostFlag, o.seconds⟩]
               permNext := up8 (r.permNext + (occBytes o r.lostFlag).length), count := inc 32 r.count, newest := some r.count
               lostFlag := if o.fixed then r.lostFlag else false } := by
  simp only [writeOcc, writeRecord_permanent (seconds := o.seconds) hp hl]
  split <;> rfl

/-- With the permanent area closed a record goes to the segment in use, where it has room. -/
theorem writeRecord_circulating {b : Bytes} {seconds : Nat} {r : Recorder} (hp : r.permClosed = true) (hs : r.segStarted = true)
    (hl : r.segNext + b.length ≤ 65536) :
    writeRecord b seconds false r =
      { r with records := r.records ++ [⟨r.count, false, r.segment, r.segNext, b, seconds⟩]
               segNext := up8 (r.segNext + b.length), count := inc 32 r.count, newest := some r.count } := by
  have hr : roomFor b.length { r with permClosed := true } = r := by
    unfold roomFor
    refine (if_neg (by simp [hs])).trans ((if_pos hl).trans ?_)
    rw [← hp]
  unfold writeRecord
  rw [if_neg (by simp [hp]), hr]
  rfl

/-- EV_LOG_CLEARED's payload: the ordinal reached and the number of records erased (R434). -/
def clearedPayload (r : Recorder) : Bytes := leBytes 4 r.count ++ leBytes 4 (r.records.filter fun x => !x.permanent).length

/-- The occurrence of EV_LOG_CLEARED. -/
def clearedOcc (s : State) : Occurrence :=
  ⟨0x0A01, clearedPayload s.evr, false, false, false, true, s.mem.seconds, s.mem.cycles, deviceTime s, []⟩

/-- The recorder with its circulating area erased and segment 0 begun. -/
def emptied (r : Recorder) : Recorder :=
  { r with
    records := r.records.filter fun x => x.permanent, permClosed := true, segStarted := true, segment := 0, segNext := 16
    segFirst := [(0, r.count)], newest := none, clearing := false, clears := inc 32 r.clears }

theorem clearLog_of_async {a : AsyncCmd} {s : State} (h : firstAsync 0x0A03 s = some a) :
    clearLog s = endAsync a ST.ok (clearedPayload s.evr ++ leBytes 4 s.evr.count)
      (deliver ⟨0x0A01, 0, 0, clearedPayload s.evr, none⟩ (onEvr (fun r => writeOcc (clearedOcc s) (emptied r)) s)) := by
  simp only [clearLog, h]
  rfl

/-- EV_LOG_CLEARED is written as the first record of segment 0. -/
theorem writeOcc_emptied (s : State) (r : Recorder) : writeOcc (clearedOcc s) (emptied r) =
    { emptied r with
      records := (emptied r).records ++ [⟨r.count, false, 0, 16, occBytes (clearedOcc s) r.lostFlag, s.mem.seconds⟩]
      segNext := up8 (16 + (occBytes (clearedOcc s) r.lostFlag).length), count := inc 32 r.count, newest := some r.count
      lostFlag := false } := by
  have hl : (occBytes (clearedOcc s) r.lostFlag).length = 36 := by
    rw [occBytes_of_variable (o := clearedOcc s) rfl, variableBytes_length]
    simp [occBody, tlv, leBytes_length, clearedOcc, clearedPayload]
  have hw := writeRecord_circulating (b := occBytes (clearedOcc s) r.lostFlag) (seconds := s.mem.seconds) (r := emptied r) rfl rfl
    (by rw [hl]; exact (by decide : 16 + 36 ≤ 65536))
  exact congrArg (fun r : Recorder => { r with lostFlag := false }) hw

/-- The clear leaves the permanent records and EV_LOG_CLEARED (R434). -/
theorem clearLog_evr {a : AsyncCmd} {s : State} (h : firstAsync 0x0A03 s = some a) :
    (clearLog s).evr.records = (s.evr.records.filter fun x => x.permanent) ++
      [⟨s.evr.count, false, 0, 16, occBytes (clearedOcc s) s.evr.lostFlag, s.mem.seconds⟩] ∧
    (clearLog s).evr.count = inc 32 s.evr.count ∧ (clearLog s).evr.segFirst = [(0, s.evr.count)] ∧
    (clearLog s).evr.clears = inc 32 s.evr.clears ∧ (clearLog s).evr.clearing = false := by
  have hq : Queued (onEvr (fun r => writeOcc (clearedOcc s) (emptied r)) s) (clearLog s) := by
    rw [clearLog_of_async h]
    exact (deliver_queued ..).trans (endAsync_queued ..)
  unfold Queued at hq
  rw [onEvr_evr, writeOcc_emptied] at hq
  rw [hq]
  exact ⟨rfl, rfl, rfl, rfl, rfl⟩

theorem clearLog_link {a : AsyncCmd} {s : State} (h : firstAsync 0x0A03 s = some a) : LinkOnly s (clearLog s) := by
  rw [clearLog_of_async h]
  exact LinkOnly.trans (b := onEvr (fun r => writeOcc (clearedOcc s) (emptied r)) s) rfl ((deliver_link ..).trans (endAsync_link ..))

theorem writerStep_of_idle {r : Recorder} (h : r.queue = [] ∨ r.clearing = true) : writerStep r = r := by
  unfold writerStep
  split
  next hq =>
    obtain h | h := h
    · simp [h] at hq
    · exact if_pos h
  · rfl

theorem writerStep_of_waiting {r : Recorder} {o : Occurrence} {q : List Occurrence} (h : r.queue = o :: q) (hc : r.clearing = false) :
    writerStep r = judgeOcc o { r with queue := q } := by
  simp only [writerStep, h, hc, Bool.false_eq_true, if_false]

/-- A window in which nothing was suppressed closes without a summary. -/
theorem closeWindow_of_none_suppressed {r : Recorder} {w : RateWindow} {seconds cycles time : Nat}
    (hf : r.windows.find? (fun v => v.code == w.code) = some w) (h0 : w.suppressed = 0) :
    closeWindow w.code seconds cycles time r = { r with windows := r.windows.filter fun v => v.code != w.code } := by
  simp only [closeWindow, hf, h0, if_true]

/-- Settles O23: the registers' branches, the place of a new record, and the recorder after a clear. -/
theorem recorderWritesAndClears : Obligations.RecorderWritesAndClears := by
  refine ⟨fun s => ⟨fun hr v => ?_, fun hr h13 => ?_, fun hr hl hp => ⟨fun hn => ?_, fun hn => ?_⟩,
    fun hp => ⟨fun hq => ?_, fun hc => ?_, fun o q hq hc => ?_⟩, fun code hw => ?_, fun w hw hf h0 ho => ?_⟩,
    fun o r hr hw hp hl => ?_, fun a s ha => ?_⟩
  · exact congrArg Host.Outcome.next (if_pos hr)
  · refine congrArg Host.Outcome.next ((if_neg (by simp [hr])).trans ?_)
    simp only [start_evr, h13, Bool.false_eq_true, if_false]
  · exact congrArg Host.Outcome.next ((if_neg (by simp [hr, hl, hp])).trans (if_neg (by simp [hn])))
  · exact congrArg Host.Outcome.next ((if_neg (by simp [hr, hl, hp])).trans (if_pos hn))
  · refine congrArg Host.Outcome.next ((if_pos hp).trans ?_)
    rw [onEvr, start_evr, writerStep_of_idle (.inl hq)]
    rfl
  · refine congrArg Host.Outcome.next ((if_pos hp).trans ?_)
    rw [onEvr, start_evr, writerStep_of_idle (.inr hc)]
    rfl
  · refine congrArg Host.Outcome.next ((if_pos hp).trans ?_)
    rw [onEvr, start_evr, writerStep_of_waiting hq hc]
    rfl
  · refine congrArg Host.Outcome.next (if_neg ?_)
    rw [List.any_eq_true]
    rintro ⟨w, hm, hc⟩
    simp only [windowOver, Bool.and_eq_true, beq_iff_eq, decide_eq_true_eq] at hc
    exact absurd hc.2 (Nat.not_le.mpr (hw w hm hc.1))
  · refine congrArg Host.Outcome.next ((if_pos ?_).trans ?_)
    · refine List.any_eq_true.mpr ⟨w, hw, ?_⟩
      simp only [windowOver, Bool.and_eq_true, beq_iff_eq, decide_eq_true_eq, true_and]
      exact ho
    · rw [onEvr, start_evr, closeWindow_of_none_suppressed hf h0]
      rfl
  · dsimp only
    rw [judgeOcc_new hr hw, writeOcc_permanent hp hl]
    have hfixed (h : o.fixed = true) : (occBytes o r.lostFlag).length = 16 ∧ rd (occBytes o r.lostFlag) 0 2 = o.code % 2 ^ 15 := by
      rw [occBytes_of_fixed h]
      obtain ⟨hc, -⟩ := rd_fixedBytes (code := o.code) (a := rd o.payload 0 2) (seconds := o.seconds) (cycles := o.cycles) (rep := 0)
        (b := rd o.payload 2 2)
      exact ⟨fixedBytes_length, hc⟩
    refine ⟨?_, ?_, ?_, ?_, ?_, ?_, hfixed⟩ <;> split <;> rfl
  · obtain ⟨hr, hc, hf, hcl, hg⟩ := clearLog_evr (s := start s) ha
    refine ⟨clearLog (start s), rfl, ?_, ?_, hc, hf, hcl, hg, (show LinkOnly s (start s) from rfl).trans (clearLog_link (s := start s) ha)⟩
    · rw [hr]; simp
    · rw [hr]; simp

end Sys2Proof.Machine
end

section
/-! PROOF. What the arrival of a command leaves of each accessor, and the answer of a test that is past its point of abort at once. -/
namespace Sys2Proof.Machine
set_option Elab.async false

section
variable (c : Nat) (u : Ump) (s : State)

@[simp] theorem powered_arrived (d : Nat) : powered d (arrived c u s) = powered d s := by simp only [powered, arrived_power]
@[simp] theorem port_arrived (n : Nat) : port n (arrived c u s) = port n s := by simp only [port, arrived_wire]
@[simp] theorem slice_arrived (n : Nat) : slice n (arrived c u s) = slice n s := by simp only [slice, arrived_radio]
@[simp] theorem mac_arrived (n : Nat) : mac n (arrived c u s) = mac n s := by simp only [mac, arrived_air]
@[simp] theorem station_arrived (h : Nat) : station h (arrived c u s) = station h s := by simp only [station, arrived_air]
@[simp] theorem bss_arrived (h : Nat) : bss h (arrived c u s) = bss h s := by simp only [bss, arrived_air]
@[simp] theorem ring_arrived (n : Nat) : ring n (arrived c u s) = ring n s := by simp only [ring, arrived_rings]
@[simp] theorem queue_arrived (n : Nat) : queue n (arrived c u s) = queue n s := by simp only [queue, arrived_qme]
@[simp] theorem gates_arrived (n : Nat) : gates n (arrived c u s) = gates n s := by simp only [gates, arrived_qme]
@[simp] theorem deviceTime_arrived : deviceTime (arrived c u s) = deviceTime s := by simp only [deviceTime, arrived_clock]
@[simp] theorem mgtUp_arrived : mgtUp (arrived c u s) = mgtUp s := by simp only [mgtUp, powered_arrived, arrived_power, arrived_wire]

variable {c u s} (ha : Arrives c u s)
include ha

end

section
variable {code : Nat} {h : Ump → State → Reply} {u : Ump} {s x : State} {i : Instr} {locks : List Obj}

/-- An async command that is past its point of abort as it is accepted. -/
theorem pends_past_of_serve (he : exec i s = .next (serve code h u s)) (ha : Arrives code u s)
    (hr : h u (arrived code u s) = pend (passPoint code (fun _ => true) (accept u code locks x))) (hx : Formed x) :
    Answers i code u ST.pending [] (passPoint code (fun _ => true) (accept u code locks x)) s :=
  answers_of_ne_ok (by decide) he ha hr hx.with

end
end Sys2Proof.Machine
end

section
/-! PROOF. Diagnostics, self tests, the operating second and the suppression of events (chapters 11 and 18). -/
namespace Sys2Proof.Machine
set_option Elab.async false

/-! ### The operating second -/

theorem fullEvent_link (c : Nat) (s : State) : LinkOnly s (fullEvent c s) := by
  unfold fullEvent
  split
  · exact raiseLimited_link _ _ _ _
  · rfl

theorem falseDetects_link (s : State) (n : Nat) : LinkOnly s (falseDetects s n) := by
  unfold falseDetects
  dsimp only
  split
  · exact raiseLimited_link _ _ _ _
  · rfl

theorem planFullCheck_link (s : State) : LinkOnly s (planFullCheck s) := by
  unfold planFullCheck
  dsimp only
  split
  · exact raiseLimited_link _ _ _ _
  · rfl

/-- What the second ends leave: the counts of the second are 0, and nothing else that a tick names has changed. -/
def SecondCleared (s t : State) : Prop :=
  t.mem.seconds = s.mem.seconds ∧ t.mem.correctedNow = 0 ∧ t.qme.poolDropNow = 0 ∧ t.drz.secNow = (0, 0, 0) ∧ t.mls.fullNow = (0, 0, 0) ∧
    t.mem.bankA = s.mem.bankA ∧ t.power = s.power ∧ t.air.bss = s.air.bss

theorem clearSecond_cleared (s : State) : SecondCleared s (clearSecond s) := by
  simp [SecondCleared, clearSecond]

theorem sampleFreq_clock (s : State) : sampleFreq s = onClock (fun _ => (sampleFreq s).clock) s := by
  unfold sampleFreq
  split <;> rfl

/-- The array is ready for its self test where every slice is STOPPED. -/
theorem bistReady_ldpc {s : State} (h : ∀ n, n < 3 → (slice n s).state = .stopped) : bistReady 0 s = true := by
  have h0 : s.radio.slices.a.state = .stopped := h 0 (by decide)
  have h1 : s.radio.slices.b.state = .stopped := h 1 (by decide)
  have h2 : s.radio.slices.c.state = .stopped := h 2 (by decide)
  simp [bistReady, Tri.toList, h0, h1, h2]

/-- The counts of the second and the classes still full are judged before the counts begin anew. -/
def secondJudged (s : State) : State :=
  planFullCheck ([0, 1, 2].foldl falseDetects ((List.range 13).foldl (fun t c => fullEvent c t) s))

theorem secondJudged_link (s : State) : LinkOnly s (secondJudged s) :=
  ((LinkOnly.foldl _ (fun t c => fullEvent_link c t) _ _).trans (LinkOnly.foldl _ falseDetects_link _ _)).trans (planFullCheck_link _)

/-- Every 24 h the corrected errors of a page begin anew with the counts. -/
theorem secondTick_of_running {s : State} (hs : s.power.state = .run ∨ s.power.state = .quiet) (hp : powered 1 s = true) :
    ∃ t, secondTick s = sampleFreq t ∧
      (t = clearSecond (secondJudged (onMem (fun m => { m with seconds := inc 32 m.seconds }) s)) ∨
       t = onMem (fun m => { m with pageErrors := [] })
         (clearSecond (secondJudged (onMem (fun m => { m with seconds := inc 32 m.seconds }) s)))) := by
  have hc : ((s.power.state != .run && s.power.state != .quiet) || !powered 1 s) = false := by
    obtain hs | hs := hs <;> simp [hs, hp]
  unfold secondTick
  rw [if_neg (Bool.eq_false_iff.mp hc)]
  refine ⟨_, rfl, ?_⟩
  split
  · exact .inr rfl
  · exact .inl rfl

/-- A running device counts the second, and its counts begin anew (R335). -/
theorem secondTick_fields {s : State} (hs : s.power.state = .run ∨ s.power.state = .quiet) (hp : powered 1 s = true) :
    SecondCleared (onMem (fun m => { m with seconds := inc 32 m.seconds }) s) (secondTick s) := by
  obtain ⟨t, ht, he⟩ := secondTick_of_running hs hp
  have hk := secondJudged_link (onMem (fun m => { m with seconds := inc 32 m.seconds }) s)
  rw [ht, sampleFreq_clock]
  generalize secondJudged (onMem (fun m => { m with seconds := inc 32 m.seconds }) s) = j at hk he
  have hc := clearSecond_cleared j
  generalize clearSecond j = c at hc he
  obtain ⟨h1, h2, h3, h4, h5, h6, h7, h8⟩ := hc
  have hr : SecondCleared (onMem (fun m => { m with seconds := inc 32 m.seconds }) s) c := ⟨h1.trans (congrArg Mem.seconds hk.mem), h2, h3, h4, h5, h6.trans (congrArg Mem.bankA hk.mem), h7.trans hk.power,
    h8.trans (congrArg Air.bss hk.air)⟩
  obtain rfl | rfl := he <;> exact hr

/-- Settles O24: what the managers reply, the ends of the tests, and the counts that a second clears. -/
theorem diagnosticsRunAndEnd : Obligations.DiagnosticsRunAndEnd := by
  refine ⟨fun u s hm => ⟨fun ha hc hl h0 => ?_, fun ha hc hl hp h9 h2 hmgt h64 hmax hn0 hn hd => ?_, fun ha hl h0 h6 hc hs => ?_⟩,
    fun a passed s ha hr => ?_, fun a fail place addr sent received errored s ha => ?_, fun s hs hp => ?_, fun code obj s => rfl⟩
  · refine pends_past_of_serve rfl ha ?_ (.arrived hm)
    have hg := hc.arrived ha
    simp [diagRun, hg, Nat.not_lt.mpr hl, h0, testing]
  · refine pends_past_of_serve rfl ha ?_ (.arrived hm)
    have hg := hc.arrived ha
    have hlim : ¬ (if u.b8 1 = 2 then 3600 else 1000000) < u.b32 4 := Nat.not_lt.mpr hn
    have hpoint : ¬ (u.b8 1 ≠ 0 ∧ u.b8 0 = 4) := fun h => hmgt h.1 h.2
    simp [tstLoopback, hlim, hpoint, Nat.not_lt.mpr h2, Nat.not_lt.mpr h64, Nat.not_lt.mpr hmax, hn0, hd, hg, Nat.not_lt.mpr hl, badPort, Nat.not_lt.mpr hp, h9, testing]
  · refine pends_past_of_serve rfl ha ?_ (.arrived hm)
    have hg := hc.arrived ha
    have hready : bistReady 0 (arrived 0x0F01 u s) = true := bistReady_ldpc (by simpa using hs)
    simp [tstBist, hready, hg, Nat.not_lt.mpr hl, h0, bistDomain, h6, testing]
  · refine congrArg Host.Outcome.next ?_
    simp [diagDone, ha, hr]
  · refine congrArg Host.Outcome.next ?_
    simp [tstDone, ha]
  · exact ⟨secondTick (start s), rfl, secondTick_fields (s := start s) hs hp⟩

end Sys2Proof.Machine
end

section
/-! PROOF. The commands of the time group (chapter 9), and what the gate lists do when the time is moved. -/
namespace Sys2Proof.Machine
set_option Elab.async false

/-! ### What follows a step of the time changes only the queueing engine and the link -/

/-- Only the queueing engine and the link differ, and the mailbox's slots and queue do not. -/
def QueueingOnly (s t : State) : Prop :=
  t = { s with mbox := t.mbox, pcie := t.pcie, evr := t.evr, out := t.out, qme := t.qme } ∧ MboxKept s t

theorem QueueingOnly.refl (s : State) : QueueingOnly s s := ⟨rfl, .refl s⟩

theorem QueueingOnly.trans {a b c : State} (h : QueueingOnly a b) (k : QueueingOnly b c) : QueueingOnly a c := by
  refine ⟨?_, h.2.trans k.2⟩
  rw [k.1, h.1]

theorem QueueingOnly.onQme (f : Qme → Qme) (s : State) : QueueingOnly s (Machine.onQme f s) := ⟨rfl, .of_eq rfl⟩

theorem QueueingOnly.of_link {s t : State} (h : LinkOnly s t) (k : MboxKept s t) : QueueingOnly s t :=
  ⟨by rw [h], k⟩

theorem QueueingOnly.foldl {α : Type} (g : State → α → State) (h : ∀ t x, QueueingOnly t (g t x)) (l : List α) (s : State) :
    QueueingOnly s (l.foldl g s) := by
  induction l generalizing s with
  | nil => exact .refl s
  | cons x l ih => exact (h s x).trans (ih _)

section
variable {s t : State} (h : QueueingOnly s t)
include h

theorem QueueingOnly.clock : t.clock = s.clock := by rw [h.1]
theorem QueueingOnly.air : t.air = s.air := by rw [h.1]
theorem QueueingOnly.sec : t.sec = s.sec := by rw [h.1]
theorem QueueingOnly.mem : t.mem = s.mem := by rw [h.1]
end

theorem settleClosed_queueing (q : Nat) (s : State) : QueueingOnly s (settleClosed q s) := by
  simp only [settleClosed]
  split
  · split
    · exact .onQme _ s
    · exact .refl s
  · exact .onQme _ s

theorem settlePort_queueing (p : Nat) (s : State) : QueueingOnly s (settlePort p s) :=
  .foldl _ (fun _ _ => settleClosed_queueing ..) _ s

theorem gatePosition_queueing (p : Nat) (s : State) : QueueingOnly s (gatePosition p s) := by
  unfold gatePosition
  split
  · exact .refl s
  · exact ((settlePort_queueing p s).trans (.onQme _ _)).trans (settlePort_queueing p _)

theorem gclSwitch_queueing (p : Nat) (late : Bool) (s : State) : QueueingOnly s (gclSwitch p late s) := by
  unfold gclSwitch
  split
  · exact .refl s
  · refine .trans ?_ (.of_link (raise_link ..) (raise_kept ..))
    refine .trans ?_ (((settlePort_queueing p _).trans (.onQme _ _)).trans (settlePort_queueing p _))
    split
    · split
      · exact .onQme _ s
      · exact .refl s
    · exact .refl s

theorem gatesFollow_queueing (s : State) : QueueingOnly s (gatesFollow s) := by
  refine .foldl _ (fun t p => ?_) _ s
  split
  · split
    · exact gclSwitch_queueing p true t
    · exact gatePosition_queueing p t
  · exact gatePosition_queueing p t

theorem Formed.stepTime {s : State} (h : Formed s) {jump : Int} {cause : Nat} : Formed (stepTime jump cause s) := by
  have hc : Formed (onClock (fun c =>
    { c with slew := 0, slewFrac := 0, steps := inc 32 c.steps, lastStep := jump, isSet := true, allowance := none
             refused := false, servo := if c.servo = .unset then .free else c.servo
             stepped := c.stepped + jump, tsfBase := c.tsfBase.map fun b => b.map (· + jump) }) (moveTime jump s)) := h.with
  exact (hc.raise).of_kept (gatesFollow_queueing _).2

/-! ### The commands -/

/-- A jump within the limit of a device whose time is set needs no FORCE (R231). -/
theorem judgeJump_within {j : Int} {cause : Nat} {c : Clock} (hi : c.isSet = true) (ha : c.allowance = none)
    (hj : j.natAbs ≤ c.jumpLimit) : judgeJump j false cause c = some cause := by
  simp [judgeJump, hi, ha, hj]

theorem judgeJump_beyond {j : Int} {cause : Nat} {c : Clock} (hi : c.isSet = true) (ha : c.allowance = none)
    (hj : c.jumpLimit < j.natAbs) : judgeJump j false cause c = none := by
  simp [judgeJump, hi, ha, Nat.not_le.mpr hj]

/-- Settles O25: what the managers reply. -/
theorem timeCommandsAnswer : Obligations.TimeCommandsAnswer := by
  intro u s hm
  refine ⟨fun ha hc => ?_, fun ha hc hs => ⟨fun h hl hf => ?_, fun h hl hv h1 h2 => ?_, fun h hl hi hal hfo => ⟨fun hj => ?_, fun hj => ?_⟩⟩,
    fun ha hc hl => ⟨fun h => ?_, fun h hb h1 h2 => ?_, fun h hb h1 => ?_⟩, fun ha hc hl => ⟨fun h => ?_, fun h h1 h2 => ?_⟩⟩ <;>
    have hg := hc.arrived ha
  · refine ⟨_, succeeds_of_serve rfl ha (by unfold timGet; exact judge_gate_last hg) (.arrived hm), ?_, ?_⟩ <;>
      simp only [List.append_assoc]
    · rw [← List.nil_append (leBytes 8 _ ++ _), rd_field (o := 0) 8 _ _ List.length_nil, deviceTime_arrived]
    · rw [rd_field 1 _ _ (leBytes_length 8 _), arrived_clock, Nat.mul_one, show 2 ^ 8 = 256 from rfl]
  · refine succeeds_of_serve rfl ha ?_ (Formed.with (.arrived hm))
    simp [timAdjust, adjustLength, hg, Nat.not_lt.mpr hl, h, hs, Nat.not_lt.mpr hf, adjustReply]
  · refine succeeds_of_serve rfl ha ?_ (Formed.with (.arrived hm))
    have h0 : u.b32 16 ≠ 0 := by omega
    simp [timAdjust, adjustLength, hg, Nat.not_lt.mpr hl, h, hs, Nat.not_lt.mpr hv, adjustReply, h0, Nat.not_lt.mpr h1, Nat.not_lt.mpr h2]
  · refine succeeds_of_serve rfl ha ?_ (Formed.arrived hm).stepTime
    have hjudge := judgeJump_within (cause := 0) hi hal hj
    simp [timAdjust, adjustLength, hg, Nat.not_lt.mpr hl, h, hs, hfo, adjustJump, hjudge, adjustReply]
  · refine answers_of_ne_ok (st := ST.timeJumpRefused) (by decide) rfl ha ?_ (Formed.with (.arrived hm)).raise
    have hjudge := judgeJump_beyond (cause := 0) hi hal hj
    simp [timAdjust, adjustLength, hg, Nat.not_lt.mpr hl, h, hs, hfo, adjustJump, hjudge]
  · refine succeeds_of_serve rfl ha ?_ (.arrived hm)
    simp [timSetPtp, shortOp_of_le, hg, Nat.not_lt.mpr hl, h]
  · refine succeeds_of_serve rfl ha ?_ (Formed.with (.arrived hm))
    have hn : s.clock.cfg.source = (ptpArgs u).source ∧ s.clock.cfg.profile = (ptpArgs u).profile := ⟨h1, h2⟩
    simp [timSetPtp, shortOp_of_le, hg, Nat.not_lt.mpr hl, h, hb, hn]
  · refine succeeds_of_serve rfl ha ?_ (Formed.with (.arrived hm))
    have hn : s.clock.cfg.source ≠ (ptpArgs u).source := h1
    simp [timSetPtp, shortOp_of_le, hg, Nat.not_lt.mpr hl, h, hb, hn]
  · refine succeeds_of_serve rfl ha ?_ (.arrived hm)
    simp [timSetJumpLimit, shortOp_of_le, hg, Nat.not_lt.mpr hl, h]
  · refine succeeds_of_serve rfl ha ?_ (Formed.with (.arrived hm))
    simp [timSetJumpLimit, shortOp_of_le, hg, Nat.not_lt.mpr hl, h, Nat.not_lt.mpr h1, Nat.not_lt.mpr h2]
    rfl

end Sys2Proof.Machine
end

section
/-! PROOF. The rows of the time unit, PTP and the servo (chapter 9). -/
namespace Sys2Proof.Machine
set_option Elab.async false

section
variable {s : State} (hr : timeRuns s = true)
include hr

theorem timeRuns_start : timeRuns (start s) = true := hr

/-- A pulse captured while the device is not disciplined by PPS_IN only latches its time. -/
theorem ppsCapture_latched (hs : s.clock.cfg.source ≠ 2) (freq : Int) : ppsCapture freq s = onClock (fun c =>
    { c with ppsIn := ofSigned 64 ((deviceTime s : Int) - s.clock.cfg.cable), ppsPresent := true, ppsSecond := none }) s := by
  simp [ppsCapture, hr, hs]

/-- An exchange that a step parts is thrown away. -/
theorem servoMeasurement_parted (hs : s.clock.cfg.source = 1) {stamp : Nat}
    (he : s.clock.exchange = some (stamp, s.clock.steps + 1)) (off freq : Int) :
    servoMeasurement off freq s = onClock (fun c => { c with exchange := none }) s := by
  simp [servoMeasurement, hr, hs, he]

theorem servoMeasurement_whole (hs : s.clock.cfg.source = 1) {stamp : Nat}
    (he : s.clock.exchange = some (stamp, s.clock.steps)) (off freq : Int) :
    servoMeasurement off freq s = measure off freq 2 (onClock (fun c => { c with exchange := none }) s) := by
  simp [servoMeasurement, hr, hs, he]
end

/-- The eighth good offset in a row locks the servo (R236). -/
theorem measure_eighth {s : State} {off : Int} (freq : Int) (cause : Nat) (ho : off.natAbs < 100)
    (hh : s.clock.servo ≠ .holdover) (hp : s.clock.gmPending = none) (hg : s.clock.good = 7) :
    measure off freq cause s = onClock (fun c =>
      { c with offset := off, measured := true, freq := clampPpb freq, good := 8, servo := .locked, wasLocked := true }) s := by
  have hb : off.natAbs ≤ 100000 := by omega
  simp [measure, hh, Nat.not_lt.mpr hb, acceptGm, hp, onClock, ho, hg]

/-- A message of PTP that a port in role sends: its Follow_Up goes behind a Sync of a two-step port. -/
theorem ptpEmit_eq (p kind : Nat) (s : State) : ptpEmit p kind s =
    if kind = 0 ∧ (p < 4 → bit s.clock.cfg.oneStep p = false)
    then emit (.ptp p 4 (announcedClass s.clock) (deviceTime s)) (emit (.ptp p 0 (announcedClass s.clock) (deviceTime s)) s)
    else emit (.ptp p kind (announcedClass s.clock) (deviceTime s)) s := by
  simp only [ptpEmit]
  congr 1
  by_cases hp : p < 4
  · simp [hp]
  · simp [hp, Nat.not_lt.mp hp]

/-- Settles O26: each row takes the branch that its hypotheses select. -/
theorem timeUnitAndServoRows : Obligations.TimeUnitAndServoRows := by
  refine ⟨fun s => ⟨fun hp hw => ?_, fun hs => ?_, fun hp hw => ?_, fun ho => ?_, fun hr =>
      ⟨fun hs freq => ?_, fun hs => ?_, fun hs hh => ?_, fun hs hh => ?_⟩⟩,
    fun s hr hs => ⟨fun p event hb => ⟨?_, fun id hid => ?_⟩, fun p kind hb hu hrole hk => ?_,
      fun off freq stamp he ho hh hp hg => ?_, fun off freq stamp he => ?_⟩⟩
  · refine congrArg Host.Outcome.next ((if_neg (by simp [hp])).trans ?_)
    simp [onClock, hw]
  · exact congrArg Host.Outcome.next (if_neg (show ¬(start s).clock.slew = 0 from hs))
  · exact congrArg Host.Outcome.next (if_neg (by simp [hp, hw]))
  · exact congrArg Host.Outcome.next (if_pos ho)
  · have hl := ppsCapture_latched (s := start s) hr hs freq
    simp only [deviceTime_start, start_clock] at hl
    exact congrArg Host.Outcome.next hl
  · exact congrArg Host.Outcome.next ((if_neg (by simp [timeRuns_start hr])).trans (if_neg (by simp [onClock, hs])))
  · exact congrArg Host.Outcome.next ((if_neg (by simp [timeRuns_start hr])).trans (if_pos (by simp [onClock, hs, hh])))
  · exact congrArg Host.Outcome.next (if_pos (by simp [timeRuns_start hr, hs, hh]))
  · refine congrArg Host.Outcome.next ((if_neg (by simp [timeRuns_start hr, hs, hb])).trans ?_)
    rfl
  · refine congrArg Host.Outcome.next ((if_neg (by simp [timeRuns_start hr, hs, hb])).trans ?_)
    exact if_neg (by cases event <;> exact hid)
  · have hq : ptpSends kind s.clock.cfg = true := by rcases hk with rfl | rfl <;> simp [ptpSends, hrole]
    have hn : ¬(kind = 2 ∨ kind = 3) := by omega
    refine congrArg Host.Outcome.next ((if_neg (by simp [timeRuns_start hr, hs, hb, hq, hu])).trans ?_)
    refine (if_neg hn).trans ((ptpEmit_eq p kind (start s)).trans ?_)
    rcases hk with rfl | rfl <;> rfl
  · exact congrArg Host.Outcome.next ((servoMeasurement_whole (s := start s) hr hs he off freq).trans
      (measure_eighth (s := onClock (fun c => { c with exchange := none }) (start s)) freq 2 ho hh hp hg))
  · exact congrArg Host.Outcome.next (servoMeasurement_parted (s := start s) hr hs he off freq)

/-! ### Steps and cycles -/

theorem ofSigned_lt (w : Nat) (i : Int) : ofSigned w i < 2 ^ w := by
  have h := Int.emod_lt_of_pos i (show (0 : Int) < 2 ^ w from Int.pow_pos (by decide))
  exact (Int.toNat_lt (Int.emod_nonneg _ (Int.ne_of_gt (Int.pow_pos (by decide))))).mpr (by exact_mod_cast h)

/-- What a step sets of the clock. -/
def stepped (t : Nat) (jump : Int) (c : Clock) : Clock :=
  { setTime t c with
    slew := 0, slewFrac := 0, steps := inc 32 c.steps, lastStep := jump, isSet := true, allowance := none
    refused := false, servo := if c.servo = .unset then .free else c.servo
    stepped := c.stepped + jump, tsfBase := c.tsfBase.map fun b => b.map (· + jump) }

theorem stepTime_queueing (jump : Int) (cause : Nat) (s : State) :
    QueueingOnly (onClock (stepped (ofSigned 64 ((deviceTime s : Int) + jump)) jump) s) (stepTime jump cause s) :=
  .trans (.of_link (raise_link ..) (raise_kept ..)) (gatesFollow_queueing _)

/-- The time set is the device time read. -/
theorem deviceTime_of_stepped {s : State} {t : Nat} {j : Int} {c : Clock} (h : s.clock = stepped t j c) (ht : t < 2 ^ 64) :
    deviceTime s = t := by
  simp only [deviceTime, h, stepped, setTime, b2n]
  simp only [Bool.false_eq_true, if_false]
  omega

theorem stepTime_deviceTime (jump : Int) (cause : Nat) (s : State) :
    deviceTime (stepTime jump cause s) = ofSigned 64 ((deviceTime s : Int) + jump) :=
  deviceTime_of_stepped (stepTime_queueing jump cause s).clock (ofSigned_lt ..)

/-- A step does not move the running time, that intervals are measured in. -/
theorem stepTime_runTime {jump : Int} (cause : Nat) {s : State} (h : 0 ≤ (deviceTime s : Int) + jump)
    (hlt : (deviceTime s : Int) + jump < 2 ^ 64) : runTime (stepTime jump cause s) = runTime s := by
  have hd : (ofSigned 64 ((deviceTime s : Int) + jump) : Int) = deviceTime s + jump := by
    rw [ofSigned, Int.emod_eq_of_lt h hlt, Int.toNat_of_nonneg h]
  have hs : (stepTime jump cause s).clock.stepped = s.clock.stepped + jump := by
    rw [(stepTime_queueing jump cause s).clock]; rfl
  unfold runTime
  rw [stepTime_deviceTime, hd, hs]
  congr 1
  omega

/-- Without a slew a cycle adds the increment of the frequency, twice that in limp mode. -/
theorem clockTick_of_no_slew {limp : Bool} {c : Clock} (hs : c.slew = 0) : clockTick limp c =
    let total := c.ns * 2 ^ 32 + c.frac + (if limp then 2 else 1) * incOf c.freq
    { c with ns := total / 2 ^ 32 % 2 ^ 32, frac := total % 2 ^ 32
             wrapPending := c.wrapPending || decide (2 ^ 32 ≤ total / 2 ^ 32), slew := 0, slewFrac := 0 } := by
  simp [clockTick, hs, slewPpb]

/-- Settles O27: a step's clock is `stepped`, whatever the gate lists and the event change elsewhere. -/
theorem theClockStepsAndCounts : Obligations.TheClockStepsAndCounts := by
  refine ⟨fun jump cause s => ?_, fun limp c hs hf hq => ?_⟩
  · have hq := stepTime_queueing jump cause s
    refine ⟨?_, ?_, stepTime_runTime cause, ?_, ?_, ?_, ?_, ?_, ?_, ?_, stepTime_deviceTime jump cause s, hq.air, hq.sec, hq.mem⟩ <;>
      rw [hq.clock] <;> rfl
  · rw [clockTick_of_no_slew hs]
    generalize c.ns * 2 ^ 32 + c.frac + (if limp then 2 else 1) * incOf c.freq = total
    refine ⟨?_, ?_, rfl, rfl, by decide⟩
    · show total / 2 ^ 32 % 2 ^ 32 * 2 ^ 32 + total % 2 ^ 32 = total % 2 ^ 64
      omega
    · simp only [Bool.or_eq_true, decide_eq_true_eq]
      refine or_congr .rfl ?_
      omega

end Sys2Proof.Machine
end

section
/-! PROOF. RAD_SET_CHANNEL and RAD_CALIBRATE (chapter 2). -/
namespace Sys2Proof.Machine
set_option Elab.async false

/-- A slice that is on passes the checks of its number and its power. -/
@[simp] theorem badSlice_eq (n : Nat) : badSlice n = (decide (2 < n), ST.badParam) := rfl

theorem SliceOn.le {n : Nat} {s : State} (h : SliceOn n s) : n ≤ 2 := by
  obtain ⟨hn, -, -⟩ := h
  omega

section
variable {c : Nat} {u : Ump} {s : State}

/-- A slice that is on is still on when a command has arrived. -/
theorem SliceOn.sliceOff {n : Nat} (h : SliceOn n s) : sliceOff n (arrived c u s) = (false, ST.poweredOff) := by
  obtain ⟨-, hp, ho⟩ := h
  simp [Machine.sliceOff, hp, ho]

theorem async_arrived (ha : Arrives c u s) : (arrived c u s).mbox.async = s.mbox.async := by
  obtain ⟨m, n, hm⟩ := arrived_mbox ha
  rw [hm]

@[simp] theorem tuned_arrived (n : Nat) : tuned n (arrived c u s) = tuned n s := by simp only [tuned, slice_arrived]

@[simp] theorem channelBad_arrived (n : Nat) (d : Channel) : channelBad n d (arrived c u s) = channelBad n d s := by
  simp only [channelBad, heldChannels, tuned_arrived, slice_arrived]

@[simp] theorem allowed_arrived (d : Channel) : allowed d (arrived c u s) = allowed d s := by
  simp only [allowed, ruleOf, entriesOf, arrived_radio]

@[simp] theorem permitted_arrived (d : Channel) : permitted d (arrived c u s) = permitted d s := by
  simp only [permitted, allowed_arrived, arrived_radio]
end

/-- Settles O28: the checks of each manager pass one by one. -/
theorem channelAndCalibrationAreAccepted : Obligations.ChannelAndCalibrationAreAccepted := by
  intro u s hm hon
  refine ⟨fun ha hc hl hk => ?_, fun ha hc hl h0 h31 hb => ?_⟩ <;> have hg := hc.arrived ha <;>
    have hoff := hon.sliceOff (c := 0x0201) (u := u)
  · have hheld : ∀ a ∈ (arrived 0x0201 u s).mbox.async, ¬a.code = 0x0203 → Obj.slice (u.b8 0) ∉ a.locks := by
      rw [async_arrived ha]
      exact fun a hmem hne => (hk a hmem).resolve_left hne
    refine ⟨fun h => ?_, fun h hbad hp => ⟨fun hb => ?_, fun hb hbad' hp' => ?_⟩, fun h hbad hb hp => ?_⟩
    · refine pends_of_serve rfl ha ?_ (Formed.with (.arrived hm))
      simp +contextual [setChannel, hg, Nat.not_lt.mpr hl, Nat.not_lt.mpr hon.le, hoff, pending, h, hheld]
    · refine pends_of_serve rfl ha ?_ (Formed.with (.arrived hm))
      simp +contextual [setChannel, hg, Nat.not_lt.mpr hl, Nat.not_lt.mpr hon.le, hoff, pending, h, hheld, hbad, hp, hb]
    · refine pends_of_serve rfl ha ?_ (Formed.with (.arrived hm))
      simp +contextual [setChannel, hg, Nat.not_lt.mpr hl, Nat.not_lt.mpr hon.le, hoff, pending, h, hheld, hbad, hp, hb, hbad', hp']
    · refine fails_of_serve (by decide) hm rfl ha ?_
      simp +contextual [setChannel, hg, Nat.not_lt.mpr hl, Nat.not_lt.mpr hon.le, hoff, pending, h, hheld, hbad, hp, hb]
  · have hoff := hon.sliceOff (c := 0x0203) (u := u)
    refine ⟨fun hs h2 => ?_, fun hs => ?_⟩
    · refine pends_of_serve rfl ha ?_ (Formed.with (.arrived hm))
      simp [calibrate, hg, Nat.not_lt.mpr hl, Nat.not_lt.mpr hon.le, hoff, pending, h0, Nat.not_lt.mpr h31, hs, h2]
    · refine pends_of_serve rfl ha ?_ (Formed.with (.arrived hm))
      simp [calibrate, hg, Nat.not_lt.mpr hl, Nat.not_lt.mpr hon.le, hoff, pending, h0, Nat.not_lt.mpr h31, Nat.not_lt.mpr hb, hs,
        show (SliceState.stopped == SliceState.ready) = false from rfl]

end Sys2Proof.Machine
end

section
/-! PROOF. The regulatory data (chapter 2): a granule that the lock of the limit table refuses. -/
namespace Sys2Proof.Machine
set_option Elab.async false

/-- A provisioned device in RUN whose Felt store refuses the limit table's granules, though no table is locked. -/
def refusingDevice : State :=
  { State.reset with
      power := { Power.reset with domains := 0x7FF, stage := 4, xt32Starting := false, image := 0 }
      pcie := { Pcie.reset with linkUp := true }
      sec := { Sec.reset with lifecycle := .provisioned, otpLifecycle := .provisioned, restricted := false }
      mem := { Mem.reset with lltRefuse := true } }

/-- An entry of the limit table: 6 GHz, every width, 1000 permille of duty. -/
def tableEntry : Bytes :=
  [2, 31] ++ leBytes 2 5955 ++ leBytes 2 7115 ++ leBytes 2 80 ++ leBytes 2 40 ++ leBytes 2 1000 ++ leBytes 4 0

/-- The table of that entry. -/
def oneEntryTable : Bytes := leBytes 2 0x4C4C ++ [3, 1] ++ List.replicate 8 0 ++ leBytes 4 (crc32c tableEntry) ++ tableEntry

/-- RAD_LOCK_LLT with FORCE, its table in host memory. -/
def lockCommand : Ump :=
  let desc := leBytes 8 0 ++ leBytes 4 oneEntryTable.length ++ leBytes 4 (crc32c oneEntryTable)
  { via := .pcie 0, flags := 3, length := 16, crc := crc32c desc, payload := desc, env := { ext := oneEntryTable } }

theorem lockCommand_arrives : Arrives 0x020A lockCommand refusingDevice :=
  ⟨rfl, by decide +kernel, by decide +kernel, by decide, by decide +kernel, rfl⟩

theorem lockCommand_clear : Clear 0x020A false [] refusingDevice := by
  unfold Clear
  decide +kernel

theorem refusingDevice_mailbox : MailboxInv refusingDevice := by
  unfold MailboxInv
  decide +kernel

theorem refusingDevice_untuned (n : Nat) (h : n < 3) : tuned n refusingDevice = none := by
  rcases (show n = 0 ∨ n = 1 ∨ n = 2 by omega) with rfl | rfl | rfl <;> rfl

/-- While no slice is tuned, a change of regulatory data stops none. -/
theorem regulationChanged_untuned {s : State} (h : ∀ n, n < 3 → tuned n s = none) :
    regulationChanged s = raise 0x020B (leBytes 1 0xFF ++ leBytes 1 0) s := by
  have h0 := h 0 (by decide)
  have h1 := h 1 (by decide)
  have h2 := h 2 (by decide)
  simp [regulationChanged, h0, h1, h2]
  rfl

/-- A write of a granule that the lock refuses is only counted (R333). -/
theorem feltWrite_refused {r : Retry} {addr : Nat} {s : State} (h : feltRefuses addr s = true) :
    feltWrite r addr s = onMem (fun m => { m with lltRefused := inc 32 m.lltRefused }) s := if_pos h

/-- The table in force and locked, with its event: what the command leaves where its granules take the write. -/
def lockedTable (s : State) (l : List Limit) : State :=
  raise 0x020B (leBytes 1 0xFF ++ leBytes 1 0) (onMem (fun m => { m with lltLock := true }) (onRadio (fun r => { r with llt := some l }) s))

theorem lockedTable_mem (s : State) (l : List Limit) : (lockedTable s l).mem = { s.mem with lltLock := true } :=
  (raise_link ..).mem

theorem Formed.lockedTable {s : State} {l : List Limit} (h : Formed s) : Formed (lockedTable s l) := (h.with).raise

theorem Formed.onMem {f : Mem → Mem} {s : State} (h : Formed s) : Formed (Machine.onMem f s) := h.with

/-- The entries of the command's table. -/
def lockLimits : List Limit :=
  (List.range (rd lockCommand.data 3 1)).map fun i => entryBody (field lockCommand.data (16 + 16 * i) 16)

/-- The manager's answer: the refused write is counted. -/
theorem lockLlt_refused : lockLlt lockCommand (arrived 0x020A lockCommand refusingDevice) =
    reply [] (onMem (fun m => { m with lltRefused := inc 32 m.lltRefused })
      (lockedTable (arrived 0x020A lockCommand refusingDevice) lockLimits)) := by
  have hg := lockCommand_clear.arrived lockCommand_arrives
  have hu : ∀ n, n < 3 → tuned n (onMem (fun m => { m with lltLock := true })
      (onRadio (fun r => { r with llt := some lockLimits }) (arrived 0x020A lockCommand refusingDevice))) = none :=
    fun n hn => (tuned_arrived n).trans (refusingDevice_untuned n hn)
  have hr : feltRefuses 0x3000 (lockedTable (arrived 0x020A lockCommand refusingDevice) lockLimits) = true := by
    simp [feltRefuses, lockedTable_mem]; rfl
  have hl : lockCommand.data.length = 32 := by decide +kernel
  have hf : lockCommand.force = true := rfl
  have hk : rd lockCommand.data 3 1 = 1 := by decide +kernel
  have hm : rd lockCommand.data 0 2 = 0x4C4C := by decide +kernel
  have hb : rd lockCommand.data 2 1 = 3 := by decide +kernel
  have hc : rd lockCommand.data 12 4 = crc32c (lockCommand.data.drop 16) := by decide +kernel
  have hh : lockCommand.env.hw = .ok := rfl
  have hlc : refusingDevice.sec.lifecycle = .provisioned := rfl
  have ht : refusingDevice.radio.llt = none := rfl
  have he : lockLimits.any (fun e => decide (2 < e.band) || e.widths == 0 || decide (31 < e.widths) || e.flags == 0
    || decide (1000 < e.flags)) = false := by decide +kernel
  simp only [lockLlt]
  rw [show ((List.range (rd lockCommand.data 3 1)).map fun i => entryBody (field lockCommand.data (16 + 16 * i) 16)) = lockLimits from rfl,
    regulationChanged_untuned hu, ← lockedTable]
  simp [hg, hl, hf, hk, hm, hb, hc, hh, hlc, ht, he, replyFelt, feltWrite_refused hr, replyHw, reply]

theorem ReplyOnly.mem {x t : State} (h : ReplyOnly x t) : t.mem = x.mem := by
  obtain ⟨h, -, -⟩ := h
  rw [h]

/-- Refutes O29: the statement leaves the refusal of the limit table's granules open (R333); where they refuse the write, it is
counted in the memory group, which the statement says is left as it was. -/
theorem not_radioCommandsAnswer : ¬ Obligations.RadioCommandsAnswer := by
  intro h
  obtain ⟨-, h⟩ := h
  obtain ⟨-, h⟩ := h lockCommand refusingDevice refusingDevice_mailbox rfl refusingDevice_untuned
  obtain ⟨h, -⟩ := h lockCommand_arrives lockCommand_clear (by decide) rfl (by decide) (by decide +kernel) (by decide +kernel) (by decide +kernel)
    (by decide +kernel)
  obtain ⟨t, he, -, hr⟩ := h rfl (by decide +kernel) (by decide +kernel) (by decide +kernel)
  obtain ⟨t', he', -, hr'⟩ := succeeds_of_serve (i := .radLockLlt lockCommand) rfl lockCommand_arrives lockLlt_refused
    (Formed.arrived refusingDevice_mailbox).lockedTable.onMem
  rw [Host.Outcome.next.inj (he.symm.trans he')] at hr
  have hsame := congrArg Mem.lltRefused (hr.mem.symm.trans hr'.mem)
  rw [onMem_mem, ← lockedTable, lockedTable_mem, arrived_mem] at hsame
  exact absurd hsame (by decide)

end Sys2Proof.Machine
end

section
/-! PROOF. The commands of BSSs and stations (chapter 5). -/
namespace Sys2Proof.Machine
set_option Elab.async false

/-! ### What leaves the mailbox as it is -/

theorem dropMpdu_mbox (h status : Nat) (s : State) (m : Mpdu) : (dropMpdu h status s m).mbox = s.mbox := by
  unfold dropMpdu endMpdu injectFate
  cases m.inject <;> rfl

theorem dropMpdus_mbox (h : Nat) (pick : Mpdu → Bool) (status : Nat) (s : State) :
    (dropMpdus h pick status s).2.mbox = s.mbox := by
  have hfold : ∀ (l : List Mpdu) (t : State), (l.foldl (dropMpdu h status) t).mbox = t.mbox := fun l t => by
    induction l generalizing t with
    | nil => rfl
    | cons m l ih => exact (ih _).trans (dropMpdu_mbox h status t m)
  unfold dropMpdus
  split
  · rfl
  · exact hfold _ s

theorem drawGroup_mbox (h : Nat) (x : Bss) (rand : Bytes) (s : State) : (drawGroup h x rand s).mbox = s.mbox := by
  have hfold : ∀ (l : List (Nat × Bytes)) (t : State), (l.foldl (fun t e => writeSlotKey e.1 e.2 t) t).mbox = t.mbox := fun l t => by
    induction l generalizing t with
    | nil => rfl
    | cons m l ih => exact (ih _).trans rfl
  unfold drawGroup
  split
  · rfl
  · exact hfold _ s

theorem sendElement_mbox (h : Nat) (s : State) : (sendElement h s).mbox = s.mbox := by
  unfold sendElement coreTo
  split
  · rfl
  · split
    · rfl
    · split <;> rfl

theorem sendElement_modem (h : Nat) (s : State) : (sendElement h s).modem = s.modem := by
  unfold sendElement coreTo
  split
  · rfl
  · split
    · rfl
    · split <;> rfl

theorem ReplyOnly.air {x t : State} (h : ReplyOnly x t) : t.air = x.air := by
  obtain ⟨h, -, -⟩ := h
  rw [h]

theorem ReplyOnly.radio {x t : State} (h : ReplyOnly x t) : t.radio = x.radio := by
  obtain ⟨h, -, -⟩ := h
  rw [h]

theorem Formed.of_mbox {s t : State} (h : Formed s) (hm : t.mbox = s.mbox) : Formed t := h.of_kept (.of_eq hm)

section
variable {c : Nat} {u : Ump} {s : State}

@[simp] theorem createClash_arrived : createClash u (arrived c u s) = createClash u s := by
  simp only [createClash, bssOn, arrived_air]

@[simp] theorem credentialAbsent_arrived : credentialAbsent u (arrived c u s) = credentialAbsent u s := by
  simp only [credentialAbsent, arrived_sec]

@[simp] theorem bssOn_arrived (n : Nat) : bssOn n (arrived c u s) = bssOn n s := by simp only [bssOn, arrived_air]

@[simp] theorem targetLinks_arrived (k n : Nat) : targetLinks k n (arrived c u s) = targetLinks k n s := by
  simp only [targetLinks, arrived_air, station_arrived]

@[simp] theorem peerOf_arrived (h : Nat) : peerOf h (arrived c u s) = peerOf h s := by simp only [peerOf, arrived_modem]
end

/-- A peer without an element that is not active stays as it is. -/
theorem settlePeer_silent {h reason : Nat} {s : State} (ha : (peerOf h s).active = false) (he : (peerOf h s).element = none) :
    settlePeer h reason s = s := by
  have hd : agrees (peerOf h s) = false := by simp [agrees, he]
  simp [settlePeer, hd, ha]

/-- The number of MPDUs that a drop answers. -/
theorem dropMpdus_count {h status : Nat} {pick : Mpdu → Bool} {s : State} {x : Station} (hx : station h s = some x) :
    (dropMpdus h pick status s).1 = (x.queue.filter pick).length := by
  simp [dropMpdus, hx]

/-! ### What follows the ST_PENDING of a removal -/

theorem drain_onMac {n : Nat} {f : SliceMac → SliceMac} {s : State} (h : s.mbox.cmdQueue = []) :
    drain (onMac n f s).mbox.cmdQueue (onMac n f s) = onMac n f s := by
  have h' : (onMac n f s).mbox.cmdQueue = [] := h
  rw [h', drain_nil h']

section
variable {u : Ump} {y : State}

theorem bssDeleting_frames {x : Bss} (hx : bss (u.b8 0) y = some x) (hb : bit (u.b8 1) 0 = true)
    (hl : lastLink (u.b8 0) x.slice y ≠ []) (hu : sliceUsable x.slice y = true) : bssDeleting u y =
      onMac x.slice (fun m => { m with mgmt := m.mgmt ++ (lastLink (u.b8 0) x.slice y).map fun h => deleteFrame h y }) y := by
  simp [bssDeleting, hx, hb, hl, hu]

theorem bssDeleting_none {x : Bss} (hx : bss (u.b8 0) y = some x) (hb : bit (u.b8 1) 0 = false) :
    bssDeleting u y = finishDelete (u.b8 0) y := by
  simp [bssDeleting, hx, hb]

theorem disconnectStart_frame {x : Station} {n : Nat} (hx : station (u.b16 0) y = some x) (h2 : u.b8 4 ≠ 2)
    (hu : usableLink x y = some n) :
    disconnectStart u y = queueMgmt n ⟨u.b16 0, x.addr, 1, 8 + u.b8 4, .leave (u.b16 2), 0, false⟩ y := by
  simp [disconnectStart, hx, h2, hu]

theorem disconnectStart_none {x : Station} (hx : station (u.b16 0) y = some x) (h2 : u.b8 4 = 2) :
    disconnectStart u y = settleDeletes (endDisconnect (u.b16 0) 7 (removeStation (u.b16 0) 0 (u.b16 2) y)) := by
  simp [disconnectStart, hx, h2]
end

/-- Settles O33: the checks of each manager pass one by one; a removal goes on behind its answer, on the same stations and slices. -/
theorem stationCommandsAnswer : Obligations.StationCommandsAnswer := by
  refine ⟨fun u s hm => ⟨fun ha hc h hl hn hp hb hcl h16 hf hcr ht hw => ?_, fun ha hc hl hx hb => ?_, fun ha hc x hl hx => ?_,
      fun ha hc x hl hx h2 => ?_, fun ha hc hl h2 h0 => ?_, fun ha hl => ⟨fun hc h0 hx => ⟨fun h4 => ?_, fun hgood => ?_⟩, fun hc h0 h2 hgood => ?_⟩,
      fun ha hc hl hk => ⟨fun h2 => ?_, fun h2 h3 h4 h5 h6 h7 h8 h9 hroom hact hel => ?_, fun h2 hen => ?_⟩⟩,
    fun u s hm => ⟨fun ha hc x hl hx h1 => ?_, fun ha hc x hl hx h4 => ?_⟩⟩
  · have hg := hc.arrived ha
    refine succeeds_of_serve rfl ha ?_ (Formed.of_mbox (Formed.with (.arrived hm)) (drawGroup_mbox ..)).onMem
    simp [bssCreate, hg, Nat.not_lt.mpr hl, show ¬2 < u.b8 0 by omega, hp, hb, hcl, Nat.not_le.mpr h16, hf, hcr, ht, hw, replyHw, reply]
  · have hg := hc.arrived ha
    refine succeeds_of_serve rfl ha ?_ (Formed.with (.arrived hm))
    simp [bssSetParams, hg, Nat.not_lt.mpr hl, Option.isSome_iff_ne_none.mp hx, hb]
  · have hg := hc.arrived ha
    refine succeeds_of_serve rfl ha ?_ (.arrived hm)
    simp [staGet, hg, Nat.not_lt.mpr hl, hx]
  · have hg := hc.arrived ha
    refine succeeds_of_serve rfl ha ?_ ((Formed.arrived hm).of_mbox (dropMpdus_mbox ..))
    rw [← dropMpdus_count (h := u.b16 0) (status := 4) (s := arrived 0x0306 u s) ((station_arrived ..).trans hx)]
    simp [staFlush, hg, Nat.not_lt.mpr hl, hx, h2]
  · have hg := hc.arrived ha
    refine succeeds_of_serve rfl ha ?_ (.arrived hm)
    simp [staList, hg, Nat.not_lt.mpr hl, h0, Nat.not_lt.mpr h2]
  · have hg := hc.arrived ha
    refine succeeds_of_serve rfl ha ?_ (Formed.with (.arrived hm))
    simp [mloSetPolicy, hg, Nat.not_lt.mpr hl, h0, h4, Option.isSome_iff_ne_none.mp hx]
  · obtain ⟨h4, h5, ht, h6, htid⟩ := hgood
    have hg := hc.arrived ha
    refine succeeds_of_serve rfl ha ?_ (Formed.with (.arrived hm))
    rw [h0] at ht
    have h255 : u.b8 4 ≠ 255 := by omega
    have hspill : ¬(u.b8 4 = 2 ∧ (u.b16 6 < 100 ∨ 10000 < u.b16 6)) := by omega
    have hlinks : ¬∃ t < 8, ¬u.b8 (8 + t) ||| u.b8 5 = u.b8 5 := by simpa using htid
    simp [mloSetPolicy, hg, Nat.not_lt.mpr hl, h0, Nat.not_lt.mpr h4, Nat.not_lt.mpr h5, Option.isSome_iff_ne_none.mp hx, h255, ht, hspill, hlinks]
  · obtain ⟨h4, h5, ht, h6, htid⟩ := hgood
    have hg := hc.arrived ha
    refine succeeds_of_serve rfl ha ?_ (Formed.with (.arrived hm))
    rw [h0] at ht
    have hspill : ¬(u.b8 4 = 2 ∧ (u.b16 6 < 100 ∨ 10000 < u.b16 6)) := by omega
    have hlinks : ¬∃ t < 8, ¬u.b8 (8 + t) ||| u.b8 5 = u.b8 5 := by simpa using htid
    simp [mloSetPolicy, hg, Nat.not_lt.mpr hl, h0, Nat.not_lt.mpr h2, Nat.not_lt.mpr h4, Nat.not_lt.mpr h5, ht, hspill, hlinks]
  · have hg := hc.arrived ha
    refine succeeds_of_serve rfl ha ?_ (.arrived hm)
    simp [cumulusSet, hg, Nat.not_lt.mpr hl, h2, hk]
  · have hg := hc.arrived ha
    have hs : settlePeer (u.b16 0) 0 (sendElement (u.b16 0) (onPeer (u.b16 0) (fun p =>
        { p with enabled := true, links := u.b8 3 % 8, slots := u.b16 4, lifetime := u.b8 6, combines := u.b8 7 }) (arrived 0x0308 u s))) =
        sendElement (u.b16 0) (onPeer (u.b16 0) (fun p =>
        { p with enabled := true, links := u.b8 3 % 8, slots := u.b16 4, lifetime := u.b8 6, combines := u.b8 7 }) (arrived 0x0308 u s)) := by
      apply settlePeer_silent
      · rw [peerOf, sendElement_modem]
        simp [onPeer, hact]
      · rw [peerOf, sendElement_modem]
        simp [onPeer, hel]
    refine succeeds_of_serve rfl ha ?_ (Formed.of_mbox (Formed.with (.arrived hm)) (sendElement_mbox ..))
    have hfull : ¬((peerOf (u.b16 0) s).enabled = false ∧ 8 ≤ (s.modem.peers.filter fun e => e.2.enabled).length) := by
      rintro ⟨he, hn⟩
      rcases hroom with hr | hr
      · exact Bool.false_ne_true (he.symm.trans hr)
      · omega
    simp [cumulusSet, hg, Nat.not_lt.mpr hl, h2, hk, h3, Nat.not_lt.mpr h4, Nat.not_lt.mpr h5, Nat.pos_iff_ne_zero.mp h6, Nat.not_lt.mpr h7, Nat.not_lt.mpr h8, Nat.not_lt.mpr h9, hfull, hs]
  · have hg := hc.arrived ha
    refine succeeds_of_serve rfl ha ?_ (.arrived hm)
    simp [cumulusSet, hg, Nat.not_lt.mpr hl, h2, hk, hen]
  · have hg := hc.arrived ha
    have hlink : ¬(x.transmitted = true ∧ 1 < (bssOn x.slice s).length) := fun ⟨ht, hlt⟩ => absurd (h1 ht) (Nat.not_le.mpr hlt)
    obtain ⟨y, hy, ro, he⟩ := pends_then (i := .bssDelete u) (after := bssDeleting u) (x := onBss (u.b8 0) (fun b => { b with deleting := some none })
      (arrived 0x0302 u s)) (locks := [.bss (u.b8 0)]) rfl ha (by simp [bssDelete, hg, Nat.not_lt.mpr hl, hx, pending, hlink]) (Formed.with (.arrived hm))
    have hair : y.air = (onBss (u.b8 0) (fun b => { b with deleting := some none }) (arrived 0x0302 u s)).air := ro.air
    have hst : y.air.stations = s.air.stations := (congrArg Air.stations hair).trans (by rw [← arrived_air 0x0302 u s]; rfl)
    have hby : bss (u.b8 0) y = some { x with deleting := some none } := by
      rw [bss, hair, ← bss, bss_onBss, bss_arrived, hx]; rfl
    have hlast : lastLink (u.b8 0) x.slice y = lastLink (u.b8 0) x.slice s := by simp only [lastLink, stationsOf, station, hst]
    have hus : sliceUsable x.slice y = sliceUsable x.slice s := by
      simp only [sliceUsable, slice, ro.radio.trans (arrived_radio 0x0302 u s)]
    refine ⟨y, hy, ro, fun hb hne hu => ?_, fun hb => ?_⟩
    · rw [he, bssDeleting_frames hby hb (by rwa [hlast]) (by rwa [hus]), hlast, drain_onMac ro.cmdQueue]
      rfl
    · rw [he, bssDeleting_none hby hb]
  · have hg := hc.arrived ha
    obtain ⟨y, hy, ro, he⟩ := pends_then (i := .staDisconnect u) (after := disconnectStart u) (x := onStation (u.b16 0) (fun z =>
        { z with state := 4, leaving := some (u.b16 2, u.b8 4, z.state) }) (arrived 0x0305 u s)) (locks := [.station (u.b16 0)]) rfl ha
      (by simp [staDisconnect, hg, Nat.not_lt.mpr hl, hx, Nat.not_lt.mpr h4, pending]) (Formed.with (.arrived hm))
    have hair : y.air = (onStation (u.b16 0) (fun z => { z with state := 4, leaving := some (u.b16 2, u.b8 4, z.state) })
      (arrived 0x0305 u s)).air := ro.air
    have hsy : station (u.b16 0) y = some { x with state := 4, leaving := some (u.b16 2, u.b8 4, x.state) } := by
      rw [station, hair, ← station, station_onStation, station_arrived, hx]; rfl
    refine ⟨y, hy, ro, fun n h2 hn => ?_, fun h2 => ?_⟩
    · have hu : usableLink { x with state := 4, leaving := some (u.b16 2, u.b8 4, x.state) } y = some n := by
        rw [← hn]
        simp only [usableLink, linkUsable, sliceUsable, slice, ro.radio.trans (arrived_radio 0x0305 u s)]
      rw [he, disconnectStart_frame hsy h2 hu, queueMgmt, drain_onMac ro.cmdQueue]
    · rw [he, disconnectStart_none hsy h2]

end Sys2Proof.Machine
end

section
/-! PROOF. The commands of the scheduler, the Crown and the turbo receiver (chapters 3 and 6). -/
namespace Sys2Proof.Machine
set_option Elab.async false

theorem outside_eq_false {v lo hi : Nat} (h : lo ≤ v) (h' : v ≤ hi) : outside v lo hi = false := by
  simp [outside, Nat.not_lt.mpr h, Nat.not_lt.mpr h']

@[simp] theorem twtBad_arrived (c : Nat) (u : Ump) (s : State) : twtBad u (arrived c u s) = twtBad u s := by
  simp only [twtBad, arrived_mls, bss_arrived]

@[simp] theorem cfgKeep_mls (code o n : Nat) (payload : Bytes) (s : State) : (cfgKeep code o n payload s).mls = s.mls := rfl

theorem cfgDelete_mbox (same : CfgRecord → Bool) (code : Nat) (payload : Bytes) (s : State) :
    (cfgDelete same code payload s).mbox = s.mbox := by
  unfold cfgDelete
  split <;> rfl

/-- The settings that SCH_SET_POLICY asks for. -/
def policySettings (u : Ump) (c : SchedSettings) : SchedSettings :=
  { c with
    maxUsers := u.b8 1, flags := u.b8 2 % 32, uplink := u.b8 3, sounding := u.b16 4, poll := u.b16 6
    weights := ⟨u.b8 8, u.b8 9, u.b8 10⟩, budget := u.b8 11, lateThr := u.b8 12, waitThr := u.b8 13, starvation := u.b8 14 }

/-- The record that SCH_SET_POLICY answers. -/
def policyRecord (op : Nat) (c : SchedSettings) : Bytes :=
  ([op, c.maxUsers, c.flags, c.uplink].map (leBytes 1)).flatten ++ leBytes 2 c.sounding ++ leBytes 2 c.poll
    ++ ((c.weights.toList ++ [c.budget, c.lateThr, c.waitThr, c.starvation, 0]).map (leBytes 1)).flatten

theorem policyRecord_length (op : Nat) (c : SchedSettings) : (policyRecord op c).length = 16 := by
  simp [policyRecord, leBytes_length, Tri.toList]

theorem policyRecord_fields (op : Nat) {c : SchedSettings} (hu : c.maxUsers < 256) (hs : c.sounding < 65536) :
    rd (policyRecord op c) 1 1 = c.maxUsers ∧ rd (policyRecord op c) 4 2 = c.sounding := by
  simp only [policyRecord, List.map_cons, List.map_nil, List.flatten_cons, List.append_assoc]
  constructor
  · rw [rd_field 1 _ _ (leBytes_length 1 _), Nat.mod_eq_of_lt (show c.maxUsers < 2 ^ (8 * 1) from hu)]
  · rw [← List.append_assoc, ← List.append_assoc, ← List.append_assoc, ← List.append_assoc, rd_field 2 _ _ ?_, Nat.mod_eq_of_lt (show c.sounding < 2 ^ (8 * 2) from hs)]
    simp [leBytes_length]

/-- Settles O34: the checks of each manager pass one by one. -/
theorem schedulerCommandsAnswer : Obligations.SchedulerCommandsAnswer := by
  intro u s hm
  refine ⟨fun ha hc hl => ⟨fun h => ?_, fun h h1 h2 h3 h4 h5 h6 h7 => ?_⟩,
    fun ha hc hl h h1 h3 h4 h4' h6 h6' hw h11 h11' h12 h12' h13 h13' h14 h14' => ?_,
    fun ha hc hl h h1 h1' h2 h2' => ?_,
    fun ha hc hl => ⟨fun h hh hp hst => ⟨fun hroom => ?_, fun hfull => ?_⟩, fun h hh => ?_, fun h => ?_⟩,
    fun ha hc => ?_,
    fun ha hc hl hb hk h3 h3' => ⟨fun h hroom hbad => ?_, fun h hold => ?_, fun e h hold => ?_⟩,
    fun ha hc hl h h1 h1' h2 h2' h3 h3' h4 => ?_⟩ <;> have hg := hc.arrived ha
  · refine succeeds_of_serve rfl ha ?_ (.arrived hm)
    simp [schSetWindow, shortOp_of_le, hg, Nat.not_lt.mpr hl, h]
  · refine succeeds_of_serve rfl ha ?_ (Formed.with (.arrived hm))
    simp [schSetWindow, shortOp_of_le, hg, Nat.not_lt.mpr hl, h, Nat.not_lt.mpr h1, Nat.not_lt.mpr h2, h3, Nat.not_lt.mpr h4, Nat.not_lt.mpr h5, h6, Nat.not_lt.mpr h7]
  · have hw8 := outside_eq_false (hw 8 (by decide) (by decide)).1 (hw 8 (by decide) (by decide)).2
    have hw9 := outside_eq_false (hw 9 (by decide) (by decide)).1 (hw 9 (by decide) (by decide)).2
    have hw10 := outside_eq_false (hw 10 (by decide) (by decide)).1 (hw 10 (by decide) (by decide)).2
    refine ⟨policyRecord 1 (policySettings u s.mls.settings), succeeds_of_serve rfl ha ?_ (Formed.with (.arrived hm)), policyRecord_length ..,
      policyRecord_fields 1 (c := policySettings u s.mls.settings) (show u.b8 1 < 256 by omega) (show u.b16 4 < 65536 by omega)⟩
    simp [schSetPolicy, shortOp_of_le, hg, Nat.not_lt.mpr hl, h, outside_eq_false (Nat.zero_le _) h1, outside_eq_false (Nat.zero_le _) h3,
      outside_eq_false h4 h4', outside_eq_false h6 h6', hw8, hw9, hw10, outside_eq_false h11 h11', outside_eq_false h12 h12',
      outside_eq_false h13 h13', outside_eq_false h14 h14', policyRecord, policySettings]
  · refine succeeds_of_serve rfl ha ?_ (Formed.with (.arrived hm))
    simp [crnSetReserve, shortOp_of_le, hg, Nat.not_lt.mpr hl, h, outside_eq_false h1 h1', outside_eq_false h2 h2']
  · refine succeeds_of_serve rfl ha ?_ (Formed.with (.arrived hm))
    simp [crnPin, shortOp_of_le, hg, Nat.not_lt.mpr hl, h, Nat.not_lt.mpr hh, hp, hst, Nat.not_le.mpr hroom]
  · refine fails_of_serve (by decide) hm rfl ha ?_
    simp [crnPin, shortOp_of_le, hg, Nat.not_lt.mpr hl, h, Nat.not_lt.mpr hh, hp, hst, hfull]
  · refine succeeds_of_serve rfl ha ?_ (Formed.with (.arrived hm))
    simp [crnPin, shortOp_of_le, hg, Nat.not_lt.mpr hl, h, Nat.not_lt.mpr hh]
  · refine succeeds_of_serve rfl ha ?_ (.arrived hm)
    have hsame : onMls (fun m => { m with settings := { m.settings with pins := s.mls.settings.pins } }) (arrived 0x0404 u s) =
        arrived 0x0404 u s := by rw [← arrived_mls 0x0404 u s]; rfl
    simp [crnPin, shortOp_of_le, hg, Nat.not_lt.mpr hl, h, hsame]
  · refine succeeds_of_serve rfl ha ?_ (Formed.with (.arrived hm))
    simp [crnGetStats, hg]
  · refine succeeds_of_serve rfl ha ?_ (Formed.with (.arrived hm)).raise
    simp [twtSet, shortOp_of_le, hg, Nat.not_lt.mpr hl, h, Option.isSome_iff_ne_none.mp hb, Nat.not_lt.mpr hk, outside_eq_false h3 h3', hbad]
    intro hnone hfull
    rcases hroom with hold | hroom
    · exact absurd (List.find?_eq_none.mpr fun e he => by simp [hnone e he]) hold
    · exact absurd hroom (Nat.not_lt.mpr hfull)
  · refine succeeds_of_serve rfl ha ?_ (((Formed.arrived hm).with).of_mbox (cfgDelete_mbox ..)).raise
    simp [twtSet, shortOp_of_le, hg, Nat.not_lt.mpr hl, h, Option.isSome_iff_ne_none.mp hb, Nat.not_lt.mpr hk, outside_eq_false h3 h3', hold]
  · refine succeeds_of_serve rfl ha ?_ (.arrived hm)
    simp [twtSet, shortOp_of_le, hg, Nat.not_lt.mpr hl, h, Option.isSome_iff_ne_none.mp hb, Nat.not_lt.mpr hk, outside_eq_false h3 h3', hold]
  · refine succeeds_of_serve rfl ha ?_ (Formed.with (.arrived hm))
    simp [schSetTurbo, shortOp_of_le, hg, Nat.not_lt.mpr hl, h, Nat.pos_iff_ne_zero.mp h1, Nat.not_lt.mpr h1', Nat.pos_iff_ne_zero.mp h2, Nat.not_lt.mpr h2',
      Nat.pos_iff_ne_zero.mp h3, Nat.not_lt.mpr h3', Nat.not_lt.mpr h4]

end Sys2Proof.Machine
end

section
/-! PROOF. The commands of the Hatbox (chapter 12). -/
namespace Sys2Proof.Machine
set_option Elab.async false

/-! ### Sealed blobs -/

section
variable {kinds : List Nat} {b : Bytes} {c : Nat} {u : Ump} {s : State}

/-- A blob whose clear header is well formed passes the checks of step 11 (R304). -/
theorem judge_blobChecks {r : List (Bool × Nat)} {x : State} {k : Unit → Reply} (hm : rd b 0 4 = 0x314C4553) (hk : rd b 5 1 ∈ kinds)
    (h1 : 1 ≤ rd b 12 2) (h2 : rd b 12 2 ≤ 256) (hl : b.length = 96 + rd b 12 2) (hr : bodyRange (rd b 5 1) (rd b 12 2) = true) :
    judge (blobChecks kinds b ++ r) x k = judge r x k := by
  simp [blobChecks, hm, hk, Nat.pos_iff_ne_zero.mp h1, Nat.not_lt.mpr h2, hl, hr]

theorem labelsFull_arrived (h : Tab.look s.sec.serials (blobKey b) = none → s.sec.serials.length < 1024) :
    labelsFull b (arrived c u s) = (false, ST.noResource) := by
  have hn : ¬(Tab.look s.sec.serials (blobKey b) = none ∧ 1024 ≤ s.sec.serials.length) := fun ⟨hx, hy⟩ => absurd (h hx) (Nat.not_lt.mpr hy)
  simpa [labelsFull] using hn

theorem blobStale_arrived (hv : rd b 4 1 = 1) (hs : Tab.getD s.sec.serials (blobKey b) 0 ≤ blobSerial b) :
    blobStale b (arrived c u s) = (false, ST.versionMismatch) := by
  simp [blobStale, hv, Nat.not_lt.mpr hs]

@[simp] theorem keysRefused_arrived : keysRefused (arrived c u s) = s.sec.restricted := by simp only [keysRefused, arrived_sec]

@[simp] theorem credentialOf_arrived (k : Nat) : credentialOf k (arrived c u s) = credentialOf k s := by
  simp only [credentialOf, arrived_sec]

@[simp] theorem credentialUses_arrived (h : Nat) : credentialUses h (arrived c u s) = credentialUses h s := by
  simp only [credentialUses, arrived_air]

@[simp] theorem keyHeld_arrived (h : Nat) : keyHeld h (arrived c u s) = keyHeld h s := by simp only [keyHeld, arrived_sec]

@[simp] theorem radiusArgsBad_arrived (d : Bytes) : radiusArgsBad d (arrived c u s) = radiusArgsBad d s := by
  simp only [radiusArgsBad, isInterface, arrived_wire]
end

/-- No handle is all ones. -/
theorem ne_ffff_of_keyHandleOk {h : Nat} (hk : keyHandleOk h = true) : h ≠ 0xFFFF := by
  rintro rfl
  exact absurd hk (by decide)

/-- A command whose blob is a key has its 116 bytes at least. -/
theorem length_of_key_blob {d : Bytes} (hk : rd (d.drop 4) 5 1 ∈ [4]) (hl : (d.drop 4).length = 96 + rd (d.drop 4) 12 2)
    (hr : bodyRange (rd (d.drop 4) 5 1) (rd (d.drop 4) 12 2) = true) : 116 ≤ d.length := by
  rw [List.mem_singleton.mp hk] at hr
  have hn : rd (d.drop 4) 12 2 = 16 ∨ rd (d.drop 4) 12 2 = 32 := by simpa [bodyRange] using hr
  rw [List.length_drop] at hl
  omega

/-! ### The attestation record -/

theorem length_fit (n : Nat) (b : Bytes) : (fit n b).length = n := by
  simp [fit]
  omega

theorem fit_of_length {n : Nat} {b : Bytes} (h : b.length = n) : fit n b = b := by
  subst h
  simp [fit]

theorem field_append {p b q : Bytes} {o n : Nat} (hp : p.length = o) (hb : b.length = n) : field (p ++ (b ++ q)) o n = b := by
  subst hp hb
  simp [field]

theorem attestation_fields {u : Ump} {s : State} (q : Bytes) (hl : 36 ≤ u.data.length) :
    field (attestation u s ++ q) 0 8 = fit 8 s.sec.serial ∧ rd (attestation u s ++ q) 12 1 = lifecycleCode s.sec.lifecycle ∧
      field (attestation u s ++ q) 68 32 = fit 32 (field u.data 4 32) := by
  have hf : (field u.data 4 32).length = 32 := by
    simp [field]
    omega
  refine ⟨?_, ?_, ?_⟩
  · simp only [attestation, List.append_assoc]
    exact field_append (p := []) rfl (length_fit ..)
  · have hc : lifecycleCode s.sec.lifecycle < 2 ^ (8 * 1) := by cases s.sec.lifecycle <;> decide
    simp only [attestation, List.append_assoc]
    rw [← List.append_assoc (fit 8 _), rd_field 1 _ _ (by simp [length_fit, leBytes_length]), Nat.mod_eq_of_lt hc]
  · rw [fit_of_length hf, attestation, List.append_assoc]
    exact field_append (by simp [length_fit, leBytes_length]) hf

/-! ### The commands -/

/-- Settles O35: the checks of each manager pass one by one. -/
theorem hatboxCommandsAnswer : Obligations.HatboxCommandsAnswer := by
  intro u s hm
  refine ⟨fun ha hc => ⟨fun h hl => ?_, fun h hl ht => ?_, fun h hl hr => ?_⟩, fun ha h hgood hr hc hroom => ?_,
    fun ha hl hx => ⟨fun h huse hc => ?_, fun h hc => ?_⟩, fun ha h hn hl hgood hr hargs hc => ?_,
    fun ha hn hl hx => ⟨fun h huse hc => ?_, fun h hc => ?_⟩,
    fun ha hgood hr => ⟨fun hslot h2 hlen' hheld hc => ?_, fun hv h2 hheld hc => ?_⟩,
    fun ha hl => ⟨fun hv h2 hc => ?_, fun hk h0 h2 hc => ⟨fun hh => ?_, fun hh => ?_⟩⟩,
    fun ha hc hw key hkey hk hr hdir hmode ha0 ha4 hnonce htag haad hn1 hn2 hlen => ?_⟩ <;> have hg := hc.arrived ha
  · refine succeeds_of_serve rfl ha ?_ (.arrived hm)
    simp [getIdentity, shortOp_of_le, hg, Nat.not_lt.mpr hl, h]
  · obtain ⟨h1, h2, h3⟩ := attestation_fields (s := arrived 0x0501 u s) (fit 96 (u.env.plain.drop 48)) hl
    rw [arrived_sec] at h1 h2
    refine ⟨_, succeeds_of_serve rfl ha ?_ (.arrived hm), h1, h2, h3⟩
    simp [getIdentity, shortOp_of_le, hg, Nat.not_lt.mpr hl, h, ht]
  · refine succeeds_of_serve rfl ha ?_ (.arrived hm)
    simp [getIdentity, shortOp_of_le, hg, Nat.not_lt.mpr hl, h, hr]
  · obtain ⟨hmg, hk, hn1, hn2, hlen, hr', hf, hs, hlab⟩ := hgood
    have hl : ¬u.data.length < 100 := by rw [List.length_drop] at hlen; omega
    refine pends_of_serve rfl ha ?_ (.arrived hm)
    have hcred : ¬(credentialOf (blobKey (u.data.drop 4)) s = none ∧ 256 ≤ s.sec.credentials.length) :=
      fun ⟨hx, hy⟩ => absurd (hroom hx) (Nat.not_lt.mpr hy)
    simp [loadSealed, shortOp_of_le, h, hl, hr, judge_blobChecks hmg hk hn1 hn2 hlen hr', hg, labelsFull_arrived hlab,
      blobStale_arrived hf hs, hcred, pending]
  · refine pends_of_serve rfl ha ?_ (.arrived hm)
    simp [loadSealed, shortOp_of_le, h, Nat.not_lt.mpr hl, hg, Option.isSome_iff_ne_none.mp hx, huse, pending]
  · refine pends_of_serve rfl ha ?_ (.arrived hm)
    simp [loadSealed, shortOp_of_le, h, Nat.not_lt.mpr hl, hg, Option.isSome_iff_ne_none.mp hx, pending]
  · obtain ⟨hmg, hk, hn1, hn2, hlen, hr', hf, hs, hlab⟩ := hgood
    refine pends_of_serve rfl ha ?_ (.arrived hm)
    simp [setRadius, shortOp_of_le, h, Nat.not_lt.mpr hl, Nat.not_lt.mpr hn, hr, hargs, judge_blobChecks hmg hk hn1 hn2 hlen hr', hg, labelsFull_arrived hlab,
      blobStale_arrived hf hs, pending]
  · refine pends_of_serve rfl ha ?_ (.arrived hm)
    simp [setRadius, shortOp_of_le, h, Nat.not_lt.mpr hl, Nat.not_lt.mpr hn, hg, Option.isSome_iff_ne_none.mp hx, huse, pending]
  · refine pends_of_serve rfl ha ?_ (.arrived hm)
    simp [setRadius, shortOp_of_le, h, Nat.not_lt.mpr hl, Nat.not_lt.mpr hn, hg, Option.isSome_iff_ne_none.mp hx, pending]
  · obtain ⟨hmg, hk, hn1, hn2, hlen, hr', hf, hs, hlab⟩ := hgood
    have hl := length_of_key_blob hk hlen hr'
    have hne : u.b16 0 ≠ 0xFFFF := ne_ffff_of_keyHandleOk (Bool.and_eq_true_iff.mp hslot).1
    have hheld' : ¬(keyHeld (u.b16 0) s = true ∧ bit (u.b8 3) 0 = false) := fun ⟨hx, hy⟩ => Bool.false_ne_true (hy.symm.trans (hheld hx))
    refine pends_of_serve rfl ha ?_ (.arrived hm)
    simp [keyImport, Nat.not_lt.mpr hl, hne, h2, hslot, hr, judge_blobChecks hmg hk hn1 hn2 hlen hr', hlen', hg, labelsFull_arrived hlab,
      blobStale_arrived hf hs, hheld', pending]
  · obtain ⟨hmg, hk, hn1, hn2, hlen, hr', hf, hs, hlab⟩ := hgood
    have hl := length_of_key_blob hk hlen hr'
    have hheld' : ¬((Tab.look s.sec.vaultKeys (u.b8 2)).isSome = true ∧ bit (u.b8 3) 0 = false) :=
      fun ⟨hx, hy⟩ => Bool.false_ne_true (hy.symm.trans (hheld hx))
    refine pends_of_serve rfl ha ?_ (.arrived hm)
    simp [keyImport, Nat.not_lt.mpr hl, hv, Nat.not_lt.mpr h2, show u.b8 2 ≠ 255 by omega, hr, judge_blobChecks hmg hk hn1 hn2 hlen hr', hg,
      labelsFull_arrived hlab, blobStale_arrived hf hs, hheld', pending]
  · refine succeeds_of_serve rfl ha ?_ (Formed.with (.arrived hm))
    simp [keyErase, hg, Nat.not_lt.mpr hl, hv, Nat.not_lt.mpr h2, show u.b8 2 ≠ 255 by omega]
  · have hne := ne_ffff_of_keyHandleOk hk
    refine succeeds_of_serve rfl ha ?_ (Formed.with (.arrived hm))
    simp [keyErase, hg, Nat.not_lt.mpr hl, h2, hne, hk, h0, hh, b2n]
  · have hne := ne_ffff_of_keyHandleOk hk
    refine succeeds_of_serve rfl ha ?_ (Formed.with (.arrived hm))
    simp [keyErase, hg, Nat.not_lt.mpr hl, h2, hne, hk, h0, hh, b2n]
  · refine succeeds_of_serve rfl ha ?_ (Formed.with (.arrived hm))
    simp [cipherJob, hg, Nat.not_lt.mpr hk, hr, Nat.not_lt.mpr hdir, hmode, ha0, badHost, ha4, nonceOk, tagOk, dataOk, hnonce, htag, haad, hn1, hn2, hlen, hkey,
      Tab.getD, dmaReply, hw, reply, length_fit, Nat.not_lt.mpr (Nat.le_add_right 40 (rd u.data 8 4))]

end Sys2Proof.Machine
end

section
/-! PROOF. Challenges, lifecycle tokens and debug (chapter 12). -/
namespace Sys2Proof.Machine
set_option Elab.async false

section
variable {u : Ump} {t : Bytes} {ps : List Nat} {s : State} {k : State → Reply}

@[simp] theorem carriesChallenge_arrived (c : Nat) : carriesChallenge t (arrived c u s) = carriesChallenge t s := by
  simp only [carriesChallenge, arrived_sec, runTime_arrived]

/-- A token that does not carry the challenge consumes none. -/
theorem present_of_absent {r : List (Bool × Nat)} (h : carriesChallenge t s = false) : present u t ps r s k = refuse ST.notAuthorised s := by
  simp [present, h]

/-- A token whose signature fails has consumed the challenge. -/
theorem present_of_bad_signature {c : Nat} {a : Bool} {l : List Obj} {x : State} (h : carriesChallenge t s = true) (hb : tokenBad ps t = false)
    (hs : u.env.sig = false) (hg : Clear c a l x) :
    present u t ps (gate c a l x) s k = refuse ST.signatureFail (consumeChallenge s) := by
  simp [present, h, hb, hs, hg]
end

@[simp] theorem commandFault_ok (n k c : Nat) (p : Bytes) (f : Bool) (s : State) : commandFault .ok n k c p f s = s := rfl

theorem programLifecycle_mbox (p : Nat) (t : Bytes) (s : State) : (programLifecycle p t s).mbox = s.mbox := by
  unfold programLifecycle
  split <;> rfl

theorem endDebug_closed {cause : Nat} {s : State} (h : s.sec.debugScope = 0) : endDebug cause s = s := by
  simp [endDebug, h]

theorem endDebug_open {cause : Nat} {s : State} (h : s.sec.debugScope ≠ 0) (hl : s.sec.lifecycle = .provisioned ∨ s.sec.lifecycle = .deployed) :
    endDebug cause s = raise 0x0502 (debugPayload 0 s.sec.debugScope cause s.sec.debugMinutes) (onSec (fun c => { c with debugScope := 0 }) s) := by
  rcases hl with hl | hl <;> simp [endDebug, h, hl]

/-- Settles O36: a token's checks pass or fail one by one. -/
theorem tokensAndDebug : Obligations.TokensAndDebug := by
  intro u s hm hw
  refine ⟨fun ha hc => ⟨fun h hl ht => ?_, fun h hl h1 h3 hp hp' => ⟨fun ht => ?_, fun ht => ?_, fun ht hb hsig => ?_⟩⟩,
    fun ha hc hlc => ⟨fun h hl ht hj hd => ?_, fun h hl hd => ?_, fun h hl => ?_⟩⟩ <;> have hg := hc.arrived ha
  · refine succeeds_of_serve rfl ha ?_ (Formed.with (.arrived hm))
    simp [authChallenge, shortOp_of_le, hg, Nat.not_lt.mpr hl, h, ht, hw, replyHw, reply, runTime_arrived]
  · refine succeeds_of_serve rfl ha ?_ (Formed.of_mbox (Formed.with (.arrived hm)) (programLifecycle_mbox ..))
    simp [authChallenge, shortOp_of_le, Nat.not_lt.mpr hl, h, hp, hp', present_of_holds ht.arrived hg, hw, replyHw, reply]
  · refine fails_of_serve (by decide) hm rfl ha ?_
    simp [authChallenge, shortOp_of_le, Nat.not_lt.mpr hl, h, hp, hp', present_of_absent, ht]
  · refine answers_of_ne_ok (st := ST.signatureFail) (by decide) rfl ha ?_ (Formed.with (.arrived hm))
    simp [authChallenge, shortOp_of_le, Nat.not_lt.mpr hl, h, hp, hp', present_of_bad_signature, ht, hb, hsig, hg]
    rfl
  · have hn : ¬(s.sec.lifecycle = .blank ∨ s.sec.lifecycle = .rma) := by rcases hlc with hlc | hlc <;> simp [hlc]
    refine succeeds_of_serve rfl ha ?_ (Formed.with (.arrived hm)).raise
    simp [debugUnlock, shortOp_of_le, Nat.not_lt.mpr hl, h, hn, present_of_holds ht.arrived hg, hj, endDebug_closed (s := consumeChallenge (arrived 0x0508 u s))
      ((congrArg Sec.debugScope (arrived_sec ..)).trans hd), runTime_arrived]
  · refine succeeds_of_serve rfl ha ?_ (Formed.with (.arrived hm)).raise
    have hn : ¬(s.sec.lifecycle = .blank ∨ s.sec.lifecycle = .rma) := by rcases hlc with hlc | hlc <;> simp [hlc]
    simp [debugUnlock, shortOp_of_le, Nat.not_lt.mpr hl, h, hg, hn, endDebug_open (s := arrived 0x0508 u s) (cause := 0)
      (by rw [arrived_sec]; exact hd) (by rw [arrived_sec]; exact hlc)]
  · refine succeeds_of_serve rfl ha ?_ (.arrived hm)
    simp [debugUnlock, shortOp_of_le, Nat.not_lt.mpr hl, h, hg]

end Sys2Proof.Machine
end

section
/-! PROOF. The rows of handshakes, of the keys of the air and of the Hatbox's jobs (chapters 12 and 19). -/
namespace Sys2Proof.Machine
set_option Elab.async false

/-! ### Handshakes on a usable link -/

section
variable {s : State} {b : Nat} {x : Bss}

theorem handshakesRefused_eq_false (hr : s.sec.restricted = false) (ht : s.sec.trngFailed = false) : handshakesRefused s = false := by
  simp [handshakesRefused, hr, ht]

theorem radiusServer_primary {n : Nat} {p : RadiusProfile} (hp : Tab.look s.sec.radius n = some p) (hd : p.dead.1 = false) :
    radiusServer n s = some false := by
  simp [radiusServer, hp, hd]

variable (hx : bss b s = some x) (hu : sliceUsable x.slice s = true)
include hx hu

theorem saeCommit_of_good {addr group : Nat} {h2e : Bool} (hr : handshakesRefused s = false) (hp : hasPassword x s = true)
    (h6 : sixGhz x.slice s = true → h2e = true) (hg : group = 19 ∨ group = 20) (hw : saeAwaiting s ≤ 16) :
    saeCommit b addr group h2e s = onSec (fun c => { c with
      sae := (c.sae.filter fun e => !(e.addr == addr && e.bss == b)) ++ [⟨addr, b, 0⟩]
      elements := if h2e && !c.elements.contains (x.credential, x.ssid) then c.elements ++ [(x.credential, x.ssid)]
        else c.elements }) s := by
  have h6' : ¬(sixGhz x.slice s = true ∧ h2e = false) := fun ⟨h, h'⟩ => Bool.false_ne_true (h'.symm.trans (h6 h))
  have hg' : ¬(¬group = 19 ∧ ¬group = 20) := by omega
  simp [saeCommit, hx, hu, hr, hp, h6', hg', Nat.not_lt.mpr hw]

theorem saeConfirm_good {addr : Nat} {pmk : Bytes} (he : (s.sec.sae.any fun e => e.addr == addr && e.bss == b && e.step == 1) = true) :
    saeConfirm b addr true pmk s = authFrame x.slice 1 addr 0 (cachePmksa addr (apAddress x) (fit 32 pmk) pmksaLife [] (onSec (fun c =>
      { c with sae := c.sae.map fun e => if e.addr = addr ∧ e.bss = b then { e with step := 2 } else e }) s)) := by
  simp only [saeConfirm, hx, he, hu]
  rfl

theorem saeConfirm_bad {addr : Nat} {pmk : Bytes} (he : (s.sec.sae.any fun e => e.addr == addr && e.bss == b && e.step == 1) = true) :
    saeConfirm b addr false pmk s = handshakeFail b 1 addr
      (onSec (fun c => { c with sae := c.sae.filter fun e => !(e.addr == addr && e.bss == b) }) s) := by
  simp only [saeConfirm, hx, he, hu]
  rfl

theorem saeServed_of_find {addr : Nat} {e : Sae} (he : s.sec.sae.find? (fun e => e.addr == addr && e.step == 0) = some e) (hb : e.bss = b) :
    saeServed addr s = authFrame x.slice 0 addr 0 (onSec (fun c =>
      { c with sae := c.sae.map fun y => if y = e then { y with step := 1 } else y }) s) := by
  subst hb
  have hx' (f : Sec → Sec) : bss e.bss (onSec f s) = some x := hx
  have hu' (f : Sec → Sec) : sliceUsable x.slice (onSec f s) = true := hu
  simp only [saeServed, he, hx', hu', if_true]

end

section
variable {s : State} {h : Nat} {y : Station} (hy : station h s = some y)
include hy

theorem eapolReceive_message2 {key : Bytes} (h4 : y.state ≠ 4) (hr : handshakesRefused s = false) (hf : y.fourWay = some (1, 1)) (good : Bool) :
    eapolReceive h 2 good key s = if good then eapol h 3 (onStation h (fun x => { x with fourWay := some (3, 1) }) s)
      else handshakeFail (homeBss y) 2 y.addr s := by
  simp [eapolReceive, hy, h4, hr, hf]

theorem eapolReceive_message4 {key : Bytes} (hr : handshakesRefused s = false) (hf : y.fourWay = some (3, 1)) (h3 : y.state = 3) :
    eapolReceive h 4 true key s = startWrite (nextPtk h y) (some (fit (pairwiseLength y) key)) (onStation h (fun x =>
      { x with fourWay := none, ptk := if x.ptk = 0xFFFF then nextPtk h y else x.ptk }) s) := by
  simp [eapolReceive, hy, hr, hf, endFourWay, h3]

theorem eapolReceive_eap {x : Bss} {p : RadiusProfile} {key : Bytes} (hr : handshakesRefused s = false) (h1 : y.state = 1)
    (hb : bss (homeBss y) s = some x) (hp : Tab.look s.sec.radius x.radius = some p) (hd : p.dead.1 = false) :
    eapolReceive h 0 true key s = emit (.radius x.radius false 0 h) (onSec (fun c =>
      { c with requests := (c.requests.filter fun r => r.station != h) ++ [⟨h, x.radius, false, 0⟩] }) s) := by
  simp [eapolReceive, hy, hr, h1, radiusRequest, hb, radiusServer_primary hp hd]

theorem fourWayRetry_again {m n : Nat} (hf : y.fourWay = some (m, n)) (hn : n < 3) :
    fourWayRetry h s = eapol h m (onStation h (fun x => { x with fourWay := some (m, n + 1) }) s) := by
  simp [fourWayRetry, hy, hf, hn]

theorem radiusResponse_accept {x : Bss} {recv send cls : Bytes} {timeout : Nat} (hr : handshakesRefused s = false)
    (hb : bss (homeBss y) s = some x) (hq : (s.sec.requests.any fun r => r.station == h) = true) :
    radiusResponse h true 1 recv send cls timeout s =
      startFourWay h (radiusPmk x.security recv send)
        (cachePmksa y.addr (apAddress x) (radiusPmk x.security recv send) pmksaLife []
          (onStation h (fun x => { x with timeout := timeout, radiusClass := cls.take 128 })
            (onSec (fun c => { c with requests := c.requests.filter fun r => r.station != h }) s))) := by
  have hy' (f : Sec → Sec) : station h (onSec f s) = some y := hy
  have hb' (f : Sec → Sec) : bss (homeBss y) (onSec f s) = some x := hb
  have hr' : handshakesRefused (onSec (fun c => { c with requests := c.requests.filter fun r => r.station != h }) s) = false := hr
  simp [radiusResponse, hq, hy', hb', hr']

end

theorem radiusResponse_relayed {s : State} {h : Nat} {recv send cls : Bytes} {timeout : Nat}
    (hq : (s.sec.requests.any fun r => r.station == h) = true) : radiusResponse h true 0 recv send cls timeout s =
      eapol h 0 (onSec (fun c => { c with requests := c.requests.filter fun r => r.station != h }) s) := by
  simp only [radiusResponse, hq]
  rfl

theorem radiusTimeout_resent {s : State} {h : Nat} {r : RadiusReq} {p : RadiusProfile}
    (hr : s.sec.requests.find? (fun r => r.station == h) = some r) (hp : Tab.look s.sec.radius r.profile = some p)
    (hn : r.resends < rd p.bytes 3 1) : radiusTimeout h s = emit (.radius r.profile r.secondary 0 h) (onSec (fun c =>
      { c with requests := c.requests.map fun q => if q = r then { q with resends := q.resends + 1 } else q }) s) := by
  simp [radiusTimeout, hr, hp, hn]

theorem ftAuth_of_context {s : State} {b addr : Nat} {x : Bss} {found : Bool} (hx : bss b s = some x) (hu : sliceUsable x.slice s = true)
    (hr : handshakesRefused s = false) : exec (.ftAuthReceive b addr found) s =
      .next (match (if found then stagedFor addr (start s) else none) with
        | some c => authFrame x.slice 4 addr 0 (consumeContext c (apAddress x) (start s))
        | none => authFrame x.slice 4 addr 53 (onFleet (fun f => { f with expired := inc 32 f.expired }) (start s))) := by
  have hx' : bss b (start s) = some x := hx
  have hu' : sliceUsable x.slice (start s) = true := hu
  have hr' : handshakesRefused (start s) = false := hr
  simp only [show exec (.ftAuthReceive b addr found) s = execFtAuthReceive b addr found s from rfl, execFtAuthReceive, hx', hu', hr']
  rfl

/-! ### Keys of the air -/

/-- The writes of a list of slots, begun in order. -/
def startWrites (l : List (Nat × Bytes)) (s : State) : State := l.foldl (fun t e => startWrite e.1 (some e.2) t) s

theorem startWrites_eq (l : List (Nat × Bytes)) (s : State) :
    startWrites l s = { s with sec := { s.sec with writes := (startWrites l s).sec.writes } } := by
  unfold startWrites
  induction l generalizing s with
  | nil => rfl
  | cons e l ih =>
    rw [List.foldl_cons, ih]
    rfl

theorem find_startWrite_ne {h g : Nat} {k : Option Bytes} {s : State} (hg : g ≠ h) :
    (startWrite g k s).sec.writes.find? (fun w => w.handle == h) = s.sec.writes.find? (fun w => w.handle == h) := by
  have hf (w : KeyWrite) : decide ((w.handle != g) = true ∧ (w.handle == h) = true) = (w.handle == h) := by
    by_cases he : w.handle = h
    · simp [he, hg.symm]
    · simp [he]
  simp only [startWrite, onSec, List.find?_append, List.find?_filter, hf]
  simp [hg]

theorem find_startWrite_same {h : Nat} {k : Option Bytes} {s : State} :
    (startWrite h k s).sec.writes.find? (fun w => w.handle == h) = some ⟨h, k⟩ := by
  have hf (w : KeyWrite) : decide ((w.handle != h) = true ∧ (w.handle == h) = true) = false := by simp
  have hn : s.sec.writes.find? (fun _ => false) = none := List.find?_eq_none.mpr (by simp)
  simp only [startWrite, onSec, List.find?_append, List.find?_filter, hf, hn]
  simp

theorem find_startWrites_absent {l : List (Nat × Bytes)} {h : Nat} (hl : h ∉ l.map Prod.fst) (s : State) :
    (startWrites l s).sec.writes.find? (fun w => w.handle == h) = s.sec.writes.find? (fun w => w.handle == h) := by
  induction l generalizing s with
  | nil => rfl
  | cons e l ih =>
    obtain ⟨hne, hl⟩ := not_or.mp (by simpa using hl : ¬(h = e.1 ∨ h ∈ l.map Prod.fst))
    exact (ih hl _).trans (find_startWrite_ne fun he => hne he.symm)

/-- Each slot of a list without repetitions awaits the write of its key. -/
theorem find_startWrites {l : List (Nat × Bytes)} (hn : (l.map Prod.fst).Nodup) {e : Nat × Bytes} (he : e ∈ l) (s : State) :
    (startWrites l s).sec.writes.find? (fun w => w.handle == e.1) = some ⟨e.1, some e.2⟩ := by
  induction l generalizing s with
  | nil => cases he
  | cons d l ih =>
    obtain ⟨hd, hn⟩ := List.nodup_cons.mp (by simpa using hn : (d.1 :: l.map Prod.fst).Nodup)
    rcases List.mem_cons.mp he with rfl | he
    · exact (find_startWrites_absent hd _).trans find_startWrite_same
    · exact ih hn he _

theorem drawKeys_keys (n : Nat) (l : List Nat) (r : Bytes) : (drawKeys n l r).map Prod.fst = l := by
  induction l generalizing r with
  | nil => rfl
  | cons h l ih => simp [drawKeys, ih]

theorem length_of_mem_drawKeys {n : Nat} {l : List Nat} {r : Bytes} {e : Nat × Bytes} (he : e ∈ drawKeys n l r) : e.2.length = n := by
  induction l generalizing r with
  | nil => cases he
  | cons h l ih =>
    rcases List.mem_cons.mp he with rfl | he
    · exact length_fit ..
    · exact ih he

theorem groupSlots_nodup (b j : Nat) (beacon : Bool) : (groupSlots b j beacon).Nodup := by
  unfold groupSlots
  cases beacon <;> simp

/-- The pair of slots of a BSS that its group key in use leaves free (R308). -/
def freePair (x : Bss) : Nat := 1 - (x.groupKey - 4096) % 6 % 2

/-- A rekey of a BSS without stations begins the writes of the alternate slots, and waits for no answer. -/
theorem startRekey_alone {b : Nat} {x : Bss} {rand : Bytes} {s : State} (hx : bss b s = some x) (hs : x.security ≠ 0)
    (hr : handshakesRefused s = false) (hl : stationsOf b s = []) :
    startRekey b rand s =
      onBss b (fun y => { y with newGroupKey := some (4096 + 6 * b + freePair x), rekeyWaiting := [], rekeyAt := s.mem.seconds })
        (startWrites (drawKeys (groupKeyLength x.security) (groupSlots b (freePair x) (bit x.flags 4)) rand) s) := by
  have hm (l : List (Nat × Bytes)) : (l.foldl (fun t e => startWrite e.1 (some e.2) t) s).mem = s.mem := by
    rw [show l.foldl (fun t e => startWrite e.1 (some e.2) t) s = startWrites l s from rfl, startWrites_eq]
  simp [startRekey, hx, hs, hr, hl, hm, startWrites, freePair]

/-- A slot outside the air and Drizzle spaces is erased without a frame. -/
theorem eraseSlot_of_le {h : Nat} {s : State} (hh : 8192 * 2 ≤ h) : eraseSlot h s =
    onSec (fun c => { c with keys := Tab.del c.keys h, writes := c.writes.filter fun w => w.handle != h }) s := by
  have hd (t : State) : eraseDrops h t = (0, t) := by
    simp [eraseDrops, show ¬h < 4096 by omega, show ¬h < 4384 by omega, show ¬h / 8192 = 1 by omega]
  simp [eraseSlot, hd, onSec]

/-! ### The ends of jobs -/

theorem rd_drop (p : Bytes) (k o n : Nat) : rd (p.drop k) o n = rd p (k + o) n := by simp [rd, List.drop_drop]

theorem blobBody_drop (p body : Bytes) : blobBody (p.drop 4) body = fit (rd p 16 2) body := by rw [blobBody, rd_drop]

/-- Settles O37: each row takes the branch that its hypotheses select. -/
theorem handshakeAndKeyRows : Obligations.HandshakeAndKeyRows := by
  refine ⟨fun s b x hx hu hr ht => ?_, fun s => ?_⟩
  · have hh : handshakesRefused s = false := handshakesRefused_eq_false hr ht
    refine ⟨fun addr group h2e hp h6 hg hw => ?_, fun addr pmk he => ⟨?_, ?_⟩, fun addr e body hw he hb => ?_, fun addr c hc => ?_,
      fun addr found hc => ?_, fun h y hy h4 => ?_⟩
    · exact congrArg Host.Outcome.next (saeCommit_of_good (s := start s) hx hu hh hp h6 hg hw)
    · exact congrArg Host.Outcome.next (saeConfirm_good (s := start s) hx hu he)
    · exact congrArg Host.Outcome.next (saeConfirm_bad (s := start s) hx hu he)
    · exact congrArg Host.Outcome.next (saeServed_of_find (s := start s) hx hu he hb)
    · have hc : stagedFor addr (start s) = some c := hc
      exact (ftAuth_of_context hx hu hh).trans (by simp [hc])
    · have hc : stagedFor addr (start s) = none := hc
      exact (ftAuth_of_context hx hu hh).trans (by simp [hc])
    · refine ⟨fun key hf => ?_, fun key hf => ?_, fun key hf h3 => ?_, fun m n hf hn => ?_, fun p key hb h1 hp hd => ?_,
        fun recv send cls timeout hq => ⟨?_, fun hb => ?_, fun kind => ?_⟩, fun r p hq hp hn => ?_, fun h1 => ?_⟩
      · exact congrArg Host.Outcome.next (eapolReceive_message2 (s := start s) hy h4 hh hf true)
      · exact congrArg Host.Outcome.next (eapolReceive_message2 (s := start s) hy h4 hh hf false)
      · exact congrArg Host.Outcome.next (eapolReceive_message4 (s := start s) hy hh hf h3)
      · exact congrArg Host.Outcome.next (fourWayRetry_again (s := start s) hy hf hn)
      · subst hb
        exact congrArg Host.Outcome.next (eapolReceive_eap (s := start s) hy hh h1 hx hp hd)
      · exact congrArg Host.Outcome.next (radiusResponse_relayed (s := start s) hq)
      · subst hb
        exact congrArg Host.Outcome.next (radiusResponse_accept (s := start s) hy hh hx hq)
      · rfl
      · exact congrArg Host.Outcome.next (radiusTimeout_resent (s := start s) hq hp hn)
      · have hy' : Tab.look s.air.stations h = some y := hy
        refine (congrArg Host.Outcome.next (if_pos (by simp [hy', h1]))).trans ?_
        simp [authFails, hy]
  · refine ⟨fun b x rand hx hs hr ht hl hd => ?_, fun b x h n hx hw hn => ?_, fun b x g hx hg hw hk => ?_, fun h k hw hh => ?_, fun h hw hh => ?_,
      fun addr ap => rfl, fun profile secondary p hp => ?_, fun c hc => ⟨fun he => ?_, fun he => ?_⟩, fun hd => ?_, fun hd ho hl => ?_,
      fun ok hf => ⟨fun hr => ?_, fun hr => ⟨?_, ?_⟩⟩, fun addr he => ?_, fun a body ha hs hk => ⟨?_, fun hf => ?_⟩⟩
    · have hst := startRekey_alone (rand := rand) (s := start s) hx hs (handshakesRefused_eq_false hr ht) hl
      refine ⟨_, congrArg Host.Outcome.next ((if_pos (by simp [hx, hd])).trans hst), ?_, fun h hh => ?_, ?_, ?_⟩
      · have hb (l : List (Nat × Bytes)) : bss b (startWrites l (start s)) = some x := by rw [startWrites_eq]; exact hx
        rw [bss_onBss, hb]
        rfl
      · have hk : (drawKeys (groupKeyLength x.security) (groupSlots b (freePair x) (bit x.flags 4)) rand).map Prod.fst =
          groupSlots b (freePair x) (bit x.flags 4) := drawKeys_keys ..
        obtain ⟨e, he, rfl⟩ := List.mem_map.mp (show h ∈ List.map Prod.fst _ by rw [hk]; exact hh)
        exact ⟨e.2, find_startWrites (by rw [hk]; exact groupSlots_nodup ..) he (start s), length_of_mem_drawKeys he⟩
      · rw [startWrites_eq]
        rfl
      · rw [startWrites_eq]
        rfl
    · refine congrArg Host.Outcome.next ?_
      simp [groupRetry, hx, hw, hn]
    · refine congrArg Host.Outcome.next ?_
      have hk' : keyHeld g (start s) = true := hk
      simp [groupSwitch, hx, hg, hw, hk']
    · refine congrArg Host.Outcome.next ?_
      simp [keyWriteComplete, hw, Nat.not_lt.mpr hh]
      rfl
    · refine congrArg Host.Outcome.next ?_
      simp [keyWriteComplete, hw, eraseSlot_of_le hh]
    · exact congrArg Host.Outcome.next (congrArg (fun t => onSec (fun c => { c with radius := t }) (start s)) (Tab.modify_of_look _ hp))
    · exact congrArg Host.Outcome.next (if_pos (by simp [hc]; exact he))
    · exact congrArg Host.Outcome.next (if_neg (by simp [hc]; exact he))
    · exact congrArg Host.Outcome.next (if_neg (Nat.not_le.mpr hd))
    · exact congrArg Host.Outcome.next ((if_pos hd).trans (endDebug_open (s := start s) ho hl))
    · exact congrArg Host.Outcome.next ((if_neg (by simp [hf])).trans (if_pos (by simp [hr])))
    · exact congrArg Host.Outcome.next ((if_neg (by simp [hf])).trans (if_neg (by simp [hr])))
    · exact congrArg Host.Outcome.next ((if_neg (by simp [hf])).trans (if_neg (by simp [hr])))
    · refine congrArg Host.Outcome.next ((if_pos he).trans (if_pos ?_))
      obtain ⟨c, hc, ht⟩ := List.any_eq_true.mp he
      exact List.any_eq_true.mpr ⟨c, hc, (Bool.and_eq_true_iff.mp ht).1⟩
    · have ha' : firstAsync 0x0504 (start s) = some a := ha
      refine congrArg Host.Outcome.next ?_
      simp [hatboxDone, ha', keyImportDone, blobOpens]
    · have ha' : firstAsync 0x0504 (start s) = some a := ha
      refine congrArg Host.Outcome.next ?_
      have hne := ne_ffff_of_keyHandleOk hk
      simp [hatboxDone, ha', keyImportDone, blobOpens, hf, hne, blobBody_drop, endVault]

end Sys2Proof.Machine
end

section
/-! PROOF. The commands of the fleet (chapter 19). -/
namespace Sys2Proof.Machine
set_option Elab.async false

section
variable {c : Nat} {u : Ump} {s : State}

@[simp] theorem fleetInfo_arrived : fleetInfo (arrived c u s) = fleetInfo s := by
  simp only [fleetInfo, arrived_fleet, arrived_power, arrived_fwu]

@[simp] theorem floorInfo_arrived (op : Nat) : floorInfo op (arrived c u s) = floorInfo op s := by
  simp only [floorInfo, arrived_fleet]

@[simp] theorem runningVersion_arrived : runningVersion (arrived c u s) = runningVersion s := by
  simp only [runningVersion, fwVer, arrived_power]

@[simp] theorem fleetHeld_arrived : fleetHeld (arrived c u s) = fleetHeld s := by simp only [fleetHeld, arrived_fleet]

@[simp] theorem contextOlder_arrived (b : Bytes) : contextOlder b (arrived c u s) = contextOlder b s := by
  simp only [contextOlder, arrived_fleet]

@[simp] theorem contextBody_arrived (h f : Nat) : contextBody h f (arrived c u s) = contextBody h f s := by
  simp only [contextBody, contextSession, pmkLeft, pmksaOf, station_arrived, bss_arrived, arrived_sec, arrived_modem, runTime_arrived]
end

/-- A write of the fleet's part of the Felt store is never refused. -/
theorem replyFelt_ok_above {addr : Nat} {data : Bytes} {before effect : State} (h : 0x4000 ≤ addr) :
    replyFelt .ok addr data before effect = reply data effect := by
  simp only [replyFelt, feltWrite_ok_above h]
  rfl

theorem setFloor_ne {new cause : Nat} {s : State} (h : new ≠ s.fleet.floor) : setFloor new cause s =
    raise 0x0D02 (leBytes 2 s.fleet.floor ++ leBytes 2 new ++ leBytes 1 cause) (onFleet (fun f => { f with floor := new }) s) := by
  simp [setFloor, h]

/-- A blob of good ranges whose bytes are all there is not short. -/
theorem importShort_of_good {b : Bytes} (hb : contextBad b = false) (hl : 64 + rd b 10 2 ≤ b.length) : importShort 0 b = false := by
  have hn : rd b 10 2 ≠ 0 := by
    intro h0
    simp [contextBad, h0] at hb
  simp [importShort]
  omega

/-- Settles O38: the checks of each manager pass one by one. -/
theorem fleetCommandsAnswer : Obligations.FleetCommandsAnswer := by
  intro u s hm
  refine ⟨fun ha hc => ?_, fun ha hc hl hw => ⟨fun h => ?_, fun h h3 hv hf => ?_⟩, fun ha hc hr => ⟨fun h hl h0 hid => ?_, fun h hl => ?_⟩,
    fun ha hr => ⟨fun h hl hx hc => ?_, fun h hl hx hc hk h0 h4 hn => ?_⟩,
    fun ha hc hr h hl hlife hb hlen => ⟨fun hid hk h3 ho => ?_, fun hid => ?_⟩⟩ <;> have hg := hc.arrived ha
  · refine succeeds_of_serve rfl ha ?_ (.arrived hm)
    simp [fltGetInfo, hg]
  · refine succeeds_of_serve rfl ha ?_ (.arrived hm)
    simp [setFloorCmd, hg, Nat.not_lt.mpr hl, h]
  · refine succeeds_of_serve rfl ha ?_ (Formed.with (.arrived hm)).raise
    have hf' : u.b16 2 ≠ (arrived 0x0D02 u s).fleet.floor := by rwa [arrived_fleet]
    simp [setFloorCmd, hg, Nat.not_lt.mpr hl, h, Nat.not_lt.mpr h3, Nat.not_lt.mpr hv, hw, setFloor_ne hf', replyFelt_ok_above, floorInfo, (raise_link _ _ _).fleet]
  · refine pends_of_serve rfl ha ?_ (.arrived hm)
    have hid' : ¬(fleetHeld s = true ∧ ¬u.b16 2 = s.fleet.id) := fun ⟨hx, hy⟩ => hy (hid hx)
    simp [setFleetKey, shortOp_of_le, hg, Nat.not_lt.mpr hl, h, hr, h0, hid', pending]
  · refine pends_of_serve rfl ha ?_ (.arrived hm)
    simp [setFleetKey, shortOp_of_le, hg, Nat.not_lt.mpr hl, h, hr, pending]
  · refine answers_of_ne_ok (st := ST.pending) (by decide) rfl ha ?_ (Formed.with (.arrived hm))
    simp [contextExport, shortOp_of_le, hg, Nat.not_lt.mpr hl, h, hr, Option.isSome_iff_ne_none.mp hx, pending, pend]
  · refine answers_of_ne_ok (st := ST.pending) (by decide) rfl ha ?_ (Formed.with (.arrived hm))
    have hsome : station (u.b16 2) s ≠ none := by
      rintro he
      simp [he] at hx
    simp [contextExport, shortOp_of_le, hg, Nat.not_lt.mpr hl, h, hr, hsome, hx, hk, h0, badHost, h4, Nat.not_lt.mpr hn, pending, pend]
  · have hlife' : ¬(¬u.b16 2 = 0 ∧ (u.b16 2 < 10 ∨ 3600 < u.b16 2)) := by omega
    have hlen' : ¬u.data.length - 8 < 64 + rd (u.data.drop 8) 10 2 := by rw [← List.length_drop]; exact (Nat.not_lt.mpr hlen)
    refine pends_of_serve rfl ha ?_ (.arrived hm)
    simp [contextImport, hg, Nat.not_lt.mpr hl, h, hr, hlife', importShort_of_good hb hlen, hb, hlen', hid, Option.isSome_iff_ne_none.mp hk, Nat.not_lt.mpr h3, ho, pending]
  · have hlife' : ¬(¬u.b16 2 = 0 ∧ (u.b16 2 < 10 ∨ 3600 < u.b16 2)) := by omega
    have hlen' : ¬u.data.length - 8 < 64 + rd (u.data.drop 8) 10 2 := by rw [← List.length_drop]; exact (Nat.not_lt.mpr hlen)
    refine answers_of_ne_ok (st := ST.badParam) (by decide) rfl ha ?_ (Formed.with (.arrived hm)).raise
    simp [contextImport, Nat.not_lt.mpr hl, h, hr, hlife', importShort_of_good hb hlen, hb, hlen', hid, contextRefused]

end Sys2Proof.Machine
end

section
/-! PROOF. Firmware update (chapter 19). -/
namespace Sys2Proof.Machine
set_option Elab.async false

/-- An outstanding command that nothing changes stays as it is. -/
@[simp] theorem setAsync_self (a : AsyncCmd) (s : State) : setAsync a a s = s := by
  have h : (fun x : AsyncCmd => if x = a then a else x) = id := by
    funext x
    split
    · exact (‹x = a›).symm
    · rfl
  unfold setAsync
  rw [h]
  simp only [List.map_id]
  rfl

/-- The command just accepted is the one its sender finds, where none of its code and tag was outstanding. -/
theorem findOwn_accepted {u : Ump} {code : Nat} {l : List Obj} {s t : State} (h : findAsync code u.tag s = none)
    (ht : t.mbox.async = (accept u code l s).mbox.async) : ∃ a, findOwn code (u.via, u.tag) t = some a ∧ a.retried = decide (u.env.dma = .retried) := by
  have hn : s.mbox.async.find? (fun a => a.code == code && a.via == u.via && a.tag == u.tag) = none := by
    simp only [findAsync, List.find?_eq_none, List.mem_reverse] at h
    refine List.find?_eq_none.mpr fun a ha hb => h a ha ?_
    simp only [Bool.and_eq_true] at hb ⊢
    exact ⟨hb.1.1, hb.2⟩
  refine ⟨⟨u.via, u.tag, code, l, neverCodes.contains code, decide (u.env.dma = .retried), u.payload, u.env.ext⟩, ?_, rfl⟩
  rw [findOwn, ht]
  simp [accept, List.find?_append, hn]

/-- A boot control word that is written changes what its command changes. -/
theorem writeControl_ok (a : AsyncCmd) (n : Nat) (f : State → State) (s : State) :
    writeControl a .ok n f s = endAsync a ST.ok (activateDone n (f s)) (f s) := by
  simp [writeControl, feltWrite_ok_above]

section
variable {u : Ump} {s : State}

@[simp] theorem updateSlot_arrived (c : Nat) : updateSlot (arrived c u s) = updateSlot s := by
  simp only [updateSlot, arrived_power, arrived_fwu]

theorem findAsync_arrived {k : Nat} (ha : Arrives k u s) (c n : Nat) : findAsync c n (arrived k u s) = findAsync c n s := by
  simp only [findAsync, async_arrived ha]
end

/-- A posted answer changes nothing but the link. -/
theorem ReplyOnly.link {x t : State} (h : ReplyOnly x t) : LinkOnly x t := by
  obtain ⟨ht, -⟩ := h
  rw [LinkOnly, ht]

theorem ReplyOnly.async {x t : State} (h : ReplyOnly x t) : t.mbox.async = x.mbox.async := by
  obtain ⟨-, -, hm⟩ := h
  rw [hm]

section
variable {u : Ump} {s : State} {a : AsyncCmd}

/-- An image goes on trial, and a reset is due. -/
theorem activate_trial (h : findOwn 0x0E04 (u.via, u.tag) s = some a) (h0 : u.b8 0 = 0) (h7 : s.power.stage ≠ 7) (hw : u.env.hw = .ok) :
    LinkOnly (onPower (fun p => { p with pendingReset := 1, resetAt := runTime s + 100000000 }) (onFwu (fun w =>
      { w with active := w.slot, trial := true, tried := false, committed := false }) s)) (activate u s) := by
  simp only [activate, h, h0, h7, hw, if_false, writeControl_ok]
  exact endAsync_link _ _ _ _

/-- A trial is confirmed, and the security floor is raised. -/
theorem activate_confirm (h : findOwn 0x0E04 (u.via, u.tag) s = some a) (h1 : u.b8 0 = 1) (hw : u.env.hw = .ok) :
    LinkOnly (onSec (fun c => { c with antiRollback := max c.antiRollback (slotOf s.fwu.active s.fwu).security })
      (onFwu (fun w => { w with trial := false, tried := false, onTrial := false }) s)) (activate u s) := by
  simp only [activate, h, h1, hw, writeControl_ok]
  exact endAsync_link _ _ _ _
end

/-- Settles O39: the checks pass one by one, and an activation writes its boot control word behind its ST_PENDING. -/
theorem firmwareUpdateRows : Obligations.FirmwareUpdateRows := by
  intro u s hm
  refine ⟨fun ha hc hl h1 h2 ht hs hw => ?_, fun ha hc hl hl2 ho hs hn => ?_, fun ha hc hs hcom hw => ?_, fun a h => ?_,
    fun a cause version security h => ⟨fun hc => ?_, fun hc => ?_⟩, fun ha hc hl h7 hw hf => ?_⟩
  · have hg := hc.arrived ha
    refine succeeds_of_serve rfl ha ?_ (Formed.with (.arrived hm))
    simp [fwuBegin, hg, Nat.not_lt.mpr hl, Nat.pos_iff_ne_zero.mp h1, Nat.not_lt.mpr h2, ht, hs, hw, replyHw, reply]
  · have hg := hc.arrived ha
    refine pends_of_serve rfl ha ?_ (.arrived hm)
    have hl' : ¬u.data.length < 8 := by omega
    have h0 : ¬u.data.length - 8 = 0 := by omega
    have hl2' : ¬1048568 < u.data.length - 8 := by omega
    simp [fwuData, hg, h0, hl', hl2', ho, hs, Nat.not_lt.mpr hn, pending]
  · have hg := hc.arrived ha
    refine pends_of_serve rfl ha ?_ (.arrived hm)
    simp [fwuCommit, hg, hs, hcom, hw, pending]
  · show Host.Outcome.next (fwuWritten .ok (start s)) = _
    simp [fwuWritten, h]
  · show Host.Outcome.next (fwuChecked cause version security (start s)) = _
    simp [fwuChecked, h, hc]
  · show Host.Outcome.next (fwuChecked cause version security (start s)) = _
    simp [fwuChecked, h, hc]
  · have hg := hc.arrived ha
    have hf' : findAsync 0x0E04 u.tag (arrived 0x0E04 u s) = none := (findAsync_arrived ha _ _).trans hf
    have hend (h : (∃ b, u.b8 0 = b ∧ (b = 0 ∧ s.fwu.committed = true ∧ s.fwu.onTrial = false ∨ b = 1 ∧ s.fwu.onTrial = true))) :
        ∃ y a, ReplyOnly (accept u 0x0E04 [.image s.fwu.slot] (arrived 0x0E04 u s)) y ∧ findOwn 0x0E04 (u.via, u.tag) y = some a ∧
          exec (.fwuActivate u) s = .next (drain (activate u y).mbox.cmdQueue (activate u y)) := by
      obtain ⟨y, -, ro, he⟩ := pends_then (i := .fwuActivate u) (after := activate u) (x := arrived 0x0E04 u s)
        (locks := [.image s.fwu.slot]) rfl ha
        (by obtain ⟨b, hb, ⟨rfl, hcom, ht⟩ | ⟨rfl, ht⟩⟩ := h <;> simp [fwuActivate, pending, *, Nat.not_lt.mpr hl]) (.arrived hm)
      obtain ⟨a, ho, -⟩ := findOwn_accepted hf' ro.async
      exact ⟨y, a, ro, ho, he⟩
    refine ⟨fun h0 hcom ht => ?_, fun h1 ht => ?_⟩
    · obtain ⟨y, a, ro, ho, he⟩ := hend ⟨0, h0, .inl ⟨rfl, hcom, ht⟩⟩
      have hy := ((arrived_link 0x0E04 u s).trans (accept_link _ _ _ _)).trans ro.link
      have hl := (activate_trial ho h0 (by rwa [hy.power]) hw).trans (drain_link (activate u y).mbox.cmdQueue _)
      refine ⟨_, he, hl.fwu.trans ?_, hl.power.trans ?_, hl.sec.trans hy.sec, hl.air.trans hy.air, congrArg _ (hl.mem.trans hy.mem)⟩
      · rw [onPower_fwu, onFwu_fwu, hy.fwu]
      · have hr : runTime y = runTime s := by simp only [runTime, deviceTime, hy.clock]
        rw [onPower_power, onFwu_power, hy.power, hr]
    · obtain ⟨y, a, ro, ho, he⟩ := hend ⟨1, h1, .inr ⟨rfl, ht⟩⟩
      have hy := ((arrived_link 0x0E04 u s).trans (accept_link _ _ _ _)).trans ro.link
      have hl := (activate_confirm ho h1 hw).trans (drain_link (activate u y).mbox.cmdQueue _)
      refine ⟨_, he, hl.fwu.trans ?_, hl.power.trans hy.power, hl.sec.trans ?_, hl.air.trans hy.air⟩
      · rw [onSec_fwu, onFwu_fwu, hy.fwu]
      · rw [onSec_sec, onFwu_sec, hy.sec, hy.fwu]
end Sys2Proof.Machine
end

section
/-! PROOF. The tables of the forwarding engine are set, read and deleted (chapter 07). -/
namespace Sys2Proof.Machine
set_option Elab.async false

section
variable {c : Nat} {u : Ump} {s : State}

@[simp] theorem vlan_arrived (v : Nat) : vlan v (arrived c u s) = vlan v s := by simp only [vlan, arrived_wire]

@[simp] theorem routerVlan_arrived (v : Nat) : routerVlan v (arrived c u s) = routerVlan v s := by simp only [routerVlan, vlan_arrived]

@[simp] theorem otherRouters_arrived (v : Nat) : otherRouters v (arrived c u s) = otherRouters v s := by simp only [otherRouters, arrived_wire]

@[simp] theorem natBytes_arrived (op n : Nat) : natBytes op n (arrived c u s) = natBytes op n s := by simp only [natBytes, arrived_wire]
end

theorem Formed.cfgDelete {p : CfgRecord → Bool} {c : Nat} {b : Bytes} {s : State} (h : Formed s) : Formed (cfgDelete p c b s) :=
  h.of_mbox (cfgDelete_mbox ..)

/-- A message that holds the operation and its arguments is not short. -/
theorem shortOp_enough {u : Ump} {o hi n : Nat} (hn : n ≤ u.data.length) (ho : o + 1 ≤ u.data.length) :
    shortOp u o hi n = (false, ST.badLength) := by
  have h : ¬u.data.length < if u.b8 o ≤ hi then n else o + 1 := by split <;> omega
  simp only [shortOp, short, h, decide_false]

/-- Settles O40: the arguments of each operation pass one by one. -/
theorem forwardingTablesAreSet : Obligations.ForwardingTablesAreSet := by
  intro u s hm h2 h9
  have hroute (hf : u.b8 1 = 4 ∨ u.b8 1 = 6) (hlen : u.b8 2 ≤ addrBits (u.b8 1)) (hbad : addrBad u.data 4 (u.b8 1) = false) :
      ¬(¬(routeArgs u).family = 4 ∧ ¬(routeArgs u).family = 6) ∧ ¬addrBits (routeArgs u).family < (routeArgs u).len ∧
        addrBad u.data 4 (routeArgs u).family = false := ⟨by simp only [routeArgs]; omega, Nat.not_lt.mpr hlen, hbad⟩
  refine ⟨fun ha hc hl hv => ⟨fun h hme hun h4 h6 hlo hhi hmac => ?_, fun y hy => ⟨fun h hb => ?_, fun h => ?_, fun h => ?_⟩⟩,
    fun ha hc hl hf hlen hbad => ⟨fun h hk hi hgw hroom => ?_, fun old ho => ⟨fun h => ?_, fun h => ?_⟩⟩,
    fun ha hc hl hn => ⟨fun h hbad => ?_, fun r hr => ⟨fun h => ?_, fun h => ?_⟩⟩,
    fun ha hc => ⟨fun h hl hp h1 h16 hlo hhi => ?_, fun h hl hn hp => ?_, fun h hl hn hx => ?_, fun h hl ht ha1 ha2 => ?_, fun h hl b hb => ?_⟩,
    fun ha hc hl hf => ⟨fun n f hit => ⟨fun h => ?_, fun h => ?_⟩, fun h => ?_⟩⟩ <;> have hg := hc.arrived ha
  · refine succeeds_of_serve rfl ha ?_ (Formed.with (.arrived hm))
    have hmac' : ¬(bit (vlanArgs u).flags 4 = true ∧ notUnicast (field u.data 6 6) = true) := fun ⟨hb, hc⟩ => by simp [(hmac hb).1] at hc
    have hroom : ¬(bit (vlanArgs u).flags 4 = true ∧ 256 ≤ otherRouters (u.b16 0) s) := fun ⟨hb, hc⟩ => (Nat.not_le.mpr (hmac hb).2) hc
    simp [fwdVlanSet, wiredOff, hg, h2, h9, Nat.not_lt.mpr hl, hv, h, hmac', hroom, Nat.not_lt.mpr hme, Nat.not_lt.mpr hun, Nat.not_lt.mpr h4, Nat.not_lt.mpr h6, Nat.not_lt.mpr hlo, Nat.not_lt.mpr hhi]
  · refine succeeds_of_serve rfl ha ?_ (Formed.cfgDelete (.with (.arrived hm)))
    simp only [fwdVlanSet, h, deleteVlan]
    simp [-List.any_eq_true, wiredOff, hg, h2, h9, Nat.not_lt.mpr hl, hv, hy, hb]
  · refine succeeds_of_serve rfl ha ?_ (.arrived hm)
    simp [fwdVlanSet, wiredOff, hg, h2, h9, Nat.not_lt.mpr hl, hv, h, hy]
  · refine succeeds_of_serve rfl ha ?_ (Formed.with (.arrived hm))
    simp [fwdVlanSet, wiredOff, hg, h2, h9, Nat.not_lt.mpr hl, hv, h, hy, flushVlan]
  · refine succeeds_of_serve rfl ha ?_ (Formed.with (.arrived hm))
    have hlocal : ¬((routeArgs u).kind < 2 ∧ routerVlan (routeArgs u).iface s = none) := fun ⟨hk, hn⟩ => by simpa [hn] using hi hk
    have hi' : ¬((routeArgs u).kind ≤ 1 ∧ routerVlan (routeArgs u).iface s = none) := fun ⟨hk, hn⟩ => hlocal ⟨Nat.lt_succ_of_le hk, hn⟩
    have hgw' : ¬((routeArgs u).kind = 1 ∧ addrBad u.data 24 (routeArgs u).family = true) := fun ⟨hk, hb⟩ => by simp [hgw hk] at hb
    obtain ⟨hf', hlen', hbad'⟩ := hroute hf hlen hbad
    simp only [fwdRouteSet, h]
    rw [shortOp_enough (by split <;> omega) (by omega)]
    simp [wiredOff, hg, h2, h9, hf', hlen', hbad', Nat.not_lt.mpr hk, hlocal, hi', hgw', -List.filter_filter, Nat.not_le.mpr hroom]
  · refine succeeds_of_serve rfl ha ?_ (Formed.cfgDelete (.with (.arrived hm)))
    obtain ⟨hf', hlen', hbad'⟩ := hroute hf hlen hbad
    simp only [fwdRouteSet, h]
    rw [shortOp_enough (by split <;> omega) (by omega)]
    simp [wiredOff, hg, h2, h9, hf', hlen', hbad', ho]
  · refine succeeds_of_serve rfl ha ?_ (.arrived hm)
    obtain ⟨hf', hlen', hbad'⟩ := hroute hf hlen hbad
    simp only [fwdRouteSet, h]
    rw [shortOp_enough (by split <;> omega) (by omega)]
    simp [wiredOff, hg, h2, h9, hf', hlen', hbad', ho]
  · refine succeeds_of_serve rfl ha ?_ (Formed.with (.arrived hm))
    simp [fwdAclSet, wiredOff, hg, h2, h9, Nat.not_lt.mpr hl, Nat.not_lt.mpr hn, h, hbad]
  · refine succeeds_of_serve rfl ha ?_ (Formed.cfgDelete (.with (.arrived hm)))
    simp [fwdAclSet, wiredOff, hg, h2, h9, Nat.not_lt.mpr hl, Nat.not_lt.mpr hn, h, hr]
  · refine succeeds_of_serve rfl ha ?_ (.arrived hm)
    simp [fwdAclSet, wiredOff, hg, h2, h9, Nat.not_lt.mpr hl, Nat.not_lt.mpr hn, h, hr]
  · refine succeeds_of_serve rfl ha ?_ (Formed.with (.arrived hm))
    obtain ⟨v, hv, h7⟩ : ∃ v, routerVlan (u.b16 2) s = some v ∧ bit v.flags 7 = true := Option.any_eq_true _ _ |>.mp hp
    simp [fwdNatSet, shortOp_of_le, wiredOff, hg, h2, h9, Nat.not_lt.mpr hl, h, hv, h7, poolArgs, Nat.pos_iff_ne_zero.mp h1, Nat.not_lt.mpr h16,
      Nat.pos_iff_ne_zero.mp hlo, Nat.not_lt.mpr hhi]
  · refine succeeds_of_serve rfl ha ?_ (Formed.with (.arrived hm))
    have hp' : ¬(¬u.b8 4 = 6 ∧ ¬u.b8 4 = 17) := by omega
    simp [fwdNatSet, shortOp_of_le, wiredOff, hg, h2, h9, Nat.not_lt.mpr hl, h, Nat.not_lt.mpr hn, hp']
  · refine succeeds_of_serve rfl ha ?_ (Formed.cfgDelete (.with (.arrived hm)))
    simp [fwdNatSet, shortOp_of_le, wiredOff, hg, h2, h9, Nat.not_lt.mpr hl, h, Nat.not_lt.mpr hn, Option.isSome_iff_ne_none.mp hx]
  · refine succeeds_of_serve rfl ha ?_ (Formed.with (.arrived hm))
    have ht' : (((timeoutArgs u).zip timeoutRanges).any fun e => decide (e.1 < e.2.1) || decide (e.2.2 < e.1)) = false := by
      simpa [List.all_eq_true, List.any_eq_false] using ht
    simp [-List.any_eq_true, fwdNatSet, shortOp_of_le, wiredOff, hg, h2, h9, Nat.not_lt.mpr hl, h, ht', Nat.not_lt.mpr ha1, Nat.not_lt.mpr ha2]
  · refine succeeds_of_serve rfl ha ?_ (.arrived hm)
    simp [fwdNatSet, shortOp_of_le, wiredOff, hg, h2, h9, Nat.not_lt.mpr hl, h, hb]
  · have hf' : ¬(¬u.b8 1 = 4 ∧ ¬u.b8 1 = 6) := by omega
    refine succeeds_of_serve rfl ha ?_ (.arrived hm)
    simp [fwdFlowQuery, wiredOff, hg, h2, h9, Nat.not_lt.mpr hl, h, hit, flowReply, hf']
  · have hf' : ¬(¬u.b8 1 = 4 ∧ ¬u.b8 1 = 6) := by omega
    refine succeeds_of_serve rfl ha ?_ (Formed.with (.arrived hm))
    simp [fwdFlowQuery, wiredOff, hg, h2, h9, Nat.not_lt.mpr hl, h, hit, flowReply, hf']
  · refine succeeds_of_serve rfl ha ?_ (.arrived hm)
    simp [fwdFlowQuery, wiredOff, hg, h2, h9, Nat.not_lt.mpr hl, h, flowReply]

end Sys2Proof.Machine
end

section
/-! PROOF. The commands of the ports (chapter 07). -/
namespace Sys2Proof.Machine
set_option Elab.async false

/-! ### What changes only the ports and what leaves the device -/

/-- Only the wired side changed, and frames may have left the device. -/
def WireSide (s t : State) : Prop := t = { s with wire := t.wire, out := t.out }

theorem WireSide.refl (s : State) : WireSide s s := rfl

section
variable {s t w : State}

theorem WireSide.trans (h : WireSide s t) (k : WireSide t w) : WireSide s w := by
  unfold WireSide at h k ⊢
  rw [k, h]

theorem WireSide.mbox (h : WireSide s t) : t.mbox = s.mbox := by rw [h]

theorem WireSide.onPort (h : WireSide s t) (n : Nat) (f : Port → Port) : WireSide s (onPort n f t) := h.trans rfl

theorem WireSide.foldl {α : Type} {f : State → α → State} (hf : ∀ s x, WireSide s (f s x)) :
    ∀ (l : List α) (s : State), WireSide s (l.foldl f s)
  | [], s => .refl s
  | x :: l, s => (hf s x).trans (WireSide.foldl hf l _)

end

section
variable {s t : State} (h : WireSide s t)
include h

theorem WireSide.ite {c : Prop} [Decidable c] {w : State} (k : WireSide s w) : WireSide s (if c then t else w) := by
  split
  · exact h
  · exact k

theorem WireSide.countPort (p i n : Nat) : WireSide s (countPort p i n t) := .ite h (h.onPort ..)

theorem WireSide.emit (o : Out) : WireSide s (Machine.emit o t) := h.trans rfl

theorem WireSide.owePause (p a b : Nat) : WireSide s (owePause p a b t) :=
  .ite h (.ite (h.onPort ..) ((h.emit _).countPort ..))

theorem WireSide.settlePriority (p k : Nat) : WireSide s (settlePriority p k t) :=
  .ite ((h.onPort ..).owePause ..) (.ite ((h.onPort ..).owePause ..) h)

theorem WireSide.settleXoff : WireSide s (settleXoff t) :=
  h.trans (.foldl (fun s p => .foldl (fun s k => WireSide.settlePriority (.refl s) p k) (pausePriorities (port p s)) s) _ _)

theorem WireSide.settleStopped (p : Nat) : WireSide s (settleStopped p t) := by
  unfold Machine.settleStopped
  refine WireSide.onPort ?_ _ _
  split
  · exact h.countPort ..
  · exact h

theorem WireSide.countLine (p : Nat) (l : Nat × Nat × Nat) : WireSide s (countLine p l t) :=
  .ite h (.countPort (.ite h ((h.countPort ..).countPort ..)) _ _ _)

theorem WireSide.takeSnapshot (p : Nat) (l : Nat × Nat × Nat) : WireSide s (takeSnapshot p l t) := by
  unfold Machine.takeSnapshot
  exact ((h.settleStopped p).countLine p l).onPort ..

end

/-! ### The commands -/

section
variable {c : Nat} {u : Ump} {s : State}

theorem Formed.cfgKeep {n o k : Nat} {b : Bytes} (h : Formed s) : Formed (cfgKeep n o k b s) := h.with

theorem Formed.wireSide {t : State} (h : Formed s) (k : WireSide s t) : Formed t := h.of_mbox k.mbox

@[simp] theorem sakHeld_arrived (h : Nat) : sakHeld h (arrived c u s) = sakHeld h s := by simp only [sakHeld, keyHeld_arrived]

theorem snapshot_takeSnapshot (p : Nat) (l : Nat × Nat × Nat) (s : State) :
    ∃ n, (port p (takeSnapshot p l s)).snapshot = some n := ⟨_, congrArg Port.snapshot (port_onPort ..)⟩

/-- A port that is UP and stays so takes its new settings, and their pause thresholds are looked at. -/
theorem setPort_up {p : Nat} {c : PortCfg} (ha : c.admin = true) (hs : (port p s).state = .up) (hm : c.mode = (port p s).cfg.mode)
    (hf : c.fec = (port p s).cfg.fec) (hw : c.flow = (port p s).cfg.flow) :
    setPort p c s = settleXoff (onPort p (fun x => { x with cfg := c }) s) := by
  simp [setPort, ha, hs, hm, hf, hw]

/-- A port without link leaves service at once. -/
theorem setPort_down {p : Nat} {c : PortCfg} (ha : c.admin = false) (hs : (port p s).state = .down) (hw : c.flow = (port p s).cfg.flow) :
    setPort p c s = settleXoff (onPort p (fun x => { x with cfg := c, state := .adminDown, retry := 0 }) s) := by
  simp [setPort, ha, hs, hw, onPort_onPort]

end

/-- Settles O41: the arguments of each operation pass one by one. -/
theorem portCommandsAnswer : Obligations.PortCommandsAnswer := by
  intro u s hm h2 h9
  refine ⟨fun ha hl hp => ⟨fun h hc => ?_, fun h hb hadm hup hmode hfec hflow hc => ?_, fun h hb hadm hdown hflow hc => ?_⟩,
    fun ha hc hl hp h1 => ⟨fun h => ?_, fun n h hn => ?_⟩,
    fun ha hc hl hp hk h3 => ⟨fun h hmask => ?_, fun h => ?_, fun h => ?_, fun w h hw => ?_⟩,
    fun ha hl hp han hsc => ⟨fun hc => ⟨fun h hw => ?_, fun h hno hroom => ⟨fun hk => ?_, fun hk => ?_⟩, fun h hno hroom hk => ?_,
      fun h hsa => ?_, fun h hsa => ?_⟩, fun hc h hno => ?_⟩⟩
  · have hg := hc.arrived ha
    refine succeeds_of_serve rfl ha ?_ (.arrived hm)
    simp [fwdSetPort, shortOp_of_le, badPort, wiredOff, hg, h2, h9, Nat.not_lt.mpr hl, h, Nat.not_lt.mpr hp]
    rfl
  · have hg := hc.arrived ha
    refine succeeds_of_serve rfl ha ?_ (Formed.cfgKeep (Formed.wireSide (.arrived hm) (WireSide.settleXoff (.onPort (.refl _) _ _))))
    simp [fwdSetPort, shortOp_of_le, badPort, wiredOff, hg, h2, h9, Nat.not_lt.mpr hl, h, Nat.not_lt.mpr hp, hb, hadm, setPort_up, hup, hmode, hfec, hflow]
    rfl
  · have hg := hc.arrived ha
    refine succeeds_of_serve rfl ha ?_ (Formed.cfgKeep (Formed.wireSide (.arrived hm) (WireSide.settleXoff (.onPort (.refl _) _ _))))
    simp [fwdSetPort, shortOp_of_le, badPort, wiredOff, hg, h2, h9, Nat.not_lt.mpr hl, h, Nat.not_lt.mpr hp, hb, hadm, setPort_down, hdown, hflow]
    rfl
  · have hg := hc.arrived ha
    obtain ⟨n, hn⟩ := snapshot_takeSnapshot (u.b8 0) u.env.line (arrived 0x0606 u s)
    refine ⟨n, hn, congrArg Port.counters (port_onPort ..), ?_⟩
    refine succeeds_of_serve rfl ha ?_ (Formed.wireSide (.arrived hm) (WireSide.takeSnapshot (.refl _) _ _))
    simp [ethGetCounters, badPort, wiredOff, hg, h2, h9, Nat.not_lt.mpr hl, h, Nat.not_lt.mpr hp, Nat.not_lt.mpr h1, hn]
  · have hg := hc.arrived ha
    refine succeeds_of_serve rfl ha ?_ (.arrived hm)
    simp [ethGetCounters, badPort, wiredOff, hg, h2, h9, Nat.not_lt.mpr hl, h, Nat.not_lt.mpr hp, Nat.not_lt.mpr h1, hn]
  · have hg := hc.arrived ha
    refine succeeds_of_serve rfl ha ?_ (Formed.with (.arrived hm))
    simp [ethSetWol, shortOp_of_le, badPort, wiredOff, hg, h2, h9, show ¬u.data.length < 22 by omega, h, Nat.not_lt.mpr hp, Nat.not_lt.mpr hk, Nat.not_lt.mpr h3, hmask]
  · have hg := hc.arrived ha
    refine succeeds_of_serve rfl ha ?_ (Formed.with (.arrived hm))
    simp [ethSetWol, shortOp_of_le, badPort, wiredOff, hg, h2, h9, show ¬u.data.length < 22 by omega, h, Nat.not_lt.mpr hp, Nat.not_lt.mpr hk, Nat.not_lt.mpr h3]
  · have hg := hc.arrived ha
    refine succeeds_of_serve rfl ha ?_ (Formed.with (.arrived hm))
    simp [ethSetWol, shortOp_of_le, badPort, wiredOff, hg, h2, h9, Nat.not_lt.mpr hl, h, Nat.not_lt.mpr hp, Nat.not_lt.mpr hk, Nat.not_lt.mpr h3]
  · have hg := hc.arrived ha
    refine succeeds_of_serve rfl ha ?_ (.arrived hm)
    simp [ethSetWol, shortOp_of_le, badPort, wiredOff, hg, h2, h9, show ¬u.data.length < 22 by omega, h, Nat.not_lt.mpr hp, Nat.not_lt.mpr hk, Nat.not_lt.mpr h3, hw]
  · have hg := hc.arrived ha
    refine succeeds_of_serve rfl ha ?_ (Formed.with (.arrived hm))
    have hw' : ¬1073741824 < u.b32 40 := (Nat.not_lt.mpr hw)
    simp [ethSetMacsec, wiredOff, hg, h2, h9, Nat.not_lt.mpr hl, h, Nat.not_lt.mpr hp, Nat.not_lt.mpr han, Nat.not_lt.mpr hsc, hw']
  · have hg := hc.arrived ha
    refine succeeds_of_serve rfl ha ?_ (Formed.with (.arrived hm))
    simp [ethSetMacsec, wiredOff, hg, h2, h9, Nat.not_lt.mpr hl, h, Nat.not_lt.mpr hp, Nat.not_lt.mpr han, Nat.not_lt.mpr hsc, hno, Nat.not_le.mpr hroom, hk]
  · have hg := hc.arrived ha
    refine fails_of_serve (by decide) hm rfl ha ?_
    simp [ethSetMacsec, wiredOff, hg, h2, h9, Nat.not_lt.mpr hl, h, Nat.not_lt.mpr hp, Nat.not_lt.mpr han, Nat.not_lt.mpr hsc, hno, Nat.not_le.mpr hroom, hk]
  · have hg := hc.arrived ha
    refine succeeds_of_serve rfl ha ?_ (Formed.with (.arrived hm))
    simp [ethSetMacsec, wiredOff, hg, h2, h9, Nat.not_lt.mpr hl, h, Nat.not_lt.mpr hp, Nat.not_lt.mpr han, Nat.not_lt.mpr hsc, hno, Nat.not_le.mpr hroom, hk]
  · have hg := hc.arrived ha
    refine succeeds_of_serve rfl ha ?_ (Formed.with (.arrived hm))
    simp [ethSetMacsec, wiredOff, hg, h2, h9, Nat.not_lt.mpr hl, h, Nat.not_lt.mpr hp, Nat.not_lt.mpr han, Nat.not_lt.mpr hsc, hsa]
  · have hg := hc.arrived ha
    refine succeeds_of_serve rfl ha ?_ (Formed.with (.arrived hm))
    simp [ethSetMacsec, wiredOff, hg, h2, h9, Nat.not_lt.mpr hl, h, Nat.not_lt.mpr hp, Nat.not_lt.mpr han, Nat.not_lt.mpr hsc, Option.isSome_iff_ne_none.mpr hsa]
  · have hg := hc.arrived ha
    refine succeeds_of_serve rfl ha ?_ (.arrived hm)
    simp [ethSetMacsec, wiredOff, hg, h2, h9, Nat.not_lt.mpr hl, h, Nat.not_lt.mpr hp, Nat.not_lt.mpr han, Nat.not_lt.mpr hsc, hno]

end Sys2Proof.Machine
end

section
/-! PROOF. The commands of the queueing engine (chapter 08). -/
namespace Sys2Proof.Machine
set_option Elab.async false

section
variable {c : Nat} {u : Ump} {s : State}

@[simp] theorem targetExists_arrived (t : ShaperTarget) : targetExists t (arrived c u s) = targetExists t s := by
  simp only [targetExists, arrived_air]

@[simp] theorem aclPolices_arrived (n : Nat) : aclPolices n (arrived c u s) = aclPolices n s := by simp only [aclPolices, arrived_wire]

@[simp] theorem sourcePolicer_arrived (x : Nat × Nat) : sourcePolicer x (arrived c u s) = sourcePolicer x s := by
  simp only [sourcePolicer, arrived_qme]

@[simp] theorem gclNear_arrived (p : Nat) : gclNear p (arrived c u s) = gclNear p s := by
  simp only [gclNear, gates_arrived, deviceTime_arrived]

end

/-- The length of QUE_MAP by its operation, read or set. -/
theorem mapLength_eq : mapLength 0 true = 1 ∧ mapLength 1 true = 1 ∧ mapLength 4 true = 4 ∧ mapLength 0 false = 66 ∧ mapLength 1 false = 10 ∧
    mapLength 2 false = 10 ∧ mapLength 3 false = 18 ∧ mapLength 5 false = 11 := by decide

/-- Bit 7 of QUE_MAP's operation says whether it reads. -/
theorem mapReads_eq : bit 128 7 = true ∧ bit 129 7 = true ∧ bit 0 7 = false ∧ bit 1 7 = false ∧ bit 2 7 = false ∧ bit 3 7 = false ∧
    bit 4 7 = false ∧ bit 5 7 = false := by decide

/-- Settles O42: the arguments of each operation pass one by one. -/
theorem queueCommandsAnswer : Obligations.QueueCommandsAnswer := by
  intro u s hm
  refine ⟨fun ha hc hl hn => ⟨fun h => ?_, fun h hb => ⟨fun hx => ?_, fun hx hcur => ?_⟩, fun h hcur => ?_,
      fun x hx ht hlev hlev' hunit => ⟨fun h hheld => ?_, fun h hcur => ?_⟩⟩,
    fun ha hc hl hn => ⟨fun h => ?_, fun h hb => ⟨fun hx => ?_, fun hx => ?_⟩, fun h hsrc hacl => ?_,
      fun hx hk hi => ⟨fun h hfree => ?_, fun h hown => ?_⟩⟩,
    fun ha hc hl hp => ⟨fun h h1 h256 hlen hcy hcy' h8 hent hbase hnear => ?_, fun h hpend hnear => ?_, fun g h hg h0 h4 hw => ?_⟩,
    fun ha hc hl => ⟨fun h => ?_, fun h hpow hlo hhi hs => ?_, fun h hlo hhi h1 h1000 hrate => ?_, fun h hlo hhi => ?_⟩,
    fun ha hc hl h1 h2 h0 => ?_,
    fun ha hc => ⟨fun h hl => ?_, fun h hl hb => ?_, fun h hl hb => ?_, fun h hl hk hb => ?_,
      fun h hl hq h16 hmax hmark ht1 ht50 hi10 hi1000 hlt => ?_, fun h hl hq => ?_, fun h hl hk hb => ?_⟩⟩ <;> have hgate := hc.arrived ha
  · refine succeeds_of_serve rfl ha ?_ (.arrived hm)
    simp [queSetShaper, shortOp_of_le, hgate, Nat.not_lt.mpr hl, Nat.not_lt.mpr hn, h]
    rfl
  · refine succeeds_of_serve rfl ha ?_ (Formed.with (.arrived hm))
    simp [queSetShaper, shortOp_of_le, hgate, Nat.not_lt.mpr hl, Nat.not_lt.mpr hn, h, hb, hx]
    rfl
  · refine succeeds_of_serve rfl ha ?_ (Formed.with (.arrived hm))
    obtain ⟨x, hx⟩ := Option.isSome_iff_exists.mp hx
    simp only [hx, Option.map_some, Option.getD_some] at hcur
    simp [queSetShaper, shortOp_of_le, hgate, Nat.not_lt.mpr hl, Nat.not_lt.mpr hn, h, hb, hx, hcur]
    rfl
  · refine succeeds_of_serve rfl ha ?_ (Formed.with (.arrived hm))
    simp [queSetShaper, shortOp_of_le, hgate, Nat.not_lt.mpr hl, Nat.not_lt.mpr hn, h, hcur]
    rfl
  · have hunit' : ¬((shaperCfg x).unit = 1 ∧ 1 < u.b8 16) := fun ⟨h1, h2⟩ => (Nat.not_lt.mpr (hunit h1)) h2
    have hx0 : Formed (onShaper (u.b16 0) (fun x => { x with dueAttach := x.dueAttach ++ [(true, (u.b8 16, u.b16 18))] }) (arrived 0x0701 u s)) :=
      Formed.with (.arrived hm)
    refine succeeds_of_serve rfl ha ?_ (by
      split
      · exact hx0
      · exact hx0.with)
    simp [queSetShaper, shortOp_of_le, hgate, Nat.not_lt.mpr hl, Nat.not_lt.mpr hn, h, hx, ht, hlev, hlev', hunit', hheld, -List.any_eq_true, -List.contains_eq_mem]
    rfl
  · have hunit' : ¬((shaperCfg x).unit = 1 ∧ 1 < u.b8 16) := fun ⟨h1, h2⟩ => (Nat.not_lt.mpr (hunit h1)) h2
    refine succeeds_of_serve rfl ha ?_ (Formed.with (.arrived hm))
    simp only [hx, Option.map_some, Option.getD_some] at hcur
    simp [queSetShaper, shortOp_of_le, hgate, Nat.not_lt.mpr hl, Nat.not_lt.mpr hn, h, hx, ht, hlev, hlev', hunit', hcur, -List.contains_eq_mem]
    rfl
  · refine succeeds_of_serve rfl ha ?_ (.arrived hm)
    simp [queSetPolicer, shortOp_of_le, hgate, Nat.not_lt.mpr hl, Nat.not_lt.mpr hn, h]
    rfl
  · refine succeeds_of_serve rfl ha ?_ (Formed.with (.arrived hm))
    simp [queSetPolicer, shortOp_of_le, hgate, Nat.not_lt.mpr hl, Nat.not_lt.mpr hn, h, hb, hx]
    rfl
  · refine succeeds_of_serve rfl ha ?_ (Formed.with (.arrived hm))
    obtain ⟨x, hx⟩ := Option.isSome_iff_exists.mp hx
    simp [queSetPolicer, shortOp_of_le, hgate, Nat.not_lt.mpr hl, Nat.not_lt.mpr hn, h, hb, hx]
    rfl
  · refine succeeds_of_serve rfl ha ?_ (Formed.with (.arrived hm))
    simp [queSetPolicer, shortOp_of_le, hgate, Nat.not_lt.mpr hl, Nat.not_lt.mpr hn, h, hsrc, hacl]
    rfl
  · have hk : u.b8 22 = 2 := hk
    have hi : u.b16 24 ≤ 4 := hi
    refine succeeds_of_serve rfl ha ?_ (Formed.with (.arrived hm))
    rw [hk] at hfree
    simp [queSetPolicer, shortOp_of_le, hgate, Nat.not_lt.mpr hl, Nat.not_lt.mpr hn, h, Option.isSome_iff_ne_none.mp hx, hk, hi, hfree]
    rfl
  · have hk : u.b8 22 = 2 := hk
    have hi : u.b16 24 ≤ 4 := hi
    refine succeeds_of_serve rfl ha ?_ (Formed.with (.arrived hm))
    rw [hk] at hown
    simp [queSetPolicer, shortOp_of_le, hgate, Nat.not_lt.mpr hl, Nat.not_lt.mpr hn, h, Option.isSome_iff_ne_none.mp hx, hk, hi, hown]
    rfl
  · refine succeeds_of_serve rfl ha ?_ (Formed.with (.arrived hm))
    simp [queSetGcl, hgate, Nat.not_lt.mpr hl, Nat.not_lt.mpr hp, h, Nat.pos_iff_ne_zero.mp h1, Nat.not_lt.mpr h256, Nat.not_lt.mpr hlen, Nat.not_lt.mpr hcy, Nat.not_lt.mpr hcy', h8, hent,
      (Nat.not_lt.mpr hbase), hnear, -List.any_eq_true]
  · refine succeeds_of_serve rfl ha ?_ (Formed.with (.arrived hm))
    simp [queSetGcl, hgate, Nat.not_lt.mpr hl, Nat.not_lt.mpr hp, h, Option.isSome_iff_ne_none.mp hpend, hnear]
  · refine succeeds_of_serve rfl ha ?_ (Formed.with (.arrived hm))
    simp [queSetGcl, hgate, Nat.not_lt.mpr hl, Nat.not_lt.mpr hp, h, hg, h0, badHost, h4, dmaReply, hw, reply]
  · refine succeeds_of_serve rfl ha ?_ (.arrived hm)
    simp [queSetSampler, shortOp_of_le, hgate, Nat.not_lt.mpr hl, h]
    rfl
  · refine succeeds_of_serve rfl ha ?_ (Formed.with (.arrived hm))
    simp [queSetSampler, shortOp_of_le, hgate, Nat.not_lt.mpr hl, h, ← hpow, Nat.not_lt.mpr hlo, Nat.not_lt.mpr hhi, hs]
    rfl
  · refine succeeds_of_serve rfl ha ?_ (Formed.with (.arrived hm))
    simp [queSetSampler, shortOp_of_le, queueId, hgate, Nat.not_lt.mpr hl, h, show u.b16 2 < 16489 by omega, show u.b16 4 < 16489 by omega,
      show u.b16 2 < 16384 by omega, Nat.not_lt.mpr hlo, Nat.pos_iff_ne_zero.mp h1, Nat.not_lt.mpr h1000, Nat.not_lt.mpr hrate]
    rfl
  · refine succeeds_of_serve rfl ha ?_ (Formed.with (.arrived hm))
    simp [queSetSampler, shortOp_of_le, queueId, hgate, Nat.not_lt.mpr hl, h, show u.b16 2 < 16489 by omega, show u.b16 4 < 16489 by omega,
      (Nat.not_lt.mpr hlo)]
    rfl
  · refine succeeds_of_serve rfl ha ?_ (Formed.with (.arrived hm))
    simp [queReadSamples, hgate, Nat.not_lt.mpr hl, Nat.pos_iff_ne_zero.mp h1, Nat.not_lt.mpr h2, h0, badHost]
  · refine succeeds_of_serve rfl ha ?_ (.arrived hm)
    rcases h with h | h <;> simp [queMap, mapLength_eq, mapReads_eq, hgate, h, Nat.not_lt.mpr hl]
  · refine succeeds_of_serve rfl ha ?_ (Formed.with (.arrived hm))
    have h0 : u.data ≠ [] := List.ne_nil_of_length_pos (by omega)
    simp [queMap, mapLength_eq, mapReads_eq, h0, hgate, Nat.not_lt.mpr hl, h, hb, -List.any_eq_true]
  · refine succeeds_of_serve rfl ha ?_ (Formed.with (.arrived hm))
    have h0 : u.data ≠ [] := List.ne_nil_of_length_pos (by omega)
    simp [queMap, mapLength_eq, mapReads_eq, h0, hgate, Nat.not_lt.mpr hl, h, hb, -List.any_eq_true]
  · refine succeeds_of_serve rfl ha ?_ (Formed.with (.arrived hm))
    have h0 : u.data ≠ [] := List.ne_nil_of_length_pos (by omega)
    simp [queMap, mapLength_eq, mapReads_eq, h0, hgate, Nat.not_lt.mpr hl, h, Nat.not_lt.mpr hk, hb, -List.any_eq_true]
  · refine succeeds_of_serve rfl ha ?_ (Formed.with (.arrived hm))
    have h0 : u.data ≠ [] := List.ne_nil_of_length_pos (by omega)
    simp [queMap, mapLength_eq, mapReads_eq, h0, hgate, Nat.not_lt.mpr hl, h, queueId, queueKind, limitMax, hq, show ¬16489 ≤ u.b16 2 by omega, Nat.not_lt.mpr h16, Nat.not_lt.mpr hmax, Nat.not_lt.mpr hmark, Nat.pos_iff_ne_zero.mp ht1,
      (Nat.not_lt.mpr ht50), Nat.not_lt.mpr hi10, Nat.not_lt.mpr hi1000, Nat.not_le.mpr hlt]
  · refine succeeds_of_serve rfl ha ?_ (.arrived hm)
    have h0 : u.data ≠ [] := List.ne_nil_of_length_pos (by omega)
    simp [queMap, mapLength_eq, mapReads_eq, h0, hgate, Nat.not_lt.mpr hl, h, queueId, hq]
  · refine succeeds_of_serve rfl ha ?_ (Formed.with (.arrived hm))
    have h0 : u.data ≠ [] := List.ne_nil_of_length_pos (by omega)
    simp [queMap, mapLength_eq, mapReads_eq, h0, hgate, Nat.not_lt.mpr hl, h, Nat.not_lt.mpr hk, hb, -List.any_eq_true]

end Sys2Proof.Machine
end

section
/-! PROOF. The rows of the queueing engine (chapter 08). -/
namespace Sys2Proof.Machine
set_option Elab.async false

/-- A refill never leaves more credit than the burst. -/
theorem shaperFill_credit_le (x : Shaper) : (shaperFill x).credit ≤ x.cfg.burst := Int.min_le_right _ _

/-- Below the burst a refill loses nothing: what is not a whole unit is carried. -/
theorem shaperFill_exact {x : Shaper} (h : (shaperFill x).credit < x.cfg.burst) :
    (shaperFill x).credit * 1000000 + (shaperFill x).remainder = x.credit * 1000000 + (x.remainder + refillAmount x.cfg : Nat) := by
  simp only [shaperFill] at h ⊢
  omega

theorem shaperRefill_of_look {n : Nat} {x : Shaper} {s : State} (h : Tab.look s.qme.shapers n = some x) :
    shaperRefill n s = settleShapers (onQme (fun m => { m with shapers := Tab.put m.shapers n (shaperFill (shaperDue x)) }) s) := by
  simp only [shaperRefill, h]

/-- The pending list becomes operational on a port that sends nothing. -/
theorem gclSwitch_of_idle {n : Nat} {late : Bool} {g : Gcl} {s : State} (h : (gates n s).pending = some g) (hp : (port n s).sending = none) :
    gclSwitch n late s = raise 0x0701 (leBytes 1 n ++ leBytes 1 (b2n late) ++ leBytes 2 g.entries.length ++ leBytes 8 g.base)
      (settlePort n (onGates n (fun x => { x with oper := some g, pending := none, entry := gclAt g (max (deviceTime s) g.base)
                                                  open_ := entryGates g (gclAt g (max (deviceTime s) g.base)) }) (settlePort n s))) := by
  simp only [gclSwitch, h, hp]

theorem gclAdvance_of_oper {n : Nat} {g : Gcl} {s : State} (h : (gates n s).oper = some g) {j : Nat}
    (hj : (if (gates n s).entry + 1 < g.entries.length ∧ entriesEnd g (gates n s).entry < g.cycle then (gates n s).entry + 1 else 0) = j) :
    gclAdvance n s = settlePort n (onGates n (fun x => { x with entry := j, open_ := entryGates g j }) (settlePort n s)) := by
  simp only [gclAdvance, h, hj]

theorem samplerTick_room {q : Nat} {s : State} (hq : q < 16489) (hi : sampleInterval q s ≠ 0) (hr : s.qme.samples.length < s.qme.ringSize) :
    samplerTick q s = onQme (fun m =>
      { m with samples := m.samples ++ [sampleBytes q s], writeIdx := inc 32 m.writeIdx, lostFlag := false }) s := by
  simp [samplerTick, queueId, hq, hi, Nat.not_le.mpr hr]

theorem samplerTick_full {q : Nat} {s : State} (hq : q < 16489) (hi : sampleInterval q s ≠ 0) (hr : s.qme.ringSize ≤ s.qme.samples.length) :
    samplerTick q s = raiseLimited 0x0702 0 (leBytes 4 (inc 32 s.qme.lostNow))
      (onQme (fun m => { m with lost := inc 32 m.lost, lostNow := inc 32 m.lostNow, lostFlag := true }) s) := by
  simp [samplerTick, queueId, hq, hi, hr]

/-- Settles O43: each row by the case of what it finds. -/
theorem queueRows : Obligations.QueueRows := by
  intro s n q
  refine ⟨fun x h => ?_, fun h => ?_, fun x => ⟨shaperFill_credit_le x, rfl, rfl, fun _ _ h => shaperFill_exact h⟩, rfl,
    fun p => ⟨Nat.min_le_right _ _, Nat.min_le_right _ _, rfl, rfl⟩, fun g h hp => ?_, fun g h => ?_, fun hq hi => ⟨fun hr => ?_, fun hr => ?_⟩⟩
  · exact congrArg Host.Outcome.next (shaperRefill_of_look (s := start s) h)
  · show Host.Outcome.next (shaperRefill n (start s)) = _
    simp [shaperRefill, h]
  · exact congrArg Host.Outcome.next (gclSwitch_of_idle (s := start s) (late := false) h hp)
  · exact congrArg Host.Outcome.next (gclAdvance_of_oper (s := start s) h rfl)
  · exact congrArg Host.Outcome.next (samplerTick_room (s := start s) hq hi hr)
  · exact congrArg Host.Outcome.next (samplerTick_full (s := start s) hq hi hr)

end Sys2Proof.Machine
end

section
/-! PROOF. The rows of the host link (chapters 10 and 17). -/
namespace Sys2Proof.Machine
set_option Elab.async false

/-! ### Messages that arrive -/

/-- A message that a row serves waits alone in an empty queue. -/
theorem drain_joinQueue_served {m : Msg} {s : State} (hv : ∀ n, m.via ≠ .pcie n) (hq : s.mbox.cmdQueue = []) (hu : unservable m s = false) :
    drain (joinQueue m s).mbox.cmdQueue (joinQueue m s) = onMbox (fun x => { x with cmdQueue := [m] }) s := by
  have hj : joinQueue m s = onMbox (fun x => { x with cmdQueue := [m] }) s := by
    unfold joinQueue
    split
    · exact absurd ‹_› (hv _)
    · simp [onMbox, hq]
  have hu' : unservable m (onMbox (fun x => { x with cmdQueue := [m] }) s) = false := hu
  rw [hj]
  show drain [m] _ = _
  unfold drain
  rw [hu', Bool.and_false]
  rfl

/-- One that no row serves is answered at once, where its transport is served. -/
theorem drain_joinQueue_unserved {m : Msg} {s : State} (hv : m.via = .uart) (hq : s.mbox.cmdQueue = []) (hc : carries .uart s = true)
    (hu : unservable m s = true) : drain (joinQueue m s).mbox.cmdQueue (joinQueue m s) =
      onMbox (fun x => { x with cmdQueue := [] }) (post .uart m.code m.tag ST.badCmd [] (onMbox (fun x => { x with cmdQueue := [m] }) s)) := by
  have hj : joinQueue m s = onMbox (fun x => { x with cmdQueue := [m] }) s := by
    unfold joinQueue
    simp [hv, onMbox, hq]
  have hu' : unservable m (onMbox (fun x => { x with cmdQueue := [m] }) s) = true := hu
  have hc' : carries .uart (onMbox (fun x => { x with cmdQueue := [m] }) s) = true := hc
  rw [hj]
  show drain [m] _ = _
  rw [drain, hv, hu', hc']
  rfl

/-- Messages held back leave in order when the endpoint is back in D0. -/
theorem foldl_msix {s : State} (hd : s.pcie.d3 = false) (hl : s.pcie.linkUp = true) (hp : s.pcie.perst = false) (hi : s.pcie.msi = false)
    (l : List Nat) : l.foldl (fun t v => msix v t) s = { s with out := s.out ++ l.map .msix } := by
  induction l generalizing s with
  | nil => simp
  | cons v l ih =>
    have hv : msix v s = { s with out := s.out ++ [.msix v] } := by simp [msix, hd, hl, hp, hi, emit]
    rw [List.foldl_cons, hv, ih (s := { s with out := s.out ++ [.msix v] }) hd hl hp hi]
    simp

/-! ### A boot of an unconfigured device -/

section
variable {s t : State}

theorem LinkOnly.onMem_congr (h : LinkOnly s t) (f : Mem → Mem) : LinkOnly (onMem f s) (onMem f t) := by
  unfold LinkOnly at h ⊢
  rw [h]
  rfl

theorem onPower_reports (h : s.power.reports = []) : onPower (fun p => { p with reports := [] }) s = s := by
  obtain ⟨m, p, r, d, pw⟩ := s
  obtain ⟨⟩ := pw
  simp only at h
  subst h
  rfl

/-- A start that found nothing to tell raises nothing. -/
theorem raiseReports_nil (h : s.power.reports = []) : raiseReports s = s := by
  simp only [raiseReports, h, List.foldl_nil, onPower_reports h]


theorem judgeBank_good {b : Nat} (h : bankCause (bank b s) = none) : judgeBank s b = s := by
  unfold judgeBank
  rw [h]

/-- No bank is replayed where none is good. -/
theorem replayBanks_none {rand : List (Nat × Bytes)} {tune : List (Nat × List (Nat × Nat × Retry))}
    (hp : pickBank s.mem.bankA s.mem.bankB = none) (ha : bankCause s.mem.bankA = none) (hb : bankCause s.mem.bankB = none) :
    replayBanks rand tune s = onMem (fun m => { m with active := none }) s := by
  have h0 : bankCause (bank 0 s) = none := by rw [bank, if_pos rfl, ha]
  have h1 : bankCause (bank 1 s) = none := by rw [bank, if_neg (by decide), hb]
  unfold replayBanks
  rw [judgeBank_good h0, judgeBank_good h1]
  simp only [hp]

/-- A boot from a confirmed slot in an old lifecycle state has nothing to tell. -/
theorem bootEvents_none (hf : s.power.fellBack = false) (ht : s.fwu.onTrial = false) (hl : s.sec.bootedLifecycle = s.sec.lifecycle)
    (hr : ¬runningVersion s < s.fleet.floor) (hb : s.power.brownoutLatch = false) : bootEvents s = s := by
  simp [bootEvents, hf, ht, hl, hr, hb]

theorem installKeys_nil {bad : List Nat} (h : s.sec.vaultSlots = []) : installKeys bad s = s := by
  simp only [installKeys, h, List.foldl_nil]

theorem expireContexts_nil (h : s.fleet.staged = []) : expireContexts s = s := by
  simp only [expireContexts, h, List.filter_nil, List.foldl_nil]

/-- What a boot restores of an unconfigured device with nothing to tell: no bank is in force. -/
theorem boot_restores_none {bad : List Nat} {tune : List (Nat × List (Nat × Nat × Retry))}
    (hs : s.power.state = .run) (hp : pickBank s.mem.bankA s.mem.bankB = none) (ha : bankCause s.mem.bankA = none)
    (hb : bankCause s.mem.bankB = none) (hv : s.sec.vaultSlots = []) (hst : s.fleet.staged = [])
    (hf : s.power.fellBack = false) (ht : s.fwu.onTrial = false) (hl : s.sec.bootedLifecycle = s.sec.lifecycle)
    (h4 : s.power.stage = 4) (hfl : s.fleet.floor ≤ s.power.version / 2 ^ 16) (hbo : s.power.brownoutLatch = false)
    (hr : s.power.reports = []) :
    raiseReports (bootEvents (expireContexts (installKeys bad (replayFor (s.power.state == .quiet) [] tune s)))) =
      onMem (fun m => { m with active := none }) s := by
  have hq : (s.power.state == .quiet) = false := by rw [hs]; rfl
  have h0 : replayFor (s.power.state == .quiet) [] tune s = onMem (fun m => { m with active := none }) s := by
    rw [hq]
    exact replayBanks_none hp ha hb
  have hrv : runningVersion (onMem (fun m => { m with active := none }) s) = s.power.version / 2 ^ 16 := by simp [runningVersion, fwVer, h4]
  rw [h0, installKeys_nil (s := onMem _ s) hv, expireContexts_nil (s := onMem _ s) hst,
    bootEvents_none (s := onMem _ s) hf ht hl (by rw [hrv]; exact Nat.not_lt.mpr hfl) hbo, raiseReports_nil (s := onMem _ s) hr]

/-- Firmware serves commands, and its cell pool is what the retired pages leave (R206, R299). -/
def poolTaken (pages : Nat) (s : State) : State :=
  onQme (fun q => { q with poolSize := s.mem.installed * 256 - 16 * pages, poolFree := s.mem.installed * 256 - 16 * pages, poolOwed := 0 })
    (onPower (fun p => { p with stage := 4 }) s)

/-- The boot of an unconfigured device takes its cell pool and serves commands; beyond that it raises its two events. -/
theorem bootReady_unconfigured {aon us pages : Nat} {tune : List (Nat × List (Nat × Nat × Retry))}
    (hs : s.power.state = .run) (hw : s.power.wake = .none) (hp : pickBank s.mem.bankA s.mem.bankB = none)
    (ha : bankCause s.mem.bankA = none) (hb : bankCause s.mem.bankB = none) (hv : s.sec.vaultSlots = []) (hst : s.fleet.staged = [])
    (hf : s.power.fellBack = false) (ht : s.fwu.onTrial = false) (hl : s.sec.bootedLifecycle = s.sec.lifecycle)
    (hfl : s.fleet.floor ≤ s.power.version / 2 ^ 16) (hbo : s.power.brownoutLatch = false) (hr : s.power.reports = []) :
    ∃ p q, bootReady aon us pages [] [] tune s = raise 0x0101 p (onMem (fun m => { m with active := none }) (raise 0x0004 q (poolTaken pages s))) := by
  generalize hxe : poolTaken pages s = x
  have hx := raise_link 0x0004 (bootPayload x) x
  have hy := boot_restores_none (s := raise 0x0004 (bootPayload x) x) (bad := []) (tune := tune)
    (by rw [hx.power, ← hxe]; exact hs) (by rw [hx.mem, ← hxe]; exact hp) (by rw [hx.mem, ← hxe]; exact ha) (by rw [hx.mem, ← hxe]; exact hb)
    (by rw [hx.sec, ← hxe]; exact hv) (by rw [hx.fleet, ← hxe]; exact hst) (by rw [hx.power, ← hxe]; exact hf) (by rw [hx.fwu, ← hxe]; exact ht)
    (by rw [hx.sec, ← hxe]; exact hl) (by rw [hx.power, ← hxe]; rfl) (by rw [hx.power, hx.fleet, ← hxe]; exact hfl)
    (by rw [hx.power, ← hxe]; exact hbo) (by rw [hx.power, ← hxe]; exact hr)
  have hw' : (s.power.wake == WakePhase.resuming) = false := by rw [hw]; rfl
  have hboot : ∀ z, raiseReports (bootEvents (expireContexts (installKeys [] (replayFor ((raise 0x0004 (bootPayload x) x).power.state == .quiet) []
      tune (raise 0x0004 (bootPayload x) x))))) = z → bootReady aon us pages [] [] tune s =
        raise 0x0101 (statePayload (pwrCode z.power.wakeFrom) (pwrCode z.power.state) 2 z) z := by
    rintro _ rfl
    simp only [bootReady, hw', ← hxe, poolTaken, Bool.false_eq_true, if_false, Bool.false_and]
  exact ⟨_, _, hboot _ hy⟩

end

/-- Settles O44: each row by the case of what it finds. -/
theorem linkRows : Obligations.LinkRows := by
  refine ⟨fun s e l hd hq hf => ?_, fun s mac e l hs hq hd hu => ?_, fun s mac v fleet index b hc => ⟨fun h => ?_, fun h hi => ⟨fun r hr => ?_, fun hr hw hq hu => ?_⟩⟩,
    fun s b hc hq => ⟨fun hu => ?_, fun hu => ?_⟩,
    fun s => ⟨rfl, rfl, fun hp h => ?_, fun hp hl => ⟨?_, fun hd h hm => ?_⟩, fun d addr src hd hp hs hl => ?_,
      fun aon us pages h3 hs hw hp ha hb hv hst hf ht hl hfl hbo hr hq => ?_⟩⟩
  · show Host.Outcome.next (eventDelivery false (start s)) = _
    simp [eventDelivery, reportLostPcie, hd, hq, hf]
  · show Host.Outcome.next (eventDelivery true (start s)) = _
    simp [eventDelivery, hs, hd, hq, hu]
    rfl
  · show Host.Outcome.next (umpFrame mac v fleet index b (start s)) = _
    have hc' : carries (.mgt mac) (start s) = true := hc
    have h' : fleetAccepts v fleet index (start s) = false := h
    simp [umpFrame, hc', h']
  · show Host.Outcome.next (umpFrame mac v fleet index b (start s)) = _
    have hc' : carries (.mgt mac) (start s) = true := hc
    have h' : fleetAccepts v fleet index (start s) = true := h
    have hr' : stored mac (parseMsg (.mgt mac) b).tag (start s) = some r := hr
    simp [umpFrame, hc', h', hi, hr']
  · show Host.Outcome.next (umpFrame mac v fleet index b (start s)) = _
    have hc' : carries (.mgt mac) (start s) = true := hc
    have h' : fleetAccepts v fleet index (start s) = true := h
    have hr' : stored mac (parseMsg (.mgt mac) b).tag (start s) = none := hr
    have hw' : ¬64 ≤ mgtWaiting (start s) := Nat.not_le.mpr hw
    have hj := drain_joinQueue_served (m := parseMsg (.mgt mac) b) (s := start s) (fun n h => nomatch h) hq hu
    simp [umpFrame, hc', h', hi, hr', hw', hj]
  · have hj := drain_joinQueue_served (m := parseMsg .uart b) (s := start s) (fun n h => nomatch h) hq hu
    have hc' : carries .uart (start s) = true := hc
    show Host.Outcome.next (if carries .uart (start s) then _ else _) = _
    simp only [hc', if_true]
    exact congrArg Host.Outcome.next hj
  · have hj := drain_joinQueue_unserved (m := parseMsg .uart b) (s := start s) rfl hq hc hu
    have hc' : carries .uart (start s) = true := hc
    refine ⟨_, congrArg Host.Outcome.next ((if_pos hc').trans hj), ?_, ?_⟩
    · simp [post, emit, onMbox, show ST.badCmd ≠ ST.pending by decide]
    · simp [post, emit, onMbox]
  · exact congrArg Host.Outcome.next (if_pos (by simp [hp, h]))
  · exact congrArg Host.Outcome.next (if_pos (by simp [hp, hl]))
  · have hf := foldl_msix (s := { start s with pcie := { s.pcie with d3 := false, held := [] } }) rfl hl h hm s.pcie.held
    exact congrArg Host.Outcome.next ((if_neg (by simp [hd])).trans hf)
  · have hs' : ¬(src = 0 ∧ reachable s = false) := fun ⟨h0, hr⟩ => by simp [hs h0] at hr
    have hl' : (0x0103, 0) ∈ s.mbox.limited := by simpa using hl
    show Host.Outcome.next (offBlock d addr src true (start s)) = _
    simp [offBlock, hd, hp, hs', hl']
  · obtain ⟨p, q, hb⟩ := bootReady_unconfigured (s := start s) (aon := aon) (us := us) (pages := pages) (tune := []) hs hw hp ha hb hv hst hf ht hl
      hfl hbo hr
    have he : exec (.umpReady aon us pages [] [] []) s =
        .next (drain (bootReady aon us pages [] [] [] (start s)).mbox.cmdQueue (bootReady aon us pages [] [] [] (start s))) := by
      show execUmpReady aon us pages [] [] [] s = _
      simp only [execUmpReady, start_power, h3, hs]
      rfl
    rw [hb] at he
    obtain ⟨-, h1, -⟩ := raise_kept 0x0101 p (onMem (fun m => { m with active := none }) (raise 0x0004 q (poolTaken pages (start s))))
    obtain ⟨-, h2, -⟩ := raise_kept 0x0004 q (poolTaken pages (start s))
    have hk := h1.trans (h2.trans hq)
    have hln := ((raise_link 0x0004 q (poolTaken pages (start s))).onMem_congr (fun m => { m with active := none })).trans
      (raise_link 0x0101 p (onMem (fun m => { m with active := none }) (raise 0x0004 q (poolTaken pages (start s)))))
    refine ⟨_, he.trans (congrArg Host.Outcome.next ((congrArg (drain · _) hk).trans (drain_nil hk))), ?_, hk⟩
    refine LinkOnly.trans ?_ hln
    rfl

end Sys2Proof.Machine
end

section
/-! PROOF. The rows of the rings (chapter 10). -/
namespace Sys2Proof.Machine
set_option Elab.async false

section
variable {s : State} {r : Nat} {e b : Bytes}

/-- A punted frame too long for the posted buffer is dropped and counted. -/
theorem puntFill_long {f : Frame} {l : List Frame} (hf : (queue (16464 + r) s).frames = f :: l) (h : rd e 8 2 < (f.vector ++ puntFrame f).length) :
    puntFill r e s = dropPunt r (onRing r (fun q => { q with drops := inc 16 q.drops }) s) := by
  simp only [puntFill, hf, h, if_true]

/-- One that fits is written, its entry behind it. -/
theorem puntFill_fits {f : Frame} {l : List Frame} (hf : (queue (16464 + r) s).frames = f :: l) (h : (f.vector ++ puntFrame f).length ≤ rd e 8 2) :
    puntFill r e s = ringSignal r (dropPunt r (onRing r (fun q => { q with cons := inc 32 q.cons })
      (emit (.dma (entryAddr r (ring r s).cons s) (puntEntry e f)) (emit (.dma (rd e 0 8) (f.vector ++ puntFrame f)) s)))) := by
  simp only [puntFill, hf, Nat.not_lt.mpr h, if_false]

/-- A punt ring that runs, with a frame and a posted buffer, fills it. -/
theorem exec_puntEntryFill (hr : r < 16) (hrun : ringRuns r s = true) (hpc : (ring r s).prod ≠ (ring r s).cons) (hw : dmaWaits r s = false)
    (hf : (queue (16464 + r) s).frames ≠ []) (fail : Nat) : exec (.puntEntryFill r e fail) s =
      .next (if fail = 0 then puntFill r e (start s) else awaitDma r (fail == 1) (ring r s).cons (start s)) := by
  refine congrArg Host.Outcome.next (if_neg ?_)
  have hrun' : ringRuns r (start s) = true := hrun
  have hw' : dmaWaits r (start s) = false := hw
  simp [hrun', hw', hpc, hf, show ¬15 < r by omega]

/-- An inject ring that runs, with an entry not yet read, reads it. -/
theorem exec_injectEntryProcess (h16 : 16 ≤ r) (h31 : r ≤ 31) (hrun : ringRuns r s = true) (hpn : (ring r s).prod ≠ (ring r s).next)
    (hw : dmaWaits r s = false) (fail : Nat) : exec (.injectEntryProcess r e b fail) s = .next (match fail with
      | 0 => injectFrame r (ring r s).next e b (injectOpen r e (start s))
      | 1 => awaitDma r true (ring r s).next (start s)
      | _ => awaitDma r false (ring r s).next (injectOpen r e (start s))) := by
  refine (congrArg Host.Outcome.next (if_neg ?_)).trans ?_
  · have hrun' : ringRuns r (start s) = true := hrun
    have hw' : dmaWaits r (start s) = false := hw
    simp [hrun', hw', hpn, Nat.not_lt.mpr h16, Nat.not_lt.mpr h31]
  · rfl

/-- A malformed inject entry is answered 18. -/
theorem injectFrame_malformed {i : Nat} (h : rd e 8 2 < 14 ∨ 9216 < rd e 8 2 ∨ 7 < rd e 14 1 ∨ 3 < rd e 11 1) :
    injectFrame r i e b s = injectDone r i 18 s := by
  have h' : (decide (rd e 8 2 < 14) || decide (9216 < rd e 8 2) || decide (7 < rd e 14 1) || decide (3 < rd e 11 1)) = true := by
    simp only [Bool.or_eq_true, decide_eq_true_eq]
    omega
  simp only [injectFrame, h', if_true]

/-- A DMA that ended in an error is retried for the ring that waited longest. -/
theorem dmaRetry_punt {d : DmaWait} {l : List DmaWait} (h : s.dma = d :: l) (he : (ring d.ring s).enable = true) (hr : d.ring < 16) :
    dmaRetry true e b s = puntFill d.ring e (onRing d.ring (fun q => { q with inProgress := false })
      (transientFault 0x00C5 (leBytes 2 d.ring) { s with dma := l })) := by
  have hln : LinkOnly { s with dma := l } (transientFault 0x00C5 (leBytes 2 d.ring) { s with dma := l }) := transientFault_link ..
  have he' : (ring d.ring (transientFault 0x00C5 (leBytes 2 d.ring) { s with dma := l })).enable = true := by
    rw [ring, hln.rings]
    exact he
  simp [dmaRetry, h, retryRecord, he', hr]

theorem dmaRetry_inject_lasting {d : DmaWait} {l : List DmaWait} (h : s.dma = d :: l) (he : (ring d.ring s).enable = true) (hr : 16 ≤ d.ring)
    (hr' : d.ring < 32) (hen : d.entry = true) : dmaRetry false e b s = ringStop d.ring 2 d.index
      (lastingRecord 0x00C5 (leBytes 2 d.ring) false { s with dma := l }) := by
  have hln : LinkOnly { s with dma := l } (lastingRecord 0x00C5 (leBytes 2 d.ring) false { s with dma := l }) := lastingRecord_link ..
  have he' : (ring d.ring (lastingRecord 0x00C5 (leBytes 2 d.ring) false { s with dma := l })).enable = true := by
    rw [ring, hln.rings]
    exact he
  simp [dmaRetry, h, retryRecord, he', Nat.not_lt.mpr hr, hr', hen]

end

/-- Settles O45: each row by the case of what it finds. -/
theorem ringRows : Obligations.RingRows := by
  intro s r
  refine ⟨fun hr hrun hpc hw f l hf e => ⟨fun h => ?_, fun h => ?_, ?_⟩,
    fun h16 h31 hrun hpn hw e b => ⟨fun h14 h92 h7 => ⟨fun h => ?_, fun h hp => ?_, fun h hp => ?_, fun h hp => ?_⟩, fun h => ?_, ?_⟩,
    fun i status stamp l e hd he hr ho => ?_, fun hu ht => ?_, fun hu => ?_, fun d l e b hd hen => ⟨fun hr => ?_, fun h16 h32 hent => ?_⟩,
    fun hd ok e b => ?_⟩
  · rw [exec_puntEntryFill hr hrun hpc hw (by simp [hf]), if_pos rfl, puntFill_long (s := start s) hf h]
  · rw [exec_puntEntryFill hr hrun hpc hw (by simp [hf]), if_pos rfl, puntFill_fits (s := start s) hf h]
    rfl
  · rw [exec_puntEntryFill hr hrun hpc hw (by simp [hf]), if_neg (by decide)]
    rfl
  · rw [exec_injectEntryProcess h16 h31 hrun hpn hw]
    simp [injectFrame, Nat.not_lt.mpr h14, Nat.not_lt.mpr h92, Nat.not_lt.mpr h7, h]
    rfl
  · rw [exec_injectEntryProcess h16 h31 hrun hpn hw]
    simp [injectFrame, Nat.not_lt.mpr h14, Nat.not_lt.mpr h92, Nat.not_lt.mpr h7, h, Nat.not_lt.mpr hp]
    rfl
  · rw [exec_injectEntryProcess h16 h31 hrun hpn hw]
    have hp' : station (rd e 12 2) (injectOpen r e (start s)) ≠ none := Option.isSome_iff_ne_none.mp hp
    simp [injectFrame, Nat.not_lt.mpr h14, Nat.not_lt.mpr h92, Nat.not_lt.mpr h7, h, hp']
    rfl
  · rw [exec_injectEntryProcess h16 h31 hrun hpn hw]
    have hp' : bss (rd e 12 2) (injectOpen r e (start s)) ≠ none := Option.isSome_iff_ne_none.mp hp
    simp [injectFrame, Nat.not_lt.mpr h14, Nat.not_lt.mpr h92, Nat.not_lt.mpr h7, h, hp']
    rfl
  · rw [exec_injectEntryProcess h16 h31 hrun hpn hw, injectFrame_malformed h]
    rfl
  · rw [exec_injectEntryProcess h16 h31 hrun hpn hw]
    rfl
  · show Host.Outcome.next (injectCompletion r (start s)) = _
    have hd' : (ring r (start s)).done = (i, status, stamp) :: l := hd
    have he' : (ring r (start s)).error = false := he
    have hr' : reachable (start s) = true := hr
    have ho' : ((ring r (start s)).open_.find? fun x => x.1 == i) = some (i, e) := ho
    simp only [injectCompletion, hd', he', hr', ho']
    rfl
  · exact congrArg Host.Outcome.next (if_neg (by simp [hu, ht]))
  · exact congrArg Host.Outcome.next (if_pos (by simp [hu]))
  · exact congrArg Host.Outcome.next (dmaRetry_punt (s := start s) hd hen hr)
  · exact congrArg Host.Outcome.next (dmaRetry_inject_lasting (s := start s) hd hen h16 h32 hent)
  · show Host.Outcome.next (dmaRetry ok e b (start s)) = _
    simp [dmaRetry, hd]

end Sys2Proof.Machine
end

section
/-! PROOF. The commands of the task dispatcher and the Nimbus cores (chapters 14 and 15). -/
namespace Sys2Proof.Machine
set_option Elab.async false

theorem fullEvent_kept (c : Nat) (s : State) : MboxKept s (fullEvent c s) := by
  unfold fullEvent
  split
  · exact raiseLimited_kept ..
  · exact .refl s

theorem queueItem_kept (c : Nat) (key : Option Nat) (w : Work) (s : State) : MboxKept s (queueItem c key w s) := by
  unfold queueItem
  dsimp only
  split
  · exact .of_eq rfl
  · exact MboxKept.trans (.of_eq rfl) (fullEvent_kept ..)

theorem clearPeaks_mbox (page c : Nat) (s : State) : (clearPeaks page c s).mbox = s.mbox := by
  unfold clearPeaks
  split <;> rfl

section
variable {c : Nat} {u : Ump} {s : State}

@[simp] theorem kernelBusy_arrived (n : Nat) : kernelBusy n (arrived c u s) = kernelBusy n s := by simp only [kernelBusy, arrived_tds]

@[simp] theorem kernelNewer_arrived (n : Nat) (b : Bytes) : kernelNewer n b (arrived c u s) = kernelNewer n b s := by
  simp only [kernelNewer, arrived_dsp]

@[simp] theorem classFull_arrived (n : Nat) : classFull n (arrived c u s) = classFull n s := by
  simp only [classFull, classStats, arrived_tds]

theorem capturing_arrived (ha : Arrives c u s) (n : Nat) : capturing n (arrived c u s) = capturing n s := by
  simp only [capturing, async_arrived ha]

/-- The length of DSP_RUN covers its parameter block. -/
theorem le_of_runBad (h : runBad u = false) : u.b16 36 ≤ 192 := by
  simp [runBad] at h
  omega
end

/-- Settles O46: the checks of each manager pass one by one. -/
theorem taskCommandsAnswer : Obligations.TaskCommandsAnswer := by
  intro u s hm
  refine ⟨fun ha hc hl => ⟨fun h => ?_, fun h h64 hmax hcls hen => ?_⟩,
    fun ha hc hl => ⟨fun h hk => ?_, fun h => ?_, fun h => ?_⟩,
    fun ha hl hk => ⟨fun h hc => ?_, fun hc hb => ⟨fun h => ?_, fun h hlc hbad hlen hnew => ⟨fun hs => ?_, fun hs => ?_⟩⟩⟩,
    fun ha hc hl hk h7 hbad hlk hlb hcap hfull hker => ?_⟩
  · have hg := hc.arrived ha
    refine succeeds_of_serve rfl ha ?_ (.arrived hm)
    simp [tdsSetHostRing, shortOp_of_le, hg, Nat.not_lt.mpr hl, h, hostRingReply]
  · have hg := hc.arrived ha
    refine succeeds_of_serve rfl ha ?_ (Formed.with (.arrived hm))
    have hcls' : ¬(¬u.b8 4 = 5 ∧ ¬u.b8 4 = 6) := by omega
    simp [tdsSetHostRing, shortOp_of_le, hg, Nat.not_lt.mpr hl, h, Nat.not_lt.mpr h64, Nat.not_lt.mpr hmax, hcls', hen, hostRingReply]
  · have hg := hc.arrived ha
    refine succeeds_of_serve rfl ha ?_ (by
      split
      · exact Formed.of_mbox (.arrived hm) (clearPeaks_mbox ..)
      · exact .arrived hm)
    simp [tdsGetStats, hg, Nat.not_lt.mpr hl, h, Nat.not_lt.mpr hk]
  · have hg := hc.arrived ha
    refine succeeds_of_serve rfl ha ?_ (by
      split
      · exact Formed.of_mbox (.arrived hm) (clearPeaks_mbox ..)
      · exact .arrived hm)
    simp [tdsGetStats, hg, Nat.not_lt.mpr hl, h]
  · have hg := hc.arrived ha
    refine succeeds_of_serve rfl ha ?_ (by
      split
      · exact Formed.of_mbox (.arrived hm) (clearPeaks_mbox ..)
      · exact .arrived hm)
    simp [tdsGetStats, hg, Nat.not_lt.mpr hl, h]
  · have hg := hc.arrived ha
    refine pends_of_serve rfl ha ?_ (.arrived hm)
    simp [dspLoadKernel, hg, Nat.not_lt.mpr hl, Nat.not_lt.mpr hk, h, pending]
  · have hg := hc.arrived ha
    refine pends_of_serve rfl ha ?_ (.arrived hm)
    simp [dspLoadKernel, hg, Nat.not_lt.mpr hl, Nat.not_lt.mpr hk, h, hb, pending]
  · have hg := hc.arrived ha
    rw [List.length_drop] at hlen
    refine pends_of_serve rfl ha ?_ (.arrived hm)
    simp [dspLoadKernel, hg, Nat.not_lt.mpr hl, Nat.not_lt.mpr hk, h, hb, hlc, hbad, hlen, hnew, hs, pending]
  · have hg := hc.arrived ha
    rw [List.length_drop] at hlen
    refine fails_of_serve (by decide) hm rfl ha ?_
    simp [dspLoadKernel, hg, Nat.not_lt.mpr hl, Nat.not_lt.mpr hk, h, hb, hlc, hbad, hlen, hnew, hs]
  · have hg := hc.arrived ha
    have hcap' : ¬(bit (u.b8 1) 0 = true ∧ capturing (u.b8 2) s = true) := fun ⟨h1, h2⟩ => by simp [hcap h1] at h2
    refine answers_of_ne_ok (st := ST.pending) (by decide) rfl ha ?_ (Formed.of_kept (Formed.with (.arrived hm)) (queueItem_kept ..))
    simp [dspRun, hg, Nat.not_lt.mpr hl, Nat.not_lt.mpr hk, h7, hbad, locked_arrived ha, hlk, hlb, capturing_arrived ha, hcap', hfull,
      Option.isSome_iff_ne_none.mp hker, le_of_runBad hbad, show ¬u.data.length < 40 by omega, pend]

end Sys2Proof.Machine
end

section
/-! PROOF. The rows of the task dispatcher (chapter 14). -/
namespace Sys2Proof.Machine
set_option Elab.async false

section
variable {s : State} {e b : Bytes}

/-! ### Host work items -/

/-- What a host item consumed counts, before it is judged. -/
def itemTaken (s : State) : State :=
  onTds (fun t => { t with consumed := inc 64 t.consumed, inFlight := t.inFlight + 1 })
    (onRing 32 (fun q => { q with cons := inc 32 q.cons }) (stopConsuming false s))

/-- The class of a host item: its own, or the ring's where it names none. -/
def itemClass (e : Bytes) (s : State) : Nat := if rd e 2 1 = 0 then s.tds.cls else rd e 2 1

/-- A good item joins its class. -/
theorem consumeItem_good (hf : rd e 0 2 = 1) (hc : itemClass e s = 5 ∨ itemClass e s = 6) (hfull : classFull (itemClass e s) s = false) :
    consumeItem e b s = queueItem (itemClass e s) (if bit (rd e 3 1) 0 then none else some (rd e 4 4 % 2 ^ 18))
      (.host (rd e 8 2) (rd e 10 2) (rd e 12 4) b (bit (rd e 3 1) 2) (bit (rd e 3 1) 1) (rd e 4 4) (rd e 24 8) (rd e 32 4)
        (rd e 40 8) (ring 32 s).cons) (itemTaken s) := by
  have hc' : ¬(¬itemClass e s = 5 ∧ ¬itemClass e s = 6) := by omega
  unfold itemClass at hc' hfull ⊢
  simp [consumeItem, hf, hc', hfull, itemTaken]

/-- A good item of a full class stays in the ring. -/
theorem consumeItem_full (hf : rd e 0 2 = 1) (hc : itemClass e s = 5 ∨ itemClass e s = 6) (hfull : classFull (itemClass e s) s = true) :
    consumeItem e b s = stopConsuming true s := by
  have hc' : ¬(¬itemClass e s = 5 ∧ ¬itemClass e s = 6) := by omega
  unfold itemClass at hc' hfull
  simp [consumeItem, hf, hc', hfull]

/-- An item of an unknown format is answered ST_BAD_PARAM. -/
theorem consumeItem_bad (hf : rd e 0 2 ≠ 1) : consumeItem e b s = complete
    (completionEntry (rd e 40 8) ST.badParam (itemClass e s) (rd e 4 4) (ring 32 s).cons 0 false s)
    (onTds (fun t => { t with bad := inc 32 t.bad }) (itemTaken s)) := by
  have hst : (ST.badParam != ST.ok) = true := by decide
  simp [consumeItem, hf, endHost, hst]
  rfl

/-- A ring that may consume judges its item by the room left. -/
theorem exec_workItemConsume {fail : Bool} (h : mayConsume s = true) : exec (.workItemConsume e b fail) s = .next (
    if s.tds.limit ≤ s.tds.inFlight then stopConsuming true (start s)
    else if fail then awaitDma 32 true (ring 32 s).cons (start s) else consumeItem e b (start s)) := by
  have h' : mayConsume (start s) = true := h
  exact congrArg Host.Outcome.next (if_neg (by simp [h']))

/-! ### Cores -/

/-- A free core with nothing to run stays free. -/
theorem startItem_none {core : Nat} (h : chooseItem (coreGroup core) s = none) : startItem core s = s := by
  simp [startItem, h]

/-- A free core is given the item chosen for it. -/
theorem startItem_some {core : Nat} {i : WorkItem} (hfree : coreFree core s = true) (h : chooseItem (coreGroup core) s = some i)
    (hk : ∀ a b c, i.work ≠ .kernel a b c) : startItem core s =
      settleClass i.cls (onClass i.cls (fun c => { c with peakWait := max c.peakWait ((runTime s - i.queuedAt) / 1000) })
        (onTds (fun t => { t with items := t.items.erase i, service := t.service ++ [⟨core, i, runTime s⟩] }) s)) := by
  simp only [startItem, hfree, h]
  rfl

theorem coreFree_of {core : Nat} (hc : core < 20) (hs : served core s = none) (hp : powered (if core < 16 then 2 else 7) s = true)
    (hh : s.tds.halted.contains (core + 8) = false) : coreFree core s = true := by
  have hh' : s.tds.halted.contains (haltNumber core) = false := hh
  simp only [coreFree, hc, hs, hp, hh']
  rfl

section
variable {core : Nat} {x : InService} {wr : Retry} (hs : served core s = some x) (hh : s.tds.halted.contains (core + 8) = false)
include hs hh

theorem endItem_firmware (h : x.item.work = .firmware) : endItem core wr s = releaseCore core s := by
  have hh' : s.tds.halted.contains (haltNumber core) = false := hh
  simp only [endItem, hs, hh', h]
  rfl

theorem endItem_precoder {n : Nat} {ok : Bool} (h : x.item.work = .precoder n ok) : endItem core wr s = newPrecoder n ok (releaseCore core s) := by
  have hh' : s.tds.halted.contains (haltNumber core) = false := hh
  simp only [endItem, hs, hh', h]
  rfl

theorem endItem_frame {f : Frame} {why : Nat} (h : x.item.work = .frame f why) : endItem core wr s = serveFrame f why (releaseCore core s) := by
  have hh' : s.tds.halted.contains (haltNumber core) = false := hh
  simp only [endItem, hs, hh', h]
  rfl
end

/-- A firmware core that halts is recorded and named. -/
theorem coreHalt_firmware {core cause pc : Nat} (h2 : 2 ≤ core) (h27 : core ≤ 27) (hh : s.tds.halted.contains core = false) :
    coreHalt core cause pc s = setFault 0x0005 (haltPayload core cause pc) (raise 0x0005 (haltPayload core cause pc)
      (onTds (fun t => { t with halted := t.halted ++ [core] }) s)) := by
  simp only [coreHalt, Nat.not_lt.mpr h27, h2, hh, if_true, if_false]
  rfl

/-! ### Threads -/

/-- A thread that is not known yet is taken by a core or waits. -/
theorem threadReady_new {g id priority : Nat} {bound : Option Nat} (hg : g ≤ 3) (hp : priority ≤ 63)
    (hb : g = 0 ∨ (s.power.limp = false ∧ bound ≠ none)) (hn : threadCount (threadGroup g s) < 1024)
    (hr : ((threadGroup g s).ready.any fun t => t.id == id) = false) (h0 : ((threadGroup g s).run0.any fun t => t.id == id) = false)
    (h1 : ((threadGroup g s).run1.any fun t => t.id == id) = false) :
    threadReady g id priority bound s = match coreFor ⟨id, g, priority, bound, runTime s⟩ g s with
      | some c => runThread g c ⟨id, g, priority, bound, runTime s⟩ false s
      | none => onGroup g (fun x => { x with ready := x.ready ++ [⟨id, g, priority, bound, runTime s⟩] }) s := by
  refine if_neg ?_
  simp only [Bool.or_eq_true, hr, h0, h1]
  have hb' : ¬((g != 0 && (s.power.limp || bound.isNone)) = true) := by
    rcases hb with rfl | ⟨hl, hb⟩
    · simp
    · simp [hl, hb]
  simp [hb', Nat.not_lt.mpr hg, Nat.not_lt.mpr hp, Nat.not_le.mpr hn]
end

/-- Settles O47: each row by the case of what it finds. -/
theorem taskRows : Obligations.TaskRows := by
  intro s
  refine ⟨fun e b hm => ⟨fun hl => ?_, fun hl => ?_, fun hl => ⟨fun hf hc hfull => ?_, fun hf hc hfull => ?_, fun hf => ?_⟩⟩,
    fun core hc hs hp hh => ⟨fun h => ?_, fun i h hk => ?_⟩,
    fun core x wr hs hh => ⟨fun h => ?_, fun n h => ?_, fun n h => ?_, fun f why h => ?_⟩,
    fun g id priority bound hg hp hb hn hr h0 h1 => ⟨fun c hc => ?_, fun hc => ?_⟩,
    fun g c o t ho ht => ?_, fun core cause pc h2 h27 hh => ?_⟩
  · exact exec_workItemConsume hm |>.trans (congrArg Host.Outcome.next (if_pos hl))
  · exact exec_workItemConsume hm |>.trans (congrArg Host.Outcome.next ((if_neg (Nat.not_le.mpr hl)).trans (if_pos rfl)))
  · exact (exec_workItemConsume hm).trans (congrArg Host.Outcome.next ((if_neg (Nat.not_le.mpr hl)).trans (consumeItem_good (s := start s) hf hc hfull)))
  · exact (exec_workItemConsume hm).trans (congrArg Host.Outcome.next ((if_neg (Nat.not_le.mpr hl)).trans (consumeItem_full (s := start s) hf hc hfull)))
  · exact (exec_workItemConsume hm).trans (congrArg Host.Outcome.next ((if_neg (Nat.not_le.mpr hl)).trans (consumeItem_bad (s := start s) hf)))
  · exact congrArg Host.Outcome.next (startItem_none (s := start s) h)
  · exact congrArg Host.Outcome.next (startItem_some (s := start s) (coreFree_of (s := start s) hc hs hp hh) h hk)
  · exact congrArg Host.Outcome.next (endItem_firmware (s := start s) hs hh h)
  · exact congrArg Host.Outcome.next (endItem_precoder (s := start s) hs hh h)
  · exact congrArg Host.Outcome.next (endItem_precoder (s := start s) hs hh h)
  · exact congrArg Host.Outcome.next (endItem_frame (s := start s) hs hh h)
  · refine congrArg Host.Outcome.next ((threadReady_new (s := start s) hg hp hb hn hr h0 h1).trans ?_)
    have hc' : coreFor ⟨id, g, priority, bound, runTime (start s)⟩ g (start s) = some c := hc
    rw [hc']
    rfl
  · refine congrArg Host.Outcome.next ((threadReady_new (s := start s) hg hp hb hn hr h0 h1).trans ?_)
    have hc' : coreFor ⟨id, g, priority, bound, runTime (start s)⟩ g (start s) = none := hc
    rw [hc']
    rfl
  · show Host.Outcome.next (sliceExpiry g c (start s)) = _
    have ho' : runningOn (threadGroup g (start s)) c = some o := ho
    have ht' : ((threadGroup g (start s)).ready.find? fun t => t.priority == o.priority && mayRun t g c (start s)) = some t := ht
    simp only [sliceExpiry, ho', ht']
  · exact congrArg Host.Outcome.next (coreHalt_firmware (s := start s) h2 h27 hh)

end Sys2Proof.Machine
end

section
/-! PROOF. Bundles of a Nimbus core and the ends of kernels (chapter 15). -/
namespace Sys2Proof.Machine
set_option Elab.async false

/-! ### Words of slot A -/

/-- A vector operation's word names its two registers and whether it saturates (R362, R366). -/
theorem slotA_vector {sat : Bool} {op a b : Nat} (h3 : op ≤ 3) (ha : a < 32) (hb : b < 32) :
    slotA (BitVec.ofNat 32 (b2n sat * 2 ^ 29 + op * 2 ^ 24 + a * 2 ^ 19 + b * 2 ^ 14)) = ⟨0, sat, op, a, b, 0, 0, false, 0, false⟩ := by
  have hs : b2n sat ≤ 1 := by cases sat <;> decide
  have hlt : b2n sat * 2 ^ 29 + op * 2 ^ 24 + a * 2 ^ 19 + b * 2 ^ 14 < 2 ^ 32 := by omega
  have h29 : bit (b2n sat * 2 ^ 29 + op * 2 ^ 24 + a * 2 ^ 19 + b * 2 ^ 14) 29 = sat := by
    rw [bit, Nat.testBit_eq_decide_div_mod_eq]
    cases sat <;> simp [b2n] <;> omega
  simp only [slotA, BitVec.toNat_ofNat, Nat.mod_eq_of_lt hlt, h29]
  simp only [bit, Nat.testBit_eq_decide_div_mod_eq, SlotA.mk.injEq]
  refine ⟨?_, trivial, ?_, ?_, ?_, ?_, ?_, ?_, ?_, ?_⟩ <;> simp <;> omega

/-- A multiply-accumulate's word names its registers, its accumulator and whether it starts at zero (R363). -/
theorem slotA_mac {sat z : Bool} {op a b k : Nat} (h1 : op ≤ 1) (ha : a < 32) (hb : b < 32) (hk : k < 8) :
    slotA (BitVec.ofNat 32 (2 ^ 30 + b2n sat * 2 ^ 29 + op * 2 ^ 24 + a * 2 ^ 19 + b * 2 ^ 14 + k * 2 ^ 6 + b2n z)) =
      ⟨1, sat, op, a, b, 0, k, false, 0, z⟩ := by
  have hs : b2n sat ≤ 1 := by cases sat <;> decide
  have hz : b2n z ≤ 1 := by cases z <;> decide
  have hlt : 2 ^ 30 + b2n sat * 2 ^ 29 + op * 2 ^ 24 + a * 2 ^ 19 + b * 2 ^ 14 + k * 2 ^ 6 + b2n z < 2 ^ 32 := by omega
  have h29 : bit (2 ^ 30 + b2n sat * 2 ^ 29 + op * 2 ^ 24 + a * 2 ^ 19 + b * 2 ^ 14 + k * 2 ^ 6 + b2n z) 29 = sat := by
    rw [bit, Nat.testBit_eq_decide_div_mod_eq]
    cases sat <;> simp [b2n] <;> split <;> omega
  have h0 : bit (2 ^ 30 + b2n sat * 2 ^ 29 + op * 2 ^ 24 + a * 2 ^ 19 + b * 2 ^ 14 + k * 2 ^ 6 + b2n z) 0 = z := by
    rw [bit, Nat.testBit_eq_decide_div_mod_eq]
    cases z <;> simp [b2n] <;> split <;> omega
  simp only [slotA, BitVec.toNat_ofNat, Nat.mod_eq_of_lt hlt, h29, h0]
  simp only [bit, Nat.testBit_eq_decide_div_mod_eq, SlotA.mk.injEq]
  refine ⟨?_, trivial, ?_, ?_, ?_, ?_, ?_, ?_, ?_, trivial⟩ <;> simp <;> omega

/-! ### A bundle outside loops -/

section
variable {c : NimbusCore}

/-- Outside loops none expires. -/
theorem expireLoops_nil (h : c.loops = []) : expireLoops c = c := by
  cases c
  simp only at h
  subst h
  rfl

theorem advance_nil {f : Flowing} {d : NimbusCore} {n : Nat} (hf : f = .on ∨ f = .halt) (h : d.loops = []) :
    advance n f d = { d with pc := n + 8 } := by
  cases d
  simp only at h
  subst h
  rcases hf with rfl | rfl <;> rfl

/-- A bundle with slot A alone. -/
theorem runBundle_slotA (hl : c.loops = []) (hp : c.pc ≤ 65528) {w : Nat} (hA : leNat (Cells.readAll c.imem c.pc 4) = w)
    (hB : leNat (Cells.readAll c.imem (c.pc + 4) 4) = 0) {x : SlotWrite} (hx : execSlotA (BitVec.ofNat 32 w) c = .ok x)
    (hk : (x.apply c).loops = []) : runBundle c = .ok ({ x.apply c with pc := c.pc + 8 }, false) := by
  have hB0 : execSlotB (BitVec.ofNat 32 0) c = .ok (.none, .on) := rfl
  have hw : writeConflict x .none = false := by simp [writeConflict, SlotWrite.none]
  have hpc : portConflict (BitVec.ofNat 32 w) (BitVec.ofNat 32 0) = false := by
    simp [portConflict, slotBLoads]
  have hadv : advance c.pc .on (x.apply (SlotWrite.none.apply c)) = { x.apply c with pc := c.pc + 8 } := advance_nil (.inl rfl) hk
  simp only [runBundle, expireLoops_nil hl, Nat.not_lt.mpr hp, if_false, hA, hB, hx, hB0, hpc, hw, hadv]
  rfl

/-- A bundle without slot A whose slot B halts. -/
theorem runBundle_halt (hl : c.loops = []) (hp : c.pc ≤ 65528) (hA : leNat (Cells.readAll c.imem c.pc 4) = 0)
    (hB : leNat (Cells.readAll c.imem (c.pc + 4) 4) = 0xF0000000) : runBundle c = .ok ({ c with pc := c.pc + 8 }, true) := by
  have hA0 : execSlotA (BitVec.ofNat 32 0) c = .ok .none := rfl
  have hB0 : execSlotB (BitVec.ofNat 32 0xF0000000) c = .ok (.none, .halt) := rfl
  have hpc : portConflict (BitVec.ofNat 32 0) (BitVec.ofNat 32 0xF0000000) = false := rfl
  have hadv : advance c.pc .halt c = { c with pc := c.pc + 8 } := advance_nil (.inr rfl) hl
  have hw : writeConflict .none .none = false := rfl
  simp only [runBundle, expireLoops_nil hl, Nat.not_lt.mpr hp, if_false, hA, hB, hA0, hB0, hpc, hw]
  exact congrArg (fun d => Except.ok (d, true)) hadv

/-- A bundle without slot A whose slot B loads a V register from outside data memory. -/
theorem runBundle_memory_fault (hl : c.loops = []) (hp : c.pc ≤ 65528) (hA : leNat (Cells.readAll c.imem c.pc 4) = 0)
    (hB : leNat (Cells.readAll c.imem (c.pc + 4) 4) = 2 ^ 28) (hbad : dataBad (pReg c 0).toNat 4 64 = true) :
    runBundle c = .error (2, (pReg c 0).toNat) := by
  have hA0 : execSlotA (BitVec.ofNat 32 0) c = .ok .none := rfl
  have haddr : addressing (2 ^ 28) c = some ((pReg c 0).toNat, none) := by
    have : addressing (2 ^ 28) c = some ((pReg c 0 + BitVec.ofInt 32 0).toNat, none) := rfl
    rw [this, show BitVec.ofInt 32 0 = 0#32 from rfl, BitVec.add_zero]
  have hB0 : execSlotB (BitVec.ofNat 32 (2 ^ 28)) c = .error (2, (pReg c 0).toNat) := by
    have : execSlotB (BitVec.ofNat 32 (2 ^ 28)) c = execVector (2 ^ 28) true c := rfl
    rw [this]
    simp only [execVector, haddr, hbad, if_true]
  have hpc : portConflict (BitVec.ofNat 32 0) (BitVec.ofNat 32 (2 ^ 28)) = false := rfl
  simp only [runBundle, expireLoops_nil hl, Nat.not_lt.mpr hp, if_false, hA, hB, hA0, hB0, hpc]
  rfl

/-- A bundle whose slot A is a reserved operation. -/
theorem runBundle_reserved (hl : c.loops = []) (hp : c.pc ≤ 65528) (hA : leNat (Cells.readAll c.imem c.pc 4) = 2 ^ 28) :
    runBundle c = .error (4, c.pc) := by
  have hA0 : execSlotA (BitVec.ofNat 32 (2 ^ 28)) c = .error (4, c.pc) := rfl
  simp only [runBundle, expireLoops_nil hl, Nat.not_lt.mpr hp, if_false, hA, hA0]

/-- Slot A's vector operations (R362). -/
theorem execSlotA_vector {sat : Bool} {op a b : Nat} (h1 : 1 ≤ op) (h3 : op ≤ 3) (ha : a < 32) (hb : b < 32) :
    execSlotA (BitVec.ofNat 32 (b2n sat * 2 ^ 29 + op * 2 ^ 24 + a * 2 ^ 19 + b * 2 ^ 14)) c = .ok ⟨writeV a sat ((List.range 32).map fun i =>
      if op = 1 then vLane (vReg c a) i + vLane (vReg c b) i else if op = 2 then vLane (vReg c a) i - vLane (vReg c b) i
      else roundEven (vLane (vReg c a) i * vLane (vReg c b) i) 15), [a], [], []⟩ := by
  have hw : BitVec.ofNat 32 (b2n sat * 2 ^ 29 + op * 2 ^ 24 + a * 2 ^ 19 + b * 2 ^ 14) ≠ 0 := by
    intro h
    have := slotA_vector (sat := sat) h3 ha hb
    rw [h] at this
    have hop := congrArg SlotA.op this
    simp only [slotA] at hop
    simp at hop
    omega
  have hr : slotAReserved ⟨0, sat, op, a, b, 0, 0, false, 0, false⟩ = false := by
    simp [slotAReserved]
    omega
  simp only [execSlotA, hw, if_false, slotA_vector h3 ha hb, hr]
  obtain rfl | rfl | rfl : op = 1 ∨ op = 2 ∨ op = 3 := by omega
  all_goals rfl

/-- Slot A's multiply-accumulates VMAC and VMSU (R363). -/
theorem execSlotA_mac {sat z : Bool} {op a b k : Nat} (h1 : op ≤ 1) (ha : a < 32) (hb : b < 32) (hk : k < 8) :
    execSlotA (BitVec.ofNat 32 (2 ^ 30 + b2n sat * 2 ^ 29 + op * 2 ^ 24 + a * 2 ^ 19 + b * 2 ^ 14 + k * 2 ^ 6 + b2n z)) c =
      .ok ⟨writeAcc k sat ((List.range 32).map fun i =>
        if op = 1 ∧ z = false then (if z then 0 else accLane (c.acc.getD k []) i) - vLane (vReg c a) i * vLane (vReg c b) i
        else (if z then 0 else accLane (c.acc.getD k []) i) + vLane (vReg c a) i * vLane (vReg c b) i), [], [k], []⟩ := by
  have hw : BitVec.ofNat 32 (2 ^ 30 + b2n sat * 2 ^ 29 + op * 2 ^ 24 + a * 2 ^ 19 + b * 2 ^ 14 + k * 2 ^ 6 + b2n z) ≠ 0 := by
    intro h
    have := slotA_mac (sat := sat) (z := z) h1 ha hb hk
    rw [h] at this
    have hg : (slotA 0).grp = 1 := congrArg SlotA.grp this
    exact absurd hg (by decide)
  have hr : slotAReserved ⟨1, sat, op, a, b, 0, k, false, 0, z⟩ = false := by
    obtain rfl | rfl : op = 0 ∨ op = 1 := by omega
    all_goals rfl
  simp only [execSlotA, hw, if_false, slotA_mac h1 ha hb hk, hr]
  obtain rfl | rfl : op = 0 ∨ op = 1 := by omega
  all_goals cases z <;> simp [accumulate, macProduct]
end

section
variable {s : State} {n : Nat}

/-- A core that can issue runs its bundle, and a cycle is counted. -/
theorem exec_bundleIssue (hn : n ≤ 3) (hi : issues n s = true) :
    exec (.bundleIssue n) s = .next (match runBundle { nimbus n s with cycles := (nimbus n s).cycles + 1 } with
      | .ok (d, halted) => if halted then endKernel n 0 0 (setNimbus n d (start s)) else setNimbus n d (start s)
      | .error e => endKernel n e.1 e.2 (setNimbus n { nimbus n s with cycles := (nimbus n s).cycles + 1 } (start s))) := by
  have hi' : issues n (start s) = true := hi
  exact congrArg Host.Outcome.next (if_neg (by simp [Nat.not_lt.mpr hn, hi']))

theorem exec_bundleIssue_ok (hn : n ≤ 3) (hi : issues n s = true) {d : NimbusCore}
    (h : runBundle { nimbus n s with cycles := (nimbus n s).cycles + 1 } = .ok (d, false)) :
    exec (.bundleIssue n) s = .next (setNimbus n d (start s)) := by
  rw [exec_bundleIssue hn hi, h]
  rfl

theorem exec_bundleIssue_halt (hn : n ≤ 3) (hi : issues n s = true) {d : NimbusCore}
    (h : runBundle { nimbus n s with cycles := (nimbus n s).cycles + 1 } = .ok (d, true)) :
    exec (.bundleIssue n) s = .next (endKernel n 0 0 (setNimbus n d (start s))) := by
  rw [exec_bundleIssue hn hi, h]
  rfl

theorem exec_bundleIssue_fault (hn : n ≤ 3) (hi : issues n s = true) {e : BundleFault}
    (h : runBundle { nimbus n s with cycles := (nimbus n s).cycles + 1 } = .error e) :
    exec (.bundleIssue n) s = .next (endKernel n e.1 e.2 (setNimbus n { nimbus n s with cycles := (nimbus n s).cycles + 1 } (start s))) := by
  rw [exec_bundleIssue hn hi, h]

theorem releaseCore_mbox (core : Nat) (s : State) : (releaseCore core s).mbox = s.mbox := by
  unfold releaseCore
  split <;> rfl

/-- A kernel's end: its output at HALT, its core free and cleared, its command completed. -/
theorem endKernel_of_run {k : KernelRun} {a : AsyncCmd} {end_ addr : Nat} (hr : (nimbus n s).run = some k)
    (ha : findOwn 0x0B02 (k.via, k.tag) s = some a) :
    let wrote := if end_ = 0 then k.outLen else 0
    let x := releaseCore (16 + n) (setNimbus n .reset
      { s with out := s.out ++ (if wrote = 0 then [] else [.dma k.host (Cells.readAll (nimbus n s).dmem k.outAddr wrote)]) })
    endKernel n end_ addr s = endAsync a ST.ok (leBytes 1 end_ ++ leBytes 1 n ++ leBytes 1 (b2n (nimbus n s).ov) ++ leBytes 1 0
        ++ leBytes 4 (nimbus n s).cycles ++ leBytes 4 (if end_ = 0 then 0 else addr) ++ leBytes 4 wrote) (if end_ = 0 then x else
      raise 0x0B01 (kernelFaultPayload k.slot n end_ k.id addr (nimbus n s).cycles) x) := by
  intro wrote x
  have hx : x = releaseCore (16 + n) (setNimbus n .reset
      (if wrote = 0 then s else emit (.dma k.host (Cells.readAll (nimbus n s).dmem k.outAddr wrote)) s)) := by
    by_cases hw : wrote = 0 <;> simp [x, hw, emit]
  have hm : x.mbox = s.mbox := releaseCore_mbox _ _
  have hf : findOwn 0x0B02 (k.via, k.tag) (if end_ = 0 then x else
      raise 0x0B01 (kernelFaultPayload k.slot n end_ k.id addr (nimbus n s).cycles) x) = some a := by
    rw [← ha]
    split
    · simp only [findOwn, hm]
    · obtain ⟨-, -, h, -⟩ := raise_kept 0x0B01 (kernelFaultPayload k.slot n end_ k.id addr (nimbus n s).cycles) x
      simp only [findOwn, h, hm]
  rw [hx] at hf ⊢
  simp only [endKernel, hr, hf, wrote]
end

/-- Settles O48: each bundle by its words, each end by its cause. -/
theorem nimbusRows : Obligations.NimbusRows := by
  intro s n hn
  refine ⟨fun hi hl hp => ⟨fun sat op a b h1 h3 ha hb hB hA => ?_, fun sat z op a b k h1 ha hb hk hB hA => ?_, fun hA hB => ?_, fun hA hB hbad => ?_,
    fun hA => ?_⟩, fun k a end_ addr hr ha => ?_, fun k hr hk => ?_, fun hr => ?_, ?_, fun a ha h3 => ⟨fun h => ?_, fun h => ?_, fun h => ?_⟩⟩
  · exact exec_bundleIssue_ok hn hi (runBundle_slotA (c := { nimbus n s with cycles := (nimbus n s).cycles + 1 }) hl hp hA hB
      (execSlotA_vector h1 h3 ha hb) hl)
  · exact exec_bundleIssue_ok hn hi (runBundle_slotA (c := { nimbus n s with cycles := (nimbus n s).cycles + 1 }) hl hp hA hB
      (execSlotA_mac h1 ha hb hk) hl)
  · exact exec_bundleIssue_halt hn hi (runBundle_halt (c := { nimbus n s with cycles := (nimbus n s).cycles + 1 }) hl hp hA hB)
  · exact exec_bundleIssue_fault hn hi (runBundle_memory_fault (c := { nimbus n s with cycles := (nimbus n s).cycles + 1 }) hl hp hA hB hbad)
  · exact exec_bundleIssue_fault hn hi (runBundle_reserved (c := { nimbus n s with cycles := (nimbus n s).cycles + 1 }) hl hp hA)
  · exact endKernel_of_run hr ha
  · refine congrArg Host.Outcome.next (if_pos ?_)
    have hr' : (nimbus n (start s)).run = some k := hr
    have hk' : k.limit ≤ (nimbus n (start s)).cycles := hk
    simp [hn, hr', hk']
  · refine congrArg Host.Outcome.next (if_neg ?_)
    have hr' : (nimbus n (start s)).run = none := hr
    simp [hr']
  · exact congrArg Host.Outcome.next (if_pos (by simp [hn]))
  all_goals
    have ha' : firstAsync 0x0B01 (start s) = some a := ha
    have hp : kernelPayload (rd a.ext 1 1) (start s) = kernelPayload (rd a.ext 1 1) s := rfl
    show Host.Outcome.next (kernelLoadDone .ok (start s)) = _
    simp [kernelLoadDone, ha', h, hp, feltWrite_ok_above (show 0x4000 ≤ kernelAddr (rd a.ext 1 1) by unfold kernelAddr; omega)]

end Sys2Proof.Machine
end

section
/-! PROOF. The commands of the low-rate radio (chapter 16). -/
namespace Sys2Proof.Machine
set_option Elab.async false

theorem poolLow_kept (s : State) : MboxKept s (poolLow s) := by
  unfold poolLow
  split
  · exact raiseLimited_kept ..
  · exact .refl s

theorem enterCells_kept (q n : Nat) (d : Bool) (s : State) : MboxKept s (enterCells q n d s) := by
  unfold enterCells
  dsimp only
  split
  · exact MboxKept.trans (.of_eq rfl) (poolLow_kept _)
  · exact .of_eq rfl

section
variable {c : Nat} {u : Ump} {s : State}

@[simp] theorem drzNode_arrived (n : Nat) : drzNode n (arrived c u s) = drzNode n s := by simp only [drzNode, arrived_drz]

@[simp] theorem drzQueuedFor_arrived (n : Nat) : drzQueuedFor n (arrived c u s) = drzQueuedFor n s := by simp only [drzQueuedFor, arrived_drz]

@[simp] theorem enterTest_arrived (q n : Nat) (m d : Bool) : enterTest q n m d (arrived c u s) = enterTest q n m d s := by
  simp only [enterTest, queue_arrived, arrived_qme]

@[simp] theorem drzMeshBytes_arrived (op : Nat) : drzMeshBytes op (arrived c u s) = drzMeshBytes op s := by
  simp only [drzMeshBytes, arrived_drz]

theorem Formed.keepOne {k : Nat} (h : Formed s) : Formed (keepOne k u s) := h.with
end

/-- Settles O49: the checks of each manager pass one by one. -/
theorem drizzleCommandsAnswer : Obligations.DrizzleCommandsAnswer := by
  intro u s hm h8
  refine ⟨fun ha hc hl => ⟨fun h => ?_, fun h hb => ?_⟩, fun ha hc hl => ⟨fun h => ?_, fun h ha7 hp hg hg' hst hst' hr => ?_⟩,
    fun ha hc hl => ⟨fun h => ?_, fun h h1 h15 h10 h7 hp => ?_⟩,
    fun ha hc hl hi => ⟨fun h hsh hk hp hroom => ?_, fun n hn => ⟨fun h hq => ?_, fun h => ?_⟩⟩,
    fun ha hc hl1 hl2 hl hk hp hkey hon hcsl h5 hlim => ⟨fun h hroom => ?_, fun h => ?_⟩⟩ <;> have hgt := hc.arrived ha
  · refine succeeds_of_serve rfl ha ?_ (.arrived hm)
    simp [drzSetChannel, hgt, h8, Nat.not_lt.mpr hl, h]
  · refine succeeds_of_serve rfl ha ?_ (Formed.keepOne (Formed.with (.arrived hm)))
    simp [drzSetChannel, hgt, h8, Nat.not_lt.mpr hl, h, hb]
  · refine succeeds_of_serve rfl ha ?_ (.arrived hm)
    simp [drzSetCsl, hgt, h8, Nat.not_lt.mpr hl, h]
  · refine succeeds_of_serve rfl ha ?_ (Formed.keepOne (Formed.with (.arrived hm)))
    have hp' : ¬(¬u.b16 2 = 0 ∧ (u.b16 2 < 10 ∨ 1000 < u.b16 2)) := by omega
    simp [drzSetCsl, hgt, h8, Nat.not_lt.mpr hl, h, Nat.not_lt.mpr ha7, hp', Nat.not_lt.mpr hg, Nat.not_lt.mpr hg', hst, Nat.not_lt.mpr hst', Nat.not_lt.mpr hr]
  · refine succeeds_of_serve rfl ha ?_ (.arrived hm)
    simp [drzSetMesh, hgt, h8, Nat.not_lt.mpr hl, h]
  · refine succeeds_of_serve rfl ha ?_ (Formed.keepOne (Formed.with (.arrived hm)))
    simp [drzSetMesh, hgt, h8, Nat.not_lt.mpr hl, h, Nat.pos_iff_ne_zero.mp h1, Nat.not_lt.mpr h15, Nat.not_lt.mpr h10, Nat.not_lt.mpr h7, Nat.not_lt.mpr hp]
  · refine succeeds_of_serve rfl ha ?_ (Formed.with (.arrived hm))
    have hp' : ¬(¬u.b16 16 = 0 ∧ (u.b16 16 < 10 ∨ 1000 < u.b16 16)) := by omega
    have hk' : ¬(¬u.b16 14 = 0xFFFF ∧ (keyHandleOk (u.b16 14) = false ∨ ¬u.b16 14 / 8192 = 1)) := by
      rintro ⟨h1, h2⟩
      rcases hk with hk | ⟨hk, hd⟩
      · exact h1 hk
      · simp [hk, hd] at h2
    have hroom' : ¬(drzNode (u.b16 2) s = none ∧ 4096 ≤ s.drz.nodes.length) := by
      rintro ⟨h1, h2⟩
      simp [h1] at hroom
      omega
    simp [drzNodeSet, hgt, h8, Nat.not_lt.mpr hl, Nat.not_lt.mpr hi, h, hsh, hk', hp', hroom']
  · refine succeeds_of_serve rfl ha ?_ (Formed.cfgDelete (Formed.with (.arrived hm)))
    simp [drzNodeSet, hgt, h8, Nat.not_lt.mpr hl, Nat.not_lt.mpr hi, h, hn, hq]
  · refine succeeds_of_serve rfl ha ?_ (.arrived hm)
    simp [drzNodeSet, hgt, h8, Nat.not_lt.mpr hl, Nat.not_lt.mpr hi, h, hn]
  · refine pends_of_serve rfl ha ?_ (Formed.of_kept (Formed.with (.arrived hm)) (enterCells_kept ..))
    have hlen : (field u.data 12 (u.b16 10)).length = u.b16 10 := by
      rw [field, List.length_take, List.length_drop]
      omega
    have h12 : ¬u.data.length < 12 := by omega
    simp [drzSend, hgt, h8, hk, Nat.not_lt.mpr hp, h, hkey, hon, hcsl, drzOverhead, drzQueueId, drzSendKey, h12, hlen, Nat.not_lt.mpr hlim,
      Nat.pos_iff_ne_zero.mp hl1, Nat.not_lt.mpr hl2, Nat.not_lt.mpr hl, hlen ▸ hroom, pending]
  · refine fails_of_serve (by decide) hm rfl ha ?_
    have h12 : ¬u.data.length < 12 := by omega
    simp [drzSend, h8, hk, Nat.not_lt.mpr hp, h, hkey, drzSendKey, h12]

end Sys2Proof.Machine
end

section
/-! PROOF. What the forwarding of a frame leaves alone; the exchange, reception and flooding of the low-rate radio (chapter 16). -/
namespace Sys2Proof.Machine
set_option Elab.async false

/-! ### What queues, ports, rings and the link hold -/

/-- Nothing but what the ports, the queues, the rings and the link hold has changed. -/
def ForwardingOnly (s t : State) : Prop :=
  t = { s with mbox := t.mbox, pcie := t.pcie, evr := t.evr, out := t.out, rings := t.rings, wire := t.wire, qme := t.qme }

theorem ForwardingOnly.refl (s : State) : ForwardingOnly s s := rfl

theorem LinkOnly.forwarding {s t : State} (h : LinkOnly s t) : ForwardingOnly s t := by
  unfold LinkOnly at h
  unfold ForwardingOnly
  rw [h]

theorem WireSide.forwarding {s t : State} (h : WireSide s t) : ForwardingOnly s t := by
  unfold WireSide at h
  unfold ForwardingOnly
  rw [h]

section
variable {s t w : State}

theorem ForwardingOnly.trans (h : ForwardingOnly s t) (k : ForwardingOnly t w) : ForwardingOnly s w := by
  unfold ForwardingOnly at *
  rw [k, h]

section
variable (h : ForwardingOnly s t)
include h

theorem ForwardingOnly.drz : t.drz = s.drz := by rw [h]
theorem ForwardingOnly.clock : t.clock = s.clock := by rw [h]
theorem ForwardingOnly.power : t.power = s.power := by rw [h]
theorem ForwardingOnly.radio : t.radio = s.radio := by rw [h]
theorem ForwardingOnly.modem : t.modem = s.modem := by rw [h]
theorem ForwardingOnly.air : t.air = s.air := by rw [h]
theorem ForwardingOnly.mls : t.mls = s.mls := by rw [h]
theorem ForwardingOnly.mem : t.mem = s.mem := by rw [h]
theorem ForwardingOnly.sec : t.sec = s.sec := by rw [h]
theorem ForwardingOnly.tds : t.tds = s.tds := by rw [h]

theorem ForwardingOnly.ite {c : Prop} [Decidable c] (k : ForwardingOnly s w) : ForwardingOnly s (if c then t else w) := by
  split
  · exact h
  · exact k

theorem ForwardingOnly.onQme (f : Qme → Qme) : ForwardingOnly s (Machine.onQme f t) := h.trans rfl
theorem ForwardingOnly.onQueue (q : Nat) (f : QueueInfo → QueueInfo) : ForwardingOnly s (Machine.onQueue q f t) := h.trans rfl
theorem ForwardingOnly.onWire (f : Wire → Wire) : ForwardingOnly s (Machine.onWire f t) := h.trans rfl
theorem ForwardingOnly.onPort (p : Nat) (f : Port → Port) : ForwardingOnly s (Machine.onPort p f t) := h.trans rfl
theorem ForwardingOnly.onRing (r : Nat) (f : Ring → Ring) : ForwardingOnly s (Machine.onRing r f t) := h.trans rfl
theorem ForwardingOnly.emit (o : Out) : ForwardingOnly s (Machine.emit o t) := h.trans rfl
theorem ForwardingOnly.link (k : LinkOnly t w) : ForwardingOnly s w := h.trans k.forwarding

theorem ForwardingOnly.countPort (p i n : Nat) : ForwardingOnly s (Machine.countPort p i n t) := .ite h (h.onPort ..)

theorem ForwardingOnly.settleXoff : ForwardingOnly s (Machine.settleXoff t) :=
  h.trans (WireSide.settleXoff (.refl t)).forwarding

theorem ForwardingOnly.poolLow : ForwardingOnly s (Machine.poolLow t) := .ite (h.link (raiseLimited_link ..)) h

theorem ForwardingOnly.enterCells (q n : Nat) (d : Bool) : ForwardingOnly s (Machine.enterCells q n d t) :=
  .ite ((h.onQueue ..).onQme _).poolLow (h.onQueue ..)

theorem ForwardingOnly.countEnterDrop (q n : Nat) : ForwardingOnly s (Machine.countEnterDrop q n t) := by
  unfold Machine.countEnterDrop
  split
  · exact h.onQueue ..
  · exact h.onQueue ..
  · exact ((h.onQme _).onQueue ..).poolLow

theorem ForwardingOnly.freeFrame (f : Frame) : ForwardingOnly s (Machine.freeFrame f t) :=
  .ite (ForwardingOnly.settleXoff (.ite (h.onWire _) ((h.onWire _).onPort ..))) (h.onQme _)

theorem ForwardingOnly.injectFate (e : Option (Nat × Nat)) (a b : Nat) : ForwardingOnly s (Machine.injectFate e a b t) := by
  cases e with
  | none => exact h
  | some e =>
    unfold Machine.injectFate
    exact h.onRing ..

theorem ForwardingOnly.toDram (f : Frame) : ForwardingOnly s (Machine.toDram f t).2 := by
  unfold Machine.toDram
  split
  · exact h.freeFrame f
  · exact h

theorem ForwardingOnly.enqueue (q : Nat) (f : Frame) : ForwardingOnly s (Machine.enqueue q f t).2 := by
  unfold Machine.enqueue
  dsimp only
  split
  · exact (h.enterCells q (if f.sram then f.cells else cellsOf f.bytes.length) (!f.sram)).onQueue q (fun i =>
      { i with frames := i.frames ++ [{ f with cells := if f.sram then f.cells else cellsOf f.bytes.length, stamp := rawTime t }] })
  · exact ForwardingOnly.injectFate (.ite ((h.countEnterDrop ..).freeFrame f) (h.countEnterDrop ..)) ..

theorem ForwardingOnly.toPunt (q : Nat) (f : Frame) : ForwardingOnly s (Machine.toPunt q f t) :=
  ((h.toDram f).countPort ..).enqueue ..

end
end

/-! ### The exchange -/

section
variable {s : State} {f : DrzFrame}

theorem drzReplace_queued {g : DrzFrame} (h : s.drz.exchange = none) :
    drzReplace f g s = onDrz (fun d => { d with queue := d.queue.replace f g }) s := by
  simp [drzReplace, onDrz, h]

theorem drzReplace_exchange {g : DrzFrame} (h : s.drz.exchange = some f) :
    drzReplace f g s = onDrz (fun d => { d with exchange := some g }) s := by
  simp [drzReplace, onDrz, h]

/-- On a busy channel a frame backs off, and at the fifth it ends. -/
theorem drzBackoff_busy {level : Int} {us : Nat} {hw : Retry} (he : s.drz.exchange = none) (hp : drzPick s = some f) (ho : drzOn s = true)
    (h0 : f.phase = 0) (hc : s.drz.channelNow.cca ≤ level) : drzBackoff level us hw s =
      if 4 ≤ f.nb then drzFinish f 2 s else onDrz (fun d => { d with queue := d.queue.replace f { f with nb := f.nb + 1, be := min 5 (f.be + 1) } }) s := by
  simp [drzBackoff, he, hp, ho, h0, hc, drzReplace_queued]

/-- What leaves with a frame reads nothing that its start changes. -/
theorem drzSent_congr {t : State} {k n : Nat} {g : DrzFrame} {more : Bool} (hn : t.drz.nodes = s.drz.nodes) (hc : t.drz.channelNow = s.drz.channelNow)
    (hcsl : t.drz.csl = s.drz.csl) (hs : t.drz.sampled = s.drz.sampled) (hr : t.clock = s.clock) (hg : g = { f with phase := g.phase }) :
    drzSent k g more n t = drzSent k f more n s := by
  rw [hg]
  simp only [drzSent, drzTx, drzOwnCsl, drzNode, hn, hc, hcsl, hs, runTime, deviceTime, hr]

/-- What leaves as a frame starts is what would have left before. -/
theorem drzSent_started {pa q n span : Nat} : drzSent 1 { f with phase := 2 } false span
    (drzPa pa (onDrz (fun d => { d with exchange := some { f with phase := 2 } }) (leaveCells q n (onDrz (fun d => { d with queue := d.queue.erase f }) s)))) =
      drzSent 1 f false span s :=
  drzSent_congr rfl rfl rfl rfl rfl rfl

/-- An unsecured frame of no command starts its transmission, its exchange and its time on the air counted, or ends at the duty limit. -/
theorem drzStart_plain {us : Nat} {hw : Retry} (he : s.drz.exchange = none) (hl : f.level = 0) (ho : f.owner = none) :
    drzStart f us hw s = if drzDuty (us + (drzSpan f s + 999) / 1000) s then drzFinish f 5 s else
      let t := drzPa (us + (drzSpan f s + 999) / 1000) (onDrz (fun d => { d with exchange := some { f with phase := 2 } })
        (leaveCells (drzQueueId f.queue) (cellsOf f.payload.length) (onDrz (fun d => { d with queue := d.queue.erase f }) s)))
      if f.wake = 0 then t else emit (.drz (drzSent 1 f false (drzSpan f s) s)) t := by
  rw [← drzSent_started (s := s) (f := f) (pa := us + (drzSpan f s + 999) / 1000) (q := drzQueueId f.queue) (n := cellsOf f.payload.length)]
  simp [drzStart, he, hl, ho]

/-- A frame that has contended for nothing yet contends as it stands. -/
theorem drzFrame_fresh (h0 : f.phase = 0) (hn : f.nb = 0) (hb : f.be = 3) (hw : f.wake = 0) (hm : f.meet = (0, 0)) :
    { f with nb := 0, be := 3, wake := 0, phase := 0, meet := (0, 0) } = f := by
  cases f
  simp only at h0 hn hb hw hm
  subst h0 hn hb hw hm
  rfl

/-- A broadcast on an idle channel starts at once. -/
theorem drzBackoff_idle {level : Int} {us : Nat} {hw : Retry} (he : s.drz.exchange = none) (hp : drzPick s = some f) (ho : drzOn s = true)
    (h0 : f.phase = 0) (hc : level < s.drz.channelNow.cca) (hk : f.kind ≠ 0) (hn : f.nb = 0) (hb : f.be = 3) (hwk : f.wake = 0)
    (hm : f.meet = (0, 0)) : drzBackoff level us hw s =
      drzStart f us hw (onDrz (fun d => { d with follow := 0, queue := d.queue.replace f f }) s) := by
  have hw0 : drzWake f s = 0 := by simp [drzWake, hk]
  have hg := drzFrame_fresh h0 hn hb hwk hm
  simp only [drzBackoff, he, hp, ho, h0, Int.not_le.mpr hc, hw0]
  simp [hg, drzReplace_queued he, onDrz]

theorem drzRendezvous_queued {us : Nat} {hw : Retry} (he : s.drz.exchange = none) (hp : drzPick s = some f) (ho : drzOn s = true)
    (h1 : f.phase = 1) : drzRendezvous us hw s = if runTime s + f.meet.2 < f.meet.1 then s
      else drzStart f us hw (onDrz (fun d => { d with follow := 0 }) s) := by
  simp [drzRendezvous, he, hp, ho, h1]

/-- At the duty limit an unsecured frame ends, whatever it is for. -/
theorem drzStart_duty {us : Nat} {hw : Retry} (hl : f.level = 0) (hd : drzDuty (us + (drzSpan f s + 999) / 1000) s = true) :
    drzStart f us hw s = drzFinish f 5 s := by
  simp [drzStart, hl, hd]

theorem drzNext_none {g : DrzFrame} {t : State} (h : g.wake = 0 ∨ g.kind ≠ 0) : drzNext g t = none := by
  rcases h with h | h <;> simp [drzNext, h]

theorem drzRetune_free (he : s.drz.exchange = none) : drzRetune s = onDrz (fun d =>
    { d with channelNow := d.channel, queue := d.queue.map fun f => if f.phase == 1 then { f with phase := 0, nb := 0, be := 3 } else f }) s := by
  simp [drzRetune, he, onDrz]

theorem drzSample_armed (hp : powered 8 s = true) (h : s.drz.csl.period ≠ 0) : drzSample s =
    onDrz (fun d => { d with samples := if s.drz.exchange.any fun f => f.phase == 2 then d.samples else d.samples + 1, sampled := runTime s }) s := by
  simp [drzSample, hp, h]

/-- A broadcast sent at once is on the air for its own time alone. -/
theorem drzSpan_direct {t : State} (hw : f.wake = 0) (us : Nat) : us + (drzSpan f t + 999) / 1000 = us := by
  simp [drzSpan, hw]

section
variable {level : Int} {us : Nat} {hw : Retry} (he : s.drz.exchange = none) (hp : drzPick s = some f) (ho : drzOn s = true) (hl : f.level = 0)
include he hp ho hl

section
variable (h0 : f.phase = 0) (hc : level < s.drz.channelNow.cca) (hk : f.kind ≠ 0) (hn : f.nb = 0) (hb : f.be = 3) (hwk : f.wake = 0)
  (hm : f.meet = (0, 0))
include h0 hc hk hn hb hwk hm

/-- A broadcast on an idle channel is on the air, its time within the duty limit. -/
theorem drzBackoff_sends (hd : drzDuty us s = false) (hf : f.owner = none) : drzBackoff level us hw s =
    drzPa us (onDrz (fun d => { d with exchange := some { f with phase := 2 } }) (leaveCells (drzQueueId f.queue) (cellsOf f.payload.length)
      (onDrz (fun d => { d with follow := 0, queue := (d.queue.replace f f).erase f }) s))) := by
  have hd' : ¬drzDuty us (onDrz (fun d => { d with follow := 0, queue := d.queue.replace f f }) s) = true := by
    rw [Bool.not_eq_true]
    exact hd
  rw [drzBackoff_idle he hp ho h0 hc hk hn hb hwk hm, drzStart_plain (by exact he) hl hf, drzSpan_direct hwk, if_neg hd', if_pos hwk]
  rfl

theorem drzBackoff_duty (hd : drzDuty us s = true) : drzBackoff level us hw s =
    drzFinish f 5 (onDrz (fun d => { d with follow := 0, queue := d.queue.replace f f }) s) := by
  rw [drzBackoff_idle he hp ho h0 hc hk hn hb hwk hm, drzStart_duty hl]
  rw [drzSpan_direct hwk]
  exact hd
end

/-- At its rendezvous a frame is on the air behind its wake-up. -/
theorem drzRendezvous_sends (h1 : f.phase = 1) (hwk : f.wake = 1) (hf : f.owner = none) (hr : f.meet.1 ≤ runTime s + f.meet.2)
    (hd : drzDuty (us + (drzSpan f s + 999) / 1000) s = false) : drzRendezvous us hw s =
      emit (.drz (drzSent 1 f false (drzSpan f s) s)) (drzPa (us + (drzSpan f s + 999) / 1000) (onDrz (fun d => { d with exchange := some { f with phase := 2 } })
        (leaveCells (drzQueueId f.queue) (cellsOf f.payload.length) (onDrz (fun d => { d with follow := 0, queue := d.queue.erase f }) s)))) := by
  have hspan : drzSpan f (onDrz (fun d => { d with follow := 0 }) s) = drzSpan f s := rfl
  have hd' : ¬drzDuty (us + (drzSpan f s + 999) / 1000) (onDrz (fun d => { d with follow := 0 }) s) = true := by
    rw [Bool.not_eq_true]
    exact hd
  rw [drzRendezvous_queued he hp ho h1, if_neg (Nat.not_lt.mpr hr), drzStart_plain (by exact he) hl hf, hspan, if_neg hd', if_neg (by simp [hwk])]
  rfl
end

/-- A sent frame that is not followed leaves; one that asks for an Ack waits for it. -/
theorem drzTxEnd_sent {us : Nat} {hw : Retry} (he : s.drz.exchange = some f) (hp : f.phase = 2) : drzTxEnd us hw s =
    let g := { f with stamp := rawTime s, attempts := f.attempts + 1, phase := 3 }
    let t := onDrz (fun d => { d with exchange := some g }) (emit (.drz (drzSent 0 f (drzNext f s).isSome 0 s)) s)
    if f.kind = 0 ∧ bit f.flags 0 = true then t else drzFollow g us hw (drzFinish g 6 t) := by
  have hr : rawTime (emit (.drz (drzSent 0 f (drzNext f s).isSome 0 s)) s) = rawTime s := rfl
  simp [drzTxEnd, he, hp, hr]

/-- An awaited Ack ends its frame. -/
theorem drzAck_awaited {csl : Option (Nat × Nat)} {rssi : Int} {lqi us : Nat} {hw : Retry} (he : s.drz.exchange = some f) (hp : f.phase = 3) :
    drzAck csl rssi lqi us hw s = drzFollow f us hw (drzFinish f 0 (drzHeard f.node csl rssi lqi s)) := by
  simp [drzAck, he, hp]

/-- A missing Ack of a frame sent at once is another attempt while the limit allows one. -/
theorem drzAckMiss_direct (he : s.drz.exchange = some f) (hp : f.phase = 3) (hw : f.wake = 0) : drzAckMiss s =
    if f.attempts ≤ s.drz.csl.retries then onDrz (fun d => { d with exchange := some { f with phase := 0, nb := 0, be := 3 } }) s
    else drzFinish f 1 s := by
  simp [drzAckMiss, he, hp, hw, drzReplace_exchange]

/-- A missing Ack at a rendezvous loses the time of the node's samples. -/
theorem drzAckMiss_rendezvous (he : s.drz.exchange = some f) (hp : f.phase = 3) (hw : f.wake = 1) : drzAckMiss s =
    onDrz (fun d => { d with exchange := some { f with phase := 0, nb := 0, be := 3 } }) (onNode f.node (fun n => { n with tref := none }) s) := by
  have he' : (onNode f.node (fun n => { n with tref := none }) s).drz.exchange = some f := he
  simp [drzAckMiss, he, hp, hw, drzReplace_exchange he']

theorem drzFollow_none {g : DrzFrame} {us : Nat} {hw : Retry} {t : State} (h : g.wake = 0 ∨ g.kind ≠ 0) : drzFollow g us hw t = t := by
  simp only [drzFollow, drzNext_none h]

/-- A frame in its exchange ends with its DRZ_SEND. -/
theorem drzFinish_exchange {a : AsyncCmd} {o : Via × Nat} {status : Nat} (he : s.drz.exchange = some f) (ho : f.owner = some o)
    (ha : findOwn 0x0C04 o s = some a) (hk : f.kind ≠ 0) :
    drzFinish f status s = endAsync a ST.ok (leBytes 1 status ++ leBytes 1 f.attempts ++ leBytes 1 (bitsNat [f.wake == 2 || f.fullTried != 0])
      ++ leBytes 1 0 ++ leBytes 4 f.stamp ++ leBytes 4 f.counter)
      (freeCells false (cellsOf f.payload.length) (onDrz (fun d => { d with exchange := none }) s)) := by
  have ha' : findOwn 0x0C04 o (freeCells false (cellsOf f.payload.length) (onDrz (fun d => { d with exchange := none }) s)) = some a := ha
  have hk' : (f.kind == 0) = false := beq_eq_false_iff_ne.mpr hk
  have hb (x : Bool) : bitsNat [x, false] = bitsNat [x] := rfl
  rw [drzFinish, if_pos he, drzEnd]
  simp only [ho, Option.bind_some, ha', hk', Bool.false_and, hb]

end

/-! ### Reception -/

section
variable {s : State} {f : DrzRx}

/-- A change of an entry that a test does not see does not change which key the test finds. -/
theorem find?_put_of_look {α : Type} {t : Tab α} {i : Nat} {x y : α} {p : Nat × α → Bool} (h : Tab.look t i = some x)
    (hp : p (i, y) = p (i, x)) : ((Tab.put t i y).find? p).map Prod.fst = (t.find? p).map Prod.fst := by
  induction t with
  | nil => simp [Tab.look] at h
  | cons e r ih =>
    obtain ⟨k, z⟩ := e
    by_cases hk : k = i
    · subst hk
      obtain rfl : z = x := by simpa [Tab.look] using h
      cases hz : p (k, z) <;> simp [Tab.put, hp, hz]
    · by_cases hlt : i < k
      · simp [Tab.look, hk, hlt] at h
      · have hr := ih (by simpa [Tab.look, hk, hlt] using h)
        cases hz : p (k, z) <;> simp [Tab.put, hk, hlt, hz, hr]

/-- A node that is heard is still the one its frames come from. -/
theorem drzFrom_drzHeard {i : Nat} {csl : Option (Nat × Nat)} {rssi : Int} {lqi : Nat} : drzFrom f (drzHeard i csl rssi lqi s) = drzFrom f s := by
  unfold drzFrom drzHeard onNode
  cases h : Tab.look s.drz.nodes i with
  | none => simp [onDrz, Tab.modify, h]
  | some n =>
    refine (congrArg _ (congrArg _ (Tab.modify_of_look _ h))).trans (find?_put_of_look h ?_)
    cases csl with
    | none => rfl
    | some c =>
      cases hb : bit n.flags 0 <;> simp [hb]

theorem drzNode_drzHeard {i : Nat} {n : DrzNode} {csl : Option (Nat × Nat)} {rssi : Int} {lqi : Nat} (h : drzNode i s = some n) :
    ∃ m, drzNode i (drzHeard i csl rssi lqi s) = some m ∧ m.key = n.key ∧ m.counters = n.counters ∧ m.flags = n.flags := by
  refine ⟨_, (Tab.look_modify s.drz.nodes i _).trans (congrArg _ h), ?_⟩
  cases csl with
  | none => exact ⟨rfl, rfl, rfl⟩
  | some c => cases hb : bit n.flags 0 <;> simp [hb]

/-- A frame of another PAN ends once it is heard. -/
theorem drzReceive_other (hon : drzOn s = true) (he : s.drz.exchange = none) (h : ¬(f.pan = s.drz.channel.pan ∨ f.pan = 0xFFFF)) :
    drzReceive f s = match drzFrom f s with
      | some i => drzHeard i f.csl f.rssi f.lqi s
      | none => s := by
  have hp : ¬f.pan = s.drz.channel.pan := fun hh => h (.inl hh)
  have hq : ¬f.pan = 0xFFFF := fun hh => h (.inr hh)
  cases hd : drzFrom f s <;> simp [drzReceive, hon, he, hd, hp, hq, drzHeard, onNode]

section
variable (hon : drzOn s = true) (he : s.drz.exchange = none) (hp : f.pan = s.drz.channel.pan ∨ f.pan = 0xFFFF) (hk : f.kind = 0)
include hon he hp hk

/-- An unsecured broadcast of an unknown node is accepted. -/
theorem drzReceive_broadcast (hl : f.level = 0) (hd : drzFrom f s = none) : drzReceive f s = drzAccept f none s := by
  have hp' : ¬(¬f.pan = s.drz.channel.pan ∧ ¬f.pan = 0xFFFF) := fun ⟨h1, h2⟩ => hp.elim h1 h2
  simp [drzReceive, hon, he, hd, hp', hk, hl]

/-- A secured frame of a known node is judged behind its being heard. -/
theorem drzReceive_secured {i : Nat} (hl : f.level ≠ 0) (hd : drzFrom f s = some i) : drzReceive f s =
    match (drzJudge f (drzHeard i f.csl f.rssi f.lqi s)).1 with
    | .pass n => drzAccept f n (drzJudge f (drzHeard i f.csl f.rssi f.lqi s)).2
    | .refused => (drzJudge f (drzHeard i f.csl f.rssi f.lqi s)).2 := by
  have hp' : ¬(¬f.pan = s.drz.channel.pan ∧ ¬f.pan = 0xFFFF) := fun ⟨h1, h2⟩ => hp.elim h1 h2
  have hc : (drzHeard i f.csl f.rssi f.lqi s).drz.channel = s.drz.channel := rfl
  simp [drzReceive, hon, he, hd, hc, hp', hk, hl] <;> rfl
end

theorem drzDest_broadcast (hp : f.pan = s.drz.channel.pan ∨ f.pan = 0xFFFF) (hx : f.destExt = none) (hd : f.dest = 0xFFFF) : drzDest f s = 1 := by
  have hp' : ¬(¬f.pan = s.drz.channel.pan ∧ ¬f.pan = 0xFFFF) := fun ⟨h1, h2⟩ => hp.elim h1 h2
  simp [drzDest, hp', hx, hd]

/-- A broadcast asks for no Ack, and goes to the host or is flooded. -/
theorem drzAccept_broadcast (h : drzDest f s = 1) :
    drzAccept f none s = if isFlood f.payload then drzFlood f none false s else drzDeliver f none false s := by
  simp [drzAccept, h]

theorem drzDeliver_forwarding (n : Option Nat) (b : Bool) : ForwardingOnly s (drzDeliver f n b s) := ForwardingOnly.toPunt (.refl s) _ _

/-! A secured frame whose key is the node's own (R387). -/

section
variable {i : Nat} {n : DrzNode} (hd : drzFrom f s = some i) (hn : drzNode i s = some n) (hx : f.keyIndex = none)
include hd hn hx

omit hd in
theorem drzRxKey_node : drzRxKey f (some i) s = n.key := by
  simp [drzRxKey, hx, hn]

theorem drzJudge_no_key (hk : keyOf n.key s = none) : drzJudge f s = (.refused, drzRefuse 1 (some i) s) := by
  have := drzRxKey_node hn hx
  simp [drzJudge, hd, this, hk]

section
variable (hk : (keyOf n.key s).isSome = true) (hne : n.key ≠ 0xFFFF)
include hk hne

theorem drzJudge_replay {c : Nat} (hc : Tab.look n.counters n.key = some c) (hle : f.counter ≤ c) :
    drzJudge f s = (.refused, drzRefuse 2 (some i) s) := by
  have := drzRxKey_node hn hx
  simp [drzJudge, hd, this, hne, Option.isSome_iff_ne_none.mp hk, hn, hc, hle]

theorem drzJudge_first (hc : Tab.look n.counters n.key = none) : drzJudge f s =
    if f.mic = false then (.refused, drzRefuse 3 (some i) s)
    else (.pass (some i), onNode i (fun m => { m with counters := Tab.put m.counters n.key f.counter, counter := f.counter }) s) := by
  have := drzRxKey_node hn hx
  simp [drzJudge, hd, this, hne, Option.isSome_iff_ne_none.mp hk, hn, hc]
end
end

/-- A change of a node that reads its own key may be given the key. -/
theorem onNode_key {i : Nat} {n : DrzNode} {c : Nat} (hn : drzNode i s = some n) :
    onNode i (fun m => { m with counters := Tab.put m.counters n.key c, counter := c }) s =
      onNode i (fun m => { m with counters := Tab.put m.counters m.key c, counter := c }) s := by
  have hn' : Tab.look s.drz.nodes i = some n := hn
  simp only [onNode, onDrz, Tab.modify_of_look _ hn']

end

/-! ### Flooding -/

section
variable {s : State} {f : DrzRx} {node : Option Nat}

theorem drzFlood_seen (h : drzSeen (rd f.payload 2 2, rd f.payload 4 2) s = true) :
    drzFlood f node false s = drzDuplicate (rd f.payload 2 2, rd f.payload 4 2) s := if_pos h

/-- A new flood frame is delivered, and its copy waits where its TTL, its flags and the node's own address let it. -/
theorem drzFlood_new {l : List ((Nat × Nat) × Nat)} {e : Nat × Nat} (he : e = (rd f.payload 2 2, rd f.payload 4 2)) (h : drzSeen e s = false)
    (hl : l = s.drz.seen.filter fun x => x.1 != e && !drzAged x s) (hr : l.length < 512) : drzFlood f node false s =
      let x := drzDeliver f node false (onDrz (fun d => { d with seen := l ++ [(e, runTime s)] }) s)
      if rd f.payload 1 1 / 16 = 0 then onDrz (fun d => { d with nTtl := inc 32 d.nTtl }) x
      else if bit (rd f.payload 1 1) 0 || !bit x.drz.mesh.flags 0 || e.1 == x.drz.channel.short then x
      else onDrz (fun d => { d with relays := d.relays ++ [⟨e.1, e.2, 0, drzCopy f (drzRxKey f node x), drzJitterEnd (bit (rd f.payload 1 1) 1) e x⟩] }) x := by
  have hs : drzSee e s = onDrz (fun d => { d with seen := l ++ [(e, runTime s)] }) s := by
    rw [hl] at hr
    simp only [drzSee, hl, hr, if_true]
  subst he
  simp only [drzFlood, h, hs]
  rfl

/-- What a new flood frame leaves of the low-rate radio where its copy waits. -/
theorem drzFlood_copies {l : List ((Nat × Nat) × Nat)} {e : Nat × Nat} (he : e = (rd f.payload 2 2, rd f.payload 4 2)) (h : drzSeen e s = false)
    (hl : l = s.drz.seen.filter fun x => x.1 != e && !drzAged x s) (hr : l.length < 512) (ht : 1 ≤ rd f.payload 1 1 / 16)
    (h0 : bit (rd f.payload 1 1) 0 = false) (hm : bit s.drz.mesh.flags 0 = true) (hsh : e.1 ≠ s.drz.channel.short) (hlev : f.level = 0) :
    drzFlood f node false s =
      let x := drzDeliver f node false (onDrz (fun d => { d with seen := l ++ [(e, runTime s)] }) s)
      { x with drz := { x.drz with relays := s.drz.relays ++ [⟨e.1, e.2, 0, ⟨1, if bit (rd f.payload 1 1) 1 then 7 else 3, 0xFFFF, 0, 0xFFFF, 0,
        f.payload.take 1 ++ leBytes 1 (rd f.payload 1 1 - 16) ++ f.payload.drop 2, none, 0, 0, 0, 0, 3, 0, 0, 0, (0, 0)⟩,
        drzJitterEnd (bit (rd f.payload 1 1) 1) e s⟩] } } := by
  rw [drzFlood_new he h hl hr]
  have hx := drzDeliver_forwarding (s := onDrz (fun d => { d with seen := l ++ [(e, runTime s)] }) s) (f := f) node false
  have hd := hx.drz
  have hc := hx.clock
  generalize drzDeliver f node false (onDrz (fun d => { d with seen := l ++ [(e, runTime s)] }) s) = x at hd hc
  have hjit : drzJitterEnd (bit (rd f.payload 1 1) 1) e x = drzJitterEnd (bit (rd f.payload 1 1) 1) e s := by
    simp [drzJitterEnd, runTime, deviceTime, hd, hc, onDrz]
  have hmesh : x.drz.mesh = s.drz.mesh := by rw [hd]; rfl
  have hchan : x.drz.channel = s.drz.channel := by rw [hd]; rfl
  have hrel : x.drz.relays = s.drz.relays := by rw [hd]; rfl
  have ht' : ¬rd f.payload 1 1 / 16 = 0 := by omega
  simp only [ht', if_false, h0, hmesh, hm, hchan, beq_eq_false_iff_ne.mpr hsh, Bool.not_true, Bool.or_false, Bool.false_eq_true, hjit, onDrz, hrel,
    drzCopy, hlev, if_true]

end

section
variable {s : State} {origin seq : Nat} {r : DrzRelay}
  (h : (s.drz.relays.find? fun r => r.origin == origin && r.seq == seq && decide (r.due ≤ runTime s)) = some r)
include h

/-- A copy whose jitter is over joins its queue, or is dropped as its queue's test answers. -/
theorem drzRelay_due : drzRelay origin seq s =
    let t := onDrz (fun d => { d with relays := d.relays.erase r }) s
    match enterTest (drzQueueId r.frame.queue) (cellsOf r.frame.payload.length) false true t with
    | 0 => onDrz (fun d => { d with queue := d.queue ++ [r.frame], nRelayed := inc 32 d.nRelayed })
        (enterCells (drzQueueId r.frame.queue) (cellsOf r.frame.payload.length) true t)
    | k => countEnterDrop (drzQueueId r.frame.queue) k t := by
  simp only [drzRelay, h] <;> rfl

theorem drzRelay_joins (ht : enterTest (drzQueueId r.frame.queue) (cellsOf r.frame.payload.length) false true s = 0) : drzRelay origin seq s =
    onDrz (fun d => { d with queue := d.queue ++ [r.frame], nRelayed := inc 32 d.nRelayed })
      (enterCells (drzQueueId r.frame.queue) (cellsOf r.frame.payload.length) true (onDrz (fun d => { d with relays := d.relays.erase r }) s)) := by
  have ht' : enterTest (drzQueueId r.frame.queue) (cellsOf r.frame.payload.length) false true (onDrz (fun d => { d with relays := d.relays.erase r }) s) = 0 := ht
  rw [drzRelay_due h]
  simp only [ht']

theorem drzRelay_tail (ht : enterTest (drzQueueId r.frame.queue) (cellsOf r.frame.payload.length) false true s = 1) : drzRelay origin seq s =
    onQueue (drzQueueId r.frame.queue) (fun i => { i with nTail := inc 32 i.nTail }) (onDrz (fun d => { d with relays := d.relays.erase r }) s) := by
  have ht' : enterTest (drzQueueId r.frame.queue) (cellsOf r.frame.payload.length) false true (onDrz (fun d => { d with relays := d.relays.erase r }) s) = 1 := ht
  rw [drzRelay_due h]
  simp only [ht', countEnterDrop]

end

/-- Settles O50, a lemma for the contention, the start, the end and the Ack of a frame, and one for each verdict of the receiver. -/
theorem drizzleExchangeAndReceptionRows : Obligations.DrizzleExchangeAndReceptionRows := by
  unfold Obligations.DrizzleExchangeAndReceptionRows
  refine ⟨fun s us hw => ⟨fun f level he hp hon => ⟨fun h0 hc => ⟨fun hn => ?_, fun hn => ?_⟩, fun h0 hc hk hl hn hb hwk hm => ⟨fun hd ho => ?_, fun hd => ?_⟩,
      fun h1 hl hwk ho => ⟨fun hd => ?_, fun hr hd => ?_⟩⟩,
    fun f he => ⟨fun hp => ⟨fun hk hb => ?_, fun hk => ?_⟩, fun hp hwk => ⟨fun csl rssi lqi => ?_, fun hr => ?_, fun hr => ?_⟩, fun hp hwk => ?_,
      fun a o status ho ha hk => drzFinish_exchange he ho ha hk⟩,
    fun hp he => ⟨?_, fun hper => ?_⟩, fun f hp he hph hwk => ⟨?_, fun hper => ?_⟩, fun hp => ⟨?_, ?_⟩⟩,
    fun s f hon he => ⟨fun hn => ?_, fun ho hk hl hx hd hf => ⟨fun hfl => ?_, fun hfl => ⟨fun hs => ?_, fun hs hlen => ⟨fun ht => ?_, fun ht h0 hm hsh => ?_⟩⟩⟩,
      fun i n ho hk hl hf hn hx => ?_, fun r origin seq hr => ⟨fun ht => ?_, fun ht => ?_⟩, fun origin seq => rfl⟩⟩
  · exact congrArg Host.Outcome.next ((drzBackoff_busy (s := start s) he hp hon h0 hc).trans (if_neg (by omega)))
  · exact congrArg Host.Outcome.next ((drzBackoff_busy (s := start s) he hp hon h0 hc).trans (if_pos hn))
  · exact congrArg Host.Outcome.next (drzBackoff_sends (s := start s) he hp hon hl h0 hc hk hn hb hwk hm hd ho)
  · exact congrArg Host.Outcome.next (drzBackoff_duty (s := start s) he hp hon hl h0 hc hk hn hb hwk hm hd)
  · exact congrArg Host.Outcome.next ((drzRendezvous_queued (s := start s) he hp hon h1).trans (if_pos hd))
  · exact congrArg Host.Outcome.next (drzRendezvous_sends (s := start s) he hp hon hl h1 hwk ho hr hd)
  · exact congrArg Host.Outcome.next ((drzTxEnd_sent (s := start s) he hp).trans (if_pos ⟨hk, hb⟩))
  · refine congrArg Host.Outcome.next ((drzTxEnd_sent (s := start s) he hp).trans ((if_neg (fun h => hk h.1)).trans ((drzFollow_none (.inr hk)).trans ?_)))
    have hx : drzNext f (start s) = none := drzNext_none (.inr hk)
    rw [hx]
    rfl
  · exact congrArg Host.Outcome.next ((drzAck_awaited (s := start s) he hp).trans (drzFollow_none (.inl hwk)))
  · exact congrArg Host.Outcome.next ((drzAckMiss_direct (s := start s) he hp hwk).trans (if_pos hr))
  · exact congrArg Host.Outcome.next ((drzAckMiss_direct (s := start s) he hp hwk).trans (if_neg (Nat.not_le.mpr hr)))
  · exact congrArg Host.Outcome.next (drzAckMiss_rendezvous (s := start s) he hp hwk)
  · exact congrArg Host.Outcome.next ((if_pos hp).trans (drzRetune_free he))
  · exact congrArg Host.Outcome.next (drzSample_armed (s := start s) hp hper |>.trans (by simp [start, he]; rfl))
  · exact congrArg Host.Outcome.next ((if_pos hp).trans (if_pos (by simp [start, he, hph, hwk])))
  · exact congrArg Host.Outcome.next (drzSample_armed (s := start s) hp hper |>.trans (by simp [start, he, hph]; rfl))
  · exact congrArg Host.Outcome.next (if_pos (by simp [hp]))
  · exact congrArg Host.Outcome.next (if_neg (by simp [hp]))
  · exact congrArg Host.Outcome.next (drzReceive_other (s := start s) hon he hn)
  · exact congrArg Host.Outcome.next ((drzReceive_broadcast (s := start s) hon he ho hk hl hf).trans ((drzAccept_broadcast (s := start s) (drzDest_broadcast ho hx hd)).trans
      (if_neg (by simp [hfl]))))
  · exact congrArg Host.Outcome.next ((drzReceive_broadcast (s := start s) hon he ho hk hl hf).trans ((drzAccept_broadcast (s := start s) (drzDest_broadcast ho hx hd)).trans
      ((if_pos hfl).trans (drzFlood_seen (s := start s) hs))))
  · have hq := drzFlood_new (s := start s) (f := f) (node := none) rfl hs rfl hlen
    exact congrArg Host.Outcome.next ((drzReceive_broadcast (s := start s) hon he ho hk hl hf).trans
      ((drzAccept_broadcast (s := start s) (drzDest_broadcast ho hx hd)).trans ((if_pos hfl).trans (hq.trans (if_pos ht)))))
  · refine ⟨_, congrArg Host.Outcome.next ((drzReceive_broadcast (s := start s) hon he ho hk hl hf).trans
      ((drzAccept_broadcast (s := start s) (drzDest_broadcast ho hx hd)).trans ((if_pos hfl).trans
        (drzFlood_copies (s := start s) rfl hs rfl hlen ht h0 hm hsh hl)))), rfl, rfl⟩
  · obtain ⟨m, hm, hkey, hcs, -⟩ := drzNode_drzHeard (s := start s) (csl := f.csl) (rssi := f.rssi) (lqi := f.lqi) hn
    have hfr := (drzFrom_drzHeard (s := start s) (f := f) (i := i) (csl := f.csl) (rssi := f.rssi) (lqi := f.lqi)).trans hf
    have hrec := drzReceive_secured (s := start s) hon he ho hk hl hf
    rw [← hkey, ← hcs]
    refine ⟨fun hkn => congrArg Host.Outcome.next (hrec.trans ?_), fun hkn hne => ⟨fun c hc hle => congrArg Host.Outcome.next (hrec.trans ?_),
      fun hc => ⟨fun hmic => congrArg Host.Outcome.next (hrec.trans ?_), fun hmic => congrArg Host.Outcome.next (hrec.trans ?_)⟩⟩⟩
    · rw [drzJudge_no_key hfr hm hx hkn]
    · rw [drzJudge_replay hfr hm hx hkn hne hc hle]
    · rw [drzJudge_first hfr hm hx hkn hne hc, if_pos hmic]
    · rw [drzJudge_first hfr hm hx hkn hne hc, if_neg (by simp [hmic]), onNode_key hm]
  · exact congrArg Host.Outcome.next (drzRelay_joins (s := start s) hr ht)
  · exact congrArg Host.Outcome.next (drzRelay_tail (s := start s) hr ht)
end Sys2Proof.Machine
end

section
/-! PROOF. Bring-up of the ports, the MDIO poll, and pause and PFC (chapter 07). -/
namespace Sys2Proof.Machine
set_option Elab.async false

/-- Bit `k` of a list of bits is its entry `k`. -/
theorem bit_bitsNat (l : List Bool) (k : Nat) : bit (bitsNat l) k = l.getD k false := by
  induction l generalizing k with
  | nil => simp [bitsNat, bit]
  | cons b r ih =>
    cases k with
    | zero => cases b <;> simp [bitsNat, bit, b2n, Nat.testBit_zero]
    | succ k =>
      have hd : (b2n b + 2 * bitsNat r) / 2 = bitsNat r := by cases b <;> simp [b2n]; omega
      have hk := ih k
      simp only [bit] at hk
      simp [bitsNat, bit, Nat.testBit_succ, hd, hk]

/-- Bit `k` of eight bits is what the function of the bits answers. -/
theorem bit_bitsNat_range {f : Nat → Bool} {k : Nat} (h : k < 8) : bit (bitsNat ((List.range 8).map f)) k = f k := by
  simp [bit_bitsNat, h]

/-! ### One port -/

/-- Nothing but port `p` has changed. -/
def OnePort (p : Nat) (s t : State) : Prop := t = { s with wire := t.wire } ∧ ∀ q, q ≠ p → port q t = port q s

/-- A port differs in its stopped time and in the count of it. -/
def StoppedTime (x y : Port) : Prop :=
  y = { x with stoppedAt := y.stoppedAt, counters := y.counters } ∧ ∀ i, i ≠ 37 → Tab.getD y.counters i 0 = Tab.getD x.counters i 0

theorem StoppedTime.refl (x : Port) : StoppedTime x x := ⟨rfl, fun _ _ => rfl⟩

theorem StoppedTime.trans {x y z : Port} (h : StoppedTime x y) (k : StoppedTime y z) : StoppedTime x z := by
  refine ⟨?_, fun i hi => (k.2 i hi).trans (h.2 i hi)⟩
  rw [k.1, h.1]

theorem StoppedTime.stop {x y : Port} (h : StoppedTime x y) (b : Bool) (m : Nat) :
    StoppedTime { x with paused := b, pfcStopped := m } { y with paused := b, pfcStopped := m } := by
  refine ⟨?_, h.2⟩
  rw [h.1]

section
variable {p : Nat} {s t : State}

theorem OnePort.refl (s : State) : OnePort p s s := ⟨rfl, fun _ _ => rfl⟩

theorem OnePort.onPort (h : OnePort p s t) (f : Port → Port) : OnePort p s (Machine.onPort p f t) := by
  refine ⟨?_, fun q hq => (port_onPort_ne f t hq).trans (h.2 q hq)⟩
  rw [Machine.onPort, h.1]

theorem OnePort.countPort (h : OnePort p s t) (i n : Nat) : OnePort p s (Machine.countPort p i n t) := by
  unfold Machine.countPort
  split
  · exact h
  · exact h.onPort _

/-- A port not stopped counts no time. -/
theorem settleStopped_free (h : (port p s).stoppedAt = none) : settleStopped p s =
    onPort p (fun y => { y with stoppedAt := if (port p s).paused || (port p s).pfcStopped != 0 then some (runTime s) else none }) s := by
  simp only [settleStopped, h]

theorem settleStopped_held {n : Nat} (h : (port p s).stoppedAt = some n) : settleStopped p s =
    onPort p (fun y => { y with stoppedAt := if (port p s).paused || (port p s).pfcStopped != 0 then some (runTime s) else none })
      (countPort p 37 (runTime s - n) s) := by
  simp only [settleStopped, h]

theorem OnePort.settleStopped (h : OnePort p s t) : OnePort p s (Machine.settleStopped p t) := by
  cases hst : (port p t).stoppedAt with
  | none => exact settleStopped_free hst ▸ h.onPort _
  | some n => exact settleStopped_held hst ▸ (h.countPort ..).onPort _

theorem OnePort.setStopped (h : OnePort p s t) (b : Bool) (m : Nat) : OnePort p s (Machine.setStopped p b m t) :=
  (h.settleStopped.onPort _).settleStopped

/-- From the start of a row, the change of a port shows as the row's. -/
theorem OnePort.row (h : OnePort p (start s) t) : t = { s with wire := t.wire, out := [] } ∧ ∀ q, q ≠ p → port q t = port q s :=
  ⟨h.1, h.2⟩

theorem port_countPort (hp : p ≤ 4) (i n : Nat) : port p (countPort p i n s) =
    { port p s with counters := Tab.put (port p s).counters i (addWrap 64 (Tab.getD (port p s).counters i 0) n) } := by
  rw [countPort, if_neg (Nat.not_lt.mpr hp), port_onPort]

theorem port_settleStopped : StoppedTime (port p s) (port p (settleStopped p s)) := by
  cases hst : (port p s).stoppedAt with
  | none =>
    rw [settleStopped_free hst, port_onPort]
    exact ⟨rfl, fun _ _ => rfl⟩
  | some n =>
    rw [settleStopped_held hst, port_onPort]
    by_cases hp : p ≤ 4
    · rw [port_countPort hp]
      exact ⟨rfl, fun i hi => Tab.getD_put_ne _ _ _ hi⟩
    · rw [show countPort p 37 (runTime s - n) s = s from if_pos (Nat.lt_of_not_le hp)]
      exact ⟨rfl, fun _ _ => rfl⟩

/-- Stopping a port changes what it stops, and the time it counts. -/
theorem port_setStopped (b : Bool) (m : Nat) : StoppedTime { port p s with paused := b, pfcStopped := m } (port p (setStopped p b m s)) := by
  have h := port_settleStopped (p := p) (s := s)
  have k := port_settleStopped (p := p) (s := onPort p (fun x => { x with paused := b, pfcStopped := m }) (settleStopped p s))
  rw [port_onPort] at k
  exact (h.stop b m).trans k

end

theorem StoppedTime.paused {x y : Port} (h : StoppedTime x y) : y.paused = x.paused := by rw [h.1]
theorem StoppedTime.pfcStopped {x y : Port} (h : StoppedTime x y) : y.pfcStopped = x.pfcStopped := by rw [h.1]
theorem StoppedTime.partner {x y : Port} (h : StoppedTime x y) : y.partner = x.partner := by rw [h.1]

/-! ### Received pause -/

section
variable {p : Nat} {s : State}

/-- A port as it has counted a frame of its link partner's pause. -/
def pauseHeard (p i : Nat) (s : State) : State := onPort p (fun x => { x with partner := true }) (countPort p i 1 s)

theorem port_pauseHeard (hp : p ≤ 4) (i : Nat) : port p (pauseHeard p i s) =
    { port p s with partner := true, counters := Tab.put (port p s).counters i (addWrap 64 (Tab.getD (port p s).counters i 0) 1) } := by
  rw [pauseHeard, port_onPort, port_countPort hp]

theorem pauseReceive_up {q : Nat} (h : portUp p s = true) : pauseReceive p q s =
    if (port p (pauseHeard p 5 s)).cfg.flow = 1 then setStopped p (q != 0) (port p (pauseHeard p 5 s)).pfcStopped (pauseHeard p 5 s)
    else pauseHeard p 5 s := if_neg (by simp [h])

theorem pfcReceive_up {e : Nat} {q : List Nat} (h : portUp p s = true) : pfcReceive p e q s =
    if (port p (pauseHeard p 6 s)).cfg.flow = 2 then setStopped p (port p (pauseHeard p 6 s)).paused
      (bitsNat ((List.range 8).map fun k => if bit e k && bit (port p (pauseHeard p 6 s)).cfg.pfcMask k then q.getD k 0 != 0
        else bit (port p (pauseHeard p 6 s)).pfcStopped k)) (pauseHeard p 6 s)
    else pauseHeard p 6 s := if_neg (by simp [h])

theorem OnePort.pauseHeard (i : Nat) : OnePort p s (Machine.pauseHeard p i s) := ((OnePort.refl s).countPort ..).onPort _

/-- A pause frame is counted, and stops or starts an 802.3x port. -/
theorem pauseReceive_spec {q : Nat} (hp : p ≤ 4) (h : portUp p s = true) : OnePort p s (pauseReceive p q s) ∧
    (port p (pauseReceive p q s)).partner = true ∧ (port p (pauseReceive p q s)).pfcStopped = (port p s).pfcStopped ∧
    (port p (pauseReceive p q s)).paused = (if (port p s).cfg.flow = 1 then q != 0 else (port p s).paused) ∧
    Tab.getD (port p (pauseReceive p q s)).counters 5 0 = addWrap 64 (Tab.getD (port p s).counters 5 0) 1 := by
  rw [pauseReceive_up h]
  have ho := OnePort.pauseHeard (p := p) (s := s) 5
  have hh := port_pauseHeard (s := s) hp 5
  generalize pauseHeard p 5 s = t at ho hh
  have hn : Tab.getD (port p t).counters 5 0 = addWrap 64 (Tab.getD (port p s).counters 5 0) 1 := by rw [hh]; exact Tab.getD_put ..
  have hb : (port p t).pfcStopped = (port p s).pfcStopped := by rw [hh]
  have hpt : (port p t).partner = true := by rw [hh]
  have hc : (port p t).cfg = (port p s).cfg := by rw [hh]
  have hz : (port p t).paused = (port p s).paused := by rw [hh]
  rw [hc, hb]
  by_cases hf : (port p s).cfg.flow = 1
  · have hs := port_setStopped (p := p) (s := t) (q != 0) (port p s).pfcStopped
    have ho' := ho.setStopped (q != 0) (port p s).pfcStopped
    generalize setStopped p (q != 0) (port p s).pfcStopped t = w at hs ho'
    rw [if_pos hf, if_pos hf]
    exact ⟨ho', hs.partner.trans hpt, hs.pfcStopped, hs.paused, (hs.2 5 (by decide)).trans hn⟩
  · rw [if_neg hf, if_neg hf]
    exact ⟨ho, hpt, hb, hz, hn⟩

/-- A PFC frame stops or starts the queues it names inside the mask. -/
theorem pfcReceive_spec {e : Nat} {q : List Nat} (hp : p ≤ 4) (h : portUp p s = true) : OnePort p s (pfcReceive p e q s) ∧
    (port p (pfcReceive p e q s)).partner = true ∧ (port p (pfcReceive p e q s)).paused = (port p s).paused ∧
    ((port p s).cfg.flow = 2 → ∀ k, k < 8 → bit (port p (pfcReceive p e q s)).pfcStopped k =
      (if bit e k && bit (port p s).cfg.pfcMask k then q.getD k 0 != 0 else bit (port p s).pfcStopped k)) ∧
    ((port p s).cfg.flow ≠ 2 → (port p (pfcReceive p e q s)).pfcStopped = (port p s).pfcStopped) := by
  rw [pfcReceive_up h]
  have ho := OnePort.pauseHeard (p := p) (s := s) 6
  have hh := port_pauseHeard (s := s) hp 6
  generalize pauseHeard p 6 s = t at ho hh
  have hb : (port p t).pfcStopped = (port p s).pfcStopped := by rw [hh]
  have hpt : (port p t).partner = true := by rw [hh]
  have hc : (port p t).cfg = (port p s).cfg := by rw [hh]
  have hz : (port p t).paused = (port p s).paused := by rw [hh]
  rw [hc, hb, hz]
  by_cases hf : (port p s).cfg.flow = 2
  · rw [if_pos hf]
    have hk (k : Nat) (hk : k < 8) := bit_bitsNat_range (f := fun k =>
      if bit e k && bit (port p s).cfg.pfcMask k then q.getD k 0 != 0 else bit (port p s).pfcStopped k) hk
    generalize bitsNat ((List.range 8).map fun k =>
      if bit e k && bit (port p s).cfg.pfcMask k then q.getD k 0 != 0 else bit (port p s).pfcStopped k) = m at hk
    have hs := port_setStopped (p := p) (s := t) (port p s).paused m
    exact ⟨ho.setStopped .., hs.partner.trans hpt, hs.paused, fun _ k h8 => hs.pfcStopped ▸ hk k h8, fun hne => absurd hf hne⟩
  · rw [if_neg hf]
    exact ⟨ho, hpt, hz, fun h2 => absurd h2 hf, fun _ => hb⟩

theorem pauseExpiry_spec {m : Nat} : OnePort p s (pauseExpiry p m s) ∧
    ((port p s).cfg.flow = 1 → (port p (pauseExpiry p m s)).paused = false ∧ (port p (pauseExpiry p m s)).pfcStopped = (port p s).pfcStopped) ∧
    ((port p s).cfg.flow ≠ 1 → (port p (pauseExpiry p m s)).paused = (port p s).paused ∧
      ∀ k, k < 8 → bit (port p (pauseExpiry p m s)).pfcStopped k = (bit (port p s).pfcStopped k && !bit m k)) := by
  by_cases hf : (port p s).cfg.flow = 1
  · have hx : pauseExpiry p m s = setStopped p false (port p s).pfcStopped s := if_pos hf
    have hs := port_setStopped (p := p) (s := s) false (port p s).pfcStopped
    have ho := (OnePort.refl (p := p) s).setStopped false (port p s).pfcStopped
    rw [hx]
    exact ⟨ho, fun _ => ⟨hs.paused, hs.pfcStopped⟩, fun h => absurd hf h⟩
  · have hx : pauseExpiry p m s = setStopped p (port p s).paused (bitsNat ((List.range 8).map fun k => bit (port p s).pfcStopped k && !bit m k)) s :=
      if_neg hf
    have hk (k : Nat) (hk : k < 8) := bit_bitsNat_range (f := fun k => bit (port p s).pfcStopped k && !bit m k) hk
    rw [hx]
    generalize bitsNat ((List.range 8).map fun k => bit (port p s).pfcStopped k && !bit m k) = n at hk
    have hs := port_setStopped (p := p) (s := s) (port p s).paused n
    exact ⟨(OnePort.refl s).setStopped .., fun h => absurd h hf, fun _ => ⟨hs.paused, fun k h8 => hs.pfcStopped ▸ hk k h8⟩⟩

/-! ### Bring-up -/

/-- Where no port uses flow control no pause frame is due. -/
theorem settleXoff_none (h : ∀ q, (port q s).cfg.flow = 0) : settleXoff s = s := by
  simp [settleXoff, pausePriorities, h]

theorem enterUp_no_flow {n : Nat} (h : ∀ q, (port q s).cfg.flow = 0) : enterUp p n s =
    raise 0x0601 (linkPayload p 1 n (if p = 4 then 0 else (port p s).cfg.fec) 0) (onPort p (fun y => { y with
      state := .up, retry := 0, speed := n, fecActive := if p = 4 then 0 else (port p s).cfg.fec, changes := inc 32 y.changes }) s) := by
  rw [enterUp, settleXoff_none]
  intro q
  by_cases hq : q = p
  · rw [hq, port_onPort]
    exact h p
  · rw [port_onPort_ne _ _ hq]
    exact h q

section
variable (hp : powered 9 s = true) (h4 : p ≤ 4)
include hp h4

theorem signalDetect_of : signalDetect p s = if (port p s).state = .down then onPort p (fun x => { x with state := .training, retry := 0 }) s else s := by
  simp [signalDetect, portRuns, hp, h4]

theorem signalLoss_of : signalLoss p s = match (port p s).state with
    | .up => leaveUp p 0 .down s
    | .training => onPort p (fun x => { x with state := .down, retry := 0 }) s
    | _ => s := by
  have : portRuns p s = true := by simp [portRuns, hp, h4]
  simp only [signalLoss, this]
  rfl

/-- Bring-up ends in UP where its first attempt or its retry succeeds. -/
theorem bringupDone_training (h : (port p s).state = .training) (hne : p ≠ 4) (hr : (port p s).retry ≠ 1) : bringupDone p s =
    enterUp p (modeSpeed (port p s).cfg.mode) (if (port p s).retry = 2 then transientFault 0x0602 (portFaultPayload p s) s else s) := by
  simp [bringupDone, portRuns, hp, h4, h, hne, hr]

theorem bringupFail_training (h : (port p s).state = .training) (hne : p ≠ 4) (hr : (port p s).retry ≠ 1) : bringupFail p s =
    if (port p s).retry = 0 then onPort p (fun y => { y with retry := 1 }) s
    else lastingFault 0x0602 (portFaultPayload p s) true (onPort p (fun y => { y with state := .fault, retry := 0 }) s) := by
  simp [bringupFail, portRuns, hp, h4, h, hne, hr]
end

/-- Outside TRAINING an outcome of bring-up says nothing. -/
theorem bringup_idle (h : (port p s).state ≠ .training) : bringupDone p s = s ∧ bringupFail p s = s ∧
    exec (.portBringupRetry p) s = .next (start s) := by
  refine ⟨if_neg (by simp [h]), if_pos (by simp [h]), congrArg Host.Outcome.next (if_neg ?_)⟩
  simp [h]

/-! ### The MDIO poll -/

/-- The poll of a port that is neither ADMIN_DOWN nor in FAULT. -/
theorem mdioPoll_runs {link half : Bool} {speed : Nat} (hp : powered 9 s = true)
    (h : ¬((port 4 s).state = .adminDown ∨ (port 4 s).state = .fault)) : mdioPoll link half speed s =
      if link && half then
        if (port 4 s).state = .up then leaveUp 4 2 .down (onPort 4 (fun y => { y with half := true }) s)
        else if (port 4 s).half then onPort 4 (fun y => { y with state := .down }) (onPort 4 (fun y => { y with half := true }) s)
        else raise 0x0601 (linkPayload 4 0 0 0 2) (onPort 4 (fun y => { y with state := .down }) (onPort 4 (fun y => { y with half := true }) s))
      else if link then
        if (port 4 s).state = .up then
          if (port 4 s).speed = (if speed < 4 then speed else 3) then onPort 4 (fun y => { y with half := false }) s
          else enterUp 4 (if speed < 4 then speed else 3) (leaveUp 4 0 .down (onPort 4 (fun y => { y with half := false }) s))
        else enterUp 4 (if speed < 4 then speed else 3) (onPort 4 (fun y => { y with half := false }) s)
      else if (port 4 s).state = .up then leaveUp 4 0 .down (onPort 4 (fun y => { y with half := false }) s)
      else onPort 4 (fun y => { y with half := false }) s := by
  obtain ⟨ha, hf⟩ := not_or.mp h
  simp [mdioPoll, portRuns, hp, ha, hf]

theorem mdioPoll_off {link half : Bool} {speed : Nat} (h : (port 4 s).state = .adminDown ∨ (port 4 s).state = .fault) :
    mdioPoll link half speed s = s := if_pos (by rcases h with h | h <;> simp [h])

/-- Above XON the pause of an UP port that is not sending is sent again. -/
theorem pauseRefresh_above {k : Nat} (hb : bit (port p s).xoffSent k = true) (hk : (pausePriorities (port p s)).contains k = true)
    (hx : (port p s).cfg.xon < pauseCount (port p s) k) (hu : portUp p s = true) (hs : (port p s).sending = none) : pauseRefresh p k s =
      countPort p (if (port p s).cfg.flow = 2 then 30 else 29) 1 (emit (.pause p (2 ^ k) 0xFFFF) s) := by
  rw [pauseRefresh, if_pos (by simp [hb, hk, hx, -List.contains_eq_mem]), owePause, if_neg (by simp [hu]), if_neg (by simp [hs]), sendPause]

end

/-- Settles O58, the received pause by what stopping a port keeps of it. -/
theorem portRows : Obligations.PortRows := by
  unfold Obligations.PortRows
  intro s p h4
  refine ⟨fun hp => ⟨fun hd => ⟨?_, ?_⟩, fun hd => ?_, fun ht => ⟨?_, fun hr hne => ?_, fun hr hne => ?_, fun hr => ?_, fun hr hne => ?_, fun hr hne => ?_⟩,
    fun ht => ?_, fun hu => ?_, fun n h => enterUp_no_flow h⟩,
    fun hp half speed => ⟨fun hd => ?_, fun hu => ?_, fun hu => ?_, fun hu => ?_, fun ho link => ?_⟩,
    fun hu => ⟨fun q => ?_, fun e q => ?_⟩, fun hu q l => ?_, fun m => ?_, fun k hb hk hx hu hs => ?_, fun k hb => ?_⟩
  · exact congrArg Host.Outcome.next ((signalDetect_of (s := start s) hp h4).trans (if_pos hd))
  · refine congrArg Host.Outcome.next ((signalLoss_of (s := start s) hp h4).trans ?_)
    rw [port_start, hd]
  · exact congrArg Host.Outcome.next ((signalDetect_of (s := start s) hp h4).trans (if_neg hd))
  · refine congrArg Host.Outcome.next ((signalLoss_of (s := start s) hp h4).trans ?_)
    rw [port_start, ht]
  · refine congrArg Host.Outcome.next ((bringupDone_training (s := start s) hp h4 ht hne ?_).trans ?_)
    · rw [port_start, hr]; decide
    · rw [port_start, if_neg (by rw [hr]; decide)]
  · refine congrArg Host.Outcome.next ((bringupFail_training (s := start s) hp h4 ht hne ?_).trans (if_pos hr))
    rw [port_start, hr]; decide
  · refine congrArg Host.Outcome.next (if_pos ?_)
    simp [portRuns, h4, ht, hr, show powered 9 (start s) = true from hp]
  · refine congrArg Host.Outcome.next ((bringupFail_training (s := start s) hp h4 ht hne ?_).trans (if_neg ?_))
    · rw [port_start, hr]; decide
    · rw [port_start, hr]; decide
  · refine congrArg Host.Outcome.next ((bringupDone_training (s := start s) hp h4 ht hne ?_).trans ?_)
    · rw [port_start, hr]; decide
    · rw [port_start, if_pos hr]; rfl
  · have h := bringup_idle (s := start s) ht
    exact ⟨congrArg Host.Outcome.next h.1, congrArg Host.Outcome.next h.2.1, (bringup_idle ht).2.2⟩
  · refine congrArg Host.Outcome.next ((signalLoss_of (s := start s) hp h4).trans ?_)
    rw [port_start, hu]
  · have hrun : ¬((port 4 (start s)).state = .adminDown ∨ (port 4 (start s)).state = .fault) := by rcases hd with hd | hd <;> simp [hd]
    have hu : (port 4 (start s)).state ≠ .up := by rcases hd with hd | hd <;> simp [hd]
    exact ⟨congrArg Host.Outcome.next ((mdioPoll_runs (s := start s) hp hrun).trans ((if_neg (by decide)).trans ((if_pos rfl).trans (if_neg hu)))),
      congrArg Host.Outcome.next ((mdioPoll_runs (s := start s) hp hrun).trans ((if_neg (by simp)).trans ((if_neg (by decide)).trans (if_neg hu)))),
      fun hh => congrArg Host.Outcome.next ((mdioPoll_runs (s := start s) hp hrun).trans ((if_pos rfl).trans ((if_neg hu).trans (if_pos hh)))),
      fun hh => congrArg Host.Outcome.next ((mdioPoll_runs (s := start s) hp hrun).trans ((if_pos rfl).trans ((if_neg hu).trans (if_neg (by simp [hh])))))⟩
  · refine congrArg Host.Outcome.next ((mdioPoll_runs (s := start s) hp ?_).trans ?_)
    · simp [hu]
    · exact (if_neg (by decide)).trans ((if_pos rfl).trans (if_pos hu))
  · refine congrArg Host.Outcome.next ((mdioPoll_runs (s := start s) hp ?_).trans ?_)
    · simp [hu]
    · exact (if_pos rfl).trans (if_pos hu)
  · refine congrArg Host.Outcome.next ((mdioPoll_runs (s := start s) hp ?_).trans ?_)
    · simp [hu]
    · exact (if_neg (by simp)).trans ((if_neg (by decide)).trans (if_pos hu))
  · exact congrArg Host.Outcome.next (mdioPoll_off (s := start s) ho)
  · obtain ⟨ho, h1, h2, h3, h5⟩ := pauseReceive_spec (s := start s) (q := q) h4 hu
    exact ⟨_, rfl, ho.row.1, h1, h2, h3, h5, ho.row.2⟩
  · obtain ⟨ho, h1, h2, h3, h5⟩ := pfcReceive_spec (s := start s) (e := e) (q := q) h4 hu
    exact ⟨_, rfl, ho.row.1, h1, h2, ho.row.2, h3, h5⟩
  · have hn : (!portUp p (start s)) = true := by rw [show portUp p (start s) = false from hu]; rfl
    exact ⟨congrArg Host.Outcome.next (if_pos hn), congrArg Host.Outcome.next (if_pos hn)⟩
  · obtain ⟨ho, h1, h2⟩ := pauseExpiry_spec (p := p) (s := start s) (m := m)
    exact ⟨_, rfl, ho.row.1, ho.row.2, h1, h2⟩
  · exact congrArg Host.Outcome.next (pauseRefresh_above (s := start s) hb hk hx hu hs)
  · exact congrArg Host.Outcome.next (if_neg (by simp [hb]))
end Sys2Proof.Machine
end

section
/-! PROOF. The rows of the forwarding tables (chapter 07): removing a flow from a table out of order. -/
namespace Sys2Proof.Machine
set_option Elab.async false

/-- A flow of a state that has no timeout: it is idle at once. -/
def idleFlow : Flow := ⟨8, 4, 6, 0, 0, 0, 0, 0, 0, 0, 0, 0, 0, 0⟩

/-- A device whose flow table is out of order: the entry 3 stands before the entry 2. -/
def disorderedFlows : State := onWire (fun w => { w with flows := [(3, idleFlow), (2, idleFlow)] }) State.reset

theorem disorderedFlows_idle : idleFlow.last + flowTimeout idleFlow disorderedFlows ≤ disorderedFlows.mem.seconds := by decide +kernel

/-- The entry behind one of a higher key is found only once that one is gone. -/
theorem disorderedFlows_look : Tab.look disorderedFlows.wire.flows 2 = none ∧
    Tab.look (removeFlow 3 (start disorderedFlows)).wire.flows 2 = some idleFlow := ⟨rfl, rfl⟩

/-- Refutes O60: the clause on the other entries of the flow table has no premise that the table is in order (`Tab.wf`, which its
neighbour has). In a table out of order an entry hidden behind the flow that ages out is found once it is gone. -/
theorem not_forwardingTableRows : ¬ Obligations.ForwardingTableRows := by
  intro h
  obtain ⟨-, -, -, h, -⟩ := h disorderedFlows
  obtain ⟨-, h⟩ := h 3 idleFlow rfl
  obtain ⟨t, he, -, -, hother, -⟩ := h disorderedFlows_idle
  have ht : exec (.flowAgeOut 3) disorderedFlows = .next (removeFlow 3 (start disorderedFlows)) :=
    congrArg Host.Outcome.next (if_pos (decide_eq_true disorderedFlows_idle))
  obtain rfl := Host.Outcome.next.inj (ht.symm.trans he)
  obtain ⟨hbefore, hafter⟩ := disorderedFlows_look
  have hsame := hother 2 (by decide)
  rw [hbefore, hafter] at hsame
  exact absurd hsame (by simp)

end Sys2Proof.Machine
end

section
/-! PROOF. The rows of the Crown (chapter 06). -/
namespace Sys2Proof.Machine
set_option Elab.async false

section
variable {s : State}

/-- With no demand fetch waiting none is served. -/
theorem serveWaiting_none (k : Nat) (h : s.mls.waiting = []) : serveWaiting k s = s := by
  cases k with
  | zero => rfl
  | succ k => simp only [serveWaiting, h]

/-- Pool entries within the pool's size stay. -/
theorem trimPool_fits (d e k : Nat) (h : poolUsed s + e ≤ poolSlots s.mls.committed) : trimPool d e k s = s := by
  cases k with
  | zero => rfl
  | succ k => rw [trimPool, if_pos h]

/-- With nothing queued nothing is issued. -/
theorem crownIssue_none (k : Nat) (h : s.mls.queue = []) : crownIssue k s = s := by
  have hn : nextOp s = none := by simp [nextOp, h, earliest]
  cases k with
  | zero => rfl
  | succ k =>
    rw [crownIssue, hn]
    exact ite_self s

/-- With nothing queued and the pool within its size the engine leaves the Crown as it is. -/
theorem crownGo_idle (hq : s.mls.queue = []) (hp : poolUsed s ≤ poolSlots s.mls.committed) : crownGo s = s := by
  rw [crownGo, trimPool_fits _ _ _ hp, crownIssue_none _ hq]

/-- With nothing held nothing runs. -/
theorem runHeld_none {h : Nat} (hh : s.mls.hold = []) : runHeld h s = s := by
  have hs : onMls (fun m => { m with hold := m.hold.filter fun x => x.mpdu.station != h }) s = s := by
    rw [onMls, hh, List.filter_nil, ← hh]
  simp only [runHeld, hh, List.filter_nil, List.foldl_nil, hs]

/-- A change of entries that keeps their roles keeps the pool's use. -/
theorem poolUsed_map {f : CrownEntry → CrownEntry} (hf : ∀ e, (f e).role = e.role) :
    poolUsed (onMls (fun m => { m with crown := m.crown.map f }) s) = poolUsed s := by
  have hl : ((s.mls.crown.map f).filter fun e => e.role == .pool).length = (s.mls.crown.filter fun e => e.role == .pool).length := by
    rw [List.filter_map, List.length_map]
    refine congrArg List.length (List.filter_congr fun e _ => ?_)
    simp [hf]
  exact congrArg (· + ((crownOps s).filter fun o => o.fetch && !o.demand && !pinned o.station s).length) hl

theorem poolUsed_markUse : poolUsed (markUse s) = poolUsed s := poolUsed_map fun _ => rfl

theorem resident_markUse (h : Nat) : resident h (markUse s) = resident h s := by
  simp only [resident, markUse, onMls_mls, List.any_map]
  rfl

/-! ### A fetch that completes -/

/-- The Crown as its one operation in flight has completed. -/
def landed (o : CrownOp) (time : Nat) (s : State) : State :=
  onCrownStats (fun c => { c with peakOp := max c.peakOp time }) (onMls (fun m => { m with flight := m.flight.erase o }) s)

/-- What the engine works on is not touched as an entry arrives. -/
theorem landed_engine (o : CrownOp) (time : Nat) (s : State) :
    let t := markUse (arrive o (landed o time s))
    t.mls.queue = s.mls.queue ∧ t.mls.waiting = s.mls.waiting ∧ t.mls.hold = s.mls.hold ∧ t.mls.committed = s.mls.committed := by
  simp [markUse, arrive, landed, onCrownStats]

/-- An operation's share of the pool. -/
def opShare (o : CrownOp) (s : State) : Nat := if !o.demand && !pinned o.station s then 1 else 0

theorem poolUsed_arrive (o : CrownOp) : poolUsed (arrive o s) = poolUsed s + opShare o s := by
  have hr : poolUsed (arrive o s) = ((s.mls.crown ++ [(⟨o.station, if pinned o.station s then .pinned else if o.demand then .reserve else .pool,
      false, false, (if pinned o.station s then CrownRole.pinned else if o.demand then .reserve else .pool) == .reserve⟩ : CrownEntry)]).filter
        fun e => e.role == .pool).length + ((crownOps s).filter fun o => o.fetch && !o.demand && !pinned o.station s).length := rfl
  rw [hr, poolUsed, opShare]
  cases hp : pinned o.station s <;> cases hd : o.demand <;> simp <;> omega

/-- A fetch that leaves the flight gives up its share. -/
theorem poolUsed_landed {o : CrownOp} {time : Nat} (hf : s.mls.flight = [o]) (ho : o.fetch = true) (hq : s.mls.queue = []) :
    poolUsed s = poolUsed (landed o time s) + opShare o s := by
  have hl : poolUsed (landed o time s) = (s.mls.crown.filter fun e => e.role == .pool).length
      + ((s.mls.queue ++ s.mls.flight.erase o).filter fun o => o.fetch && !o.demand && !pinned o.station s).length := rfl
  rw [hl, poolUsed, crownOps, opShare, hf, hq]
  cases hp : pinned o.station s <;> cases hd : o.demand <;> simp [ho, hp, hd]

/-- The rest of a fetch that completes: the held MPDUs run, waiting fetches are served, and the engine goes on. -/
theorem crownDone_landed {h time : Nat} {o : CrownOp} (hf : s.mls.flight = [o]) (hst : o.station = h) (ho : o.fetch = true) :
    crownDone h true time s = crownGo (serveWaiting 96 (runHeld h (markUse (arrive o (landed o time s))))) := by
  have hfind : (s.mls.flight.find? fun o => o.station == h && o.fetch == true) = some o := by simp [hf, hst, ho]
  rw [crownDone, hfind]
  rfl

theorem crownDone_idle {h time : Nat} {o : CrownOp} (hf : s.mls.flight = [o]) (hst : o.station = h) (ho : o.fetch = true) (hq : s.mls.queue = [])
    (hw : s.mls.waiting = []) (hh : s.mls.hold = []) (hp : poolUsed s < poolSlots s.mls.committed) :
    crownDone h true time s = markUse (arrive o (landed o time s)) := by
  have hu : poolUsed (markUse (arrive o (landed o time s))) ≤ poolSlots s.mls.committed := by
    rw [poolUsed_markUse, poolUsed_arrive]
    have hs : opShare o (landed o time s) = opShare o s := by simp [opShare, pinned, landed, onCrownStats]
    rw [hs, ← poolUsed_landed hf ho hq]
    exact Nat.le_of_lt hp
  obtain ⟨hq', hw', hh', hc⟩ := landed_engine o time s
  rw [crownDone_landed hf hst ho]
  generalize markUse (arrive o (landed o time s)) = t at *
  rw [runHeld_none (hh'.trans hh), serveWaiting_none 96 (hw'.trans hw), crownGo_idle (hq'.trans hq) (hc ▸ hu)]

/-! ### The other rows -/

theorem holdExpiry_of {h : Nat} {x : HeldMpdu} (hx : (s.mls.hold.find? fun x => x.mpdu.station == h && x.acked) = some x) :
    (match s.mls.hold.find? fun x => x.mpdu.station == h && x.acked with
      | none => s
      | some x => onMls (fun m => { m with hold := m.hold.erase x, stats := { m.stats with holdExpired := inc 32 m.stats.holdExpired } }) s) =
    onMls (fun m => { m with hold := m.hold.erase x, stats := { m.stats with holdExpired := inc 32 m.stats.holdExpired } }) s := by
  rw [hx]

theorem lingerExpiry_idle {h : Nat} (hw : s.mls.waiting = []) (hq : s.mls.queue = []) (hp : poolUsed s ≤ poolSlots s.mls.committed) :
    crownGo (serveWaiting 96 (onMls (fun m => { m with crown := m.crown.map fun e => if e.station = h then { e with lingering := false } else e }) s)) =
      onMls (fun m => { m with crown := m.crown.map fun e => if e.station = h then { e with lingering := false } else e }) s := by
  rw [serveWaiting_none]
  · refine crownGo_idle hq ?_
    rw [poolUsed_map fun e => by split <;> rfl]
    exact hp
  · exact hw

/-- A late ratio above its threshold is reported, with no waits to report. -/
theorem thrashCheck_late {late planned : Nat} (hr : s.mls.ratio = (late, planned, 0, 0)) (hp : 0 < planned)
    (hl : s.mls.inForce.lateThr * planned < late * 1000) (hm : s.mbox.limited.contains (0x0401, 0) = false) : thrashCheck s =
      raiseLimited 0x0401 0 (leBytes 1 1 ++ leBytes 1 0 ++ leBytes 2 (min 65535 (late * 1000 / planned)) ++ leBytes 2 0
        ++ leBytes 1 (halfOf s.mls.inForce) ++ leBytes 1 s.mls.inForce.pins.length ++ leBytes 1 s.mls.inForce.reserve)
        (onCrownStats (fun k => { k with thrash := inc 32 k.thrash }) (onMls (fun m => { m with ratio := (0, 0, 0, 0) }) s)) := by
  have hb : bitsNat [true, false] = 1 := rfl
  simp [thrashCheck, hr, hp, hl, hm, Nat.ne_of_gt hp, ratioOf, hb, -List.contains_eq_mem]

/-- A station whose entry is lost, with no MPDU held, is removed. -/
theorem loseEntry_resident {h : Nat} (hs : (station h s).isSome = true) (hh : s.mls.hold = []) : loseEntry h s =
    dismiss h 0 1 (onCrownStats (fun c => { c with lost := inc 32 c.lost, holdExpired := addWrap 32 c.holdExpired 0 }) (raise 0x0403 (leBytes 2 h) s)) := by
  rw [loseEntry, if_neg (by simp [Option.isSome_iff_ne_none.mp hs]), hh]
  rfl

end

/-- Settles O57: with nothing waiting or queued, and the pool within its size, the Crown's engine has nothing to do. -/
theorem crownRows : Obligations.CrownRows := by
  unfold Obligations.CrownRows
  intro s h
  refine ⟨fun o k hf hst ho hq hw hh hp => ?_, fun k hf => ⟨?_, ?_⟩, fun x hx => ?_, fun hw hq hp => ?_, fun h1 h2 => ?_, fun late planned hr hpl hl hm => ?_,
    fun hs hh => ?_, fun hs => ?_, fun valid ng cb hs hr => ⟨fun hc hp => ?_, fun hc => ?_⟩, fun valid ng cb hs => ?_⟩
  · have hps : poolUsed (start s) = poolUsed s := rfl
    refine ⟨_, congrArg Host.Outcome.next (crownDone_idle (s := start s) hf hst ho hq hw hh (hps ▸ hp)), ?_, ?_, ?_, ?_⟩
    · rw [resident_markUse]
      simp [resident, arrive, hst]
    · simp [markUse, arrive, landed, onCrownStats, hf]
    · simp [markUse, arrive, landed, onCrownStats]
    · simp [markUse, arrive, landed, onCrownStats, onMls, start]
  · exact congrArg Host.Outcome.next (by simp [crownDone, hf])
  · exact congrArg Host.Outcome.next (by simp [crownDone, hf])
  · exact congrArg Host.Outcome.next (holdExpiry_of (s := start s) hx)
  · exact congrArg Host.Outcome.next (lingerExpiry_idle (s := start s) hw hq hp)
  · exact congrArg Host.Outcome.next (if_neg (by simp [h1, h2]))
  · exact congrArg Host.Outcome.next (thrashCheck_late (s := start s) hr hpl hl hm)
  · exact congrArg Host.Outcome.next (loseEntry_resident (s := start s) hs hh)
  · exact congrArg Host.Outcome.next (if_pos (by simp [hs]))
  · have hr' : ¬((station h (start s)).isNone || !reportAccepted ng cb) = true := by simp [hr, Option.isSome_iff_ne_none.mp hs]
    refine congrArg Host.Outcome.next ((if_neg hr').trans (if_neg ?_))
    rw [Bool.or_eq_true, not_or]
    exact ⟨Bool.not_eq_true _ ▸ hc, by rw [Bool.not_eq_true', Bool.not_eq_false]; exact hp⟩
  · have hr' : ¬((station h (start s)).isNone || !reportAccepted ng cb) = true := by simp [hr, Option.isSome_iff_ne_none.mp hs]
    refine congrArg Host.Outcome.next ((if_neg hr').trans (if_pos ?_))
    rw [Bool.or_eq_true]
    exact .inl hc
  · exact congrArg Host.Outcome.next (if_pos hs)
end Sys2Proof.Machine
end

section
/-! PROOF. The scheduler's window (chapter 06). -/
namespace Sys2Proof.Machine
set_option Elab.async false

/-! ### What the Crown's engine leaves alone -/

/-- Nothing but the Crown, its operations and its counters has changed. -/
def CrownSide (s t : State) : Prop :=
  t = { s with mls := { s.mls with crown := t.mls.crown, evicted := t.mls.evicted, queue := t.mls.queue, flight := t.mls.flight, stats := t.mls.stats } }

theorem CrownSide.refl (s : State) : CrownSide s s := rfl

section
variable {s t w : State}

theorem CrownSide.trans (h : CrownSide s t) (k : CrownSide t w) : CrownSide s w := by
  unfold CrownSide at *
  rw [k, h]

section
variable (h : CrownSide s t)
include h

theorem CrownSide.plan : t.mls.plan = s.mls.plan := by rw [h]
theorem CrownSide.next : t.mls.next = s.mls.next := by rw [h]
theorem CrownSide.committed : t.mls.committed = s.mls.committed := by rw [h]

theorem CrownSide.onCrownStats (f : CrownStats → CrownStats) : CrownSide s (Machine.onCrownStats f t) := h.trans rfl

theorem CrownSide.markUse : CrownSide s (Machine.markUse t) := h.trans rfl

theorem CrownSide.evict (d : Nat) (e : CrownEntry) : CrownSide s (Machine.evict d e t) := h.trans rfl

theorem CrownSide.enqueue (l : List CrownOp) : CrownSide s (onMls (fun m => { m with queue := m.queue ++ l }) t) := h.trans rfl

theorem CrownSide.mapCrown (f : CrownEntry → CrownEntry) : CrownSide s (onMls (fun m => { m with crown := m.crown.map f }) t) := h.trans rfl

theorem CrownSide.trimPool (d e k : Nat) : CrownSide s (Machine.trimPool d e k t) := by
  induction k generalizing t with
  | zero => exact h
  | succ k ih =>
    rw [Machine.trimPool]
    split
    · exact h
    · split
      · exact ih (h.evict ..)
      · exact h

theorem CrownSide.crownIssue (k : Nat) : CrownSide s (Machine.crownIssue k t) := by
  induction k generalizing t with
  | zero => exact h
  | succ k ih =>
    rw [Machine.crownIssue]
    split
    · exact h
    · split
      · exact h
      · exact ih (h.trans rfl)

theorem CrownSide.crownGo : CrownSide s (Machine.crownGo t) := (h.trimPool ..).crownIssue _

theorem CrownSide.stageUser (d u : Nat) : CrownSide s (Machine.stageUser d t u) := by
  unfold Machine.stageUser
  split
  · exact h
  · exact ((h.trimPool d (if pinned u t then 0 else 1) 96).enqueue _).onCrownStats _

theorem CrownSide.stageUsers (d : Nat) (l : List Nat) : CrownSide s (l.foldl (Machine.stageUser d) t) := by
  induction l generalizing t with
  | nil => exact h
  | cons u l ih => exact ih (h.stageUser d u)

theorem CrownSide.stageNext (n free : Nat) (p : Plan) : CrownSide s (Machine.stageNext n free p t).2 := by
  unfold Machine.stageNext
  split
  · exact h
  · exact h.stageUsers ..

theorem CrownSide.stageFirst (b : Nat) (p : Plan) : CrownSide s (Machine.stageFirst b p t).2 :=
  ((h.stageNext 0 b p).stageNext 1 b _).stageNext 2 b _

end
end

/-! ### Staging -/

section
variable {s : State} {p : Plan}

/-- Staging of a slice keeps the plan where it has no TXOP on the slice, and drops at most that one. -/
theorem stageNext_none {n free : Nat} (h : nextPlanned n p = none) : (stageNext n free p s).1 = p := by
  simp only [stageNext, h]

theorem stageNext_plan (n free : Nat) : (stageNext n free p s).1.txops.length ≤ p.txops.length ∧ (stageNext n free p s).1.stations = p.stations := by
  unfold stageNext
  split
  · exact ⟨Nat.le_refl _, rfl⟩
  · refine ⟨?_, rfl⟩
    dsimp only
    split
    · exact List.length_erase_le
    · exact Nat.le_of_eq (List.length_map ..)

/-- A plan without TXOPs has nothing to stage. -/
theorem stageFirst_empty {b : Nat} (h : p.txops = []) : (stageFirst b p s).1 = p := by
  have hn (n : Nat) : nextPlanned n p = none := by simp [nextPlanned, h]
  have h1 (t : State) (n : Nat) : (stageNext n b p t).1 = p := stageNext_none (hn n)
  simp only [stageFirst, List.foldl_cons, List.foldl_nil, h1]

/-! ### A TXOP's users -/

theorem mem_withinShare {c : SchedSettings} {share phy h : Nat} {l : List Nat} (hm : h ∈ withinShare c share phy l) : h ∈ l := by
  have hf : ∀ a ∈ (l.filter fun h => c.pins.contains h || ((l.filter fun h => !c.pins.contains h).take share).contains h).take phy, a ∈ l :=
    fun a ha => (List.mem_filter.mp (List.mem_of_mem_take ha)).1
  unfold withinShare at hm
  dsimp only at hm
  split at hm
  · exact hf h hm
  · exact hf h (List.mem_of_mem_take hm)

/-- A user of a TXOP is ranked, asked for, and passes every limit. -/
theorem mem_txopUsers {x : PlanBase} {rank : List Nat} {t : PlanTxop} {h : Nat} (hm : h ∈ txopUsers x rank p t s) :
    h ∈ rank ∧ h ∈ t.users ∧ plannable x t h s = true ∧ linkFits x p t h s = true ∧ emlsrFits p t h s = true ∧ airtimeFits x p t h s = true := by
  have hs := (List.mem_filter.mp hm).1
  have hr : h ∈ withinShare x.settings (p.shares.get t.slice) (phyUsers t.slice s) (rank.filter fun h => t.users.contains h && plannable x t h s
      && hasUse x t h s && linkFits x p t h s && emlsrFits p t h s && airtimeFits x p t h s) := by
    split at hs
    · exact List.mem_of_mem_take hs
    · exact hs
  obtain ⟨hrank, hok⟩ := List.mem_filter.mp (mem_withinShare hr)
  simp only [Bool.and_eq_true, List.contains_iff_mem] at hok
  obtain ⟨⟨⟨⟨⟨hu, hp⟩, -⟩, hl⟩, he⟩, ha⟩ := hok
  exact ⟨hrank, hu, hp, hl, he, ha⟩

theorem sample_of_plannable {x : PlanBase} {t : PlanTxop} {h : Nat} (hp : plannable x t h s = true) : x.sample.contains (t.slice, h, true) = true ∨
    (t.uplink || t.sounding) = true ∧ x.sample.contains (t.slice, h, false) = true := by
  unfold plannable at hp
  rw [Bool.and_eq_true, Bool.or_eq_true, Bool.and_eq_true] at hp
  exact hp.1

/-- A TXOP joins a plan with its users, or leaves the plan as it was. -/
theorem addTxop_cases (x : PlanBase) (rank : List Nat) (s : State) (p : Plan) (t : PlanTxop) : addTxop x rank s p t = p ∨
    ∃ v, (addTxop x rank s p t).txops = p.txops ++ [v] ∧ v.slice = t.slice ∧ v.start = t.start ∧ v.users = txopUsers x rank p t s ∧
      v.users ≠ [] ∧ bit p.busy t.slice = true := by
  unfold addTxop
  dsimp only
  split
  · exact .inl rfl
  · next hc =>
    simp only [Bool.or_eq_true, not_or, Bool.not_eq_true, Bool.not_eq_false', List.isEmpty_eq_false_iff] at hc
    obtain ⟨⟨⟨hl, hb⟩, -⟩, -⟩ := hc
    exact .inr ⟨_, rfl, rfl, rfl, rfl, hl, hb⟩

/-! ### The commit -/

/-- Settings are committed to the Crown alone. -/
theorem commitCrown_side (c : SchedSettings) : CrownSide (onMls (fun m => { m with committed := c }) s) (commitCrown c s) :=
  (((CrownSide.refl (onMls (fun m => { m with committed := c }) s)).mapCrown _).stageUsers (runTime s) c.pins).crownGo

theorem CrownSide.commit {t : State} {c : SchedSettings} (h : CrownSide (onMls (fun m => { m with committed := c }) s) t) :
    t = { s with mls := t.mls } ∧ t.mls.committed = c := by
  refine ⟨?_, h.committed⟩
  rw [h]
  rfl

/-- What the windows of the scheduler stand on is not touched by a commit. -/
def PlanOnly (s t : State) : Prop := t = { s with air := t.air, mls := t.mls } ∧ t.mls.plan = s.mls.plan ∧ t.mls.snapshot = s.mls.snapshot ∧
  t.mls.inForce = s.mls.inForce

section
variable {t w : State}

theorem PlanOnly.trans (h : PlanOnly s t) (k : PlanOnly t w) : PlanOnly s w := by
  obtain ⟨h1, h2, h3, h4⟩ := h
  obtain ⟨k1, k2, k3, k4⟩ := k
  refine ⟨?_, k2.trans h2, k3.trans h3, k4.trans h4⟩
  rw [k1, h1]

theorem CrownSide.planOnly (h : CrownSide s t) : PlanOnly s t := by
  refine ⟨?_, h.plan, ?_, ?_⟩ <;> rw [h]
end

/-- The plan that a commit makes of a base: its TXOPs in the order given, staged. -/
def committedPlan (sample : List (Nat × Nat × Bool)) (base : Plan) (txops : List PlanTxop) (twt free : List Nat) (s : State) : Plan :=
  txops.foldl (addTxop (nextBase sample txops twt free s) (ranked (nextBase sample txops twt free s) s) s) base

/-- The state on which a commit stages the plan. -/
def stagedOn (plan : Plan) (s : State) : State :=
  agePrecoders (commitCrown s.mls.snapshot (onMls (fun m => { m with sampled := none, next := some plan }) s))

/-- Behind the staging of a commit the stations age, and the counts are taken. -/
def commitCounted (rank : List Nat) (r : Plan × State) : State :=
  let s := countAppearances (r.1.txops.map fun t => t.users.length).sum (ageStations rank r.1 r.2)
  let full := decide (512 < rank.length)
  onMls (fun m => { m with
    next := some r.1
    fullNow := (m.fullNow.1 + 1, m.fullNow.2.1 + b2n full, max m.fullNow.2.2 rank.length)
    stats := { m.stats with planFull := if full then inc 32 m.stats.planFull else m.stats.planFull
                            peakPlanned := max m.stats.peakPlanned r.1.stations.length } }) s

theorem planCommit_of {sample : List (Nat × Nat × Bool)} {base : Plan} {txops : List PlanTxop} {twt free : List Nat} (hs : s.mls.sampled = some sample)
    (hn : s.mls.next = some base) : planCommit txops twt free s = crownGo (markUse (commitCounted (ranked (nextBase sample txops twt free s) s)
      (stageFirst (windowEnd (stagedOn (committedPlan sample base txops twt free s) s)) (committedPlan sample base txops twt free s)
        (markUse (stagedOn (committedPlan sample base txops twt free s) s))))) := by
  rw [planCommit, hs, hn]
  rfl

theorem stagedOn_spec (plan : Plan) (s : State) : PlanOnly s (stagedOn plan s) ∧ (stagedOn plan s).mls.committed = s.mls.snapshot ∧
    (stagedOn plan s).mls.sampled = none := by
  have h := commitCrown_side (s := onMls (fun m => { m with sampled := none, next := some plan }) s) s.mls.snapshot
  unfold stagedOn
  generalize commitCrown s.mls.snapshot (onMls (fun m => { m with sampled := none, next := some plan }) s) = t at h
  refine ⟨⟨?_, ?_, ?_, ?_⟩, ?_, ?_⟩ <;> simp only [agePrecoders, onAir_mls] <;> rw [h] <;> rfl

theorem commitCounted_spec (rank : List Nat) (r : Plan × State) : PlanOnly r.2 (commitCounted rank r) ∧
    (commitCounted rank r).mls.committed = r.2.mls.committed ∧ (commitCounted rank r).mls.sampled = r.2.mls.sampled ∧
    (commitCounted rank r).mls.next = some r.1 :=
  ⟨⟨rfl, rfl, rfl, rfl⟩, rfl, rfl, rfl⟩

/-- A commit keeps the running plan and both settings, takes the snapshot as committed, and leaves its plan, staged, for the next window. -/
theorem planCommit_spec {sample : List (Nat × Nat × Bool)} {base : Plan} {txops : List PlanTxop} {twt free : List Nat} (hs : s.mls.sampled = some sample)
    (hn : s.mls.next = some base) : PlanOnly s (planCommit txops twt free s) ∧ (planCommit txops twt free s).mls.sampled = none ∧
      (planCommit txops twt free s).mls.committed = s.mls.snapshot ∧ ∃ b t, (planCommit txops twt free s).mls.next =
        some (stageFirst b (committedPlan sample base txops twt free s) t).1 := by
  obtain ⟨h1, hc1, hs1⟩ := stagedOn_spec (committedPlan sample base txops twt free s) s
  rw [planCommit_of hs hn]
  generalize ranked (nextBase sample txops twt free s) s = rank
  generalize stagedOn (committedPlan sample base txops twt free s) s = a at h1 hc1 hs1
  generalize committedPlan sample base txops twt free s = plan
  have h2 := (CrownSide.refl a).markUse.stageFirst (windowEnd a) plan
  obtain ⟨h3, hc3, hs3, hn3⟩ := commitCounted_spec rank (stageFirst (windowEnd a) plan (markUse a))
  have h4 := (CrownSide.refl (commitCounted rank (stageFirst (windowEnd a) plan (markUse a)))).markUse.crownGo
  refine ⟨((h1.trans h2.planOnly).trans h3).trans h4.planOnly, ?_, ?_, windowEnd a, markUse a, h4.next.trans hn3⟩
  · rw [h4]
    exact hs3.trans (by rw [h2]; exact hs1)
  · rw [h4.committed, hc3, h2.committed, hc1]

/-! ### The boundary -/

theorem startShared_frame (s : State) : startShared s = { s with radio := (startShared s).radio, modem := (startShared s).modem } := rfl

/-- The new window runs the plan committed for it, under the snapshot. -/
theorem windowBoundary_spec (hr : s.mls.running = true) (hb : s.mls.inBrim = true) : let t := windowBoundary s
    t.mls.inBrim = false ∧ t.mls.index = inc 32 s.mls.index ∧ t.mls.start = s.clock.ns ∧ t.mls.startAt = runTime s ∧ t.mls.inForce = s.mls.snapshot ∧
      t.mls.twtNow = s.mls.twtSnap ∧ t.mls.next = none ∧ t.mls.stats.planned = s.mls.plan.stations.length ∧
      (∀ p, s.mls.next = some p → t.mls.plan = p) ∧ t.air = s.air ∧ t.wire = s.wire ∧ t.sec = s.sec := by
  have h := startShared_frame s
  have hn : ¬(!s.mls.running || !s.mls.inBrim) = true := by simp [hr, hb]
  simp only [windowBoundary, if_neg hn]
  generalize startShared s = x at h
  have hm : x.mls = s.mls := by rw [h]
  have hc : x.clock = s.clock := by rw [h]
  simp only [markUse, onMls_mls, hm, rawTime, hc, runTime, deviceTime, onMls_air, onMls_wire, onMls_sec]
  refine ⟨trivial, trivial, trivial, trivial, trivial, trivial, trivial, trivial, fun p hp => by rw [hp]; rfl, ?_, ?_, ?_⟩ <;> rw [h]

/-- A fill TXOP joins the running plan. -/
theorem fillTxop_joins {t : PlanTxop} (hr : s.mls.running = true) (hb : s.mls.inBrim = false) (hn : nextPlanned t.slice s.mls.plan = none)
    (hp : inPlan t.slice s = true) : CrownSide (onMls (fun m => { m with
      plan := addTxop (fillBase t s) (ranked (fillBase t s) s) s s.mls.plan t, ratio := (fillTxop t s).mls.ratio }) s) (fillTxop t s) := by
  rw [fillTxop, if_neg (by simp [hr, hb, hn, hp])]
  rfl

theorem stagingStart_running {n : Nat} (hr : s.mls.running = true) : CrownSide (onMls (fun m => { m with plan := (stageNext n (slotFree n s) s.mls.plan s).1 }) s)
    (stagingStart n s) := by
  have h := (CrownSide.refl s).stageNext n (slotFree n s) s.mls.plan
  rw [stagingStart, if_neg (by simp [hr])]
  generalize stageNext n (slotFree n s) s.mls.plan s = r at h
  have hm : CrownSide (onMls (fun m => { m with plan := r.1 }) s) (onMls (fun m => { m with plan := r.1 }) r.2) := by
    unfold CrownSide at *
    rw [h]
    rfl
  exact hm.markUse.crownGo

end

/-- Settles O56: what a commit, a fill TXOP and the staging leave alone, and the users that a TXOP may hold. -/
theorem windowRows : Obligations.WindowRows := by
  unfold Obligations.WindowRows
  intro s
  refine ⟨fun hr hb => ?_, fun h => ?_, fun sample base twt free hs hn => ⟨fun txops => ?_, fun he => ?_⟩, fun hs l e k => ?_, fun x rank p t => ?_,
    fun hr hb => ?_, fun hr => ?_, fun t hr hb hn hp => ?_, fun t hb => ?_, fun n hr => ?_, fun n hr => ?_⟩
  · exact congrArg Host.Outcome.next (if_neg (by simp [hr, hb]))
  · exact congrArg Host.Outcome.next (if_pos (by rcases h with h | h <;> simp [h]))
  · obtain ⟨⟨h, hp, hsn, hf⟩, hs', hc, -⟩ := planCommit_spec (s := start s) (txops := txops) (twt := twt) (free := free) hs hn
    refine ⟨_, rfl, ?_, hs', hp, hc, hsn, hf⟩
    rw [h]
    rfl
  · obtain ⟨-, -, -, b, t, hnext⟩ := planCommit_spec (s := start s) (txops := []) (twt := twt) (free := free) hs hn
    refine ⟨_, rfl, ?_⟩
    have hpl : (stageFirst b (committedPlan sample base [] twt free (start s)) t).1 = base := stageFirst_empty he
    exact (congrArg _ hnext).trans (by rw [hpl, Option.map_some, he])
  · exact congrArg Host.Outcome.next (by simp [planCommit, hs])
  · rcases addTxop_cases x rank s p t with h | ⟨v, hv, hsl, hst, hu, hne, hb⟩
    · exact .inl h
    · refine .inr ⟨v, hv, hsl, hst, hne, hb, fun a ha => ?_⟩
      obtain ⟨hrank, hask, hpl, hl, he, hair⟩ := mem_txopUsers (hu ▸ ha)
      exact ⟨hask, hrank, hl, he, hair, sample_of_plannable hpl⟩
  · exact ⟨_, rfl, windowBoundary_spec (s := start s) hr hb⟩
  · exact congrArg Host.Outcome.next (if_pos (by simp [hr]))
  · have h := fillTxop_joins (s := start s) hr hb hn hp
    refine ⟨_, rfl, h.plan, ?_⟩
    rw [h]
    rfl
  · exact congrArg Host.Outcome.next (if_pos (by simp [hb]))
  · have h := stagingStart_running (s := start s) (n := n) hr
    obtain ⟨hl, hst⟩ := stageNext_plan (s := start s) (p := s.mls.plan) n (slotFree n (start s))
    refine ⟨_, rfl, ?_, ?_, ?_, fun hn => ?_⟩
    · rw [h]
      rfl
    · rw [h.plan]
      exact hl
    · rw [h.plan]
      exact hst
    · rw [h.plan]
      exact stageNext_none hn
  · exact congrArg Host.Outcome.next (if_pos (by simp [hr]))
end Sys2Proof.Machine
end

section
/-! PROOF. Frames on the wire (chapters 07 and 08). -/
namespace Sys2Proof.Machine
set_option Elab.async false

section
variable {s : State} {p : Nat} {b : Bytes}

/-! ### Reception -/

/-- Counting on a port keeps its SecY. -/
theorem secyOn_countPort (i n : Nat) : secyOn p (countPort p i n s) = secyOn p s := by
  unfold countPort
  split
  · rfl
  · rw [secyOn, port_onPort]
    rfl

theorem secyOn_countGood (len : Nat) : secyOn p (countGood p len b s) = secyOn p s := by
  rw [countGood, secyOn_countPort, secyOn_countPort, secyOn_countPort]

/-- A frame of a port that is not UP is nothing. -/
theorem frameReceive_down {fcs : Bool} (h : (port p s).state ≠ .up) : frameReceive p b fcs s = s := if_pos (by simp [h])

section
variable (h4 : p ≤ 4) (h9 : powered 9 s = true) (h2 : powered 2 s = true) (hu : (port p s).state = .up) (hr : (port p s).notReady = false)
  (hs : secyOn p s = false)
include h4 h9 h2 hu hr hs

/-- A frame of an UP port without MACsec, by its length and its FCS. -/
theorem frameReceive_plain (fcs : Bool) : frameReceive p b fcs s =
    if b.length + 4 < 64 then countPort p (if fcs then 8 else 9) 1 s
    else if (port p s).cfg.maxFrame < b.length + 4 then countPort p (if fcs then 10 else 11) 1 s
    else if fcs = false then
      if b.length ≤ 252 then countPort p 7 1 s else enterLookup p b false (countPort p 7 1 s)
    else frameReceive p b true s := by
  by_cases hl : b.length + 4 < 64
  · simp [frameReceive, portRuns, h9, h4, hu, hr, h2, hs, hl]
  · by_cases hm : (port p s).cfg.maxFrame < b.length + 4
    · simp [frameReceive, portRuns, h9, h4, hu, hr, h2, hs, hl, hm]
    · cases fcs
      · simp [frameReceive, portRuns, h9, h4, hu, hr, h2, hs, hl, hm, secyOn_countPort]
      · simp [hl, hm]

/-- A good frame that is no control frame and no UMP frame is counted and awaits its lookup. -/
theorem frameReceive_good (hl : 64 ≤ b.length + 4) (hm : b.length + 4 ≤ (port p s).cfg.maxFrame) (hc : etherType b ≠ 0x8808)
    (he : etherType b ≠ 0x88B5) : frameReceive p b true s = enterLookup p b true (countGood p (b.length + 4) b s) := by
  have hs' : secyOn p (countGood p (b.length + 4) b s) = false := (secyOn_countGood _).trans hs
  simp [frameReceive, portRuns, h9, h4, hu, hr, h2, hs, Nat.not_lt.mpr hl, Nat.not_lt.mpr hm, hc, he, hs']
end

theorem enterLookup_none {good : Bool} (h : takeCells p (ingressPriority p b s) (cellsOf b.length) s = none) : enterLookup p b good s = countPort p 12 1 s := by
  simp only [enterLookup, h]

theorem enterLookup_some {good : Bool} {t : State} (h : takeCells p (ingressPriority p b s) (cellsOf b.length) s = some t) : enterLookup p b good s =
    onWire (fun w => { w with lookup := w.lookup ++ [{ ingress := p, bytes := b, priority := ingressPriority p b s, rxPrio := ingressPriority p b s,
                                                       first := rawTime s, sram := true, cells := cellsOf b.length, good := good }] }) t := by
  simp only [enterLookup, h]

theorem rawTime_countPort (i n : Nat) : rawTime (countPort p i n s) = rawTime s := by
  unfold countPort
  split <;> rfl

/-! ### The verdict on a MACsec frame -/

/-- A change of a SecY is told by what it makes of the SecY there is. -/
theorem onSecy_congr {g h : SecY → SecY} (e : g (port p s).secy = h (port p s).secy) : onSecy p g s = onSecy p h s := by
  rw [onSecy, onSecy, onPort, onPort, e]

section
variable {f : Frame} {sc an pn : Nat} {r : List (Frame × Nat × Nat × Nat)} {a : Sa} (hi : (port p s).icv = (f, sc, an, pn) :: r)
  (ha : saOf (port p s).secy true sc an = some a)
include hi ha

/-- The oldest frame that waits for its verdict is freed and counted, or released with the lowest acceptable PN raised. -/
theorem icvVerdict_of (good : Bool) : icvVerdict p good b s =
    let x := onPort p (fun y => { y with icv := r }) s
    if good = false then countPort p 16 1 (freeFrame f x)
    else if (bit (port p s).secy.flags 2 && decide (pn < a.pn)) = true then countPort p 17 1 (freeFrame f x)
    else
      let y := onSecy p (fun y => { y with rx := Tab.modify y.rx (sc * 4 + an) fun a => { a with pn := max a.pn (pn + 1 - y.window) } }) x
      let k := ingressPriority p b y
      settleXoff (onWire (fun w => { w with lookup := w.lookup ++ [{ f with bytes := b, priority := k, rxPrio := k }] })
        (onPort p (fun z => { z with cells := (z.cells.modify f.rxPrio (· - f.cells)).modify k (· + f.cells) }) y)) := by
  have hsecy : (port p (onPort p (fun y => { y with icv := r }) s)).secy = (port p s).secy := by rw [port_onPort]
  have hlook : Tab.look (port p s).secy.rx (sc * 4 + an) = some a := ha
  have hwin : onSecy p (fun y => { y with rx := Tab.modify y.rx (sc * 4 + an) fun x => { x with pn := max a.pn (pn + 1 - (port p s).secy.window) } })
      (onPort p (fun y => { y with icv := r }) s) =
    onSecy p (fun y => { y with rx := Tab.modify y.rx (sc * 4 + an) fun x => { x with pn := max x.pn (pn + 1 - y.window) } })
      (onPort p (fun y => { y with icv := r }) s) := by
    refine onSecy_congr ?_
    rw [hsecy, Tab.modify_of_look _ hlook, Tab.modify_of_look _ hlook]
  unfold icvVerdict
  rw [hi]
  dsimp only
  rw [hsecy, ha]
  dsimp only
  rw [hwin]
  cases good <;> rfl
end

/-! ### Lookup -/

section
variable {f : Frame} {k : Nat}

/-- The frame at a FIFO head goes on as the pipeline says. -/
theorem packetLookup_head {u : State} (h : lookupHead p k s = some f) (hg : f.good = true) (hu : pipeline f (popLookup f s) = .ok u) :
    packetLookup p k s = u := by
  simp [packetLookup, h, hg, hu]

theorem packetLookup_none (h : lookupHead p k s = none) : packetLookup p k s = s := by simp only [packetLookup, h]

theorem headTimeout_none (h : lookupHead p k s = none) : headTimeout p k s = s := by simp only [headTimeout, h]

theorem headTimeout_head (h4 : p ≤ 4) (h : lookupHead p k s = some f) : headTimeout p k s = if bit (port p s).blocked k then
    freeFrame f (onPort p (fun x => { x with holdDropNow := inc 32 x.holdDropNow }) (countPort p 13 1 (popLookup f s))) else s := by
  simp [headTimeout, h, h4]

/-- What the pipeline reads of the device is not touched as a frame leaves its FIFO. -/
theorem popLookup_reads (f : Frame) (s : State) : (popLookup f s).wire.vlans = s.wire.vlans ∧ (popLookup f s).wire.acl = s.wire.acl ∧
    (popLookup f s).wire.macs = s.wire.macs ∧ (popLookup f s).qme = s.qme ∧ (popLookup f s).clock = s.clock ∧
    (port f.ingress (popLookup f s)).cfg = (port f.ingress s).cfg := by
  unfold popLookup
  dsimp only
  split
  · exact ⟨rfl, rfl, rfl, rfl, rfl, rfl⟩
  · refine ⟨rfl, rfl, rfl, rfl, rfl, ?_⟩
    rw [port_onPort]
    rfl

theorem assignVlan_popLookup : assignVlan f (popLookup f s) = assignVlan f s := by
  obtain ⟨-, -, -, -, -, h⟩ := popLookup_reads f s
  simp only [assignVlan, h]

theorem vlan_popLookup (v : Nat) : vlan v (popLookup f s) = vlan v s := by
  obtain ⟨h, -⟩ := popLookup_reads f s
  simp only [vlan, h]

/-- A frame of a port with its VLAN, and without its tag. -/
def onVlan (f : Frame) (s : State) : Frame := { f with vlan := assignVlan f s, tci := tagOf f.bytes, bytes := untag f.bytes }

/-- A frame of an unknown VLAN is dropped and counted. -/
theorem pipeline_no_vlan (hi : f.ingress ≤ 4) (hv : vlan (assignVlan f s) s = none) :
    pipeline f s = .ok (dropFrame (onVlan f s) (countPort f.ingress 23 1 s)) := by
  simp [pipeline, hi, hv, onVlan]

/-- A frame of a port that is a member of its VLAN, with no PTP port, policer or rule before it, comes to its lookup. -/
theorem pipeline_member {v : Vlan} (hi : f.ingress ≤ 4) (hv : vlan (assignVlan f s) s = some v) (hm : bit v.members f.ingress = true)
    (hp : sourcePolicer (2, f.ingress) s = none) (ha : s.wire.acl = []) (hc : bit s.clock.cfg.ports f.ingress = false) :
    pipeline f s = lookupFrame (onVlan f s) s := by
  simp [pipeline, hi, hv, hm, ptpEnds, hc, aclStage, framePolicer, hp, policeFrame, ha, onVlan]

/-- A frame that is neither ARP nor IP, on a VLAN that does not learn, is bridged. -/
theorem lookupFrame_bridged {v : Vlan} {g : Frame} (hv : vlan g.vlan s = some v) (hl : bit v.flags 0 = false) (hip : ipOf g.bytes = none)
    (harp : etherType g.bytes ≠ 0x0806) : lookupFrame g s = .ok (bridge g s) := by
  have hlearn : learn g s = s := by simp [learn, hv, hl]
  simp [lookupFrame, hlearn, arpForUs, harp, hip, snooped]

/-- A frame to an address known on another port goes to that port alone. -/
theorem bridge_known {v : Vlan} {g : Frame} {e : MacEntry} (hv : vlan g.vlan s = some v) (hg : groupBound g.bytes = false)
    (he : macEntry g.vlan (dstMac g.bytes) s = some e) (hst : e.station = none) (hne : e.port ≠ g.ingress) :
    bridge g s = toPort e.port g (countPort g.ingress 40 1 s) := by
  simp [bridge, hv, targets, hg, he, hst, hne, sendAll]

end

section
variable {f : Frame} {k : Nat} (h4 : p ≤ 4) (h : lookupHead p k s = some f) (hi : f.ingress = p) (hg : f.good = true)
include h4 h hi hg

/-- The head of a FIFO whose VLAN is unknown is freed and counted. -/
theorem packetLookup_no_vlan (hv : vlan (assignVlan f s) s = none) (hsr : f.sram = true) : packetLookup p k s =
    freeFrame (onVlan f (popLookup f s)) (countPort p 23 1 (popLookup f s)) := by
  have hv' : vlan (assignVlan f (popLookup f s)) (popLookup f s) = none := by rw [assignVlan_popLookup, vlan_popLookup, hv]
  rw [packetLookup_head h hg (pipeline_no_vlan (hi ▸ h4) hv'), hi, dropFrame, if_pos (show (onVlan f (popLookup f s)).sram = true from hsr)]

/-- The head of a FIFO that is bridged to an address known on another port is sent there. -/
theorem packetLookup_known {v : Vlan} {e : MacEntry} (hv : vlan (assignVlan f s) s = some v) (hm : bit v.members p = true)
    (hp : sourcePolicer (2, p) s = none) (ha : s.wire.acl = []) (hc : bit s.clock.cfg.ports p = false) (hl : bit v.flags 0 = false)
    (hgr : groupBound (untag f.bytes) = false) (hip : ipOf (untag f.bytes) = none) (harp : etherType (untag f.bytes) ≠ 0x0806)
    (he : macEntry (assignVlan f s) (dstMac (untag f.bytes)) s = some e) (hst : e.station = none) (hne : e.port ≠ p) :
    packetLookup p k s = toPort e.port (onVlan f s) (countPort p 40 1 (popLookup f s)) := by
  obtain ⟨-, hacl, hmacs, hqme, hclock, -⟩ := popLookup_reads f s
  have hon : onVlan f (popLookup f s) = onVlan f s := by rw [onVlan, assignVlan_popLookup]; rfl
  have hv' : vlan (assignVlan f s) (popLookup f s) = some v := (vlan_popLookup _).trans hv
  have hpipe : pipeline f (popLookup f s) = lookupFrame (onVlan f s) (popLookup f s) := by
    rw [← hon]
    refine pipeline_member (hi ▸ h4) (assignVlan_popLookup ▸ hv') (hi ▸ hm) ?_ (hacl.trans ha) ?_
    · rw [sourcePolicer, hqme, hi]
      exact hp
    · rw [hclock, hi]
      exact hc
  have he' : macEntry (onVlan f s).vlan (dstMac (onVlan f s).bytes) (popLookup f s) = some e := by
    rw [macEntry, hmacs]
    exact he
  rw [packetLookup_head h hg (hpipe.trans (lookupFrame_bridged (g := onVlan f s) hv' hl hip harp)),
    bridge_known (g := onVlan f s) hv' hgr he' hst (hi ▸ hne)]
  exact congrArg (fun i => toPort e.port (onVlan f s) (countPort i 40 1 (popLookup f s))) hi

end

/-! ### Transmission -/

section
variable {f : Frame} {r : List Frame}

theorem settleClosed_frames (q n : Nat) (s : State) : (queue n (settleClosed q s)).frames = (queue n s).frames := by
  have hq (f : QueueInfo → QueueInfo) (hf : ∀ i, (f i).frames = i.frames) : (queue n (onQueue q f s)).frames = (queue n s).frames := by
    by_cases h : n = q
    · rw [h, queue_onQueue, hf]
    · rw [queue_onQueue_ne _ _ h]
  simp only [settleClosed]
  split
  · split
    · exact hq _ fun _ => rfl
    · rfl
  · exact hq _ fun _ => rfl

/-- The head of a queue has left it and its cells. -/
def headLeft (q : Nat) (f : Frame) (r : List Frame) (s : State) : State :=
  settleClosed q (onQueue q (fun i => { i with frames := r }) (leaveCells q f.cells s))

theorem settleClosed_frame (q : Nat) (s : State) : settleClosed q s = { s with qme := (settleClosed q s).qme } := by
  simp only [settleClosed]
  split
  · split <;> rfl
  · rfl

theorem headLeft_frame (q : Nat) : headLeft q f r s = { s with qme := (headLeft q f r s).qme } := settleClosed_frame ..

theorem headLeft_frames (q : Nat) : (queue q (headLeft q f r s)).frames = r := by
  rw [headLeft, settleClosed_frames, queue_onQueue]

/-- The UMP port sends the head of its queue as it stands. -/
theorem sendHead_mgt {q : Nat} (hq : (queue q s).frames = f :: r) (hl : f.bytes.length + 4 ≤ (port 4 s).cfg.maxFrame) : sendHead 4 0 q s =
    settleShapers (emit (.eth 4 f.bytes none false)
      (onPort 4 (fun x => { x with sending := some (0, { f with stamp := rawTime (headLeft q f r s) }) }) (headLeft q f r s))) := by
  have hcfg : (port 4 (headLeft q f r s)).cfg = (port 4 s).cfg := by rw [headLeft_frame]; rfl
  have hcfg' : ¬(port 4 (settleClosed q (onQueue q (fun i => { i with frames := r }) (leaveCells q f.cells s)))).cfg.maxFrame < f.bytes.length + 4 := by
    have := hcfg ▸ (Nat.not_lt.mpr hl)
    exact this
  rw [sendHead, hq]
  dsimp only
  rw [if_neg hcfg']
  rfl

/-- An empty queue is not eligible, and nothing of it is dropped. -/
theorem pickQueue_empty (h : ∀ k, k < 8 → (queue (wiredQueue p k) s).frames = []) : pickQueue p s = (none, s) := by
  have he (k : Nat) (hk : k < 8) : eligible p k s = false := by simp [eligible, h k hk]
  have hstrict : (List.range 8).reverse.find? (fun k => bit (strictMask p s) k && eligible p k s) = none := by
    rw [List.find?_eq_none]
    intro k hk
    simp [he k (by simpa using hk)]
  have hweighted : ((List.range 8).filter fun k => !bit (strictMask p s) k).any (fun k => eligible p k s) = false := by
    rw [List.any_eq_false]
    intro k hk
    simp [he k (by simpa using (List.mem_filter.mp hk).1)]
  simp [pickQueue, hstrict, hweighted, -List.any_eq_true]

end
end

/-- A free EMAC of a port with empty queues stays idle. -/
theorem txStart_empty {s : State} {p : Nat} (h4 : p ≤ 4) (hp : powered 9 s = true) (hu : portUp p s = true) (hne : p ≠ 4) (hs : (port p s).sending = none)
    (hz : (port p s).paused = false) (h : ∀ k, k < 8 → (queue (wiredQueue p k) s).frames = []) : txStart p s = s := by
  have hu' : (port p s).state = .up := by simpa [portUp] using hu
  have hdrop (l : List Nat) (hl : ∀ k ∈ l, k < 8) : l.foldl (fun t k => dropOversize p k (queue (wiredQueue p k) t).frames t) s = s := by
    induction l with
    | nil => rfl
    | cons k l ih =>
      rw [List.foldl_cons, h k (hl k (by simp))]
      exact ih fun x hx => hl x (by simp [hx])
  have hd := hdrop (List.range 8) fun k hk => List.mem_range.mp hk
  simp only [txStart, portRuns, hp, h4, hu', hs, hz, hne, hd, pickQueue_empty h]
  rfl

/-- A port that is not UP, or is paused, takes no frame. -/
theorem txStart_stays {s : State} {p : Nat} (h : portUp p s = false ∨ (port p s).paused = true) : txStart p (start s) = start s := by
  refine if_pos ?_
  rcases h with h | h
  · have h' : ((port p (start s)).state == .up) = false := h
    simp only [bne, h', Bool.not_false, Bool.or_true, Bool.true_or]
  · simp [h]

/-- A free UMP port sends the head of its queue. -/
theorem txStart_mgt {s : State} {f : Frame} {r : List Frame} (hp : powered 9 s = true) (hu : portUp 4 s = true) (hs : (port 4 s).sending = none)
    (hz : (port 4 s).paused = false) (hq : (queue 16488 s).frames = f :: r) (hl : f.bytes.length + 4 ≤ (port 4 s).cfg.maxFrame) :
    txStart 4 s = settleShapers (emit (.eth 4 f.bytes none false)
      (onPort 4 (fun x => { x with sending := some (0, { f with stamp := rawTime (headLeft 16488 f r s) }) }) (headLeft 16488 f r s))) := by
  have hu' : (port 4 s).state = .up := by simpa [portUp] using hu
  rw [← sendHead_mgt hq hl]
  simp [txStart, portRuns, hp, hu', hs, hz]

/-- What a device is behind the start of a frame on its UMP port. -/
theorem sentMgt_spec (w : State) (b : Bytes) (x : Nat × Frame) :
    let t := settleShapers (emit (.eth 4 b none false) (onPort 4 (fun y => { y with sending := some x }) w))
    (port 4 t).sending = some x ∧ (∀ q, queue q t = queue q w) ∧ Out.eth 4 b none false ∈ t.out ∧ t.mbox = w.mbox ∧ t.air = w.air := by
  refine ⟨?_, fun q => rfl, List.mem_append_right _ (List.mem_singleton_self _), rfl, rfl⟩
  exact congrArg Port.sending (port_onPort 4 (fun y => { y with sending := some x }) w)

theorem txEnd_sent {s : State} {p k : Nat} {f : Frame} (hs : (port p s).sending = some (k, f)) (hc : f.csum = false) : txEnd p s =
    flushPause p (injectFate f.inject 0 f.stamp (freeFrame f (countPort p (castCounter 26 f.bytes) 1
      (countPort p 25 1 (countPort p 24 (f.bytes.length + 4) (onPort p (fun x => { x with sending := none }) s)))))) := by
  simp [txEnd, hs, hc]

/-- Settles O59, by lemmas on the reception, the verdict, the lookup and the transmission of a frame. -/
theorem frameRows : Obligations.FrameRows := by
  unfold Obligations.FrameRows
  intro s p h4
  refine ⟨fun b fcs hd => ?_, fun h9 h2 hu hr hs b => ⟨fun hl => ⟨?_, ?_⟩, fun hl hm => ⟨?_, ?_⟩, fun hl hm hb => ?_, fun hl hm hc he => ⟨fun hk => ?_, fun t hk => ?_⟩⟩,
    fun hi g b => ?_, fun f sc an pn r a b hi ha => ⟨?_, fun h2 hlt => ?_, fun hor => ?_⟩, fun i k h => ⟨?_, ?_⟩,
    fun k f h hi => ⟨fun hb => ?_, fun hb => ?_, fun hg hv hsr => ?_, fun v e hg hv hm hp ha hc hl hgr hip harp he hst hne => ?_⟩,
    fun hu => ?_, fun hz => ?_, fun hp hu hs hz f r hq hl => ?_, fun hp hu hne hs hz h => ?_, fun hs => ?_, fun k f hs hc => ?_⟩
  · exact congrArg Host.Outcome.next (frameReceive_down (s := start s) hd)
  · exact congrArg Host.Outcome.next ((frameReceive_plain (s := start s) h4 h9 h2 hu hr hs true).trans (if_pos hl))
  · exact congrArg Host.Outcome.next ((frameReceive_plain (s := start s) h4 h9 h2 hu hr hs false).trans (if_pos hl))
  · exact congrArg Host.Outcome.next ((frameReceive_plain (s := start s) h4 h9 h2 hu hr hs true).trans ((if_neg (Nat.not_lt.mpr hl)).trans (if_pos hm)))
  · exact congrArg Host.Outcome.next ((frameReceive_plain (s := start s) h4 h9 h2 hu hr hs false).trans ((if_neg (Nat.not_lt.mpr hl)).trans (if_pos hm)))
  · exact congrArg Host.Outcome.next ((frameReceive_plain (s := start s) h4 h9 h2 hu hr hs false).trans
      ((if_neg (Nat.not_lt.mpr hl)).trans ((if_neg (Nat.not_lt.mpr hm)).trans ((if_pos rfl).trans (if_pos hb)))))
  · exact congrArg Host.Outcome.next ((frameReceive_good (s := start s) h4 h9 h2 hu hr hs hl hm hc he).trans (enterLookup_none hk))
  · refine congrArg Host.Outcome.next ((frameReceive_good (s := start s) h4 h9 h2 hu hr hs hl hm hc he).trans ((enterLookup_some hk).trans ?_))
    rw [rawTime_countPort, rawTime_countPort, rawTime_countPort]
    rfl
  · exact congrArg Host.Outcome.next (by simp [icvVerdict, hi])
  · exact congrArg Host.Outcome.next ((icvVerdict_of (s := start s) hi ha false).trans (if_pos rfl))
  · exact congrArg Host.Outcome.next ((icvVerdict_of (s := start s) hi ha true).trans ((if_neg (by decide)).trans (if_pos (by simp [h2, hlt]))))
  · refine congrArg Host.Outcome.next ((icvVerdict_of (s := start s) hi ha true).trans ((if_neg (by decide)).trans (if_neg ?_)))
    rcases hor with h | h
    · simp [h]
    · simp [Nat.not_lt.mpr h]
  · exact congrArg Host.Outcome.next (packetLookup_none (s := start s) h)
  · exact congrArg Host.Outcome.next (headTimeout_none (s := start s) h)
  · exact congrArg Host.Outcome.next ((headTimeout_head (s := start s) h4 h).trans (if_pos hb))
  · exact congrArg Host.Outcome.next ((headTimeout_head (s := start s) h4 h).trans (if_neg (by simp [hb])))
  · exact ⟨_, hsr, rfl, hi, rfl, congrArg Host.Outcome.next (packetLookup_no_vlan (s := start s) h4 h hi hg hv hsr)⟩
  · exact congrArg Host.Outcome.next (packetLookup_known (s := start s) h4 h hi hg hv hm hp ha hc hl hgr hip harp he hst hne)
  · exact congrArg Host.Outcome.next (txStart_stays (.inl hu))
  · exact congrArg Host.Outcome.next (txStart_stays (.inr hz))
  · have hu' : portUp 4 (start s) = true := hu
    have ht := txStart_mgt (s := start s) hp hu' hs hz hq hl
    obtain ⟨hsend, hqueue, hout, hmbox, hair⟩ := sentMgt_spec (headLeft 16488 f r (start s)) f.bytes
      (0, { f with stamp := rawTime (headLeft 16488 f r (start s)) })
    have hw := headLeft_frame (s := start s) (f := f) (r := r) 16488
    refine ⟨_, congrArg Host.Outcome.next ht, ⟨_, hsend, rfl, rfl⟩, ?_, hout, hmbox.trans (by rw [hw]; rfl), hair.trans (by rw [hw]; rfl)⟩
    rw [hqueue]
    exact headLeft_frames 16488
  · exact congrArg Host.Outcome.next (txStart_empty (s := start s) h4 hp hu hne hs hz h)
  · exact congrArg Host.Outcome.next (by simp [txEnd, hs])
  · exact congrArg Host.Outcome.next (txEnd_sent (s := start s) hs hc)
end Sys2Proof.Machine
end

section
/-! PROOF. The LDPC array, the turbo receiver and combining (chapter 03). -/
namespace Sys2Proof.Machine
set_option Elab.async false

section
variable {s : State}

theorem onLda_onLda (f g : LdpcArray → LdpcArray) : onLda g (onLda f s) = onLda (fun l => g (f l)) s := rfl

/-- A change of the array is told by what it makes of the array there is. -/
theorem onLda_congr {f g : LdpcArray → LdpcArray} (h : f s.modem.lda = g s.modem.lda) : onLda f s = onLda g s := by
  simp only [onLda, onModem, h]

/-- A codeword without an RU changes none. -/
theorem onRu_none (f : TurboRu → TurboRu) : onRu none f s = s := by
  have h : s.modem.lda.rus.map (fun r => if (none : Option (Nat × Nat)).any (·.1 == r.id) then f r else r) = s.modem.lda.rus := by simp
  simp only [onRu, onLda, onModem, h]

/-- A codeword alone, and neither of an RU nor combined, takes its place in an empty queue. -/
theorem enterArray_alone {c : CodewordIn} (hq : s.modem.lda.queue = []) (hr : c.ru = none) (hc : c.combine = none) : enterArray s c =
    onLda (fun l => { l with queue := [⟨c.id, c.slice, if c.tb then 0 else 1, deadlineOf c, l.limit, c.solicits, none⟩], peak := max l.peak 1 }) s := by
  have hk : knowRu c s = s := by simp only [knowRu, hr]
  have he : codewordEnters c s = true := by simp only [codewordEnters, hr]
  have hl : lockSoft c s = s := by simp only [lockSoft, hc]
  have hcls : classOf c s = if c.tb then 0 else 1 := by cases ht : c.tb <;> simp [classOf, hc, hr, ht]
  simp [enterArray, hk, he, hl, hcls, hq, hr, placeCodeword, pushCodeword, onRu_none]
  rw [if_neg (by simp [onLda, onModem, hq])]
  refine onLda_congr ?_
  simp [hq]

/-- The only codeword in an engine ends, outside every RU. -/
theorem codewordDone_alone {c : Codeword} {k : Nat} {ok : Bool} (he : s.modem.lda.engines = [c]) (hr : c.ru = none) (hn : s.modem.lda.rus = []) :
    codewordDone c.id k ok s = onLda (fun l =>
      { l with engines := []
               decoded := if ok then inc 64 l.decoded else l.decoded
               failed := if ok then l.failed else inc 64 l.failed
               iterations := addWrap 64 l.iterations (if ok then min k c.limit else c.limit)
               early := if ok && decide (k < c.limit) then inc 64 l.early else l.early
               late := if c.freeze && decide (c.deadline < runTime s) then inc 32 l.late else l.late }) s := by
  have hf : (s.modem.lda.engines.find? fun x => x.id == c.id) = some c := by simp [he]
  simp only [codewordDone, hf, hr, onRu_none, forgetRus]
  rw [onLda_onLda]
  refine onLda_congr ?_
  have hmin : min k c.limit < c.limit ↔ k < c.limit := by omega
  cases ok <;> simp [he, hn, hmin]

/-- A lone codeword goes to a free engine. -/
theorem ldpcEngineStart_alone {c : CodewordIn} (hp : powered 6 s = true) (hq : s.modem.lda.queue = []) (he : s.modem.lda.engines.length < 24)
    (hr : c.ru = none) (hc : c.combine = none) : exec (.ldpcEngineStart [c]) s = .next (onLda (fun l => { l with
      peak := max l.peak 1
      engines := l.engines ++ [⟨c.id, c.slice, if c.tb then 0 else 1, deadlineOf c, l.limit, c.solicits, none⟩] }) (start s)) := by
  have hp' : powered 6 (start s) = true := hp
  have hpick (w : Codeword) : pickCodeword [w] = some w := rfl
  simp [exec, execLdpcEngineStart, hp', enterArray_alone (s := start s) hq hr hc, onLda, onModem, hpick, he, hq]

theorem passDue_of {now : Nat} {r : TurboRu} (h1 : r.symbols ≤ now) (h2 : r.outstanding = 0) (h3 : r.again = []) (h4 : r.failed ≠ []) (h5 : 2 ≤ r.users)
    (h6 : r.pass < r.latched) : passDue now r = true := by
  simp [passDue, h1, h2, h3, h4, h5, h6]

theorem passDue_over {now : Nat} {r : TurboRu} (h : r.latched ≤ r.pass) : passDue now r = false := by
  simp [passDue, Nat.not_lt.mpr h]

/-! ### Combining -/

section
variable {h : Nat} {p : CumulusPeer}

@[simp] theorem peerOf_start : peerOf h (start s) = peerOf h s := rfl

theorem peerOf_onPeer (f : CumulusPeer → CumulusPeer) : peerOf h (onPeer h f s) = f (peerOf h s) := Tab.getD_put ..

/-- An element of a peer that takes part in combining is settled. -/
theorem cumulusElement_settles {x : Station} {v f links life c : Nat} (hs : station h s = some x) (hk : x.kind = 4) :
    exec (.cumulusElementReceive h v f links life c) s = .next (settlePeer h (if v = 1 then 1 else 3)
      (onPeer h (fun p => { p with element := some (v, f, links, life, c) }) (start s))) := by
  refine congrArg Host.Outcome.next (if_pos ?_)
  have hs' : station h (start s) = some x := hs
  simp [hs', hk]

theorem settlePeer_agrees {reason : Nat} (ha : agrees (peerOf h s) = true) (hi : (peerOf h s).active = false) (hf : 0x0300 < s.fleet.floor) :
    settlePeer h reason s = raise 0x0380 (leBytes 2 h ++ leBytes 1 (peerLinks (peerOf h s)) ++ leBytes 1 1)
      (onPeer h (fun p => { p with active := true }) s) := if_pos (by simp [ha, hi, hf])

theorem settlePeer_differs {reason : Nat} (ha : agrees (peerOf h s) = false) : settlePeer h reason s =
    if (peerOf h s).active then cumulusDown h reason s else s := by
  simp [settlePeer, ha]
end

end

/-- A soft-buffer entry that is found is the peer's, under the tag. -/
theorem softOf_key {s : State} {h tag : Nat} {e : SoftEntry} (he : softOf h tag s = some e) : e.peer = h ∧ e.tag = tag := by
  simpa using List.find?_some he

/-- An entry that is found expires, where its lifetime is over; without one nothing does. -/
theorem softExpiry_some {s : State} {h tag : Nat} {e : SoftEntry} (he : softOf h tag s = some e) :
    exec (.softEntryExpiry h tag) s = .next (expireSoft (start s) e) := by
  have he' : softOf h tag (start s) = some e := he
  simp only [exec, execSoftEntryExpiry, he']

theorem softExpiry_none {s : State} {h tag : Nat} (he : softOf h tag s = none) : exec (.softEntryExpiry h tag) s = .next (start s) := by
  have he' : softOf h tag (start s) = none := he
  simp only [exec, execSoftEntryExpiry, he']

/-- Settles O53, by the lone codeword of the array, the pass that is due, and the agreement of a peer's element. -/
theorem modemRows : Obligations.ModemRows := by
  unfold Obligations.ModemRows
  intro s
  refine ⟨fun c hp hq he hr hc => ldpcEngineStart_alone hp hq he hr hc, fun hp l => ?_, fun c k he hr hn => ⟨fun hk => ?_, fun hk => ?_, ?_⟩,
    fun r hr => ⟨fun h1 h2 h3 h4 h5 h6 => ⟨?_, ?_⟩, fun h => ⟨?_, ?_⟩⟩, fun h x v f links life c hs hk => ⟨fun he hi hv hf hfl => ?_, fun hi hv => ?_, fun he hi => ?_⟩,
    fun h tag => ⟨rfl, fun e he => ⟨fun hx => ?_, fun hx => ?_⟩, fun hn => ?_⟩⟩
  · exact congrArg Host.Outcome.next (if_pos (by simp [show powered 6 (start s) = false from hp]))
  · refine congrArg Host.Outcome.next ((codewordDone_alone (s := start s) he hr hn).trans (onLda_congr ?_))
    simp [hk, Nat.min_eq_left (Nat.le_of_lt hk)]
    rfl
  · refine congrArg Host.Outcome.next ((codewordDone_alone (s := start s) he hr hn).trans (onLda_congr ?_))
    simp [hk, Nat.not_lt.mpr hk]
    rfl
  · refine congrArg Host.Outcome.next ((codewordDone_alone (s := start s) he hr hn).trans (onLda_congr ?_))
    simp
    rfl
  · have hd : passDue (runTime (start s)) r = true := passDue_of h1 h2 h3 h4 h5 h6
    refine congrArg Host.Outcome.next (onLda_congr ?_)
    simp [hr, hd]
    rfl
  · have hd : passDue (runTime (start s)) r = true := passDue_of h1 h2 h3 h4 h5 h6
    refine congrArg Host.Outcome.next ((if_pos (by simp [hr, hd])).trans (onLda_congr ?_))
    simp [hr]
  · refine congrArg Host.Outcome.next (onLda_congr ?_)
    simp [hr, passDue_over h]
  · exact congrArg Host.Outcome.next (if_neg (by simp [hr, passDue_over h]))
  · refine (cumulusElement_settles hs hk).trans (congrArg Host.Outcome.next ?_)
    rw [settlePeer_agrees, peerOf_onPeer]
    · rfl
    · rw [peerOf_onPeer]
      simp [agrees, he, hv, hf]
    · rw [peerOf_onPeer]
      exact hi
    · exact hfl
  · refine (cumulusElement_settles hs hk).trans (congrArg Host.Outcome.next ?_)
    rw [settlePeer_differs, peerOf_onPeer, if_neg hv]
    · exact if_pos hi
    · rw [peerOf_onPeer]
      simp [agrees, hv]
  · refine (cumulusElement_settles hs hk).trans (congrArg Host.Outcome.next ?_)
    rw [settlePeer_differs, peerOf_onPeer]
    · exact if_neg (by simp [hi])
    · rw [peerOf_onPeer]
      simp [agrees, he]
  · obtain ⟨hh, ht⟩ := softOf_key he
    rw [softExpiry_some he, expireSoft, if_neg (show ¬runTime (start s) < e.expires from (Nat.not_lt.mpr hx)), hh, ht, dropSoft]
  · exact (softExpiry_some he).trans (congrArg Host.Outcome.next (if_pos hx))
  · exact softExpiry_none hn
end Sys2Proof.Machine
end

section
/-! PROOF. Acquisition (chapter 04). -/
namespace Sys2Proof.Machine
set_option Elab.async false

/-! ### The groups that a slice's work touches -/

theorem RadioSide.refl (s : State) : RadioSide s s := rfl

section
variable {s t w : State}

theorem RadioSide.trans (h : RadioSide s t) (k : RadioSide t w) : RadioSide s w := by
  unfold RadioSide at *
  rw [k, h]

section
variable (h : RadioSide s t)
include h

theorem RadioSide.onSlice (n : Nat) (f : Slice → Slice) : RadioSide s (Machine.onSlice n f t) := h.trans rfl
theorem RadioSide.onMac (n : Nat) (f : SliceMac → SliceMac) : RadioSide s (Machine.onMac n f t) := h.trans rfl
theorem RadioSide.onCounters (n : Nat) (f : AcqCounters → AcqCounters) : RadioSide s (Machine.onCounters n f t) := h.trans rfl
theorem RadioSide.onAir (f : Air → Air) : RadioSide s (Machine.onAir f t) := h.trans rfl
theorem RadioSide.onMls (f : Milliner → Milliner) : RadioSide s (Machine.onMls f t) := h.trans rfl

end
end

/-! ### What a detection reads of a slice -/

/-- The device stands as before for a detection on a slice: its time, its tuning and its pairs. -/
def SameSlice (n : Nat) (s t : State) : Prop :=
  RadioSide s t ∧ t.radio.pairs = s.radio.pairs ∧ (slice n t).state = (slice n s).state ∧ (slice n t).tuning = (slice n s).tuning ∧
    (slice n t).channel = (slice n s).channel

section
variable {n : Nat} {s t w : State}

theorem SameSlice.refl (s : State) : SameSlice n s s := ⟨rfl, rfl, rfl, rfl, rfl⟩

theorem SameSlice.trans (h : SameSlice n s t) (k : SameSlice n t w) : SameSlice n s w := by
  obtain ⟨h1, h2, h3, h4, h5⟩ := h
  obtain ⟨k1, k2, k3, k4, k5⟩ := k
  exact ⟨h1.trans k1, k2.trans h2, k3.trans h3, k4.trans h4, k5.trans h5⟩

/-- A change of the slice that keeps its state and its channels. -/
theorem SameSlice.onSlice (hn : n < 3) (h : SameSlice n s t) {f : Slice → Slice}
    (hf : ∀ x, (f x).state = x.state ∧ (f x).tuning = x.tuning ∧ (f x).channel = x.channel) : SameSlice n s (Machine.onSlice n f t) := by
  obtain ⟨h1, h2, h3, h4, h5⟩ := h
  obtain ⟨f1, f2, f3⟩ := hf (slice n t)
  refine ⟨h1.onSlice n f, h2, ?_, ?_, ?_⟩ <;> rw [slice_onSlice _ _ hn]
  · exact f1.trans h3
  · exact f2.trans h4
  · exact f3.trans h5

theorem SameSlice.onMac (h : SameSlice n s t) (f : SliceMac → SliceMac) : SameSlice n s (Machine.onMac n f t) := h.trans ⟨rfl, rfl, rfl, rfl, rfl⟩

theorem SameSlice.onCounters (hn : n < 3) (h : SameSlice n s t) (f : AcqCounters → AcqCounters) : SameSlice n s (Machine.onCounters n f t) :=
  h.onSlice hn fun _ => ⟨rfl, rfl, rfl⟩

section
variable (h : SameSlice n s t)
include h

theorem SameSlice.rawTime : rawTime t = rawTime s := by rw [Machine.rawTime, h.1]; rfl
theorem SameSlice.runTime : runTime t = runTime s := by rw [Machine.runTime, h.1]; rfl

theorem SameSlice.tuned : tuned n t = tuned n s := by
  obtain ⟨-, -, h3, h4, h5⟩ := h
  simp only [Machine.tuned, h3, h4, h5]

theorem SameSlice.bandNow : bandNow n t = bandNow n s := by rw [Machine.bandNow, h.tuned, Machine.bandNow]

theorem SameSlice.haloOn : haloOn n t = haloOn n s := by
  simp only [Machine.haloOn, pairOf, h.2.1]

end
end

/-! ### A detection that is taken -/

/-- A detection is heard: counted, with its energy passed to the CCA. -/
def Heard (n : Nat) (d : Detection) (s t : State) : Prop :=
  RadioSide s t ∧ (d.energy ≠ [] → (mac n t).cca.map (·.energy) = d.energy) ∧
    (slice n t).counters.detections = inc 32 (slice n s).counters.detections

/-- A detection is a reception, with what is frozen for it. -/
def Took (n : Nat) (d : Detection) (s t : State) (restarts : Nat) (tb : Bool) (reference level : Int) : Prop :=
  ∃ r, (slice n t).reception = some r ∧ Heard n d s t ∧
    r.format = d.format ∧ r.restarts = restarts ∧ r.tb = tb ∧ r.reference = reference ∧ r.gain = Config.adcFullScale - 24 - level ∧
    r.cfo = cfoEstimate d.cfo ∧ r.stamp = (rawTime s + 2 ^ 32 - d.since % 2 ^ 32) % 2 ^ 32 ∧ r.halo = haloOn n s ∧
    r.lsig = !d.early ∧ (slice n t).rx = (if d.early = false ∧ foreignFormat d = true then .foreign else .receiving)

section
variable {n : Nat} {d : Detection} {s t w : State}

/-- What is heard or taken behind a change that the detection does not see is heard or taken of the device before it. -/
theorem Heard.of_same (h : Heard n d t w) (k : SameSlice n s t) (hc : (slice n t).counters.detections = (slice n s).counters.detections) :
    Heard n d s w := by
  obtain ⟨h1, h2, h3⟩ := h
  exact ⟨k.1.trans h1, h2, h3.trans (congrArg _ hc)⟩

theorem Took.of_same {restarts : Nat} {tb : Bool} {reference level : Int} (h : Took n d t w restarts tb reference level) (k : SameSlice n s t)
    (hc : (slice n t).counters.detections = (slice n s).counters.detections) : Took n d s w restarts tb reference level := by
  obtain ⟨r, h1, h2, h3⟩ := h
  rw [k.rawTime, k.haloOn] at h3
  exact ⟨r, h1, h2.of_same k hc, h3⟩

/-- A slice with its detection counted and its energy passed. -/
def detected (n : Nat) (d : Detection) (s : State) : State :=
  onSlice n (fun x => { x with rxCount := x.rxCount + 1, lnaBypass := d.bypass })
    (passEnergy n d (onCounters n (fun c => { c with detections := inc 32 c.detections }) s))

theorem passEnergy_same : SameSlice n s (passEnergy n d s) ∧ slice n (passEnergy n d s) = slice n s := by
  unfold passEnergy
  split
  · exact ⟨.refl s, rfl⟩
  · exact ⟨(SameSlice.refl s).onMac _, rfl⟩

theorem passEnergy_energy (hn : n < 3) (h : d.energy ≠ []) : (mac n (passEnergy n d s)).cca.map (·.energy) = d.energy := by
  have he : d.energy.isEmpty = false := List.isEmpty_eq_false_iff.mpr h
  rw [passEnergy, if_neg (by simp [he]), mac_onMac _ _ hn]
  apply List.ext_getElem <;> simp

theorem passEnergy_mac (hn : n < 3) : mac n (passEnergy n d s) = { mac n s with cca := (mac n (passEnergy n d s)).cca } := by
  unfold passEnergy
  split
  · rfl
  · rw [mac_onMac _ _ hn]

variable (hn : n < 3)
include hn

theorem detected_same : SameSlice n s (detected n d s) :=
  (((SameSlice.refl s).onCounters hn _).trans passEnergy_same.1).onSlice hn fun _ => ⟨rfl, rfl, rfl⟩

theorem slice_detected : slice n (detected n d s) = { slice n s with
    counters := { (slice n s).counters with detections := inc 32 (slice n s).counters.detections }
    rxCount := (slice n s).rxCount + 1, lnaBypass := d.bypass } := by
  rw [detected, slice_onSlice _ _ hn, passEnergy_same.2, onCounters, slice_onSlice _ _ hn]

omit hn in
theorem mac_detected : mac n (detected n d s) = mac n (passEnergy n d s) := by
  have h : passEnergy n d (onCounters n (fun c => { c with detections := inc 32 c.detections }) s) =
      onCounters n (fun c => { c with detections := inc 32 c.detections }) (passEnergy n d s) := by
    unfold passEnergy
    split <;> rfl
  rw [detected, h]
  rfl

omit hn in
theorem driveFem_eq (s : State) : driveFem n s =
    onSlice n (fun x => { x with femCtl := if (slice n s).tx.isSome then femTransmit n s else femReceive n s }) s := rfl

theorem driveFem_slice (f : Slice → Slice) : ∃ v, slice n (driveFem n (onSlice n f s)) = { f (slice n s) with femCtl := v } := by
  refine ⟨if (slice n (onSlice n f s)).tx.isSome then femTransmit n (onSlice n f s) else femReceive n (onSlice n f s), ?_⟩
  rw [driveFem_eq, slice_onSlice _ _ hn, slice_onSlice _ _ hn]

omit hn in
theorem driveFem_side (f : Slice → Slice) (h : RadioSide s t) : RadioSide s (driveFem n (onSlice n f t)) := by
  rw [driveFem_eq]
  exact (h.onSlice n f).onSlice n _

omit hn in
theorem driveFem_mac (f : Slice → Slice) : mac n (driveFem n (onSlice n f s)) = mac n s := rfl

/-- A slice with its detection counted, and a foreign format with it. -/
def foreignCounted (n : Nat) (d : Detection) (s : State) : State :=
  if !d.early && foreignFormat d then onCounters n (fun c => { c with foreign := inc 32 c.foreign }) (detected n d s) else detected n d s

omit hn in
/-- An acquisition in its two outcomes. -/
theorem acquire_of {check flags restarts : Nat} {tb span : Bool} {reference level : Int} : acquire n d check flags restarts tb span reference level s =
    if d.early || check = 0 then
      driveFem n (onSlice n (fun y => { y with reception := some (receptionOf n d flags restarts tb span reference level (foreignCounted n d s)),
                                               rx := if !d.early && foreignFormat d then .foreign else .receiving, preset := none,
                                               rxFrozen := false, rxMapFailed := false }) (foreignCounted n d s))
    else toSearch n (if tb then endTrigger n (onCounters n (countCheck check) (detected n d s)) else onCounters n (countCheck check) (detected n d s)) := rfl

/-- What a taken detection counts. -/
def takenCounters (d : Detection) (c : AcqCounters) : AcqCounters :=
  { c with detections := inc 32 c.detections, foreign := if d.early = false ∧ foreignFormat d = true then inc 32 c.foreign else c.foreign }

theorem foreignCounted_spec : SameSlice n s (foreignCounted n d s) ∧ slice n (foreignCounted n d s) = { slice n s with
      counters := takenCounters d (slice n s).counters, rxCount := (slice n s).rxCount + 1, lnaBypass := d.bypass } ∧
    mac n (foreignCounted n d s) = mac n (passEnergy n d s) := by
  have hsame := detected_same (d := d) (s := s) hn
  have hslice := slice_detected (d := d) (s := s) hn
  by_cases hf : d.early = false ∧ foreignFormat d = true
  · rw [foreignCounted, if_pos (by simp [hf])]
    refine ⟨hsame.onCounters hn _, ?_, mac_detected⟩
    rw [onCounters, slice_onSlice _ _ hn, hslice, takenCounters, if_pos hf]
  · rw [foreignCounted, if_neg (by simpa using hf)]
    refine ⟨hsame, ?_, mac_detected⟩
    rw [hslice, takenCounters, if_neg hf]

/-- A slice in ordinary search, or blanked. -/
def searching (n : Nat) (s : State) (x : Slice) : Slice :=
  { x with rx := if blankedNow n s then .blanked else .search, reception := none, preset := none, acqNow := x.acq, lnaBypass := false }

omit hn in
theorem toSearch_of : toSearch n s = driveFem n (onSlice n (searching n s) s) := rfl

omit hn in
theorem countCheck_detections {check : Nat} {c : AcqCounters} : (countCheck check c).detections = c.detections := by
  unfold countCheck
  split <;> rfl

/-- A detection whose checks pass, or that comes before them, is taken; the rest of the slice's MAC stays. -/
theorem acquire_taken {check flags restarts : Nat} {tb span : Bool} {reference level : Int} (hg : d.early = true ∨ check = 0) :
    Took n d s (acquire n d check flags restarts tb span reference level s) restarts tb reference level ∧
      (slice n (acquire n d check flags restarts tb span reference level s)).counters = takenCounters d (slice n s).counters ∧
      mac n (acquire n d check flags restarts tb span reference level s) = mac n (passEnergy n d s) := by
  obtain ⟨hsame, hslice, hmac⟩ := foreignCounted_spec (d := d) (s := s) hn
  rw [acquire_of, if_pos (by simpa using hg)]
  generalize foreignCounted n d s = x at *
  obtain ⟨v, hv⟩ := driveFem_slice (s := x) hn (fun y => { y with
    reception := some (receptionOf n d flags restarts tb span reference level x), rx := if !d.early && foreignFormat d then .foreign else .receiving,
    preset := none, rxFrozen := false, rxMapFailed := false })
  refine ⟨⟨receptionOf n d flags restarts tb span reference level x, ?_, ⟨driveFem_side _ hsame.1, fun he => ?_, ?_⟩, rfl, rfl, rfl, rfl, rfl, rfl, ?_, ?_, rfl, ?_⟩, ?_, ?_⟩
  · rw [hv]
  · rw [driveFem_mac, hmac, passEnergy_energy hn he]
  · rw [hv, hslice]
    rfl
  · rw [← hsame.rawTime]
    rfl
  · exact hsame.haloOn
  · rw [hv]
    simp
  · rw [hv, hslice]
  · rw [driveFem_mac, hmac]

/-- A detection whose check fails is counted, and the slice searches. -/
theorem acquire_false {check flags restarts : Nat} {span : Bool} {reference level : Int} (he : d.early = false) (hc : check ≠ 0) :
    Heard n d s (acquire n d check flags restarts false span reference level s) ∧
      (slice n (acquire n d check flags restarts false span reference level s)).reception = none ∧
      (slice n (acquire n d check flags restarts false span reference level s)).counters =
        countCheck check { (slice n s).counters with detections := inc 32 (slice n s).counters.detections } := by
  obtain ⟨v, hv⟩ := driveFem_slice (s := onCounters n (countCheck check) (detected n d s)) hn (searching n (onCounters n (countCheck check) (detected n d s)))
  have hsame := (detected_same (d := d) (s := s) hn).onCounters hn (countCheck check)
  rw [acquire_of, if_neg (by simp [he, hc]), if_neg (by decide), toSearch_of]
  have hcnt : (slice n (onCounters n (countCheck check) (detected n d s))).counters =
      countCheck check { (slice n s).counters with detections := inc 32 (slice n s).counters.detections } := by
    rw [onCounters, slice_onSlice _ _ hn, slice_detected hn]
  refine ⟨⟨driveFem_side _ hsame.1, fun hne => ?_, ?_⟩, ?_, ?_⟩
  · rw [driveFem_mac]
    exact (congrArg (fun m => m.cca.map (·.energy)) (mac_detected (n := n) (d := d) (s := s))).trans (passEnergy_energy hn hne)
  · rw [hv]
    exact (congrArg AcqCounters.detections hcnt).trans countCheck_detections
  · rw [hv]
    rfl
  · rw [hv]
    exact hcnt

end

/-! ### The capture restart -/

section
variable {n : Nat} {d : Detection} {s : State} {q : Reception}

theorem SameSlice.onMls {t : State} (h : SameSlice n s t) (f : Milliner → Milliner) : SameSlice n s (Machine.onMls f t) := h.trans ⟨rfl, rfl, rfl, rfl, rfl⟩
theorem SameSlice.onAir {t : State} (h : SameSlice n s t) (f : Air → Air) : SameSlice n s (Machine.onAir f t) := h.trans ⟨rfl, rfl, rfl, rfl, rfl⟩

theorem markEnd_same (stamp cause : Nat) : SameSlice n s (markEnd n stamp cause s) ∧ slice n (markEnd n stamp cause s) = slice n s ∧
    mac n (markEnd n stamp cause s) = mac n s :=
  ⟨⟨rfl, rfl, rfl, rfl, rfl⟩, rfl, rfl⟩

/-- A reception that is cut for a new packet leaves the counters and the MAC of its slice. -/
theorem cutReception_spec (hn : n < 3) (hq : (slice n s).reception = some q) : SameSlice n s (cutReception n 1 s) ∧
    (slice n (cutReception n 1 s)).counters = (slice n s).counters ∧ mac n (cutReception n 1 s) = mac n s := by
  have hm := markEnd_same (n := n) (s := s) q.stamp 1
  have hx : SameSlice n s (if q.delivered = 0 then s else markEnd n q.stamp 1 s) ∧
      slice n (if q.delivered = 0 then s else markEnd n q.stamp 1 s) = slice n s ∧ mac n (if q.delivered = 0 then s else markEnd n q.stamp 1 s) = mac n s := by
    split
    · exact ⟨.refl s, rfl, rfl⟩
    · exact hm
  simp only [cutReception, hq]
  generalize (if q.delivered = 0 then s else markEnd n q.stamp 1 s) = x at hx
  obtain ⟨h1, h2, h3⟩ := hx
  refine ⟨h1.onSlice hn fun _ => ⟨rfl, rfl, rfl⟩, ?_, h3⟩
  rw [slice_onSlice _ _ hn, if_neg (by decide), h2]

theorem passDuration_same : SameSlice n s (passDuration n q s) ∧ slice n (passDuration n q s) = slice n s := by
  unfold passDuration
  split
  · exact ⟨.refl s, rfl⟩
  · exact ⟨(SameSlice.refl s).onMac _, rfl⟩

/-- The NAV covers what is left of the duration of an L-SIG that passed. -/
theorem passDuration_nav (hn : n < 3) (hl : q.lsig = true) : q.duration * 1000 ≤ (rawTime s + 2 ^ 32 - q.stamp) % 2 ^ 32 ∨
    runTime s + (q.duration * 1000 - (rawTime s + 2 ^ 32 - q.stamp) % 2 ^ 32) ≤ (mac n (passDuration n q s)).navBasic := by
  refine Decidable.or_iff_not_imp_left.mpr fun hlate => ?_
  rw [passDuration, if_neg (by simp [hl]), mac_onMac _ _ hn]
  dsimp only
  rw [if_neg hlate]
  exact Nat.le_max_right ..

theorem passDuration_response (hn : n < 3) : (mac n (passDuration n q s)).response = (mac n s).response := by
  unfold passDuration
  split
  · rfl
  · rw [mac_onMac _ _ hn]

/-- A reception gives way: its duration is passed on, its response dropped, and it is cut. -/
def givesWay (n : Nat) (q : Reception) (s : State) : State := cutReception n 1 (dropResponse n q.id (passDuration n q s))

section
variable (hn : n < 3) (hq : (slice n s).reception = some q)
include hn hq

theorem givesWay_spec : SameSlice n s (givesWay n q s) ∧ (slice n (givesWay n q s)).counters = (slice n s).counters ∧
    mac n (givesWay n q s) = { mac n (passDuration n q s) with response := (mac n s).response.filter fun x => x.ppdu != q.id } := by
  obtain ⟨hsame, hslice⟩ := passDuration_same (n := n) (q := q) (s := s)
  have hd : SameSlice n s (dropResponse n q.id (passDuration n q s)) := hsame.onMac _
  have hmac : mac n (dropResponse n q.id (passDuration n q s)) =
      { mac n (passDuration n q s) with response := (mac n s).response.filter fun x => x.ppdu != q.id } := by
    rw [dropResponse, mac_onMac _ _ hn, passDuration_response hn]
  have hrec : (slice n (dropResponse n q.id (passDuration n q s))).reception = some q := (congrArg _ hslice).trans hq
  have hcnt : (slice n (dropResponse n q.id (passDuration n q s))).counters = (slice n s).counters := congrArg _ hslice
  unfold givesWay
  generalize dropResponse n q.id (passDuration n q s) = x at *
  obtain ⟨h1, h2, h3⟩ := cutReception_spec hn hrec
  exact ⟨hd.trans h1, h2.trans hcnt, h3.trans hmac⟩

/-- What the capture of a new packet counts of the one it ends. -/
def captureCounted (q : Reception) (c : AcqCounters) : AcqCounters :=
  if q.lsig then { c with captures := inc 32 c.captures } else { c with restarts := inc 32 c.restarts }

omit hn hq in
theorem captureCounted_detections {c : AcqCounters} : (captureCounted q c).detections = c.detections := by
  unfold captureCounted
  split <;> rfl

omit hn in
/-- A packet below the capture threshold is ignored and counted. -/
theorem overtake_ignored {level : Int} (ha : q.armed = true) (hc : (slice n s).acqNow.capture ≠ 0) (hf : d.format ≠ 0)
    (hl : level - q.reference < (slice n s).acqNow.capture) : overtake n level false d s =
      onCounters n (fun c => { c with overlaps := inc 32 c.overlaps }) s := by
  simp [overtake, hq, ha, hc, hf, Int.not_le.mpr hl]

omit hn in
/-- A packet at the threshold is acquired in the place of the one that gives way. -/
theorem overtake_armed {level : Int} {overload : Bool} (ha : q.armed = true) (hc : (slice n s).acqNow.capture ≠ 0) (hf : d.format ≠ 0)
    (ht : q.tb = false) (hl : overload = true ∨ ((slice n s).acqNow.capture : Int) ≤ level - q.reference) : overtake n level overload d s =
      acquireNew n d (if q.lsig then 1 else 2) (min 255 (q.restarts + 1)) q.span (givesWay n q (onCounters n (captureCounted q) s)) := by
  have hcnt : (fun c => if q.lsig then { c with captures := inc 32 c.captures } else { c with restarts := inc 32 c.restarts }) = captureCounted q := rfl
  have hl' : (overload || decide (((slice n s).acqNow.capture : Int) ≤ level - q.reference)) = true := by simpa using hl
  simp only [overtake, hq, ha, hc, hf, ht, hl', or_self, if_false, if_true, Bool.not_true, Bool.false_eq_true, Bool.false_or, hcnt, givesWay]

end
end

/-! ### The rows -/

section
variable {n : Nat} {d : Detection} {s : State}

theorem acquireNew_taken {flags restarts : Nat} {span : Bool} (hn : n < 3) (hg : d.early = true ∨ ofdmCheck (bandNow n s) d = 0) :
    Took n d s (acquireNew n d flags restarts span s) restarts false d.reference (d.power / 10) ∧
      (slice n (acquireNew n d flags restarts span s)).counters = takenCounters d (slice n s).counters ∧
      mac n (acquireNew n d flags restarts span s) = mac n (passEnergy n d s) := acquire_taken hn hg

theorem lstf_search (hr : (slice n s).rx = .search) : lstf n d s = if reaches n d s then acquireNew n d 0 0 false s else s := by
  simp only [lstf, hr]

/-- In the TB window a detection is held against the preset. -/
theorem lstf_preset {p reference : Int} (hr : (slice n s).rx = .tbWindow) (hd : reaches n d s = true) (hp : (slice n s).preset = some (p, reference)) :
    lstf n d s = if (d.power - p).natAbs ≤ (slice n s).acqNow.tolerance * 10 then
        acquire n d (ofdmCheck (bandNow n s) d) 4 0 true false reference (p / 10) s
      else acquire n d (ofdmCheck (bandNow n s) d) 8 0 true false d.reference (d.power / 10)
        (onCounters n (fun c => { c with presetMisses := inc 32 c.presetMisses }) s) := by
  simp [lstf, hr, hd, hp]

/-- A detection of the low band with the format that it has. -/
def asDsss (d : Detection) : Detection := { d with format := 0, width := 0, doppler := false }

theorem dsss_search (hr : (slice n s).rx = .search) (hd : reaches n d s = true) (hb : ((slice n s).channel.any fun c => bandOf c.centre == 0) = true) :
    dsss n d s = acquire n (asDsss d) (dsssCheck d) 0 0 false false d.reference (d.power / 10) s := by
  rw [dsss, if_pos (by simp [hr, hd, hb])]
  rfl

theorem dsss_unreached (hd : reaches n d s = false) : dsss n d s = s := if_neg (by simp [hd])

end

theorem dsssCheck_fails {d : Detection} (h : dsssCheck d ≠ 0) : dsssCheck d = 6 := by
  by_cases hc : (d.sigCrc && ([2, 4, 11, 22] : List Nat).contains d.rate) = true
  · exact absurd (if_pos hc) h
  · exact if_neg hc

/-- Outside the TB window's exchange nothing awaits a trigger's answer. -/
theorem tbMissing_alone {n : Nat} {s : State} (h : (mac n s).fixed = none) :
    tbMissing n s = onCounters n (fun c => { c with tbMissing := inc 32 c.tbMissing }) s := by
  have h' : (mac n (onCounters n (fun c => { c with tbMissing := inc 32 c.tbMissing }) s)).fixed = none := h
  rw [tbMissing, endTrigger, if_neg (by simp [h'])]

theorem tbPreset_one {n h : Nat} {s : State} {f : Fixed} {y : Station} {ref : Int} (hr : (slice n s).rx = .tbWindow) (hf : (mac n s).fixed = some f)
    (hu : f.users = [h]) (hy : station h s = some y) : tbPreset n ref s =
      onSlice n (fun x => { x with preset := some (presetLevel [y.target.get n], ref) }) s := by
  simp [tbPreset, hr, hf, hu, hy]

theorem rxEnd_plain {n : Nat} {s : State} {q : Reception} (hq : (slice n s).reception = some q) (ht : q.tb = false) (hr : (mac n s).response = none) :
    rxEnd n s = toSearch n (onSlice n (fun x => { x with lastRx := some (q, 0) }) s) := by
  simp [rxEnd, hq, ht, hr]

/-- Settles O51: a detection is taken or found false by one lemma each, which the search, the TB window and the capture restart use. -/
theorem acquisitionRows : Obligations.AcquisitionRows := by
  unfold Obligations.AcquisitionRows
  intro s n d hn
  dsimp only
  refine ⟨fun hr => ⟨fun hd => ⟨?_, ?_⟩, fun hd => ⟨fun hg => ?_, fun hg => ?_, fun hb => ⟨fun he hc => ?_, fun he hc => ?_⟩⟩⟩, fun hr => ?_,
    fun hr => ⟨fun p ref hd hp hg ht => ?_, fun p ref hd hp hg ht => ?_, fun f h y ref hf hu hy => ?_, fun hf => ?_⟩, ⟨?_, ?_⟩, fun level ov h => ?_,
    fun q level ov hq ha hc hf => ⟨fun ho hl => ?_, fun ht htb hg => ?_⟩, fun q hq htb hresp => ?_, fun y => ?_⟩
  · have hx : ¬reaches n d (start s) = true := by
      rw [Bool.not_eq_true]
      exact decide_eq_false hd
    exact congrArg Host.Outcome.next ((lstf_search (s := start s) hr).trans (if_neg hx))
  · exact congrArg Host.Outcome.next (dsss_unreached (s := start s) (decide_eq_false hd))
  · have hx : reaches n d (start s) = true := decide_eq_true hd
    obtain ⟨h1, h2, -⟩ := acquireNew_taken (s := start s) (flags := 0) (restarts := 0) (span := false) hn hg
    exact ⟨_, congrArg Host.Outcome.next ((lstf_search (s := start s) hr).trans (if_pos hx)), h1, congrArg AcqCounters.foreign h2⟩
  · have hx : reaches n d (start s) = true := decide_eq_true hd
    obtain ⟨he, hc⟩ := not_or.mp hg
    exact ⟨_, congrArg Host.Outcome.next ((lstf_search (s := start s) hr).trans (if_pos hx)),
      acquire_false (s := start s) hn (by simpa using he) hc⟩
  · have hx : reaches n d (start s) = true := decide_eq_true hd
    obtain ⟨⟨r, h1, h2, h3, -, -, -, -, -, -, -, -, h4⟩, -, -⟩ := acquire_taken (d := asDsss d) (s := start s) (check := dsssCheck d) (flags := 0) (restarts := 0)
      (tb := false) (span := false) (reference := d.reference) (level := d.power / 10) hn (.inr hc)
    refine ⟨_, congrArg Host.Outcome.next (dsss_search (s := start s) hr hx hb), h2, ?_, ?_⟩
    · rw [h4]
      exact if_neg (by simp [foreignFormat, asDsss, receives, isHe])
    · rw [h1, Option.map_some, h3]
      rfl
  · have hx : reaches n d (start s) = true := decide_eq_true hd
    obtain ⟨h1, h2, h3⟩ := acquire_false (d := asDsss d) (s := start s) (check := dsssCheck d) (flags := 0) (restarts := 0)
      (span := false) (reference := d.reference) (level := d.power / 10) hn he hc
    refine ⟨_, congrArg Host.Outcome.next (dsss_search (s := start s) hr hx hb), h1, h2, (congrArg AcqCounters.dsssHeader h3).trans ?_⟩
    rw [dsssCheck_fails hc]
    rfl
  · exact congrArg Host.Outcome.next (by simp [lstf, hr])
  · have hx : reaches n d (start s) = true := decide_eq_true hd
    exact ⟨_, congrArg Host.Outcome.next ((lstf_preset (s := start s) hr hx hp).trans (if_pos ht)), (acquire_taken (s := start s) hn hg).1⟩
  · have hx : reaches n d (start s) = true := decide_eq_true hd
    have hsame := (SameSlice.refl (n := n) (start s)).onCounters hn fun c => { c with presetMisses := inc 32 c.presetMisses }
    have hcnt : (slice n (onCounters n (fun c => { c with presetMisses := inc 32 c.presetMisses }) (start s))).counters =
        { (slice n s).counters with presetMisses := inc 32 (slice n s).counters.presetMisses } := by
      rw [onCounters, slice_onSlice _ _ hn]
      rfl
    obtain ⟨h1, h2, -⟩ := acquire_taken (d := d) (s := onCounters n (fun c => { c with presetMisses := inc 32 c.presetMisses }) (start s))
      (check := ofdmCheck (bandNow n (start s)) d) (flags := 8) (restarts := 0) (tb := true) (span := false) (reference := d.reference)
      (level := d.power / 10) hn hg
    refine ⟨_, congrArg Host.Outcome.next ((lstf_preset (s := start s) hr hx hp).trans (if_neg (Nat.not_le.mpr ht))), ?_, ?_⟩
    · exact h1.of_same hsame (by rw [hcnt])
    · rw [h2, hcnt]
      rfl
  · exact congrArg Host.Outcome.next (tbPreset_one (s := start s) hr hf hu hy)
  · refine congrArg Host.Outcome.next ((if_pos (by simp [hr])).trans ?_)
    rw [tbMissing_alone (s := start s) hf]
  · decide +kernel
  · decide +kernel
  · exact congrArg Host.Outcome.next (if_pos h)
  · rw [ho]
    exact congrArg Host.Outcome.next (overtake_ignored (s := start s) hq ha hc hf hl)
  · have hsame := (SameSlice.refl (n := n) (start s)).onCounters hn (captureCounted q)
    have hslice : slice n (onCounters n (captureCounted q) (start s)) = { slice n s with counters := captureCounted q (slice n s).counters } := by
      rw [onCounters, slice_onSlice _ _ hn]
      rfl
    have hq' : (slice n (onCounters n (captureCounted q) (start s))).reception = some q := (congrArg Slice.reception hslice).trans hq
    obtain ⟨hway, hcnt, hmac⟩ := givesWay_spec (s := onCounters n (captureCounted q) (start s)) hn hq'
    have hnav := passDuration_nav (n := n) (q := q) (s := onCounters n (captureCounted q) (start s)) hn
    rw [hslice] at hcnt
    rw [hsame.rawTime, hsame.runTime] at hnav
    have hex := overtake_armed (s := start s) hq ha hc hf htb ht
    have hall := hsame.trans hway
    have hresp : (mac n (onCounters n (captureCounted q) (start s))).response = (mac n s).response := rfl
    generalize givesWay n q (onCounters n (captureCounted q) (start s)) = x at *
    obtain ⟨h1, h2, h3⟩ := acquireNew_taken (d := d) (s := x) (flags := if q.lsig then 1 else 2) (restarts := min 255 (q.restarts + 1)) (span := q.span) hn
      (by rw [hall.bandNow]; exact hg)
    have hm := passEnergy_mac (n := n) (d := d) (s := x) hn
    rw [hcnt] at h2
    refine ⟨_, congrArg Host.Outcome.next hex, h1.of_same hall ?_, fun hl => ?_, fun hl => ?_, fun hl => (hnav hl).imp_right fun h => ?_, ?_⟩
    · rw [hcnt]
      exact captureCounted_detections
    · rw [h2, captureCounted, if_pos hl]
      rfl
    · rw [h2, captureCounted, if_neg (by simp [hl])]
      rfl
    · rw [h3, hm, hmac]
      exact h
    · rw [h3, hm, hmac, hresp]
  · exact congrArg Host.Outcome.next (rxEnd_plain (s := start s) hq htb hresp)
  · rw [toSearch_of]
    obtain ⟨v, hv⟩ := driveFem_slice (s := y) hn (searching n y)
    rw [hv]
    rfl
end Sys2Proof.Machine
end

section
/-! PROOF. Received MPDUs and their responses (chapter 05). -/
namespace Sys2Proof.Machine
set_option Elab.async false

/-! ### What the first stages of a reception keep -/

/-- What a reception reads of a station. -/
def rxKey (x : Station) : Tab Session × Tri Nat × Nat × Nat × Tab (Nat × Nat) := (x.sessions, x.links, x.vlan, x.nDup, x.retry)

/-- What the stages of a reception read of the device is as it was. -/
def RxKept (n h : Nat) (s t : State) : Prop :=
  t = { s with radio := t.radio, modem := t.modem, air := t.air } ∧ t.air.macs = s.air.macs ∧ t.air.bss = s.air.bss ∧
    (station h t).map rxKey = (station h s).map rxKey ∧ (slice n t).state = (slice n s).state ∧ (slice n t).rxCount = (slice n s).rxCount ∧
    (slice n t).rxFrozen = (slice n s).rxFrozen

section
variable {n h : Nat} {s t w : State}

theorem RxKept.refl (s : State) : RxKept n h s s := ⟨rfl, rfl, rfl, rfl, rfl, rfl, rfl⟩

theorem RxKept.trans (a : RxKept n h s t) (b : RxKept n h t w) : RxKept n h s w := by
  obtain ⟨a1, a2, a3, a4, a5, a6, a7⟩ := a
  obtain ⟨b1, b2, b3, b4, b5, b6, b7⟩ := b
  refine ⟨?_, b2.trans a2, b3.trans a3, b4.trans a4, b5.trans a5, b6.trans a6, b7.trans a7⟩
  rw [b1, a1]

/-- A change of a station that a reception does not see. -/
theorem RxKept.onStation (k : Nat) {f : Station → Station} (hf : ∀ x, rxKey (f x) = rxKey x) : RxKept n h s (Machine.onStation k f s) := by
  refine ⟨rfl, rfl, rfl, ?_, rfl, rfl, rfl⟩
  by_cases hk : h = k
  · rw [hk, station_onStation, Option.map_map]
    exact congrArg (Option.map · (station k s)) (funext hf)
  · rw [station_onStation_ne _ _ hk]

theorem RxKept.onSlice (hn : n < 3) {f : Slice → Slice} (hf : ∀ x, (f x).state = x.state ∧ (f x).rxCount = x.rxCount ∧ (f x).rxFrozen = x.rxFrozen) :
    RxKept n h s (Machine.onSlice n f s) := by
  obtain ⟨h1, h2, h3⟩ := hf (slice n s)
  refine ⟨rfl, rfl, rfl, rfl, ?_, ?_, ?_⟩ <;> rw [slice_onSlice _ _ hn]
  · exact h1
  · exact h2
  · exact h3

theorem RxKept.onLda (f : LdpcArray → LdpcArray) : RxKept n h s (Machine.onLda f s) := ⟨rfl, rfl, rfl, rfl, rfl, rfl, rfl⟩

section
variable (k : RxKept n h s t)
include k

theorem RxKept.mac : mac n t = mac n s := by rw [Machine.mac, k.2.1, Machine.mac]

theorem RxKept.station {x : Station} (hx : station h s = some x) : ∃ y, Machine.station h t = some y ∧ rxKey y = rxKey x := by
  have hm := k.2.2.2.1
  rw [hx, Option.map_some] at hm
  exact Option.map_eq_some_iff.mp hm

end
end

/-! ### The vector of a reception -/

section
variable {n h : Nat} {s : State} {m : RxMpdu} {r : Reception}

variable (hn : n < 3)
include hn

theorem slice_onReception {id : Nat} (f : Reception → Reception) : slice n (onReception n id f s) = { slice n s with
    reception := (slice n s).reception.map fun q => if q.id = id then f q else q
    lastRx := (slice n s).lastRx.map fun e => (if e.1.id = id then f e.1 else e.1, e.2) } := slice_onSlice _ _ hn

theorem onReception_kept {id : Nat} (f : Reception → Reception) : RxKept n h s (onReception n id f s) := by
  unfold onReception
  exact .onSlice hn fun _ => ⟨rfl, rfl, rfl⟩

/-- A station is noted as it sends: what a reception reads stays, and the reception knows its station. -/
theorem noteStation_kept : RxKept n h s (noteStation n m s) := by
  unfold noteStation
  rcases receptionFor n m s with _ | ⟨r, c⟩
  · exact .onStation m.station fun _ => rfl
  · dsimp only
    refine RxKept.trans ?_ (onReception_kept hn _)
    exact .onStation m.station fun _ => rfl

variable (hr : (slice n s).reception = some r) (hl : m.late = false)
include hr hl

omit hn in
theorem receptionFor_now : receptionFor n m s = some (r, 0) := by
  simp [receptionFor, hl, hr]

theorem noteStation_reception : ∃ q, (slice n (noteStation n m s)).reception = some q ∧ q = { r with station := q.station } := by
  have hnote : ∀ t, slice n t = slice n s → ∀ e, (slice n (onReception n r.id (fun r => if r.station = 0xFFFF then { r with station := e } else r) t)).reception =
      some (if r.station = 0xFFFF then { r with station := e } else r) := by
    intro t ht e
    rw [slice_onReception hn, ht, hr]
    simp
  refine ⟨if r.station = 0xFFFF then { r with station := m.station } else r, ?_, ?_⟩
  · simp only [noteStation, receptionFor_now hr hl]
    exact hnote _ rfl _
  · split <;> rfl

/-- The vector of an MPDU's user in a PPDU that is not trigger-based. -/
def userVector (n : Nat) (m : RxMpdu) (r : Reception) : Bytes := (Tab.look r.vectors 0xFFFF).getD (vectorOf n r 0 m)

theorem takeVector_now (ht : r.tb = false) : ∃ t, takeVector n m s = (userVector n m r, r.stamp, t) ∧ RxKept n h s t ∧
    ∃ q, (slice n t).reception = some q ∧ q.tb = false := by
  refine ⟨onSlice n (fun x => { x with rxVector := userVector n m r }) (onReception n r.id (fun q =>
    { q with delivered := q.delivered + 1, vectors := Tab.put q.vectors 0xFFFF (userVector n m r) }) s), ?_, ?_, ?_⟩
  · simp only [takeVector, receptionFor_now hr hl, ht, userVector]
    rfl
  · exact (onReception_kept hn _).trans (.onSlice hn fun _ => ⟨rfl, rfl, rfl⟩)
  · rw [slice_onSlice _ _ hn, slice_onReception hn, hr]
    exact ⟨_, rfl, by simp [ht]⟩

omit hn in
/-- The first MPDU of a PPDU owes its station an Ack. -/
theorem addAck_first (hd : m.noAck = false) (ha : m.agg = false) (hst : (slice n s).state = .ready) (hresp : (mac n s).response = none) (ht : r.tb = false) :
    addAck n h m s = onMac n (fun x => { x with response := some ⟨0, [⟨h, m.tid, [m.seq], 0, []⟩], false, (slice n s).rxCount⟩ }) s := by
  simp [addAck, hd, hl, hst, hresp, receptionFor_now hr hl, ht, ha]

end

/-! ### A data MPDU of a resident station, on an open BSS -/

/-- A reception leaves the device but its receiver, its queues to the wire and its outputs. -/
def ReceptionSide (s t : State) : Prop :=
  t = { s with radio := t.radio, modem := t.modem, air := t.air, mls := t.mls, wire := t.wire, out := t.out }

/-- An MSDU as a station's frame for the forwarding engine. -/
def airFrame (n h stamp : Nat) (m : RxMpdu) (vector : Bytes) (x : Station) (bytes : Bytes) : Frame :=
  { ingress := 5, bytes := bytes, vlan := x.vlan, priority := m.tid, first := stamp, station := h, bss := x.links.get n, slice := n, vector := vector }

section
variable {n h stamp : Nat} {v : Bytes} {s : State} {m : RxMpdu} {x : Station} {y : Bss}

theorem countRecovered_now (hl : m.late = false) : ∃ f, countRecovered h m s = onLda f s := by
  unfold countRecovered
  dsimp only
  rw [if_pos (by simp [hl])]
  exact ⟨_, rfl⟩

theorem countDuplicate_counts : ∃ f, countDuplicate h m s = onLda f (onStation h (fun x => { x with nDup := inc 32 x.nDup }) s) := by
  unfold countDuplicate
  extract_lets late t
  clear_value late
  cases late
  · exact ⟨id, rfl⟩
  · exact ⟨fun l => { l with lateDup := inc 32 l.lateDup }, rfl⟩

variable (hx : station h s = some x) (hs : Tab.look x.sessions m.tid = none) (hk : m.kind = 0)
include hx

theorem session_none {tid : Nat} (hs : Tab.look x.sessions tid = none) : session h tid s = none := by simp [session, hx, hs]

theorem framesOf_station : framesOf n h m v stamp s = m.msdus.map (airFrame n h stamp m v x) := by
  simp only [framesOf, hx]
  rfl

include hs hk

/-- Outside a session, and without a key, a whole MSDU leaves for the forwarding engine. -/
theorem decryptMpdu_open (hb : bss (x.links.get n) s = some y) (hy : y.security = 0) (hf : m.frag = 0) (hm : m.more = false) :
    decryptMpdu n h m v stamp s = deliverUp h m.length (m.msdus.map (airFrame n h stamp m v x)) s := by
  have hopen : secured h n s = false := by simp [secured, hx, hb, hy]
  simp [decryptMpdu, hopen, settleMpdu, session_none hx hs, replayed, hk, raiseFloor, acceptAlone, hf, hm, framesOf_station hx]

theorem duplicate_alone : duplicate h m s = (m.retry && Tab.look x.retry m.tid == some (m.seq, m.frag),
    onStation h (fun x => { x with retry := Tab.put x.retry m.tid (m.seq, m.frag) }) s) := by
  simp [duplicate, hk, session_none hx hs, retryIndex, hx]

omit hx hs in
theorem stages_data : stages n h m v stamp s = let d := duplicate h m (touch h true s)
    if d.1 then countDuplicate h m d.2 else decryptMpdu n h m v stamp (countRecovered h m d.2) := by
  simp [stages, hk]

/-- A new MSDU passes stages 5 to 8. -/
theorem stages_new (hb : bss (x.links.get n) s = some y) (hy : y.security = 0) (hr : m.retry = false) (hf : m.frag = 0) (hm : m.more = false)
    (hl : m.late = false) : let t := stages n h m v stamp s
    ReceptionSide s t ∧ t.air.macs = s.air.macs ∧ t.wire = { s.wire with lookup := s.wire.lookup ++ m.msdus.map (airFrame n h stamp m v x) } := by
  have hx' : station h (touch h true s) = some x := hx
  rw [stages_data hk, duplicate_alone hx' hs hk, hr]
  dsimp only
  rw [if_neg (by simp)]
  obtain ⟨f, hrec⟩ := countRecovered_now (h := h)
    (s := onStation h (fun x => { x with retry := Tab.put x.retry m.tid (m.seq, m.frag) }) (touch h true s)) hl
  rw [hrec]
  have hz : station h (onLda f (onStation h (fun x => { x with retry := Tab.put x.retry m.tid (m.seq, m.frag) }) (touch h true s))) =
      some { x with retry := Tab.put x.retry m.tid (m.seq, m.frag) } :=
    (station_onStation (s := touch h true s) h _).trans (by rw [hx']; rfl)
  obtain ⟨hside, hmacs, hwire, hbss⟩ : ReceptionSide s (onLda f (onStation h (fun x => { x with retry := Tab.put x.retry m.tid (m.seq, m.frag) }) (touch h true s))) ∧
      (onLda f (onStation h (fun x => { x with retry := Tab.put x.retry m.tid (m.seq, m.frag) }) (touch h true s))).air.macs = s.air.macs ∧
      (onLda f (onStation h (fun x => { x with retry := Tab.put x.retry m.tid (m.seq, m.frag) }) (touch h true s))).wire = s.wire ∧
      bss (x.links.get n) (onLda f (onStation h (fun x => { x with retry := Tab.put x.retry m.tid (m.seq, m.frag) }) (touch h true s))) = some y :=
    ⟨rfl, rfl, rfl, hb⟩
  generalize onLda f (onStation h (fun x => { x with retry := Tab.put x.retry m.tid (m.seq, m.frag) }) (touch h true s)) = u at hz hside hmacs hwire hbss ⊢
  rw [decryptMpdu_open hz hs hk hbss hy hf hm, ← hmacs, ← hwire]
  refine ⟨?_, rfl, rfl⟩
  rw [ReceptionSide, hside]
  rfl

/-- A repeated MPDU is counted. -/
theorem stages_repeat (hr : m.retry = true) (hq : Tab.look x.retry m.tid = some (m.seq, m.frag)) : let t := stages n h m v stamp s
    ReceptionSide s t ∧ t.air.macs = s.air.macs ∧ t.wire = s.wire ∧ (station h t).map (·.nDup) = some (inc 32 x.nDup) := by
  have hx' : station h (touch h true s) = some x := hx
  rw [stages_data hk, duplicate_alone hx' hs hk, hr, hq]
  dsimp only
  rw [if_pos (by simp)]
  obtain ⟨f, hf⟩ := countDuplicate_counts (h := h) (m := m)
    (s := onStation h (fun x => { x with retry := Tab.put x.retry m.tid (m.seq, m.frag) }) (touch h true s))
  rw [hf]
  refine ⟨rfl, rfl, rfl, ?_⟩
  rw [show ∀ t, station h (onLda f t) = station h t from fun _ => rfl, station_onStation, station_onStation, hx']
  rfl

end

section
variable {n h : Nat} {s : State} {m : RxMpdu} {r : Reception}

/-- An MPDU of the PPDU that is received draws its Ack before stages 5 to 8. -/
theorem takeMpdu_now (hn : n < 3) (hr : (slice n s).reception = some r) (hl : m.late = false) (ht : r.tb = false) (hf : (slice n s).rxFrozen = false)
    (hd : m.noAck = false) (ha : m.agg = false) (hst : (slice n s).state = .ready) (hresp : (mac n s).response = none) (hh : m.station = h)
    (hres : resident h s = true) : ∃ t, RxKept n h s t ∧ takeMpdu n m s = stages n h m (userVector n m r) r.stamp
      (onMac n (fun x => { x with response := some ⟨0, [⟨h, m.tid, [m.seq], 0, []⟩], false, (slice n s).rxCount⟩ }) t) := by
  subst hh
  obtain ⟨q, hq, hqr⟩ := noteStation_reception (m := m) hn hr hl
  have hqt : q.tb = false := by rw [hqr]; exact ht
  obtain ⟨t, hv, htk, p, hp, hpt⟩ := takeVector_now (h := m.station) hn hq hl hqt
  have hvec : userVector n m q = userVector n m r ∧ q.stamp = r.stamp := by
    rw [hqr]
    exact ⟨rfl, rfl⟩
  rw [hvec.1, hvec.2] at hv
  have hk : RxKept n m.station s t := (noteStation_kept hn).trans htk
  obtain ⟨hside, -, -, -, hst', hcount, hfroz⟩ := id hk
  have hmls : t.mls = s.mls := by rw [hside]
  have hm' : { m with late := m.late || (!m.noAck && (slice n t).rxFrozen) } = m := by rw [hfroz, hf]; simp
  have hack := addAck_first (h := m.station) hp hl hd ha (hst'.trans hst) (by rw [hk.mac, hresp]) hpt
  refine ⟨t, hk, ?_⟩
  unfold takeMpdu
  dsimp only
  rw [hv]
  dsimp only
  refine (if_pos ?_).trans ?_
  · rw [hm', hack]
    exact (congrArg (fun k : Milliner => k.crown.any fun e => e.station == m.station) hmls).trans hres
  · rw [hm', hack, hcount]

theorem mpduReceive_taken {k : Nat} (hf : (slice n s).rx = .receiving) (ho : m.ours = true) (hc : m.fcs = true) (hk : m.kind = 0) (hcu : m.cumulus = none)
    (hh : stationAt n m.addr s = k) (hne : k ≠ 0xFFFF) : mpduReceive n m s = takeMpdu n { m with station := k } s := by
  simp [mpduReceive, hf, ho, hc, hk, combineMpdu, hcu, hh, hne]

end

section
variable {n h : Nat} {s : State} {m : RxMpdu} {r : Reception} {x : Station} {y : Bss}

/-- What the reception of a data MPDU leaves: its side of the device, and the Ack it owes. -/
def DataTaken (n h : Nat) (m : RxMpdu) (s t : State) : Prop :=
  ReceptionSide s t ∧ (mac n t).response = some ⟨0, [⟨h, m.tid, [m.seq], 0, []⟩], false, (slice n s).rxCount⟩

variable (hn : n < 3) (hst : (slice n s).state = .ready) (hrx : (slice n s).rx = .receiving) (hfr : (slice n s).rxFrozen = false) (ho : m.ours = true)
  (hc : m.fcs = true) (hk : m.kind = 0) (hcu : m.cumulus = none) (ha : m.agg = false) (hd : m.noAck = false) (hl : m.late = false)
  (hh : stationAt n m.addr s = h) (hne : h ≠ 0xFFFF) (hx : station h s = some x) (hres : resident h s = true)
  (hr : (slice n s).reception = some r) (ht : r.tb = false) (hresp : (mac n s).response = none)
include hn hst hrx hfr ho hc hk hcu ha hd hl hh hne hx hres hr ht hresp

/-- Up to stage 5 a data MPDU changes its receiver and its station alone. -/
theorem mpduReceive_stages : ∃ u z, station h u = some z ∧ rxKey z = rxKey x ∧ ReceptionSide s u ∧ u.wire = s.wire ∧ u.air.bss = s.air.bss ∧
    (∀ t, t.air.macs = u.air.macs → (mac n t).response = some ⟨0, [⟨h, m.tid, [m.seq], 0, []⟩], false, (slice n s).rxCount⟩) ∧
    mpduReceive n m s = stages n h { m with station := h } (userVector n m r) r.stamp u := by
  obtain ⟨t, hkept, htake⟩ := takeMpdu_now (m := { m with station := h }) (h := h) hn hr hl ht hfr hd ha hst hresp rfl hres
  obtain ⟨z, hz, hzx⟩ := hkept.station hx
  obtain ⟨hside, -, hbss, -⟩ := hkept
  have hv : userVector n { m with station := h } r = userVector n m r := by simp only [userVector, vectorOf, ht]; rfl
  refine ⟨onMac n (fun x => { x with response := some ⟨0, [⟨h, m.tid, [m.seq], 0, []⟩], false, (slice n s).rxCount⟩ }) t, z, hz, hzx, ?_, ?_, hbss, ?_, ?_⟩
  · rw [ReceptionSide, hside]
    rfl
  · rw [hside]
    rfl
  · intro w hw
    rw [mac, hw]
    exact congrArg (·.response) (mac_onMac (s := t) (fun x => { x with response := some ⟨0, [⟨h, m.tid, [m.seq], 0, []⟩], false, (slice n s).rxCount⟩ }) hn)
  · rw [mpduReceive_taken hrx ho hc hk hcu hh hne, htake, hv]

variable (hs : Tab.look x.sessions m.tid = none)
include hs

theorem mpduReceive_new (hb : bss (x.links.get n) s = some y) (hy : y.security = 0) (hrt : m.retry = false) (hf : m.frag = 0) (hm : m.more = false) :
    DataTaken n h m s (mpduReceive n m s) ∧
    (mpduReceive n m s).wire = { s.wire with lookup := s.wire.lookup ++ m.msdus.map (airFrame n h r.stamp m (userVector n m r) x) } := by
  obtain ⟨u, z, hz, hzx, hside, hwire, hbss, hmac, he⟩ := mpduReceive_stages hn hst hrx hfr ho hc hk hcu ha hd hl hh hne hx hres hr ht hresp
  rw [rxKey, rxKey, Prod.mk.injEq, Prod.mk.injEq, Prod.mk.injEq] at hzx
  obtain ⟨hzs, hzl, hzv, -⟩ := hzx
  have hzb : bss (z.links.get n) u = some y := by rw [bss, hbss, hzl]; exact hb
  obtain ⟨ht, hmacs, hw⟩ := stages_new (v := userVector n m r) (stamp := r.stamp) (m := { m with station := h }) hz (by rw [hzs]; exact hs) hk hzb hy hrt hf hm hl
  rw [he]
  refine ⟨⟨?_, hmac _ hmacs⟩, ?_⟩
  · rw [ReceptionSide, ht, hside]
  · have hframe : airFrame n h r.stamp { m with station := h } (userVector n m r) z = airFrame n h r.stamp m (userVector n m r) x :=
      funext fun b => by simp only [airFrame, hzl, hzv]
    rw [hw, hwire, hframe]

theorem mpduReceive_repeat (hrt : m.retry = true) (hq : Tab.look x.retry m.tid = some (m.seq, m.frag)) :
    DataTaken n h m s (mpduReceive n m s) ∧ (mpduReceive n m s).wire = s.wire ∧
    (station h (mpduReceive n m s)).map (·.nDup) = some (inc 32 x.nDup) := by
  obtain ⟨u, z, hz, hzx, hside, hwire, hbss, hmac, he⟩ := mpduReceive_stages hn hst hrx hfr ho hc hk hcu ha hd hl hh hne hx hres hr ht hresp
  rw [rxKey, rxKey, Prod.mk.injEq, Prod.mk.injEq, Prod.mk.injEq, Prod.mk.injEq] at hzx
  obtain ⟨hzs, hzl, hzv, hzd, hzr⟩ := hzx
  obtain ⟨ht, hmacs, hw, hdup⟩ := stages_repeat (v := userVector n m r) (stamp := r.stamp) (m := { m with station := h }) hz (by rw [hzs]; exact hs) hk hrt
    (by rw [hzr]; exact hq)
  rw [he]
  refine ⟨⟨?_, hmac _ hmacs⟩, hw.trans hwire, ?_⟩
  · rw [ReceptionSide, ht, hside]
  · rw [hdup, hzd]

end

/-! ### The response -/

section
variable {n : Nat} {s : State} (hold : s.mls.hold = [])
include hold

theorem judgeHold_none : judgeHold n s = s := by rw [judgeHold, hold]; rfl

/-- With nothing in the hold area, a freeze fixes the response from the scoreboards. -/
theorem freeze_none (hr : (mac n s).response = none) : freeze n s = onSlice n (fun x => { x with rxFrozen := true }) s := by
  have hj := judgeHold_none (n := n) (s := onSlice n (fun x => { x with rxFrozen := true }) s) hold
  have hm : (mac n (onSlice n (fun x => { x with rxFrozen := true }) s)).response = none := hr
  simp only [freeze, hj, hm]

theorem freeze_frozen {r : Response} (hr : (mac n s).response = some r) (hf : r.frozen = true) :
    freeze n s = onSlice n (fun x => { x with rxFrozen := true }) s := by
  have hj := judgeHold_none (n := n) (s := onSlice n (fun x => { x with rxFrozen := true }) s) hold
  have hm : (mac n (onSlice n (fun x => { x with rxFrozen := true }) s)).response = some r := hr
  simp only [freeze, hj, hm, hf, if_true]

theorem freeze_one {r : Response} {e : AckEntry} (hr : (mac n s).response = some r) (hf : r.frozen = false) (he : r.entries = [e])
    (hres : resident e.station s = true) : freeze n s =
      onMac n (fun m => { m with response := some { r with entries := [fixEntry s e], kind := responseKind r.kind [e] s, frozen := true } })
        (onSlice n (fun x => { x with rxFrozen := true }) s) := by
  have hj := judgeHold_none (n := n) (s := onSlice n (fun x => { x with rxFrozen := true }) s) hold
  have hm : (mac n (onSlice n (fun x => { x with rxFrozen := true }) s)).response = some r := hr
  have hp : partialEntry (onSlice n (fun x => { x with rxFrozen := true }) s) e = false := by
    rw [partialEntry, show resident e.station (onSlice n (fun x => { x with rxFrozen := true }) s) = true from hres]
    simp
  have hfix : fixEntry (onSlice n (fun x => { x with rxFrozen := true }) s) e = fixEntry s e := rfl
  have hkind : responseKind r.kind [e] (onSlice n (fun x => { x with rxFrozen := true }) s) = responseKind r.kind [e] s := rfl
  have hkeep : (e.passed.isEmpty || !e.passed.all fun _ => false) = true := by cases e.passed <;> rfl
  have hpassed : e.passed.filter (fun _ => true) = e.passed := List.filter_eq_self.mpr fun _ _ => rfl
  unfold freeze
  generalize onSlice n (fun x => { x with rxFrozen := true }) s = z at hj hm hp hfix hkind ⊢
  simp [hj, hm, hf, he, hold, hkeep, hpassed, hp, hfix, hkind]

/-- A frozen response is sent to its one station. -/
theorem sendResponse_one {r : Response} {e : AckEntry} {us format rate : Nat} {gamma : List Nat} {tune : List (Nat × Nat × Retry)}
    (hr : (mac n s).response = some r) (hf : r.frozen = true) (he : r.entries = [e]) :
    let x := onMac n (fun m => { m with response := none }) (onSlice n (fun x => { x with rxFrozen := true }) s)
    let v := plainVector n (if format = 0 && bandNow n x == 0 then 0 else 1) rate (primaryCover n x) 0 x
    sliceUsable n x = true → (slice n x).radarMove = false → nstrReceives n x = false → dutyDenies n (min us (longest n x)) x = false →
    sendResponse n us format rate gamma tune s = measureGamma n gamma tune (emitPpdu n v (responseBody r)
      (emit (.air n (responseFrame r.kind) e.station) (goOnAir n 4 (min us (longest n x)) 3 v [e.station] x))) := by
  intro x v hu hm hn hd
  have hz : (mac n (onSlice n (fun x => { x with rxFrozen := true }) s)).response = some r := hr
  have hwho : (r.entries.map (·.station)).eraseDups = [e.station] := by rw [he]; rfl
  unfold sendResponse
  dsimp only
  rw [freeze_frozen hold hr hf, hz]
  dsimp only
  rw [hwho]
  refine (if_neg (c := (!sliceUsable n x || (slice n x).radarMove || nstrReceives n x) = true) (by rw [hu, hm, hn]; decide)).trans ?_
  exact if_neg (c := dutyDenies n (min us (longest n x)) x = true) (by rw [hd]; decide)

end

/-! ### Sessions and their windows -/

/-- A station's count of holes given up. -/
def countHole (x : Station) : Station := { x with nHoles := inc 32 x.nHoles }

/-- A session past its next sequence number. -/
def passNext (y : Session) : Session := { y with next := (y.next + 1) % 4096, held := y.held.filter fun r => r.seq != y.next }

/-- A session with its window moved, to one of a size. -/
def windowAt (ssn size : Nat) (y : Session) : Session :=
  { y with start := ssn, board := y.board.filter fun q => decide (seqDiff q ssn < size), late := y.late.filter fun q => decide (seqDiff q ssn < size) }

section
variable {n h tid ssn : Nat} {s : State} {x : Station} {y : Session}

theorem session_onStation {f : Station → Station} (hf : ∀ x, (f x).sessions = x.sessions) : session h tid (onStation h f s) = session h tid s := by
  rw [session, session, station_onStation]
  cases station h s with
  | none => rfl
  | some x => exact congrArg (Tab.look · tid) (hf x)

theorem session_onSession (f : Session → Session) : session h tid (onSession h tid f s) = (session h tid s).map f := by
  rw [session, session, onSession, station_onStation]
  cases station h s with
  | none => rfl
  | some x => exact Tab.look_modify ..

theorem session_deliverUp {k : Nat} {l : List Frame} : session h tid (deliverUp h k l s) = session h tid s :=
  session_onStation (f := fun x => { x with nDelivered := inc 64 x.nDelivered, nReceived := addWrap 64 x.nReceived k }) fun _ => rfl

variable (hy : session h tid s = some y)
include hy

/-- A sequence number without an MPDU is given up. -/
theorem stepOver_hole (hq : y.held.find? (fun r => r.seq == y.next) = none) : stepOver h tid s =
    onStation h countHole
      (onSession h tid passNext s) := by
  simp only [stepOver, hy, hq]
  rfl

/-- A sequence number with an MPDU, without a PN, releases it. -/
theorem stepOver_release {r : HeldRx} {l : List Frame} (hq : y.held.find? (fun r => r.seq == y.next) = some r) (hl : r.msdus = some l) (hp : r.pn = none) :
    stepOver h tid s = deliverUp h r.length l
      (onSession h tid passNext s) := by
  simp [stepOver, hy, hq, releaseHeld1, hl, hp, replayed, raiseFloor]
  rfl

theorem drainHeld_stop (hq : (y.held.any fun r => r.seq == y.next) = false) (k : Nat) : drainHeld h tid k s = s := by
  cases k with
  | zero => rfl
  | succ k => simp [drainHeld, hy, hq]

theorem drainHeld_go (hq : (y.held.any fun r => r.seq == y.next) = true) (k : Nat) : drainHeld h tid (k + 1) s = drainHeld h tid k (stepOver h tid s) := by
  simp [drainHeld, hy, hq]

/-- A hole before the one MPDU held is given up, and the MPDU released. -/
theorem holeTimeout_one (hx : station h s = some x) {r : HeldRx} {l : List Frame} (hh : y.held = [r]) (hr : r.seq = (y.next + 1) % 4096) (hn : y.next < 4096)
    (hp : r.pn = none) (hl : r.msdus = some l) : let t := holeTimeout h tid s
    t.wire = { s.wire with lookup := s.wire.lookup ++ l } ∧ session h tid t = some { y with next := (r.seq + 1) % 4096, held := [] } ∧
    (station h t).map (·.nHoles) = some (inc 32 x.nHoles) := by
  have hne : r.seq ≠ y.next := by omega
  have hdiff : seqDiff r.seq y.next = 1 := by unfold seqDiff; omega
  have hhole := stepOver_hole hy (by simp [hh, hne])
  obtain ⟨u, hu⟩ : ∃ u, u = onStation h countHole (onSession h tid passNext s) := ⟨_, rfl⟩
  rw [← hu] at hhole
  have hyu : session h tid u = some { y with next := r.seq, held := [r] } := by
    rw [hu, session_onStation (f := countHole) fun _ => rfl, session_onSession, hy, Option.map_some, passNext, hh, ← hr]
    simp [hne]
  have hrel := stepOver_release hyu (r := r) (by simp) hl hp
  obtain ⟨w, hw⟩ : ∃ w, w = deliverUp h r.length l (onSession h tid passNext u) := ⟨_, rfl⟩
  rw [← hw] at hrel
  have hyw : session h tid w = some { y with next := (r.seq + 1) % 4096, held := [] } := by
    rw [hw, session_deliverUp, session_onSession, hyu]
    simp [passNext]
  have hend : holeTimeout h tid s = w := by
    have hsteps : stepsOver h tid (seqDiff (lowestSeq (y.held.map (·.seq))) y.next) s = u := by
      rw [hh, show lowestSeq ([r].map (·.seq)) = r.seq from rfl, hdiff, ← hhole]
      rfl
    simp only [holeTimeout, hy]
    rw [hsteps, if_neg (by simp [hh]), drainHeld_go hyu (by simp) 1023, hrel, drainHeld_stop hyw (by simp)]
  have hxu : station h u = some (countHole { x with sessions := Tab.modify x.sessions tid passNext }) := by
    rw [hu, station_onStation, onSession, station_onStation, hx]
    rfl
  rw [hend]
  refine ⟨by rw [hw, hu]; rfl, hyw, ?_⟩
  rw [hw, deliverUp, show ∀ f t, station h (onWire f t) = station h t from fun _ _ => rfl, station_onStation, onSession, station_onStation, hxu]
  rfl

theorem moveWindow_empty (hh : y.held = []) (hn : y.next = ssn) (hb : behind ssn y.start = false) :
    moveWindow h tid ssn s = onSession h tid (windowAt ssn y.size) s := by
  have hyw : session h tid (onSession h tid (windowAt ssn y.size) s) = some (windowAt ssn y.size y) := by rw [session_onSession, hy]; rfl
  have hdiff : seqDiff ssn ssn = 0 := by unfold seqDiff; omega
  have hnow : behind (windowAt ssn y.size y).start (windowAt ssn y.size y).next = false := by
    rw [windowAt, hn, behind, hdiff]
    decide
  have hsteps : stepsOver h tid (seqDiff (windowAt ssn y.size y).start (windowAt ssn y.size y).next) (onSession h tid (windowAt ssn y.size) s) =
      onSession h tid (windowAt ssn y.size) s := by
    rw [windowAt, hn, hdiff]
    rfl
  have hfollow : followWindow h tid (onSession h tid (windowAt ssn y.size) s) = onSession h tid (windowAt ssn y.size) s := by
    simp only [followWindow, hyw]
    rw [hnow, if_neg Bool.false_ne_true, hsteps, drainHeld_stop hyw (by rw [windowAt, hh]; rfl)]
  simp only [moveWindow, hy]
  rw [hb, if_neg Bool.false_ne_true]
  exact hfollow

end

/-! ### A BlockAckReq -/

/-- A fetch of a context leaves what waits for it, and everything outside the Crown. -/
def FetchSide (s t : State) : Prop := t = { s with mls := t.mls } ∧ t.mls.hold = s.mls.hold

section
variable {s t w : State}

theorem FetchSide.trans (a : FetchSide s t) (b : FetchSide t w) : FetchSide s w := by
  obtain ⟨a1, a2⟩ := a
  obtain ⟨b1, b2⟩ := b
  exact ⟨by rw [b1, a1], b2.trans a2⟩

theorem CrownSide.fetchSide (a : CrownSide s t) : FetchSide s t := by
  refine ⟨?_, ?_⟩ <;> rw [a]

theorem fetchSide_serveWaiting (k : Nat) (s : State) : FetchSide s (serveWaiting k s) := by
  induction k generalizing s with
  | zero => exact ⟨rfl, rfl⟩
  | succ k ih =>
    unfold serveWaiting
    split
    · exact ⟨rfl, rfl⟩
    · dsimp only
      split
      · exact FetchSide.trans ⟨rfl, rfl⟩ (ih _)
      · split
        · exact FetchSide.trans ⟨rfl, rfl⟩ (ih _)
        · exact ⟨rfl, rfl⟩

theorem fetchSide_demandFetch (h : Nat) (s : State) : FetchSide s (demandFetch h s) := by
  unfold demandFetch
  split
  · exact ⟨rfl, rfl⟩
  · extract_lets t u v
    have hu : FetchSide s u := FetchSide.trans (t := t) ⟨rfl, rfl⟩ (fetchSide_serveWaiting 96 t)
    have hv : FetchSide u v := by
      unfold v
      split
      · exact ⟨rfl, rfl⟩
      · exact ⟨rfl, rfl⟩
    exact (hu.trans hv).trans (CrownSide.refl v).crownGo.fetchSide

end

section
variable {n h tid ssn : Nat} {s : State} {x : Station} {y : Session}
variable (hn : n < 3) (hx : station h s = some x) (hy : session h tid s = some y) (hst : (slice n s).state = .ready) (hf : (slice n s).rxFrozen = false)
  (hl : x.links.get n ≠ 255) (hr : (mac n s).response = none) (ht : (slice n s).reception.any (·.tb) = false)
include hn hf hr ht

/-- The BlockAck a BlockAckReq is owed. -/
def owedBlockAck (n h tid ssn : Nat) (s : State) : Response := ⟨1, [⟨h, tid, [], ssn, []⟩], false, (slice n s).rxCount⟩

omit hn in
theorem oweBlockAck_first : oweBlockAck n h tid ssn s = onMac n (fun m => { m with response := some (owedBlockAck n h tid ssn s) }) s := by
  simp [oweBlockAck, hf, hr, ht, owedBlockAck]

include hx hy hst hl

/-- What a BlockAckReq does before the station's context is looked up. -/
theorem barReceive_owes : ∃ u, (mac n u).response = some (owedBlockAck n h tid ssn s) ∧ session h tid u = some y ∧ u.mls = s.mls ∧
    barReceive n h tid ssn s = if resident h u then moveWindow h tid ssn (touch h true u)
      else demandFetch h (onMls (fun k => { k with hold := k.hold ++ [⟨n, { station := h, kind := 5, tid := tid, seq := ssn },
        (slice n u).rxVector, rd (slice n u).rxVector 8 4, false⟩] }) u) := by
  have hgo : (((slice n s).state != SliceState.ready || !((station h s).any fun x => x.links.get n != 255) || (session h tid s).isNone)) = false := by
    simp [hst, hx, hl, hy]
  have howe := oweBlockAck_first (n := n) (h := h) (tid := tid) (ssn := ssn) (s := onStation h (fun x => { x with lastFrame := s.mem.seconds }) s) hf hr ht
  refine ⟨oweBlockAck n h tid ssn (onStation h (fun x => { x with lastFrame := s.mem.seconds }) s), ?_, ?_, ?_, ?_⟩
  · rw [howe, mac_onMac _ _ hn]
    rfl
  · rw [howe]
    exact (session_onStation (f := fun x => { x with lastFrame := s.mem.seconds }) fun _ => rfl).trans hy
  · rw [howe]
    rfl
  · unfold barReceive
    rw [hgo]
    rfl

theorem barReceive_resident (hres : resident h s = true) (hh : y.held = []) (he : y.next = ssn) (hb : behind ssn y.start = false) :
    let t := barReceive n h tid ssn s
    (mac n t).response = some (owedBlockAck n h tid ssn s) ∧ session h tid t = some (windowAt ssn y.size y) := by
  obtain ⟨u, hmac, hyu, hmls, hbar⟩ := barReceive_owes (ssn := ssn) hn hx hy hst hf hl hr ht
  have hyt : session h tid (touch h true u) = some y := hyu
  rw [hbar, if_pos (by rw [resident, hmls]; exact hres), moveWindow_empty hyt hh he hb]
  refine ⟨hmac, ?_⟩
  rw [session_onSession, hyt]
  rfl

theorem barReceive_away (hres : resident h s = false) : let t := barReceive n h tid ssn s
    (mac n t).response = some (owedBlockAck n h tid ssn s) ∧ session h tid t = some y ∧
    ∃ w : HeldMpdu, t.mls.hold = s.mls.hold ++ [w] ∧ w.slice = n ∧ w.mpdu = { station := h, kind := 5, tid := tid, seq := ssn } := by
  obtain ⟨u, hmac, hyu, hmls, hbar⟩ := barReceive_owes (ssn := ssn) hn hx hy hst hf hl hr ht
  rw [hbar, if_neg (by rw [resident, hmls]; exact (by rw [Bool.not_eq_true]; exact hres))]
  obtain ⟨hside, hhold⟩ := fetchSide_demandFetch h (onMls (fun k => { k with hold := k.hold ++ [⟨n, { station := h, kind := 5, tid := tid, seq := ssn },
        (slice n u).rxVector, rd (slice n u).rxVector 8 4, false⟩] }) u)
  have hair : (demandFetch h (onMls (fun k => { k with hold := k.hold ++ [⟨n, { station := h, kind := 5, tid := tid, seq := ssn },
        (slice n u).rxVector, rd (slice n u).rxVector 8 4, false⟩] }) u)).air = u.air := by rw [hside]; rfl
  refine ⟨?_, ?_, _, hhold.trans (by rw [← hmls]; rfl), rfl, rfl⟩
  · rw [mac, hair]
    exact hmac
  · rw [session, station, hair]
    exact hyu

end

/-- Settles O52, from the stages a received MPDU passes (R23), the freeze and sending of a response, and the moves of a session's
window. -/
theorem receptionRows : Obligations.ReceptionRows := by
  intro s n hn
  refine ⟨?_, ?_, ?_, ?_, ?_, ?_, ?_, ?_, fun h tid => rfl⟩
  · intro m hf ho hc
    have he : exec (.mpduReceive n m) s = .next (notOurs n { m with station := stationAt n m.addr (start s) } (start s)) := by
      refine congrArg Host.Outcome.next ?_
      simp [mpduReceive, hf, hc, ho]
    refine ⟨fun h => ?_, fun us h => ?_, fun us h => ?_⟩
    · rw [he, notOurs, h]
    · rw [he, notOurs, h]
      rfl
    · rw [he, notOurs, h]
      rfl
  · intro m hf hl
    refine congrArg Host.Outcome.next (if_pos ?_)
    rw [hl, show (slice n (start s)).rx = .foreign from hf]
    rfl
  · intro m hf hc hk hcu
    refine congrArg Host.Outcome.next ?_
    simp [mpduReceive, hf, hc, combineMpdu, hcu, badFcs, hk]
  · intro m h x r b y hst hrx hfr ho hc hk hcu ha hd hl hh hne hx hb hy hys hres hr ht hresp hs
    subst hb
    refine ⟨fun hrt hf hm => ?_, fun hrt hq => ?_⟩
    · obtain ⟨⟨hside, hack⟩, hw⟩ := mpduReceive_new (s := start s) hn hst hrx hfr ho hc hk hcu ha hd hl hh hne hx hres hr ht hresp hs hy hys hrt hf hm
      exact ⟨_, rfl, ⟨hside, hack⟩, hw⟩
    · obtain ⟨⟨hside, hack⟩, hw⟩ := mpduReceive_repeat (s := start s) hn hst hrx hfr ho hc hk hcu ha hd hl hh hne hx hres hr ht hresp hs hrt hq
      exact ⟨_, rfl, ⟨hside, hack⟩, hw⟩
  · intro w l good hw
    refine congrArg Host.Outcome.next ?_
    unfold micVerdict
    rw [show (start s).air.mic = w :: l from hw]
  · intro hm good
    refine congrArg Host.Outcome.next ?_
    unfold micVerdict
    rw [show (start s).air.mic = [] from hm]
  · intro hold
    refine ⟨fun hr => congrArg Host.Outcome.next (freeze_none (s := start s) hold hr), fun e r hr he hres => ⟨fun hf => ?_, ?_⟩⟩
    · exact congrArg Host.Outcome.next (freeze_one (s := start s) hold hr hf he hres)
    · intro hf x hu hm hns us format rate gamma tune us' v hd
      have hmx : (slice n x).radarMove = false := (congrArg Slice.radarMove (slice_onSlice (fun x => { x with rxFrozen := true }) (start s) hn)).trans hm
      exact congrArg Host.Outcome.next (sendResponse_one (s := start s) hold hr hf he hu hmx hns hd)
  · intro h tid x y hx hy
    have hys : session h tid (start s) = some y := by rw [session, show station h (start s) = some x from hx]; exact hy
    refine ⟨fun r l hh hr _ hn hp hl => ?_, fun hh => ?_, fun ssn hst hf hl hr ht => ⟨fun hres hh he _ hb => ?_, fun hres => ?_⟩⟩
    · exact ⟨_, rfl, holeTimeout_one hys hx hh hr hn hp hl⟩
    · refine congrArg Host.Outcome.next ?_
      simp [holeTimeout, hys, hh]
    · exact ⟨_, rfl, barReceive_resident (s := start s) hn hx hys hst hf hl hr ht hres hh he hb⟩
    · obtain ⟨hack, hsess, w, hw, hws, hwm⟩ := barReceive_away (s := start s) (ssn := ssn) hn hx hys hst hf hl hr ht hres
      refine ⟨_, rfl, hack, hsess, ?_⟩
      rw [hw, List.map_append, List.map_singleton, hws, hwm]
      rfl

end Sys2Proof.Machine
end

section
/-! PROOF. Transmission: beacons, fix points, starts and ends of PPDUs, protection and acknowledgement (chapter 05). -/
namespace Sys2Proof.Machine
set_option Elab.async false

/-! ### Beacons -/

/-- A BSS with its DTIM counted: at a DTIM its held group frames are due. -/
def dtimCounted (x : Bss) : Bss :=
  if x.dtimCount = 0 then { x with dtimCount := x.dtim - 1, groupReady := x.groupReady + x.groupHeld, groupHeld := 0 }
  else { x with dtimCount := x.dtimCount - 1 }

/-- A BSS at its TBTT: a beacon that was not sent is counted. -/
def beaconDue (x : Bss) : Bss := { x with beaconSent := false, skipped := if x.beaconSent then x.skipped else inc 32 x.skipped }

/-- What a slice does at a TBTT with the beacon of its transmitted BSSID. -/
def askBeacon (n : Nat) (s : State) : State :=
  if (slice n s).state == .ready && !txBlocked (slice n s) && mediumFree n s && !nstrHeld n s then startTxop n (ownTxop 1) s
  else if (slice n s).state == .tuning then deferRequest n 3 1 (onMac n (fun m => { m with beaconWaits := true }) s)
  else onMac n (fun m => { m with beaconWaits := true }) s

section
variable {n : Nat} {s : State}

/-- The medium as a slice sees it says nothing of the responses of the others. -/
theorem nstrHeld_noteCca (hn : n < 3) (l : List Cca) : nstrHeld n (noteCca n l s) = nstrHeld n s := by
  have hr : ∀ m, (mac m (noteCca n l s)).response = (mac m s).response := by
    intro m
    rcases (show n = 0 ∨ n = 1 ∨ n = 2 by omega) with rfl | rfl | rfl <;> rcases m with _ | _ | m <;> rfl
  have he : ∀ m, exchanging m (noteCca n l s) = exchanging m s := by
    intro m
    rw [exchanging, hr]
    rfl
  simp only [nstrHeld, he]
  rfl

theorem askBeacon_waits (hst : (slice n s).state = .ready) (hb : txBlocked (slice n s) = true ∨ nstrHeld n s = true ∨ mediumFree n s = false) :
    askBeacon n s = onMac n (fun m => { m with beaconWaits := true }) s := by
  have hgo : ((slice n s).state == .ready && !txBlocked (slice n s) && mediumFree n s && !nstrHeld n s) = false := by
    rcases hb with h | h | h <;> simp [h]
  rw [askBeacon, hgo, hst]
  rfl

theorem askBeacon_starts (hst : (slice n s).state = .ready) (hb : ¬ (txBlocked (slice n s) = true ∨ nstrHeld n s = true ∨ mediumFree n s = false)) :
    askBeacon n s = startTxop n (ownTxop 1) s := by
  simp only [not_or, Bool.not_eq_true, Bool.not_eq_false] at hb
  obtain ⟨h1, h2, h3⟩ := hb
  rw [askBeacon, hst, h1, h2, h3]
  rfl

theorem askBeacon_defers (hst : (slice n s).state = .tuning) :
    askBeacon n s = deferRequest n 3 1 (onMac n (fun m => { m with beaconWaits := true }) s) := by
  rw [askBeacon, hst]
  rfl

end

section
variable {b n : Nat} {s : State} {x : Bss} {cca : List Cca}

theorem applyParams_none (hp : x.pendingParams = none) : ∃ f, applyParams b s = onBss b f s ∧ f x = x := by
  refine ⟨_, rfl, ?_⟩
  rw [hp]

theorem persist_none (hw : s.mls.twtNow = []) : persist b s = s := by rw [persist, hw]; rfl

variable (hx : bss b s = some x) (hn : x.slice = n) (hp : x.pendingParams = none) (hw : s.mls.twtNow = []) (ht : x.transmitted = true)
include hx hn hp hw ht

/-- A BSS's TBTT counts its DTIM, and its slice asks for the beacon. -/
theorem tbtt_asks (hst : (slice n s).state = .ready ∨ (slice n s).state = .tuning) :
    ∃ u, u = { s with air := { s.air with bss := u.air.bss } } ∧ bss b u = some (beaconDue (dtimCounted x)) ∧
      tbtt b cca s = askBeacon n (noteCca n cca u) := by
  obtain ⟨f, hf, hfx⟩ := applyParams_none (b := b) (s := s) hp
  have hb : bss b (onBss b dtimCounted (onBss b f s)) = some (dtimCounted x) := by
    rw [bss_onBss, bss_onBss, hx, Option.map_some, hfx, Option.map_some]
  have hslice : (dtimCounted x).slice = n ∧ (dtimCounted x).transmitted = true := by
    unfold dtimCounted
    split
    · exact ⟨hn, ht⟩
    · exact ⟨hn, ht⟩
  refine ⟨onBss b beaconDue (onBss b dtimCounted (onBss b f s)), rfl, by rw [bss_onBss, hb]; rfl, ?_⟩
  unfold tbtt
  rw [if_neg (by rw [hx]; simp)]
  dsimp only
  rw [hf, persist_none (s := onBss b f s) hw]
  change (match bss b (onBss b dtimCounted (onBss b f s)) with
    | none => onBss b dtimCounted (onBss b f s)
    | some x => _) = _
  rw [hb]
  dsimp only
  rw [hslice.1, hslice.2]
  refine (if_neg ?_).trans rfl
  have hgo : (!true || (slice n s).state != SliceState.ready && (slice n s).state != SliceState.tuning) = false := by
    rcases hst with h | h <;> rw [h] <;> rfl
  exact ne_true_of_eq_false hgo

omit hx hn hp hw ht in
theorem beaconDue_counted : beaconDue (dtimCounted x) = { x with
    dtimCount := if x.dtimCount = 0 then x.dtim - 1 else x.dtimCount - 1
    groupReady := if x.dtimCount = 0 then x.groupReady + x.groupHeld else x.groupReady
    groupHeld := if x.dtimCount = 0 then 0 else x.groupHeld
    beaconSent := false, skipped := if x.beaconSent then x.skipped else inc 32 x.skipped } := by
  unfold beaconDue dtimCounted
  by_cases h : x.dtimCount = 0
  · simp only [h, if_true]
  · simp only [h, if_false]

section
variable (hn3 : n < 3)
include hn3

/-- Where the medium is not free, or the slice may not send, the beacon waits for it on AC_VO. -/
theorem tbtt_blocked (hst : (slice n s).state = .ready)
    (hb : txBlocked (slice n s) = true ∨ nstrHeld n s = true ∨ mediumFree n (noteCca n cca s) = false) : let t := tbtt b cca s
    t = { s with air := t.air, out := t.out } ∧ (mac n t).beaconWaits = true ∧ (mac n t).txop = (mac n s).txop ∧ bss b t = some (beaconDue (dtimCounted x)) := by
  obtain ⟨u, hu, hub, hask⟩ := tbtt_asks (cca := cca) hx hn hp hw ht (.inl hst)
  generalize u.air.bss = l at hu
  subst hu
  have hb' := hb
  rw [← nstrHeld_noteCca hn3 cca] at hb'
  rw [hask, askBeacon_waits (s := noteCca n cca { s with air := { s.air with bss := l } }) hst hb']
  refine ⟨rfl, ?_, ?_, hub⟩
  · rw [mac_onMac _ _ hn3]
  · rw [mac_onMac _ _ hn3, noteCca, mac_onMac _ _ hn3]
    rfl

/-- On an idle medium the beacon's TXOP begins. -/
theorem tbtt_starts (hst : (slice n s).state = .ready)
    (hb : ¬ (txBlocked (slice n s) = true ∨ nstrHeld n s = true ∨ mediumFree n (noteCca n cca s) = false)) : let t := tbtt b cca s
    t = { s with air := t.air, mls := t.mls, out := t.out } ∧ ((mac n t).txop.map fun o => (o.what, o.ac)) = some (1, 3) ∧
    bss b t = some (beaconDue (dtimCounted x)) := by
  obtain ⟨u, hu, hub, hask⟩ := tbtt_asks (cca := cca) hx hn hp hw ht (.inl hst)
  generalize u.air.bss = l at hu
  subst hu
  have hb' := hb
  rw [← nstrHeld_noteCca hn3 cca] at hb'
  rw [hask, askBeacon_starts (s := noteCca n cca { s with air := { s.air with bss := l } }) hst hb']
  refine ⟨rfl, ?_, hub⟩
  unfold startTxop
  dsimp only [ownTxop]
  rw [show ∀ t, mac n (markUse t) = mac n t from fun _ => rfl, mac_onMac _ _ hn3]
  rfl

/-- While the slice is tuned the request waits. -/
theorem tbtt_deferred (hst : (slice n s).state = .tuning) : let t := tbtt b cca s
    t = { s with air := t.air, radio := t.radio, out := t.out } ∧ (mac n t).beaconWaits = true ∧ (3, 1) ∈ (slice n t).deferred ∧
    bss b t = some (beaconDue (dtimCounted x)) := by
  obtain ⟨u, hu, hub, hask⟩ := tbtt_asks (cca := cca) hx hn hp hw ht (.inr hst)
  generalize u.air.bss = l at hu
  subst hu
  have hm : (mac n (onMac n (fun m => { m with beaconWaits := true }) (noteCca n cca { s with air := { s.air with bss := l } }))).beaconWaits = true := by
    rw [mac_onMac _ _ hn3]
  rw [hask, askBeacon_defers (s := noteCca n cca { s with air := { s.air with bss := l } }) hst]
  unfold deferRequest
  split
  case isTrue hc => exact ⟨rfl, hm, List.elem_iff.mp hc, hub⟩
  case isFalse =>
    refine ⟨rfl, hm, ?_, hub⟩
    rw [slice_onSlice _ _ hn3]
    simp

end
end

/-! ### The start of a PPDU -/

section
variable {n : Nat} {s : State} {f : Fixed} {t : Txop} {gamma : List Nat} {tune : List (Nat × Nat × Retry)}
variable (hf : (mac n s).fixed = some f) (ht : (mac n s).txop = some t) (hs : f.sent = false) (hg : f.granted = true) (hst : (slice n s).state = .ready)
include hf ht hs hg hst

theorem txStartAir_locked (hb : txBlocked (slice n s) = true) : txStartAir n gamma tune s = lockedFrames n (notStarted n s) := by
  simp [txStartAir, hf, ht, hs, hg, hst, hb]

theorem txStartAir_refused (hb : txBlocked (slice n s) = false) (hr : nstrHeld n s = true ∨ (slice n s).radarMove = true ∧ sentAfterRadar f = false) :
    txStartAir n gamma tune s = notStarted n s := by
  have hd : (nstrHeld n s || (slice n s).radarMove && !sentAfterRadar f) = true := by
    rcases hr with h | ⟨h1, h2⟩
    · rw [h, Bool.true_or]
    · rw [h1, h2, Bool.not_false, Bool.and_true, Bool.or_true]
  simp [txStartAir, hf, ht, hs, hg, hst, hb, hd]

section
variable (hb : txBlocked (slice n s) = false) (hh : nstrHeld n s = false) (hm : (slice n s).radarMove = false)
include hb hh hm

theorem txStartAir_denied (hd : dutyDenies n f.duration s = true) : txStartAir n gamma tune s = dutyDenial n (notStarted n s) := by
  simp [txStartAir, hf, ht, hs, hg, hst, hb, hh, hm, hd]

theorem txStartAir_sounding {a b : Nat} {c : List Nat} (hd : dutyDenies n f.duration s = false) (hk : f.kind = 12) (hu : f.users = [])
    (hbody : f.body = .sounding a b c) : txStartAir n gamma tune s =
      measureGamma n gamma tune (emitPpdu n f.vec f.body (emit (.air n 12 0xFFFF) (onMac n (fun m => { m with
        fixed := some { f with sent := true }
        txop := some { t with begun := true, used := t.used + f.duration, clear := t.clear && t.what != 0
                              cover := if t.begun then t.cover else (f.vec.width, f.vec.occupied) } })
        (goOnAir n 7 f.duration t.ac f.vec [] s)))) := by
  simp [txStartAir, hf, ht, hs, hg, hst, hb, hh, hm, hd, hk, hu, hbody, sendOut, airKind]

end
end

/-! ### The end of a PPDU -/

/-- A field that a change of a slice keeps is as it was on every slice. -/
theorem sliceField_onSlice {α : Type} (g : Slice → α) {f : Slice → Slice} (hf : ∀ x, g (f x) = g x) (m n : Nat) (s : State) :
    g (slice n (onSlice m f s)) = g (slice n s) := by
  rcases m with _ | _ | _ | m <;> rcases n with _ | _ | n <;> simp [slice, Machine.onSlice, Tri.set, Tri.get, hf]

/-- What the receivers of the slices do as transmission ends: only the radio changes, and no slice's transmission or state. -/
def ReceiversOnly (n : Nat) (s t : State) : Prop :=
  t = { s with radio := t.radio } ∧ (slice n t).tx = (slice n s).tx ∧ (slice n t).state = (slice n s).state

section
variable {n : Nat} {s t w : State}

theorem ReceiversOnly.refl (n : Nat) (s : State) : ReceiversOnly n s s := ⟨rfl, rfl, rfl⟩

theorem ReceiversOnly.trans (a : ReceiversOnly n s t) (b : ReceiversOnly n t w) : ReceiversOnly n s w := by
  obtain ⟨a1, a2, a3⟩ := a
  obtain ⟨b1, b2, b3⟩ := b
  exact ⟨by rw [b1, a1], b2.trans a2, b3.trans a3⟩

theorem ReceiversOnly.onSlice (m : Nat) {f : Slice → Slice} (hf : ∀ x, (f x).tx = x.tx ∧ (f x).state = x.state) (s : State) :
    ReceiversOnly n s (Machine.onSlice m f s) :=
  ⟨rfl, sliceField_onSlice Slice.tx (fun x => (hf x).1) m n s, sliceField_onSlice Slice.state (fun x => (hf x).2) m n s⟩

theorem receiversOnly_driveFem (m : Nat) (s : State) : ReceiversOnly n s (driveFem m s) := by
  rw [driveFem_eq]
  refine .onSlice m ?_ s
  exact fun _ => ⟨rfl, rfl⟩

theorem receiversOnly_toSearch (m : Nat) (s : State) : ReceiversOnly n s (toSearch m s) := by
  rw [toSearch_of]
  exact (ReceiversOnly.onSlice m (f := searching m s) (fun _ => ⟨rfl, rfl⟩) s).trans (receiversOnly_driveFem m _)

theorem receiversOnly_foldl {l : List Nat} {f : State → Nat → State} (hf : ∀ t m, ReceiversOnly n t (f t m)) (s : State) : ReceiversOnly n s (l.foldl f s) := by
  induction l generalizing s with
  | nil => exact .refl n s
  | cons m l ih => exact (hf s m).trans (ih (f s m))

theorem receiversOnly_unblank (m : Nat) (s : State) : ReceiversOnly n s (unblank m s) := by
  unfold unblank
  refine receiversOnly_foldl (fun t k => ?_) s
  split
  · exact receiversOnly_toSearch k t
  · exact .refl n t

theorem receiversOnly_coexDrive (m : Nat) (req pri : Bool) (s : State) : ReceiversOnly n s (coexDrive m req pri s) := by
  unfold coexDrive
  split
  · exact ⟨rfl, rfl, rfl⟩
  · exact .refl n s

variable {p : TxPpdu} {f : Fixed}

/-- As a fixed PPDU's transmission ends on a READY slice, its receivers return, then what was sent is settled. -/
theorem txEndAir_settles (hn : n < 3) (hx : (slice n s).tx = some p) (hp : p.kind ≠ 4) (hst : (slice n s).state = .ready)
    (hf : (mac n s).fixed = some f) (hs : f.sent = true) :
    ∃ t, t = { s with radio := t.radio } ∧ (slice n t).tx = none ∧ txEndAir n s = sentPpdu n f t := by
  have hcut : ReceiversOnly n (onSlice n (fun x => { x with tx := none }) s)
      (unblank n (driveFem n (coexDrive n false false (onSlice n (fun x => { x with tx := none }) s)))) :=
    (receiversOnly_coexDrive n false false _).trans ((receiversOnly_driveFem n _).trans (receiversOnly_unblank n _))
  generalize hu : unblank n (driveFem n (coexDrive n false false (onSlice n (fun x => { x with tx := none }) s))) = u at hcut
  obtain ⟨hside, htx, hstate⟩ := hcut
  rw [slice_onSlice _ _ hn] at htx hstate
  have hside' : u = { s with radio := u.radio } := hside
  have hmac : mac n u = mac n s := by rw [hside']; rfl
  refine ⟨u, hside', htx, ?_⟩
  unfold txEndAir
  rw [hx]
  dsimp only
  rw [hu, if_neg hp, hmac, hf]
  dsimp only
  rw [hs, hstate, hst]
  rfl

end

/-! ### Protection and acknowledgement -/

section
variable {n h : Nat} {s : State} {t : Txop} {f : Fixed} {m : Mpdu} {x : Station}
variable (ht : (mac n s).txop = some t) (hf : (mac n s).fixed = some f) (hs : f.sent = true)
include ht hf hs

theorem ctsTimeout_fails (hc : t.awaitCts ≠ 0) :
    ctsTimeout n s = markUse (onMac n (fun m => { m with txop := none, fixed := none }) (emlsr n t.users false (doubleCw n t.ac s))) := by
  simp [ctsTimeout, ht, hf, hs, hc]

theorem ctsReceive_opens {l : List Nat} (hc : t.awaitCts = 1) (hu : t.users ≠ []) : ctsReceive n l s =
    markUse (onMac n (fun m => { m with fixed := none, txop := some { t with clear := true, awaitCts := 0 } }) (emlsr n t.users true s)) := by
  have hnone : (t.users.filter fun h => !t.users.contains h) = [] := by simp
  simp only [ctsReceive, ht, hf, hs, hc]
  rw [if_neg (by decide)]
  simp only [if_true]
  rw [if_neg (by simpa using hu), hnone]
  rfl

/-- The state in which a PPDU's MPDUs are judged, with CW set by a function. -/
def judgedState (n : Nat) (cw : State → State) (s : State) : State := cw (onMac n (fun k => { k with fixed := none }) s)

variable (hk : f.kind = 0) (hu : f.users = [h]) (hm : f.mpdus = [(h, m.id)]) (hx : station h s = some x) (hq : x.queue.find? (fun y => y.id == m.id) = some m)
include hk hu hm

theorem judgePpdu_one {acked : Nat → Mpdu → Bool} {heard : Nat → Bool} : judgePpdu n acked heard s =
    settleShapers (judgeMpdu f.keys acked (if heard h then judgedState n (resetCw n t.ac) s else judgedState n (doubleCw n t.ac) s) (h, m.id)) := by
  simp [judgePpdu, ht, hf, hs, hk, hu, hm, judgedState]

include hx hq

theorem judgePpdu_acked {q : Nat} (hseq : m.seq = some q) :
    judgePpdu n (fun k y => [(h, m.tid, [q])].any fun a => a.1 == k && a.2.1 == y.tid && y.seq.any a.2.2.contains)
      (fun k => [(h, m.tid, [q])].any fun a => a.1 == k) s = settleShapers (ackMpdu h m (judgedState n (resetCw n t.ac) s)) := by
  have hfind : (station h (judgedState n (resetCw n t.ac) s)).bind (fun x => x.queue.find? fun y => y.id == m.id) = some m :=
    (congrArg (Option.bind · _) hx).trans hq
  rw [judgePpdu_one ht hf hs hk hu hm, if_pos (by simp), judgeMpdu, hfind]
  dsimp only
  rw [if_pos (by simp [hseq])]

theorem judgePpdu_unanswered : judgePpdu n (fun _ _ => false) (fun _ => false) s =
    settleShapers (if m.slot.all fun k => Tab.look f.keys k == keyOf k s then attemptFailed h m (judgedState n (doubleCw n t.ac) s)
      else dropMpdu h 3 (judgedState n (doubleCw n t.ac) s) m) := by
  have hfind : (station h (judgedState n (doubleCw n t.ac) s)).bind (fun x => x.queue.find? fun y => y.id == m.id) = some m :=
    (congrArg (Option.bind · _) hx).trans hq
  have hkeys : (m.slot.any fun k => Tab.look f.keys k != keyOf k (judgedState n (doubleCw n t.ac) s)) =
      !(m.slot.all fun k => Tab.look f.keys k == keyOf k s) := by
    cases m.slot with
    | none => rfl
    | some k => rfl
  rw [judgePpdu_one ht hf hs hk hu hm, if_neg (by decide), judgeMpdu, hfind]
  dsimp only
  rw [if_neg (by decide), hkeys]
  cases m.slot.all fun k => Tab.look f.keys k == keyOf k s <;> rfl

end

/-! ### The end of a TXOP -/

section
variable {n : Nat} {s : State} {t : Txop}

/-- A station whose EMLSR exchange on a slice ends. -/
def emlsrEnded (n : Nat) (x : Station) : Station := if x.emlsrOn = some n then { x with emlsrOn := none, emlsrHold := true } else x

theorem txopEnd_uncharged (ht : (mac n s).txop = some t) (hx : (slice n s).tx = none) (hs : t.shares = []) : txopEnd n s =
    settleShapers (markUse (onMac n (fun m => { m with txop := none })
      (onAir (fun a => { a with stations := Tab.mapVals (emlsrEnded n) a.stations }) (releaseFixed n s)))) := by
  unfold txopEnd
  rw [ht]
  dsimp only
  rw [hx, if_neg (by decide), hs, List.foldl_nil, ite_self]
  rfl

end
end Sys2Proof.Machine
end

section
/-! PROOF. The fix point of a PPDU to a single user (chapter 05). -/
namespace Sys2Proof.Machine
set_option Elab.async false

/-! ### The user of the PPDU -/

section
variable {n h d : Nat} {s : State} {t : Txop} {p : FixPlan} {u : FixUser} {cover : Nat × Nat} {m : Mpdu} {x : Station}

/-- A user with the whole of a PPDU's subchannels. -/
def wholeUser (cover : Nat × Nat) (u : FixUser) : FixUser := { u with ru := wholeRu cover.2 }

theorem askedUsers_one (ht : t.users = [h]) (hu : p.users = [u]) (hs : u.station = h) (hv : servable h n s = true) (hm : isMulti p = false) :
    askedUsers n t p s = [u] := by
  simp [askedUsers, ht, hu, hs, hv, hm]

theorem placedUsers_one (hk : p.kind = 0) (hm : isMulti p = false) (hf : userFits n p cover.1 (wholeUser cover u) s = true) :
    placedUsers n p cover [u] s = [wholeUser cover u] := by
  rw [placedUsers, if_neg (by rw [hk]; decide), hm, if_neg (by decide), List.map_singleton]
  exact List.filter_cons_of_pos hf

/-- Only the Crown's statistics and ratios change. -/
def StatsOnly (s t : State) : Prop := t = { s with mls := { s.mls with stats := t.mls.stats, ratio := t.mls.ratio } }

theorem onMac_self {f : SliceMac → SliceMac} (hf : f (mac n s) = mac n s) : onMac n f s = s := by
  rw [onMac, hf]
  rcases n with _ | _ | _ | n <;> rfl

/-- With no late user, only the statistics change. -/
theorem markLate_none (n : Nat) (s : State) : StatsOnly s (markLate n [] s) := by
  have hid : onMac n (fun m => { m with txop := m.txop.map fun t => { t with lateUsers := t.lateUsers ++ [] } }) s = s := by
    refine onMac_self ?_
    simp
  unfold markLate
  dsimp only [List.filter_nil]
  rw [hid]
  rfl

/-- What stays of a user and its PPDU where only statistics change. -/
theorem StatsOnly.planned {s w : State} (hw : StatsOnly s w) (flex : Bool) (least want answer : Nat) (v : FixUser) (l : List Nat) (k us txop : Nat) :
    fitDuration n flex least want answer w = fitDuration n flex least want answer s ∧ mldAligned n p d w v = mldAligned n p d s v ∧
    protection n t l k us txop w = protection n t l k us txop s := by
  generalize w.mls.stats = a, w.mls.ratio = b at hw
  rw [hw]
  exact ⟨rfl, rfl, rfl⟩

section
variable (hu : t.users = [h]) (hpu : p.users = [u]) (hs : u.station = h) (hk : p.kind = 0) (hm : isMulti p = false) (hv : servable h n s = true)
  (ho : sends p.format = true) (hff : formatFits p.format (bandNow n s) (coverFor n p.format p.width s).1 = true)
  (hf : userFits n p (coverFor n p.format p.width s).1 (wholeUser (coverFor n p.format p.width s) u) s = true) (hr : resident h s = true)
  (hd : fitDuration n true p.overhead p.duration p.answer s = some d)
  (ha : mldAligned n p d s (wholeUser (coverFor n p.format p.width s) u) = true) (hprot : protection n t [h] 0 d p.txop s = none)
include hu hpu hs hk hm hv ho hff hf hr hd ha hprot

/-- A data PPDU to one resident user that it can serve, with no protection needed, is fixed as it stands. -/
theorem fixPlanned_one : ∃ w, StatsOnly s w ∧ fixPlanned n t p s = fixData n t p d (coverFor n p.format p.width s)
    [wholeUser (coverFor n p.format p.width s) u] [] w := by
  have hform : plannedFormat p = p.format := by rw [plannedFormat, if_neg (by rw [hk]; decide), if_neg (by rw [hk]; decide)]
  have hres : resident (wholeUser (coverFor n p.format p.width s) u).station s = true := (congrArg (resident · s) hs).trans hr
  have hwho : [(wholeUser (coverFor n p.format p.width s) u).station].eraseDups = [h] := by
    rw [← hs]
    rfl
  have hlate := markLate_none n s
  obtain ⟨hd', ha', hp'⟩ := hlate.planned (n := n) (d := d) (t := t) (p := p) true p.overhead p.duration p.answer
    (wholeUser (coverFor n p.format p.width s) u) [h] 0 d p.txop
  refine ⟨markLate n [] s, hlate, ?_⟩
  unfold fixPlanned
  dsimp only
  rw [hform, ho, hff, askedUsers_one hu hpu hs hv hm, Bool.and_self, if_pos rfl, placedUsers_one hk hm hf]
  generalize wholeUser (coverFor n p.format p.width s) u = v at hres hwho ha ha' ⊢
  have hkept : [v].filter (mldAligned n p d (markLate n [] s)) = [v] := List.filter_cons_of_pos (ha'.trans ha)
  simp [hres, hd', hd, hkept, hwho, hk, hp', hprot]

end
end

/-! ### The user's MPDU -/

/-- An MPDU taken into a PPDU of a slice for the first time. -/
def takenFirst (n : Nat) (s : State) (x : Station) (m : Mpdu) : Mpdu :=
  { m with seq := some (x.txSeq.getD m.tid 0), flight := some n, slot := if (keyOf x.ptk s).isSome then some x.ptk else none }

section
variable {n h : Nat} {s : State} {v : FixUser} {m : Mpdu} {x : Station}

theorem charge_kept (k : ShaperTarget) (a : Shaper → Int) (s : State) : charge k a s = { s with qme := (charge k a s).qme } := by
  unfold charge
  split <;> rfl

theorem takeOut_station (hseq : m.seq = none) (hslot : m.slot = none) (hq : x.queue = [m]) : ∃ f k, (f x).queue = [takenFirst n s x m] ∧
    takeOut h n s m = charge k (byteCharge m.length) (charge (0, h) (byteCharge m.length) (onStation h f s)) := by
  unfold takeOut
  rw [hseq]
  refine ⟨_, _, ?_, rfl⟩
  simp [hq, hslot, takenFirst]

/-- The first fix point of an MPDU numbers it, and protects it under its station's key. -/
theorem takeOut_first (hx : station h s = some x) (hseq : m.seq = none) (hslot : m.slot = none) (hq : x.queue = [m]) : let t := takeOut h n s m
    t = { s with air := t.air, qme := t.qme } ∧ t.air.macs = s.air.macs ∧ (station h t).map (·.queue) = some [takenFirst n s x m] := by
  obtain ⟨f, k, hf, he⟩ := takeOut_station (n := n) (h := h) (s := s) hseq hslot hq
  rw [he, charge_kept k, charge_kept (0, h)]
  refine ⟨rfl, rfl, ?_⟩
  rw [show ∀ q t, station h { t with qme := q } = station h t from fun _ _ => rfl, show ∀ q t, station h { t with qme := q } = station h t from fun _ _ => rfl,
    station_onStation, hx, Option.map_some, Option.map_some, hf]

section
variable {room : Nat}
variable (hx : station h s = some x) (hv : v.station = h) (ht : v.tid = m.tid) (hc : v.count = 1) (hq : x.queue = [m]) (hfl : m.flight = none)
  (hat : m.attempts = 0) (hlen : m.length ≤ 11454) (hses : Tab.look x.sessions m.tid = none) (hshare : linkShare h x n m.tid s = some true)
  (had : admits n h (some m.tid) s = true) (htwt : twtHeld (stationQueue h m.tid) s = false) (hdoze : dozing x s = false)
include hx hv ht hc hq hfl hat hlen hses hshare had htwt hdoze

/-- A share of one MPDU takes the one that waits. -/
theorem picks_one (hroom : m.length ≤ room) : picks v n false room s = [m] := by
  subst hv
  simp [picks, hx, ht, hc, hq, hfl, hat, hlen, hses, hshare, had, htwt, hdoze, fitting, mpduCost, hroom]

/-- A user's share is its one waiting MPDU. -/
theorem fillShare_one {bytes : FixUser → Nat} {map : FixUser → Bool} (hmap : map v = false) (hroom : m.length ≤ bytes v)
    (hsoj : (queue (stationQueue h m.tid) s).sojourn = false) : (fillShare n bytes map (⟨[], [], []⟩, s) v).2 = touch h true (takeOut h n s m) ∧
    (fillShare n bytes map (⟨[], [], []⟩, s) v).1.mpdus = [(h, m.id)] := by
  have hpick := picks_one (n := n) (room := bytes v) hx hv ht hc hq hfl hat hlen hses hshare had htwt hdoze hroom
  have hcheck : sojournCheck h m.tid s = s := by
    have hfresh : freshHead h m.tid s = some m := by simp [freshHead, hx, hq, hat, hfl]
    simp [sojournCheck, hfresh, hsoj]
  have hroom0 : bytes v - Tab.getD [] v.station 0 - 0 = bytes v := rfl
  subst hv
  simp [fillShare, hmap, hroom0, hpick, hat, ht, hcheck]

variable {d : Nat} {p : FixPlan} {cover : Nat × Nat} {t : Txop}
variable (hbar : x.barOwed = []) (hsoj : (queue (stationQueue h m.tid) s).sojourn = false) (hpeer : (peerOf h s).active = false)
  (hroom : m.length ≤ bitsIn p.format cover.1 v.ru.tones v.mcs v.streams p.gi v.dcm (d - p.overhead) / 8)
include hbar hsoj hpeer hroom

/-- A data PPDU of one MPDU is fixed. -/
theorem fixData_one : ∃ f : Fixed, fixData n t p d cover [v] [] s =
      settleShapers (fixPpdu n f (addShares n [v] (touch h true (takeOut h n s m)))) ∧
    (f.kind, f.users, f.mpdus, f.sent) = (0, [h], [(h, m.id)], false) ∧
    (f.duration, f.starts, f.vec.format, f.vec.width) = (d, startsAt s, p.format, cover.1) := by
  have hbars : ([v].filter fun u => (station u.station s).any fun x => x.barOwed.contains u.tid) = [] := by simp [hv, hx, hbar]
  have hmap : cumulusOn n v (txUser n p.format v s).ldpc (aloneIn ([v] ++ []) v) s = false := by simp [cumulusOn, hv, hpeer]
  obtain ⟨hstate, hmpdus⟩ := fillShare_one (n := n) (bytes := fun u => bitsIn p.format cover.1 u.ru.tones u.mcs u.streams p.gi u.dcm (d - p.overhead) / 8)
    (map := fun u => cumulusOn n u (txUser n p.format u s).ldpc (aloneIn ([v] ++ []) u) s)
    hx hv ht hc hq hfl hat hlen hses hshare had htwt hdoze hmap hroom hsoj
  have hwho : ([v].map (·.station)).eraseDups = [h] := by rw [List.map_singleton, hv]; rfl
  unfold fixData
  rw [hbars, hwho]
  dsimp only
  rw [if_neg (by decide)]
  generalize hr : [v].foldl (fillShare n (fun u => bitsIn p.format cover.1 u.ru.tones u.mcs u.streams p.gi u.dcm (d - p.overhead) / 8)
    (fun u => cumulusOn n u (txUser n p.format u s).ldpc (aloneIn ([v] ++ []) u) s)) (⟨[], [], []⟩, s) = r
  have hr2 : r.2 = touch h true (takeOut h n s m) := by rw [← hr]; exact hstate
  have hr1 : r.1.mpdus = [(h, m.id)] := by rw [← hr]; exact hmpdus
  have hchosen : ([h].filter fun k => [(h, m.id)].any fun e => e.1 == k) = [h] := by simp
  have hall : ([v].filter fun u => [h].contains u.station) = [v] := by simp [hv]
  rw [hr1, if_neg (by simp), hchosen, hall, hr2]
  exact ⟨_, rfl, rfl, rfl⟩

end

end

/-! ### The fixed PPDU -/

section
variable {n h : Nat} {s : State} {f : Fixed} {l : List FixUser}

/-- A PPDU that is fixed stands in its slice; the stations, the wire and the keys keep what they have. -/
theorem fixPpdu_fixed (hn : n < 3) : let y := settleShapers (fixPpdu n f (addShares n l (touch h true s)))
    (∃ g, (mac n y).fixed = some { f with granted := g }) ∧ y.air.stations = s.air.stations ∧ y.wire = s.wire ∧ y.sec = s.sec := by
  have hkept (req pri : Bool) (t : State) : ∃ r, coexDrive n req pri t = { t with radio := r } := by
    unfold coexDrive
    split
    · exact ⟨_, rfl⟩
    · exact ⟨t.radio, rfl⟩
  unfold fixPpdu
  dsimp only
  generalize hg : (!(tuned n (addShares n l (touch h true s))).any fun c => bandOf c.centre == 0) = g
  generalize ((mac n (addShares n l (touch h true s))).txop.any fun t => t.what == 1 || t.ac == 3) = pri
  obtain ⟨r, hr⟩ := hkept true pri (onMac n (fun m => { m with fixed := some { f with granted := g } }) (addShares n l (touch h true s)))
  rw [hr]
  refine ⟨⟨g, ?_⟩, rfl, rfl, rfl⟩
  exact congrArg SliceMac.fixed (mac_onMac (fun m => { m with fixed := some { f with granted := g } }) (addShares n l (touch h true s)) hn)

end

section
variable {n h d : Nat} {s : State} {t : Txop} {p : FixPlan} {u : FixUser} {m : Mpdu} {x : Station}

/-- The fix point of a data PPDU to one user with one MPDU: the PPDU is fixed with it, and it is numbered, in flight and protected. -/
theorem fixPoint_one (hn : n < 3) (ht : (mac n s).txop = some t) (hfix : (mac n s).fixed = none) (htx : (slice n s).tx = none)
    (hst : (slice n s).state = .ready) (hwhat : t.what = 0) (hu : t.users = [h]) (hk : p.kind = 0) (hmulti : isMulti p = false) (hpu : p.users = [u])
    (hs : u.station = h) (htid : u.tid = m.tid) (hc : u.count = 1) (ho : sends p.format = true)
    (hff : formatFits p.format (bandNow n s) (coverFor n p.format p.width s).1 = true)
    (hf : userFits n p (coverFor n p.format p.width s).1 (wholeUser (coverFor n p.format p.width s) u) s = true)
    (hd : fitDuration n true p.overhead p.duration p.answer s = some d)
    (ha : mldAligned n p d s (wholeUser (coverFor n p.format p.width s) u) = true) (hprot : protection n t [h] 0 d p.txop s = none)
    (hx : station h s = some x) (hq : x.queue = [m]) (hfl : m.flight = none) (hseq : m.seq = none) (hslot : m.slot = none) (hat : m.attempts = 0)
    (hbar : x.barOwed = []) (hses : Tab.look x.sessions m.tid = none) (hlen : m.length ≤ 11454)
    (hroom : m.length ≤ bitsIn p.format (coverFor n p.format p.width s).1 (wholeUser (coverFor n p.format p.width s) u).ru.tones u.mcs u.streams p.gi u.dcm
      (d - p.overhead) / 8)
    (hpeer : (peerOf h s).active = false) (hv : servable h n s = true) (hr : resident h s = true) (hshare : linkShare h x n m.tid s = some true)
    (had : admits n h (some m.tid) s = true) (htwt : twtHeld (stationQueue h m.tid) s = false) (hdoze : dozing x s = false)
    (hsoj : (queue (stationQueue h m.tid) s).sojourn = false) : let y := fixPoint n p s
    ((mac n y).fixed.map fun f => (f.kind, f.users, f.mpdus, f.sent)) = some (0, [h], [(h, m.id)], false) ∧
    ((mac n y).fixed.map fun f => (f.duration, f.starts, f.vec.format, f.vec.width)) =
      some (d, runTime s + 24000, p.format, (coverFor n p.format p.width s).1) ∧
    (station h y).map (·.queue) = some [takenFirst n s x m] ∧ y.wire = s.wire ∧ y.sec = s.sec := by
  have hgo : fixPoint n p s = fixPlanned n t p s := by simp [fixPoint, ht, hfix, htx, hst, hwhat]
  obtain ⟨w, hw, hplan⟩ := fixPlanned_one hu hpu hs hk hmulti hv ho hff hf hr hd ha hprot
  unfold StatsOnly at hw
  generalize w.mls.stats = a, w.mls.ratio = b at hw
  subst hw
  obtain ⟨f, hdata, hf1, hf2⟩ := fixData_one (n := n) (s := { s with mls := { s.mls with stats := a, ratio := b } }) (v := wholeUser (coverFor n p.format p.width s) u)
    (t := t) hx hs htid hc hq hfl hat hlen hses hshare had htwt hdoze hbar hsoj hpeer hroom
  obtain ⟨hside, -, hqueue⟩ := takeOut_first (n := n) (s := { s with mls := { s.mls with stats := a, ratio := b } }) hx hseq hslot hq
  obtain ⟨⟨g, hg⟩, hstations, hwire, hsec⟩ := fixPpdu_fixed (f := f) (l := [wholeUser (coverFor n p.format p.width s) u])
    (h := h) (s := takeOut h n { s with mls := { s.mls with stats := a, ratio := b } } m) hn
  simp only [Prod.mk.injEq] at hf1 hf2
  obtain ⟨hk1, hk2, hk3, hk4⟩ := hf1
  obtain ⟨hd1, hd2, hd3, hd4⟩ := hf2
  rw [hgo, hplan, hdata]
  refine ⟨?_, ?_, ?_, ?_, ?_⟩
  · rw [hg, Option.map_some]
    dsimp only
    rw [hk1, hk2, hk3, hk4]
  · rw [hg, Option.map_some]
    dsimp only
    rw [hd1, hd2, hd3, hd4]
    rfl
  · rw [station, hstations]
    exact hqueue
  · rw [hwire, hside]
  · rw [hsec, hside]

end

/-- Settles O54, from the beacon's request at a TBTT, the fix point of a PPDU of one MPDU, and the start, end and judgement of what a
slice sends. -/
theorem transmitRows : Obligations.TransmitRows := by
  intro s n hn
  refine ⟨?_, ?_, ?_, ?_, ?_, ?_, fun h id => rfl, ?_, ?_, ?_⟩
  · intro b x cca hx hs hp hw ht
    refine ⟨fun hst hb => ?_, fun hst hb => ?_, fun hst => ?_⟩
    · obtain ⟨h1, h2, h3, h4⟩ := tbtt_blocked (s := start s) (cca := cca) hx hs hp hw ht hn hst hb
      exact ⟨_, rfl, h1, h2, h3, h4.trans (congrArg some beaconDue_counted)⟩
    · obtain ⟨h1, h2, h3⟩ := tbtt_starts (s := start s) (cca := cca) hx hs hp hw ht hn hst hb
      exact ⟨_, rfl, h1, h2, h3.trans (congrArg some beaconDue_counted)⟩
    · obtain ⟨h1, h2, h3, h4⟩ := tbtt_deferred (s := start s) (cca := cca) hx hs hp hw ht hn hst
      exact ⟨_, rfl, h1, h2, h3, h4.trans (congrArg some beaconDue_counted)⟩
  · intro t p u h x m d ht hfix htx hst hwhat hu hk hmulti hpu hs htid hc cover v ho hff hf hd ha hprot hx hq hfl hseq hslot hat hbar hses hlen hroom hpeer hv
      hr hshare had htwt hdoze hsoj
    exact ⟨_, rfl, fixPoint_one (s := start s) hn ht hfix htx hst hwhat hu hk hmulti hpu hs htid hc ho hff hf hd ha hprot hx hq hfl hseq hslot hat hbar hses
      hlen hroom hpeer hv hr hshare had htwt hdoze hsoj⟩
  · intro f t hf ht hs
    have hgrant (g : Bool) : exec (.coexGrantSample n g) s = .next (if g then onMac n (fun m => { m with fixed := some { f with granted := true } }) (start s)
        else notStarted n (start s)) := by
      refine congrArg Host.Outcome.next ?_
      dsimp only
      rw [show (mac n (start s)).fixed = some f from hf]
      dsimp only
      rw [hs]
      rfl
    refine ⟨hgrant true, hgrant false, fun hg hst gamma tune => ⟨fun hb => ?_, fun hb hh => ?_, fun hb hm hr => ?_, fun hb hh hm => ⟨fun hd => ?_, ?_⟩⟩⟩
    · exact congrArg Host.Outcome.next (txStartAir_locked (s := start s) hf ht hs hg hst hb)
    · exact congrArg Host.Outcome.next (txStartAir_refused (s := start s) hf ht hs hg hst hb (.inl hh))
    · exact congrArg Host.Outcome.next (txStartAir_refused (s := start s) hf ht hs hg hst hb (.inr ⟨hm, hr⟩))
    · exact congrArg Host.Outcome.next (txStartAir_denied (s := start s) hf ht hs hg hst hb hh hm hd)
    · intro a b c hd hk hu hbody
      exact congrArg Host.Outcome.next (txStartAir_sounding (s := start s) hf ht hs hg hst hb hh hm hd hk hu hbody)
  · intro p f hx hp hst hf hs
    obtain ⟨t, hside, htx, hend⟩ := txEndAir_settles (s := start s) hn hx hp hst hf hs
    have hair : t.air = s.air := by rw [hside]; rfl
    refine ⟨fun hk => ⟨_, rfl, ?_⟩, fun hk => ⟨_, rfl, ?_⟩⟩
    · have hdone : sentPpdu n f t = onMac n (fun m => { m with fixed := none }) t := by rw [sentPpdu, hk]; rfl
      rw [hend, hdone]
      refine ⟨htx, ?_, ?_, (congrArg Air.stations hair :), (congrArg Air.bss hair :)⟩
      · rw [mac_onMac _ _ hn]
      · rw [hside]
        rfl
    · have hwindow : sentPpdu n f t = onSlice n (fun x => { x with rx := .tbWindow, acqNow := x.acq }) t := by rw [sentPpdu, hk]; rfl
      have hslice := slice_onSlice (fun x => { x with rx := .tbWindow, acqNow := x.acq }) t hn
      rw [hend, hwindow]
      exact ⟨(congrArg Slice.tx hslice).trans htx, congrArg Slice.rx hslice, hair⟩
  · intro t f ht hf hs hc
    refine ⟨congrArg Host.Outcome.next (ctsTimeout_fails (s := start s) ht hf hs hc), fun hc hu l => ?_⟩
    exact congrArg Host.Outcome.next (ctsReceive_opens (s := start s) ht hf hs hc hu)
  · intro t f h m x ht hf hs hu hk hm hx hq
    refine ⟨fun q hseq => ?_, fun hk' => ?_, fun hk' => ?_⟩
    · exact congrArg Host.Outcome.next (judgePpdu_acked (s := start s) ht hf hs hk hu hm hx hq hseq)
    · refine congrArg Host.Outcome.next ((judgePpdu_unanswered (s := start s) ht hf hs hk hu hm hx hq).trans ?_)
      exact congrArg settleShapers (if_pos hk')
    · refine congrArg Host.Outcome.next ((judgePpdu_unanswered (s := start s) ht hf hs hk hu hm hx hq).trans ?_)
      exact congrArg settleShapers (if_neg (ne_true_of_eq_false hk'))
  · intro b id f l hl
    refine congrArg Host.Outcome.next ?_
    unfold lifetimeEnds
    dsimp only
    rw [show (queue (16384 + b) (start s)).frames = f :: l from hl]
    rfl
  · intro ended t ht hx hs
    exact congrArg Host.Outcome.next (txopEnd_uncharged (s := start s) ht hx hs)
  · intro ht
    refine congrArg Host.Outcome.next ?_
    unfold txopEnd
    rw [show (mac n (start s)).txop = none from ht]

end Sys2Proof.Machine
end

section
/-! PROOF. What link cores do (chapter 05): an association on a BSS of no slice. -/
namespace Sys2Proof.Machine
set_option Elab.async false

/-- An open BSS whose slice is none of the three. -/
def strayBss : Bss where
  slice := 3
  mld := 255
  flags := 0
  bssid := 1
  mldAddr := 0
  security := 0
  ssid := []
  interval := 100
  dtim := 1
  dtimCount := 0
  colour := 1
  maxStations := 1
  vlan := 1
  credential := 0xFFFF
  radius := 255
  edca := []
  edcaCount := 0
  lifetimes := [1000, 500, 100, 50]
  inactivity := 300
  pendingParams := none
  transmitted := true
  skipped := 0
  beaconSent := true
  groupHeld := 0
  groupReady := 0
  deleting := none
  csaCount := 0
  groupKey := 0xFFFF
  newGroupKey := none
  rekeyWaiting := []
  rekeyAt := 0

/-- A device with that BSS: a read of slice 3 gives slice 2, which is READY, but a write to it is lost. -/
def strayDevice : State := onSlice 2 (fun x => { x with state := .ready }) (onAir (fun a => { a with bss := [(0, strayBss)] }) State.reset)

/-- An association request to it. -/
def strayRequest : MgmtRx := { kind := 1, addr := 6, akm := 0 }

theorem strayDevice_usable : sliceUsable strayBss.slice strayDevice = true := by decide +kernel

theorem strayDevice_handle : newHandle strayDevice = some 0 := by decide +kernel

/-- The association's answer is queued on no slice. -/
theorem strayRequest_unanswered : (mac strayBss.slice (management strayRequest (start strayDevice))).mgmt = [] := by decide +kernel

/-- Refutes O55: an open BSS of the statement may stand on a slice that is none of the three (R118 has slices 0 to 2), and there the
answer to an association is lost: a write to slice 3 changes nothing. -/
theorem not_linkCoreRows : ¬ Obligations.LinkCoreRows := by
  intro h
  obtain ⟨h, -⟩ := h strayDevice 0
  obtain ⟨-, -, h, -⟩ := h strayRequest strayBss rfl (by decide +kernel)
  obtain ⟨-, h⟩ := h rfl strayDevice_usable rfl rfl rfl
  obtain ⟨t, he, -, -, -, e, -, hm⟩ := h 0 strayDevice_handle rfl (by decide +kernel) rfl
  obtain rfl := Host.Outcome.next.inj ((show exec (.managementFrameReceive strayRequest) strayDevice =
    .next (management strayRequest (start strayDevice)) from rfl).symm.trans he)
  rw [strayRequest_unanswered] at hm
  exact absurd hm List.not_mem_nil

end Sys2Proof.Machine
end

section
/-! PROOF. Calibration, Halo training, captures and the self test (chapter 02). -/
namespace Sys2Proof.Machine
set_option Elab.async false

/-! ### Changes of a slice -/

section
variable {n : Nat} {s t w : State}

theorem onSlice_onSlice (hn : n < 3) (f g : Slice → Slice) (s : State) : onSlice n f (onSlice n g s) = onSlice n (fun x => f (g x)) s := by
  rcases (show n = 0 ∨ n = 1 ∨ n = 2 by omega) with rfl | rfl | rfl <;> rfl

theorem onSlice_congr {f g : Slice → Slice} (h : f (slice n s) = g (slice n s)) : onSlice n f s = onSlice n g s := by
  rw [onSlice, h]
  rfl

end

/-! ### Calibration -/

section
variable {n : Nat} {s : State} {temp : Int}

theorem calibrationDue_ready (hn : n < 3) {kind : Nat} (hk : kind ≤ 4) (hst : (slice n s).state = .ready)
    (hq : ((slice n s).calQueue ++ (slice n s).calRunning.toList).all (fun c => c.kind != kind) = true) :
    calibrationDue n kind temp s = onSlice n (fun x => { x with temperature := temp, calQueue := x.calQueue ++ [⟨kind, calSteps kind, false⟩] }) s := by
  have hany : (((slice n s).calQueue ++ (slice n s).calRunning.toList).any fun c => c.kind == kind) = false := by
    rw [List.any_eq_not_all_not]
    exact congrArg (!·) hq
  unfold calibrationDue
  dsimp only
  rw [slice_onSlice _ _ hn, hst, hany, if_neg (by simp [hk]), onSlice_onSlice hn]

variable {c : CalStep} {r : List CalStep}

theorem calStepStart_stopped (hst : (slice n s).state = .stopped) (hq : (slice n s).calQueue = c :: r) (hr : (slice n s).calRunning = none)
    (hj : (slice n s).calJob = none) : calStepStart n s =
      if classFull 9 s then refuseClass 9 s else onSlice n (fun x => { x with calQueue := r, calRunning := some c }) s := by
  simp [calStepStart, hst, hq, hr, hj]

/-- A slice as a step of a kind ends. -/
def stepEnded (c : CalStep) (temp : Int) (now : Nat) (x : Slice) : Slice :=
  { x with calRunning := none, temperature := temp, calJob := x.calJob.map fun j => if bit j.kinds c.kind then { j with lastEnd := now } else j }

variable (hn : n < 3)
include hn

theorem noteStepEnd_running : noteStepEnd n c.kind (onSlice n (fun x => { x with calRunning := none, temperature := temp }) s) =
    onSlice n (stepEnded c temp (runTime s)) s := by
  rw [noteStepEnd, onSlice_onSlice hn]
  rfl

variable (hr : (slice n s).calRunning = some c) (hst : (slice n s).state = .ready) (hc : c.failed = false)
include hr hst hc

/-- A good step of several leaves the rest of its kind. -/
theorem calStepDone_next (hl : 1 < c.left) : calStepDone n true temp s =
    onSlice n (fun x => { stepEnded c temp (runTime s) x with calQueue := ⟨c.kind, c.left - 1, false⟩ :: x.calQueue }) s := by
  unfold calStepDone
  rw [hr]
  dsimp only
  rw [noteStepEnd_running hn, slice_onSlice _ _ hn, hc]
  simp [stepEnded, hst, hl, onSlice_onSlice hn]

variable (hj : (slice n s).calJob = none)
include hj

/-- The last step of a kind makes it done at its temperature. -/
theorem calStepDone_last (hl : c.left ≤ 1) : calStepDone n true temp s =
    onRadio (fun r => { r with lastCalibration := Tab.put r.lastCalibration (5 * n + c.kind) [temp] }) (onSlice n (fun x =>
      { x with calRunning := none, temperature := temp, calFailed := x.calFailed &&& (31 - 2 ^ c.kind) }) s) := by
  have hstop : ∀ t, (slice n t).calJob = none → settleCal n t = t := fun t h => by simp [settleCal, h]
  unfold calStepDone
  rw [hr]
  dsimp only
  rw [noteStepEnd_running hn, slice_onSlice _ _ hn, hc]
  simp only [stepEnded, hst, Nat.not_lt.mpr hl, noteKind, Bool.false_eq_true, if_false, onSlice_onSlice hn]
  refine (hstop _ ?_).trans (congrArg (onRadio _) (onSlice_congr ?_))
  · have hkept : ∀ t, slice n (onRadio (fun r => { r with lastCalibration := Tab.put r.lastCalibration (5 * n + c.kind) [temp] }) t) = slice n t := fun _ => rfl
    rw [hkept, slice_onSlice _ _ hn]
    simp [hj]
  · simp [hj]

/-- A first failure is retried. -/
theorem calStepDone_retry : calStepDone n false temp s = onSlice n (fun x =>
    { x with calRunning := none, temperature := temp, calQueue := { c with failed := true } :: x.calQueue }) s := by
  unfold calStepDone
  rw [hr]
  dsimp only
  rw [noteStepEnd_running hn, slice_onSlice _ _ hn, hc]
  simp only [stepEnded, hst, Bool.false_eq_true, if_false, Bool.not_false, if_true, onSlice_onSlice hn]
  refine (if_neg (by decide)).trans (onSlice_congr ?_)
  simp [hj]

end

/-! ### Halo training -/

section
variable {n a m : Nat} {s t w : State}

theorem halo_onHalo (hn : n < 3) (f : Halo → Halo) (s : State) : halo n a (onHalo n a f s) = f (halo n a s) := by
  unfold onHalo
  split
  case isTrue h => rcases (show n = 0 ∨ n = 1 ∨ n = 2 by omega) with rfl | rfl | rfl <;> simp [halo, h, Tri.set, Tri.get]
  case isFalse h => rcases (show n = 0 ∨ n = 1 ∨ n = 2 by omega) with rfl | rfl | rfl <;> simp [halo, h, Tri.set, Tri.get]

theorem halo_onHalo_ne (hn : n < 3) (hm : m < 3) (h : m ≠ n) (b : Nat) (f : Halo → Halo) (s : State) : halo m b (onHalo n a f s) = halo m b s := by
  unfold onHalo
  rcases (show n = 0 ∨ n = 1 ∨ n = 2 by omega) with rfl | rfl | rfl <;>
    rcases (show m = 0 ∨ m = 1 ∨ m = 2 by omega) with rfl | rfl | rfl <;>
    simp_all [halo, Tri.set, Tri.get, apply_ite]

/-- The training of Halo keeps the states of the slices and the air MAC; it leaves the radio side only where class 9 is full. -/
def TrainingOnly (s t : State) : Prop :=
  (∀ n, (slice n t).state = (slice n s).state) ∧ t.air = s.air ∧ (classFull 9 s = false → RadioSide s t)

theorem TrainingOnly.refl (s : State) : TrainingOnly s s := ⟨fun _ => rfl, rfl, fun _ => rfl⟩

theorem TrainingOnly.trans (h : TrainingOnly s t) (k : TrainingOnly t w) : TrainingOnly s w := by
  obtain ⟨h1, h2, h3⟩ := h
  obtain ⟨k1, k2, k3⟩ := k
  refine ⟨fun n => (k1 n).trans (h1 n), k2.trans h2, fun hf => ?_⟩
  have hs := h3 hf
  have htds : t.tds = s.tds := by rw [hs]
  exact hs.trans (k3 (by rw [classFull, classStats, htds]; exact hf))

theorem TrainingOnly.foldl {α : Type} {g : State → α → State} (h : ∀ t x, TrainingOnly t (g t x)) (l : List α) (s : State) : TrainingOnly s (l.foldl g s) := by
  induction l generalizing s with
  | nil => exact .refl s
  | cons x l ih => exact (h s x).trans (ih (g s x))

theorem trainingOnly_onHalo (f : Halo → Halo) (s : State) : TrainingOnly s (onHalo n a f s) := by
  unfold onHalo
  split
  · exact ⟨fun _ => rfl, rfl, fun _ => rfl⟩
  · exact ⟨fun _ => rfl, rfl, fun _ => rfl⟩

theorem trainingOnly_onSlice {f : Slice → Slice} (hf : ∀ x, (f x).state = x.state) (s : State) : TrainingOnly s (onSlice n f s) :=
  ⟨fun m => sliceField_onSlice Slice.state hf n m s, rfl, fun _ => rfl⟩

theorem LinkOnly.trainingOnly (h : LinkOnly s t) : TrainingOnly s t := by
  refine ⟨fun n => ?_, h.air, fun _ => ?_⟩
  · rw [slice, h.radio, slice]
  · rw [RadioSide, h]

theorem trainingOnly_settleHaloWait (s : State) : TrainingOnly s (settleHaloWait n s) := by
  unfold settleHaloWait
  split
  · exact trainingOnly_onSlice (f := fun x => { x with haloWait := false }) (fun _ => rfl) s
  · exact .refl s

theorem trainingOnly_haloSuccess (s : State) : TrainingOnly s (haloSuccess n a s) := by
  unfold haloSuccess
  extract_lets now t u
  have ht : TrainingOnly s t := trainingOnly_onHalo _ s
  have hu : TrainingOnly t u := by
    unfold u
    split
    · exact TrainingOnly.trans ⟨fun _ => rfl, rfl, fun _ => rfl⟩ (raise_link _ _ (onPair n a (fun p => { p with fallback := false }) t)).trainingOnly
    · exact .refl t
  exact (ht.trans hu).trans ((trainingOnly_settleHaloWait u).trans (trainingOnly_settleHaloWait _))

theorem trainingOnly_refuse (hf : classFull 9 s = true) : TrainingOnly s (refuseClass 9 s) := by
  have hl := raiseLimited_link 0x0B02 9 (backPayload 9 (onClass 9 (fun x => { x with refusals := inc 32 x.refusals, refusedNow := inc 32 x.refusedNow }) s))
    (onClass 9 (fun x => { x with refusals := inc 32 x.refusals, refusedNow := inc 32 x.refusedNow }) s)
  refine ⟨fun n => ?_, hl.air, fun h => absurd (h.symm.trans hf) Bool.false_ne_true⟩
  unfold refuseClass
  rw [slice, hl.radio]
  rfl

theorem trainingOnly_haloTick (s : State) : TrainingOnly s (haloTick n a s) := by
  unfold haloTick
  dsimp only
  split
  · exact trainingOnly_onHalo _ s
  split
  · exact .refl s
  split
  · exact trainingOnly_onHalo _ s
  split
  · split
    · exact trainingOnly_haloSuccess s
    · exact .refl s
  split
  case isTrue hf => exact (trainingOnly_refuse hf).trans (trainingOnly_onHalo _ _)
  case isFalse => exact trainingOnly_onHalo _ s

/-- A training tick, the airtimes of its interval cleared. -/
theorem haloTrainingTick_only (s : State) : TrainingOnly s ([0, 1, 2].foldl (fun t n => onSlice n (fun x => { x with airtime := 0 }) t)
    ([0, 1, 2].foldl (fun t v => (others v).foldl (fun u a => haloTick v a u) t) s)) := by
  have htick := TrainingOnly.foldl (g := fun t v => (others v).foldl (fun u a => haloTick v a u) t)
    (fun t v => TrainingOnly.foldl (fun u a => trainingOnly_haloTick u) (others v) t) [0, 1, 2] s
  exact htick.trans (TrainingOnly.foldl (g := fun t n => onSlice n (fun x => { x with airtime := 0 }) t)
    (fun t n => trainingOnly_onSlice (f := fun x => { x with airtime := 0 }) (fun _ => rfl) t) [0, 1, 2] _)

/-- A training tick leaves every slice without airtime. -/
theorem haloTrainingTick_airtime (hn : n < 3) (s : State) :
    (slice n ([0, 1, 2].foldl (fun t n => onSlice n (fun x => { x with airtime := 0 }) t) s)).airtime = 0 := by
  rcases (show n = 0 ∨ n = 1 ∨ n = 2 by omega) with rfl | rfl | rfl <;> rfl

end

/-! ### Training results and fall-back -/

/-- The radio side changes, and of the canceller's records and pairs nothing. -/
def HaloKept (s t : State) : Prop :=
  RadioSide s t ∧ t.radio.haloLow = s.radio.haloLow ∧ t.radio.haloHigh = s.radio.haloHigh ∧ t.radio.pairs = s.radio.pairs

section
variable {n a : Nat} {s t w : State}

theorem HaloKept.trans (h : HaloKept s t) (k : HaloKept t w) : HaloKept s w := by
  obtain ⟨h1, h2, h3, h4⟩ := h
  obtain ⟨k1, k2, k3, k4⟩ := k
  exact ⟨h1.trans k1, k2.trans h2, k3.trans h3, k4.trans h4⟩

theorem LinkOnly.haloKept (h : LinkOnly s t) : HaloKept s t := by
  refine ⟨?_, ?_, ?_, ?_⟩
  · rw [RadioSide, h]
  · rw [h.radio]
  · rw [h.radio]
  · rw [h.radio]

theorem haloKept_settleHaloWait (n : Nat) (s : State) : HaloKept s (settleHaloWait n s) := by
  unfold settleHaloWait
  split
  · exact ⟨rfl, rfl, rfl, rfl⟩
  · exact ⟨rfl, rfl, rfl, rfl⟩

section
variable (h : HaloKept s t)
include h

theorem HaloKept.halo (v a : Nat) : halo v a t = halo v a s := by
  obtain ⟨-, h1, h2, -⟩ := h
  rw [Machine.halo, h1, h2, Machine.halo]

theorem HaloKept.pairOf (v a : Nat) : pairOf v a t = pairOf v a s := by
  obtain ⟨-, -, -, h3⟩ := h
  rw [Machine.pairOf, h3, Machine.pairOf]

end

theorem radioSide_onHalo (v a : Nat) (f : Halo → Halo) (s : State) : RadioSide s (onHalo v a f s) := by
  unfold onHalo
  split <;> rfl

theorem runTime_onHalo (v a : Nat) (f : Halo → Halo) (s : State) : runTime (onHalo v a f s) = runTime s := by
  unfold onHalo
  split <;> rfl

theorem pairOf_onHalo (v a : Nat) (f : Halo → Halo) (b c : Nat) (s : State) : pairOf b c (onHalo v a f s) = pairOf b c s := by
  unfold onHalo
  split <;> rfl

theorem pairOf_onPair (hn : n < 3) (ha : a < 3) (hne : a ≠ n) (f : Pair → Pair) (s : State) : pairOf n a (onPair n a f s) = f (pairOf n a s) := by
  rcases (show n + a - 1 = 0 ∨ n + a - 1 = 1 ∨ n + a - 1 = 2 by omega) with h | h | h <;> simp [pairOf, onPair, h, Tri.set, Tri.get]

/-- A direction of Halo trained now. -/
def trainedNow (now : Nat) (h : Halo) : Halo :=
  { h with valid := true, last := some now, training := false, failed := false, settled := true, stale := false }

theorem haloTrained_now {x : Halo} (h : halo n a s = trainedNow (runTime s) x) : haloTrained n a s = true := by
  have hlast : (halo n a s).last = some (runTime s) := by rw [h]; rfl
  have hvalid : (halo n a s).valid = true := by rw [h]; rfl
  have hstale : (halo n a s).stale = false := by rw [h]; rfl
  have hlt : runTime s < runTime s + 300000000 := by omega
  unfold haloTrained
  dsimp only
  rw [hlast, hvalid, hstale, Option.any_some, decide_eq_true hlt]
  rfl

variable (hn : n < 3) (ha : a < 3) (hne : a ≠ n)
include hn ha hne

/-- A success settles its direction, and ends a fall-back whose other direction is trained too. -/
theorem haloSuccess_spec (s : State) : let t := haloSuccess n a s
    RadioSide s t ∧ halo n a t = trainedNow (runTime s) (halo n a s) ∧
    (pairOf n a t).fallback = ((pairOf n a s).fallback && !haloTrained a n s) := by
  have hset := halo_onHalo (a := a) hn (trainedNow (runTime s)) s
  have hother := halo_onHalo_ne (a := a) hn ha hne n (trainedNow (runTime s)) s
  have htime := runTime_onHalo n a (trainedNow (runTime s)) s
  have hpair := pairOf_onHalo n a (trainedNow (runTime s)) n a s
  have hside := radioSide_onHalo n a (trainedNow (runTime s)) s
  have hfold : haloSuccess n a s = settleHaloWait a (settleHaloWait n (
      if (pairOf n a (onHalo n a (trainedNow (runTime s)) s)).fallback && haloFresh n a (onHalo n a (trainedNow (runTime s)) s) then
        raise 0x0207 (pairPayload n a) (onPair n a (fun p => { p with fallback := false }) (onHalo n a (trainedNow (runTime s)) s))
      else onHalo n a (trainedNow (runTime s)) s)) := rfl
  rw [hfold]
  generalize onHalo n a (trainedNow (runTime s)) s = t at hset hother htime hpair hside
  have hfresh : haloFresh n a t = haloTrained a n s := by
    have hmine : haloTrained n a t = true := haloTrained_now (hset.trans (by rw [htime]))
    have hyours : haloTrained a n t = haloTrained a n s := by simp only [haloTrained, hother, htime]
    rw [haloFresh, hmine, hyours, Bool.true_and]
  rw [hfresh, hpair]
  have hend : ∀ u, HaloKept u (settleHaloWait a (settleHaloWait n u)) := fun u => (haloKept_settleHaloWait n u).trans (haloKept_settleHaloWait a _)
  split
  case isTrue hf =>
    have hk := (raise_link 0x0207 (pairPayload n a) (onPair n a (fun p => { p with fallback := false }) t)).haloKept.trans (hend _)
    have hpaired : RadioSide t (onPair n a (fun p => { p with fallback := false }) t) := rfl
    refine ⟨(hside.trans hpaired).trans hk.1, (hk.halo n a).trans hset, ?_⟩
    rw [hk.pairOf, pairOf_onPair hn ha hne]
    rw [Bool.and_eq_true] at hf
    rw [hf.1, hf.2]
    rfl
  case isFalse hf =>
    refine ⟨hside.trans (hend t).1, ((hend t).halo n a).trans hset, ?_⟩
    rw [(hend t).pairOf, hpair]
    cases hfb : (pairOf n a s).fallback
    · rfl
    · rw [hfb, Bool.true_and, Bool.not_eq_true] at hf
      rw [hf]
      rfl

/-- The coefficients found, all 768. -/
def withCoeff (coeff : List (Int × Int)) (h : Halo) : Halo := { h with coeff := coeff.take 768 ++ List.replicate (768 - coeff.length) (0, 0) }

/-- What a training's success does, its transient failure recorded. -/
theorem trainingSucceeds (coeff : List (Int × Int)) (s : State) :
    let t := haloSuccess n a (onHalo n a (withCoeff coeff) (if (halo n a s).failed then transientFault 0x0206 (pairPayload n a) s else s))
    RadioSide s t ∧ halo n a t = trainedNow (runTime s) (withCoeff coeff (halo n a s)) ∧
    (pairOf n a t).fallback = ((pairOf n a s).fallback && !haloTrained a n s) := by
  have hk : HaloKept s (if (halo n a s).failed then transientFault 0x0206 (pairPayload n a) s else s) ∧
      runTime (if (halo n a s).failed then transientFault 0x0206 (pairPayload n a) s else s) = runTime s := by
    split
    · have hl := transientFault_link 0x0206 (pairPayload n a) s
      exact ⟨hl.haloKept, by rw [runTime, deviceTime, hl.clock]; rfl⟩
    · exact ⟨⟨rfl, rfl, rfl, rfl⟩, rfl⟩
  generalize (if (halo n a s).failed then transientFault 0x0206 (pairPayload n a) s else s) = u at hk
  obtain ⟨hk, htime⟩ := hk
  obtain ⟨h1, h2, h3⟩ := haloSuccess_spec hn ha hne (onHalo n a (withCoeff coeff) u)
  have hother : haloTrained a n (onHalo n a (withCoeff coeff) u) = haloTrained a n s := by
    unfold haloTrained
    dsimp only
    rw [halo_onHalo_ne hn ha hne, runTime_onHalo, hk.halo, htime]
  refine ⟨hk.1.trans ((radioSide_onHalo n a (withCoeff coeff) u).trans h1), ?_, ?_⟩
  · rw [h2, runTime_onHalo, halo_onHalo hn, hk.halo, htime]
  · rw [h3, pairOf_onHalo, hk.pairOf, hother]

omit ha hne in
/-- A second failure settles its direction. -/
theorem trainingFails (s : State) :
    let t := settleHaloWait a (settleHaloWait n (lastingRecord 0x0206 (pairPayload n a) false
      (onHalo n a (fun h => { h with training := false, failed := false, settled := true }) s)))
    RadioSide s t ∧ halo n a t = { halo n a s with training := false, failed := false, settled := true } ∧ pairOf n a t = pairOf n a s := by
  have hk := (lastingRecord_link 0x0206 (pairPayload n a) false (onHalo n a (fun h => { h with training := false, failed := false, settled := true }) s)).haloKept.trans
    ((haloKept_settleHaloWait n _).trans (haloKept_settleHaloWait a _))
  refine ⟨(radioSide_onHalo n a _ s).trans hk.1, ?_, ?_⟩
  · rw [hk.halo, halo_onHalo hn]
  · rw [hk.pairOf, pairOf_onHalo]

omit hn ha hne in
theorem staleSides_mem {e : Nat × Nat} (h : e ∈ staleSides n a s) : e = (n, a) ∨ e = (a, n) := by
  unfold staleSides at h
  dsimp only at h
  split at h
  · simpa using h
  · have := (List.mem_filter.mp h).1
    simpa using this

/-- A change of the directions of a pair that keeps them stale or settled. -/
def PairSides (n a : Nat) (s t : State) : Prop :=
  RadioSide s t ∧ pairOf n a t = pairOf n a s ∧ ∀ e, e = (n, a) ∨ e = (a, n) → (halo e.1 e.2 s).stale = true → (halo e.1 e.2 t).stale = true

omit hn ha hne in
theorem PairSides.trans (h : PairSides n a s t) (k : PairSides n a t w) : PairSides n a s w := by
  obtain ⟨h1, h2, h3⟩ := h
  obtain ⟨k1, k2, k3⟩ := k
  exact ⟨h1.trans k1, k2.trans h2, fun e he hs => k3 e he (h3 e he hs)⟩

/-- A change of one direction that makes it stale no less. -/
theorem pairSides_onHalo {f : Halo → Halo} (hf : ∀ h, h.stale = true → (f h).stale = true) {e : Nat × Nat} (he : e = (n, a) ∨ e = (a, n)) (s : State) :
    PairSides n a s (onHalo e.1 e.2 f s) := by
  refine ⟨radioSide_onHalo _ _ f s, pairOf_onHalo _ _ f n a s, fun k hk hs => ?_⟩
  rcases he with rfl | rfl <;> rcases hk with rfl | rfl
  · rw [halo_onHalo hn]; exact hf _ hs
  · rw [halo_onHalo_ne hn ha hne]; exact hs
  · rw [halo_onHalo_ne ha hn hne.symm]; exact hs
  · rw [halo_onHalo ha]; exact hf _ hs

theorem pairSides_stale {l : List (Nat × Nat)} (hl : ∀ e ∈ l, e = (n, a) ∨ e = (a, n)) (s : State) :
    let t := l.foldl (fun t e => onHalo e.1 e.2 (fun h => { h with stale := true }) t) s
    PairSides n a s t ∧ ∀ e ∈ l, (halo e.1 e.2 t).stale = true := by
  induction l generalizing s with
  | nil => exact ⟨⟨rfl, rfl, fun _ _ h => h⟩, fun _ h => absurd h List.not_mem_nil⟩
  | cons e l ih =>
    have he := hl e List.mem_cons_self
    obtain ⟨hk, hs⟩ := ih (fun k hk => hl k (List.mem_cons_of_mem e hk)) (onHalo e.1 e.2 (fun h => { h with stale := true }) s)
    refine ⟨(pairSides_onHalo hn ha hne (fun _ _ => rfl) he s).trans hk, fun k hm => ?_⟩
    rcases List.mem_cons.mp hm with rfl | hm
    · refine hk.2.2 k he ?_
      rw [halo_onHalo (by rcases he with rfl | rfl <;> assumption)]
    · exact hs k hm

/-- The fall-back of a pair settles both its directions and marks the stale ones. -/
theorem haloFallback_spec (s : State) :
    let t := (staleSides n a s).foldl (fun t e => onHalo e.1 e.2 (fun h => { h with stale := true }) t) s
    let y := settleHaloWait n (settleHaloWait a (onPair n a (fun p => { p with fallback := true })
      (onHalo n a (fun h => { h with settled := true }) (onHalo a n (fun h => { h with settled := true }) t))))
    pairOf n a y = { pairOf n a s with fallback := true } ∧ (halo n a y).settled = true ∧ (halo a n y).settled = true ∧
      (∀ e ∈ staleSides n a s, (halo e.1 e.2 y).stale = true) ∧ RadioSide s y := by
  intro t y
  obtain ⟨hk, hs⟩ := pairSides_stale hn ha hne (fun e he => staleSides_mem he) s
  have hsettle : PairSides n a t (onHalo n a (fun h => { h with settled := true }) (onHalo a n (fun h => { h with settled := true }) t)) :=
    (pairSides_onHalo (f := fun h => { h with settled := true }) (e := (a, n)) hn ha hne (fun _ h => h) (.inr rfl) t).trans
      (pairSides_onHalo (f := fun h => { h with settled := true }) (e := (n, a)) hn ha hne (fun _ h => h) (.inl rfl) _)
  have hall := hk.trans hsettle
  have hend : HaloKept (onPair n a (fun p => { p with fallback := true })
      (onHalo n a (fun h => { h with settled := true }) (onHalo a n (fun h => { h with settled := true }) t))) y :=
    (haloKept_settleHaloWait a _).trans (haloKept_settleHaloWait n _)
  have hmine := halo_onHalo (a := a) hn (fun h => { h with settled := true }) (onHalo a n (fun h => { h with settled := true }) t)
  have hyours := (halo_onHalo_ne (a := a) hn ha hne n (fun h => { h with settled := true }) (onHalo a n (fun h => { h with settled := true }) t)).trans
    (halo_onHalo ha (fun h => { h with settled := true }) t)
  generalize onHalo n a (fun h => { h with settled := true }) (onHalo a n (fun h => { h with settled := true }) t) = u at hall hsettle hend hmine hyours
  have hpaired : ∀ v b, halo v b (onPair n a (fun p => { p with fallback := true }) u) = halo v b u := fun _ _ => rfl
  refine ⟨?_, ?_, ?_, fun e he => ?_, ?_⟩
  · rw [hend.pairOf, pairOf_onPair hn ha hne, hall.2.1]
  · rw [hend.halo, hpaired, hmine]
  · rw [hend.halo, hpaired, hyours]
  · rw [hend.halo, hpaired]
    exact hsettle.2.2 e (staleSides_mem he) (hs e he)
  · exact hall.1.trans (show RadioSide u (onPair n a _ u) from rfl) |>.trans hend.1

end

/-- Settles O32, from the steps of a calibration, the ticks and results of Halo training, and the ends of captures and tests. -/
theorem calibrationAndCaptureRows : Obligations.CalibrationAndCaptureRows := by
  intro n s hn
  refine ⟨?_, ?_, ?_, ?_, ?_, ?_, ?_, ?_⟩
  · intro kind temp hk hst hq
    exact congrArg Host.Outcome.next (calibrationDue_ready (s := start s) hn hk hst hq)
  · intro c r hst hq hr hj
    have he := calStepStart_stopped (s := start s) hst hq hr hj
    refine ⟨fun hf => congrArg Host.Outcome.next (he.trans (if_neg ?_)), fun hf => congrArg Host.Outcome.next (he.trans (if_pos hf))⟩
    exact ne_true_of_eq_false hf
  · intro c temp hr hst
    refine ⟨fun hc hl => ?_, fun hc hl hj => ?_, fun hc hj => ?_⟩
    · exact congrArg Host.Outcome.next (calStepDone_next (s := start s) hn hr hst hc hl)
    · exact congrArg Host.Outcome.next (calStepDone_last (s := start s) hn hr hst hc hj hl)
    · exact congrArg Host.Outcome.next (calStepDone_retry (s := start s) hn hr hst hc hj)
  · obtain ⟨hst, hair, hside⟩ := haloTrainingTick_only (start s)
    exact ⟨_, rfl, haloTrainingTick_airtime hn _, hst n, hair, hside⟩
  · intro a ha hne
    have hgo : (!(halo n a (start s)).training || decide (2 < n) || decide (2 < a) || n == a) = !(halo n a s).training := by
      have h1 : decide (2 < n) = false := decide_eq_false (by omega)
      have h2 : decide (2 < a) = false := decide_eq_false (by omega)
      have h3 : (n == a) = false := beq_eq_false_iff_ne.mpr hne.symm
      rw [h1, h2, h3, Bool.or_false, Bool.or_false, Bool.or_false]
      rfl
    have hnot (ht : (halo n a s).training = true) : ¬ (!(halo n a (start s)).training || decide (2 < n) || decide (2 < a) || n == a) = true := by
      rw [hgo, ht]
      decide
    refine ⟨fun ht coeff => ?_, fun ht hf coeff => ?_, fun ht hf coeff => ?_, fun hneeds hfb => ?_⟩
    · obtain ⟨h1, h2, h3⟩ := trainingSucceeds hn ha hne coeff (start s)
      exact ⟨_, congrArg Host.Outcome.next ((if_neg (hnot ht)).trans (if_pos rfl)), h2, h3, h1⟩
    · exact congrArg Host.Outcome.next ((if_neg (hnot ht)).trans ((if_neg Bool.false_ne_true).trans (if_neg (ne_true_of_eq_false hf))))
    · obtain ⟨h1, h2, h3⟩ := trainingFails (n := n) (a := a) hn (start s)
      exact ⟨_, congrArg Host.Outcome.next ((if_neg (hnot ht)).trans ((if_neg Bool.false_ne_true).trans (if_pos hf))), h2, h3, h1⟩
    · obtain ⟨h1, h2, h3, h4, h5⟩ := haloFallback_spec hn ha hne (start s)
      have hgo : ¬ (decide (2 < n) || decide (2 < a) || n == a || !needsHalo n a (start s) || (pairOf n a (start s)).fallback) = true := by
        rw [show needsHalo n a (start s) = true from hneeds, show (pairOf n a (start s)).fallback = false from hfb]
        simp only [Bool.not_true, Bool.or_false, Bool.or_eq_true, decide_eq_true_eq, beq_iff_eq]
        omega
      exact ⟨_, congrArg Host.Outcome.next (if_neg hgo), h1, h2, h3, h4, h5⟩
  · intro h
    refine congrArg Host.Outcome.next (if_pos h)
  · intro a stamp samples refs wr hc ho hd
    refine congrArg Host.Outcome.next ?_
    unfold captureEnds
    rw [show (slice n (start s)).capture = some (some stamp) from hc, show captureOf n (start s) = some a from ho]
    exact if_pos hd
  · intro a bist loop ha ht
    refine congrArg Host.Outcome.next ?_
    dsimp only
    rw [show ((start s).mbox.async.find? fun a => a.code == 0x0208 && rd a.payload 0 1 == n) = some a from ha]
    dsimp only
    rw [ht]
    rfl

end Sys2Proof.Machine
end

section
/-! PROOF. Radar, time limits of transmission, and the medium (chapters 02 and 05). -/
namespace Sys2Proof.Machine
set_option Elab.async false

/-! ### What a slice's receiver changes -/

/-- A slice with other receiver fields. -/
def ReceiverChanged (x y : Slice) : Prop :=
  y = { x with rx := y.rx, reception := y.reception, preset := y.preset, acqNow := y.acqNow, lnaBypass := y.lnaBypass, femCtl := y.femCtl }

section
variable {α : Type} {g : Slice → α} {s : State}
variable (hg : ∀ x y, ReceiverChanged x y → g y = g x)
include hg

theorem driveFem_field (m n : Nat) (s : State) : g (slice n (driveFem m s)) = g (slice n s) := by
  rw [driveFem_eq]
  refine sliceField_onSlice g (fun x => ?_) m n s
  exact hg x _ rfl

theorem toSearch_field (m n : Nat) (s : State) : g (slice n (toSearch m s)) = g (slice n s) := by
  rw [toSearch_of, driveFem_field hg]
  refine sliceField_onSlice g (fun x => ?_) m n s
  exact hg x _ rfl

theorem unblank_field (m n : Nat) (s : State) : g (slice n (unblank m s)) = g (slice n s) := by
  unfold unblank
  generalize (m :: others m) = l
  induction l generalizing s with
  | nil => rfl
  | cons k l ih =>
    refine (ih _).trans ?_
    dsimp only
    split
    · exact toSearch_field hg k n s
    · rfl

end

/-! ### Frames that fail or wait again -/

/-- The radio and the MACs of the slices are as they were. -/
def MacsKept (a s : State) : Prop := s.radio = a.radio ∧ s.air.macs = a.air.macs

section
variable {a s t : State}

theorem MacsKept.refl (s : State) : MacsKept s s := ⟨rfl, rfl⟩

theorem MacsKept.with (h : MacsKept a s) (hr : t.radio = s.radio := by exact rfl) (hm : t.air.macs = s.air.macs := by exact rfl) : MacsKept a t := by
  obtain ⟨h1, h2⟩ := h
  exact ⟨hr.trans h1, hm.trans h2⟩

theorem MacsKept.foldl {α : Type} {g : State → α → State} (hg : ∀ t x, MacsKept a t → MacsKept a (g t x)) (l : List α) (h : MacsKept a s) :
    MacsKept a (l.foldl g s) := by
  induction l generalizing s with
  | nil => exact h
  | cons x l ih => exact ih (hg s x h)

theorem macsKept_freeCells {sram : Bool} {cells : Nat} (h : MacsKept a s) : MacsKept a (freeCells sram cells s) := by
  unfold freeCells
  split
  · exact h.with
  · exact h.with

theorem macsKept_injectFate {e : Option (Nat × Nat)} {status stamp : Nat} (h : MacsKept a s) : MacsKept a (injectFate e status stamp s) := by
  unfold injectFate
  split
  · exact h
  · exact h.with

theorem macsKept_onStation {k : Nat} {f : Station → Station} (h : MacsKept a s) : MacsKept a (onStation k f s) := h.with

theorem macsKept_leaveCells {q cells : Nat} (h : MacsKept a s) : MacsKept a (leaveCells q cells s) := h.with

theorem macsKept_settleShapers (h : MacsKept a s) : MacsKept a (settleShapers s) := h.with

theorem macsKept_endMpdu {k status stamp : Nat} {m : Mpdu} (h : MacsKept a s) : MacsKept a (endMpdu k m status stamp s) :=
  macsKept_injectFate (macsKept_freeCells (macsKept_leaveCells (macsKept_onStation h)))

theorem macsKept_dropMpdu {k status : Nat} {m : Mpdu} (h : MacsKept a s) : MacsKept a (dropMpdu k status s m) := macsKept_onStation (macsKept_endMpdu h)

theorem macsKept_dropMpdus {k status : Nat} {pick : Mpdu → Bool} (h : MacsKept a s) : MacsKept a (dropMpdus k pick status s).2 := by
  unfold dropMpdus
  split
  · exact h
  · exact macsKept_settleShapers (.foldl (fun _ _ h => macsKept_dropMpdu h) _ h)

theorem macsKept_lockedStation {k : Nat} (h : MacsKept a s) : MacsKept a (lockedStation k s) := by
  unfold lockedStation
  split
  · exact h
  · dsimp only
    split
    · exact macsKept_dropMpdus h
    · exact h

theorem macsKept_loseAttempt {e : Nat × Nat} (h : MacsKept a s) : MacsKept a (loseAttempt s e) := by
  unfold loseAttempt attemptFailed
  split
  · split
    · exact macsKept_dropMpdu h
    · exact macsKept_onStation h
  · exact h

theorem macsKept_unfix {e : Nat × Nat} (h : MacsKept a s) : MacsKept a (unfix s e) := macsKept_onStation h

/-- A PPDU given up leaves the radio, and of its slice's MAC all but the PPDU and its frames' flights. -/
theorem releaseFixed_kept {n : Nat} (hn : n < 3) (s : State) : (releaseFixed n s).radio = s.radio ∧
    (mac n (releaseFixed n s)).txop = (mac n s).txop ∧ ((mac n s).mgmt = [] → (mac n (releaseFixed n s)).mgmt = []) := by
  unfold releaseFixed
  split
  · exact ⟨rfl, rfl, id⟩
  case h_2 f hf =>
    extract_lets u
    have hk : MacsKept u (if f.kind = 13 then u else settleShapers (f.mpdus.foldl (if f.sent then loseAttempt else unfix) u)) := by
      split
      · exact .refl u
      · refine macsKept_settleShapers (.foldl (fun t x h => ?_) _ (.refl u))
        split
        · exact macsKept_loseAttempt h
        · exact macsKept_unfix h
    obtain ⟨hr, hm⟩ := hk
    have hmac := mac_onMac (fun m => { m with fixed := none, mgmt := m.mgmt.map fun g => { g with flight := false } }) s hn
    refine ⟨hr.trans rfl, ?_, fun hg => ?_⟩
    · rw [mac, hm]
      exact (congrArg SliceMac.txop hmac :)
    · rw [mac, hm]
      refine (congrArg SliceMac.mgmt hmac).trans ?_
      rw [hg]
      rfl

end

/-! ### Radar -/

section
variable {n : Nat} {s t : State} {c : Channel} {tune : List (Nat × Nat × Retry)}

theorem LinkOnly.radioSide (h : LinkOnly s t) : RadioSide s t := by rw [RadioSide, h]

/-- A slice that moves for radar, to a backup. -/
def strickenSlice (b : Option Channel) (x : Slice) : Slice := { x with nRadar := inc 32 x.nRadar, radarMove := true, backup := b }

/-- A plan without a slice's TXOPs. -/
def planWithoutSlice (n : Nat) (p : Plan) : Plan := { p with txops := p.txops.filter fun t => t.slice != n }

/-- Radar on a READY slice counts, and blocks it until its move. -/
theorem radarDetected_ready (hn : n < 3) (hc : (slice n s).channel = some c) (hd : isDfs c s = true) (hst : (slice n s).state = .ready)
    (hm : (slice n s).radarMove = false) : let t := radarDetected n tune s
    (∃ b, slice n t = strickenSlice b (slice n s)) ∧ t.mls.plan = planWithoutSlice n s.mls.plan ∧ RadioSide s t := by
  unfold radarDetected
  dsimp only
  rw [hc]
  dsimp only
  rw [if_neg (by simp [hd, hm, hst]), if_neg (by rw [hst]; decide)]
  generalize ((usableBackup n (onSlice n (fun x => { x with nRadar := inc 32 x.nRadar }) s)).filter fun d => !overlap c d) = b
  have hl := raise_link 0x0202 (leBytes 1 n ++ leBytes 2 c.centre ++ leBytes 1 (b2n b.isSome)) (onSlice n (fun x => { x with nRadar := inc 32 x.nRadar }) s)
  have hslice := congrArg (fun r : Radio => r.slices.get n) hl.radio
  have hmls := hl.mls
  have hside : RadioSide s _ := ((RadioSide.refl s).onSlice n _).trans hl.radioSide
  generalize raise 0x0202 (leBytes 1 n ++ leBytes 2 c.centre ++ leBytes 1 (b2n b.isSome)) (onSlice n (fun x => { x with nRadar := inc 32 x.nRadar }) s) = u
    at hslice hmls hside
  have hu : slice n u = { slice n s with nRadar := inc 32 (slice n s).nRadar } := hslice.trans (slice_onSlice _ s hn)
  refine ⟨⟨b, ?_⟩, ?_, ?_⟩
  · refine (slice_onSlice (fun x => { x with radarMove := true, backup := b }) u hn).trans ?_
    rw [hu]
    rfl
  · exact congrArg (planWithoutSlice n ·.plan) hmls
  · exact hside.trans rfl

theorem radarDetected_other (hc : (slice n s).channel = some c) (hd : isDfs c s = false) : radarDetected n tune s = s := by
  simp [radarDetected, hc, hd]

/-- A move while a TXOP runs marks the struck channel, and waits for the TXOP's end. -/
theorem radarMoves_waits (hn : n < 3) (hm : (slice n s).radarMove = true) (hc : (slice n s).channel = some c) (ht : (mac n s).txop ≠ none) :
    let t := radarMoves n tune s
    t.radio.nonOccupancy = s.radio.nonOccupancy ++ [c] ∧ (slice n t).radarMove = false ∧ (slice n t).tuning ≠ none ∧ (mac n t).txop = (mac n s).txop ∧
    RadioSide s t := by
  have hbusy : ∀ u, (mac n u).txop = (mac n s).txop → mayHop n u = false := fun u hu => by
    rw [mayHop, hu, Option.isNone_eq_false_iff.mpr (Option.isSome_iff_ne_none.mpr ht), Bool.and_false, Bool.false_and, Bool.false_and]
  have hslice : slice n (onMac n (fun m => { m with mgmt := m.mgmt.filter fun f => !isCsa f })
      (onSlice n (fun x => { x with radarMove := false }) (markStruck c s))) = { slice n s with radarMove := false } :=
    slice_onSlice (fun x => { x with radarMove := false }) (markStruck c s) hn
  have hmac : (mac n (onMac n (fun m => { m with mgmt := m.mgmt.filter fun f => !isCsa f })
      (onSlice n (fun x => { x with radarMove := false }) (markStruck c s)))).txop = (mac n s).txop := by
    rw [mac_onMac _ _ hn]
    rfl
  unfold radarMoves
  dsimp only
  rw [hm, hc, if_neg (by decide)]
  dsimp only
  generalize hu : onMac n (fun m => { m with mgmt := m.mgmt.filter fun f => !isCsa f })
    (onSlice n (fun x => { x with radarMove := false }) (markStruck c s)) = u at hslice hmac
  have hside : RadioSide s u := by rw [← hu]; rfl
  have hocc : u.radio.nonOccupancy = s.radio.nonOccupancy ++ [c] := by rw [← hu]; rfl
  split
  case isTrue ht' =>
    rw [hbusy u hmac, if_neg Bool.false_ne_true]
    refine ⟨hocc, by rw [hslice], ?_, hmac, hside⟩
    rw [hslice]
    exact Option.isSome_iff_ne_none.mp ht'
  case isFalse =>
    have hmove : slice n (moveTo n (usableBackup n u) u) = { slice n u with
        tuning := some ⟨usableBackup n u, none, false, false, false, false, false, 0⟩ } := slice_onSlice _ u hn
    rw [hbusy (moveTo n (usableBackup n u) u) hmac, if_neg Bool.false_ne_true]
    refine ⟨hocc, ?_, ?_, hmac, hside.trans rfl⟩
    · rw [hmove, hslice]
    · rw [hmove]
      exact Option.some_ne_none _

end

/-! ### Transmission time limits -/

section
variable {n : Nat} {s t : State}

/-- What a time limit sets of a slice. -/
def limitPart (x : Slice) : Option TxPpdu × Bool × Nat := (x.tx, x.txLock, x.nTimeout)

/-- A change that keeps the air MAC, the coexistence request and what a time limit sets. -/
def LimitKept (n : Nat) (s t : State) : Prop :=
  RadioSide s t ∧ t.air = s.air ∧ t.radio.coexReq = s.radio.coexReq ∧ limitPart (slice n t) = limitPart (slice n s)

theorem LimitKept.refl (n : Nat) (s : State) : LimitKept n s s := ⟨rfl, rfl, rfl, rfl⟩

theorem LimitKept.trans {w : State} (h : LimitKept n s t) (k : LimitKept n t w) : LimitKept n s w := by
  obtain ⟨h1, h2, h3, h4⟩ := h
  obtain ⟨k1, k2, k3, k4⟩ := k
  exact ⟨h1.trans k1, k2.trans h2, k3.trans h3, k4.trans h4⟩

theorem LinkOnly.limitKept (h : LinkOnly s t) : LimitKept n s t := by
  refine ⟨h.radioSide, h.air, by rw [h.radio], ?_⟩
  rw [slice, h.radio, slice]

theorem limitKept_onSlice {f : Slice → Slice} (hf : ∀ x, limitPart (f x) = limitPart x) (s : State) : LimitKept n s (onSlice n f s) :=
  ⟨rfl, rfl, rfl, sliceField_onSlice limitPart hf n n s⟩

theorem limitKept_endCal (status discarded : Nat) (s : State) : LimitKept n s (endCal n status discarded s) := by
  unfold endCal
  split
  · exact .refl n s
  · extract_lets u
    have hu : LimitKept n s u := limitKept_onSlice (f := fun x => { x with calJob := none }) (fun _ => rfl) s
    split
    · exact hu.trans (((setAsync_link _ _ u).trans (endAsync_link _ _ _ _)).limitKept)
    · exact hu

theorem limitKept_withdrawCal (status : Nat) (s : State) : LimitKept n s (withdrawCal n status s) := by
  unfold withdrawCal
  split
  · exact .refl n s
  case h_2 j hj =>
    have hq : LimitKept n s (onSlice n (fun x => { x with calQueue := dropKinds j.kinds x.calQueue }) s) :=
      limitKept_onSlice (f := fun x => { x with calQueue := dropKinds j.kinds x.calQueue }) (fun _ => rfl) s
    exact hq.trans (limitKept_endCal status 0 _)

/-- A slice's PPDU is aborted and the slice locked. -/
def timedOut (x : Slice) : Slice := { x with tx := none, txLock := true, nTimeout := inc 32 x.nTimeout }

/-- With no management frame waiting, a lock drops the MPDUs of stations alone. -/
theorem lockedFrames_mpdus (hg : (mac n s).mgmt = []) : MacsKept s (lockedFrames n s) ∧
    ((∀ e ∈ s.air.stations, e.2.links.get n = 255) → lockedFrames n s = s) := by
  unfold lockedFrames
  rw [hg]
  dsimp only [List.filter_nil, List.foldl_nil]
  refine ⟨.foldl (fun t e h => ?_) _ (.refl s), fun hl => ?_⟩
  · split
    · exact h
    · exact macsKept_lockedStation h
  · generalize s.air.stations = l at hl
    induction l with
    | nil => rfl
    | cons e l ih =>
      rw [List.foldl_cons, if_pos (hl e List.mem_cons_self)]
      exact ih fun k hk => hl k (List.mem_cons_of_mem e hk)

/-- What follows the abort of a PPDU on its slice, before the frames that the lock ends. -/
def afterAbort (n on : Nat) (s : State) : State :=
  let s := unblank n (driveFem n (onSlice n timedOut s))
  let s := onRadio (fun r => { r with coexReq := false, coexPri := false }) s
  let s := markUse (onMls (fun m => { m with plan := planWithoutSlice n m.plan, next := m.next.map (planWithoutSlice n) }) s)
  let s := raise 0x0201 (leBytes 1 n ++ leBytes 1 on ++ leBytes 2 (slice n s).txTmo) s
  if ctsDue n s then withdrawCal n ST.txLocked s else s

theorem afterAbort_spec (hn : n < 3) (on : Nat) (s : State) : let t := afterAbort n on s
    RadioSide s t ∧ t.air = s.air ∧ t.radio.coexReq = false ∧ limitPart (slice n t) = (none, true, inc 32 (slice n s).nTimeout) := by
  have hfem := receiversOnly_driveFem (n := n) n (onSlice n timedOut s)
  have hblank := hfem.trans (receiversOnly_unblank n _)
  have hpart : limitPart (slice n (unblank n (driveFem n (onSlice n timedOut s)))) = (none, true, inc 32 (slice n s).nTimeout) := by
    have hg : ∀ x y, ReceiverChanged x y → limitPart y = limitPart x := fun x y h => by rw [h]; rfl
    rw [unblank_field hg, driveFem_field hg, slice_onSlice _ _ hn]
    rfl
  obtain ⟨hside, -, -⟩ := hblank
  unfold afterAbort
  dsimp only
  generalize unblank n (driveFem n (onSlice n timedOut s)) = u at hside hpart
  have hsideU : RadioSide s u := by rw [RadioSide, hside]; rfl
  have hairU : u.air = s.air := by rw [hside]; rfl
  have hl := raise_link 0x0201 (leBytes 1 n ++ leBytes 1 on ++ leBytes 2 (slice n (markUse (onMls (fun m => { m with
    plan := planWithoutSlice n m.plan, next := m.next.map (planWithoutSlice n) }) (onRadio (fun r => { r with coexReq := false, coexPri := false }) u)))).txTmo)
    (markUse (onMls (fun m => { m with plan := planWithoutSlice n m.plan, next := m.next.map (planWithoutSlice n) })
      (onRadio (fun r => { r with coexReq := false, coexPri := false }) u)))
  generalize raise 0x0201 _ _ = v at hl ⊢
  obtain ⟨h1, h2, h3, h4⟩ : LimitKept n (markUse (onMls (fun m => { m with plan := planWithoutSlice n m.plan, next := m.next.map (planWithoutSlice n) })
      (onRadio (fun r => { r with coexReq := false, coexPri := false }) u))) (if ctsDue n v then withdrawCal n ST.txLocked v else v) := by
    refine hl.limitKept.trans ?_
    split
    · exact limitKept_withdrawCal _ v
    · exact .refl n v
  have hmid : RadioSide u (markUse (onMls (fun m => { m with plan := planWithoutSlice n m.plan, next := m.next.map (planWithoutSlice n) })
      (onRadio (fun r => { r with coexReq := false, coexPri := false }) u))) := rfl
  exact ⟨(hsideU.trans hmid).trans h1, h2.trans hairU, h3, h4.trans hpart⟩

/-- TX_TMO aborts the PPDU, and locks its slice. -/
theorem txTimeout_spec (hn : n < 3) (hx : (slice n s).tx ≠ none) (hg : (mac n s).mgmt = []) : let t := txTimeout n s
    limitPart (slice n t) = (none, true, inc 32 (slice n s).nTimeout) ∧ (mac n t).txop = none ∧
    t.radio.coexReq = false ∧ ((mac n s).fixed = none → (∀ e ∈ s.air.stations, e.2.links.get n = 255) → RadioSide s t) := by
  obtain ⟨p, hp⟩ := Option.ne_none_iff_exists'.mp hx
  have htimes : limitPart (slice n (paTimedOut n s)) = limitPart (slice n s) := by
    refine sliceField_onSlice limitPart (fun x => ?_) n n s
    rcases h : x.tx with _ | q
    · rfl
    · rw [limitPart, limitPart, h]
  have hgo : ∃ on, txTimeout n s = lockedFrames n (afterAbort n on (releaseFixed n (onMac n (fun m => { m with txop := none }) (paTimedOut n s)))) := by
    unfold txTimeout
    rw [hp]
    exact ⟨_, rfl⟩
  have hm0 : mac n (onMac n (fun m => { m with txop := none }) (paTimedOut n s)) = { mac n s with txop := none } := mac_onMac _ _ hn
  have hside0 : RadioSide s (onMac n (fun m => { m with txop := none }) (paTimedOut n s)) := rfl
  have hst0 : (onMac n (fun m => { m with txop := none }) (paTimedOut n s)).air.stations = s.air.stations := rfl
  have hslice0 : slice n (onMac n (fun m => { m with txop := none }) (paTimedOut n s)) = slice n (paTimedOut n s) := rfl
  obtain ⟨on, hgo⟩ := hgo
  dsimp only
  rw [hgo]
  generalize onMac n (fun m => { m with txop := none }) (paTimedOut n s) = u at hm0 hside0 hst0 hslice0
  obtain ⟨hr1, htx1, hg1⟩ := releaseFixed_kept hn u
  have hsame : (mac n s).fixed = none → releaseFixed n u = u := fun h => by
    unfold releaseFixed
    rw [hm0, h]
  generalize releaseFixed n u = v at hr1 htx1 hg1 hsame
  obtain ⟨hside2, hair2, hco2, hl2⟩ := afterAbort_spec hn on v
  have hpart : limitPart (slice n v) = limitPart (slice n s) := by
    rw [slice, hr1]
    exact (congrArg limitPart hslice0).trans htimes
  have hv : (slice n v).nTimeout = (slice n s).nTimeout := congrArg (·.2.2) hpart
  generalize afterAbort n on v = w at hside2 hair2 hco2 hl2
  have hmac : mac n w = mac n v := by rw [mac, hair2, mac]
  obtain ⟨⟨hr3, hm3⟩, hid⟩ := lockedFrames_mpdus (s := w) (hmac ▸ hg1 (by rw [hm0]; exact hg))
  refine ⟨?_, ?_, by rw [hr3]; exact hco2, fun hfix hst => ?_⟩
  · rw [slice, hr3]
    exact hl2.trans (by rw [hv])
  · rw [mac, hm3]
    exact (congrArg SliceMac.txop hmac).trans (htx1.trans (by rw [hm0]))
  · have hvu := hsame hfix
    rw [hid fun e he => hst e (by rwa [hair2, hvu, hst0] at he)]
    exact (hside0.trans (hvu ▸ .refl u)).trans hside2

end

/-! ### The medium -/

section
variable {n : Nat} {s : State}

/-- A beacon that waits is what a slice has first to send on AC_VO. -/
theorem contents_beacon (hb : (mac n s).beaconWaits = true) : ∃ l, contents n 3 s = ownTxop 1 :: l := by
  unfold contents
  dsimp only
  rw [hb]
  exact ⟨_, rfl⟩

theorem onMac_onMac (hn : n < 3) (f g : SliceMac → SliceMac) (s : State) : onMac n f (onMac n g s) = onMac n (fun m => f (g m)) s := by
  rcases (show n = 0 ∨ n = 1 ∨ n = 2 by omega) with rfl | rfl | rfl <;> rfl

/-- With one category alone, and no bar to sending, the request is all that its backoff does. -/
theorem backoffEnd_voice (hb : (mac n s).beaconWaits = true) : backoffEnd n [3] s = requestTx n 3 s := by
  obtain ⟨l, hl⟩ := contents_beacon hb
  have hf : [3].filter (fun ac => (content n ac s).isSome) = [3] := by
    rw [List.filter_cons, content, hl]
    rfl
  unfold backoffEnd
  rw [hf]
  exact ite_self _

/-- While its slice is tuned, a beacon's request is deferred. -/
theorem requestTx_defers (hst : (slice n s).state = .tuning) (hb : (mac n s).beaconWaits = true) (hd : (3, 1) ∉ (slice n s).deferred) :
    requestTx n 3 s = onSlice n (fun x => { x with deferred := x.deferred ++ [(3, 1)] }) s := by
  obtain ⟨l, hl⟩ := contents_beacon hb
  have hfree : (slice n s).deferred.contains (3, 1) = false := by simpa using hd
  have hfind : (contents n 3 s).find? (fun t => !(slice n s).deferred.contains (3, t.what)) = some (ownTxop 1) := by
    rw [hl, List.find?_cons, show (ownTxop 1).what = 1 from rfl, hfree]
    rfl
  unfold requestTx
  rw [hst]
  dsimp only
  rw [hfind]
  exact if_neg (ne_true_of_eq_false hfree)

/-- On a free medium, a beacon's request begins its TXOP. -/
theorem requestTx_starts (hst : (slice n s).state = .ready) (hb : (mac n s).beaconWaits = true) (hx : txBlocked (slice n s) = false)
    (hh : nstrHeld n s = false) (hm : mediumFree n s = true) : requestTx n 3 s = startTxop n (ownTxop 1) s := by
  obtain ⟨l, hl⟩ := contents_beacon hb
  have hc : content n 3 s = some (ownTxop 1) := by rw [content, hl]; rfl
  unfold requestTx
  rw [hst]
  dsimp only
  rw [hc]
  dsimp only
  rw [hx, hh, hm]
  rfl

theorem startTxop_beacon {c : Channel} (hst : (slice n s).state = .ready) (hc : (slice n s).channel = some c) :
    startTxop n (ownTxop 1) s = markUse (onMac n (fun m => { m with txop := some { ownTxop 1 with
      since := runTime s, cover := (c.width, idleMask c (mac n s).cca &&& unpunctured c) } }) s) := by
  have ht : tuned n s = some c := by rw [tuned, hst]; exact hc
  unfold startTxop
  rw [ht]
  rfl

end

/-- Settles O31, from a slice's moves for radar, the aborts of TX_TMO, and the requests of a beacon. -/
theorem radarAndMediumRows : Obligations.RadarAndMediumRows := by
  intro n s hn
  refine ⟨?_, ?_, ?_, ?_, ?_, ?_, ?_, ?_⟩
  · intro tune c hc hd hst hm
    obtain ⟨⟨b, hx⟩, hplan, hside⟩ := radarDetected_ready (s := start s) (tune := tune) hn hc hd hst hm
    refine ⟨_, rfl, ?_, ?_, ?_, ?_, congrArg Plan.txops hplan, hside⟩
    · rw [hx]; rfl
    · rw [hx]; rfl
    · rw [hx]; exact hc
    · rw [hx]; exact hst
  · intro tune c hc hd
    exact congrArg Host.Outcome.next (radarDetected_other (s := start s) hc hd)
  · intro tune c hm hc ht
    exact ⟨_, rfl, radarMoves_waits (s := start s) hn hm hc ht⟩
  · intro width centre
    rfl
  · intro ac e he
    refine congrArg Host.Outcome.next ?_
    dsimp only
    rw [show (slice n (start s)).deferred.find? (fun e => e.1 == ac) = some e from he]
  · intro hx hg
    obtain ⟨hpart, htx, hco, hside⟩ := txTimeout_spec (s := start s) hn hx hg
    exact ⟨_, rfl, congrArg (·.1) hpart, congrArg (·.2.1) hpart, congrArg (·.2.2) hpart, htx, hco, hside⟩
  · intro cca hst hb hd
    refine congrArg Host.Outcome.next ?_
    have hw : (mac n (noteCca n cca (start s))).beaconWaits = true := by
      rw [noteCca, mac_onMac _ _ hn]
      exact hb
    exact (backoffEnd_voice hw).trans (requestTx_defers (s := noteCca n cca (start s)) hst hw hd)
  · intro cca c hst hc hb hx hh hf
    refine congrArg Host.Outcome.next ?_
    have hm : mac n (noteCca n cca (start s)) = { mac n s with cca := cca } := mac_onMac (fun m => { m with cca := cca }) (start s) hn
    have hw : (mac n (noteCca n cca (start s))).beaconWaits = true := by
      rw [hm]
      exact hb
    have hh' : nstrHeld n (noteCca n cca (start s)) = false := (nstrHeld_noteCca (s := start s) hn cca).trans hh
    rw [backoffEnd_voice hw, requestTx_starts (s := noteCca n cca (start s)) hst hw hx hh' hf,
      startTxop_beacon (s := noteCca n cca (start s)) hst hc, hm]
    exact congrArg markUse (onMac_onMac hn _ (fun m => { m with cca := cca }) (start s))

end Sys2Proof.Machine
end

section
/-! PROOF. The frames and removals that a transmit lock ends leave the radio as it is (chapters 02 and 05). -/
namespace Sys2Proof.Machine
set_option Elab.async false

/-! ### The rules of the state's groups -/

section
variable {s t : State}

theorem foldl_radio {α : Type} {g : State → α → State} (hg : ∀ t x, (g t x).radio = t.radio) (l : List α) (s : State) :
    (l.foldl g s).radio = s.radio := by
  induction l generalizing s with
  | nil => rfl
  | cons x l ih => exact (ih (g s x)).trans (hg s x)

theorem ite_radio {a : State} {c : Prop} [Decidable c] (hs : s.radio = a.radio) (ht : t.radio = a.radio) :
    (if c then s else t).radio = a.radio := by
  split
  · exact hs
  · exact ht

@[simp] theorem cfgDrop_radio (f) : (cfgDrop f s).radio = s.radio := rfl
@[simp] theorem raise_radio (c p) : (raise c p s).radio = s.radio := (raise_link c p s).radio
@[simp] theorem post_radio (v c t st d) : (post v c t st d s).radio = s.radio := (post_link v c t st d s).radio
@[simp] theorem endAsync_radio (a st p) : (endAsync a st p s).radio = s.radio := (endAsync_link a st p s).radio

/-! ### Cells, frames and pauses -/

@[simp] theorem settleShapers_radio : (settleShapers s).radio = s.radio := rfl
@[simp] theorem freeCells_radio (b n) : (freeCells b n s).radio = s.radio := by
  unfold freeCells
  exact ite_radio rfl rfl

theorem countPort_radio (p i n) : (countPort p i n s).radio = s.radio := by
  unfold countPort
  exact ite_radio rfl rfl

theorem owePause_radio (p m q) : (owePause p m q s).radio = s.radio := by
  unfold owePause
  exact ite_radio rfl (ite_radio rfl (countPort_radio _ _ _))

theorem settlePriority_radio (p k) : (settlePriority p k s).radio = s.radio := by
  unfold settlePriority
  exact ite_radio (owePause_radio _ _ _) (ite_radio (owePause_radio _ _ _) rfl)

theorem settleXoff_radio : (settleXoff s).radio = s.radio :=
  foldl_radio (fun t _ => foldl_radio (fun _ _ => settlePriority_radio _ _) _ t) _ s

theorem freeFrame_radio (f) : (freeFrame f s).radio = s.radio := by
  unfold freeFrame
  exact ite_radio (settleXoff_radio.trans (ite_radio rfl rfl)) rfl

@[simp] theorem injectFate_radio (e st n) : (injectFate e st n s).radio = s.radio := (macsKept_injectFate (.refl s)).1
@[simp] theorem dropMpdus_radio (h f st) : (dropMpdus h f st s).2.radio = s.radio := (macsKept_dropMpdus (.refl s)).1

theorem endFrame_radio (q f st) : (endFrame q f st s).radio = s.radio :=
  (injectFate_radio _ _ _).trans ((freeFrame_radio f).trans rfl)

@[simp] theorem dropFrames_radio (q st) : (dropFrames q st s).2.radio = s.radio :=
  (foldl_radio (fun _ _ => endFrame_radio _ _ _) _ _).trans rfl

theorem drzEnd_radio (f st) : (drzEnd f st s).radio = s.radio := by
  unfold drzEnd
  dsimp only
  split
  · rfl
  · exact endAsync_radio _ _ _

theorem drzLeave_radio (f) : (drzLeave f s).radio = s.radio := freeCells_radio _ _

theorem drzDrop_radio (f st) : (drzDrop f st s).2.radio = s.radio :=
  (foldl_radio (fun _ g => (drzEnd_radio g st).trans ((drzLeave_radio g).trans rfl)) _ _).trans rfl

/-! ### Removals -/

theorem eraseDrops_radio (h) : (eraseDrops h s).2.radio = s.radio := by
  unfold eraseDrops
  split
  · exact dropMpdus_radio _ _ _
  split
  · dsimp only
    split
    · exact dropFrames_radio _ _
    · rfl
  · split
    · exact drzDrop_radio _ _
    · rfl

theorem eraseSlot_radio (h) : (eraseSlot h s).radio = s.radio := by
  unfold eraseSlot
  exact ite_radio (eraseDrops_radio _) ((raise_radio _ _).trans (eraseDrops_radio _))

@[simp] theorem eraseHeld_radio (l) : (eraseHeld l s).radio = s.radio :=
  foldl_radio (fun _ _ => ite_radio (eraseSlot_radio _) rfl) l s

@[simp] theorem cumulusDown_radio (h r) : (cumulusDown h r s).radio = s.radio := by
  unfold cumulusDown
  split
  · rfl
  · exact ite_radio (raise_radio _ _) rfl

theorem accounting_radio (h k) : (accounting h k s).radio = s.radio := by
  unfold accounting
  split
  · rfl
  · refine ite_radio ?_ rfl
    split <;> rfl

@[simp] theorem tearDownTwts_radio (h) : (tearDownTwts h s).radio = s.radio :=
  (foldl_radio (fun _ _ => raise_radio _ _) _ _).trans rfl

@[simp] theorem detachObject_radio (o) : (detachObject o s).radio = s.radio := rfl
@[simp] theorem detachSource_radio (h) : (detachSource h s).radio = s.radio := rfl
@[simp] theorem macForget_radio (h) : (macForget h s).radio = s.radio := rfl
@[simp] theorem forwardForget_radio (h) : (forwardForget h s).radio = s.radio := rfl
@[simp] theorem crownForget_radio (h) : (crownForget h s).radio = s.radio := rfl

@[simp] theorem removeStation_radio (h c r) : (removeStation h c r s).radio = s.radio := by
  simp only [removeStation, apply_ite State.radio, settleShapers_radio, raise_radio, onAir_radio, detachSource_radio, detachObject_radio,
    macForget_radio, forwardForget_radio, crownForget_radio, onModem_radio, cumulusDown_radio, dropMpdus_radio, eraseHeld_radio,
    tearDownTwts_radio, accounting_radio, ite_self]

@[simp] theorem answerAborts_radio (c t st) : (answerAborts c t st s).radio = s.radio :=
  (foldl_radio (fun _ _ => post_radio _ _ _ _ _) _ _).trans rfl

@[simp] theorem endDisconnect_radio (h st) : (endDisconnect h st s).radio = s.radio := by
  unfold endDisconnect
  split
  · rfl
  · rw [endAsync_radio, answerAborts_radio]

theorem loseLink_radio (n h) : (loseLink n h s).radio = s.radio := by
  unfold loseLink
  split
  · rfl
  · refine ite_radio ?_ (raise_radio _ _)
    exact (endDisconnect_radio _ _).trans (removeStation_radio _ _ _)

theorem finishDelete_radio (b) : (finishDelete b s).radio = s.radio := by
  unfold finishDelete
  split
  · rfl
  case h_2 x hx =>
    dsimp only
    split
    · simp only [endAsync_radio, answerAborts_radio, onAir_radio, cfgDrop_radio, onSec_radio, onMls_radio, detachObject_radio, dropFrames_radio,
        foldl_radio (fun _ _ => loseLink_radio _ _), eraseHeld_radio]
    · simp only [onAir_radio, cfgDrop_radio, onSec_radio, onMls_radio, detachObject_radio, dropFrames_radio,
        foldl_radio (fun _ _ => loseLink_radio _ _), eraseHeld_radio]

theorem settleDeletes_radio : (settleDeletes s).radio = s.radio :=
  foldl_radio (fun _ _ => ite_radio rfl (finishDelete_radio _)) _ s

/-! ### Management frames, and what a lock ends -/

theorem mgmtEnd_radio (n f st) : (mgmtEnd n f st s).radio = s.radio := by
  unfold mgmtEnd
  dsimp only
  split
  · exact settleDeletes_radio.trans ((endDisconnect_radio _ _).trans (removeStation_radio _ _ _))
  · split
    · rfl
    · exact ite_radio rfl (finishDelete_radio _)
  · rfl

/-- A lock of a slice's transmission leaves the radio. -/
theorem lockedFrames_radio (n) : (lockedFrames n s).radio = s.radio := by
  refine (foldl_radio (fun t e => ite_radio rfl (macsKept_lockedStation (.refl t)).1) _ _).trans (foldl_radio (fun t f => ?_) _ s)
  split
  · rfl
  · exact mgmtEnd_radio _ _ _

end
end Sys2Proof.Machine
end

section
/-! PROOF. Changes of channel (chapter 02, tuning). -/
namespace Sys2Proof.Machine
set_option Elab.async false

/-! ### Events leave FAULT_CODE -/

section
variable {s : State}

theorem msix_faultCode (v) : (msix v s).mbox.faultCode = s.mbox.faultCode := by
  unfold msix
  split
  · rfl
  · split <;> rfl

theorem setDoorbell_faultCode (b) : (setDoorbell b s).mbox.faultCode = s.mbox.faultCode := by
  unfold setDoorbell
  dsimp only
  split
  · exact msix_faultCode _
  · rfl

theorem record_faultCode (c p a b e x) : (record c p a b e x s).mbox.faultCode = s.mbox.faultCode := by
  unfold record enqueueOcc
  split <;> rfl

theorem writeEvent_faultCode (e) : (writeEvent e s).mbox.faultCode = s.mbox.faultCode := setDoorbell_faultCode _

theorem flushPcie_faultCode (l) : (flushPcie l s).mbox.faultCode = s.mbox.faultCode := by
  induction l generalizing s with
  | nil => rfl
  | cons e l ih =>
    rw [flushPcie]
    split
    · rfl
    · exact ih.trans (writeEvent_faultCode e)

theorem reportLostPcie_faultCode : (reportLostPcie s).mbox.faultCode = s.mbox.faultCode := by
  unfold reportLostPcie
  split
  · rfl
  · exact (record_faultCode ..).trans (writeEvent_faultCode _)

theorem toPcie_faultCode (e) : (toPcie e s).mbox.faultCode = s.mbox.faultCode := by
  have hf : (flushPcie (reportLostPcie s).mbox.pcieQueue (reportLostPcie s)).mbox.faultCode = s.mbox.faultCode :=
    (flushPcie_faultCode _).trans reportLostPcie_faultCode
  unfold toPcie
  split
  · rfl
  · dsimp only
    split
    · exact (writeEvent_faultCode e).trans hf
    · split <;> exact hf

theorem sendAll_faultCode (mac : Nat) (l : List Event) :
    (l.foldl (fun st e => emit (.ump mac (eventMessage st e)) st) s).mbox.faultCode = s.mbox.faultCode := by
  induction l generalizing s with
  | nil => rfl
  | cons e l ih => exact ih

theorem flushSink_faultCode (m) : (flushSink m s).mbox.faultCode = s.mbox.faultCode := by
  unfold flushSink
  split
  · rfl
  · refine (sendAll_faultCode m _).trans ?_
    split
    · rfl
    · exact record_faultCode ..

theorem toSink_faultCode (e) : (toSink e s).mbox.faultCode = s.mbox.faultCode := by
  unfold toSink
  split
  · rfl
  · split
    · rfl
    · split
      · exact flushSink_faultCode _
      · split <;> rfl

theorem deliver_faultCode (e) : (deliver e s).mbox.faultCode = s.mbox.faultCode := (toSink_faultCode e).trans (toPcie_faultCode e)

theorem raise_faultCode (c p) : (raise c p s).mbox.faultCode = s.mbox.faultCode := (record_faultCode ..).trans (deliver_faultCode _)

theorem endAsync_faultCode (a st p) : (endAsync a st p s).mbox.faultCode = s.mbox.faultCode := (record_faultCode ..).trans (deliver_faultCode _)

/-- A lasting fault that sets FAULT_CODE sets it to its code. -/
theorem lastingFault_faultCode (c p) : (lastingFault c p true s).mbox.faultCode = c := by
  unfold lastingFault setFault
  exact setDoorbell_faultCode _

end

/-! ### What does not touch the slices -/

/-- The slices and FAULT_CODE are as they were, and only the radio's side has changed. -/
def SlicesKept (s t : State) : Prop := RadioSide s t ∧ t.radio.slices = s.radio.slices ∧ t.mbox.faultCode = s.mbox.faultCode

section
variable {s t w : State}

theorem SlicesKept.refl (s : State) : SlicesKept s s := ⟨rfl, rfl, rfl⟩

theorem SlicesKept.trans (h : SlicesKept s t) (k : SlicesKept t w) : SlicesKept s w := by
  obtain ⟨h1, h2, h3⟩ := h
  obtain ⟨k1, k2, k3⟩ := k
  exact ⟨h1.trans k1, k2.trans h2, k3.trans h3⟩

theorem SlicesKept.foldl {α : Type} {g : State → α → State} (hg : ∀ t x, SlicesKept t (g t x)) (l : List α) (s : State) :
    SlicesKept s (l.foldl g s) := by
  induction l generalizing s with
  | nil => exact .refl s
  | cons x l ih => exact (hg s x).trans (ih _)

theorem SlicesKept.slice (h : SlicesKept s t) (n : Nat) : slice n t = slice n s := congrArg (Tri.get · n) h.2.1

theorem LinkOnly.slicesKept (h : LinkOnly s t) (hf : t.mbox.faultCode = s.mbox.faultCode) : SlicesKept s t :=
  ⟨h.radioSide, by rw [h.radio], hf⟩

theorem slicesKept_raise (c p) (s : State) : SlicesKept s (raise c p s) := (raise_link c p s).slicesKept (raise_faultCode c p)

theorem slicesKept_endAsync (a st p) (s : State) : SlicesKept s (endAsync a st p s) := (endAsync_link a st p s).slicesKept (endAsync_faultCode a st p)

theorem slicesKept_onPair (a b f) (s : State) : SlicesKept s (onPair a b f s) := ⟨rfl, rfl, rfl⟩

theorem slicesKept_onHalo (a b f) (s : State) : SlicesKept s (onHalo a b f s) := by
  unfold onHalo
  split <;> exact ⟨rfl, rfl, rfl⟩

theorem slicesKept_haloChange (n : Nat) (s : State) : SlicesKept s (haloChange n s) :=
  .foldl (fun t _ => ((slicesKept_onHalo _ _ _ t).trans (slicesKept_onHalo _ _ _ _)).trans (slicesKept_onPair _ _ _ _)) _ s

theorem slicesKept_commitShared (s : State) : SlicesKept s (commitShared s) :=
  (SlicesKept.foldl (fun _ _ => slicesKept_onPair _ _ _ _) allPairs s).trans ⟨rfl, rfl, rfl⟩

theorem slicesKept_startShared (s : State) : SlicesKept s (startShared s) :=
  (SlicesKept.foldl (fun _ _ => slicesKept_onPair _ _ _ _) allPairs s).trans ⟨rfl, rfl, rfl⟩

theorem CrownSide.slicesKept (h : CrownSide s t) : SlicesKept s t := by
  refine ⟨?_, ?_, ?_⟩
  · rw [RadioSide, h]
  · rw [h]
  · rw [h]

theorem slicesKept_windowsFollow (s : State) : SlicesKept s (windowsFollow s) := by
  unfold windowsFollow
  dsimp only
  split
  · exact ⟨rfl, rfl, rfl⟩
  split
  · have hc : SlicesKept (startShared (commitShared s)) (commitCrown s.mls.settings (startShared (commitShared s))) :=
      SlicesKept.trans (t := onMls (fun m => { m with committed := s.mls.settings }) (startShared (commitShared s)))
        ⟨rfl, rfl, rfl⟩ (commitCrown_side _).slicesKept
    have hk := ((slicesKept_commitShared s).trans (slicesKept_startShared _)).trans hc
    generalize commitCrown s.mls.settings (startShared (commitShared s)) = u at hk
    exact hk.trans ⟨rfl, rfl, rfl⟩
  · exact .refl s

theorem slicesKept_endSetChannel (n st p r) (s : State) : SlicesKept s (endSetChannel n st p r s) := by
  unfold endSetChannel
  split
  · exact .refl s
  case h_2 a ha =>
    have he : SlicesKept s (endAsync { a with retried := r } st p (setAsync a { a with retried := r } s)) :=
      SlicesKept.trans (t := setAsync a { a with retried := r } s) ⟨rfl, rfl, rfl⟩ (slicesKept_endAsync _ _ _ _)
    dsimp only
    split
    · exact he
    · exact he.trans ⟨rfl, rfl, rfl⟩

theorem slicesKept_runReached (s : State) : SlicesKept s (runReached s) := by
  unfold runReached
  split
  · exact .refl s
  · have hr : SlicesKept s (raise 0x0101 (statePayload 1 0 0 s) (onPower (fun p => { p with changing := false, target := none }) s)) :=
      SlicesKept.trans (t := onPower (fun p => { p with changing := false, target := none }) s) ⟨rfl, rfl, rfl⟩ (slicesKept_raise _ _ _)
    dsimp only
    split
    · exact hr.trans (slicesKept_endAsync _ _ _ _)
    · exact hr

end

/-! ### What entering a state changes of a slice -/

/-- A slice with other fields of its receiver and its capture. -/
def ReceptionChanged (x y : Slice) : Prop :=
  y = { x with rx := y.rx, reception := y.reception, preset := y.preset, acqNow := y.acqNow, lnaBypass := y.lnaBypass, femCtl := y.femCtl
               lastRx := y.lastRx, rxVector := y.rxVector, counters := y.counters, capture := y.capture, radarMove := y.radarMove }

theorem ReceptionChanged.refl (x : Slice) : ReceptionChanged x x := rfl

theorem ReceptionChanged.trans {x y z : Slice} (h : ReceptionChanged x y) (k : ReceptionChanged y z) : ReceptionChanged x z := by
  unfold ReceptionChanged at *
  rw [k, h]

section
variable {n : Nat} {s t : State}

theorem slice_of_radio (hr : t.radio = s.radio) : slice n t = slice n s := congrArg (fun r : Radio => r.slices.get n) hr

theorem ReceptionChanged.onSlice (hn : n < 3) {f : Slice → Slice} (hf : ∀ x, ReceptionChanged x (f x)) (s : State) :
    ReceptionChanged (slice n s) (slice n (Machine.onSlice n f s)) := by
  rw [slice_onSlice _ _ hn]
  exact hf _

theorem cutReception_changes (hn : n < 3) (cause : Nat) (s : State) : let t := cutReception n cause s
    ReceptionChanged (slice n s) (slice n t) ∧ RadioSide s t ∧ mac n t = mac n s := by
  unfold cutReception
  split
  · exact ⟨.refl _, .refl s, rfl⟩
  case h_2 r hr =>
    dsimp only
    have hw : ∀ w, w = (if r.delivered = 0 then s else markEnd n r.stamp cause s) → slice n w = slice n s ∧ RadioSide s w ∧ mac n w = mac n s := by
      rintro w rfl
      split
      · exact ⟨rfl, rfl, rfl⟩
      · exact ⟨rfl, rfl, rfl⟩
    generalize (if r.delivered = 0 then s else markEnd n r.stamp cause s) = w at hw
    obtain ⟨h1, h2, h3⟩ := hw w rfl
    refine ⟨?_, h2.onSlice n _, h3⟩
    rw [← h1]
    refine .onSlice hn ?_ w
    exact fun _ => rfl

theorem toSearch_spec (hn : n < 3) (s : State) : ReceptionChanged (slice n s) (slice n (toSearch n s)) ∧ RadioSide s (toSearch n s) := by
  obtain ⟨v, hv⟩ := driveFem_slice (s := s) hn (searching n s)
  refine ⟨?_, driveFem_side (n := n) (searching n s) (.refl s)⟩
  rw [toSearch_of, hv]
  rfl

theorem endCapture_spec (hn : n < 3) (s : State) : ReceptionChanged (slice n s) (slice n (endCapture n s)) ∧ RadioSide s (endCapture n s) := by
  have hs : ReceptionChanged (slice n s) (slice n (onSlice n (fun x => { x with capture := none }) s)) :=
    .onSlice hn (f := fun x => { x with capture := none }) (fun _ => rfl) s
  unfold endCapture
  dsimp only
  split
  · have hk := slicesKept_endAsync ‹AsyncCmd› ST.badState [] (onSlice n (fun x => { x with capture := none }) s)
    rw [hk.slice]
    exact ⟨hs, RadioSide.trans (t := onSlice n (fun x => { x with capture := none }) s) rfl hk.1⟩
  · exact ⟨hs, rfl⟩

/-- A slice without requests for the synthesiser or a move for radar. -/
def requestsEnded (x : Slice) : Slice := { x with deferred := [], radarMove := false, preset := none }

/-- What leaving READY ends behind a slice's reception and its PPDU. -/
def workEnded (n : Nat) (s : State) : State :=
  let s := onMac n (fun m => { m with txop := none, response := none, navIntra := 0, navBasic := 0, beaconWaits := false, cca := [] }) s
  let s := onSlice n requestsEnded s
  let s := onMac n (fun m => { m with mgmt := m.mgmt.filter fun f => !isCsa f }) s
  let s := onAir (fun a => { a with bss := Tab.mapVals (fun b => if b.slice = n then { b with csaCount := 0 } else b) a.bss }) s
  let s := onModem (fun m => { m with soft := m.soft.filter fun e => e.slice != n }) s
  markUse (onMls (fun m => { m with plan := planWithoutSlice n m.plan, next := m.next.map (planWithoutSlice n) }) s)

theorem workEnded_slice (hn : n < 3) (s : State) : slice n (workEnded n s) = requestsEnded (slice n s) := by
  have hr : (workEnded n s).radio = (onSlice n requestsEnded s).radio := by
    unfold workEnded markUse
    simp only [onMls_radio, onModem_radio, onAir_radio, onMac_radio]
    rfl
  rw [slice_of_radio hr]
  exact slice_onSlice requestsEnded s hn

theorem workEnded_side (n : Nat) (s : State) : RadioSide s (workEnded n s) := by
  have hmac : ∀ f g, RadioSide s (onMac n g (onSlice n requestsEnded (onMac n f s))) := fun f g =>
    (((RadioSide.refl s).onMac n f).onSlice n requestsEnded).onMac n g
  have hmodem : ∀ t f, RadioSide s t → RadioSide s (onModem f t) := fun t f h => h.trans rfl
  have hmark : ∀ t, RadioSide s t → RadioSide s (markUse t) := fun t h => h.trans rfl
  unfold workEnded
  refine hmark _ (RadioSide.onMls ?_ _)
  refine hmodem _ _ (RadioSide.onAir ?_ _)
  exact hmac _ _

theorem leaveReady_of (n : Nat) (s : State) : leaveReady n false s =
    workEnded n (if (slice n (cutReception n 3 s)).tx.isSome then cutReception n 3 s else releaseFixed n (cutReception n 3 s)) := by
  unfold leaveReady
  dsimp only
  rw [if_neg Bool.false_ne_true]
  rfl

/-- Leaving READY ends a slice's reception and its deferred requests. -/
theorem leaveReady_spec (hn : n < 3) (s : State) : let t := leaveReady n false s
    ReceptionChanged { slice n s with deferred := [] } (slice n t) ∧ ((mac n s).fixed = none → RadioSide s t) := by
  obtain ⟨hx, hside, hmac⟩ := cutReception_changes hn 3 s
  dsimp only
  rw [leaveReady_of]
  generalize cutReception n 3 s = u at hx hside hmac
  have hr : (if (slice n u).tx.isSome then u else releaseFixed n u).radio = u.radio := ite_radio rfl (releaseFixed_kept hn u).1
  have hid : (mac n s).fixed = none → (if (slice n u).tx.isSome then u else releaseFixed n u) = u := fun hf => by
    rw [show releaseFixed n u = u by unfold releaseFixed; rw [hmac, hf]]
    exact ite_self u
  generalize (if (slice n u).tx.isSome then u else releaseFixed n u) = v at hr hid
  refine ⟨?_, fun hf => ?_⟩
  · rw [workEnded_slice hn, slice_of_radio hr]
    unfold ReceptionChanged at *
    rw [hx]
    rfl
  · rw [hid hf]
    exact hside.trans (workEnded_side n u)

/-- A slice in another state, with other requests for the synthesiser. -/
def stateIs (st : SliceState) (d : List (Nat × Nat)) (k : Nat) (x : Slice) : Slice := { x with state := st, deferred := d, nSynth := k }

/-- A slice enters a state: its requests for the synthesiser stay or end, and nothing of its tuning changes. -/
theorem enterState_spec (hn : n < 3) {st : SliceState} (ho : st ≠ .off) (s : State) : let t := enterState n st s
    (∃ d k, ReceptionChanged (stateIs st d k (slice n s)) (slice n t) ∧ ((slice n s).deferred = [] → d = []) ∧
      ((slice n s).state = .tuning → st ≠ .tuning → st ≠ .ready → d = [])) ∧
    ((slice n s).state ≠ .ready ∨ st = .ready ∨ (mac n s).fixed = none → RadioSide s t) ∧
    ((slice n s).state = .tuning → t.mbox.faultCode = s.mbox.faultCode) := by
  have hl : ∀ u, u = (if (slice n s).state = .ready && st != .ready then leaveReady n (st == .off) s else s) →
      (∃ d, ReceptionChanged { slice n s with deferred := d } (slice n u) ∧ ((slice n s).deferred = [] → d = [])) ∧
      ((slice n s).state ≠ .ready ∨ st = .ready ∨ (mac n s).fixed = none → RadioSide s u) ∧
      ((slice n s).state = .tuning → u = s) := by
    rintro u rfl
    rw [show (st == SliceState.off) = false from beq_eq_false_iff_ne.mpr ho]
    split
    case isTrue hc =>
      obtain ⟨hx, hside⟩ := leaveReady_spec hn s
      obtain ⟨hwas, hst⟩ := by simpa using hc
      refine ⟨⟨[], hx, fun _ => rfl⟩, ?_, fun h => ?_⟩
      · rintro (h | h | h)
        · exact absurd hwas h
        · exact absurd h hst
        · exact hside h
      · rw [hwas] at h
        cases h
    case isFalse => exact ⟨⟨(slice n s).deferred, rfl, id⟩, fun _ => .refl s, fun _ => rfl⟩
  unfold enterState
  dsimp only
  generalize (if (slice n s).state = .ready && st != .ready then leaveReady n (st == .off) s else s) = u at hl
  obtain ⟨⟨d, hx, hd⟩, hside, hsame⟩ := hl u rfl
  have hf : ∀ v, v = (if (slice n s).state = .tuning && st != .tuning && st != .ready then failDeferred n u else u) →
      (∃ d k, ReceptionChanged { slice n s with deferred := d, nSynth := k } (slice n v) ∧ ((slice n s).deferred = [] → d = []) ∧
        ((slice n s).state = .tuning → st ≠ .tuning → st ≠ .ready → d = [])) ∧
      RadioSide u v ∧ v.mbox = u.mbox := by
    rintro v rfl
    split
    case isTrue =>
      refine ⟨⟨[], addWrap 32 (slice n u).nSynth (slice n u).deferred.length, ?_, fun _ => rfl, fun _ _ _ => rfl⟩, rfl, rfl⟩
      rw [failDeferred, slice_onSlice _ _ hn]
      unfold ReceptionChanged at *
      rw [hx]
    case isFalse hc =>
      refine ⟨⟨d, (slice n s).nSynth, hx, hd, fun h h1 h2 => ?_⟩, .refl u, rfl⟩
      simp [h, h1, h2] at hc
  generalize (if (slice n s).state = .tuning && st != .tuning && st != .ready then failDeferred n u else u) = v at hf
  obtain ⟨⟨d, k, hx, hd, hd'⟩, hside', hbox⟩ := hf v rfl
  have hy : ReceptionChanged (stateIs st d k (slice n s)) (slice n (onSlice n (fun x => { x with state := st }) v)) := by
    rw [slice_onSlice _ _ hn]
    unfold ReceptionChanged at *
    rw [hx]
    rfl
  obtain ⟨hs, hss⟩ := toSearch_spec hn (onSlice n (fun x => { x with state := st }) v)
  have hbox' : (toSearch n (onSlice n (fun x => { x with state := st }) v)).mbox = v.mbox := rfl
  have hside'' := RadioSide.trans (s := v) (t := onSlice n (fun x => { x with state := st }) v) rfl hss
  generalize toSearch n (onSlice n (fun x => { x with state := st }) v) = w at hs hside'' hbox'
  have he : ∀ z, z = (if ((slice n s).state == .ready || (slice n s).state == .cac) && st != .ready && st != .cac then endCapture n w else w) →
      ReceptionChanged (slice n w) (slice n z) ∧ RadioSide w z ∧ ((slice n s).state = .tuning → z = w) := by
    rintro z rfl
    split
    case isTrue hc =>
      obtain ⟨h1, h2⟩ := endCapture_spec hn w
      refine ⟨h1, h2, fun h => ?_⟩
      simp [h] at hc
    case isFalse => exact ⟨.refl _, .refl w, fun _ => rfl⟩
  generalize (if ((slice n s).state == .ready || (slice n s).state == .cac) && st != .ready && st != .cac then endCapture n w else w) = z at he
  obtain ⟨h1, h2, h3⟩ := he z rfl
  have hk := slicesKept_windowsFollow z
  refine ⟨⟨d, k, ?_, hd, hd'⟩, fun h => ?_, fun h => ?_⟩
  · rw [hk.slice]
    exact (hy.trans hs).trans h1
  · exact (((hside h).trans hside').trans hside'').trans (h2.trans hk.1)
  · rw [hk.2.2, h3 h, hbox', hbox, hsame h]

/-- Where a slice is tuned and what it was asked for, with its temperature. -/
def place (x : Slice) : Option Channel × Option Channel × Option Channel × Option Tuning × Int :=
  (x.channel, x.requested, x.backup, x.tuning, x.temperature)

theorem ReceptionChanged.entered {x y : Slice} {st : SliceState} {d : List (Nat × Nat)} {k : Nat} (h : ReceptionChanged (stateIs st d k x) y) :
    y.state = st ∧ y.deferred = d ∧ place y = place x ∧ txBlocked y = txBlocked x := by
  rw [h]
  exact ⟨rfl, rfl, rfl, rfl⟩

/-- What a slice is as it enters a state. -/
theorem enterState_slice (hn : n < 3) {st : SliceState} (ho : st ≠ .off) (s : State) : let t := enterState n st s
    (slice n t).state = st ∧ place (slice n t) = place (slice n s) ∧ txBlocked (slice n t) = txBlocked (slice n s) ∧
    ((slice n s).deferred = [] → (slice n t).deferred = []) ∧
    ((slice n s).state = .tuning → st ≠ .tuning → st ≠ .ready → (slice n t).deferred = []) := by
  obtain ⟨⟨d, k, hx, hd, hd'⟩, -, -⟩ := enterState_spec hn ho s
  obtain ⟨h1, h2, h3, h4⟩ := hx.entered
  dsimp only
  rw [h2]
  exact ⟨h1, h3, h4, hd, hd'⟩

theorem permitted_of_radio (c : Channel) (hr : t.radio = s.radio) : permitted c t = permitted c s := by
  unfold permitted allowed entriesOf ruleOf
  rw [hr]

/-! ### Calibrations dropped, ports tuned -/

/-- A slice with other calibrations. -/
def CalChanged (x y : Slice) : Prop := y = { x with calQueue := y.calQueue, calJob := y.calJob }

/-- The slice's calibrations have changed, and the link. -/
def CalDropped (n : Nat) (s t : State) : Prop :=
  CalChanged (slice n s) (slice n t) ∧ RadioSide s t ∧ mac n t = mac n s ∧ ∀ c, permitted c t = permitted c s

theorem CalDropped.trans {w : State} (h : CalDropped n s t) (k : CalDropped n t w) : CalDropped n s w := by
  obtain ⟨h1, h2, h3, h4⟩ := h
  obtain ⟨k1, k2, k3, k4⟩ := k
  refine ⟨?_, h2.trans k2, k3.trans h3, fun c => (k4 c).trans (h4 c)⟩
  unfold CalChanged at *
  rw [k1, h1]

theorem LinkOnly.calDropped (n : Nat) (h : LinkOnly s t) : CalDropped n s t := by
  refine ⟨?_, h.radioSide, ?_, fun c => permitted_of_radio c h.radio⟩
  · rw [slice_of_radio h.radio]
    rfl
  · rw [mac, h.air, mac]

theorem CalDropped.onSlice (hn : n < 3) {f : Slice → Slice} (hf : ∀ x, CalChanged x (f x)) (s : State) : CalDropped n s (Machine.onSlice n f s) := by
  refine ⟨?_, rfl, rfl, fun _ => rfl⟩
  rw [slice_onSlice _ _ hn]
  exact hf _

theorem endCal_spec (hn : n < 3) (status gone : Nat) (s : State) : CalDropped n s (endCal n status gone s) := by
  unfold endCal
  split
  · exact ⟨rfl, .refl s, rfl, fun _ => rfl⟩
  · have hj : CalDropped n s (onSlice n (fun x => { x with calJob := none }) s) :=
      .onSlice hn (f := fun x => { x with calJob := none }) (fun _ => rfl) s
    dsimp only
    split
    · exact hj.trans (((setAsync_link _ _ _).trans (endAsync_link _ _ _ _)).calDropped n)
    · exact hj

theorem discardCal_spec (hn : n < 3) (s : State) : CalDropped n s (discardCal n s) :=
  CalDropped.trans (t := onSlice n (fun x => { x with calQueue := [] }) s)
    (.onSlice hn (f := fun x => { x with calQueue := [] }) (fun _ => rfl) s) (endCal_spec hn _ _ _)

/-- A slice's state and place are as they were, and only the radio's side has changed. -/
def PlaceKept (n : Nat) (s t : State) : Prop :=
  RadioSide s t ∧ (slice n t).state = (slice n s).state ∧ place (slice n t) = place (slice n s)

theorem PlaceKept.trans {w : State} (h : PlaceKept n s t) (k : PlaceKept n t w) : PlaceKept n s w := by
  obtain ⟨h1, h2, h3⟩ := h
  obtain ⟨k1, k2, k3⟩ := k
  exact ⟨h1.trans k1, k2.trans h2, k3.trans h3⟩

theorem LinkOnly.placeKept (n : Nat) (h : LinkOnly s t) : PlaceKept n s t := by
  refine ⟨h.radioSide, ?_, ?_⟩ <;> rw [slice_of_radio h.radio]

theorem placeKept_onChain (n i : Nat) (f : Chain → Chain) (s : State) : PlaceKept n s (onChain n i f s) := by
  refine ⟨rfl, sliceField_onSlice Slice.state ?_ n n s, sliceField_onSlice place ?_ n n s⟩
  · exact fun _ => rfl
  · exact fun _ => rfl

theorem placeKept_autoTune (n i : Nat) (r : Nat × Nat × Retry) (s : State) : PlaceKept n s (autoTune n i r s) := by
  unfold autoTune
  dsimp only
  split
  · exact placeKept_onChain n i _ s
  · exact ((transientFault_link _ _ s).placeKept n).trans (placeKept_onChain n i _ _)
  · exact (placeKept_onChain n i _ s).trans ((lastingFault_link _ _ _ _).placeKept n)

theorem placeKept_tuneAll (n : Nat) (tune : List (Nat × Nat × Retry)) (s : State) : PlaceKept n s (tuneAll n tune s) := by
  unfold tuneAll
  generalize List.range 8 = l
  induction l generalizing s with
  | nil => exact ⟨.refl s, rfl, rfl⟩
  | cons i l ih => exact ((placeKept_onChain n i _ s).trans (placeKept_autoTune n i _ _)).trans (ih _)

/-! ### The hop -/

/-- A slice that leaves its channel for another. -/
def hopping (t : Tuning) (c : Channel) (old : Option Channel) (band : Bool) (x : Slice) : Slice :=
  { x with channel := none, last := old, requested := some c, backup := t.backup, radarMove := false, haloWait := true
           tuning := some { t with begun := true, band := band } }

/-- A slice without a channel. -/
def unchannelled (x : Slice) : Slice := { x with tuning := none, channel := none, requested := none, backup := none }

section
variable {k : Tuning} {tune : List (Nat × Nat × Retry)}

theorem beginHop_hops {c : Channel} (hn : n < 3) (ht : (slice n s).tuning = some k) (hc : k.channel = some c) (hp : permitted c s = true) :
    ∃ u old band, CalDropped n s u ∧ beginHop n tune s = haloChange n (tuneAll n tune (enterState n .tuning (onSlice n (hopping k c old band) u))) := by
  have hu := ((passPoint_link 0x0201 (fun a => rd a.payload 0 1 == n) s).calDropped n).trans (discardCal_spec hn _)
  have hf : (k.channel.filter fun c => permitted c (discardCal n (passPoint 0x0201 (fun a => rd a.payload 0 1 == n) s))) = some c := by
    rw [hc, Option.filter_some, hu.2.2.2 c, hp]
    rfl
  unfold beginHop
  rw [ht]
  dsimp only
  rw [hf]
  exact ⟨_, _, _, hu, rfl⟩

theorem beginHop_stops (hn : n < 3) (ht : (slice n s).tuning = some k) (hc : k.channel = none) :
    ∃ u p, CalDropped n s u ∧ beginHop n tune s =
      runReached (endSetChannel n ST.ok p false (haloChange n (enterState n .stopped (onSlice n unchannelled u)))) := by
  have hu := ((passPoint_link 0x0201 (fun a => rd a.payload 0 1 == n) s).calDropped n).trans (discardCal_spec hn _)
  unfold beginHop
  rw [ht]
  dsimp only
  rw [hc]
  exact ⟨_, _, hu, rfl⟩

/-- A hop takes its slice to TUNING, without a channel, on its way to the one asked for. -/
theorem beginHop_tunes {c : Channel} (hn : n < 3) (ht : (slice n s).tuning = some k) (hc : k.channel = some c) (hp : permitted c s = true) :
    let t := beginHop n tune s
    (slice n t).state = .tuning ∧ (∃ band, place (slice n t) = (none, some c, k.backup, some { k with begun := true, band := band }, (slice n s).temperature)) ∧
    ((mac n s).fixed = none → RadioSide s t) := by
  obtain ⟨u, old, band, ⟨hx, hside, hmac, -⟩, he⟩ := beginHop_hops (tune := tune) hn ht hc hp
  dsimp only
  rw [he]
  obtain ⟨h1, h2, -, -, -⟩ := enterState_slice hn (st := .tuning) (by decide) (onSlice n (hopping k c old band) u)
  obtain ⟨-, hes, -⟩ := enterState_spec hn (st := .tuning) (by decide) (onSlice n (hopping k c old band) u)
  obtain ⟨h3, h4, h5⟩ := placeKept_tuneAll n tune (enterState n .tuning (onSlice n (hopping k c old band) u))
  have hh := slicesKept_haloChange n (tuneAll n tune (enterState n .tuning (onSlice n (hopping k c old band) u)))
  have hpl : place (slice n (onSlice n (hopping k c old band) u)) =
      (none, some c, k.backup, some { k with begun := true, band := band }, (slice n s).temperature) := by
    rw [slice_onSlice _ _ hn, hx]
    rfl
  rw [hh.slice]
  refine ⟨h4.trans h1, ⟨band, h5.trans (h2.trans hpl)⟩, fun hf => ?_⟩
  have hf' : (mac n (onSlice n (hopping k c old band) u)).fixed = none := (congrArg SliceMac.fixed hmac).trans hf
  exact ((hside.onSlice n _).trans (hes (.inr (.inr hf')))).trans (h3.trans hh.1)

/-- A slice that is to stop stops. -/
theorem beginHop_stopped (hn : n < 3) (ht : (slice n s).tuning = some k) (hc : k.channel = none) : let t := beginHop n tune s
    (slice n t).state = .stopped ∧ place (slice n t) = (none, none, none, none, (slice n s).temperature) ∧ ((mac n s).fixed = none → RadioSide s t) := by
  obtain ⟨u, p, ⟨hx, hside, hmac, -⟩, he⟩ := beginHop_stops (tune := tune) hn ht hc
  dsimp only
  rw [he]
  obtain ⟨h1, h2, -, -, -⟩ := enterState_slice hn (st := .stopped) (by decide) (onSlice n unchannelled u)
  obtain ⟨-, hes, -⟩ := enterState_spec hn (st := .stopped) (by decide) (onSlice n unchannelled u)
  have hk := ((slicesKept_haloChange n (enterState n .stopped (onSlice n unchannelled u))).trans (slicesKept_endSetChannel n ST.ok p false _)).trans
    (slicesKept_runReached _)
  have hpl : place (slice n (onSlice n unchannelled u)) = (none, none, none, none, (slice n s).temperature) := by
    rw [slice_onSlice _ _ hn, hx]
    rfl
  rw [hk.slice]
  refine ⟨h1, h2.trans hpl, fun hf => ?_⟩
  have hf' : (mac n (onSlice n unchannelled u)).fixed = none := (congrArg SliceMac.fixed hmac).trans hf
  exact ((hside.onSlice n _).trans (hes (.inr (.inr hf')))).trans hk.1

/-! ### The ends of tuning -/

theorem wakeDeferred_nothing (hd : (slice n s).deferred = []) : wakeDeferred n s = onSlice n (fun x => { x with deferred := [] }) s := by
  unfold wakeDeferred
  rw [hd]
  exact if_pos rfl

theorem settleHaloWait_slice (hn : n < 3) (s : State) : ∃ w, slice n (settleHaloWait n s) = { slice n s with haloWait := w } ∧ RadioSide s (settleHaloWait n s) := by
  unfold settleHaloWait
  split
  · exact ⟨false, slice_onSlice (fun x => { x with haloWait := false }) s hn, rfl⟩
  · exact ⟨(slice n s).haloWait, rfl, .refl s⟩

/-- A slice without requests for the synthesiser becomes READY where it is. -/
theorem becomeReady_spec (hn : n < 3) (hd : (slice n s).deferred = []) : let t := becomeReady n s
    (slice n t).state = .ready ∧ place (slice n t) = place (slice n s) ∧ (txBlocked (slice n s) = false → RadioSide s t) := by
  obtain ⟨h1, h2, h3, h4, -⟩ := enterState_slice hn (st := .ready) (by decide) s
  obtain ⟨-, hes, -⟩ := enterState_spec hn (st := .ready) (by decide) s
  unfold becomeReady
  dsimp only
  generalize enterState n .ready s = u at h1 h2 h3 h4 hes
  have hk := slicesKept_raise 0x0208 (leBytes 1 n ++ leBytes 2 (((slice n u).channel.map (·.centre)).getD 0) ++
    leBytes 1 (((slice n u).channel.map (·.width)).getD 0)) u
  generalize raise 0x0208 _ u = v at hk
  have hr : (if txBlocked (slice n v) then lockedFrames n v else v).radio = v.radio := ite_radio (lockedFrames_radio n) rfl
  have hid : txBlocked (slice n s) = false → (if txBlocked (slice n v) then lockedFrames n v else v) = v := fun hb =>
    if_neg (ne_true_of_eq_false (by rw [hk.slice, h3, hb]))
  generalize (if txBlocked (slice n v) then lockedFrames n v else v) = w at hr hid
  obtain ⟨b, hx, hside⟩ := settleHaloWait_slice hn w
  have hw : slice n w = slice n u := (slice_of_radio hr).trans (hk.slice n)
  rw [wakeDeferred_nothing (by rw [hx, hw]; exact h4 hd)]
  refine ⟨?_, ?_, fun hb => ?_⟩
  · rw [slice_onSlice _ _ hn, hx, hw]
    exact h1
  · rw [slice_onSlice _ _ hn, hx, hw]
    exact h2
  · have hwv := hid hb
    exact (((hes (.inr (.inl rfl))).trans hk.1).trans (hwv ▸ hside)).onSlice n _

/-- A slice whose tuning is over. -/
def tunedTo (c : Option Channel) (x : Slice) : Slice := { x with tuning := none, channel := c }

/-- Tuning that is complete enters CAC on a DFS channel, and READY on another; then its command ends. -/
theorem tuningDone_of {c : Channel} (calUs : Nat) (ht : (slice n s).tuning = some k) (hc : k.channel = some c) :
    ∃ p r, tuningDone n calUs s = runReached (if isDfs c s then endSetChannel n ST.ok p r (enterState n .cac (onSlice n (tunedTo (some c)) s))
      else becomeReady n (endSetChannel n ST.ok p r (enterState n .ready (onSlice n (tunedTo (some c)) s)))) := by
  unfold tuningDone
  rw [ht]
  dsimp only
  rw [hc, Option.any_some]
  by_cases hd : isDfs c s = true
  · rw [if_pos hd]
    exact ⟨_, _, congrArg runReached (if_pos hd).symm⟩
  · rw [if_neg hd]
    exact ⟨_, _, congrArg runReached (if_neg hd).symm⟩

/-- Tuning that is complete leaves the slice in CAC or READY on its channel. -/
theorem tuningDone_spec {c : Channel} (calUs : Nat) (hn : n < 3) (ht : (slice n s).tuning = some k) (hc : k.channel = some c)
    (hst : (slice n s).state = .tuning) (hd : (slice n s).deferred = []) : let t := tuningDone n calUs s
    (slice n t).state = (if isDfs c s then .cac else .ready) ∧ (slice n t).channel = some c ∧ (slice n t).tuning = none ∧
    (slice n t).temperature = (slice n s).temperature ∧ (txBlocked (slice n s) = false → RadioSide s t) := by
  obtain ⟨p, r, he⟩ := tuningDone_of calUs ht hc
  have hx := slice_onSlice (tunedTo (some c)) s hn
  have hs : RadioSide s (onSlice n (tunedTo (some c)) s) := rfl
  dsimp only
  rw [he]
  generalize onSlice n (tunedTo (some c)) s = u at hx hs
  have hpl : place (slice n u) = (some c, (slice n s).requested, (slice n s).backup, none, (slice n s).temperature) := by
    rw [hx]
    rfl
  have hne : (slice n u).state ≠ .ready := by
    rw [hx]
    exact fun h => SliceState.noConfusion (hst.symm.trans h)
  have hdu : (slice n u).deferred = [] := by
    rw [hx]
    exact hd
  have hb : txBlocked (slice n u) = txBlocked (slice n s) := by
    rw [hx]
    rfl
  have hgo : ∀ t, (slice n t).state = (if isDfs c s then .cac else .ready) → place (slice n t) = place (slice n u) →
      (txBlocked (slice n s) = false → RadioSide u t) →
      (slice n (runReached t)).state = (if isDfs c s then .cac else .ready) ∧ (slice n (runReached t)).channel = some c ∧
      (slice n (runReached t)).tuning = none ∧ (slice n (runReached t)).temperature = (slice n s).temperature ∧
      (txBlocked (slice n s) = false → RadioSide s (runReached t)) := by
    intro t h1 h2 h3
    have hk := slicesKept_runReached t
    have h := h2.trans hpl
    rw [hk.slice]
    exact ⟨h1, congrArg (·.1) h, congrArg (·.2.2.2.1) h, congrArg (·.2.2.2.2) h, fun hb => (hs.trans (h3 hb)).trans hk.1⟩
  split
  case isTrue hdfs =>
    obtain ⟨h1, h2, -, -, -⟩ := enterState_slice hn (st := .cac) (by decide) u
    obtain ⟨-, hes, -⟩ := enterState_spec hn (st := .cac) (by decide) u
    have hk := slicesKept_endSetChannel n ST.ok p r (enterState n .cac u)
    rw [hdfs, if_pos rfl] at hgo
    refine hgo _ ?_ ?_ fun _ => (hes (.inl hne)).trans hk.1
    · rw [hk.slice]
      exact h1
    · rw [hk.slice]
      exact h2
  case isFalse hdfs =>
    obtain ⟨-, h2, h3, h4, -⟩ := enterState_slice hn (st := .ready) (by decide) u
    obtain ⟨-, hes, -⟩ := enterState_spec hn (st := .ready) (by decide) u
    have hk := slicesKept_endSetChannel n ST.ok p r (enterState n .ready u)
    obtain ⟨h5, h6, h7⟩ := becomeReady_spec (s := endSetChannel n ST.ok p r (enterState n .ready u)) hn (by rw [hk.slice]; exact h4 hdu)
    rw [hk.slice] at h6 h7
    rw [if_neg hdfs] at hgo
    exact hgo _ h5 (h6.trans h2) fun hx => ((hes (.inl hne)).trans hk.1).trans (h7 (h3.trans (hb.trans hx)))

/-- Tuning that fails lastingly leaves the slice in FAULT without a channel. -/
theorem tuningFails_spec (hn : n < 3) (ht : (slice n s).tuning = some k) (hst : (slice n s).state = .tuning) (cause kind calUs : Nat) :
    let t := tuningFails n cause kind calUs s
    (slice n t).state = .fault ∧ (slice n t).channel = none ∧ (slice n t).tuning = none ∧ (slice n t).deferred = [] ∧ t.mbox.faultCode = 0x020A ∧
    RadioSide s t := by
  unfold tuningFails
  rw [ht]
  dsimp only
  have hl := lastingFault_link 0x020A (faultPayload n cause kind) true s
  have hf := lastingFault_faultCode (s := s) 0x020A (faultPayload n cause kind)
  generalize lastingFault 0x020A (faultPayload n cause kind) true s = u at hl hf
  have hx : slice n (onSlice n (fun x => { x with tuning := none, channel := none }) u) = { slice n s with tuning := none, channel := none } := by
    rw [slice_onSlice _ _ hn, slice_of_radio hl.radio]
  have hside : RadioSide s (onSlice n (fun x => { x with tuning := none, channel := none }) u) := hl.radioSide.onSlice n _
  have hbox : (onSlice n (fun x => { x with tuning := none, channel := none }) u).mbox.faultCode = 0x020A := hf
  generalize onSlice n (fun x => { x with tuning := none, channel := none }) u = v at hx hside hbox
  have hv : (slice n v).state = .tuning := by
    rw [hx]
    exact hst
  obtain ⟨h1, h2, -, -, h5⟩ := enterState_slice hn (st := .fault) (by decide) v
  obtain ⟨-, hes, hfc⟩ := enterState_spec hn (st := .fault) (by decide) v
  generalize enterState n .fault v = w at h1 h2 h5 hes hfc
  have hk := (slicesKept_endSetChannel n ST.faultLasting (channelDone n k.band k.lockFailed k.lockUs calUs w) false w).trans (slicesKept_runReached _)
  have hpl : place (slice n w) = (none, (slice n s).requested, (slice n s).backup, none, (slice n s).temperature) := by
    rw [h2, hx]
    rfl
  rw [hk.slice]
  have hne : (slice n v).state ≠ .ready := fun h => SliceState.noConfusion (hv.symm.trans h)
  exact ⟨h1, congrArg (·.1) hpl, congrArg (·.2.2.2.1) hpl, h5 hv (by decide) (by decide), hk.2.2.trans ((hfc hv).trans hbox),
    (hside.trans (hes (.inl hne))).trans hk.1⟩

end

/-! ### The lock -/

section
variable {k : Tuning}

/-- A slice whose synthesiser has locked. -/
def lockedAt (lockUs : Nat) (retried : Bool) (x : Slice) : Slice :=
  { x with tuning := x.tuning.map fun t => { t with locked := true, lockUs := lockUs, lockFailed := retried } }

theorem synthLocked_of (lockUs : Nat) (retried : Bool) (hn : n < 3) (ht : (slice n s).tuning = some k) :
    synthLocked n lockUs retried s = if k.band then onSlice n (lockedAt lockUs retried) s else tuningDone n 0 (onSlice n (lockedAt lockUs retried) s) := by
  have hx : (slice n (onSlice n (lockedAt lockUs retried) s)).tuning.any (fun t => t.band) = k.band := by
    rw [slice_onSlice _ _ hn, lockedAt, ht]
    rfl
  unfold synthLocked
  exact (congrArg (fun b : Bool => if b then onSlice n (lockedAt lockUs retried) s else tuningDone n 0 (onSlice n (lockedAt lockUs retried) s)) hx :)

theorem onSlice_lockedAt (lockUs : Nat) (retried : Bool) (ht : (slice n s).tuning = some k) : onSlice n (lockedAt lockUs retried) s =
    onSlice n (fun x => { x with tuning := some { k with locked := true, lockUs := lockUs, lockFailed := retried } }) s := by
  refine onSlice_congr ?_
  rw [lockedAt, ht]
  rfl

theorem onSlice_rdp (n : Nat) (f : Slice → Slice) (s : State) : (onSlice n f s).radio.rdp = s.radio.rdp := rfl

theorem awaitsLock_state (h : awaitsLock n s = true) : (slice n s).state = .tuning := by
  unfold awaitsLock at h
  simpa using (Bool.and_eq_true_iff.mp h).1

theorem awaitsLock_tuning (h : awaitsLock n s = true) : ∃ k, (slice n s).tuning = some k := by
  unfold awaitsLock at h
  obtain ⟨k, hk, -⟩ := (Option.any_eq_true _ _).mp (Bool.and_eq_true_iff.mp h).2
  exact ⟨k, hk⟩

end
end

/-- Settles O30, from what entering a state changes of a slice and the ends of tuning. -/
theorem channelChangeRows : Obligations.ChannelChangeRows := by
  intro n s hn
  refine ⟨?_, ?_, ?_, ?_, ?_, ?_, ?_⟩
  · intro tune k c hm ht hc hp
    obtain ⟨h1, ⟨band, h2⟩, h3⟩ := beginHop_tunes (s := start s) (tune := tune) hn ht hc hp
    refine ⟨_, congrArg Host.Outcome.next (if_pos hm), h1, congrArg (·.1) h2, congrArg (·.2.1) h2, congrArg (·.2.2.1) h2, ?_, h3⟩
    rw [show (slice n (beginHop n tune (start s))).tuning = _ from congrArg (·.2.2.2.1) h2, Option.map_some, hc]
  · intro tune k hm ht hc
    obtain ⟨h1, h2, h3⟩ := beginHop_stopped (s := start s) (tune := tune) hn ht hc
    exact ⟨_, congrArg Host.Outcome.next (if_pos hm), h1, congrArg (·.1) h2, congrArg (·.2.1) h2, congrArg (·.2.2.2.1) h2, h3⟩
  · intro k lockUs hm ht hb
    refine ⟨congrArg Host.Outcome.next ((if_pos hm).trans ?_), congrArg Host.Outcome.next ?_⟩
    · rw [synthLocked_of (s := start s) lockUs false hn ht, if_pos hb, onSlice_lockedAt (s := start s) lockUs false ht]
    · have hl := transientFault_link 0x020A (faultPayload n 0 0) (start s)
      have ht' : (slice n (transientFault 0x020A (faultPayload n 0 0) (start s))).tuning = some k := by
        rw [slice_of_radio hl.radio]
        exact ht
      refine (if_neg ?_).trans ((if_pos rfl).trans ?_)
      · rw [show awaitsLock n (start s) = true from hm]
        decide
      · rw [synthLocked_of lockUs true hn ht', if_pos hb, onSlice_lockedAt lockUs true ht']
  · intro k c lockUs hm ht hb hc hd
    have hx : slice n (onSlice n (lockedAt lockUs false) (start s)) = lockedAt lockUs false (slice n s) := slice_onSlice _ _ hn
    have hs : (slice n s).state = .tuning := awaitsLock_state hm
    obtain ⟨h1, h2, h3, -, h5⟩ := tuningDone_spec (s := onSlice n (lockedAt lockUs false) (start s))
      (k := { k with locked := true, lockUs := lockUs, lockFailed := false }) (c := c) 0 hn
      (by rw [hx, lockedAt, ht]; rfl) hc (by rw [hx]; exact hs) (by rw [hx]; exact hd)
    refine ⟨_, congrArg Host.Outcome.next ((if_pos hm).trans ((synthLocked_of (s := start s) lockUs false hn ht).trans
      (if_neg (ne_true_of_eq_false hb)))), h1, h2, h3, fun hf => ?_⟩
    exact h5 (by rw [hx]; exact hf)
  · intro lockUs hm
    obtain ⟨k, ht⟩ := awaitsLock_tuning hm
    have hx : slice n (onSlice n (fun x => { x with tuning := x.tuning.map fun t => { t with lockFailed := true, lockUs := lockUs } }) (start s)) =
        { slice n s with tuning := (slice n s).tuning.map fun t => { t with lockFailed := true, lockUs := lockUs } } := slice_onSlice _ _ hn
    refine ⟨_, congrArg Host.Outcome.next ((if_neg ?_).trans (if_neg Bool.false_ne_true)), ?_⟩
    · rw [show awaitsLock n (start s) = true from hm]
      decide
    · exact tuningFails_spec (k := { k with lockFailed := true, lockUs := lockUs }) hn (by rw [hx, ht]; rfl)
        (by rw [hx]; exact awaitsLock_state hm) 0 0 0
  · intro k c hw kind calUs temp hst ht hl hb hc hd hne
    have hgo : ¬ (((slice n (start s)).state != .tuning || !((slice n (start s)).tuning.any fun t => t.locked && t.band)) = true) := by
      rw [show (slice n (start s)).state = .tuning from hst, show (slice n (start s)).tuning = some k from ht, Option.any_some, hl, hb]
      decide
    have hx : slice n (onSlice n (fun x => { x with temperature := temp }) (start s)) = { slice n s with temperature := temp } := slice_onSlice _ _ hn
    refine ⟨_, congrArg Host.Outcome.next (if_neg hgo), ?_⟩
    cases hw with
    | ok =>
      obtain ⟨h1, h2, h3, h4, h5⟩ := tuningDone_spec (s := onSlice n (fun x => { x with temperature := temp }) (start s)) (k := k) calUs hn
        (by rw [hx]; exact ht) hc (by rw [hx]; exact hst) (by rw [hx]; exact hd)
      rw [hx] at h4 h5
      exact ⟨h1, h2, h3, h4, h5⟩
    | retried =>
      have hlink := transientFault_link 0x020A (faultPayload n 1 kind) (onSlice n (fun x => { x with temperature := temp }) (start s))
      dsimp only
      generalize hu : transientFault 0x020A (faultPayload n 1 kind) (onSlice n (fun x => { x with temperature := temp }) (start s)) = u at hlink
      have hy : slice n (onSlice n (fun x => { x with tuning := x.tuning.map fun t => { t with calFailed := true } }) u) =
          { slice n s with temperature := temp, tuning := (slice n s).tuning.map fun t => { t with calFailed := true } } := by
        rw [slice_onSlice _ _ hn, slice_of_radio hlink.radio, hx]
      have hdfs : isDfs c (onSlice n (fun x => { x with tuning := x.tuning.map fun t => { t with calFailed := true } }) u) = isDfs c s := by
        unfold isDfs ruleOf
        rw [onSlice_rdp, hlink.radio]
        rfl
      obtain ⟨h1, h2, h3, h4, h5⟩ := tuningDone_spec (s := onSlice n (fun x => { x with tuning := x.tuning.map fun t => { t with calFailed := true } }) u)
        (k := { k with calFailed := true }) (c := c) calUs hn (by rw [hy, ht]; rfl) hc (by rw [hy]; exact hst) (by rw [hy]; exact hd)
      rw [hdfs] at h1
      rw [hy] at h4 h5
      exact ⟨h1, h2, h3, h4, fun hf => (hlink.radioSide.onSlice n _).trans (h5 hf)⟩
    | lasting => exact absurd rfl hne
  · intro hst hd
    obtain ⟨h1, h2, h3⟩ := becomeReady_spec (s := start s) hn hd
    refine ⟨_, congrArg Host.Outcome.next (if_pos ?_), h1, congrArg (·.1) h2, h3⟩
    rw [show (slice n (start s)).state = .cac from hst]
    rfl

end Sys2Proof.Machine
end
